-- ==== Sys2Proof/Word.lean ====
section
/-! DEFINITION. Sys2Proof/Word.lean: the word types of the AZ7240's registers and byte streams. -/

namespace Sys2Proof

/-- A register or a doorbell value: 64 bits (R25). -/
abbrev Word := BitVec 64

/-- One byte of a card, a message or a measured image. -/
abbrev Byte := BitVec 8

/-- Bytes in ascending address order. -/
abbrev Bytes := List Byte

/-- A SHA-384 value: a measurement register (R409) or an image digest (R64). -/
abbrev Digest := BitVec 384

/-- A 256-bit fingerprint (R202) or key. -/
abbrev Word256 := BitVec 256

end Sys2Proof
end

