-- ==== Sys2Proof/Syntax.lean ====
section
/-!
DEFINITION. Sys2Proof/Syntax.lean: the commands of the AZ7240, one constructor of `Instr` for each row of
spec/opcode_table.json, and the types of their operands. The table gives no operands: each operand is what the
sender of the command supplies (log entry 1).
-/

namespace Sys2Proof

/-- The NOR areas that hardware erases on its own (R447, R456). -/
inductive NorArea where
  | eventRing | keyLedger
  deriving DecidableEq, Repr

/-- The channel an authentication or an SPDM request uses (R410, R411). -/
inductive Channel where
  | mctp | control
  deriving DecidableEq, Repr

/-- Who asks the key store for a key (R400). -/
inductive Consumer where
  | dpcCipher | dpcDigest | transport | schedule | selv | mgmtDigest
  deriving DecidableEq, Repr

/-- Where HKDF-Expand-Label writes (R403): a DERIVED slot, or the transmit or receive key and IV of a CONN key set. -/
inductive ExpandDst where
  | derived (slot : BitVec 15)
  | conn (slot : BitVec 15) (setB tx : Bool)
  deriving DecidableEq, Repr

/-- Session levels as an operand (R411). -/
inductive SessLevel where
  | admin | monitor
  deriving DecidableEq, Repr

/-- Hash algorithms as an operand (R407). -/
inductive Hash where
  | sha256 | sha384 | sha512
  deriving DecidableEq, Repr

/-- A Tarren image, as the bytes it is (R458). -/
structure Image where
  bytes : Bytes
  deriving DecidableEq, Repr

/-- One monitor sample (R449). -/
inductive Sensor where
  | voltage (n : Fin 40) (mv : BitVec 16)
  | current (n : Fin 24) (da : BitVec 16)
  | fan (n : Fin 4) (rpm : BitVec 32)
  | chipPower (w : BitVec 16)
  deriving DecidableEq, Repr

/-- What a glitch detector watches (R450). -/
inductive Detector where
  | vddStby | vddCore7 | mgmtRefclk
  deriving DecidableEq, Repr

/-- The PLDM base commands (R448). -/
inductive PldmBase where
  | setTid (tid : BitVec 8)
  | getTid
  | getVersion (type : BitVec 6)
  | getTypes
  | getCommands (type : BitVec 6)
  deriving DecidableEq, Repr

/-- A frame received on the out-of-band port (R448). -/
inductive OobFrame where
  | arp | neighbour | echo | other
  deriving DecidableEq, Repr

/-- The configuration registers of the function (R492, R493). -/
inductive CfgReg where
  | ids | classRevision | subsystem
  /-- the command register: `data` bit 2 is bus mastering -/
  | command
  | bar (n : Fin 6)
  | serialLow | serialHigh
  /-- power-management control: `data` bit 15 is `PME_Status`, bit 8 `PME_En` -/
  | pmControl
  /-- a capability that R492 does not list -/
  | absent
  deriving DecidableEq, Repr

/-- Power states of the function (R496). -/
inductive DState where
  | d0 | d3hot | d3cold
  deriving DecidableEq, Repr

/-- The kinds of service work (R464). -/
inductive WorkKind where
  | exception | adminFabrics | tlsHandshake | collection | dictTraining | replication | fitting | clockServo
  deriving DecidableEq, Repr

/-- The payload of a trace record, by type (R487). -/
inductive TraceItem where
  | sync (pc : BitVec 48)
  | gateOff (pc : BitVec 48) (entered : BitVec 8)
  | gateOn (left : BitVec 8)
  | coreFlow (type : Fin 48) (payload : Word)
  | decision (index : BitVec 32) (tenant : BitVec 12) (class_ : BitVec 2) (accept : Bool) (alt : BitVec 4) (beats : BitVec 13)
  | swap (role : Bool) (gen : BitVec 32)
  | event (code : BitVec 16) (sev : BitVec 3)
  | link (lstate : BitVec 4) (mask : BitVec 6) (hbInOk : Bool) (seq : BitVec 12)
  | ownStep (step : BitVec 8) (group : BitVec 8) (role : BitVec 2)
  | claim (src : BitVec 10) (core : BitVec 4)
  | complete (src : BitVec 10) (core : BitVec 4)
  | beatUse (bytes : BitVec 32) (percent : BitVec 8)
  | keyop (op : BitVec 4) (slot : BitVec 15) (result : BitVec 8)
  deriving DecidableEq, Repr

/-- PTP messages that R95 tells apart: event messages, general messages, and those of the peer-delay mechanism. -/
inductive PtpKind where
  | sync | delayReq | followUp | delayResp | announce | peerDelay | other
  deriving DecidableEq, Repr

/-- A PTP message: its kind, its domain, and its transport: 0 Ethernet, 1 UDP/IPv4, 2 UDP/IPv6 (R95). -/
structure PtpMsg where
  kind : PtpKind
  domain : Nat
  transport : Nat
  deriving DecidableEq, Repr

/-- What lies behind a frame's IP header, as `HEDDLE` sees it (R83). -/
inductive Packet where
  /-- UDP port 4791 with a destination QP, of a reliable connection or QP 1 -/
  | roce (qpn : BitVec 24)
  /-- UDP port 4791 of a UD, UC or XRC service other than QP 1 (R76) -/
  | roceOther (qpn : BitVec 24)
  /-- a TCP segment: remote and local port, whether it is a SYN, and the receive window it advertises (R75) -/
  | tcp (remotePort localPort : BitVec 16) (syn : Bool) (window : Nat := 65535)
  /-- UDP 319 or 320 -/
  | ptpUdp (m : PtpMsg)
  | icmp
  | other
  deriving DecidableEq, Repr

/-- A frame's content behind its VLAN tags (R83). -/
inductive FrameBody where
  | ptp (m : PtpMsg)
  /-- a PFC frame: priorities it names, and whether it pauses or releases them (R73, R75) -/
  | pfc (prios : BitVec 8) (pause : Bool)
  /-- ARP, ND or LLDP -/
  | control
  | ip (dst src : BitVec 128) (p : Packet)
  /-- ESP: the SPI, the extended sequence number, and the inner packet it decrypts to -/
  | esp (dst src : BitVec 128) (spi : BitVec 32) (seq : Word) (inner : Packet)
  | other
  deriving DecidableEq, Repr

/-- A received frame: its port (first lane), what R73 checks of it, and its content. -/
structure Frame where
  port : Fin 64
  /-- IEEE 802.1Q tags, and the VLAN id of the one tag -/
  tags : Nat
  vlan : BitVec 12
  ipBytes : Nat
  /-- an 802.3x PAUSE, a fragment, or IPv6 extension headers -/
  unsupported : Bool
  body : FrameBody
  /-- the packet carries the ECN mark CE -/
  ce : Bool := false
  /-- how many KeyUpdates lie before the keys that protect a TLS record (R82) -/
  epoch : Nat := 0
  /-- a RoCEv2 command capsule whose host asks for SEND with Invalidate: command id and key (R76) -/
  inval : Option (BitVec 16 × BitVec 32) := none
  deriving DecidableEq, Repr

/-- A RoCEv2 acknowledgement (R76). -/
inductive RoceAck where
  | ack
  | nakSequence
  | rnrNak
  | nakFatal
  deriving DecidableEq, Repr

/-- What a host asks for in an ICReq (R78). -/
structure IcReq where
  pfv : BitVec 16
  hpda : BitVec 8
  hdgst : Bool
  ddgst : Bool
  maxr2t : BitVec 32
  deriving DecidableEq, Repr

/-- A TLS ClientHello (R81). -/
structure Hello where
  tls13 : Bool
  /-- offers TLS_AES_128_GCM_SHA256, TLS_AES_256_GCM_SHA384 -/
  suite128 : Bool
  suite256 : Bool
  /-- offers psk_ke, or psk_dhe_ke with a supported group -/
  pskKe : Bool
  dheGroup : Bool
  /-- its PSK identity, if it has one -/
  psk : Option Bytes
  earlyData : Bool
  deriving DecidableEq, Repr

/-- An LBA range: first block and number of blocks. -/
structure LbaRange where
  slba : BitVec 64
  nlb : Nat
  deriving DecidableEq, Repr

/-- Protection-information fields of a command (R114). -/
structure PiReq where
  pract : Bool
  /-- `PRCHK` bits 2, 1, 0: guard, application tag, reference tag -/
  prchk : BitVec 3
  lbat : BitVec 16
  lbatm : BitVec 16
  ilbrt : BitVec 48
  deriving DecidableEq, Repr

/-- Where an I/O command comes from: the connection and its command id. -/
structure CmdFrom where
  conn : Fin 16384
  cid : BitVec 16
  deriving DecidableEq, Repr

/-- What Get Features selects: the value asked for, and dword 11 of the command (R117). -/
structure FeatureSel where
  sel : BitVec 3
  dw11 : BitVec 32
  deriving DecidableEq, Repr

/-- One map delta (R178). -/
inductive Delta where
  | store (chunk goff form : Nat) (old : Option Nat)
  | dedup (chunk goff : Nat) (old : Option Nat)
  | pending (chunk goff : Nat) (old : Option Nat)
  | deallocRange (first count : Nat)
  | copyRange (src dst count : Nat)
  deriving DecidableEq, Repr

/-- A stored form (R226): its header's fields and the plain grain that its payload encrypts. -/
structure Form where
  guard : Word
  chunk : Nat
  /-- 0 raw, 1 Zstandard, 2 Zstandard with dictionary -/
  kind : Nat
  len : Nat
  tenant : Nat
  verified : Bool
  dictPiece : Bool
  dictId : Nat
  plain : Bytes
  /-- the encrypted payload (R227) -/
  sealed : Bytes := []
  deriving DecidableEq, Repr

/-- One entry of a CONTROL record (R243, R378 and the chapters' own subtypes): the subtype and its numbers, in the order of
the entry's layout. -/
structure Ctl where
  sub : Nat
  body : List Nat
  deriving DecidableEq, Repr

/-- One stored form's place in a row: member, offset in 32-byte units, chunk and `LEN32`; whether it moved (R244). -/
structure Placed where
  member : Nat
  off : Nat
  chunk : Nat
  len32 : Nat
  moved : Bool
  deriving DecidableEq, Repr

/-- A ROW_DURABLE body (R244). -/
structure RowDur where
  segment : Nat
  row : Nat
  width : Nat
  segSeq : Nat
  entries : List Placed
  deriving DecidableEq, Repr

/-- A row found by the page-tag scan (R190, R249): what its directory says, and the segment sequence in the tag of each unit that reads
back with a valid tag, and the `CHUNK` that the scan read in the grain header at each (member, offset). -/
structure ScanRow where
  row : RowDur
  tags : List (Option Nat)
  heads : List (Nat × Nat × Nat) := []
  deriving DecidableEq, Repr

/-- A journal record with a header (R177): type 1 WRITE, 2 DEALLOC, 3 COPY, 4 CONTROL, 5 ROW_DURABLE. -/
structure JRec where
  seq : Nat
  type : Nat
  fua : Bool
  solo : Bool
  fwd : Bool
  pi : Bool
  rmw : Bool
  bytes : Nat
  volume : Nat
  group : Nat
  cls : Nat
  tenant : Nat
  first : Nat
  time : Nat
  snapGen : Nat
  deltas : List Delta
  forms : List Form
  ctl : List Ctl
  row : Option RowDur
  /-- ring offset and length, 4 KiB blocks -/
  off : Nat
  blks : Nat
  mirrored : Bool
  /-- its entries lie in a durable flash journal row -/
  journaled : Bool
  flashed : Bool
  /-- chunks whose count falls when the record is FLASHED (R212) -/
  olds : List Nat
  /-- stored forms, by chunk, that lie in a row of a ROW_DURABLE record (R181) -/
  placed : List Nat := []
  deriving DecidableEq, Repr

/-- A valid root of the partner as step 1 of R248 reads it: number, cut, cut `SEQ`, the groups it lists, and what its tables and trees hold of
them. The contents stand as entries of CONTROL records (R243), a chunk-table entry as the model's own subtype 0x1F: DESIGN CHOICE (log entry 133). -/
structure PartnerRoot where
  num : Nat
  cut : Nat
  seq : Nat
  groups : List Nat
  tables : List Ctl
  deriving DecidableEq, Repr

/-- What step 1 and step 2 of R248 read beside this head's own slots and journal: the partner's durable map journal, its valid roots, and the
copies of this head's own roots, by slot and member, whose CRC-32C does not check (R280). -/
structure RootsRead where
  journal : List JRec := []
  roots : List PartnerRoot := []
  bad : List (Nat × Nat) := []
  deriving DecidableEq, Repr

/-- The STANDBY Loom's decision for a command beside the ACTIVE's (R125, R126): equal, or different with the outcome of each
instance's self-check. -/
inductive Standby where
  | same
  | differ (fail0 fail1 : Bool)
  deriving DecidableEq, Repr

/-- The partner's answer to a claim, and the STANDBY's decision for the command that it concerns (R125, R137). -/
structure ClaimReply where
  grant : Bool
  standby : Standby := .same
  deriving DecidableEq, Repr

/-- A connection-management datagram to QP 1 (R83): a request to connect, the establishment with the responder resources that the
host grants, or a request to disconnect. -/
inductive CmMsg where
  | request (port : Fin 64)
  /-- the connection, the responder resources that the host grants, and the path MTU it asks for -/
  | established (conn : Fin 16384) (granted : Nat) (pmtu : Nat := 4096)
  | disconnect (conn : Fin 16384)
  deriving DecidableEq, Repr

/-- What a fabrics Connect names (R97, R98). -/
structure ConnectData where
  hostNqn : Bytes
  hostId : BitVec 128
  subNqn : Bytes
  /-- of the controller an I/O queue joins -/
  cntlid : BitVec 16
  qid : BitVec 16
  /-- submission queue entries -/
  sqsize : Nat
  /-- keep-alive timeout, ms -/
  kato : BitVec 32
  deriving DecidableEq, Repr

/-- What a Reservation Register asks for (R112). -/
inductive RegAct where
  | register | unregister | replace
  deriving DecidableEq, Repr

/-- What a Reservation Acquire asks for. -/
inductive AcqAct where
  | acquire | preempt | preemptAbort
  deriving DecidableEq, Repr

/-- One reservation command (R112). -/
inductive ResvCmd where
  /-- `ptpl`: none changes nothing -/
  | register (act : RegAct) (iekey : Bool) (ptpl : Option Bool) (crkey nrkey : Word)
  | acquire (act : AcqAct) (iekey : Bool) (rtype : BitVec 8) (crkey prkey : Word)
  | release (clear iekey : Bool) (rtype : BitVec 8) (crkey : Word)
  /-- Set Features of Reservation Persistence -/
  | persist (ptpl : Bool)
  deriving DecidableEq, Repr

/-- What a claim asks of the head that masters it (R137). -/
inductive ClaimRes where
  | die (module die : Fin 64)
  | portIn (port : Fin 64)
  | portOut (port : Fin 64)
  deriving DecidableEq, Repr

/-- One demand of a claim: resource, beat and amount. -/
structure ClaimItem where
  res : ClaimRes
  beat : Nat
  amt : Nat
  deriving DecidableEq, Repr

/-- One die booking of a shadow (R138). -/
structure ShadowItem where
  module : Fin 64
  die : Fin 64
  beat : Nat
  amt : Nat
  tenant : Nat
  head : Nat
  deriving DecidableEq, Repr

/-- The coefficients a fit gives an operation's card (R158, R167). -/
structure CardFit where
  op : Fin 12
  mediaFix : Nat
  chipKib : Nat
  chipFix : Nat
  dieTime : Nat
  mediaKib : Nat
  deriving DecidableEq, Repr

/-- An index entry (R205). -/
structure IdxEntry where
  fp : Nat
  chunk : Nat
  pending : Bool
  pendHead : Nat
  tenant : Nat
  hint : Nat
  age : Nat
  deriving DecidableEq, Repr

/-- A module's geometry page (R316). -/
structure Geometry where
  crcOk : Bool
  major : Nat
  portId : Nat
  dies : Nat
  blocks : Nat
  units : Nat
  pageKib : Nat
  unitKib : Nat
  tagBytes : Nat
  cbCap : Nat
  maxRead : Nat
  maxProgram : Nat
  maxErase : Nat
  maxPower : Nat
  uid : BitVec 128
  deriving DecidableEq, Repr

/-- A shard's answer to a lookup that hit (R208): the chunk, its `PENDING` bit and `PEND_HEAD`. -/
structure IdxHit where
  chunk : Nat
  pending : Bool
  pendHead : Nat
  deriving DecidableEq, Repr

/-- What is read of a stored form (R221, R227): the bytes that were stored (`good`), bytes that fail a check, by its name, or bytes in full. -/
inductive ReadCheck where
  | good | crc | chunk | domain | expansion | short | format | dict | guard
  /-- the bytes that were read, to be checked -/
  | bytes (stored : Bytes)
  deriving DecidableEq, Repr

/-- What an uncorrectable DRAM error lies in (R199): a record of a region, by `SEQ`, and whether channel parity rebuilds it; a
read-cache line; a map page; an index entry, by its chunk. -/
inductive DramData where
  | record (own : Bool) (seq : Nat) (rebuilt : Bool)
  | cacheLine
  | page (id : Nat)
  | index (chunk : Nat)
  deriving DecidableEq, Repr

/-- A valid page tag (R265). -/
structure TagInfo where
  type : Nat
  member : Nat
  width : Nat
  segment : Nat
  row : Nat
  segSeq : Nat
  rows : Nat
  forms : List Placed
  deriving DecidableEq, Repr

/-- A module's health page (R316). -/
structure Health where
  crcOk : Bool
  failedDies : BitVec 64
  temp : Int
  power : Nat
  plpOk : Bool
  wear : Nat
  spare : Nat
  deriving DecidableEq, Repr

/-- A completion entry of a module port (R317), without its result. -/
structure MqpDone where
  port : Fin 64
  queue : Fin 16
  cid : BitVec 16
  status : BitVec 8
  retry : BitVec 4
  corrected : BitVec 16
  deriving DecidableEq, Repr

/-- Why a module port is lost (R323). -/
inductive PortLoss where
  | signal | containment | absent | timeouts
  deriving DecidableEq, Repr

/-- What the syndromes of a row say (R304). -/
inductive Syndrome where
  | consistent | pWrong | qWrong
  | dataWrong (member : Fin 32)
  | notLocatable
  deriving DecidableEq, Repr

/-- What patrol finds in one unit (R277): its page tag, the completion's figures, the forms whose payload check or full read
check fails, and the syndromes of its row. -/
structure PatrolRead where
  tagOk : Bool
  retry : BitVec 4
  corrected : BitVec 16
  crcBad : List Nat
  guardBad : List Nat
  syndrome : Syndrome
  /-- what the members of the row hold, when the pass checks parity: the syndromes are then computed from it -/
  units : List Bytes := []
  deriving DecidableEq, Repr

/-- What the members of a row that can be read deliver for a rebuild (R286): each member and its content. -/
structure RowRead where
  row : Nat
  units : List (Nat × Bytes)
  deriving DecidableEq, Repr

/-- What the reads of a rebuild bring: the chunks of which no copy can be read, and the units read of the rows that have lost a member. A
row that is not listed reads back as it was programmed. -/
structure RebuildRead where
  chunks : List Nat
  rows : List RowRead := []
  /-- chunks of members that could be read whose form fails its checks and is rebuilt (R289) -/
  damaged : List Nat := []
  /-- of an INDEX segment: the runs, by place in the run list, of which a page cannot be read (R299) -/
  runs : List Nat := []
  deriving DecidableEq, Repr

/-! Chapter 13. -/

/-- A flit as it is received (R331): whether its CRC-64 checks, its header fields, and of a first flit the message's `MTYPE` and
`LENGTH`. -/
structure Flit where
  crcOk : Bool
  /-- 0 IDLE, 1 DATA, 2 CTRL -/
  kind : Fin 4
  cls : Fin 4
  som : Bool
  eom : Bool
  len : Nat
  seq : BitVec 12
  ack : BitVec 12
  nak : Bool
  crClass : Fin 4
  crTotal : BitVec 12
  head : Option (Nat × Nat)
  deriving DecidableEq, Repr

/-- The identity message (R348). -/
structure DkIdentity where
  ident : Word
  uid : BitVec 128
  array : BitVec 48
  index : BitVec 8
  role : BitVec 4
  ownGib : BitVec 8
  mirrorGib : BitVec 8
  timeState : BitVec 4
  mask : BitVec 6
  now : Nat
  deriving DecidableEq, Repr

/-- One entry of a key-check-value exchange (R335). -/
structure KcvEntry where
  slot : Nat
  full : Bool
  epoch : BitVec 32
  kcv : Word
  deriving DecidableEq, Repr

/-! Chapter 14. -/

/-- What a forwarded command does (R355). -/
inductive FwdBody where
  /-- a command of the I/O set by its opcode, as `HCmd` holds one -/
  | io (opcode volume src bytes : Nat) (fua : Bool) (ranges : List (Nat × Nat)) (pi : PiReq) (data : Bytes)
  | resv (volume : Nat) (host : BitVec 128) (cmd : ResvCmd)
  | format (volume lbaf : Nat)
  /-- by its Sanitize Action -/
  | sanitize (action : Nat)
  deriving DecidableEq, Repr

/-- A forwarded command (R355). -/
structure FwdCmd where
  tag : Nat
  conn : Nat
  tenant : Nat
  cls : Nat
  gen : Nat
  arrived : Nat
  body : FwdBody
  deriving DecidableEq, Repr

/-- What a mirror copy is asked for (R289, R369): a record by `SEQ`, or a chunk's form. -/
inductive FetchItem where
  | record (seq : Nat)
  | form (chunk : Nat)
  deriving DecidableEq, Repr

/-- The answer; none when the mirror copy fails its checks too. -/
inductive CopyItem where
  | record (seq : Nat) (r : Option JRec)
  | form (chunk : Nat) (f : Option Form)
  deriving DecidableEq, Repr

/-! Chapter 15. -/

/-- The header of a replication message (R385), by the connection that carried it; `ok` is whether `MAGIC`, `TYPE` and `LENGTH` are
right. -/
structure RplHead where
  conn : Fin 16384
  rel : BitVec 16
  mseq : Nat
  cycle : Nat
  ok : Bool
  deriving DecidableEq, Repr

/-- HELLO (R385): array, head, role 1 source or 2 target, mode, tenant and salt check. -/
structure RplHello where
  array : BitVec 48
  head : Nat
  role : Nat
  mode : Nat
  tenant : Nat
  salt : Nat
  deriving DecidableEq, Repr

/-- One entry of an OFFER. -/
structure OfferEnt where
  grain : Nat
  fp : Nat
  dict : Nat
  kind : Nat
  deriving DecidableEq, Repr

/-- One entry of a GRAIN message, or of a SYNC_WRITE: OFFER index in the cycle, entry index, the form with the source's header, and
whether `CRC`, decompression and `GUARD` check (R386). -/
structure GrainEnt where
  offer : Nat
  entry : Nat
  form : Form
  good : Bool
  deriving DecidableEq, Repr

/-- SYNC_WRITE (R385). -/
structure SyncWrite where
  seq : Nat
  first : Nat
  grains : Nat
  fua : Bool
  last : Bool
  dealloc : Bool
  copy : Option Nat
  ents : List GrainEnt
  deriving DecidableEq, Repr

/-- A replication message (R385). -/
inductive RplMsg where
  | hello (h : RplHello)
  | offer (ents : List OfferEnt)
  | need (offer : Nat) (needed : List Bool) (dicts : List Nat)
  | grain (ents : List GrainEnt)
  | dict (id len : Nat) (part : Bytes)
  | mapdelta (ranges : List (Nat × Nat))
  | commit (snap offered ranges : Nat) (digest : Word256)
  | ack (mseq credits status entry : Nat)
  | syncWrite (w : SyncWrite)
  | syncAck (seq status : Nat)
  | base (seq : Nat)
  deriving DecidableEq, Repr

/-! Chapter 21. -/

/-- How a control command's entry and data buffer stand (R503, R507): in order; a reserved byte that is not 0 or a buffer shorter
than its opcode needs; a transfer that failed. -/
inductive CtlBuf where
  | good | bad | dma
  deriving DecidableEq, Repr

/-- An SPDM request carried on the control channel (R410). -/
inductive SpdmReq where
  | getVersion
  | getCapabilities
  | negotiate (ecdsaP384 sha384 measSha384 : Bool)
  | getDigests
  | getCertificate (slot : BitVec 8) (offset length : BitVec 16)
  | challenge (slot : BitVec 8) (nonce : Word256)
  | getMeasurements (index : BitVec 8) (signed : Bool) (nonce : Word256)
  | unsupported
  deriving DecidableEq, Repr

/-- The commands. Each constructor's first line is its row of spec/opcode_table.json. -/
inductive Instr where
/-- REGISTER_WRITE (R28): A BAR0 write to a register that has no row of its own changes only its changeable fields, or
     is discarded and captured. Address and size of the access. -/
  | registerWrite (addr : BitVec 29) (bytes : Nat) (value : Word)
/-- DISCARDED_READ (R25): A BAR0 read that breaks an access rule returns zero and is captured and counted as a
     discarded access. -/
  | discardedRead (addr : BitVec 29) (bytes : Nat)
/-- BLK_ENABLE (R35): BLK_CTRL.ENABLE written 1 takes an OFF block whose domain is ON into STARTING, or takes a
     DRAINED block back to ACTIVE. The other fields of the write are those of `value`. -/
  | blkEnable (page : BitVec 13) (value : Word)
/-- BLK_DISABLE (R35): BLK_CTRL.ENABLE written 0 takes an ACTIVE block into DRAINING, or takes a DRAINED or SPARE
     block to OFF or RETIRED according to ROLE. -/
  | blkDisable (page : BitVec 13) (value : Word)
/-- BLK_DRAIN (R35): BLK_CTRL.DRAIN written 1 takes a drainable ACTIVE block into DRAINING. -/
  | blkDrain (page : BitVec 13) (value : Word)
/-- SOFT_RESET (R36): BLK_CTRL.SOFT_RESET starts a block reset in OFF, DRAINED or SPARE; in any other state the write
     is discarded with cause STATE. -/
  | softReset (page : BitVec 13) (value : Word)
/-- SOFT_RESET_DONE (R36): A soft reset completes: every non-ROS field returns to reset, BLK_GEN goes to 0 and the
     block rests in OFF. -/
  | softResetDone (page : BitVec 13)
/-- BLK_COMMIT (R40): BLK_CTRL.COMMIT written 1 sets COMMIT_PENDING, or is discarded or ignored according to the
     block's state and capabilities. -/
  | blkCommit (page : BitVec 13) (value : Word)
/-- BLK_COMMIT_APPLY (R40): At the block's commit boundary the staging registers are copied to the active copies, GEN
     advances and COMMIT_PENDING clears, all in one cycle. -/
  | blkCommitApply (page : BitVec 13)
/-- INIT_COMPLETE (R35): A STARTING block finishes initialisation and enters SPARE or ACTIVE. -/
  | initComplete (page : BitVec 13)
/-- DRAIN_COMPLETE (R35): A DRAINING block holds no accepted work and no queued operation, and it enters DRAINED. -/
  | drainComplete (page : BitVec 13)
/-- BLOCK_FAULT (R35): An uncorrectable internal fault takes a block to FAILED. -/
  | blockFault (page : BitVec 13)
/-- FAILED_WORK_MOVED (R35): The work of a FAILED block has been re-run or moved, and the block enters RETIRED. -/
  | failedWorkMoved (page : BitVec 13)
/-- DPC_FAILURE (R20): A DPC fault retires the DPC to FAILED, promotes a spare and re-runs its grains from the journal
     or the stream buffers. -/
  | dpcFailure (dpc : Fin 18)
/-- POWER_REQUEST (R38): A write of BLK_PWR_REQ.REQ requests a power state for the block's domain, held until the
     block's state permits it. -/
  | powerRequest (page : BitVec 13) (req : BitVec 2)
/-- INT_RAW_CLEAR (R37): A W1C write clears BLK_INT_RAW bits, and a bit whose condition still holds is set again in
     the next cycle. -/
  | intRawClear (page : BitVec 13) (value : Word)
/-- ACCESS_ERR_REARM (R44): Writing 1 to CHIP.ACCESS_ERR.VALID clears the capture and re-arms it. -/
  | accessErrRearm (value : Word)
/-- ACCESS_ERR_CNT_CLEAR (R44): Writing any nonzero value to CHIP.ACCESS_ERR_CNT clears the count. -/
  | accessErrCntClear (value : Word)
/-- TIME_STEP (R46): A write of TIME.STEP applies a signed correction at once while UNSYNCED, and is discarded with
     cause LOCKED otherwise. -/
  | timeStep (ns : Word)
/-- TIME_NOW_LOW_READ (R48): A 32-bit read of TIME.NOW[31:0] latches the upper half for the next read. -/
  | timeNowLowRead
/-- TIME_LOCKED (R46): The time base reaches the accuracy of R47 and TIME.STATUS moves from LOCKING to LOCKED. -/
  | timeLocked
/-- TIME_SOURCE_LOST (R46): The time source is lost and TIME.STATUS moves to HOLDOVER. -/
  | timeSourceLost
/-- TIME_SOURCE_RETURN (R46): The time source returns and TIME.STATUS moves from HOLDOVER to LOCKING. -/
  | timeSourceReturn
/-- PPS_IN_EDGE (R48): A rising edge of PPS_IN is captured into TIME.PPS_CAPTURE. -/
  | ppsInEdge
/-- PPS_OUT_PULSE (R48): At each whole second of the time base, PPS_OUT is driven high for 1 µs when enabled. -/
  | ppsOutPulse
/-- BEAT_BOUNDARY (R134): At every 10,000 ns of the time base the Loom advances its calendar and applies the boundary
     events in group order. -/
  | beatBoundary
/-- STANDBY_POWER_LOSS (R49): STBY_PWR_OK falls and every part except the vault is held in reset. -/
  | standbyPowerLoss
/-- STANDBY_POWER_GOOD (R49): STBY_PWR_OK rises and the standby domain leaves reset. -/
  | standbyPowerGood
/-- CHIP_RESET_ASSERT (R52): CHIP_RESET_N falls and everything except the vault is reset. -/
  | chipResetAssert
/-- CHIP_RESET_RELEASE (R59): CHIP_RESET_N rises, the boot mode is latched, the time base is loaded from the RTC and
     the ROM starts. The `BOOT_MODE` pins, and the whole seconds of the vault RTC. -/
  | chipResetRelease (boot : BitVec 2) (rtc : Nat)
/-- MGMT_IMAGE_LOADED (R65): The management image has been read and snooped, and it is accepted or the other image is
     tried. A flip is a fault of that comparator. -/
  | mgmtImageLoaded (flipM flipN : Bool)
/-- MAIN_POWER_GOOD (R59): MAIN_PWR_OK rises and the main-domain boot steps start. What the deck check of step 6
     finds. -/
  | mainPowerGood (deckOk : Bool)
/-- DRAM_TRAINING_DONE (R59): Training of the DRAM channels completes, or fails on more than one channel. -/
  | dramTrainingDone (failed : List (Fin 16)) (sizeGib rateMts : Nat)
/-- DRAM_INIT_DONE (R59): DRAM initialisation, check bits included, completes. -/
  | dramInitDone
/-- SVC_IMAGE_LOADED (R59): The service-core image is loaded and measured, and the service cores start. -/
  | svcImageLoaded (flipM flipN : Bool)
/-- MODULE_PORTS_READY (R59): The module ports are trained and the geometry, arbitration words and dump headers have
     been read. -/
  | modulePortsReady
/-- CHECKPOINT_ROOTS_LOADED (R248): Root slots, tables and map journals are loaded and applied, and the head is
     partner-joined. What the partner's roots and map journal add, as records in `TIME` order. -/
  | checkpointRootsLoaded (partner : RootsRead)
/-- JOURNAL_REPLAY_DONE (R59): Replay ends, the ETHP ports are enabled and the head starts serving. Whether the
     partner's own dump is missing or partial, and the rows that the page-tag scan accepts. -/
  | journalReplayDone (partnerMissing : Bool) (scan : List ScanRow)
/-- DUMP_CONSUMED (R62): A dump is marked consumed once every flush its replay re-issued is durable. -/
  | dumpConsumed (area : Fin 2)
/-- MAIN_POWER_LOSS (R50): MAIN_PWR_OK falls while PWR_FAIL_N is high; this is a sudden loss with no dump. -/
  | mainPowerLoss
/-- PERST_ASSERT (R53): PERST_N falls, UPEP is reset and CTLCH and PICK DMA are held. -/
  | perstAssert
/-- PERST_RELEASE (R495): PERST_N rises and the endpoint answers configuration requests within 100 ms. -/
  | perstRelease
/-- PWR_FAIL_ASSERT (R192): PWR_FAIL_N falls and hold-up mode starts: intake stops, domains are gated and the journal
     dump begins. -/
  | pwrFailAssert
/-- PWR_FAIL_GLITCH (R450): A PWR_FAIL_N pulse shorter than 200 ns is recorded as GLITCH with detector 3 and starts no
     hold-up. -/
  | pwrFailGlitch
/-- HOLDUP_DUMP_COMPLETE (R192): The dump trailer is written as COMPLETE and HOLDUP_DONE is driven high. -/
  | holdupDumpComplete
/-- PWR_FAIL_RELEASE (R194): PWR_FAIL_N rises again during hold-up, and the dump runs on to completion. -/
  | pwrFailRelease
/-- HOLDUP_SELF_RESET (R194): 10 ms after HOLDUP_DONE, when power has returned, the chip resets itself with
     CHIP_RESET_N scope. -/
  | holdupSelfReset
/-- MGMT_WATCHDOG_EXPIRY (R54): The management watchdog expires after 2 s without service; the first expiry restarts
     management, a second within 60 s is fatal. -/
  | mgmtWatchdogExpiry
/-- LIFE_REQ_PROVISION (R68): LIFE.REQ requests the transition to PROVISION, which is checked and begun by blowing the
     intent bit. -/
  | lifeReqProvision (confirm : BitVec 8)
/-- LIFE_REQ_DEPLOYED (R68): LIFE.REQ requests the transition to DEPLOYED, which is checked and begun by blowing the
     intent bit. -/
  | lifeReqDeployed (confirm : BitVec 8)
/-- LIFE_REQ_RETURN (R71): LIFE.REQ requests the transition to RETURN, refused while groups or journal records remain.
     -/
  | lifeReqReturn (confirm : BitVec 8)
/-- LIFE_REQ_SCRAP (R71): LIFE.REQ requests the transition to SCRAP, refused while groups or journal records remain.
     -/
  | lifeReqScrap (confirm : BitVec 8)
/-- FUSE_CELL_BLOWN (R67): A fuse cell finishes programming and the transition proceeds to the next cell, to the work,
     or to the re-sense. `ok` is whether the cell reads blown. -/
  | fuseCellBlown (ok : Bool)
/-- LIFE_WORK_DONE (R68): The target's work between intent and commit completes and the commit bit is blown. -/
  | lifeWorkDone
/-- FRAME_RECEIVE (R83): A received frame is checked against the Ethernet options and classified by HEDDLE in order.
     `fill` is the percent of the quad's buffer share that the frame's priority then holds. -/
  | frameReceive (frame : Frame) (prio : Fin 8) (fill : Fin 101)
/-- FRAME_RESIDENCE_TIMEOUT (R85): A frame still in the front end 64 µs after match is dropped with cause 7. The
     oldest frame of the connection. -/
  | frameResidenceTimeout (conn : Fin 16384)
/-- FRONT_END_PORT_LOSS (R20): A front-end lane or port fails and the port goes down. -/
  | frontEndPortLoss (port : Fin 64)
/-- CONN_ENTRY_WRITE (R87): UPD_CMD WRITE creates or replaces a connection entry, waiting while the old-version store
     is busy. The words are what `UPD_DATA0` to `UPD_DATA3` hold. -/
  | connEntryWrite (index : Fin 16384) (w0 w1 w2 w3 : Word)
/-- CONN_ENTRY_DELETE (R89): UPD_CMD DELETE removes a connection entry, as a forced teardown unless the entry is
     CLOSING. -/
  | connEntryDelete (index : Fin 16384)
/-- CONN_ENTRY_READ (R84): UPD_CMD READ returns a connection entry in UPD_DATA0 to UPD_DATA3. -/
  | connEntryRead (index : Fin 16384)
/-- CONN_ENTRY_UPDATE_APPLY (R87): A connection-entry update takes effect at the next frame boundary on its port, with
     ENT_GEN advanced. -/
  | connEntryUpdateApply
/-- OLD_VERSION_RELEASE (R87): The last frame tagged with an old entry version leaves, and that version is released.
     -/
  | oldVersionRelease (index : Fin 16384)
/-- ADDRESS_VERSION_RELEASE (R88): The last frame tagged with the previous address table leaves, and that version is
     released. -/
  | addressVersionRelease
/-- INTAKE_TERMINATION (R91): A write whose data is incomplete at its intake end plus allowance is terminated with
     Transient Transport Error. -/
  | intakeTermination (cmd : CmdFrom)
/-- RDMA_READ_RESPONSE (R76): An RDMA READ response delivers write data, or is consumed in PSN order and its payload
     discarded after termination. `last` ends the READ request. -/
  | rdmaReadResponse (cmd : CmdFrom) (off : Nat) (data : Bytes) (last : Bool)
/-- ROCE_ACK (R76): A RoCEv2 ACK or NAK is processed for its connection. An ACK covers `count` packets; `rtt` is the
     highest round trip on the connection in the last 10 s, in ns (R389). -/
  | roceAck (conn : Fin 16384) (reply : RoceAck) (count rtt : Nat)
/-- CNP_RECEIVE (R76): A congestion notification packet is processed by the connection's reaction point. -/
  | cnpReceive (conn : Fin 16384)
/-- REMOTE_ACCESS_REQUEST (R76): A received RDMA WRITE, RDMA READ or atomic request is answered with NAK Remote Access
     Error. -/
  | remoteAccessRequest (conn : Fin 16384)
/-- ROCE_CONN_MANAGEMENT (R83): A connection-management datagram to QP 1 is passed to the service cores. -/
  | roceConnManagement (msg : CmMsg)
/-- TCP_SYN (R83): A TCP SYN to an I/O or discovery port is passed to the service cores for setup. -/
  | tcpSyn (port : Fin 64) (addr : Fin 256) (localPort : BitVec 16)
/-- ICREQ (R78): An NVMe/TCP ICReq is answered with ICResp under the negotiated parameters. -/
  | icreq (conn : Fin 16384) (req : IcReq)
/-- H2C_DATA (R91): An H2CData PDU delivers write data, or is discarded or ends the connection when its tag is
     unknown. -/
  | h2cData (conn : Fin 16384) (ttag : BitVec 16) (off : Nat) (data : Bytes)
/-- H2C_TERM_REQ (R78): A host termination request ends the NVMe/TCP connection. -/
  | h2cTermReq (conn : Fin 16384)
/-- ACK_TIMEOUT (R76): The local ACK timeout of a RoCEv2 connection expires and the outstanding packets are retried.
     -/
  | ackTimeout (conn : Fin 16384)
/-- TLS_CLIENT_HELLO (R81): A TLS ClientHello starts a TLS 1.3 PSK handshake on the service cores, or is refused. -/
  | tlsClientHello (conn : Fin 16384) (hello : Hello)
/-- KEY_UPDATE (R81): A TLS KeyUpdate loads the unused key set and switches the connection to it. The DERIVED slots of
     the next traffic secrets. -/
  | keyUpdate (conn : Fin 16384) (txSecret rxSecret : BitVec 15)
/-- ANNOUNCE_REPEAT (R93): At 1 ms, 10 ms and 100 ms after the first announcement, the takeover address announcement
     is repeated. -/
  | announceRepeat
/-- PTP_ANNOUNCE_TIMEOUT (R95): Three Announce intervals pass without an Announce, and the time base goes to HOLDOVER.
     -/
  | ptpAnnounceTimeout
/-- CONNECT (R98): A fabrics Connect creates a controller or an I/O queue when the host is allowed, and sets the
     connection class. -/
  | connect (cmd : CmdFrom) (data : ConnectData)
/-- PROPERTY_GET (R102): A fabrics Property Get returns a controller property. -/
  | propertyGet (cmd : CmdFrom) (off : BitVec 32)
/-- PROPERTY_SET (R102): A fabrics Property Set writes a controller property. -/
  | propertySet (cmd : CmdFrom) (off : BitVec 32) (value : Word)
/-- DISCONNECT (R102): A fabrics Disconnect ends a queue or controller connection. -/
  | disconnect (cmd : CmdFrom)
/-- GET_LOG_PAGE (R118): Get Log Page returns one of the supported log pages. -/
  | getLogPage (cmd : CmdFrom) (lid : BitVec 8)
/-- NVME_IDENTIFY (R119): Identify returns the controller or namespace data structure for a supported CNS. -/
  | nvmeIdentify (cmd : CmdFrom) (cns : BitVec 8) (nsid : Nat)
/-- ABORT (R102): Abort completes with the command not aborted. -/
  | abort (cmd : CmdFrom)
/-- SET_FEATURES (R117): Set Features sets a supported feature. -/
  | setFeatures (cmd : CmdFrom) (fid : BitVec 8) (nsid : Nat) (save : Bool) (value : BitVec 32)
/-- GET_FEATURES (R117): Get Features returns a supported feature. -/
  | getFeatures (cmd : CmdFrom) (fid : BitVec 8) (nsid : Nat) (sel : FeatureSel)
/-- ASYNC_EVENT_REQUEST (R102): An Asynchronous Event Request is held until an enabled event is posted. -/
  | asyncEventRequest (cmd : CmdFrom)
/-- KEEP_ALIVE (R100): Keep Alive restarts the controller's keep-alive timer. -/
  | keepAlive (cmd : CmdFrom)
/-- KEEP_ALIVE_EXPIRY (R100): A keep-alive timer expires, the controller is deleted and its connections are torn down.
     -/
  | keepAliveExpiry (tenant : BitVec 12) (cntlid : BitVec 16)
/-- FORMAT_NVM (R123): Format NVM starts replacing one namespace's map with an empty one under a new format. -/
  | formatNvm (cmd : CmdFrom) (nsid lbaf : Nat) (pi : BitVec 3) (ses : BitVec 3)
/-- FORMAT_MAP_ROOT_COMMIT (R124): The new map root of a format is committed and journaled, and the new format takes
     effect. -/
  | formatMapRootCommit (volume : BitVec 16)
/-- SANITIZE_CRYPTO_ERASE (R120): Sanitize with Crypto Erase starts the full five-phase sequence for the tenant. -/
  | sanitizeCryptoErase (cmd : CmdFrom) (ndas : Bool)
/-- SANITIZE_BLOCK_ERASE (R120): Sanitize with Block Erase starts the full five-phase sequence for the tenant. -/
  | sanitizeBlockErase (cmd : CmdFrom) (ndas : Bool)
/-- SANITIZE_OVERWRITE (R120): Sanitize with Overwrite completes with Invalid Field in Command. -/
  | sanitizeOverwrite (cmd : CmdFrom)
/-- SANITIZE_EXIT_FAILURE (R121): Exit Failure Mode clears a sanitize failure while the tenant stays quiesced. -/
  | sanitizeExitFailure (cmd : CmdFrom)
/-- SANITIZE_PHASE_COMPLETE (R120): A sanitize phase ends and its progress record is journaled, starting the next
     phase. `failed` stops the sequence. -/
  | sanitizePhaseComplete (tenant : BitVec 12) (failed : Bool)
/-- FLUSH (R108): NVMe Flush completes at once after the pre-admission checks. -/
  | flush (cmd : CmdFrom) (nsid : Nat)
/-- WRITE (R169): A Write capsule is classified, shaped and submitted for admission. The data is what the capsule
     carries. -/
  | write (cmd : CmdFrom) (nsid : Nat) (range : LbaRange) (fua : Bool) (pi : PiReq) (data : Bytes) (standby : Standby)
/-- READ (R17): A Read capsule is classified, shaped and its map resolved before admission. -/
  | read (cmd : CmdFrom) (nsid : Nat) (range : LbaRange) (pi : PiReq) (standby : Standby)
/-- COMPARE (R102): A Compare is booked as a read and completes with Compare Failure on a mismatch. -/
  | compare (cmd : CmdFrom) (nsid : Nat) (range : LbaRange) (pi : PiReq) (data : Bytes) (standby : Standby)
/-- WRITE_ZEROES (R103): Write Zeroes deallocates the affected grains through a DEALLOC_RANGE record. -/
  | writeZeroes (cmd : CmdFrom) (nsid : Nat) (range : LbaRange) (fua : Bool) (standby : Standby)
/-- DATASET_MANAGEMENT (R103): Dataset Management with Deallocate deallocates up to 256 ranges. -/
  | datasetManagement (cmd : CmdFrom) (nsid : Nat) (ranges : List LbaRange) (deallocate : Bool) (standby : Standby)
/-- COPY (R104): Copy maps destination grains to the source chunks through a COPY_RANGE record. `simple` is descriptor
     format 0 with one source range; `prinfo` is whether `PRINFOR` or `PRINFOW` is not zero. -/
  | copy (cmd : CmdFrom) (nsid : Nat) (source : LbaRange) (dest : BitVec 64) (simple : Bool) (prinfo fua : Bool) (standby : Standby)
/-- RESERVATION_REGISTER (R112): Reservation Register changes a registration, journaled and mirrored with the group.
     -/
  | reservationRegister (cmd : CmdFrom) (nsid : Nat) (act : RegAct) (iekey : Bool) (ptpl : Option Bool) (crkey nrkey : Word)
/-- RESERVATION_REPORT (R112): Reservation Report returns the namespace's reservation state. -/
  | reservationReport (cmd : CmdFrom) (nsid : Nat) (extended : Bool)
/-- RESERVATION_ACQUIRE (R112): Reservation Acquire takes or preempts a reservation. -/
  | reservationAcquire (cmd : CmdFrom) (nsid : Nat) (act : AcqAct) (iekey : Bool) (rtype : BitVec 8) (crkey prkey : Word)
/-- RESERVATION_RELEASE (R112): Reservation Release releases or clears a reservation. -/
  | reservationRelease (cmd : CmdFrom) (nsid : Nat) (clear iekey : Bool) (rtype : BitVec 8) (crkey : Word)
/-- UNSUPPORTED_COMMAND (R102): A command with an unsupported opcode or fused operation completes with an error
     status. -/
  | unsupportedCommand (cmd : CmdFrom) (fused : Bool)
/-- REED_TOKENS_AVAILABLE (R147): Refilled tokens let a waiting command's charges fit, and it is passed to drafting.
     The command by its index at this head. -/
  | reedTokensAvailable (id : Nat) (standby : Standby)
/-- MAP_RESOLVED (R131): The map engine has resolved every grain of a read, and its admission decision can be made.
     The command by its index at this head. -/
  | mapResolved (id : Nat) (standby : Standby)
/-- LOOM_SELF_CHECK_FAIL (R126): The active Loom instance fails its self-check and the standby becomes active with the
     agreed calendar. -/
  | loomSelfCheckFail (loom : Fin 2)
/-- LOOM_SWAP_DUE (R127): SWAP_PERIOD has passed and the Loom instances exchange roles at a permitted boundary, or the
     swap is postponed. Whether the two calendar digests are equal. -/
  | loomSwapDue (digests : Standby)
/-- REED_TBL_READ_STATE (R168): TBL_CMD READ_STATE returns a tenant's overwrite ratio, debt ledger and write
     byte-bucket level. -/
  | reedTblReadState (tenant : BitVec 12)
/-- REED_TBL_WRITE_STAGED (R168): TBL_CMD WRITE writes a tenant's contract into the staged bank. The words are what
     `TBL_DATA0` to `TBL_DATA3` hold. -/
  | reedTblWriteStaged (tenant : BitVec 12) (w0 w1 w2 w3 : Word)
/-- REED_TBL_READ_STAGED (R168): TBL_CMD READ staged returns a tenant's staged contract. -/
  | reedTblReadStaged (tenant : BitVec 12)
/-- REED_TBL_READ_ACTIVE (R168): TBL_CMD READ active returns a tenant's active contract. -/
  | reedTblReadActive (tenant : BitVec 12)
/-- COLLECTION_FLOOR_RECOMPUTE (R154): Every 100 ms the collection floor is recomputed from free space, and lowered
     only after 1 s. -/
  | collectionFloorRecompute
/-- ENERGY_CARD_FIT (R158): Every 10 s the service cores fit energy-card coefficients and commit them as a new Loom
     generation. What the fit finds for each operation. -/
  | energyCardFit (cards : List CardFit)
/-- ENERGY_OVERRUN (R158): After 100 consecutive beats of excess measured power, the event is logged and a
     recalibration starts. -/
  | energyOverrun
/-- OVERWRITE_RATIO_UPDATE (R150): Every 1 ms each tenant's overwrite ratio is averaged. -/
  | overwriteRatioUpdate
/-- CLAIM (R137): A claim for die time or a front-end port of this die master is checked in arrival order. `cmd` is
     this head's index of the forwarded command that it serves, if any. -/
  | claim (tag tenant : Nat) (items : List ClaimItem) (cmd : Option Nat)
/-- CLAIM_ANSWER (R137): The master's grant or reject of a claim completes or fails the placement. -/
  | claimAnswer (tag : Nat) (grant : ClaimReply)
/-- SHADOW (R138): The partner's calendar changes are stored as the shadow. -/
  | shadow (added removed : List ShadowItem)
/-- GRAIN_PIPELINE (R174): A DPC runs one grain through guard, fingerprint, dedup lookup and, on a miss, compression,
     encryption and CRC. `cmd` is this head's index of the command and `grain` the namespace's grain; `verified` is
     what a compress verify finds, `cached` whether the read cache holds the form of a hit. -/
  | grainPipeline (cmd grain : Nat) (dpc : Fin 18) (verified cached : Bool)
/-- IDX_LOOKUP (R208): A lookup for this head's shard arrives from the partner and is applied. The asking head's
     command index and grain, the tenant, the chunk id it reserved, and the fingerprint's digest. -/
  | idxLookup (tag grain tenant chunk : Nat) (fp : Word256)
/-- IDX_ANSWER (R208): The partner's answer to a remote index lookup is applied to the waiting grain. -/
  | idxAnswer (cmd grain : Nat) (hit : Option IdxHit)
/-- INDEX_LOOKUP_TIMEOUT (R208): A remote lookup unanswered within 4 µs is treated as a miss. -/
  | indexLookupTimeout (cmd grain : Nat)
/-- RECORD_HEADER_WRITE (R179): After a command's last stored form leaves its DPC, SELV writes the record header and
     assigns SEQ. -/
  | recordHeaderWrite (cmd : Nat)
/-- MIRROR_DATA (R171): Mirrored record bytes are written at the same ring offset of the mirror region. The member
     blocks of the segment that a ROW_DURABLE record names, as its tags give them; `good` is whether the record's
     `CRC` checks. -/
  | mirrorData (record : JRec) (members : List (Nat × Nat × Nat)) (good : Bool)
/-- MIRROR_ACK (R185): The partner's acknowledgement moves records to MIRRORED and releases plain writes for
     completion. The `SEQ` values acknowledged, and those of the partner's own records that it reports FLASHED. -/
  | mirrorAck (acked flashed : List Nat)
/-- MIRROR_RESEND (R185): A record unacknowledged 10 µs after its last flit was acknowledged is sent again from the
     own region. -/
  | mirrorResend (seq : Nat)
/-- ROW_CLOSE (R188): A full row, or one a draft requires, is closed, its P and Q computed and its units programmed.
     -/
  | rowClose (segment : Nat)
/-- ROW_CLOSE_TIMEOUT (R188): ROW_CLOSE_US after its first stored form a row is closed, padded. -/
  | rowCloseTimeout (segment : Nat)
/-- STALL (R191): The receiving head signals an intake stall in a forwarded write, and the owner releases the command.
     -/
  | stall (tag : Nat)
/-- DRAM_CHANNEL_FAIL (R184): A DRAM channel fails, protected regions are served through parity and re-striping
     starts. The map pages and the chunks of the index entries that lay in the channel. -/
  | dramChannelFail (channel : Fin 16) (pages chunks : List Nat)
/-- RESTRIPE_COMPLETE (R184): Re-striping of both regions ends and the recovery window closes. -/
  | restripeComplete
/-- DRAM_UNCORRECTABLE_ERROR (R199): An uncorrectable DRAM error is repaired from channel parity, dropped or recovered
     according to the data. -/
  | dramUncorrectableError (channel : Fin 16) (address : Word) (data : DramData)
/-- PENDING_CLEAR (R210): The PENDING bit of an index entry clears when its storing record is headed. 0 clears the
     bit; 1 withdraws the entry of an abandoned record; 2 deletes a stale entry. -/
  | pendingClear (chunk : Nat) (op : Fin 3)
/-- TALLY_AUDIT_START (R214): A tally audit opens a table for its audit set and starts its cursor. -/
  | tallyAuditStart (tenant : BitVec 12)
/-- TALLY_AUDIT_FINISH (R214): The audit cursor ends and each stored count is lowered, kept or raised to its tally. -/
  | tallyAuditFinish
/-- INDEX_RUN_WRITE (R215): A full 64 MiB index log is written to flash as a sorted run. -/
  | indexRunWrite
/-- INDEX_RUN_FLUSH_TIMER (R215): 1 s after the last run, the index log is written as a run. -/
  | indexRunFlushTimer
/-- REWEAVE (R216): Re-weave merges index runs and works through queued pairs in slack. An older and a newer chunk of
     equal fingerprint; none merges the runs. -/
  | reweave (pair : Option (Nat × Nat))
/-- DICT_TRAINING (R224): The service cores train a candidate dictionary and install it when it saves enough. The
     candidate's content, and the held-back stored bytes with it and with the current dictionary. -/
  | dictTraining (volume : BitVec 16) (content : Bytes) (candidate current : Nat)
/-- RED_WRITE_STAGED (R209): RED_CMD WRITE stages a tenant's reduction settings. `data` is what `RED_DATA` holds. -/
  | redWriteStaged (tenant : BitVec 12) (data : Word)
/-- RED_READ_STAGED (R209): RED_CMD READ staged returns a tenant's staged reduction settings. -/
  | redReadStaged (tenant : BitVec 12)
/-- RED_READ_ACTIVE (R209): RED_CMD READ active returns a tenant's active reduction settings. -/
  | redReadActive (tenant : BitVec 12)
/-- INDEX_REBUILD_DONE (R228): The shard rebuild for a new BUCKET_LOG2 ends and lookups switch to the new table. -/
  | indexRebuildDone
/-- SHARD_HANDBACK (R208): Shard content held during solo mode is handed back to the rejoined head. What a rejoined
     head receives; at the head that holds both shards the hand-over is made whole. -/
  | shardHandback (entries : List IdxEntry) (last : Bool)
/-- GRAIN_READ_STAGE (R227): In its booked beat a DPC checks, decrypts and decompresses a read grain and sends it to
     the host. -/
  | grainReadStage (cmd grain : Nat) (dpc : Fin 18) (check : ReadCheck)
/-- PAGEIN_COMPLETE (R239): A map page-in completes, its CRCs are checked and overlay entries applied. `good` is
     whether both CRC values check. -/
  | pageinComplete (page : Nat) (good : Bool)
/-- PAGE_WRITEBACK (R245): A dirty map page is written to a map unit and a MAP_ADDR entry journaled. -/
  | pageWriteback (page : Nat)
/-- OVERLAY_FILL (R241): The partner's overlay reaches 75% and this owner writes back dirty leaves until it falls
     below 50%. Dirty leaves to be written back before the partner's overlay is below 50%. -/
  | overlayFill (count : Nat)
/-- MAP_JOURNAL_ROW_CLOSE (R242): A map-journal row that has gathered FLUSH_KIB, or that a draft requires, is closed
     and written. -/
  | mapJournalRowClose
/-- MAP_JOURNAL_FLUSH_TIMER (R242): The oldest map-journal entry has waited FLUSH_US and its row is closed. -/
  | mapJournalFlushTimer
/-- CHECKPOINT_DUE (R246): CKPT_MIN or CKPT_GIB is reached and an incremental checkpoint cuts at a beat boundary. -/
  | checkpointDue
/-- CHECKPOINT_COMPLETE (R246): The checkpoint root is durable and older map-journal segments are released. -/
  | checkpointComplete
/-- PIN_RESIDENT (R240): Every leaf page of a pinned volume is resident and the LC0 floor applies. -/
  | pinResident (volume : BitVec 16)
/-- SNAP_NOTICE (R251): A snapshot notice from the partner is confirmed with its receipt beat and pause bookings
     begin. The beat in which the request reached its owner, and each member volume with its snapshot id. -/
  | snapNotice (tag start : Nat) (members : List (Nat × Nat))
/-- SNAP_CONFIRM (R251): The partner's confirmation continues or aborts the snapshot creation. The beat in which the
     partner received the notice. -/
  | snapConfirm (tag receipt : Nat)
/-- SNAP_CONFIRM_TIMEOUT (R251): No confirmation by Ba + 32 aborts the snapshot creation. -/
  | snapConfirmTimeout (tag : Nat)
/-- SNAPSHOT_CUT (R251): At Bs each owner journals SNAP CREATE and advances the live generations. -/
  | snapshotCut (tag : Nat)
/-- SNAP_PAUSE_END (R251): SNAP_PAUSE beats after Bs the journal pause ends. -/
  | snapPauseEnd (tag : Nat)
/-- SNAPSHOT_DELETE_RUN (R253): Snapshot deletion frees pages and decrements chunks in slack. -/
  | snapshotDeleteRun (snapshot : Nat)
/-- BOBBIN_LOOKUP (R256): A map lookup hits, recalls from the victim cache, merges or opens a miss register. -/
  | bobbinLookup (volume : BitVec 16) (grain : BitVec 36)
/-- BOBBIN_FILL_LAND (R256): A sector fill lands, is patched from the merging buffer and answers the waiting requests.
     -/
  | bobbinFillLand (dpc : Fin 18) (volume : BitVec 16) (page : Nat) (sector : Fin 8)
/-- MERGE_BUFFER_DRAIN (R257): At DRAIN_AT entries the merging buffer drains its oldest entry to DRAM. -/
  | mergeBufferDrain (dpc : Fin 18)
/-- MERGE_DRAIN_TIMEOUT (R257): An entry that has waited DRAIN_NS is drained to DRAM. -/
  | mergeDrainTimeout (dpc : Fin 18)
/-- KEEPER_CONFIRM_REQ (R236): The keeper checks a remote hit, applies the increment and confirms. The asking head's
     command index and grain, and what the chunk must match. -/
  | keeperConfirmReq (tag grain chunk tenant fpCheck : Nat)
/-- KEEPER_CONFIRM (R236): The keeper's confirmation lets a remote hit be used as a DEDUP delta. -/
  | keeperConfirm (cmd grain : Nat) (good : Bool)
/-- VICTIM_SCORING (R272): Every 100 ms each CLOSED segment is scored for collection. -/
  | victimScoring
/-- COLLECT_VICTIM (R273): A victim's live forms are read and packed unchanged into collection rows. Chunks whose form
     fails its checks and is rebuilt, and those whose form cannot be rebuilt. -/
  | collectVictim (damaged : List Nat) (lost : List Nat)
/-- SEGMENT_ERASE (R274): A DRAINED segment whose erase conditions hold has its member blocks erased in slices. -/
  | segmentErase (segment : Nat)
/-- ERASE_CLEAR_REQ (R274): The partner answers once no read it booked names the segment. -/
  | eraseClearReq (segment : Nat)
/-- ERASE_CLEAR_ANS (R274): The partner's erase-clear lets a DRAINED segment be erased. -/
  | eraseClearAns (segment : Nat)
/-- CAP_REPORT (R281): The partner's live, metadata, free and reserved bytes are stored for capacity computation. -/
  | capReport (live metadata free reserved : Nat)
/-- CAPACITY_RECOMPUTE (R281): Every 100 ms the capacities are recomputed and a report is sent to the partner. -/
  | capacityRecompute
/-- LIVE_DELTA (R270): A live-byte change from the keeper is applied to the named segment. -/
  | liveDelta (segment chunk bytes : Nat)
/-- PATROL_UNIT (R277): Patrol reads one unit and runs its checks. -/
  | patrolUnit (result : PatrolRead)
/-- SEGMENT_QUERY (R264): SEG_CMD GO reads a segment's entry and one member's block into SEG_DATA0 to SEG_DATA2. -/
  | segmentQuery (media : Fin 2) (segment : BitVec 24) (member : BitVec 5)
/-- MEDIA_FAILOVER (R20): The active media manager fails and the standby becomes active. -/
  | mediaFailover
/-- PARITY_ENGINE_FAULT (R287): A parity engine failing its residue check leaves service and its work moves to another
     engine. -/
  | parityEngineFault (engine : Fin 4)
/-- REBUILD_SEGMENT (R298): A DEGRADED or CRITICAL segment is collected, rebuilding forms on lost members. Chunks
     whose form cannot be rebuilt. -/
  | rebuildSegment (segment : Nat) (lost : RebuildRead)
/-- REBUILD_STATUS_PUBLISH (R301): Every 10 s the remaining rebuild bytes and estimate are published. -/
  | rebuildStatusPublish
/-- LOST_EXTENT_SEARCH (R303): Map entries of a LOST chunk are found and LOST_EXTENT events posted. -/
  | lostExtentSearch
/-- SLOT_CHAIN_FRAME (R306): One slot-chain frame shifts out the outputs and latches the slot inputs, checking parity
     and the marker. The 64 input bytes, slot 0 first, and the byte after them. -/
  | slotChainFrame (inputs : List (BitVec 8)) (marker : BitVec 8)
/-- ATTENTION_BUTTON (R307): An attention button press takes effect after 20 ms. -/
  | attentionButton (slot : Fin 64)
/-- POWER_CONTROLLER_CONTROL (R309): A write of Slot Control Power Controller Control turns the module's PWREN on or
     off. -/
  | powerControllerControl (port : Fin 64) (off : Bool)
/-- INDICATOR_CONTROL (R309): A write of the Slot Control indicator fields sets the attention and power indicators on,
     off or blinking. -/
  | indicatorControl (port : Fin 64) (attention power : BitVec 2)
/-- POWERING_TIMEOUT (R310): PWR_GOOD not seen within 100 ms takes the module to POWER_FAULT. -/
  | poweringTimeout (port : Fin 64)
/-- PERST_RELEASE_DELAY (R310): 100 ms after PWR_GOOD, PERST_REL is set for the module. -/
  | perstReleaseDelay (port : Fin 64)
/-- MODULE_LINK_TRAINED (R310): The module link reaches L0 in flit mode and the module enters INIT. 64 GT/s rather
     than 32, two lanes rather than one, and flit mode. -/
  | moduleLinkTrained (port : Fin 64) (rate64 wide flit : Bool)
/-- MODULE_LINK_TIMEOUT (R310): No L0 within 100 ms of PERST_REL is retried, then POWER_FAULT. -/
  | moduleLinkTimeout (port : Fin 64)
/-- MQP_READY (R325): The module reports READY and its queues are configured and its geometry requested. -/
  | mqpReady (port : Fin 64)
/-- MODULE_INIT_TIMEOUT (R326): A module not IN_SERVICE 2 s after L0 becomes NONCONFORM. -/
  | moduleInitTimeout (port : Fin 64)
/-- MODULE_EVACUATED (R310): No segment of this head holds a member on the module, and it becomes EMPTIED. -/
  | moduleEvacuated (port : Fin 64)
/-- MODULE_PORT_LOSS (R323): A module port is lost, its commands complete as ABORTED and its members are lost. -/
  | modulePortLoss (port : Fin 64) (cause : PortLoss)
/-- READ_UNIT_COMPLETE (R317): A READ_UNIT completion delivers pages or a failure with its corrected bits and retry
     level. -/
  | readUnitComplete (done : MqpDone) (duration : Nat)
/-- READ_TAG_COMPLETE (R317): A READ_TAG completion delivers a page tag or reports an erased unit. The tag read, when
     it is valid. -/
  | readTagComplete (done : MqpDone) (duration : Nat) (tag : Option TagInfo)
/-- PROGRAM_UNIT_COMPLETE (R275): A PROGRAM_UNIT completion counts toward row durability, or retires the block or
     re-packs the row. -/
  | programUnitComplete (done : MqpDone) (duration : Nat)
/-- ERASE_BLOCK_COMPLETE (R274): An ERASE_BLOCK completion makes the block ERASED, retires it or reissues the erase.
     -/
  | eraseBlockComplete (done : MqpDone) (duration : Nat)
/-- GET_GEOMETRY_COMPLETE (R325): The geometry page is checked and the module's array word is read, or the module is
     found non-conforming. -/
  | getGeometryComplete (done : MqpDone) (geometry : Geometry)
/-- GET_DEFECTS_COMPLETE (R325): A die's defect bitmap is taken into the block table. -/
  | getDefectsComplete (done : MqpDone) (bad : List (BitVec 16))
/-- GET_HEALTH_COMPLETE (R316): The health page updates failed dies, temperature, power and wear. -/
  | getHealthComplete (done : MqpDone) (health : Health)
/-- SET_POWER_BUDGET_COMPLETE (R322): A power-budget command completes at the module. -/
  | setPowerBudgetComplete (done : MqpDone)
/-- SUSPEND_POLICY_COMPLETE (R319): A suspend-policy command completes at the module. -/
  | suspendPolicyComplete (done : MqpDone)
/-- ARB_CAS_COMPLETE (R321): An ARB_CAS completion returns the prior word value and counts toward a lease move or
     claim. -/
  | arbCasComplete (done : MqpDone) (prior : Word)
/-- MQP_COMMAND_TIMEOUT (R320): An MQP command not completed within its timeout is treated as failed. -/
  | mqpCommandTimeout (port : Fin 64) (queue : Fin 16) (cid : BitVec 16)
/-- LATE_READ (R320): A read 50 µs past its booked die time is treated as a check failure for its command. -/
  | lateRead (port : Fin 64) (queue : Fin 16) (cid : BitVec 16)
/-- FLIT_RECEIVE (R340): A flit is checked; a DATA flit is delivered or discarded with a NAK, and acks and credits are
     taken. -/
  | flitReceive (flit : Flit)
/-- SYNC_FLIT (R332): A SYNC flit feeds the partner servo, which adjusts the following head's rate and skew. The
     sender's time base, and the signed skew that the exchanges show, in ns. -/
  | syncFlit (sent : Nat) (skew : BitVec 32)
/-- NAK_REPEAT (R340): After 1 µs without the expected flit, the NAK is set again. -/
  | nakRepeat
/-- REPLAY_TIMEOUT (R340): No ACK progress for 1 µs makes the transmitter replay from ACK_SEQ. -/
  | replayTimeout
/-- REPLAY_LIMIT_QUAD_DROP (R342): A flit replayed 4 times drops a quad from the mask. Uncorrectable codewords of each
     quad in this beat. -/
  | replayLimitQuadDrop (errors : List Nat)
/-- QUAD_LOSS (R343): A lost quad starts a narrowing, or takes the link DOWN below three quads. -/
  | quadLoss (quad : Fin 6)
/-- WIDTH_ORDERED_SET (R343): A WIDTH set from the partner is answered and both ends switch to the ANDed mask. -/
  | widthOrderedSet (mask : BitVec 6)
/-- QUAD_RETURN (R344): A recovered quad retrains alone and the link widens as a planned change. -/
  | quadReturn (quad : Fin 6)
/-- TRAINING_ATTEMPT (R345): A Dikor training attempt starts at DETECT. -/
  | trainingAttempt
/-- TRAINING_STATE_COMPLETE (R345): A training state completes and the link moves to the next state, up to UP. The
     candidate quads, ANDed with the partner's in ALIGN. -/
  | trainingStateComplete (quads : BitVec 6)
/-- TRAINING_ATTEMPT_TIMEOUT (R345): An attempt not UP after 100 ms fails; three failures enter ABSENT. -/
  | trainingAttemptTimeout
/-- PARTNER_PRESENT_CHANGE (R345): PARTNER_PRSNT_N changes, failing an attempt or starting one from ABSENT. -/
  | partnerPresentChange (present : Bool)
/-- PARTNER_ABSENT_TIMEOUT (R346): PARTNER_PRSNT_N high for 10 µs while UP takes the link DOWN. -/
  | partnerAbsentTimeout
/-- LINK_RETRY_TIMER (R346): 1 ms after DOWN a new training attempt starts. -/
  | linkRetryTimer
/-- ABSENT_RETRY_TIMER (R347): In ABSENT a training attempt starts every 1 s. -/
  | absentRetryTimer
/-- PARTNER_WAIT_EXPIRY (R347): The PARTNER_WAIT timer expires and solo boot may be attempted. -/
  | partnerWaitExpiry
/-- SOLO_BOOT_RECHECK (R370): A WAITING head checks the lease again every STALE_MS. -/
  | soloBootRecheck
/-- IDENTITY (R348): The partner's identity message is checked and the link continues to CREDIT or is REFUSED. -/
  | identity (id : DkIdentity)
/-- HEARTBEAT_LOSS (R352): No accepted heartbeat edge for 2,000 ns, or bad periods, declares the heartbeat lost. ns
     since the partner's last edge, and whether flits still arrive. -/
  | heartbeatLoss (edge : Nat) (flits : Bool)
/-- HEARTBEAT_RESTORED (R352): 64 consecutive good periods make the heartbeat present again. -/
  | heartbeatRestored
/-- HOLDUP (R192): The partner's HOLDUP notice raises PARTNER_HOLDUP. -/
  | holdup
/-- FENCE (R359): A FENCE message makes this head fence itself. -/
  | fence (word : Word)
/-- LEASE_RENEWAL (R358): Every RENEW_MS the head increments its renewal word on every module and checks the lease. -/
  | leaseRenewal
/-- JOIN_START (R371): The joiner learns s0 and receives teed and bulk-copied records into its mirror. -/
  | joinStart (s0 tail : Nat)
/-- BULK (R371): A bulk record copy is written at its ring offset and applied to the standby state. -/
  | bulk (record : JRec) (members : List (Nat × Nat × Nat))
/-- JOIN_READY (R371): The server sets MIRROR_READY, leaves solo and moves the lease to PAIRED. -/
  | joinReady (held : Nat)
/-- MIRROR_AUDIT (R369): Every AUDIT_MS a window of own records is digested and sent to the partner. -/
  | mirrorAudit
/-- AUDIT_DIGEST (R369): The partner's audit digest is compared and differing records are found and repaired. `answer`
     is the partner's digest for this head's own window; of one record, whether each copy's `CRC` checks. -/
  | auditDigest (first records : Nat) (digest : Word256) (answer ownGood mirrorGood : Bool)
/-- MIRROR_FETCH (R289): A request for a mirror copy of a record or form is answered. -/
  | mirrorFetch (item : FetchItem)
/-- MIRROR_COPY (R289): A mirror copy replaces a damaged own copy. -/
  | mirrorCopy (item : CopyItem)
/-- OWN_DIGEST (R379): The partner's ownership-table digest is compared and a mismatch persisting 10 beats is logged.
     -/
  | ownDigest (crc : BitVec 32)
/-- GROUP_SWAP_PERIOD (R375): Each SWAP_PERIOD_H head 0 forms group pairs and starts the periodic swaps. -/
  | groupSwapPeriod
/-- BATON_OFFER (R373): An offer to hand over a group is accepted or aborted. -/
  | batonOffer (group : BitVec 8) (gen : BitVec 32) (handover : Nat)
/-- BATON_ACCEPT (R373): The receiver's acceptance lets the owner stop booking the group past Bh. -/
  | batonAccept (group : BitVec 8) (handover : Nat)
/-- BATON_ABORT (R374): An aborted swap is logged and the group stays with its owner. -/
  | batonAbort (group : BitVec 8) (cause : BitVec 8)
/-- BATON_ANSWER_TIMEOUT (R373): No answer by Bo + 32 aborts the swap. -/
  | batonAnswerTimeout (group : BitVec 8)
/-- BATON_HANDOVER (R373): At Bh the owner heads RELEASE and the receiver heads the baton commit. -/
  | batonHandover (group : BitVec 8)
/-- BATON_COMMIT (R374): The new owner's commit is recorded and both heads change the group's ANA state. -/
  | batonCommit (group : BitVec 8) (gen : BitVec 32) (handover : Nat)
/-- FWD_CMD (R355): A forwarded command is drafted by the owner, or redirected when the group has moved. -/
  | fwdCmd (cmd : FwdCmd) (standby : Standby)
/-- FWD_DATA (R355): Forwarded command data arrives for the other head. -/
  | fwdData (tag off : Nat) (data : Bytes) (toOwner : Bool)
/-- FWD_CPL (R355): The owner's completion is posted by the receiving head, or a redirect is handled. `delay` is the
     Command Retry Delay asked for. -/
  | fwdCpl (tag sct sc delay : Nat) (redirect : Bool) (standby : Standby)
/-- KCV_LIST (R397): The partner's key check values are compared and mismatching tenants get the busy status. -/
  | kcvList (entries : List KcvEntry) (last : Bool)
/-- SANITIZE_STEP (R335): A sanitize START, DONE or PROGRESS message drives the other head's phase work. -/
  | sanitizeStep (tenant : BitVec 12) (phase : Fin 8) (op : Fin 4) (erased seq : Nat)
/-- REPL_FWD (R381): A replication message is forwarded between the connection head and the owner. -/
  | replFwd (toOwner : Bool) (head : RplHead) (msg : RplMsg)
/-- PICK_SHADOW (R485): The partner's tenant-table shadow is held for takeover. The counters that are not 0, by index
     in the tenant table. -/
  | pickShadow (epoch : BitVec 32) (head : BitVec 8) (time : Nat) (counters : List (Nat × Nat))
/-- REPL_HELLO (R382): HELLO is checked, including the salt check, or the relationship goes to ERROR. -/
  | replHello (head : RplHead) (hello : RplHello)
/-- REPL_OFFER (R387): Offered fingerprints are looked up and answered with NEED. -/
  | replOffer (head : RplHead) (ents : List OfferEnt)
/-- REPL_NEED (R387): The source sends dictionaries and grains for the needed entries. -/
  | replNeed (head : RplHead) (offer : Nat) (needed : List Bool) (dicts : List Nat)
/-- REPL_GRAIN (R386): A received grain is checked, re-encrypted and stored at the target. -/
  | replGrain (head : RplHead) (ents : List GrainEnt)
/-- REPL_DICT (R386): A received dictionary is installed and mapped for the relationship. -/
  | replDict (head : RplHead) (id len : Nat) (part : Bytes)
/-- REPL_MAPDELTA (R385): Received ranges are deallocated in the staging tree. -/
  | replMapdelta (head : RplHead) (ranges : List (Nat × Nat))
/-- REPL_COMMIT (R387): The target checks the cycle, installs the staging tree, snapshots the replica and
     acknowledges. -/
  | replCommit (head : RplHead) (snap offered ranges : Nat) (digest : Word256)
/-- REPL_ACK (R385): An ACK returns credits and status; COMMITTED ends a cycle. `rtt` is the highest round trip on the
     connection in the last 10 s, in ns. -/
  | replAck (head : RplHead) (acked credits status entry rtt : Nat)
/-- REPL_SYNC_WRITE (R390): A synchronous write is drafted at the target and answered at its durability point. -/
  | replSyncWrite (head : RplHead) (write : SyncWrite) (standby : Standby)
/-- REPL_SYNC_ACK (R390): DURABLE releases the waiting source write, REFUSED fractures the relationship. -/
  | replSyncAck (head : RplHead) (seq status rtt : Nat)
/-- REPL_BASE (R392): The target snapshots the replica after all earlier synchronous writes. -/
  | replBase (head : RplHead) (seq : Nat)
/-- REPL_CYCLE_START (R387): Every INTERVAL_S an asynchronous cycle starts with a new snapshot, or is skipped. The
     index of the relationship at this head. -/
  | replCycleStart (rel : Nat)
/-- REPL_RETRY_TIMER (R388): RETRY_S after an abort the cycle is repeated with the same snapshot pair. -/
  | replRetryTimer (rel : Nat)
/-- SYNC_BASE_TIMER (R392): Every SYNC_BASE_MIN an IN_SYNC source snapshots and sends BASE. -/
  | syncBaseTimer (rel : Nat)
/-- SYNC_ACK_TIMEOUT (R391): No SYNC_ACK by the end of the booked wait fractures the relationship. -/
  | syncAckTimeout (rel seq : Nat)
/-- KEYS_IMPORT (R396): KEYS.CMD IMPORT unwraps and checks a key record and loads it into its slot. The blob is what
     `KEYS.ARG` points at. -/
  | keysImport (src : BitVec 5) (slot : BitVec 15) (blob : Bytes)
/-- KEYS_EXPORT (R398): KEYS.CMD EXPORT wraps a slot's record under a peer transfer key. -/
  | keysExport (slot : BitVec 15) (peer : BitVec 4)
/-- KEYS_ZEROIZE (R401): KEYS.CMD ZEROIZE empties a CONN or PSK slot and invalidates it on the key bus. -/
  | keysZeroize (slot : BitVec 15)
/-- KEYS_INFO (R394): KEYS.CMD INFO returns a slot's epoch, fullness and KCV. -/
  | keysInfo (slot : BitVec 15)
/-- KEYS_PEER_SET (R398): KEYS.CMD PEER_SET writes a peer-table entry. The 96-byte public key is what `KEYS.ARG`
     points at. -/
  | keysPeerSet (peer : BitVec 4) (key : Bytes)
/-- LEDGER_APPEND_DONE (R447): A ledger entry is durable and the key command completes. -/
  | ledgerAppendDone
/-- KEY_DROP_DONE (R401): Every engine has dropped an invalidated slot, and the key change completes. -/
  | keyDropDone
/-- ECDHE_GEN (R403): An ephemeral key pair is generated into a DERIVED slot. The group is secp384r1 or secp256r1. -/
  | ecdheGen (p384 : Bool) (slot : BitVec 15)
/-- ECDH (R403): A shared secret is computed into a DERIVED slot. -/
  | ecdh (priv : BitVec 15) (peer : Bytes) (dst : BitVec 15)
/-- EXTRACT (R403): HKDF-Extract is computed into a DERIVED slot. No slot stands for zero. -/
  | extract (salt input : Option (BitVec 15)) (dst : BitVec 15)
/-- EXPAND_LABEL (R403): HKDF-Expand-Label is computed into a DERIVED slot or a connection key set. -/
  | expandLabel (secret : BitVec 15) (label context : Bytes) (dst : ExpandDst)
/-- MAC (R403): An HMAC over a transcript hash is returned. -/
  | mac (key : BitVec 15) (hash : Bytes)
/-- SCHED_ZEROIZE (R403): The schedule unit zeroizes a slot. -/
  | schedZeroize (slot : BitVec 15)
/-- DERIVED_SLOT_EXPIRY (R394): A DERIVED slot is zeroized 10 s after it was written. -/
  | derivedSlotExpiry (slot : BitVec 15)
/-- TRNG_HEALTH_FAIL (R402): A failed TRNG health test stops random output and records TRNG_FAIL. -/
  | trngHealthFail
/-- TRNG_RECOVER (R402): 1,024 consecutive passing samples restart the TRNG. -/
  | trngRecover
/-- XTS_OPERATION (R404): A cipher engine performs AES-256-XTS on one data unit or fails on its limits. -/
  | xtsOperation (encrypt : Bool) (slot : BitVec 15) (tweak : BitVec 128) (data : Bytes)
/-- GCM_OPERATION (R404): A cipher engine performs AES-GCM, releasing plaintext only after the tag verifies. `mac` is
     the tag of a decryption. -/
  | gcmOperation (encrypt : Bool) (slot : BitVec 15) (setB : Bool) (iv aad data mac : Bytes)
/-- DIGEST_INIT (R407): A management digest context is loaded with a standard IV. -/
  | digestInit (ctx : Fin 8) (alg : Hash)
/-- DIGEST_KEYPAD_I (R407): A context is keyed with the inner pad of a session key. -/
  | digestKeypadI (ctx : Fin 8) (level : SessLevel)
/-- DIGEST_KEYPAD_O (R407): A context is keyed with the outer pad of a session key. The inner context ends over `msg`
     and its result passes to the outer one. -/
  | digestKeypadO (ctx : Fin 8) (level : SessLevel) (inner : Fin 8) (msg : Bytes)
/-- DIGEST_RESTORE (R407): A saved context is restored. A wrapped context by its source and save sequence, or an
     unkeyed context of an algorithm. -/
  | digestRestore (ctx : Fin 8) (source : Fin 8) (seq : BitVec 32) (alg : Option Hash)
/-- DIGEST_FINAL (R407): An unkeyed context ends with a readable digest. The message is what the context has digested.
     -/
  | digestFinal (ctx : Fin 8) (msg : Bytes)
/-- DIGEST_FINAL_COMPARE (R408): A digest is compared on the MATCH and MATCH_N pair. The value is what firmware puts
     into `MEAS.CMP_VALUE`; a flip is a fault of that comparator. -/
  | digestFinalCompare (ctx : Fin 8) (msg value : Bytes) (flipM flipN : Bool)
/-- MEAS_EXT_GO (R409): MEAS.EXT_CMD extends a measurement register from 16 to 23. -/
  | measExtGo (mr : BitVec 5)
/-- CHALLENGE_REQUEST (R411): A session challenge of 32 TRNG bytes is issued for a level. -/
  | challengeRequest (level : SessLevel)
/-- CHALLENGE_RESPONSE (R411): A challenge answer is checked and a session opens or a failure is counted. -/
  | challengeResponse (level : SessLevel) (answer : Word256)
/-- CHALLENGE_EXPIRY (R411): An unanswered challenge expires after 10 s. -/
  | challengeExpiry (level : SessLevel)
/-- SESSION_CLOSE (R411): An explicit close ends a session. -/
  | sessionClose (level : SessLevel) (id : BitVec 32)
/-- ADMIN_IDLE_TIMEOUT (R411): IDLE_S without a command closes the admin session. -/
  | adminIdleTimeout
/-- SESSION_LOCK_EXPIRY (R412): A locked session level unlocks when its lock time ends. -/
  | sessionLockExpiry (level : SessLevel)
/-- KCV_EXCHANGE_TIMER (R397): Every 60 s while paired, the heads exchange key check values. -/
  | kcvExchangeTimer
/-- TAMPER_ALARM (R414): A tamper source alarms, a record is written, the latch set and the response applied. Whether
     `VDD_STBY` is present, and the RTC's time. -/
  | tamperAlarm (source : Fin 6) (standby : Bool) (sec : Nat) (frac : Fin 32768)
/-- LIFE_TAMPER_CLEAR (R415): LIFE.TAMPER_CLEAR clears the latch under a session and starts a full ledger load. `bad`
     lists the slots whose ledger entry fails its unwrap in the load that follows. -/
  | lifeTamperClear (confirm : BitVec 6) (clear : Bool) (bad : List (BitVec 15))
/-- SPDM_GET_VERSION (R410): SPDM GET_VERSION is answered. -/
  | spdmGetVersion (ch : Channel)
/-- SPDM_GET_CAPABILITIES (R410): SPDM GET_CAPABILITIES is answered. -/
  | spdmGetCapabilities (ch : Channel)
/-- SPDM_NEGOTIATE_ALGORITHMS (R410): SPDM NEGOTIATE_ALGORITHMS is answered. Whether the requester offers each of the
     algorithms supported. -/
  | spdmNegotiateAlgorithms (ch : Channel) (ecdsaP384 sha384 measSha384 : Bool)
/-- SPDM_GET_DIGESTS (R410): SPDM GET_DIGESTS returns the certificate digests. -/
  | spdmGetDigests (ch : Channel)
/-- SPDM_GET_CERTIFICATE (R410): SPDM GET_CERTIFICATE returns the certificate chain. -/
  | spdmGetCertificate (ch : Channel) (slot : BitVec 8) (offset length : BitVec 16)
/-- SPDM_CHALLENGE (R410): SPDM CHALLENGE is answered and signed with the identity key. -/
  | spdmChallenge (ch : Channel) (slot : BitVec 8) (nonce : Word256)
/-- SPDM_GET_MEASUREMENTS (R410): SPDM GET_MEASUREMENTS returns measurement blocks, signed when asked. Index 0 asks
     for no block, 0xFF for all, 1 to 24 for one. -/
  | spdmGetMeasurements (ch : Channel) (index : BitVec 8) (signed : Bool) (nonce : Word256)
/-- SPDM_UNSUPPORTED (R410): An unsupported SPDM request is answered with ERROR UnsupportedRequest. -/
  | spdmUnsupported (ch : Channel)
/-- RAIL_POLL (R419): Every 10 ms every rail is read over PMBus and VDD_CORE7 is reset from its monitors. The readings
     of the twelve rails, in rail order, and what the process monitors ask of `VDD_CORE7`, in mV. -/
  | railPoll (vout iout status : List (BitVec 16)) (core7 : BitVec 16)
/-- PMB_ALERT (R419): PMB_ALERT_N makes PWR read STATUS_WORD within 1 ms and record warnings. The `STATUS_WORD` read,
     and whether it holds a warning bit. -/
  | pmbAlert (rail : Fin 12) (status : BitVec 16) (warning : Bool)
/-- RAIL_STEP (R418): A moving rail takes its next 5 mV step after 100 µs. -/
  | railStep (rail : Fin 8)
/-- DOMAIN_POWER_UP_DONE (R420): A domain reaches ON and the next waiting power-up starts. -/
  | domainPowerUpDone (dom : Fin 183)
/-- DOMAIN_POWER_DOWN_DONE (R420): A domain reaches RETENTION or GATED after isolation. -/
  | domainPowerDownDone (dom : Fin 183)
/-- SUBDOMAIN_IDLE (R421): A DPC sub-domain idle for 1 ms with no booking enters RETENTION. -/
  | subdomainIdle (dom : Fin 183)
/-- DOMAIN_VOLTAGE_SETTLED (R424): A raised domain voltage settles and its clock rises at the next boundary. DPC 0 to
     17, then service core 0 to 15. -/
  | domainVoltageSettled (dvfs : Fin 34)
/-- CLOCK_LOSS (R429): A clock-loss detector trips and the loss is handled as a fatal, block or interface fault. -/
  | clockLoss (domain : Fin 41)
/-- WARP_SEGMENT_FAULT (R12): A Warp fabric segment fault is a head fault, fatal cause 5. -/
  | warpSegmentFault
/-- THERMAL_SAMPLE (R430): Every 20 µs every thermal sensor is sampled and zone temperatures updated. The 64 sensors'
     samples, signed Q8.8 degrees C. -/
  | thermalSample (temps : List (BitVec 16))
/-- THERMAL_EMERGENCY_CLEAR (R432): Every sensor 3 °C below EMERG_C for 10 ms clears the emergency. -/
  | thermalEmergencyClear
/-- HARDWARE_TRIP (R433): A site at 115 °C drives THERMTRIP_N low, stops main clocks and enters fatal cause 8. -/
  | hardwareTrip
/-- TEMPLE_LOOP_SAMPLE (R434): A Temple loop computes one PID sample and drives its output. -/
  | templeLoopSample (loop : Fin 8)
/-- LOOP_ENABLE (R438): CTRL.ENABLE starts or stops a loop, holding U_SAFE while disabled. -/
  | loopEnable (loop : Fin 8) (enable : Bool)
/-- LOOP_HOLD (R437): CTRL.HOLD freezes or releases a loop's output and integrator. -/
  | loopHold (loop : Fin 8) (hold : Bool)
/-- LOOP_I_RESET (R438): CTRL.I_RESET sets the integrator to U_SAFE at the next sample. -/
  | loopIReset (loop : Fin 8)
/-- FAN_STALL (R441): A tachometer below FAN_MIN_RPM for 2 s records FAN_STALL and runs fans at full speed. -/
  | fanStall (fan : Fin 4)
/-- FAN_RECOVER (R441): A tachometer good for 2 s returns the fans to loop control. -/
  | fanRecover (fan : Fin 4)
/-- EVENT_RECORD (R453): An event record is rate-limited, buffered or dropped, and copied to its export destinations.
     The severity counts for a code that no chapter defines. -/
  | eventRecord (code : BitVec 12) (sev : BitVec 3) (srcType srcInst : BitVec 16) (arg0 arg1 : Word)
/-- EVENT_SUMMARY (R454): A refilled token bucket writes a summary record of its suppressed records. The severity
     counts for a code that no chapter defines. -/
  | eventSummary (code : BitVec 12) (sev : BitVec 3)
/-- EVENT_FLUSH_TIMER (R455): FLUSH_MS after the last flush the buffer is flushed. -/
  | eventFlushTimer
/-- EVREC_FLUSH_WRITE (R455): A 1 written to EVREC.FLUSH starts a flush. -/
  | evrecFlushWrite
/-- EVENT_FLUSH_DONE (R455): A flush completes and the ring write position advances. `ok` is whether the NOR program
     succeeded. -/
  | eventFlushDone (ok : Bool)
/-- EVREC_READ_RING (R456): RD_CMD reads one ring slot into RD_DATA. -/
  | evrecReadRing (index : BitVec 32)
/-- EVREC_READ_BUFFER (R453): RD_CMD reads one buffer entry into RD_DATA. -/
  | evrecReadBuffer (index : BitVec 32)
/-- EVREC_RATE_WRITE (R454): RATE_CMD write sets a code's rate and depth, keeping the bucket level. The rate and depth
     are those in `EVREC.RATE_DATA`. -/
  | evrecRateWrite (code : BitVec 12)
/-- EVREC_RATE_READ (R454): RATE_CMD read returns a code's rate, depth, level and suppressed count. -/
  | evrecRateRead (code : BitVec 12)
/-- PLDM_FIRMWARE_UPDATE (R461): A PLDM type 5 update delivers a Tarren image and starts a live update. -/
  | pldmFirmwareUpdate (image : Image)
/-- UART_IMAGE_RECEIVE (R448): In RECOVERY a Tarren image received over XMODEM-1K is checked and accepted. -/
  | uartImageReceive (image : Image)
/-- UPDATE_SLOT_PROGRAMMED (R461): The inactive slot is programmed and verified, the directory rewritten and
     management restarted. `ok` is whether the program, its erases and the verification from NOR succeeded. -/
  | updateSlotProgrammed (ok : Bool)
/-- TRIAL_CONFIRM (R446): 120 s without a watchdog expiry confirms the trial image. -/
  | trialConfirm
/-- SENSOR_SAMPLE (R449): Voltage, current, fan and power monitors are sampled. -/
  | sensorSample (sample : Sensor)
/-- GLITCH_DETECT (R450): A supply dip or short reference period records GLITCH and may restart management. -/
  | glitchDetect (detector : Detector)
/-- PLDM_BASE_COMMAND (R448): A PLDM base command is answered. -/
  | pldmBaseCommand (cmd : PldmBase)
/-- PLDM_GET_PDR (R448): GetPDR returns a platform descriptor record. -/
  | pldmGetPdr (handle : BitVec 32)
/-- PLDM_GET_SENSOR_READING (R448): GetSensorReading returns a numeric sensor value. -/
  | pldmGetSensorReading (id : BitVec 16)
/-- PLDM_GET_STATE_SENSOR_READINGS (R448): GetStateSensorReadings returns state sensor values. -/
  | pldmGetStateSensorReadings (id : BitVec 16)
/-- PLDM_SET_EVENT_RECEIVER (R448): SetEventReceiver sets where platform events are sent. -/
  | pldmSetEventReceiver (eid : BitVec 8)
/-- PLDM_UNSUPPORTED (R448): An unsupported PLDM command completes with ERROR_UNSUPPORTED_PLDM_CMD. -/
  | pldmUnsupported
/-- MCTP_SET_ENDPOINT_ID (R448): Set Endpoint ID assigns the MCTP endpoint ID. -/
  | mctpSetEndpointId (eid : BitVec 8)
/-- MCTP_GET_ENDPOINT_ID (R448): Get Endpoint ID returns the endpoint ID. -/
  | mctpGetEndpointId
/-- MCTP_GET_VERSION_SUPPORT (R448): Get MCTP Version Support returns the supported versions. -/
  | mctpGetVersionSupport
/-- MCTP_GET_MESSAGE_TYPE_SUPPORT (R448): Get Message Type Support returns PLDM and SPDM. -/
  | mctpGetMessageTypeSupport
/-- MCTP_OTHER_TYPE (R448): An MCTP message of any other type is discarded. -/
  | mctpOtherType
/-- OOB_FRAME_RECEIVE (R448): An out-of-band frame is answered for ARP, ND or echo, or discarded. -/
  | oobFrameReceive (frame : OobFrame) (forUs : Bool) (data : Bytes)
/-- WORK_ITEM (R465): A service core takes and runs one work item from a queue it owns. Whether the item leaves a next
     item of its chain, the DVFS step the firmware requests (0 none), and the percent of the last 10 ms the core ran
     items. -/
  | workItem (core : Fin 16) (queue : Fin 64) (again : Bool) (reqStep : BitVec 4) (busy : Fin 101)
/-- CORE_WATCHDOG_EXPIRY (R466): A core not servicing its watchdog within WDOG_MS goes to FAILED. -/
  | coreWatchdogExpiry (core : Fin 16)
/-- CORE_FAULT (R466): A core fault or SRAM parity error takes the core to FAILED and its queues to others. -/
  | coreFault (core : Fin 16)
/-- INTERRUPT_REQUEST (R471): A source request is routed to the eligible core with the lowest running priority.
     `holds` is whether the condition lasts beyond its sampling. -/
  | interruptRequest (src : BitVec 10) (holds : Bool)
/-- INTC_CLAIM (R473): A core reading CLAIM takes its highest-priority routed source into service. -/
  | intcClaim (core : Fin 16)
/-- INTC_COMPLETE (R473): A core writing COMPLETE takes the source out of service and restores its running priority.
     -/
  | intcComplete (core : Fin 16) (src : BitVec 10)
/-- HOLDOFF_EXPIRY (R474): A group hold-off ends and its requesting sources become pending together. -/
  | holdoffExpiry (group : Fin 64)
/-- PICK_EPOCH_ANNOUNCE (R482): PICK announces the next epoch time to every unit at least 10 µs ahead. -/
  | pickEpochAnnounce
/-- PICK_EPOCH_LATCH (R482): At the epoch every unit latches its counters into a free shadow, or replaces or skips
     under R483. -/
  | pickEpochLatch
/-- TALLY_RECORD_WRITE (R484): A held snapshot is written to the tally ring when DMA is allowed and room exists,
     raising its vector. -/
  | tallyRecordWrite
/-- PICK_COUNTER_READ (R477): PICK.RD_CMD reads one counter live into RD_DATA. -/
  | pickCounterRead (index : BitVec 32)
/-- TRACE_RECORD (R487): A source emits a trace record to the sink, or drops it and later emits LOST. `full` is
     whether the source's queue holds 16 records. -/
  | traceRecord (src : BitVec 6) (item : TraceItem) (full : Bool)
/-- TRACE_SYNC_TIMER (R487): Each enabled source emits a SYNC at least every 1 ms. The program counters of the service
     cores and the management core. -/
  | traceSyncTimer (pcs : List (BitVec 48))
/-- TRACE_BUFFER_READ (R490): Successive reads of TRACE.RD return the on-chip buffer from the oldest record. -/
  | traceBufferRead
/-- CONFIG_REQUEST (R495): A PCIe configuration request is answered, with Request Retry Status before boot step 6. -/
  | configRequest (write : Bool) (reg : CfgReg) (data : BitVec 32)
/-- FUNCTION_LEVEL_RESET (R495): FLR resets the function with PERST_N scope while the link stays up. -/
  | functionLevelReset
/-- POWER_STATE_CHANGE (R496): The function enters D0, D3hot or D3cold and DMA and MSI-X are held or released. -/
  | powerStateChange (dst : DState)
/-- APERTURE_ACCESS (R494): A BAR2/3 access reaches permitted DRAM or reads zero and is counted. -/
  | apertureAccess (write : Bool) (addr : BitVec 36) (data : Word)
/-- SQ_TAIL_DOORBELL (R500): A command-ring tail doorbell makes new commands available for fetch. -/
  | sqTailDoorbell (ring : Fin 16) (value : BitVec 32)
/-- CQ_HEAD_DOORBELL (R500): A completion-ring head doorbell frees completion slots. -/
  | cqHeadDoorbell (ring : Fin 16) (value : BitVec 32)
/-- EV_CONS_DOORBELL (R500): The event-ring consumer doorbell frees event slots. -/
  | evConsDoorbell (value : BitVec 32)
/-- COMMAND_FETCH (R498): A command is fetched from an enabled ring and checked for token replay, session and scope.
     The header of the command entry; its arguments come with the command that executes it. -/
  | commandFetch (ring : Fin 16) (opcode : BitVec 16) (barrier : Bool) (cmdId : BitVec 32) (token : Word) (session : BitVec 32)
/-- COMMAND_COMPLETION_POST (R504): A finished control command's completion is posted, or kept when its ring was
     reset. The tag is the number of the command in fetch order. -/
  | commandCompletionPost (tag : Nat)
/-- ALIVE_BEAT (R496): A write of CTLCH.ALIVE restarts the absence timer. -/
  | aliveBeat
/-- ALIVE_TIMEOUT (R496): ALIVE_MS without a beat marks the control plane absent. -/
  | aliveTimeout
/-- WAKE_REARM (R497): 1 s after a release, WAKE_N may be driven low again. -/
  | wakeRearm
/-- RING_ENABLE (R498): Setting a ring's EN resets its indexes and starts fetching. Ring 16 is the event ring. -/
  | ringEnable (ring : Fin 17) (cplBase : BitVec 40) (log2 : BitVec 4)
/-- RING_DISABLE (R499): Clearing a ring's EN stops fetching; commands in progress complete without posting. Ring 16
     is the event ring. -/
  | ringDisable (ring : Fin 17)
/-- IDENTIFY (R507): The control command returns the head's identity and status. Where the 4,096 bytes go. -/
  | identify (tag : Nat) (buf : CtlBuf) (addr : Word)
/-- ARRAY_CREATE (R507): The array id is set and every unclaimed module in service is claimed. -/
  | arrayCreate (tag : Nat) (buf : CtlBuf) (array : BitVec 48)
/-- REJOIN (R371): A fenced head is asked to join the serving head. -/
  | rejoin (tag : Nat) (buf : CtlBuf)
/-- REBALANCE (R376): One named group is moved to a named head by a role swap. -/
  | rebalance (tag : Nat) (buf : CtlBuf) (group target : BitVec 8)
/-- TIME_CONFIG (R95): The PTP port, domain, transport and time source are set. -/
  | timeConfig (tag : Nat) (buf : CtlBuf) (lane : BitVec 16) (domain transport src : BitVec 8)
/-- ADDRESS_RETURN (R94): An address is released by clearing ACTIVE before its home head announces it. -/
  | addressReturn (tag : Nat) (buf : CtlBuf) (entry : BitVec 8)
/-- TENANT_CREATE (R96): A tenant and its NVM subsystem are created. -/
  | tenantCreate (tag : Nat) (buf : CtlBuf) (tenant crdt1 crdt2 crdt3 : BitVec 16) (nqn sn mn : Bytes)
/-- TENANT_DELETE (R507): A tenant is sanitized through phases 1 to 4 and its subsystem removed. -/
  | tenantDelete (tag : Nat) (buf : CtlBuf) (tenant : BitVec 16)
/-- TENANT_HOSTS (R98): A host NQN is added to or removed from a tenant's allowed list with its class. -/
  | tenantHosts (tag : Nat) (buf : CtlBuf) (tenant : BitVec 16) (op cls : BitVec 8) (nqn : Bytes)
/-- TENANT_CONTRACT (R149): A tenant's Reed contract is staged and committed. -/
  | tenantContract (tag : Nat) (buf : CtlBuf) (tenant : BitVec 16) (w0 w1 w2 w3 : Word)
/-- TENANT_REDUCTION (R209): A tenant's dedup, compression and verify modes are set. -/
  | tenantReduction (tag : Nat) (buf : CtlBuf) (tenant : BitVec 16) (dedup comp verify : BitVec 8)
/-- TENANT_PSK_MAP (R403): A PSK identity is mapped to or unmapped from a PSK slot. -/
  | tenantPskMap (tag : Nat) (buf : CtlBuf) (slot : BitVec 16) (op : BitVec 8) (identity : Bytes)
/-- GROUP_CREATE (R354): A volume group is created with its owner. -/
  | groupCreate (tag : Nat) (buf : CtlBuf) (group owner : BitVec 8)
/-- GROUP_DELETE (R507): An empty volume group is deleted. -/
  | groupDelete (tag : Nat) (buf : CtlBuf) (group : BitVec 8)
/-- VOLUME_CREATE (R99): A namespace is created and attached to every controller of its subsystem. -/
  | volumeCreate (tag : Nat) (buf : CtlBuf) (volume tenant : BitVec 16) (nsid : BitVec 32) (group lbaf : BitVec 8) (blocks : Word) (nguid : BitVec 128) (eui64 : Word)
/-- VOLUME_RESIZE (R507): A namespace is resized, deallocating cut grains when it shrinks. -/
  | volumeResize (tag : Nat) (buf : CtlBuf) (volume : BitVec 16) (blocks : Word)
/-- VOLUME_DELETE (R507): A namespace with no clone or relationship is deleted. -/
  | volumeDelete (tag : Nat) (buf : CtlBuf) (volume : BitVec 16)
/-- VOLUME_PIN (R240): A 4 KiB volume is pinned or unpinned and its pin state journaled. -/
  | volumePin (tag : Nat) (buf : CtlBuf) (volume : BitVec 16) (pin : BitVec 8)
/-- SNAPSHOT_CREATE (R251): Snapshot creation of one volume or a consistency group is requested and Bs fixed. -/
  | snapshotCreate (tag : Nat) (buf : CtlBuf) (volumes : List (BitVec 16))
/-- SNAPSHOT_DELETE (R253): A snapshot is deleted, or hidden while a clone uses it. -/
  | snapshotDelete (tag : Nat) (buf : CtlBuf) (snapshot : BitVec 32)
/-- CLONE_CREATE (R254): A new volume is created rooted at a snapshot. -/
  | cloneCreate (tag : Nat) (buf : CtlBuf) (snapshot : BitVec 32) (volume : BitVec 16) (nsid : BitVec 32)
/-- DICT_CONTROL (R224): A volume's dictionaries are pinned, unpinned, forbidden, permitted or installed. -/
  | dictControl (tag : Nat) (buf : CtlBuf) (volume : BitVec 16) (op : BitVec 8) (content : Bytes)
/-- REPL_CREATE (R380): A replication relationship is created. -/
  | replCreate (tag : Nat) (buf : CtlBuf) (rel volume : BitVec 16) (mode : BitVec 8) (interval : BitVec 32) (entry : BitVec 8) (array : BitVec 48) (ip : BitVec 128) (remote : BitVec 16)
/-- REPL_MODIFY (R387): A replication relationship's parameters are changed. -/
  | replModify (tag : Nat) (buf : CtlBuf) (rel volume : BitVec 16) (mode : BitVec 8) (interval : BitVec 32) (entry : BitVec 8) (array : BitVec 48) (ip : BitVec 128) (remote : BitVec 16)
/-- REPL_DELETE (R507): A relationship is deleted with its base snapshots. -/
  | replDelete (tag : Nat) (buf : CtlBuf) (rel : BitVec 16)
/-- REPL_REL_READ (R389): REPL.REL_CMD reads a relationship's state into REL_DATA0 and REL_DATA1. -/
  | replRelRead (rel : BitVec 16)
/-- KEY_IMPORT (R396): The control channel imports a wrapped key blob into a slot. -/
  | keyImport (tag : Nat) (buf : CtlBuf) (slot : BitVec 16) (src : BitVec 8) (blob : Bytes)
/-- KEY_EXPORT (R398): The control channel exports a slot wrapped for a peer. Where the 160 bytes go. -/
  | keyExport (tag : Nat) (buf : CtlBuf) (slot : BitVec 16) (peer : BitVec 8) (addr : Word)
/-- KEY_ZEROIZE (R401): The control channel zeroizes a CONN or PSK slot. -/
  | keyZeroize (tag : Nat) (buf : CtlBuf) (slot : BitVec 16)
/-- PEER_SET (R398): The control channel writes a peer public key. -/
  | peerSet (tag : Nat) (buf : CtlBuf) (peer : BitVec 8) (key : Bytes)
/-- SPDM (R410): An SPDM request carried on the control channel is answered in its buffer. -/
  | spdm (tag : Nat) (buf : CtlBuf) (request : SpdmReq)
/-- MEAS_EXTEND (R409): The control channel extends a measurement register from 16 to 23. -/
  | measExtend (tag : Nat) (buf : CtlBuf) (reg : BitVec 8) (value : Digest)
/-- LIFE_REQUEST (R71): The control channel requests a life-cycle transition. -/
  | lifeRequest (tag : Nat) (buf : CtlBuf) (target : BitVec 8)
/-- TAMPER_CLEAR (R415): The control channel clears the tamper latch. As for LIFE_TAMPER_CLEAR. -/
  | tamperClear (tag : Nat) (buf : CtlBuf) (confirm : BitVec 8) (bad : List (BitVec 15))
/-- UPDATE (R461): The control channel delivers a Tarren image and a live update starts. -/
  | update (tag : Nat) (buf : CtlBuf) (image : Image)
/-- ROLLBACK_COMMIT (R460): The anti-rollback count is advanced to the running image's SVN and lower keys revoked. -/
  | rollbackCommit (tag : Nat) (buf : CtlBuf)
/-- COUNTER_CONFIG (R481): The pick period and tally ring are set at one beat boundary. -/
  | counterConfig (tag : Nat) (buf : CtlBuf) (period ringEn : BitVec 8) (base bytes : Word)
/-- CTL_UNKNOWN_OPCODE (R503): A control command with an unknown opcode completes with INVALID_OPCODE. -/
  | ctlUnknownOpcode (tag : Nat)
/-- ARB_CAS_REISSUE (R325): An ARB_CAS of insertion step 7 or 8 that timed out is issued again 1 ms later. -/
  | arbCasReissue (port : Fin 64)
/-- NOR_ERASE_COMPLETE (R456): A NOR sector erase of event-ring or key-ledger reclaim completes and the count of
     erased sectors ahead grows. `ok` is whether the erase succeeded. -/
  | norEraseComplete (area : NorArea) (ok : Bool)
/-- TAMPER_ALARM_END (R415): A tamper source leaves its alarm level and TAMPER_STATUS.ACTIVE clears, which the latch
     clear requires. -/
  | tamperAlarmEnd (source : Fin 6)
/-- ETHP_LINK_UP (R73): A front-end port completes auto-negotiation and link training and comes up. -/
  | ethpLinkUp (port : Fin 64)
/-- UPSTREAM_LINK_TRAINED (R497): The upstream PCIe link reaches L0, which with the function in D0 releases WAKE_N. -/
  | upstreamLinkTrained (rate : BitVec 3) (width : BitVec 5)
/-- TCP_RETRANSMIT_TIMEOUT (R78): The retransmission timer of an NVMe/TCP connection expires and unacknowledged
     segments are sent again. -/
  | tcpRetransmitTimeout (conn : Fin 16384)
  deriving DecidableEq, Repr

end Sys2Proof
end

