-- ==== Sys2Proof/Decode.lean ====
section
/-!
DEFINITION. Sys2Proof/Decode.lean: the command that a word of the opcode table's bits spells. The table gives no row
any bits: the head takes events and register accesses from outside and has no instruction words.
-/

namespace Sys2Proof

/-- The command that a word spells: none, for the opcode table gives no row bits. -/
def decodeTableWord (_nbits _w : Nat) : Option Instr := none

end Sys2Proof
end

