-- ==== Sys2Proof/Config.lean ====
section
/-!
DEFINITION. Sys2Proof/Config.lean: what stepping B1 fixes about the shape of the register space (block types, access
codes, the form of a register's description) and the free values: results the spec names and does not define as a
number a model could compute. A free value has no body, so nothing can be proved about what it is.
-/

namespace Sys2Proof

/-- The 35 block types of R10, in page order. -/
inductive BlockType where
  | deck | chip | time | ethp | xpt | heddle | nvmf | loom | reed | dpc | selv | segw | media | mapx | modp | slot
  | dikor | own | repl | keys | life | meas | sess | dramc | pwr | temple | therm | evrec | svc | intc | pick | trace
  | upep | ctlch | mgmt
  deriving DecidableEq, Repr

/-- The access codes of R28; `w1c` is `W1C` or `RO, W1C`, `rosW1c` is `ROS, W1C`. -/
inductive Acc where
  | ro | rw | wo | w1c | w1s | ros | rosW1c | rwl
  deriving DecidableEq, Repr

/-- How a field's written value reads back where its chapter limits it. -/
inductive Fix where
  /-- as written -/
  | keep
  /-- clamped to a range -/
  | clamp (lo hi : Nat)
  /-- 0 reads as the value -/
  | zeroAs (n : Nat)
  /-- 0 stays, any other value is clamped -/
  | zeroOrClamp (lo hi : Nat)
  /-- a listed value, or the default -/
  | oneOf (vs : List Nat) (d : Nat)
  /-- the largest divisor at or below the value (R481) -/
  | divisorOf (n : Nat)
  /-- a signed value saturating at plus or minus the bound -/
  | clampSigned (m : Nat)
  deriving DecidableEq, Repr

/-- One field of a register: bits, access code and readback rule. -/
structure FieldDesc where
  hi  : Nat
  lo  : Nat
  acc : Acc
  fix : Fix
  deriving DecidableEq, Repr

/-- Where a register's reset value comes from. -/
inductive Rst where
  /-- one value -/
  | const (v : Nat)
  /-- a value per block number (R125, R259) -/
  | byPage (vs : List Nat)
  /-- a value per array index (R167, R417, R439) -/
  | byIndex (vs : List Nat)
  /-- PCIe Slot Capabilities of port k (R309) -/
  | slotCap
  /-- the number of pick counters and the record size (R477) -/
  | pickCounters
  deriving DecidableEq, Repr

/-- One register, or one array of registers, of a block type. -/
structure RegDesc where
  off    : Nat
  count  : Nat
  stride : Nat
  staged : Bool
  pick   : Bool
  rst    : Rst
  fields : List FieldDesc
  deriving DecidableEq, Repr

/-- A field of a register: the register's key (BAR0 address), its lowest bit and its width. -/
structure Fld where
  key : Nat
  lo  : Nat
  w   : Nat
  deriving DecidableEq, Repr

/-- What R526 and R31 fix about a block type in stepping B1. -/
structure BlockInfo where
  type       : BlockType
  /-- type code (R10) -/
  code       : Nat
  /-- first page and number of block numbers (R23) -/
  page       : Nat
  count      : Nat
  /-- the BLK_CAPS bits (R526) -/
  staging    : Bool
  drainable  : Bool
  spare      : Bool
  resettable : Bool
  /-- interrupt sources of each (R526) -/
  ints       : Nat
  /-- sits in the management domain (R31) -/
  mgmt       : Bool
  /-- first switched power domain and domains of each, 0 domains when it owns none (R31) -/
  dom        : Nat
  domCount   : Nat
  /-- clock domain of number 0 and step per number (R426) -/
  clk        : Nat
  clkStep    : Nat
  deriving DecidableEq, Repr

/-! ## Free values: results the spec names and a model of it cannot compute. None has a body. -/

namespace Config

/-- SHA-256 of FIPS 180-4 (R202, R406). -/
opaque sha256 : Bytes → Word256
/-- SHA-384 of FIPS 180-4 (R64, R409). -/
opaque sha384 : Bytes → Digest
/-- SHA-512 of FIPS 180-4 (R406). -/
opaque sha512 : Bytes → BitVec 512
/-- HMAC-SHA-256 of a key and a message (R411). -/
opaque hmac256 : Bytes → Bytes → Word256
/-- HMAC of the TLS schedule with a 32- or 48-byte hash (R403). -/
opaque hmacTls : Bytes → Bytes → Bytes
/-- HKDF-SHA-384 of input key material and an info label (R393). -/
opaque hkdf : Bytes → Bytes → Bytes
/-- HKDF-Extract of a salt and an input (R403). -/
opaque hkdfExtract : Bytes → Bytes → Bytes
/-- HKDF-Expand-Label of a secret, a label and a context hash (R403). -/
opaque hkdfExpandLabel : Bytes → Bytes → Bytes → Bytes
/-- AES key unwrap of RFC 3394 of a blob under a key: none when the integrity check fails (R395). -/
opaque keyUnwrap : Bytes → Bytes → Option Bytes
/-- AES key wrap of RFC 3394 of a record under a key (R395). -/
opaque keyWrap : Bytes → Bytes → Bytes
/-- The x-coordinate of ECDH of a private scalar and a public key (R393). -/
opaque ecdhX : Bytes → Bytes → Bytes
/-- The public key of a private scalar (R393). -/
opaque ecPublic : Bytes → Bytes
/-- Whether a public key lies on the curve (R403). -/
opaque onCurve : Bytes → Bool
/-- ECDSA P-384 signature of a message under a private scalar, with a drawn nonce (R410). -/
opaque ecSign : Bytes → Bytes → Nat → Bytes
/-- ECDSA P-384 verification of a message and a signature under a public key (R65, R459). -/
opaque ecVerify : Bytes → Bytes → Bytes → Bool
/-- AES-256-XTS of a key pair, a tweak and a data unit; the first argument says encrypt (R404). -/
opaque xts : Bool → Bytes → BitVec 128 → Bytes → Bytes
/-- AES-GCM encryption of a key, IV, AAD and message: ciphertext and tag (R404). -/
opaque gcmSeal : Bytes → Bytes → Bytes → Bytes → Bytes
/-- AES-GCM decryption of a key, IV, AAD, ciphertext and tag: none when the tag fails (R404). -/
opaque gcmOpen : Bytes → Bytes → Bytes → Bytes → Bytes → Option Bytes
/-- The value of draw `n` from the TRNG (R402). -/
opaque trng : Nat → Word256
/-- The device's 256-bit fuse root (R393). -/
opaque fuseRoot : Bytes
/-- The certificate chain of slot 0 (R410). -/
opaque certChain : Bytes
/-- The MAC address of a front-end port, which the spec does not number (R93). -/
opaque portMac : Nat → BitVec 48
/-- The percentage of a Format NVM that remains while it runs (`FPI`, R124), at a time for a namespace: the spec names no measure of it. -/
opaque formatLeft : Nat → Nat → BitVec 7
/-- The key hashes that the mask ROM holds, by key index 0 to 3 (R459). -/
opaque romKeyHash : Nat → Digest
/-- The version of the mask ROM, a constant of the stepping that no register shows (R66). -/
opaque romVersion : Nat
/-- The vault history key, which authenticates the records of the vault event area (R413). -/
opaque historyKey : Bytes
/-- How firmware encodes what it extends into a measurement register, where the spec names the content only
(R66, R409): the register and the content's numbers. -/
opaque measured : Nat → List Nat → Digest
/-- The code of the event that the DEPLOYED work records (R68 names the record and no code). -/
opaque deployedEventCode : BitVec 12
/-- The severity of that event. -/
opaque deployedEventSev : BitVec 3
/-- Code and severity of an event that a rule says is logged and that no chapter gives a code, by the number of the rule. -/
opaque unnamedEvent : Nat → BitVec 12 × BitVec 3
/-- The version of the PLDM base the firmware reports (R448 names versions of types 2 and 5 only). -/
opaque pldmBaseVersion : Nat

/-- CRC-32C of the ownership table, whose byte layout the spec does not state (R379). -/
opaque ownCrc : List Nat → BitVec 32

/-- Whether the read cache holds a line after a read or a loss, by a fresh number and the line's chunk: what fills the cache and what it
replaces are not in the spec (free value, log entry 87). -/
opaque cacheKeeps : Nat → Nat → Bool

/-- Whether a lost DRAM channel held a line, by a fresh number and the line's number: how lines lie over the channels is not in the spec (free
value, log entry 121). -/
opaque inChannel : Nat → Nat → Bool

/-- The DRAM frame that a resident map page takes, by its page id: how frames are assigned is not in the spec (free value, log entry 128). -/
opaque dramFrame : Nat → Nat

/-- A word that the spec leaves open, by the number of its draw. -/
opaque openWord : Nat → Word
/-- The work queue that a kind of service work waits in, 0 to 63 (R464 names no queue). -/
opaque workQueue : Nat → Fin 64

/-- Start value, final value and reflection of the CRC-64 of R114, of which the spec states the polynomial alone (log entry 143). -/
opaque guardStart : Word
/-- The value that the guard's CRC is XORed with at its end. -/
opaque guardFinal : Word
/-- Whether the guard's CRC takes the least significant bit first. -/
opaque guardReflected : Bool

/-- A block of a Zstandard frame (R218, RFC 8878): raw bytes, one byte repeated, or a compressed block's bytes. -/
inductive ZBlock where
  | raw (b : Bytes)
  | rle (v : Byte) (n : Nat)
  | compressed (b : Bytes)
  deriving DecidableEq, Repr

/-- The blocks that the compressor makes of a plain grain with the dictionary content given (R218; free value). -/
opaque zstdBlocks : Bytes → Bytes → List ZBlock
/-- What an RFC 8878 decoder makes of a compressed block, given the dictionary content and the frame's bytes in front of the block: none where
it cannot (R220). -/
opaque zstdBlock : Bytes → Bytes → Bytes → Option Bytes
/-- Whether the bytes behind a dictionary's magic and id are entropy tables that an RFC 8878 decoder can read (R223). -/
opaque entropyTables : Bytes → Bool

end Config

end Sys2Proof
end

