-- ==== Sys2Proof/Machine/RegNames.lean ====
section
/-!
DEFINITION. Sys2Proof/Machine/RegNames.lean: the spec's names of the registers (the key of a register is its BAR0
address: page x 0x1_0000 + offset) and of their fields.
-/

namespace Sys2Proof.Machine

namespace Reg

abbrev BLK_IDENT (page : Nat) : Nat := page * 0x10000 + 0x0
abbrev BLK_CAPS (page : Nat) : Nat := page * 0x10000 + 0x8
abbrev BLK_CTRL (page : Nat) : Nat := page * 0x10000 + 0x10
abbrev BLK_STATE (page : Nat) : Nat := page * 0x10000 + 0x18
abbrev BLK_INT_RAW (page : Nat) : Nat := page * 0x10000 + 0x20
abbrev BLK_INT_MASK (page : Nat) : Nat := page * 0x10000 + 0x28
abbrev BLK_INT_PEND (page : Nat) : Nat := page * 0x10000 + 0x30
abbrev BLK_ERR_STICKY (page : Nat) : Nat := page * 0x10000 + 0x38
abbrev BLK_PWR_REQ (page : Nat) : Nat := page * 0x10000 + 0x40
abbrev BLK_GEN (page : Nat) : Nat := page * 0x10000 + 0x48
abbrev BLK_PICK_BASE (page : Nat) : Nat := page * 0x10000 + 0x50
abbrev BLK_PICK_EPOCH (page : Nat) : Nat := page * 0x10000 + 0x58
abbrev BLK_CTRL_ROLE (page : Nat) : Fld := ⟨BLK_CTRL page, 4, 4⟩
abbrev BLK_CTRL_COMMIT (page : Nat) : Fld := ⟨BLK_CTRL page, 3, 1⟩
abbrev BLK_CTRL_SOFT_RESET (page : Nat) : Fld := ⟨BLK_CTRL page, 2, 1⟩
abbrev BLK_CTRL_DRAIN (page : Nat) : Fld := ⟨BLK_CTRL page, 1, 1⟩
abbrev BLK_CTRL_ENABLE (page : Nat) : Fld := ⟨BLK_CTRL page, 0, 1⟩
abbrev BLK_STATE_RESET_BUSY (page : Nat) : Fld := ⟨BLK_STATE page, 17, 1⟩
abbrev BLK_STATE_COMMIT_PENDING (page : Nat) : Fld := ⟨BLK_STATE page, 16, 1⟩
abbrev BLK_STATE_PWR (page : Nat) : Fld := ⟨BLK_STATE page, 8, 8⟩
abbrev BLK_STATE_STATE (page : Nat) : Fld := ⟨BLK_STATE page, 0, 4⟩
abbrev BLK_ERR_STICKY_ACCESS (page : Nat) : Fld := ⟨BLK_ERR_STICKY page, 63, 1⟩
abbrev BLK_PWR_REQ_GRANTED (page : Nat) : Fld := ⟨BLK_PWR_REQ page, 8, 1⟩
abbrev BLK_PWR_REQ_REQ (page : Nat) : Fld := ⟨BLK_PWR_REQ page, 0, 2⟩
abbrev BLK_GEN_GEN (page : Nat) : Fld := ⟨BLK_GEN page, 0, 32⟩
abbrev BLK_PICK_EPOCH_EPOCH (page : Nat) : Fld := ⟨BLK_PICK_EPOCH page, 0, 32⟩

/-- The page of `DECK`. -/
abbrev DECK_PAGE : Nat := 1

/-- The page of `CHIP`. -/
abbrev CHIP_PAGE : Nat := 2
abbrev CHIP_CHIP_IDENT : Nat := 0x20100
abbrev CHIP_CHIP_IDENT_PART : Fld := ⟨CHIP_CHIP_IDENT, 48, 16⟩
abbrev CHIP_CHIP_IDENT_FAMILY : Fld := ⟨CHIP_CHIP_IDENT, 40, 8⟩
abbrev CHIP_CHIP_IDENT_STEP_LETTER : Fld := ⟨CHIP_CHIP_IDENT, 36, 4⟩
abbrev CHIP_CHIP_IDENT_STEP_DIGIT : Fld := ⟨CHIP_CHIP_IDENT, 32, 4⟩
abbrev CHIP_UID_LO : Nat := 0x20108
abbrev CHIP_UID_HI : Nat := 0x20110
abbrev CHIP_ACCESS_ERR : Nat := 0x20118
abbrev CHIP_ACCESS_ERR_OFFSET : Fld := ⟨CHIP_ACCESS_ERR, 32, 16⟩
abbrev CHIP_ACCESS_ERR_PAGE : Fld := ⟨CHIP_ACCESS_ERR, 16, 13⟩
abbrev CHIP_ACCESS_ERR_SIZE32 : Fld := ⟨CHIP_ACCESS_ERR, 9, 1⟩
abbrev CHIP_ACCESS_ERR_WRITE : Fld := ⟨CHIP_ACCESS_ERR, 8, 1⟩
abbrev CHIP_ACCESS_ERR_CAUSE : Fld := ⟨CHIP_ACCESS_ERR, 4, 4⟩
abbrev CHIP_ACCESS_ERR_VALID : Fld := ⟨CHIP_ACCESS_ERR, 0, 1⟩
abbrev CHIP_ACCESS_ERR_CNT : Nat := 0x20120
abbrev CHIP_ACCESS_ERR_CNT_COUNT : Fld := ⟨CHIP_ACCESS_ERR_CNT, 0, 32⟩
abbrev CHIP_STRAPS : Nat := 0x20128
abbrev CHIP_STRAPS_BOOT_MODE : Fld := ⟨CHIP_STRAPS, 0, 2⟩

/-- The page of `TIME`. -/
abbrev TIME_PAGE : Nat := 3
abbrev TIME_NOW : Nat := 0x30100
abbrev TIME_CTRL : Nat := 0x30108
abbrev TIME_CTRL_PPS_OUT_EN : Fld := ⟨TIME_CTRL, 8, 1⟩
abbrev TIME_CTRL_SRC : Fld := ⟨TIME_CTRL, 0, 2⟩
abbrev TIME_STATUS : Nat := 0x30110
abbrev TIME_STATUS_STATE : Fld := ⟨TIME_STATUS, 0, 3⟩
abbrev TIME_STEP : Nat := 0x30118
abbrev TIME_RATE_ADJ : Nat := 0x30120
abbrev TIME_RATE_ADJ_PPB : Fld := ⟨TIME_RATE_ADJ, 0, 32⟩
abbrev TIME_PARTNER_SKEW : Nat := 0x30128
abbrev TIME_PPS_CAPTURE : Nat := 0x30130

/-- The page of `ETHP`. -/
abbrev ETHP_PAGE (i : Nat) : Nat := 4 + i
abbrev ETHP_MODE (i : Nat) : Nat := 0x40100 + i * 0x10000
abbrev ETHP_MODE_PFC_EN (i : Nat) : Fld := ⟨(ETHP_MODE i), 48, 8⟩
abbrev ETHP_MODE_MTU (i : Nat) : Fld := ⟨(ETHP_MODE i), 32, 14⟩
abbrev ETHP_MODE_LT_EN (i : Nat) : Fld := ⟨(ETHP_MODE i), 17, 1⟩
abbrev ETHP_MODE_AN_EN (i : Nat) : Fld := ⟨(ETHP_MODE i), 16, 1⟩
abbrev ETHP_MODE_MODE (i : Nat) : Fld := ⟨(ETHP_MODE i), 0, 3⟩

/-- The page of `XPT`. -/
abbrev XPT_PAGE (i : Nat) : Nat := 20 + i

/-- The page of `HEDDLE`. -/
abbrev HEDDLE_PAGE : Nat := 28
abbrev HEDDLE_UPD_DATA0 : Nat := 0x1C0100
abbrev HEDDLE_UPD_DATA1 : Nat := 0x1C0108
abbrev HEDDLE_UPD_DATA2 : Nat := 0x1C0110
abbrev HEDDLE_UPD_DATA3 : Nat := 0x1C0118
abbrev HEDDLE_UPD_CMD : Nat := 0x1C0120
abbrev HEDDLE_UPD_CMD_GO : Fld := ⟨HEDDLE_UPD_CMD, 63, 1⟩
abbrev HEDDLE_UPD_CMD_OP : Fld := ⟨HEDDLE_UPD_CMD, 16, 2⟩
abbrev HEDDLE_UPD_CMD_INDEX : Fld := ⟨HEDDLE_UPD_CMD, 0, 14⟩
abbrev HEDDLE_UPD_STATUS : Nat := 0x1C0128
abbrev HEDDLE_UPD_STATUS_ENT_GEN : Fld := ⟨HEDDLE_UPD_STATUS, 16, 16⟩
abbrev HEDDLE_UPD_STATUS_OLD_HELD : Fld := ⟨HEDDLE_UPD_STATUS, 0, 10⟩
abbrev HEDDLE_UPD_RESULT : Nat := 0x1C0130
abbrev HEDDLE_UPD_RESULT_RESULT : Fld := ⟨HEDDLE_UPD_RESULT, 2, 2⟩
abbrev HEDDLE_UPD_RESULT_BUSY : Fld := ⟨HEDDLE_UPD_RESULT, 0, 1⟩
abbrev HEDDLE_DROP_CNT (k : Nat) : Nat := 0x1C0200 + k * 0x8
abbrev HEDDLE_ADDR_IP_HI (k : Nat) : Nat := 0x1C1000 + k * 0x20
abbrev HEDDLE_ADDR_IP_LO (k : Nat) : Nat := 0x1C1008 + k * 0x20
abbrev HEDDLE_ADDR_PORT_MASK (k : Nat) : Nat := 0x1C1010 + k * 0x20
abbrev HEDDLE_ADDR_ATTR (k : Nat) : Nat := 0x1C1018 + k * 0x20
abbrev HEDDLE_ADDR_ATTR_DISC_PORT (k : Nat) : Fld := ⟨(HEDDLE_ADDR_ATTR k), 48, 16⟩
abbrev HEDDLE_ADDR_ATTR_TCP_PORT (k : Nat) : Fld := ⟨(HEDDLE_ADDR_ATTR k), 32, 16⟩
abbrev HEDDLE_ADDR_ATTR_VLAN (k : Nat) : Fld := ⟨(HEDDLE_ADDR_ATTR k), 16, 12⟩
abbrev HEDDLE_ADDR_ATTR_ROCE (k : Nat) : Fld := ⟨(HEDDLE_ADDR_ATTR k), 4, 1⟩
abbrev HEDDLE_ADDR_ATTR_ACTIVE (k : Nat) : Fld := ⟨(HEDDLE_ADDR_ATTR k), 3, 1⟩
abbrev HEDDLE_ADDR_ATTR_HOME (k : Nat) : Fld := ⟨(HEDDLE_ADDR_ATTR k), 2, 1⟩
abbrev HEDDLE_ADDR_ATTR_IPV6 (k : Nat) : Fld := ⟨(HEDDLE_ADDR_ATTR k), 1, 1⟩
abbrev HEDDLE_ADDR_ATTR_VALID (k : Nat) : Fld := ⟨(HEDDLE_ADDR_ATTR k), 0, 1⟩

/-- The page of `NVMF`. -/
abbrev NVMF_PAGE : Nat := 29
abbrev NVMF_POLICY : Nat := 0x1D0100
abbrev NVMF_POLICY_SOLO_FUA : Fld := ⟨NVMF_POLICY, 0, 1⟩
abbrev NVMF_STATUS : Nat := 0x1D0108
abbrev NVMF_STATUS_SOLO : Fld := ⟨NVMF_STATUS, 0, 1⟩
abbrev NVMF_RAISE_FLOOR_CNT : Nat := 0x1D0110
abbrev NVMF_RAISE_SIZE_CNT : Nat := 0x1D0118
abbrev NVMF_RAISE_FUA_CNT : Nat := 0x1D0120

/-- The page of `LOOM`. -/
abbrev LOOM_PAGE (i : Nat) : Nat := 30 + i
abbrev LOOM_CFG (i : Nat) : Nat := 0x1E0100 + i * 0x10000
abbrev LOOM_CFG_SWAP_PERIOD (i : Nat) : Fld := ⟨(LOOM_CFG i), 48, 16⟩
abbrev LOOM_CFG_SWAP_EN (i : Nat) : Fld := ⟨(LOOM_CFG i), 16, 1⟩
abbrev LOOM_CFG_BOOK_MARGIN (i : Nat) : Fld := ⟨(LOOM_CFG i), 8, 8⟩
abbrev LOOM_CFG_RA_MAX (i : Nat) : Fld := ⟨(LOOM_CFG i), 4, 2⟩
abbrev LOOM_CFG_LEND_EDGE (i : Nat) : Fld := ⟨(LOOM_CFG i), 0, 4⟩
abbrev LOOM_ENERGY_CFG (i : Nat) : Nat := 0x1E0108 + i * 0x10000
abbrev LOOM_ENERGY_CFG_E_MARGIN (i : Nat) : Fld := ⟨(LOOM_ENERGY_CFG i), 56, 8⟩
abbrev LOOM_ENERGY_CFG_MEDIA_W_SOLO (i : Nat) : Fld := ⟨(LOOM_ENERGY_CFG i), 32, 16⟩
abbrev LOOM_ENERGY_CFG_MEDIA_W (i : Nat) : Fld := ⟨(LOOM_ENERGY_CFG i), 16, 16⟩
abbrev LOOM_ENERGY_CFG_CHIP_CAP_W (i : Nat) : Fld := ⟨(LOOM_ENERGY_CFG i), 0, 16⟩
abbrev LOOM_STATUS (i : Nat) : Nat := 0x1E0180 + i * 0x10000
abbrev LOOM_STATUS_SWAPS (i : Nat) : Fld := ⟨(LOOM_STATUS i), 32, 32⟩
abbrev LOOM_STATUS_MISMATCHES (i : Nat) : Fld := ⟨(LOOM_STATUS i), 16, 16⟩
abbrev LOOM_STATUS_SUSPENDED (i : Nat) : Fld := ⟨(LOOM_STATUS i), 9, 1⟩
abbrev LOOM_STATUS_SIMPLEX (i : Nat) : Fld := ⟨(LOOM_STATUS i), 8, 1⟩
abbrev LOOM_STATUS_ROLE (i : Nat) : Fld := ⟨(LOOM_STATUS i), 0, 2⟩
abbrev LOOM_LAST_SWAP (i : Nat) : Nat := 0x1E0188 + i * 0x10000
abbrev LOOM_BUDGET (i : Nat) : Nat := 0x1E0190 + i * 0x10000
abbrev LOOM_BUDGET_MEDIA (i : Nat) : Fld := ⟨(LOOM_BUDGET i), 32, 32⟩
abbrev LOOM_BUDGET_CHIP (i : Nat) : Fld := ⟨(LOOM_BUDGET i), 0, 32⟩
abbrev LOOM_GC_STATE (i : Nat) : Nat := 0x1E0198 + i * 0x10000
abbrev LOOM_GC_STATE_FREE_PM (i : Nat) : Fld := ⟨(LOOM_GC_STATE i), 48, 16⟩
abbrev LOOM_GC_STATE_FLOOR_PCT (i : Nat) : Fld := ⟨(LOOM_GC_STATE i), 40, 8⟩
abbrev LOOM_GC_STATE_COLLECT_F (i : Nat) : Fld := ⟨(LOOM_GC_STATE i), 0, 16⟩
abbrev LOOM_REFUSE_CNT (i k : Nat) : Nat := 0x1E0200 + i * 0x10000 + k * 0x8
abbrev LOOM_MISS_CNT (i k : Nat) : Nat := 0x1E0260 + i * 0x10000 + k * 0x8
abbrev LOOM_ALT_CNT (i k : Nat) : Nat := 0x1E0290 + i * 0x10000 + k * 0x8
abbrev LOOM_DPC_CAP (i k : Nat) : Nat := 0x1E0300 + i * 0x10000 + k * 0x8
abbrev LOOM_DPC_CAP_EXCLUDED (i k : Nat) : Fld := ⟨(LOOM_DPC_CAP i k), 8, 1⟩
abbrev LOOM_DPC_CAP_PCT (i k : Nat) : Fld := ⟨(LOOM_DPC_CAP i k), 0, 8⟩
abbrev LOOM_CARD0 (i k : Nat) : Nat := 0x1E1000 + i * 0x10000 + k * 0x10
abbrev LOOM_CARD0_MEDIA_FIX (i k : Nat) : Fld := ⟨(LOOM_CARD0 i k), 32, 32⟩
abbrev LOOM_CARD0_CHIP_KIB (i k : Nat) : Fld := ⟨(LOOM_CARD0 i k), 16, 16⟩
abbrev LOOM_CARD0_CHIP_FIX (i k : Nat) : Fld := ⟨(LOOM_CARD0 i k), 0, 16⟩
abbrev LOOM_CARD1 (i k : Nat) : Nat := 0x1E1008 + i * 0x10000 + k * 0x10
abbrev LOOM_CARD1_DIE_SLICE (i k : Nat) : Fld := ⟨(LOOM_CARD1 i k), 32, 16⟩
abbrev LOOM_CARD1_DIE_TIME (i k : Nat) : Fld := ⟨(LOOM_CARD1 i k), 16, 16⟩
abbrev LOOM_CARD1_MEDIA_KIB (i k : Nat) : Fld := ⟨(LOOM_CARD1 i k), 0, 16⟩

/-- The page of `REED`. -/
abbrev REED_PAGE : Nat := 32
abbrev REED_TBL_CMD : Nat := 0x200100
abbrev REED_TBL_CMD_GO : Fld := ⟨REED_TBL_CMD, 63, 1⟩
abbrev REED_TBL_CMD_OP : Fld := ⟨REED_TBL_CMD, 16, 2⟩
abbrev REED_TBL_CMD_TENANT : Fld := ⟨REED_TBL_CMD, 0, 12⟩
abbrev REED_TBL_DATA0 : Nat := 0x200108
abbrev REED_TBL_DATA1 : Nat := 0x200110
abbrev REED_TBL_DATA2 : Nat := 0x200118
abbrev REED_TBL_DATA3 : Nat := 0x200120
abbrev REED_SHARE_SUM : Nat := 0x200128
abbrev REED_SHARE_SUM_SUM : Fld := ⟨REED_SHARE_SUM, 0, 29⟩

/-- The page of `DPC`. -/
abbrev DPC_PAGE (i : Nat) : Nat := 33 + i
abbrev DPC_DECOMP_CFG (i : Nat) : Nat := 0x210100 + i * 0x10000
abbrev DPC_DECOMP_CFG_OUT_LIMIT (i : Nat) : Fld := ⟨(DPC_DECOMP_CFG i), 0, 13⟩
abbrev DPC_FORM_CNT (i k : Nat) : Nat := 0x210108 + i * 0x10000 + k * 0x8
abbrev DPC_RED_ERR_CNT (i k : Nat) : Nat := 0x210120 + i * 0x10000 + k * 0x8
abbrev DPC_BOBBIN_CFG (i : Nat) : Nat := 0x210200 + i * 0x10000
abbrev DPC_BOBBIN_CFG_DRAIN_NS (i : Nat) : Fld := ⟨(DPC_BOBBIN_CFG i), 16, 16⟩
abbrev DPC_BOBBIN_CFG_DRAIN_AT (i : Nat) : Fld := ⟨(DPC_BOBBIN_CFG i), 8, 5⟩
abbrev DPC_BOBBIN_CFG_VICTIM_EN (i : Nat) : Fld := ⟨(DPC_BOBBIN_CFG i), 0, 1⟩
abbrev DPC_BOBBIN_STATUS (i : Nat) : Nat := 0x210208 + i * 0x10000
abbrev DPC_BOBBIN_STATUS_MAIN_VALID (i : Nat) : Fld := ⟨(DPC_BOBBIN_STATUS i), 24, 6⟩
abbrev DPC_BOBBIN_STATUS_VICTIM_VALID (i : Nat) : Fld := ⟨(DPC_BOBBIN_STATUS i), 16, 4⟩
abbrev DPC_BOBBIN_STATUS_MISS_BUSY (i : Nat) : Fld := ⟨(DPC_BOBBIN_STATUS i), 8, 6⟩
abbrev DPC_BOBBIN_STATUS_MERGE_USED (i : Nat) : Fld := ⟨(DPC_BOBBIN_STATUS i), 0, 5⟩
abbrev DPC_BOBBIN_CNT (i k : Nat) : Nat := 0x210210 + i * 0x10000 + k * 0x8

/-- The page of `SELV`. -/
abbrev SELV_PAGE : Nat := 51
abbrev SELV_CFG : Nat := 0x330100
abbrev SELV_CFG_ROW_CLOSE_US : Fld := ⟨SELV_CFG, 16, 16⟩
abbrev SELV_CFG_MIRROR_GIB : Fld := ⟨SELV_CFG, 8, 8⟩
abbrev SELV_CFG_OWN_GIB : Fld := ⟨SELV_CFG, 0, 8⟩
abbrev SELV_STATUS : Nat := 0x330180
abbrev SELV_STATUS_CHANNELS : Fld := ⟨SELV_STATUS, 8, 8⟩
abbrev SELV_STATUS_SOLO : Fld := ⟨SELV_STATUS, 5, 1⟩
abbrev SELV_STATUS_DEGRADED : Fld := ⟨SELV_STATUS, 4, 1⟩
abbrev SELV_STATUS_HOLDUP : Fld := ⟨SELV_STATUS, 0, 3⟩
abbrev SELV_OWN_NEXT_SEQ : Nat := 0x330188
abbrev SELV_OWN_TAIL_SEQ : Nat := 0x330190
abbrev SELV_OWN_USED : Nat := 0x330198
abbrev SELV_OWN_USED_BLOCKS : Fld := ⟨SELV_OWN_USED, 32, 32⟩
abbrev SELV_OWN_USED_RECORDS : Fld := ⟨SELV_OWN_USED, 0, 32⟩
abbrev SELV_MIR_NEXT_SEQ : Nat := 0x3301A0
abbrev SELV_MIR_TAIL_SEQ : Nat := 0x3301A8
abbrev SELV_MIR_USED : Nat := 0x3301B0
abbrev SELV_MIR_USED_BLOCKS : Fld := ⟨SELV_MIR_USED, 32, 32⟩
abbrev SELV_MIR_USED_RECORDS : Fld := ⟨SELV_MIR_USED, 0, 32⟩
abbrev SELV_RESEND_CNT : Nat := 0x3301B8
abbrev SELV_DUMP_STATUS : Nat := 0x3301C0
abbrev SELV_DUMP_STATUS_MIB : Fld := ⟨SELV_DUMP_STATUS, 24, 40⟩
abbrev SELV_DUMP_STATUS_AREA : Fld := ⟨SELV_DUMP_STATUS, 16, 1⟩
abbrev SELV_DUMP_STATUS_RESULT : Fld := ⟨SELV_DUMP_STATUS, 0, 8⟩
abbrev SELV_REPLAY_CNT : Nat := 0x3301C8
abbrev SELV_REPLAY_CNT_SKIPPED : Fld := ⟨SELV_REPLAY_CNT, 32, 32⟩
abbrev SELV_REPLAY_CNT_REPLAYED : Fld := ⟨SELV_REPLAY_CNT, 0, 32⟩

/-- The page of `SEGW`. -/
abbrev SEGW_PAGE : Nat := 52
abbrev SEGW_STRIPE_STATUS : Nat := 0x340180
abbrev SEGW_STRIPE_STATUS_DEGRADED : Fld := ⟨SEGW_STRIPE_STATUS, 40, 24⟩
abbrev SEGW_STRIPE_STATUS_CRITICAL : Fld := ⟨SEGW_STRIPE_STATUS, 16, 24⟩
abbrev SEGW_STRIPE_STATUS_REBUILD : Fld := ⟨SEGW_STRIPE_STATUS, 1, 1⟩
abbrev SEGW_STRIPE_STATUS_WINDOW : Fld := ⟨SEGW_STRIPE_STATUS, 0, 1⟩
abbrev SEGW_REBUILD_STATUS : Nat := 0x340188
abbrev SEGW_REBUILD_STATUS_REMAIN_GIB : Fld := ⟨SEGW_REBUILD_STATUS, 32, 32⟩
abbrev SEGW_REBUILD_STATUS_ETA_S : Fld := ⟨SEGW_REBUILD_STATUS, 0, 32⟩
abbrev SEGW_BROKEN : Nat := 0x340190
abbrev SEGW_BROKEN_COUNT : Fld := ⟨SEGW_BROKEN, 0, 24⟩
abbrev SEGW_SUSPECT_USED : Nat := 0x340198
abbrev SEGW_SUSPECT_USED_COUNT : Fld := ⟨SEGW_SUSPECT_USED, 0, 13⟩
abbrev SEGW_ENGINES : Nat := 0x3401A0
abbrev SEGW_ENGINES_ACTIVE : Fld := ⟨SEGW_ENGINES, 0, 4⟩
abbrev SEGW_CNT (k : Nat) : Nat := 0x340200 + k * 0x8

/-- The page of `MEDIA`. -/
abbrev MEDIA_PAGE (i : Nat) : Nat := 53 + i
abbrev MEDIA_CFG (i : Nat) : Nat := 0x350100 + i * 0x10000
abbrev MEDIA_CFG_WEAR_DELTA (i : Nat) : Fld := ⟨(MEDIA_CFG i), 48, 16⟩
abbrev MEDIA_CFG_GUARD_SAMPLE (i : Nat) : Fld := ⟨(MEDIA_CFG i), 40, 8⟩
abbrev MEDIA_CFG_RELOC_RETRY (i : Nat) : Fld := ⟨(MEDIA_CFG i), 36, 4⟩
abbrev MEDIA_CFG_RELOC_CB_PCT (i : Nat) : Fld := ⟨(MEDIA_CFG i), 24, 8⟩
abbrev MEDIA_CFG_PATROL_DAYS (i : Nat) : Fld := ⟨(MEDIA_CFG i), 16, 5⟩
abbrev MEDIA_CFG_OP_PCT (i : Nat) : Fld := ⟨(MEDIA_CFG i), 8, 6⟩
abbrev MEDIA_CFG_WIDTH (i : Nat) : Fld := ⟨(MEDIA_CFG i), 0, 6⟩
abbrev MEDIA_STATUS (i : Nat) : Nat := 0x350180 + i * 0x10000
abbrev MEDIA_STATUS_OPEN_SEG (i : Nat) : Fld := ⟨(MEDIA_STATUS i), 48, 16⟩
abbrev MEDIA_STATUS_VICTIM_Q (i : Nat) : Fld := ⟨(MEDIA_STATUS i), 32, 16⟩
abbrev MEDIA_STATUS_ARMED_B (i : Nat) : Fld := ⟨(MEDIA_STATUS i), 17, 1⟩
abbrev MEDIA_STATUS_ARMED_A (i : Nat) : Fld := ⟨(MEDIA_STATUS i), 16, 1⟩
abbrev MEDIA_STATUS_ROLE (i : Nat) : Fld := ⟨(MEDIA_STATUS i), 0, 2⟩
abbrev MEDIA_CAP_RAW (i : Nat) : Nat := 0x350188 + i * 0x10000
abbrev MEDIA_CAP_RES (i : Nat) : Nat := 0x350190 + i * 0x10000
abbrev MEDIA_CAP_DATA (i : Nat) : Nat := 0x350198 + i * 0x10000
abbrev MEDIA_CAP_USABLE (i : Nat) : Nat := 0x3501A0 + i * 0x10000
abbrev MEDIA_CAP_FREE (i : Nat) : Nat := 0x3501A8 + i * 0x10000
abbrev MEDIA_CAP_LIVE (i : Nat) : Nat := 0x3501B0 + i * 0x10000
abbrev MEDIA_CAP_META (i : Nat) : Nat := 0x3501B8 + i * 0x10000
abbrev MEDIA_PATROL_STATUS (i : Nat) : Nat := 0x3501C0 + i * 0x10000
abbrev MEDIA_PATROL_STATUS_PASS (i : Nat) : Fld := ⟨(MEDIA_PATROL_STATUS i), 32, 32⟩
abbrev MEDIA_PATROL_STATUS_LAG_PM (i : Nat) : Fld := ⟨(MEDIA_PATROL_STATUS i), 16, 16⟩
abbrev MEDIA_PATROL_STATUS_POS_PM (i : Nat) : Fld := ⟨(MEDIA_PATROL_STATUS i), 0, 16⟩
abbrev MEDIA_CNT (i k : Nat) : Nat := 0x350200 + i * 0x10000 + k * 0x8
abbrev MEDIA_SEG_CMD (i : Nat) : Nat := 0x350300 + i * 0x10000
abbrev MEDIA_SEG_CMD_GO (i : Nat) : Fld := ⟨(MEDIA_SEG_CMD i), 63, 1⟩
abbrev MEDIA_SEG_CMD_MEMBER (i : Nat) : Fld := ⟨(MEDIA_SEG_CMD i), 24, 5⟩
abbrev MEDIA_SEG_CMD_SEGMENT (i : Nat) : Fld := ⟨(MEDIA_SEG_CMD i), 0, 24⟩
abbrev MEDIA_SEG_DATA0 (i : Nat) : Nat := 0x350308 + i * 0x10000
abbrev MEDIA_SEG_DATA0_LIVE32 (i : Nat) : Fld := ⟨(MEDIA_SEG_DATA0 i), 32, 32⟩
abbrev MEDIA_SEG_DATA0_LAST_ROW (i : Nat) : Fld := ⟨(MEDIA_SEG_DATA0 i), 16, 12⟩
abbrev MEDIA_SEG_DATA0_WIDTH (i : Nat) : Fld := ⟨(MEDIA_SEG_DATA0 i), 8, 6⟩
abbrev MEDIA_SEG_DATA0_TYPE (i : Nat) : Fld := ⟨(MEDIA_SEG_DATA0 i), 4, 3⟩
abbrev MEDIA_SEG_DATA0_STATE (i : Nat) : Fld := ⟨(MEDIA_SEG_DATA0 i), 0, 3⟩
abbrev MEDIA_SEG_DATA1 (i : Nat) : Nat := 0x350310 + i * 0x10000
abbrev MEDIA_SEG_DATA2 (i : Nat) : Nat := 0x350318 + i * 0x10000
abbrev MEDIA_SEG_DATA2_BLK_STATE (i : Nat) : Fld := ⟨(MEDIA_SEG_DATA2 i), 48, 3⟩
abbrev MEDIA_SEG_DATA2_ERASES (i : Nat) : Fld := ⟨(MEDIA_SEG_DATA2 i), 32, 16⟩
abbrev MEDIA_SEG_DATA2_BLOCK (i : Nat) : Fld := ⟨(MEDIA_SEG_DATA2 i), 16, 16⟩
abbrev MEDIA_SEG_DATA2_DIE (i : Nat) : Fld := ⟨(MEDIA_SEG_DATA2 i), 8, 6⟩
abbrev MEDIA_SEG_DATA2_MODULE (i : Nat) : Fld := ⟨(MEDIA_SEG_DATA2 i), 0, 6⟩

/-- The page of `MAPX`. -/
abbrev MAPX_PAGE : Nat := 55
abbrev MAPX_RED_CMD : Nat := 0x370100
abbrev MAPX_RED_CMD_GO : Fld := ⟨MAPX_RED_CMD, 63, 1⟩
abbrev MAPX_RED_CMD_OP : Fld := ⟨MAPX_RED_CMD, 16, 2⟩
abbrev MAPX_RED_CMD_TENANT : Fld := ⟨MAPX_RED_CMD, 0, 12⟩
abbrev MAPX_RED_DATA : Nat := 0x370108
abbrev MAPX_RED_DATA_COMP_VERIFY : Fld := ⟨MAPX_RED_DATA, 7, 1⟩
abbrev MAPX_RED_DATA_COMP_MODE : Fld := ⟨MAPX_RED_DATA, 4, 2⟩
abbrev MAPX_RED_DATA_DEDUP_MODE : Fld := ⟨MAPX_RED_DATA, 0, 2⟩
abbrev MAPX_INDEX_CFG : Nat := 0x370110
abbrev MAPX_INDEX_CFG_BUCKET_LOG2 : Fld := ⟨MAPX_INDEX_CFG, 0, 6⟩
abbrev MAPX_INDEX_STATUS : Nat := 0x370180
abbrev MAPX_INDEX_STATUS_REBUILD : Fld := ⟨MAPX_INDEX_STATUS, 63, 1⟩
abbrev MAPX_INDEX_STATUS_SOLO_SHARDS : Fld := ⟨MAPX_INDEX_STATUS, 62, 1⟩
abbrev MAPX_INDEX_STATUS_ENTRIES : Fld := ⟨MAPX_INDEX_STATUS, 0, 37⟩
abbrev MAPX_HIT_CNT : Nat := 0x370188
abbrev MAPX_MISS_CNT : Nat := 0x370190
abbrev MAPX_REMOTE_TO_CNT : Nat := 0x370198
abbrev MAPX_STALE_CNT : Nat := 0x3701A0
abbrev MAPX_EVICT_CNT : Nat := 0x3701A8
abbrev MAPX_VERIFY_MISMATCH_CNT : Nat := 0x3701B0
abbrev MAPX_VERIFY_DEFER_CNT : Nat := 0x3701B8
abbrev MAPX_ALIAS_CNT : Nat := 0x3701C0
abbrev MAPX_AUDIT_LOWER_CNT : Nat := 0x3701C8
abbrev MAPX_AUDIT_UNDER_CNT : Nat := 0x3701D0
abbrev MAPX_MAP_CFG : Nat := 0x370200
abbrev MAPX_MAP_CFG_LEAF_GIB : Fld := ⟨MAPX_MAP_CFG, 48, 16⟩
abbrev MAPX_MAP_CFG_PIN_GIB : Fld := ⟨MAPX_MAP_CFG, 32, 16⟩
abbrev MAPX_MAP_CFG_CKPT_MIN : Fld := ⟨MAPX_MAP_CFG, 24, 8⟩
abbrev MAPX_MAP_CFG_CKPT_GIB : Fld := ⟨MAPX_MAP_CFG, 16, 8⟩
abbrev MAPX_MAP_CFG_SNAP_PAUSE : Fld := ⟨MAPX_MAP_CFG, 0, 3⟩
abbrev MAPX_FLUSH_CFG : Nat := 0x370208
abbrev MAPX_FLUSH_CFG_FLUSH_KIB : Fld := ⟨MAPX_FLUSH_CFG, 16, 16⟩
abbrev MAPX_FLUSH_CFG_FLUSH_US : Fld := ⟨MAPX_FLUSH_CFG, 0, 16⟩
abbrev MAPX_MAP_STATUS : Nat := 0x370280
abbrev MAPX_MAP_STATUS_LEAF_RES_GIB : Fld := ⟨MAPX_MAP_STATUS, 48, 16⟩
abbrev MAPX_MAP_STATUS_PIN_RES_GIB : Fld := ⟨MAPX_MAP_STATUS, 32, 16⟩
abbrev MAPX_MAP_STATUS_OVERLAY_PCT : Fld := ⟨MAPX_MAP_STATUS, 24, 8⟩
abbrev MAPX_MAP_STATUS_RECOVERY : Fld := ⟨MAPX_MAP_STATUS, 6, 2⟩
abbrev MAPX_MAP_STATUS_SCAN : Fld := ⟨MAPX_MAP_STATUS, 2, 1⟩
abbrev MAPX_MAP_STATUS_CKPT : Fld := ⟨MAPX_MAP_STATUS, 1, 1⟩
abbrev MAPX_MAP_STATUS_PAUSE : Fld := ⟨MAPX_MAP_STATUS, 0, 1⟩
abbrev MAPX_CKPT_CUT : Nat := 0x370288
abbrev MAPX_CKPT_NUM : Nat := 0x370290
abbrev MAPX_JOURNAL_SEQ : Nat := 0x370298
abbrev MAPX_PAGEIN_CNT : Nat := 0x3702C0
abbrev MAPX_WRITEBACK_CNT : Nat := 0x3702C8
abbrev MAPX_COW_CNT : Nat := 0x3702D0
abbrev MAPX_CONFIRM_FAIL_CNT : Nat := 0x3702D8
abbrev MAPX_CKPT_LATE_CNT : Nat := 0x3702E0
abbrev MAPX_LOST_CNT : Nat := 0x3702E8
abbrev MAPX_DANGLING_CNT : Nat := 0x3702F0

/-- The page of `MODP`. -/
abbrev MODP_PAGE (i : Nat) : Nat := 56 + i
abbrev MODP_CFG (i : Nat) : Nat := 0x380100 + i * 0x10000
abbrev MODP_CFG_EVACUATE (i : Nat) : Fld := ⟨(MODP_CFG i), 2, 1⟩
abbrev MODP_CFG_ADOPT (i : Nat) : Fld := ⟨(MODP_CFG i), 1, 1⟩
abbrev MODP_CFG_AUTO_POWER (i : Nat) : Fld := ⟨(MODP_CFG i), 0, 1⟩
abbrev MODP_SLOT_CAP (i : Nat) : Nat := 0x380110 + i * 0x10000
abbrev MODP_SLOT_CAP_CAP (i : Nat) : Fld := ⟨(MODP_SLOT_CAP i), 0, 32⟩
abbrev MODP_SLOT_CTRL_STS (i : Nat) : Nat := 0x380118 + i * 0x10000
abbrev MODP_SLOT_CTRL_STS_DLL_CHANGED (i : Nat) : Fld := ⟨(MODP_SLOT_CTRL_STS i), 24, 1⟩
abbrev MODP_SLOT_CTRL_STS_EMI_STATE (i : Nat) : Fld := ⟨(MODP_SLOT_CTRL_STS i), 23, 1⟩
abbrev MODP_SLOT_CTRL_STS_PRESENT (i : Nat) : Fld := ⟨(MODP_SLOT_CTRL_STS i), 22, 1⟩
abbrev MODP_SLOT_CTRL_STS_MRL_STATE (i : Nat) : Fld := ⟨(MODP_SLOT_CTRL_STS i), 21, 1⟩
abbrev MODP_SLOT_CTRL_STS_CC (i : Nat) : Fld := ⟨(MODP_SLOT_CTRL_STS i), 20, 1⟩
abbrev MODP_SLOT_CTRL_STS_PRESENT_CHANGED (i : Nat) : Fld := ⟨(MODP_SLOT_CTRL_STS i), 19, 1⟩
abbrev MODP_SLOT_CTRL_STS_MRL_CHANGED (i : Nat) : Fld := ⟨(MODP_SLOT_CTRL_STS i), 18, 1⟩
abbrev MODP_SLOT_CTRL_STS_POWER_FAULT (i : Nat) : Fld := ⟨(MODP_SLOT_CTRL_STS i), 17, 1⟩
abbrev MODP_SLOT_CTRL_STS_ATTN_PRESSED (i : Nat) : Fld := ⟨(MODP_SLOT_CTRL_STS i), 16, 1⟩
abbrev MODP_SLOT_CTRL_STS_CTRL (i : Nat) : Fld := ⟨(MODP_SLOT_CTRL_STS i), 0, 16⟩
abbrev MODP_STATUS (i : Nat) : Nat := 0x380180 + i * 0x10000
abbrev MODP_STATUS_DIES (i : Nat) : Fld := ⟨(MODP_STATUS i), 17, 7⟩
abbrev MODP_STATUS_PORT_ID (i : Nat) : Fld := ⟨(MODP_STATUS i), 16, 1⟩
abbrev MODP_STATUS_WIDTH (i : Nat) : Fld := ⟨(MODP_STATUS i), 12, 2⟩
abbrev MODP_STATUS_RATE (i : Nat) : Fld := ⟨(MODP_STATUS i), 8, 4⟩
abbrev MODP_STATUS_SVC (i : Nat) : Fld := ⟨(MODP_STATUS i), 0, 4⟩
abbrev MODP_LEASE (i : Nat) : Nat := 0x380188 + i * 0x10000
abbrev MODP_CNT (i k : Nat) : Nat := 0x380200 + i * 0x10000 + k * 0x8

/-- The page of `SLOT`. -/
abbrev SLOT_PAGE : Nat := 120
abbrev SLOT_STATUS : Nat := 0x780180
abbrev SLOT_STATUS_PARITY_ERR : Fld := ⟨SLOT_STATUS, 32, 32⟩
abbrev SLOT_STATUS_CHAIN_FAULT : Fld := ⟨SLOT_STATUS, 0, 1⟩

/-- The page of `DIKOR`. -/
abbrev DIKOR_PAGE : Nat := 121
abbrev DIKOR_CFG : Nat := 0x790100
abbrev DIKOR_CFG_PARTNER_WAIT_S : Fld := ⟨DIKOR_CFG, 48, 16⟩
abbrev DIKOR_CFG_FEC_UNCORR_MAX : Fld := ⟨DIKOR_CFG, 40, 8⟩
abbrev DIKOR_CFG_QUAD_EN : Fld := ⟨DIKOR_CFG, 24, 6⟩
abbrev DIKOR_CFG_WIDEN_AUTO : Fld := ⟨DIKOR_CFG, 0, 1⟩
abbrev DIKOR_STATUS : Nat := 0x790180
abbrev DIKOR_STATUS_ATTEMPTS : Fld := ⟨DIKOR_STATUS, 56, 8⟩
abbrev DIKOR_STATUS_REFUSE_CAUSE : Fld := ⟨DIKOR_STATUS, 48, 8⟩
abbrev DIKOR_STATUS_QUAD_MASK : Fld := ⟨DIKOR_STATUS, 42, 6⟩
abbrev DIKOR_STATUS_WIDTH : Fld := ⟨DIKOR_STATUS, 24, 8⟩
abbrev DIKOR_STATUS_HB_IN_OK : Fld := ⟨DIKOR_STATUS, 19, 1⟩
abbrev DIKOR_STATUS_HB_OUT_ON : Fld := ⟨DIKOR_STATUS, 18, 1⟩
abbrev DIKOR_STATUS_LEADER : Fld := ⟨DIKOR_STATUS, 17, 1⟩
abbrev DIKOR_STATUS_ABSENT : Fld := ⟨DIKOR_STATUS, 16, 1⟩
abbrev DIKOR_STATUS_PARTNER_ROLE : Fld := ⟨DIKOR_STATUS, 12, 4⟩
abbrev DIKOR_STATUS_PARTNER_INDEX : Fld := ⟨DIKOR_STATUS, 10, 2⟩
abbrev DIKOR_STATUS_HEAD_INDEX : Fld := ⟨DIKOR_STATUS, 8, 2⟩
abbrev DIKOR_STATUS_LSTATE : Fld := ⟨DIKOR_STATUS, 0, 4⟩
abbrev DIKOR_WAIT_LEFT : Nat := 0x790188
abbrev DIKOR_WAIT_LEFT_MS : Fld := ⟨DIKOR_WAIT_LEFT, 0, 32⟩
abbrev DIKOR_PARTNER_UID_LO : Nat := 0x790190
abbrev DIKOR_PARTNER_UID_HI : Nat := 0x790198
abbrev DIKOR_PARTNER_ARRAY : Nat := 0x7901A0
abbrev DIKOR_PARTNER_ARRAY_ARRAY : Fld := ⟨DIKOR_PARTNER_ARRAY, 0, 48⟩
abbrev DIKOR_CNT (k : Nat) : Nat := 0x790200 + k * 0x8

/-- The page of `OWN`. -/
abbrev OWN_PAGE : Nat := 122
abbrev OWN_CFG : Nat := 0x7A0100
abbrev OWN_CFG_SWAP_PERIOD_H : Fld := ⟨OWN_CFG, 48, 16⟩
abbrev OWN_CFG_AUDIT_MS : Fld := ⟨OWN_CFG, 32, 16⟩
abbrev OWN_CFG_STALE_MS : Fld := ⟨OWN_CFG, 16, 16⟩
abbrev OWN_CFG_RENEW_MS : Fld := ⟨OWN_CFG, 8, 8⟩
abbrev OWN_CFG_AUTO_REJOIN : Fld := ⟨OWN_CFG, 1, 1⟩
abbrev OWN_CFG_SOLO_BOOT : Fld := ⟨OWN_CFG, 0, 1⟩
abbrev OWN_STATUS : Nat := 0x7A0180
abbrev OWN_STATUS_OWNED : Fld := ⟨OWN_STATUS, 32, 9⟩
abbrev OWN_STATUS_SWAP_BUSY : Fld := ⟨OWN_STATUS, 11, 1⟩
abbrev OWN_STATUS_JOIN_BUSY : Fld := ⟨OWN_STATUS, 10, 1⟩
abbrev OWN_STATUS_TAKEOVER_BUSY : Fld := ⟨OWN_STATUS, 9, 1⟩
abbrev OWN_STATUS_MIRROR_READY : Fld := ⟨OWN_STATUS, 8, 1⟩
abbrev OWN_STATUS_ROLE : Fld := ⟨OWN_STATUS, 0, 4⟩
abbrev OWN_ARRAY : Nat := 0x7A0188
abbrev OWN_ARRAY_MODULES : Fld := ⟨OWN_ARRAY, 48, 7⟩
abbrev OWN_ARRAY_ARRAY_ID : Fld := ⟨OWN_ARRAY, 0, 48⟩
abbrev OWN_LEASE : Nat := 0x7A0190
abbrev OWN_LAST_TAKEOVER : Nat := 0x7A0198
abbrev OWN_LAST_INTERRUPT : Nat := 0x7A01A0
abbrev OWN_LAST_INTERRUPT_NS : Fld := ⟨OWN_LAST_INTERRUPT, 0, 32⟩
abbrev OWN_CNT (k : Nat) : Nat := 0x7A0200 + k * 0x8
abbrev OWN_GRP (k : Nat) : Nat := 0x7A1000 + k * 0x8
abbrev OWN_GRP_GEN (k : Nat) : Fld := ⟨(OWN_GRP k), 32, 32⟩
abbrev OWN_GRP_SWAP (k : Nat) : Fld := ⟨(OWN_GRP k), 8, 2⟩
abbrev OWN_GRP_INACCESSIBLE (k : Nat) : Fld := ⟨(OWN_GRP k), 4, 1⟩
abbrev OWN_GRP_OWNER (k : Nat) : Fld := ⟨(OWN_GRP k), 0, 2⟩

/-- The page of `REPL`. -/
abbrev REPL_PAGE : Nat := 123
abbrev REPL_CFG : Nat := 0x7B0100
abbrev REPL_CFG_RECV_BUFS : Fld := ⟨REPL_CFG, 48, 16⟩
abbrev REPL_CFG_STAGE_MIB : Fld := ⟨REPL_CFG, 32, 16⟩
abbrev REPL_CFG_RETRY_S : Fld := ⟨REPL_CFG, 16, 16⟩
abbrev REPL_CFG_SYNC_BASE_MIN : Fld := ⟨REPL_CFG, 8, 8⟩
abbrev REPL_CFG_SYNC_FENCE : Fld := ⟨REPL_CFG, 0, 1⟩
abbrev REPL_STATUS : Nat := 0x7B0180
abbrev REPL_STATUS_FRACTURED : Fld := ⟨REPL_STATUS, 48, 16⟩
abbrev REPL_STATUS_RELS : Fld := ⟨REPL_STATUS, 32, 16⟩
abbrev REPL_STATUS_CONNS : Fld := ⟨REPL_STATUS, 0, 9⟩
abbrev REPL_REL_CMD : Nat := 0x7B0200
abbrev REPL_REL_CMD_GO : Fld := ⟨REPL_REL_CMD, 63, 1⟩
abbrev REPL_REL_CMD_REL : Fld := ⟨REPL_REL_CMD, 0, 16⟩
abbrev REPL_REL_DATA0 : Nat := 0x7B0208
abbrev REPL_REL_DATA0_INTERVAL_S : Fld := ⟨REPL_REL_DATA0, 32, 32⟩
abbrev REPL_REL_DATA0_RTTB_US : Fld := ⟨REPL_REL_DATA0, 16, 16⟩
abbrev REPL_REL_DATA0_MODE : Fld := ⟨REPL_REL_DATA0, 4, 2⟩
abbrev REPL_REL_DATA0_STATE : Fld := ⟨REPL_REL_DATA0, 0, 4⟩
abbrev REPL_REL_DATA1 : Nat := 0x7B0210
abbrev REPL_CNT (k : Nat) : Nat := 0x7B0300 + k * 0x8

/-- The page of `KEYS`. -/
abbrev KEYS_PAGE : Nat := 124
abbrev KEYS_CMD : Nat := 0x7C0100
abbrev KEYS_CMD_GO : Fld := ⟨KEYS_CMD, 63, 1⟩
abbrev KEYS_CMD_SRC : Fld := ⟨KEYS_CMD, 20, 5⟩
abbrev KEYS_CMD_OP : Fld := ⟨KEYS_CMD, 16, 4⟩
abbrev KEYS_CMD_SLOT : Fld := ⟨KEYS_CMD, 0, 15⟩
abbrev KEYS_ARG : Nat := 0x7C0108
abbrev KEYS_STATUS : Nat := 0x7C0180
abbrev KEYS_STATUS_EPOCH : Fld := ⟨KEYS_STATUS, 32, 32⟩
abbrev KEYS_STATUS_FULL : Fld := ⟨KEYS_STATUS, 16, 1⟩
abbrev KEYS_STATUS_RESULT : Fld := ⟨KEYS_STATUS, 8, 8⟩
abbrev KEYS_STATUS_LEDGER_OK : Fld := ⟨KEYS_STATUS, 1, 1⟩
abbrev KEYS_STATUS_BUSY : Fld := ⟨KEYS_STATUS, 0, 1⟩
abbrev KEYS_KCV : Nat := 0x7C0188
abbrev KEYS_ID_PUB (k : Nat) : Nat := 0x7C0200 + k * 0x8
abbrev KEYS_OWNER_PUB (k : Nat) : Nat := 0x7C0300 + k * 0x8
abbrev KEYS_CNT (k : Nat) : Nat := 0x7C0400 + k * 0x8

/-- The page of `LIFE`. -/
abbrev LIFE_PAGE : Nat := 125
abbrev LIFE_STATUS : Nat := 0x7D0100
abbrev LIFE_STATUS_REQ_ERR : Fld := ⟨LIFE_STATUS, 16, 4⟩
abbrev LIFE_STATUS_BUSY : Fld := ⟨LIFE_STATUS, 15, 1⟩
abbrev LIFE_STATUS_TARGET : Fld := ⟨LIFE_STATUS, 8, 4⟩
abbrev LIFE_STATUS_INCOMPLETE : Fld := ⟨LIFE_STATUS, 7, 1⟩
abbrev LIFE_STATUS_STATE : Fld := ⟨LIFE_STATUS, 0, 3⟩
abbrev LIFE_REQ : Nat := 0x7D0108
abbrev LIFE_REQ_CONFIRM : Fld := ⟨LIFE_REQ, 8, 8⟩
abbrev LIFE_REQ_TARGET : Fld := ⟨LIFE_REQ, 0, 3⟩
abbrev LIFE_FUSE : Nat := 0x7D0110
abbrev LIFE_FUSE_CELLS : Fld := ⟨LIFE_FUSE, 0, 24⟩
abbrev LIFE_TAMPER_CFG : Nat := 0x7D0180
abbrev LIFE_TAMPER_CFG_ZEROIZE : Fld := ⟨LIFE_TAMPER_CFG, 8, 5⟩
abbrev LIFE_TAMPER_CFG_POL : Fld := ⟨LIFE_TAMPER_CFG, 4, 4⟩
abbrev LIFE_TAMPER_CFG_EN : Fld := ⟨LIFE_TAMPER_CFG, 0, 4⟩
abbrev LIFE_TAMPER_STATUS : Nat := 0x7D0188
abbrev LIFE_TAMPER_STATUS_LATCH : Fld := ⟨LIFE_TAMPER_STATUS, 7, 1⟩
abbrev LIFE_TAMPER_STATUS_ACTIVE : Fld := ⟨LIFE_TAMPER_STATUS, 6, 1⟩
abbrev LIFE_TAMPER_STATUS_SOURCES : Fld := ⟨LIFE_TAMPER_STATUS, 0, 6⟩
abbrev LIFE_TAMPER_TIME : Nat := 0x7D0190
abbrev LIFE_TAMPER_TIME_SECONDS : Fld := ⟨LIFE_TAMPER_TIME, 15, 49⟩
abbrev LIFE_TAMPER_TIME_FRACTION : Fld := ⟨LIFE_TAMPER_TIME, 0, 15⟩
abbrev LIFE_TAMPER_CLEAR : Nat := 0x7D0198
abbrev LIFE_TAMPER_CLEAR_CONFIRM : Fld := ⟨LIFE_TAMPER_CLEAR, 8, 6⟩
abbrev LIFE_TAMPER_CLEAR_CLEAR : Fld := ⟨LIFE_TAMPER_CLEAR, 0, 1⟩

/-- The page of `MEAS`. -/
abbrev MEAS_PAGE : Nat := 126
abbrev MEAS_EXT_CMD : Nat := 0x7E0100
abbrev MEAS_EXT_CMD_GO : Fld := ⟨MEAS_EXT_CMD, 63, 1⟩
abbrev MEAS_EXT_CMD_MR : Fld := ⟨MEAS_EXT_CMD, 0, 5⟩
abbrev MEAS_EXT_DATA (k : Nat) : Nat := 0x7E0108 + k * 0x8
abbrev MEAS_CMP_VALUE (k : Nat) : Nat := 0x7E0180 + k * 0x8
abbrev MEAS_CMP_RESULT : Nat := 0x7E01B0
abbrev MEAS_CMP_RESULT_MATCH_N : Fld := ⟨MEAS_CMP_RESULT, 1, 1⟩
abbrev MEAS_CMP_RESULT_MATCH : Fld := ⟨MEAS_CMP_RESULT, 0, 1⟩
abbrev MEAS_MR_W0 (k : Nat) : Nat := 0x7E1000 + k * 0x40
abbrev MEAS_MR_W1 (k : Nat) : Nat := 0x7E1008 + k * 0x40
abbrev MEAS_MR_W2 (k : Nat) : Nat := 0x7E1010 + k * 0x40
abbrev MEAS_MR_W3 (k : Nat) : Nat := 0x7E1018 + k * 0x40
abbrev MEAS_MR_W4 (k : Nat) : Nat := 0x7E1020 + k * 0x40
abbrev MEAS_MR_W5 (k : Nat) : Nat := 0x7E1028 + k * 0x40

/-- The page of `SESS`. -/
abbrev SESS_PAGE : Nat := 127
abbrev SESS_CFG : Nat := 0x7F0100
abbrev SESS_CFG_IDLE_S : Fld := ⟨SESS_CFG, 0, 16⟩
abbrev SESS_STATUS : Nat := 0x7F0180
abbrev SESS_STATUS_ADMIN_ID : Fld := ⟨SESS_STATUS, 32, 32⟩
abbrev SESS_STATUS_LOCK_S : Fld := ⟨SESS_STATUS, 20, 12⟩
abbrev SESS_STATUS_FAILS : Fld := ⟨SESS_STATUS, 16, 4⟩
abbrev SESS_STATUS_MONITORS : Fld := ⟨SESS_STATUS, 0, 3⟩
abbrev SESS_CHAL_REQ : Nat := 0x7F0188
abbrev SESS_CHAL_REQ_LEVEL : Fld := ⟨SESS_CHAL_REQ, 0, 2⟩
abbrev SESS_CHAL (k : Nat) : Nat := 0x7F0190 + k * 0x8
abbrev SESS_RESP (k : Nat) : Nat := 0x7F01B0 + k * 0x8

/-- The page of `DRAMC`. -/
abbrev DRAMC_PAGE (i : Nat) : Nat := 128 + i
abbrev DRAMC_STATUS (i : Nat) : Nat := 0x800100 + i * 0x10000
abbrev DRAMC_STATUS_SIZE_GIB (i : Nat) : Fld := ⟨(DRAMC_STATUS i), 32, 16⟩
abbrev DRAMC_STATUS_RATE_MTS (i : Nat) : Fld := ⟨(DRAMC_STATUS i), 16, 16⟩
abbrev DRAMC_STATUS_TRAIN (i : Nat) : Fld := ⟨(DRAMC_STATUS i), 0, 4⟩
abbrev DRAMC_ECC_CE (i : Nat) : Nat := 0x800108 + i * 0x10000
abbrev DRAMC_ECC_UE (i : Nat) : Nat := 0x800110 + i * 0x10000
abbrev DRAMC_UE_ADDR (i : Nat) : Nat := 0x800118 + i * 0x10000

/-- The page of `PWR`. -/
abbrev PWR_PAGE : Nat := 144
abbrev PWR_CFG : Nat := 0x900100
abbrev PWR_CFG_AVS_GUARD_MV : Fld := ⟨PWR_CFG, 8, 8⟩
abbrev PWR_CFG_MAX_POWERING : Fld := ⟨PWR_CFG, 4, 4⟩
abbrev PWR_CFG_AUTO_GATE : Fld := ⟨PWR_CFG, 0, 1⟩
abbrev PWR_STATUS : Nat := 0x900180
abbrev PWR_STATUS_P_MEAS_W : Fld := ⟨PWR_STATUS, 48, 16⟩
abbrev PWR_STATUS_P_ST_W : Fld := ⟨PWR_STATUS, 32, 16⟩
abbrev PWR_STATUS_P_SP_W : Fld := ⟨PWR_STATUS, 16, 16⟩
abbrev PWR_STATUS_FLOOR : Fld := ⟨PWR_STATUS, 2, 1⟩
abbrev PWR_STATUS_STRETCH : Fld := ⟨PWR_STATUS, 1, 1⟩
abbrev PWR_STATUS_AVS_BUSY : Fld := ⟨PWR_STATUS, 0, 1⟩
abbrev PWR_RAIL (k : Nat) : Nat := 0x900200 + k * 0x8
abbrev PWR_RAIL_VOUT_MV (k : Nat) : Fld := ⟨(PWR_RAIL k), 48, 16⟩
abbrev PWR_RAIL_IOUT_DA (k : Nat) : Fld := ⟨(PWR_RAIL k), 32, 16⟩
abbrev PWR_RAIL_PMB_ADDR (k : Nat) : Fld := ⟨(PWR_RAIL k), 16, 8⟩
abbrev PWR_RAIL_STATUS_WORD (k : Nat) : Fld := ⟨(PWR_RAIL k), 0, 16⟩
abbrev PWR_DVFS (k : Nat) : Nat := 0x900300 + k * 0x8
abbrev PWR_DVFS_STRETCH_DIV (k : Nat) : Fld := ⟨(PWR_DVFS k), 16, 4⟩
abbrev PWR_DVFS_STEP (k : Nat) : Fld := ⟨(PWR_DVFS k), 8, 4⟩
abbrev PWR_DVFS_PENDING (k : Nat) : Fld := ⟨(PWR_DVFS k), 4, 4⟩
abbrev PWR_DVFS_CEIL (k : Nat) : Fld := ⟨(PWR_DVFS k), 0, 4⟩
abbrev PWR_DOM (k : Nat) : Nat := 0x901000 + k * 0x8
abbrev PWR_DOM_GATE_CNT (k : Nat) : Fld := ⟨(PWR_DOM k), 32, 32⟩
abbrev PWR_DOM_STATE (k : Nat) : Fld := ⟨(PWR_DOM k), 8, 8⟩
abbrev PWR_DOM_REQ (k : Nat) : Fld := ⟨(PWR_DOM k), 0, 2⟩

/-- The page of `TEMPLE`. -/
abbrev TEMPLE_PAGE : Nat := 145
abbrev TEMPLE_CTRL (k : Nat) : Nat := 0x910200 + k * 0x100
abbrev TEMPLE_CTRL_PV_SEL (k : Nat) : Fld := ⟨(TEMPLE_CTRL k), 16, 8⟩
abbrev TEMPLE_CTRL_I_RESET (k : Nat) : Fld := ⟨(TEMPLE_CTRL k), 3, 1⟩
abbrev TEMPLE_CTRL_INVERT (k : Nat) : Fld := ⟨(TEMPLE_CTRL k), 2, 1⟩
abbrev TEMPLE_CTRL_HOLD (k : Nat) : Fld := ⟨(TEMPLE_CTRL k), 1, 1⟩
abbrev TEMPLE_CTRL_ENABLE (k : Nat) : Fld := ⟨(TEMPLE_CTRL k), 0, 1⟩
abbrev TEMPLE_KP (k : Nat) : Nat := 0x910208 + k * 0x100
abbrev TEMPLE_KP_Q (k : Nat) : Fld := ⟨(TEMPLE_KP k), 0, 32⟩
abbrev TEMPLE_KI (k : Nat) : Nat := 0x910210 + k * 0x100
abbrev TEMPLE_KI_Q (k : Nat) : Fld := ⟨(TEMPLE_KI k), 0, 32⟩
abbrev TEMPLE_KD (k : Nat) : Nat := 0x910218 + k * 0x100
abbrev TEMPLE_KD_Q (k : Nat) : Fld := ⟨(TEMPLE_KD k), 0, 32⟩
abbrev TEMPLE_ALPHA (k : Nat) : Nat := 0x910220 + k * 0x100
abbrev TEMPLE_ALPHA_Q (k : Nat) : Fld := ⟨(TEMPLE_ALPHA k), 0, 32⟩
abbrev TEMPLE_I_MIN (k : Nat) : Nat := 0x910228 + k * 0x100
abbrev TEMPLE_I_MIN_Q (k : Nat) : Fld := ⟨(TEMPLE_I_MIN k), 0, 32⟩
abbrev TEMPLE_I_MAX (k : Nat) : Nat := 0x910230 + k * 0x100
abbrev TEMPLE_I_MAX_Q (k : Nat) : Fld := ⟨(TEMPLE_I_MAX k), 0, 32⟩
abbrev TEMPLE_U_MIN (k : Nat) : Nat := 0x910238 + k * 0x100
abbrev TEMPLE_U_MIN_Q (k : Nat) : Fld := ⟨(TEMPLE_U_MIN k), 0, 32⟩
abbrev TEMPLE_U_MAX (k : Nat) : Nat := 0x910240 + k * 0x100
abbrev TEMPLE_U_MAX_Q (k : Nat) : Fld := ⟨(TEMPLE_U_MAX k), 0, 32⟩
abbrev TEMPLE_SP_TARGET (k : Nat) : Nat := 0x910248 + k * 0x100
abbrev TEMPLE_SP_TARGET_Q (k : Nat) : Fld := ⟨(TEMPLE_SP_TARGET k), 0, 32⟩
abbrev TEMPLE_VMAX (k : Nat) : Nat := 0x910250 + k * 0x100
abbrev TEMPLE_VMAX_Q (k : Nat) : Fld := ⟨(TEMPLE_VMAX k), 0, 32⟩
abbrev TEMPLE_AMAX (k : Nat) : Nat := 0x910258 + k * 0x100
abbrev TEMPLE_AMAX_Q (k : Nat) : Fld := ⟨(TEMPLE_AMAX k), 0, 32⟩
abbrev TEMPLE_JMAX (k : Nat) : Nat := 0x910260 + k * 0x100
abbrev TEMPLE_JMAX_Q (k : Nat) : Fld := ⟨(TEMPLE_JMAX k), 0, 32⟩
abbrev TEMPLE_U_SAFE (k : Nat) : Nat := 0x910268 + k * 0x100
abbrev TEMPLE_U_SAFE_Q (k : Nat) : Fld := ⟨(TEMPLE_U_SAFE k), 0, 32⟩
abbrev TEMPLE_STATUS (k : Nat) : Nat := 0x910280 + k * 0x100
abbrev TEMPLE_STATUS_SAMPLES (k : Nat) : Fld := ⟨(TEMPLE_STATUS k), 32, 32⟩
abbrev TEMPLE_STATUS_LIMIT_ERR (k : Nat) : Fld := ⟨(TEMPLE_STATUS k), 6, 1⟩
abbrev TEMPLE_STATUS_SAT_SP (k : Nat) : Fld := ⟨(TEMPLE_STATUS k), 4, 1⟩
abbrev TEMPLE_STATUS_SAT_U (k : Nat) : Fld := ⟨(TEMPLE_STATUS k), 3, 1⟩
abbrev TEMPLE_STATUS_SAT_D (k : Nat) : Fld := ⟨(TEMPLE_STATUS k), 2, 1⟩
abbrev TEMPLE_STATUS_SAT_I (k : Nat) : Fld := ⟨(TEMPLE_STATUS k), 1, 1⟩
abbrev TEMPLE_STATUS_SAT_P (k : Nat) : Fld := ⟨(TEMPLE_STATUS k), 0, 1⟩
abbrev TEMPLE_SP (k : Nat) : Nat := 0x910288 + k * 0x100
abbrev TEMPLE_SP_Q (k : Nat) : Fld := ⟨(TEMPLE_SP k), 0, 32⟩
abbrev TEMPLE_PV (k : Nat) : Nat := 0x910290 + k * 0x100
abbrev TEMPLE_PV_Q (k : Nat) : Fld := ⟨(TEMPLE_PV k), 0, 32⟩
abbrev TEMPLE_U (k : Nat) : Nat := 0x910298 + k * 0x100
abbrev TEMPLE_U_Q (k : Nat) : Fld := ⟨(TEMPLE_U k), 0, 32⟩
abbrev TEMPLE_I (k : Nat) : Nat := 0x9102A0 + k * 0x100
abbrev TEMPLE_I_Q (k : Nat) : Fld := ⟨(TEMPLE_I k), 0, 32⟩

/-- The page of `THERM`. -/
abbrev THERM_PAGE : Nat := 146
abbrev THERM_CFG : Nat := 0x920100
abbrev THERM_CFG_FAN_MIN_RPM : Fld := ⟨THERM_CFG, 16, 16⟩
abbrev THERM_CFG_STRETCH_DIV : Fld := ⟨THERM_CFG, 8, 4⟩
abbrev THERM_CFG_EMERG_C : Fld := ⟨THERM_CFG, 0, 8⟩
abbrev THERM_STATUS : Nat := 0x920180
abbrev THERM_STATUS_HOTTEST_C : Fld := ⟨THERM_STATUS, 56, 8⟩
abbrev THERM_STATUS_HOTTEST_IDX : Fld := ⟨THERM_STATUS, 50, 6⟩
abbrev THERM_STATUS_TRIPPED : Fld := ⟨THERM_STATUS, 2, 1⟩
abbrev THERM_STATUS_GRAD_FORCE : Fld := ⟨THERM_STATUS, 1, 1⟩
abbrev THERM_STATUS_EMERGENCY : Fld := ⟨THERM_STATUS, 0, 1⟩
abbrev THERM_FAN (k : Nat) : Nat := 0x920200 + k * 0x8
abbrev THERM_FAN_RPM (k : Nat) : Fld := ⟨(THERM_FAN k), 0, 32⟩
abbrev THERM_SENSOR (k : Nat) : Nat := 0x921000 + k * 0x8
abbrev THERM_SENSOR_TEMP (k : Nat) : Fld := ⟨(THERM_SENSOR k), 0, 16⟩

/-- The page of `EVREC`. -/
abbrev EVREC_PAGE : Nat := 147
abbrev EVREC_CFG : Nat := 0x930100
abbrev EVREC_CFG_FLUSH_MS : Fld := ⟨EVREC_CFG, 48, 16⟩
abbrev EVREC_CFG_EXPORT_MIN_SEV : Fld := ⟨EVREC_CFG, 8, 3⟩
abbrev EVREC_CFG_OOB_MIN_SEV : Fld := ⟨EVREC_CFG, 4, 3⟩
abbrev EVREC_CFG_UART_MIN_SEV : Fld := ⟨EVREC_CFG, 0, 3⟩
abbrev EVREC_STATUS : Nat := 0x930180
abbrev EVREC_STATUS_BUF_USED : Fld := ⟨EVREC_STATUS, 48, 16⟩
abbrev EVREC_STATUS_ERASED : Fld := ⟨EVREC_STATUS, 38, 10⟩
abbrev EVREC_STATUS_HEAD : Fld := ⟨EVREC_STATUS, 0, 32⟩
abbrev EVREC_FLUSH : Nat := 0x930188
abbrev EVREC_FLUSH_GO : Fld := ⟨EVREC_FLUSH, 0, 1⟩
abbrev EVREC_RD_CMD : Nat := 0x9301A0
abbrev EVREC_RD_CMD_GO : Fld := ⟨EVREC_RD_CMD, 63, 1⟩
abbrev EVREC_RD_CMD_WHERE : Fld := ⟨EVREC_RD_CMD, 32, 1⟩
abbrev EVREC_RD_CMD_INDEX : Fld := ⟨EVREC_RD_CMD, 0, 32⟩
abbrev EVREC_RD_DATA0 : Nat := 0x9301A8
abbrev EVREC_RD_DATA1 : Nat := 0x9301B0
abbrev EVREC_RD_DATA2 : Nat := 0x9301B8
abbrev EVREC_RD_DATA3 : Nat := 0x9301C0
abbrev EVREC_RATE_CMD : Nat := 0x930200
abbrev EVREC_RATE_CMD_GO : Fld := ⟨EVREC_RATE_CMD, 63, 1⟩
abbrev EVREC_RATE_CMD_OP : Fld := ⟨EVREC_RATE_CMD, 16, 2⟩
abbrev EVREC_RATE_CMD_CODE : Fld := ⟨EVREC_RATE_CMD, 0, 12⟩
abbrev EVREC_RATE_DATA : Nat := 0x930208
abbrev EVREC_RATE_DATA_RATE : Fld := ⟨EVREC_RATE_DATA, 48, 16⟩
abbrev EVREC_RATE_DATA_DEPTH : Fld := ⟨EVREC_RATE_DATA, 32, 16⟩
abbrev EVREC_RATE_DATA_LEVEL : Fld := ⟨EVREC_RATE_DATA, 16, 16⟩
abbrev EVREC_RATE_DATA_SUPPRESSED : Fld := ⟨EVREC_RATE_DATA, 0, 16⟩
abbrev EVREC_CNT (k : Nat) : Nat := 0x930300 + k * 0x8

/-- The page of `SVC`. -/
abbrev SVC_PAGE (i : Nat) : Nat := 148 + i
abbrev SVC_CFG (i : Nat) : Nat := 0x940100 + i * 0x10000
abbrev SVC_CFG_WDOG_MS (i : Nat) : Fld := ⟨(SVC_CFG i), 0, 8⟩
abbrev SVC_STATUS (i : Nat) : Nat := 0x940180 + i * 0x10000
abbrev SVC_STATUS_FW_VERSION (i : Nat) : Fld := ⟨(SVC_STATUS i), 32, 32⟩
abbrev SVC_STATUS_QUEUES (i : Nat) : Fld := ⟨(SVC_STATUS i), 24, 8⟩
abbrev SVC_STATUS_BUSY_PCT (i : Nat) : Fld := ⟨(SVC_STATUS i), 16, 8⟩
abbrev SVC_STATUS_REQ_STEP (i : Nat) : Fld := ⟨(SVC_STATUS i), 0, 4⟩
abbrev SVC_ITEMS (i : Nat) : Nat := 0x940188 + i * 0x10000

/-- The page of `INTC`. -/
abbrev INTC_PAGE : Nat := 164
abbrev INTC_CLAIM (k : Nat) : Nat := 0xA40400 + k * 0x20
abbrev INTC_CLAIM_VALID (k : Nat) : Fld := ⟨(INTC_CLAIM k), 15, 1⟩
abbrev INTC_CLAIM_SOURCE (k : Nat) : Fld := ⟨(INTC_CLAIM k), 0, 10⟩
abbrev INTC_COMPLETE (k : Nat) : Nat := 0xA40408 + k * 0x20
abbrev INTC_COMPLETE_SOURCE (k : Nat) : Fld := ⟨(INTC_COMPLETE k), 0, 10⟩
abbrev INTC_RUN_PRIO (k : Nat) : Nat := 0xA40410 + k * 0x20
abbrev INTC_RUN_PRIO_DEPTH (k : Nat) : Fld := ⟨(INTC_RUN_PRIO k), 8, 5⟩
abbrev INTC_RUN_PRIO_PRIO (k : Nat) : Fld := ⟨(INTC_RUN_PRIO k), 0, 5⟩
abbrev INTC_CORE_CLAIMS (k : Nat) : Nat := 0xA40418 + k * 0x20
abbrev INTC_CNT (k : Nat) : Nat := 0xA40600 + k * 0x8
abbrev INTC_GROUP (k : Nat) : Nat := 0xA40800 + k * 0x8
abbrev INTC_GROUP_REMAIN_NS (k : Nat) : Fld := ⟨(INTC_GROUP k), 32, 32⟩
abbrev INTC_GROUP_HOLDOFF (k : Nat) : Fld := ⟨(INTC_GROUP k), 0, 16⟩
abbrev INTC_SRC (k : Nat) : Nat := 0xA41000 + k * 0x8
abbrev INTC_SRC_CORE_MASK (k : Nat) : Fld := ⟨(INTC_SRC k), 48, 16⟩
abbrev INTC_SRC_GROUP (k : Nat) : Fld := ⟨(INTC_SRC k), 32, 6⟩
abbrev INTC_SRC_PRIO (k : Nat) : Fld := ⟨(INTC_SRC k), 8, 4⟩
abbrev INTC_SRC_EN (k : Nat) : Fld := ⟨(INTC_SRC k), 0, 1⟩
abbrev INTC_SRC_STATE (k : Nat) : Nat := 0xA43000 + k * 0x8
abbrev INTC_SRC_STATE_CLAIMS (k : Nat) : Fld := ⟨(INTC_SRC_STATE k), 32, 32⟩
abbrev INTC_SRC_STATE_CORE_VALID (k : Nat) : Fld := ⟨(INTC_SRC_STATE k), 20, 1⟩
abbrev INTC_SRC_STATE_CORE (k : Nat) : Fld := ⟨(INTC_SRC_STATE k), 16, 4⟩
abbrev INTC_SRC_STATE_HELD_OFF (k : Nat) : Fld := ⟨(INTC_SRC_STATE k), 3, 1⟩
abbrev INTC_SRC_STATE_IN_SERVICE (k : Nat) : Fld := ⟨(INTC_SRC_STATE k), 2, 1⟩
abbrev INTC_SRC_STATE_PENDING (k : Nat) : Fld := ⟨(INTC_SRC_STATE k), 1, 1⟩
abbrev INTC_SRC_STATE_LEVEL (k : Nat) : Fld := ⟨(INTC_SRC_STATE k), 0, 1⟩

/-- The page of `PICK`. -/
abbrev PICK_PAGE : Nat := 165
abbrev PICK_CFG : Nat := 0xA50100
abbrev PICK_CFG_RING_EN : Fld := ⟨PICK_CFG, 8, 1⟩
abbrev PICK_CFG_PERIOD_S : Fld := ⟨PICK_CFG, 0, 6⟩
abbrev PICK_RING_BASE : Nat := 0xA50108
abbrev PICK_RING_BASE_BASE : Fld := ⟨PICK_RING_BASE, 12, 52⟩
abbrev PICK_RING_BYTES : Nat := 0xA50110
abbrev PICK_RING_BYTES_BYTES : Fld := ⟨PICK_RING_BYTES, 12, 52⟩
abbrev PICK_RING_PROD : Nat := 0xA50118
abbrev PICK_RING_CONS : Nat := 0xA50120
abbrev PICK_COUNTERS : Nat := 0xA50128
abbrev PICK_COUNTERS_RECORD_BYTES : Fld := ⟨PICK_COUNTERS, 32, 32⟩
abbrev PICK_COUNTERS_N : Fld := ⟨PICK_COUNTERS, 0, 32⟩
abbrev PICK_STATUS : Nat := 0xA50180
abbrev PICK_STATUS_LAST_WRITTEN : Fld := ⟨PICK_STATUS, 32, 32⟩
abbrev PICK_STATUS_DROPPED : Fld := ⟨PICK_STATUS, 16, 16⟩
abbrev PICK_STATUS_HELD : Fld := ⟨PICK_STATUS, 0, 2⟩
abbrev PICK_PARTNER_EPOCH : Nat := 0xA50188
abbrev PICK_PARTNER_EPOCH_EPOCH : Fld := ⟨PICK_PARTNER_EPOCH, 0, 32⟩
abbrev PICK_RD_CMD : Nat := 0xA50190
abbrev PICK_RD_CMD_GO : Fld := ⟨PICK_RD_CMD, 63, 1⟩
abbrev PICK_RD_CMD_INDEX : Fld := ⟨PICK_RD_CMD, 0, 32⟩
abbrev PICK_RD_DATA : Nat := 0xA50198

/-- The page of `TRACE`. -/
abbrev TRACE_PAGE : Nat := 166
abbrev TRACE_CFG : Nat := 0xA60100
abbrev TRACE_CFG_DRAM_MBPS : Fld := ⟨TRACE_CFG, 48, 16⟩
abbrev TRACE_CFG_STOP : Fld := ⟨TRACE_CFG, 3, 1⟩
abbrev TRACE_CFG_EN : Fld := ⟨TRACE_CFG, 2, 1⟩
abbrev TRACE_CFG_SINK : Fld := ⟨TRACE_CFG, 0, 2⟩
abbrev TRACE_SRC_EN : Nat := 0xA60108
abbrev TRACE_SRC_EN_EN : Fld := ⟨TRACE_SRC_EN, 0, 61⟩
abbrev TRACE_DRAM_BASE : Nat := 0xA60110
abbrev TRACE_DRAM_BASE_BASE : Fld := ⟨TRACE_DRAM_BASE, 26, 38⟩
abbrev TRACE_DRAM_BYTES : Nat := 0xA60118
abbrev TRACE_DRAM_BYTES_BYTES : Fld := ⟨TRACE_DRAM_BYTES, 26, 38⟩
abbrev TRACE_WR_PTR : Nat := 0xA60120
abbrev TRACE_RD : Nat := 0xA60128
abbrev TRACE_LOST (k : Nat) : Nat := 0xA61000 + k * 0x8

/-- The page of `UPEP`. -/
abbrev UPEP_PAGE : Nat := 167
abbrev UPEP_APERTURE : Nat := 0xA70100
abbrev UPEP_APERTURE_BASE_GIB : Fld := ⟨UPEP_APERTURE, 0, 12⟩
abbrev UPEP_LINK : Nat := 0xA70180
abbrev UPEP_LINK_DSTATE : Fld := ⟨UPEP_LINK, 16, 2⟩
abbrev UPEP_LINK_RATE : Fld := ⟨UPEP_LINK, 8, 3⟩
abbrev UPEP_LINK_WIDTH : Fld := ⟨UPEP_LINK, 0, 5⟩
abbrev UPEP_CNT (k : Nat) : Nat := 0xA70200 + k * 0x8

/-- The page of `CTLCH`. -/
abbrev CTLCH_PAGE : Nat := 168
abbrev CTLCH_CFG : Nat := 0xA80100
abbrev CTLCH_CFG_ALIVE_MS : Fld := ⟨CTLCH_CFG, 32, 32⟩
abbrev CTLCH_CFG_WAKE_MIN_SEV : Fld := ⟨CTLCH_CFG, 0, 3⟩
abbrev CTLCH_ALIVE : Nat := 0xA80108
abbrev CTLCH_ALIVE_BEAT : Fld := ⟨CTLCH_ALIVE, 0, 1⟩
abbrev CTLCH_STATUS : Nat := 0xA80180
abbrev CTLCH_STATUS_RING_EN : Fld := ⟨CTLCH_STATUS, 48, 16⟩
abbrev CTLCH_STATUS_EV_EN : Fld := ⟨CTLCH_STATUS, 47, 1⟩
abbrev CTLCH_STATUS_IN_PROGRESS : Fld := ⟨CTLCH_STATUS, 16, 9⟩
abbrev CTLCH_STATUS_WAKE : Fld := ⟨CTLCH_STATUS, 3, 1⟩
abbrev CTLCH_STATUS_ALIVE_LATE : Fld := ⟨CTLCH_STATUS, 2, 1⟩
abbrev CTLCH_STATUS_PERST : Fld := ⟨CTLCH_STATUS, 1, 1⟩
abbrev CTLCH_STATUS_PRESENT : Fld := ⟨CTLCH_STATUS, 0, 1⟩
abbrev CTLCH_RING (k : Nat) : Nat := 0xA80200 + k * 0x10
abbrev CTLCH_RING_BASE (k : Nat) : Fld := ⟨(CTLCH_RING k), 12, 52⟩
abbrev CTLCH_RING_SIZE (k : Nat) : Nat := 0xA80208 + k * 0x10
abbrev CTLCH_RING_SIZE_EN (k : Nat) : Fld := ⟨(CTLCH_RING_SIZE k), 63, 1⟩
abbrev CTLCH_RING_SIZE_CPL_BASE (k : Nat) : Fld := ⟨(CTLCH_RING_SIZE k), 12, 40⟩
abbrev CTLCH_RING_SIZE_LOG2_ENTRIES (k : Nat) : Fld := ⟨(CTLCH_RING_SIZE k), 0, 4⟩
abbrev CTLCH_EV_RING : Nat := 0xA80300
abbrev CTLCH_EV_RING_BASE : Fld := ⟨CTLCH_EV_RING, 12, 52⟩
abbrev CTLCH_EV_RING_SIZE : Nat := 0xA80308
abbrev CTLCH_EV_RING_SIZE_EN : Fld := ⟨CTLCH_EV_RING_SIZE, 63, 1⟩
abbrev CTLCH_EV_RING_SIZE_CPL_BASE : Fld := ⟨CTLCH_EV_RING_SIZE, 12, 40⟩
abbrev CTLCH_EV_RING_SIZE_LOG2_ENTRIES : Fld := ⟨CTLCH_EV_RING_SIZE, 0, 4⟩
abbrev CTLCH_CNT (k : Nat) : Nat := 0xA80400 + k * 0x8

/-- The page of `MGMT`. -/
abbrev MGMT_PAGE : Nat := 169
abbrev MGMT_BOOT_STATUS : Nat := 0xA90100
abbrev MGMT_BOOT_STATUS_FATAL_CAUSE : Fld := ⟨MGMT_BOOT_STATUS, 32, 8⟩
abbrev MGMT_BOOT_STATUS_REPLAY_SRC : Fld := ⟨MGMT_BOOT_STATUS, 25, 1⟩
abbrev MGMT_BOOT_STATUS_IMAGE : Fld := ⟨MGMT_BOOT_STATUS, 24, 1⟩
abbrev MGMT_BOOT_STATUS_MODE : Fld := ⟨MGMT_BOOT_STATUS, 16, 2⟩
abbrev MGMT_BOOT_STATUS_FAILED_STEP : Fld := ⟨MGMT_BOOT_STATUS, 8, 8⟩
abbrev MGMT_BOOT_STATUS_STEP : Fld := ⟨MGMT_BOOT_STATUS, 0, 8⟩
abbrev MGMT_IMAGE_A : Nat := 0xA90108
abbrev MGMT_IMAGE_A_ACCEPTABLE : Fld := ⟨MGMT_IMAGE_A, 40, 1⟩
abbrev MGMT_IMAGE_A_SVN : Fld := ⟨MGMT_IMAGE_A, 32, 8⟩
abbrev MGMT_IMAGE_A_VERSION : Fld := ⟨MGMT_IMAGE_A, 0, 32⟩
abbrev MGMT_IMAGE_B : Nat := 0xA90110
abbrev MGMT_IMAGE_B_ACCEPTABLE : Fld := ⟨MGMT_IMAGE_B, 40, 1⟩
abbrev MGMT_IMAGE_B_SVN : Fld := ⟨MGMT_IMAGE_B, 32, 8⟩
abbrev MGMT_IMAGE_B_VERSION : Fld := ⟨MGMT_IMAGE_B, 0, 32⟩
abbrev MGMT_NOR_DIR : Nat := 0xA90118
abbrev MGMT_NOR_DIR_SEQ : Fld := ⟨MGMT_NOR_DIR, 32, 32⟩
abbrev MGMT_NOR_DIR_TRIAL : Fld := ⟨MGMT_NOR_DIR, 1, 1⟩
abbrev MGMT_NOR_DIR_ACTIVE : Fld := ⟨MGMT_NOR_DIR, 0, 1⟩
abbrev MGMT_ROLLBACK : Nat := 0xA90120
abbrev MGMT_ROLLBACK_REVOKED : Fld := ⟨MGMT_ROLLBACK, 16, 4⟩
abbrev MGMT_ROLLBACK_RUN_SVN : Fld := ⟨MGMT_ROLLBACK, 8, 8⟩
abbrev MGMT_ROLLBACK_COUNT : Fld := ⟨MGMT_ROLLBACK, 0, 6⟩
abbrev MGMT_UPD_STATUS : Nat := 0xA90128
abbrev MGMT_UPD_STATUS_PROGRESS_PM : Fld := ⟨MGMT_UPD_STATUS, 48, 16⟩
abbrev MGMT_UPD_STATUS_RESULT : Fld := ⟨MGMT_UPD_STATUS, 8, 8⟩
abbrev MGMT_UPD_STATUS_SOURCE : Fld := ⟨MGMT_UPD_STATUS, 4, 4⟩
abbrev MGMT_UPD_STATUS_STEP : Fld := ⟨MGMT_UPD_STATUS, 0, 4⟩
abbrev MGMT_IF_CFG : Nat := 0xA90130
abbrev MGMT_IF_CFG_MCTP_EID : Fld := ⟨MGMT_IF_CFG, 16, 8⟩
abbrev MGMT_IF_CFG_OOB_EN : Fld := ⟨MGMT_IF_CFG, 15, 1⟩
abbrev MGMT_IF_CFG_SMB_SPEED : Fld := ⟨MGMT_IF_CFG, 8, 2⟩
abbrev MGMT_IF_CFG_SMB_ADDR : Fld := ⟨MGMT_IF_CFG, 0, 7⟩
abbrev MGMT_OOB_DEST0 : Nat := 0xA90138
abbrev MGMT_OOB_DEST1 : Nat := 0xA90140
abbrev MGMT_OOB_PORT : Nat := 0xA90148
abbrev MGMT_OOB_PORT_PORT : Fld := ⟨MGMT_OOB_PORT, 0, 16⟩
abbrev MGMT_VMON (k : Nat) : Nat := 0xA91000 + k * 0x8
abbrev MGMT_VMON_MV (k : Nat) : Fld := ⟨(MGMT_VMON k), 0, 16⟩
abbrev MGMT_IMON (k : Nat) : Nat := 0xA91200 + k * 0x8
abbrev MGMT_IMON_DA (k : Nat) : Fld := ⟨(MGMT_IMON k), 0, 16⟩

end Reg

end Sys2Proof.Machine
end

