-- ==== Sys2Proof/Machine/RegTable.lean ====
section
/-!
DEFINITION. Sys2Proof/Machine/RegTable.lean: every register of the AZ7240 as its chapter places it: offset,
array count and stride, whether it is staged (R39), whether it is a pick counter (R477), its reset value and its
fields with their access codes (R28) and the rule by which an out-of-range value reads.
-/

namespace Sys2Proof.Machine

/-- The block-specific registers of `DECK`. -/
def regsDeck : List RegDesc := []

/-- The block-specific registers of `CHIP`. -/
def regsChip : List RegDesc := [
    -- CHIP.CHIP_IDENT (R6)
    ⟨0x100, 1, 0x8, false, false, .const 0x7240e12100000000,
      [⟨63, 48, .ro, .keep⟩, ⟨47, 40, .ro, .keep⟩, ⟨39, 36, .ro, .keep⟩, ⟨35, 32, .ro, .keep⟩]⟩,
    -- CHIP.UID_LO (R44)
    ⟨0x108, 1, 0x8, false, false, .const 0,
      [⟨63, 0, .ro, .keep⟩]⟩,
    -- CHIP.UID_HI (R44)
    ⟨0x110, 1, 0x8, false, false, .const 0,
      [⟨63, 0, .ro, .keep⟩]⟩,
    -- CHIP.ACCESS_ERR (R44)
    ⟨0x118, 1, 0x8, false, false, .const 0,
      [⟨47, 32, .ros, .keep⟩, ⟨28, 16, .ros, .keep⟩, ⟨9, 9, .ros, .keep⟩, ⟨8, 8, .ros, .keep⟩,
       ⟨7, 4, .ros, .keep⟩, ⟨0, 0, .rosW1c, .keep⟩]⟩,
    -- CHIP.ACCESS_ERR_CNT (R44)
    ⟨0x120, 1, 0x8, false, false, .const 0,
      [⟨31, 0, .rosW1c, .keep⟩]⟩,
    -- CHIP.STRAPS (R44)
    ⟨0x128, 1, 0x8, false, false, .const 0,
      [⟨1, 0, .ro, .keep⟩]⟩]

/-- The block-specific registers of `TIME`. -/
def regsTime : List RegDesc := [
    -- TIME.NOW (R48)
    ⟨0x100, 1, 0x8, false, false, .const 0,
      [⟨63, 0, .ro, .keep⟩]⟩,
    -- TIME.CTRL (R48)
    ⟨0x108, 1, 0x8, false, false, .const 0,
      [⟨8, 8, .rw, .keep⟩, ⟨1, 0, .rw, .keep⟩]⟩,
    -- TIME.STATUS (R48)
    ⟨0x110, 1, 0x8, false, false, .const 0,
      [⟨2, 0, .ro, .keep⟩]⟩,
    -- TIME.STEP (R48)
    ⟨0x118, 1, 0x8, false, false, .const 0,
      [⟨63, 0, .wo, .keep⟩]⟩,
    -- TIME.RATE_ADJ (R48)
    ⟨0x120, 1, 0x8, false, false, .const 0,
      [⟨31, 0, .rw, .clampSigned 500000⟩]⟩,
    -- TIME.PARTNER_SKEW (R48)
    ⟨0x128, 1, 0x8, false, false, .const 0,
      [⟨63, 0, .ro, .keep⟩]⟩,
    -- TIME.PPS_CAPTURE (R48)
    ⟨0x130, 1, 0x8, false, false, .const 0,
      [⟨63, 0, .ro, .keep⟩]⟩]

/-- The block-specific registers of `ETHP`. -/
def regsEthp : List RegDesc := [
    -- ETHP.MODE (R74)
    ⟨0x100, 1, 0x8, true, false, .const 0x5dc00030000,
      [⟨55, 48, .rw, .keep⟩, ⟨45, 32, .rw, .clamp 576 9000⟩, ⟨17, 17, .rw, .keep⟩, ⟨16, 16, .rw, .keep⟩,
       ⟨2, 0, .rw, .keep⟩]⟩]

/-- The block-specific registers of `XPT`. -/
def regsXpt : List RegDesc := []

/-- The block-specific registers of `HEDDLE`. -/
def regsHeddle : List RegDesc := [
    -- HEDDLE.UPD_DATA0 (R84)
    ⟨0x100, 1, 0x8, false, false, .const 0,
      [⟨63, 0, .rw, .keep⟩]⟩,
    -- HEDDLE.UPD_DATA1 (R84)
    ⟨0x108, 1, 0x8, false, false, .const 0,
      [⟨63, 0, .rw, .keep⟩]⟩,
    -- HEDDLE.UPD_DATA2 (R84)
    ⟨0x110, 1, 0x8, false, false, .const 0,
      [⟨63, 0, .rw, .keep⟩]⟩,
    -- HEDDLE.UPD_DATA3 (R84)
    ⟨0x118, 1, 0x8, false, false, .const 0,
      [⟨63, 0, .rw, .keep⟩]⟩,
    -- HEDDLE.UPD_CMD (R89)
    ⟨0x120, 1, 0x8, false, false, .const 0,
      [⟨63, 63, .w1s, .keep⟩, ⟨17, 16, .rw, .keep⟩, ⟨13, 0, .rw, .keep⟩]⟩,
    -- HEDDLE.UPD_STATUS (R89)
    ⟨0x128, 1, 0x8, false, false, .const 0,
      [⟨31, 16, .ro, .keep⟩, ⟨9, 0, .ro, .keep⟩]⟩,
    -- HEDDLE.UPD_RESULT (R89)
    ⟨0x130, 1, 0x8, false, false, .const 0,
      [⟨3, 2, .ro, .keep⟩, ⟨0, 0, .ro, .keep⟩]⟩,
    -- HEDDLE.DROP_CNT (R90)
    ⟨0x200, 8, 0x8, false, true, .const 0,
      [⟨63, 0, .ro, .keep⟩]⟩,
    -- HEDDLE.ADDR_IP_HI (R88)
    ⟨0x1000, 256, 0x20, true, false, .const 0,
      [⟨63, 0, .rw, .keep⟩]⟩,
    -- HEDDLE.ADDR_IP_LO (R88)
    ⟨0x1008, 256, 0x20, true, false, .const 0,
      [⟨63, 0, .rw, .keep⟩]⟩,
    -- HEDDLE.ADDR_PORT_MASK (R88)
    ⟨0x1010, 256, 0x20, true, false, .const 0,
      [⟨63, 0, .rw, .keep⟩]⟩,
    -- HEDDLE.ADDR_ATTR (R88)
    ⟨0x1018, 256, 0x20, true, false, .const 0x1f49114400000000,
      [⟨63, 48, .rw, .keep⟩, ⟨47, 32, .rw, .keep⟩, ⟨27, 16, .rw, .keep⟩, ⟨4, 4, .rw, .keep⟩, ⟨3, 3, .ro, .keep⟩,
       ⟨2, 2, .rw, .keep⟩, ⟨1, 1, .rw, .keep⟩, ⟨0, 0, .rw, .keep⟩]⟩]

/-- The block-specific registers of `NVMF`. -/
def regsNvmf : List RegDesc := [
    -- NVMF.POLICY (R124)
    ⟨0x100, 1, 0x8, true, false, .const 0,
      [⟨0, 0, .rw, .keep⟩]⟩,
    -- NVMF.STATUS (R124)
    ⟨0x108, 1, 0x8, false, false, .const 0,
      [⟨0, 0, .ro, .keep⟩]⟩,
    -- NVMF.RAISE_FLOOR_CNT (R124)
    ⟨0x110, 1, 0x8, false, true, .const 0,
      [⟨63, 0, .ro, .keep⟩]⟩,
    -- NVMF.RAISE_SIZE_CNT (R124)
    ⟨0x118, 1, 0x8, false, true, .const 0,
      [⟨63, 0, .ro, .keep⟩]⟩,
    -- NVMF.RAISE_FUA_CNT (R124)
    ⟨0x120, 1, 0x8, false, true, .const 0,
      [⟨63, 0, .ro, .keep⟩]⟩]

/-- The block-specific registers of `LOOM`. -/
def regsLoom : List RegDesc := [
    -- LOOM.CFG (R166)
    ⟨0x100, 1, 0x8, true, false, .const 0xe10000000010524,
      [⟨63, 48, .rw, .clamp 60 65535⟩, ⟨16, 16, .rw, .keep⟩, ⟨15, 8, .rw, .clamp 1 20⟩, ⟨5, 4, .rw, .clamp 0 2⟩,
       ⟨3, 0, .rw, .keep⟩]⟩,
    -- LOOM.ENERGY_CFG (R166)
    ⟨0x108, 1, 0x8, true, false, .const 0x5000640032001e0,
      [⟨63, 56, .rw, .clamp 1 20⟩, ⟨47, 32, .rw, .keep⟩, ⟨31, 16, .rw, .keep⟩, ⟨15, 0, .rw, .clamp 0 480⟩]⟩,
    -- LOOM.STATUS (R166)
    ⟨0x180, 1, 0x8, false, false, .byPage [0, 1],
      [⟨63, 32, .ro, .keep⟩, ⟨31, 16, .ros, .keep⟩, ⟨9, 9, .ro, .keep⟩, ⟨8, 8, .ro, .keep⟩, ⟨1, 0, .ro, .keep⟩]⟩,
    -- LOOM.LAST_SWAP (R166)
    ⟨0x188, 1, 0x8, false, false, .const 0,
      [⟨63, 0, .ro, .keep⟩]⟩,
    -- LOOM.BUDGET (R166)
    ⟨0x190, 1, 0x8, false, false, .const 0,
      [⟨63, 32, .ro, .keep⟩, ⟨31, 0, .ro, .keep⟩]⟩,
    -- LOOM.GC_STATE (R166)
    ⟨0x198, 1, 0x8, false, false, .const 0x3e8000000000000,
      [⟨63, 48, .ro, .keep⟩, ⟨47, 40, .ro, .keep⟩, ⟨15, 0, .ro, .keep⟩]⟩,
    -- LOOM.REFUSE_CNT (R165)
    ⟨0x200, 9, 0x8, false, true, .const 0,
      [⟨63, 0, .ro, .keep⟩]⟩,
    -- LOOM.MISS_CNT (R165)
    ⟨0x260, 5, 0x8, false, true, .const 0,
      [⟨63, 0, .ro, .keep⟩]⟩,
    -- LOOM.ALT_CNT (R165)
    ⟨0x290, 3, 0x8, false, true, .const 0,
      [⟨63, 0, .ro, .keep⟩]⟩,
    -- LOOM.DPC_CAP (R166)
    ⟨0x300, 18, 0x8, false, false, .const 0x64,
      [⟨8, 8, .ro, .keep⟩, ⟨7, 0, .ro, .keep⟩]⟩,
    -- LOOM.CARD0 (R167)
    ⟨0x1000, 16, 0x10, true, false,
      .byIndex [0x320320, 0x640258, 0x15e04b0, 0x5000c8, 0x138800140000, 0xea6000140000, 0x1d4c000000000,
        0x140000, 0x1e0000, 0x190000, 0x13880014012c, 0x280064, 0x0, 0x0, 0x0, 0x0],
      [⟨63, 32, .rw, .keep⟩, ⟨31, 16, .rw, .keep⟩, ⟨15, 0, .rw, .keep⟩]⟩,
    -- LOOM.CARD1 (R167)
    ⟨0x1008, 16, 0x10, true, false,
      .byIndex [0x0, 0x0, 0x0, 0x0, 0x12c0000, 0x9c40000, 0x7d017700000, 0x0, 0x0, 0x0, 0x12c0000, 0x0, 0x0,
        0x0, 0x0, 0x0],
      [⟨47, 32, .rw, .keep⟩, ⟨31, 16, .rw, .keep⟩, ⟨15, 0, .rw, .keep⟩]⟩]

/-- The block-specific registers of `REED`. -/
def regsReed : List RegDesc := [
    -- REED.TBL_CMD (R168)
    ⟨0x100, 1, 0x8, false, false, .const 0,
      [⟨63, 63, .w1s, .keep⟩, ⟨17, 16, .rw, .keep⟩, ⟨11, 0, .rw, .keep⟩]⟩,
    -- REED.TBL_DATA0 (R168)
    ⟨0x108, 1, 0x8, false, false, .const 0,
      [⟨63, 0, .rw, .keep⟩]⟩,
    -- REED.TBL_DATA1 (R168)
    ⟨0x110, 1, 0x8, false, false, .const 0,
      [⟨63, 0, .rw, .keep⟩]⟩,
    -- REED.TBL_DATA2 (R168)
    ⟨0x118, 1, 0x8, false, false, .const 0,
      [⟨63, 0, .rw, .keep⟩]⟩,
    -- REED.TBL_DATA3 (R168)
    ⟨0x120, 1, 0x8, false, false, .const 0,
      [⟨63, 0, .rw, .keep⟩]⟩,
    -- REED.SHARE_SUM (R168)
    ⟨0x128, 1, 0x8, false, false, .const 0,
      [⟨28, 0, .ro, .keep⟩]⟩]

/-- The block-specific registers of `DPC`. -/
def regsDpc : List RegDesc := [
    -- DPC.DECOMP_CFG (R228)
    ⟨0x100, 1, 0x8, true, false, .const 0x1000,
      [⟨12, 0, .rw, .clamp 512 4096⟩]⟩,
    -- DPC.FORM_CNT (R228)
    ⟨0x108, 3, 0x8, false, true, .const 0,
      [⟨63, 0, .ro, .keep⟩]⟩,
    -- DPC.RED_ERR_CNT (R228)
    ⟨0x120, 5, 0x8, false, true, .const 0,
      [⟨63, 0, .ro, .keep⟩]⟩,
    -- DPC.BOBBIN_CFG (R258)
    ⟨0x200, 1, 0x8, true, false, .const 0x3e80801,
      [⟨31, 16, .rw, .clamp 100 10000⟩, ⟨12, 8, .rw, .clamp 1 16⟩, ⟨0, 0, .rw, .keep⟩]⟩,
    -- DPC.BOBBIN_STATUS (R258)
    ⟨0x208, 1, 0x8, false, false, .const 0,
      [⟨29, 24, .ro, .keep⟩, ⟨19, 16, .ro, .keep⟩, ⟨13, 8, .ro, .keep⟩, ⟨4, 0, .ro, .keep⟩]⟩,
    -- DPC.BOBBIN_CNT (R259)
    ⟨0x210, 10, 0x8, false, true, .const 0,
      [⟨63, 0, .ro, .keep⟩]⟩]

/-- The block-specific registers of `SELV`. -/
def regsSelv : List RegDesc := [
    -- SELV.CFG (R199)
    ⟨0x100, 1, 0x8, true, false, .const 0xc84040,
      [⟨31, 16, .rw, .clamp 20 65535⟩, ⟨15, 8, .rw, .clamp 4 64⟩, ⟨7, 0, .rw, .clamp 4 64⟩]⟩,
    -- SELV.STATUS (R200)
    ⟨0x180, 1, 0x8, false, false, .const 0x1000,
      [⟨15, 8, .ro, .keep⟩, ⟨5, 5, .ro, .keep⟩, ⟨4, 4, .ro, .keep⟩, ⟨2, 0, .ro, .keep⟩]⟩,
    -- SELV.OWN_NEXT_SEQ (R200)
    ⟨0x188, 1, 0x8, false, false, .const 0,
      [⟨63, 0, .ro, .keep⟩]⟩,
    -- SELV.OWN_TAIL_SEQ (R200)
    ⟨0x190, 1, 0x8, false, false, .const 0,
      [⟨63, 0, .ro, .keep⟩]⟩,
    -- SELV.OWN_USED (R200)
    ⟨0x198, 1, 0x8, false, false, .const 0,
      [⟨63, 32, .ro, .keep⟩, ⟨31, 0, .ro, .keep⟩]⟩,
    -- SELV.MIR_NEXT_SEQ (R200)
    ⟨0x1A0, 1, 0x8, false, false, .const 0,
      [⟨63, 0, .ro, .keep⟩]⟩,
    -- SELV.MIR_TAIL_SEQ (R200)
    ⟨0x1A8, 1, 0x8, false, false, .const 0,
      [⟨63, 0, .ro, .keep⟩]⟩,
    -- SELV.MIR_USED (R200)
    ⟨0x1B0, 1, 0x8, false, false, .const 0,
      [⟨63, 32, .ro, .keep⟩, ⟨31, 0, .ro, .keep⟩]⟩,
    -- SELV.RESEND_CNT (R200)
    ⟨0x1B8, 1, 0x8, false, true, .const 0,
      [⟨63, 0, .ro, .keep⟩]⟩,
    -- SELV.DUMP_STATUS (R200)
    ⟨0x1C0, 1, 0x8, false, false, .const 0,
      [⟨63, 24, .ros, .keep⟩, ⟨16, 16, .ros, .keep⟩, ⟨7, 0, .ros, .keep⟩]⟩,
    -- SELV.REPLAY_CNT (R200)
    ⟨0x1C8, 1, 0x8, false, false, .const 0,
      [⟨63, 32, .ro, .keep⟩, ⟨31, 0, .ro, .keep⟩]⟩]

/-- The block-specific registers of `SEGW`. -/
def regsSegw : List RegDesc := [
    -- SEGW.STRIPE_STATUS (R304)
    ⟨0x180, 1, 0x8, false, false, .const 0,
      [⟨63, 40, .ro, .keep⟩, ⟨39, 16, .ro, .keep⟩, ⟨1, 1, .ro, .keep⟩, ⟨0, 0, .ro, .keep⟩]⟩,
    -- SEGW.REBUILD_STATUS (R304)
    ⟨0x188, 1, 0x8, false, false, .const 0,
      [⟨63, 32, .ro, .keep⟩, ⟨31, 0, .ro, .keep⟩]⟩,
    -- SEGW.BROKEN (R304)
    ⟨0x190, 1, 0x8, false, false, .const 0,
      [⟨23, 0, .ro, .keep⟩]⟩,
    -- SEGW.SUSPECT_USED (R304)
    ⟨0x198, 1, 0x8, false, false, .const 0,
      [⟨12, 0, .ro, .keep⟩]⟩,
    -- SEGW.ENGINES (R304)
    ⟨0x1A0, 1, 0x8, false, false, .const 0xf,
      [⟨3, 0, .ro, .keep⟩]⟩,
    -- SEGW.CNT (R304)
    ⟨0x200, 11, 0x8, false, true, .const 0,
      [⟨63, 0, .ro, .keep⟩]⟩]

/-- The block-specific registers of `MEDIA`. -/
def regsMedia : List RegDesc := [
    -- MEDIA.CFG (R283)
    ⟨0x100, 1, 0x8, true, false, .const 0x10040303c071418,
      [⟨63, 48, .rw, .clamp 16 4096⟩, ⟨47, 40, .rw, .zeroAs 1⟩, ⟨39, 36, .rw, .zeroAs 1⟩,
       ⟨31, 24, .rw, .clamp 30 95⟩, ⟨20, 16, .rw, .clamp 1 30⟩, ⟨13, 8, .rw, .clamp 10 40⟩,
       ⟨5, 0, .rw, .clamp 8 32⟩]⟩,
    -- MEDIA.STATUS (R283)
    ⟨0x180, 1, 0x8, false, false, .byPage [0, 1],
      [⟨63, 48, .ro, .keep⟩, ⟨47, 32, .ro, .keep⟩, ⟨17, 17, .ro, .keep⟩, ⟨16, 16, .ro, .keep⟩, ⟨1, 0, .ro, .keep⟩]⟩,
    -- MEDIA.CAP_RAW (R283)
    ⟨0x188, 1, 0x8, false, false, .const 0,
      [⟨63, 0, .ro, .keep⟩]⟩,
    -- MEDIA.CAP_RES (R283)
    ⟨0x190, 1, 0x8, false, false, .const 0,
      [⟨63, 0, .ro, .keep⟩]⟩,
    -- MEDIA.CAP_DATA (R283)
    ⟨0x198, 1, 0x8, false, false, .const 0,
      [⟨63, 0, .ro, .keep⟩]⟩,
    -- MEDIA.CAP_USABLE (R283)
    ⟨0x1A0, 1, 0x8, false, false, .const 0,
      [⟨63, 0, .ro, .keep⟩]⟩,
    -- MEDIA.CAP_FREE (R283)
    ⟨0x1A8, 1, 0x8, false, false, .const 0,
      [⟨63, 0, .ro, .keep⟩]⟩,
    -- MEDIA.CAP_LIVE (R283)
    ⟨0x1B0, 1, 0x8, false, false, .const 0,
      [⟨63, 0, .ro, .keep⟩]⟩,
    -- MEDIA.CAP_META (R283)
    ⟨0x1B8, 1, 0x8, false, false, .const 0,
      [⟨63, 0, .ro, .keep⟩]⟩,
    -- MEDIA.PATROL_STATUS (R283)
    ⟨0x1C0, 1, 0x8, false, false, .const 0,
      [⟨63, 32, .ro, .keep⟩, ⟨31, 16, .ro, .keep⟩, ⟨15, 0, .ro, .keep⟩]⟩,
    -- MEDIA.CNT (R283)
    ⟨0x200, 14, 0x8, false, true, .const 0,
      [⟨63, 0, .ro, .keep⟩]⟩,
    -- MEDIA.SEG_CMD (R283)
    ⟨0x300, 1, 0x8, false, false, .const 0,
      [⟨63, 63, .w1s, .keep⟩, ⟨28, 24, .rw, .keep⟩, ⟨23, 0, .rw, .keep⟩]⟩,
    -- MEDIA.SEG_DATA0 (R283)
    ⟨0x308, 1, 0x8, false, false, .const 0,
      [⟨63, 32, .ro, .keep⟩, ⟨27, 16, .ro, .keep⟩, ⟨13, 8, .ro, .keep⟩, ⟨6, 4, .ro, .keep⟩, ⟨2, 0, .ro, .keep⟩]⟩,
    -- MEDIA.SEG_DATA1 (R264)
    ⟨0x310, 1, 0x8, false, false, .const 0,
      [⟨63, 0, .ro, .keep⟩]⟩,
    -- MEDIA.SEG_DATA2 (R283)
    ⟨0x318, 1, 0x8, false, false, .const 0,
      [⟨50, 48, .ro, .keep⟩, ⟨47, 32, .ro, .keep⟩, ⟨31, 16, .ro, .keep⟩, ⟨13, 8, .ro, .keep⟩, ⟨5, 0, .ro, .keep⟩]⟩]

/-- The block-specific registers of `MAPX`. -/
def regsMapx : List RegDesc := [
    -- MAPX.RED_CMD (R227)
    ⟨0x100, 1, 0x8, false, false, .const 0,
      [⟨63, 63, .w1s, .keep⟩, ⟨17, 16, .rw, .keep⟩, ⟨11, 0, .rw, .keep⟩]⟩,
    -- MAPX.RED_DATA (R227)
    ⟨0x108, 1, 0x8, false, false, .const 0xa1,
      [⟨7, 7, .rw, .keep⟩, ⟨5, 4, .rw, .keep⟩, ⟨1, 0, .rw, .keep⟩]⟩,
    -- MAPX.INDEX_CFG (R227)
    ⟨0x110, 1, 0x8, true, false, .const 0x1e,
      [⟨5, 0, .rw, .clamp 20 33⟩]⟩,
    -- MAPX.INDEX_STATUS (R228)
    ⟨0x180, 1, 0x8, false, false, .const 0,
      [⟨63, 63, .ro, .keep⟩, ⟨62, 62, .ro, .keep⟩, ⟨36, 0, .ro, .keep⟩]⟩,
    -- MAPX.HIT_CNT (R228)
    ⟨0x188, 1, 0x8, false, true, .const 0,
      [⟨63, 0, .ro, .keep⟩]⟩,
    -- MAPX.MISS_CNT (R228)
    ⟨0x190, 1, 0x8, false, true, .const 0,
      [⟨63, 0, .ro, .keep⟩]⟩,
    -- MAPX.REMOTE_TO_CNT (R228)
    ⟨0x198, 1, 0x8, false, true, .const 0,
      [⟨63, 0, .ro, .keep⟩]⟩,
    -- MAPX.STALE_CNT (R228)
    ⟨0x1A0, 1, 0x8, false, true, .const 0,
      [⟨63, 0, .ro, .keep⟩]⟩,
    -- MAPX.EVICT_CNT (R228)
    ⟨0x1A8, 1, 0x8, false, true, .const 0,
      [⟨63, 0, .ro, .keep⟩]⟩,
    -- MAPX.VERIFY_MISMATCH_CNT (R228)
    ⟨0x1B0, 1, 0x8, false, true, .const 0,
      [⟨63, 0, .ro, .keep⟩]⟩,
    -- MAPX.VERIFY_DEFER_CNT (R228)
    ⟨0x1B8, 1, 0x8, false, true, .const 0,
      [⟨63, 0, .ro, .keep⟩]⟩,
    -- MAPX.ALIAS_CNT (R228)
    ⟨0x1C0, 1, 0x8, false, true, .const 0,
      [⟨63, 0, .ro, .keep⟩]⟩,
    -- MAPX.AUDIT_LOWER_CNT (R228)
    ⟨0x1C8, 1, 0x8, false, true, .const 0,
      [⟨63, 0, .ro, .keep⟩]⟩,
    -- MAPX.AUDIT_UNDER_CNT (R228)
    ⟨0x1D0, 1, 0x8, false, true, .const 0,
      [⟨63, 0, .ro, .keep⟩]⟩,
    -- MAPX.MAP_CFG (R258)
    ⟨0x200, 1, 0x8, true, false, .const 0x10000400a100002,
      [⟨63, 48, .rw, .keep⟩, ⟨47, 32, .rw, .keep⟩, ⟨31, 24, .rw, .clamp 1 60⟩, ⟨23, 16, .rw, .clamp 1 64⟩,
       ⟨2, 0, .rw, .clamp 1 5⟩]⟩,
    -- MAPX.FLUSH_CFG (R258)
    ⟨0x208, 1, 0x8, true, false, .const 0x100003e8,
      [⟨31, 16, .rw, .clamp 64 4096⟩, ⟨15, 0, .rw, .clamp 100 1000⟩]⟩,
    -- MAPX.MAP_STATUS (R258)
    ⟨0x280, 1, 0x8, false, false, .const 0,
      [⟨63, 48, .ro, .keep⟩, ⟨47, 32, .ro, .keep⟩, ⟨31, 24, .ro, .keep⟩, ⟨7, 6, .ro, .keep⟩, ⟨2, 2, .ro, .keep⟩,
       ⟨1, 1, .ro, .keep⟩, ⟨0, 0, .ro, .keep⟩]⟩,
    -- MAPX.CKPT_CUT (R259)
    ⟨0x288, 1, 0x8, false, false, .const 0,
      [⟨63, 0, .ro, .keep⟩]⟩,
    -- MAPX.CKPT_NUM (R259)
    ⟨0x290, 1, 0x8, false, false, .const 0,
      [⟨63, 0, .ro, .keep⟩]⟩,
    -- MAPX.JOURNAL_SEQ (R259)
    ⟨0x298, 1, 0x8, false, false, .const 0,
      [⟨63, 0, .ro, .keep⟩]⟩,
    -- MAPX.PAGEIN_CNT (R259)
    ⟨0x2C0, 1, 0x8, false, true, .const 0,
      [⟨63, 0, .ro, .keep⟩]⟩,
    -- MAPX.WRITEBACK_CNT (R259)
    ⟨0x2C8, 1, 0x8, false, true, .const 0,
      [⟨63, 0, .ro, .keep⟩]⟩,
    -- MAPX.COW_CNT (R259)
    ⟨0x2D0, 1, 0x8, false, true, .const 0,
      [⟨63, 0, .ro, .keep⟩]⟩,
    -- MAPX.CONFIRM_FAIL_CNT (R259)
    ⟨0x2D8, 1, 0x8, false, true, .const 0,
      [⟨63, 0, .ro, .keep⟩]⟩,
    -- MAPX.CKPT_LATE_CNT (R259)
    ⟨0x2E0, 1, 0x8, false, true, .const 0,
      [⟨63, 0, .ro, .keep⟩]⟩,
    -- MAPX.LOST_CNT (R259)
    ⟨0x2E8, 1, 0x8, false, true, .const 0,
      [⟨63, 0, .ro, .keep⟩]⟩,
    -- MAPX.DANGLING_CNT (R259)
    ⟨0x2F0, 1, 0x8, false, true, .const 0,
      [⟨63, 0, .ro, .keep⟩]⟩]

/-- The block-specific registers of `MODP`. -/
def regsModp : List RegDesc := [
    -- MODP.CFG (R327)
    ⟨0x100, 1, 0x8, true, false, .const 0x1,
      [⟨2, 2, .rw, .keep⟩, ⟨1, 1, .rw, .keep⟩, ⟨0, 0, .rw, .keep⟩]⟩,
    -- MODP.SLOT_CAP (R327)
    ⟨0x110, 1, 0x8, false, false, .slotCap,
      [⟨31, 0, .ro, .keep⟩]⟩,
    -- MODP.SLOT_CTRL_STS (R327)
    ⟨0x118, 1, 0x8, false, false, .const 0x3c0,
      [⟨24, 24, .w1c, .keep⟩, ⟨23, 23, .ro, .keep⟩, ⟨22, 22, .ro, .keep⟩, ⟨21, 21, .ro, .keep⟩,
       ⟨20, 20, .w1c, .keep⟩, ⟨19, 19, .w1c, .keep⟩, ⟨18, 18, .w1c, .keep⟩, ⟨17, 17, .w1c, .keep⟩,
       ⟨16, 16, .w1c, .keep⟩, ⟨15, 0, .rw, .keep⟩]⟩,
    -- MODP.STATUS (R327)
    ⟨0x180, 1, 0x8, false, false, .const 0,
      [⟨23, 17, .ro, .keep⟩, ⟨16, 16, .ro, .keep⟩, ⟨13, 12, .ro, .keep⟩, ⟨11, 8, .ro, .keep⟩, ⟨3, 0, .ro, .keep⟩]⟩,
    -- MODP.LEASE (R321)
    ⟨0x188, 1, 0x8, false, false, .const 0,
      [⟨63, 0, .ro, .keep⟩]⟩,
    -- MODP.CNT (R326)
    ⟨0x200, 11, 0x8, false, true, .const 0,
      [⟨63, 0, .ro, .keep⟩]⟩]

/-- The block-specific registers of `SLOT`. -/
def regsSlot : List RegDesc := [
    -- SLOT.STATUS (R327)
    ⟨0x180, 1, 0x8, false, false, .const 0,
      [⟨63, 32, .ro, .keep⟩, ⟨0, 0, .ro, .keep⟩]⟩]

/-- The block-specific registers of `DIKOR`. -/
def regsDikor : List RegDesc := [
    -- DIKOR.CFG (R353)
    ⟨0x100, 1, 0x8, true, false, .const 0x7804003f000001,
      [⟨63, 48, .rw, .clamp 10 3600⟩, ⟨47, 40, .rw, .zeroAs 1⟩, ⟨29, 24, .rw, .keep⟩, ⟨0, 0, .rw, .keep⟩]⟩,
    -- DIKOR.STATUS (R353)
    ⟨0x180, 1, 0x8, false, false, .const 0xf00,
      [⟨63, 56, .ro, .keep⟩, ⟨55, 48, .ro, .keep⟩, ⟨47, 42, .ro, .keep⟩, ⟨31, 24, .ro, .keep⟩,
       ⟨19, 19, .ro, .keep⟩, ⟨18, 18, .ro, .keep⟩, ⟨17, 17, .ro, .keep⟩, ⟨16, 16, .ro, .keep⟩,
       ⟨15, 12, .ro, .keep⟩, ⟨11, 10, .ro, .keep⟩, ⟨9, 8, .ro, .keep⟩, ⟨3, 0, .ro, .keep⟩]⟩,
    -- DIKOR.WAIT_LEFT (R352)
    ⟨0x188, 1, 0x8, false, false, .const 0,
      [⟨31, 0, .ro, .keep⟩]⟩,
    -- DIKOR.PARTNER_UID_LO (R352)
    ⟨0x190, 1, 0x8, false, false, .const 0,
      [⟨63, 0, .ro, .keep⟩]⟩,
    -- DIKOR.PARTNER_UID_HI (R352)
    ⟨0x198, 1, 0x8, false, false, .const 0,
      [⟨63, 0, .ro, .keep⟩]⟩,
    -- DIKOR.PARTNER_ARRAY (R352)
    ⟨0x1A0, 1, 0x8, false, false, .const 0,
      [⟨47, 0, .ro, .keep⟩]⟩,
    -- DIKOR.CNT (R352)
    ⟨0x200, 14, 0x8, false, true, .const 0,
      [⟨63, 0, .ro, .keep⟩]⟩]

/-- The block-specific registers of `OWN`. -/
def regsOwn : List RegDesc := [
    -- OWN.CFG (R379)
    ⟨0x100, 1, 0x8, true, false, .const 0x1803e803e86403,
      [⟨63, 48, .rw, .zeroOrClamp 1 720⟩, ⟨47, 32, .rw, .clamp 100 60000⟩, ⟨31, 16, .rw, .keep⟩,
       ⟨15, 8, .rw, .zeroAs 10⟩, ⟨1, 1, .rw, .keep⟩, ⟨0, 0, .rw, .keep⟩]⟩,
    -- OWN.STATUS (R379)
    ⟨0x180, 1, 0x8, false, false, .const 0,
      [⟨40, 32, .ro, .keep⟩, ⟨11, 11, .ro, .keep⟩, ⟨10, 10, .ro, .keep⟩, ⟨9, 9, .ro, .keep⟩, ⟨8, 8, .ro, .keep⟩,
       ⟨3, 0, .ro, .keep⟩]⟩,
    -- OWN.ARRAY (R379)
    ⟨0x188, 1, 0x8, false, false, .const 0,
      [⟨54, 48, .ro, .keep⟩, ⟨47, 0, .ro, .keep⟩]⟩,
    -- OWN.LEASE (R379)
    ⟨0x190, 1, 0x8, false, false, .const 0,
      [⟨63, 0, .ro, .keep⟩]⟩,
    -- OWN.LAST_TAKEOVER (R379)
    ⟨0x198, 1, 0x8, false, false, .const 0,
      [⟨63, 0, .ro, .keep⟩]⟩,
    -- OWN.LAST_INTERRUPT (R379)
    ⟨0x1A0, 1, 0x8, false, false, .const 0,
      [⟨31, 0, .ro, .keep⟩]⟩,
    -- OWN.CNT (R379)
    ⟨0x200, 9, 0x8, false, true, .const 0,
      [⟨63, 0, .ro, .keep⟩]⟩,
    -- OWN.GRP (R379)
    ⟨0x1000, 256, 0x8, false, false, .const 0x3,
      [⟨63, 32, .ro, .keep⟩, ⟨9, 8, .ro, .keep⟩, ⟨4, 4, .ro, .keep⟩, ⟨1, 0, .ro, .keep⟩]⟩]

/-- The block-specific registers of `REPL`. -/
def regsRepl : List RegDesc := [
    -- REPL.CFG (R392)
    ⟨0x100, 1, 0x8, true, false, .const 0x1000100001e0a00,
      [⟨63, 48, .rw, .clamp 16 1024⟩, ⟨47, 32, .rw, .clamp 64 4096⟩, ⟨31, 16, .rw, .clamp 5 3600⟩,
       ⟨15, 8, .rw, .clamp 1 60⟩, ⟨0, 0, .rw, .keep⟩]⟩,
    -- REPL.STATUS (R392)
    ⟨0x180, 1, 0x8, false, false, .const 0,
      [⟨63, 48, .ro, .keep⟩, ⟨47, 32, .ro, .keep⟩, ⟨8, 0, .ro, .keep⟩]⟩,
    -- REPL.REL_CMD (R392)
    ⟨0x200, 1, 0x8, false, false, .const 0,
      [⟨63, 63, .w1s, .keep⟩, ⟨15, 0, .rw, .keep⟩]⟩,
    -- REPL.REL_DATA0 (R392)
    ⟨0x208, 1, 0x8, false, false, .const 0,
      [⟨63, 32, .ro, .keep⟩, ⟨31, 16, .ro, .keep⟩, ⟨5, 4, .ro, .keep⟩, ⟨3, 0, .ro, .keep⟩]⟩,
    -- REPL.REL_DATA1 (R393)
    ⟨0x210, 1, 0x8, false, false, .const 0,
      [⟨63, 0, .ro, .keep⟩]⟩,
    -- REPL.CNT (R393)
    ⟨0x300, 11, 0x8, false, true, .const 0,
      [⟨63, 0, .ro, .keep⟩]⟩]

/-- The block-specific registers of `KEYS`. -/
def regsKeys : List RegDesc := [
    -- KEYS.CMD (R416)
    ⟨0x100, 1, 0x8, false, false, .const 0,
      [⟨63, 63, .w1s, .keep⟩, ⟨24, 20, .rw, .keep⟩, ⟨19, 16, .rw, .keep⟩, ⟨14, 0, .rw, .keep⟩]⟩,
    -- KEYS.ARG (R416)
    ⟨0x108, 1, 0x8, false, false, .const 0,
      [⟨63, 0, .rw, .keep⟩]⟩,
    -- KEYS.STATUS (R416)
    ⟨0x180, 1, 0x8, false, false, .const 0,
      [⟨63, 32, .ro, .keep⟩, ⟨16, 16, .ro, .keep⟩, ⟨15, 8, .ro, .keep⟩, ⟨1, 1, .ro, .keep⟩, ⟨0, 0, .ro, .keep⟩]⟩,
    -- KEYS.KCV (R396)
    ⟨0x188, 1, 0x8, false, false, .const 0,
      [⟨63, 0, .ro, .keep⟩]⟩,
    -- KEYS.ID_PUB (R396)
    ⟨0x200, 12, 0x8, false, false, .const 0,
      [⟨63, 0, .ro, .keep⟩]⟩,
    -- KEYS.OWNER_PUB (R396)
    ⟨0x300, 12, 0x8, false, false, .const 0,
      [⟨63, 0, .rwl, .keep⟩]⟩,
    -- KEYS.CNT (R396)
    ⟨0x400, 9, 0x8, false, true, .const 0,
      [⟨63, 0, .ro, .keep⟩]⟩]

/-- The block-specific registers of `LIFE`. -/
def regsLife : List RegDesc := [
    -- LIFE.STATUS (R71)
    ⟨0x100, 1, 0x8, false, false, .const 0,
      [⟨19, 16, .ro, .keep⟩, ⟨15, 15, .ro, .keep⟩, ⟨11, 8, .ro, .keep⟩, ⟨7, 7, .ro, .keep⟩, ⟨2, 0, .ro, .keep⟩]⟩,
    -- LIFE.REQ (R71)
    ⟨0x108, 1, 0x8, false, false, .const 0,
      [⟨15, 8, .wo, .keep⟩, ⟨2, 0, .wo, .keep⟩]⟩,
    -- LIFE.FUSE (R71)
    ⟨0x110, 1, 0x8, false, false, .const 0,
      [⟨23, 0, .ro, .keep⟩]⟩,
    -- LIFE.TAMPER_CFG (R416)
    ⟨0x180, 1, 0x8, false, false, .const 0xf0,
      [⟨12, 8, .rwl, .keep⟩, ⟨7, 4, .rwl, .keep⟩, ⟨3, 0, .rwl, .keep⟩]⟩,
    -- LIFE.TAMPER_STATUS (R416)
    ⟨0x188, 1, 0x8, false, false, .const 0,
      [⟨7, 7, .ro, .keep⟩, ⟨6, 6, .ro, .keep⟩, ⟨5, 0, .ro, .keep⟩]⟩,
    -- LIFE.TAMPER_TIME (R414)
    ⟨0x190, 1, 0x8, false, false, .const 0,
      [⟨63, 15, .ro, .keep⟩, ⟨14, 0, .ro, .keep⟩]⟩,
    -- LIFE.TAMPER_CLEAR (R415)
    ⟨0x198, 1, 0x8, false, false, .const 0,
      [⟨13, 8, .wo, .keep⟩, ⟨0, 0, .wo, .keep⟩]⟩]

/-- The block-specific registers of `MEAS`. -/
def regsMeas : List RegDesc := [
    -- MEAS.EXT_CMD (R416)
    ⟨0x100, 1, 0x8, false, false, .const 0,
      [⟨63, 63, .w1s, .keep⟩, ⟨4, 0, .rw, .keep⟩]⟩,
    -- MEAS.EXT_DATA (R409)
    ⟨0x108, 6, 0x8, false, false, .const 0,
      [⟨63, 0, .rw, .keep⟩]⟩,
    -- MEAS.CMP_VALUE (R408)
    ⟨0x180, 6, 0x8, false, false, .const 0,
      [⟨63, 0, .ro, .keep⟩]⟩,
    -- MEAS.CMP_RESULT (R416)
    ⟨0x1B0, 1, 0x8, false, false, .const 0x2,
      [⟨1, 1, .ro, .keep⟩, ⟨0, 0, .ro, .keep⟩]⟩,
    -- MEAS.MR_W0 (R409)
    ⟨0x1000, 24, 0x40, false, false, .const 0,
      [⟨63, 0, .ro, .keep⟩]⟩,
    -- MEAS.MR_W1 (R409)
    ⟨0x1008, 24, 0x40, false, false, .const 0,
      [⟨63, 0, .ro, .keep⟩]⟩,
    -- MEAS.MR_W2 (R409)
    ⟨0x1010, 24, 0x40, false, false, .const 0,
      [⟨63, 0, .ro, .keep⟩]⟩,
    -- MEAS.MR_W3 (R409)
    ⟨0x1018, 24, 0x40, false, false, .const 0,
      [⟨63, 0, .ro, .keep⟩]⟩,
    -- MEAS.MR_W4 (R409)
    ⟨0x1020, 24, 0x40, false, false, .const 0,
      [⟨63, 0, .ro, .keep⟩]⟩,
    -- MEAS.MR_W5 (R409)
    ⟨0x1028, 24, 0x40, false, false, .const 0,
      [⟨63, 0, .ro, .keep⟩]⟩]

/-- The block-specific registers of `SESS`. -/
def regsSess : List RegDesc := [
    -- SESS.CFG (R416)
    ⟨0x100, 1, 0x8, true, false, .const 0x384,
      [⟨15, 0, .rw, .clamp 60 3600⟩]⟩,
    -- SESS.STATUS (R416)
    ⟨0x180, 1, 0x8, false, false, .const 0,
      [⟨63, 32, .ro, .keep⟩, ⟨31, 20, .ro, .keep⟩, ⟨19, 16, .ro, .keep⟩, ⟨2, 0, .ro, .keep⟩]⟩,
    -- SESS.CHAL_REQ (R411)
    ⟨0x188, 1, 0x8, false, false, .const 0,
      [⟨1, 0, .wo, .keep⟩]⟩,
    -- SESS.CHAL (R411)
    ⟨0x190, 4, 0x8, false, false, .const 0,
      [⟨63, 0, .ro, .keep⟩]⟩,
    -- SESS.RESP (R411)
    ⟨0x1B0, 4, 0x8, false, false, .const 0,
      [⟨63, 0, .wo, .keep⟩]⟩]

/-- The block-specific registers of `DRAMC`. -/
def regsDramc : List RegDesc := [
    -- DRAMC.STATUS (R200)
    ⟨0x100, 1, 0x8, false, false, .const 0,
      [⟨47, 32, .ro, .keep⟩, ⟨31, 16, .ro, .keep⟩, ⟨3, 0, .ro, .keep⟩]⟩,
    -- DRAMC.ECC_CE (R200)
    ⟨0x108, 1, 0x8, false, true, .const 0,
      [⟨63, 0, .ros, .keep⟩]⟩,
    -- DRAMC.ECC_UE (R200)
    ⟨0x110, 1, 0x8, false, true, .const 0,
      [⟨63, 0, .ros, .keep⟩]⟩,
    -- DRAMC.UE_ADDR (R200)
    ⟨0x118, 1, 0x8, false, false, .const 0,
      [⟨63, 0, .ro, .keep⟩]⟩]

/-- The block-specific registers of `PWR`. -/
def regsPwr : List RegDesc := [
    -- PWR.CFG (R441)
    ⟨0x100, 1, 0x8, true, false, .const 0x1441,
      [⟨15, 8, .rw, .clamp 0 50⟩, ⟨7, 4, .rw, .clamp 1 8⟩, ⟨0, 0, .rw, .keep⟩]⟩,
    -- PWR.STATUS (R441)
    ⟨0x180, 1, 0x8, false, false, .const 0,
      [⟨63, 48, .ro, .keep⟩, ⟨47, 32, .ro, .keep⟩, ⟨31, 16, .ro, .keep⟩, ⟨2, 2, .ro, .keep⟩, ⟨1, 1, .ro, .keep⟩,
       ⟨0, 0, .ro, .keep⟩]⟩,
    -- PWR.RAIL (R441)
    ⟨0x200, 12, 0x8, false, false,
      .byIndex [0x400000, 0x410000, 0x420000, 0x430000, 0x440000, 0x450000, 0x460000, 0x470000, 0x480000,
        0x490000, 0x4a0000, 0x4b0000],
      [⟨63, 48, .ro, .keep⟩, ⟨47, 32, .ro, .keep⟩, ⟨23, 16, .rwl, .keep⟩, ⟨15, 0, .ro, .keep⟩]⟩,
    -- PWR.DVFS (R441)
    ⟨0x300, 34, 0x8, false, false, .const 0x10101,
      [⟨19, 16, .ro, .keep⟩, ⟨11, 8, .ro, .keep⟩, ⟨7, 4, .ro, .keep⟩, ⟨3, 0, .ro, .keep⟩]⟩,
    -- PWR.DOM (R441)
    ⟨0x1000, 183, 0x8, false, false, .const 0x200,
      [⟨63, 32, .ro, .keep⟩, ⟨15, 8, .ro, .keep⟩, ⟨1, 0, .ro, .keep⟩]⟩]

/-- The block-specific registers of `TEMPLE`. -/
def regsTemple : List RegDesc := [
    -- TEMPLE.CTRL (R434)
    ⟨0x200, 8, 0x100, false, false, .byIndex [0x4, 0x0, 0x0, 0x0, 0x0, 0x4, 0x4, 0x0],
      [⟨23, 16, .rw, .keep⟩, ⟨3, 3, .w1s, .keep⟩, ⟨2, 2, .rw, .keep⟩, ⟨1, 1, .rw, .keep⟩, ⟨0, 0, .rw, .keep⟩]⟩,
    -- TEMPLE.KP (R434)
    ⟨0x208, 8, 0x100, false, false, .byIndex [0x4000, 0x8000, 0x8000, 0x8000, 0x8000, 0x40000, 0x40000, 0x0],
      [⟨31, 0, .rw, .keep⟩]⟩,
    -- TEMPLE.KI (R434)
    ⟨0x210, 8, 0x100, false, false, .byIndex [0x51f, 0xccd, 0xccd, 0xccd, 0xccd, 0x8000, 0x8000, 0x0],
      [⟨31, 0, .rw, .keep⟩]⟩,
    -- TEMPLE.KD (R434)
    ⟨0x218, 8, 0x100, false, false, .byIndex [0x0, 0x20000, 0x20000, 0x20000, 0x20000, 0x0, 0x0, 0x0],
      [⟨31, 0, .rw, .keep⟩]⟩,
    -- TEMPLE.ALPHA (R434)
    ⟨0x220, 8, 0x100, false, false, .byIndex [0x8000, 0x4000, 0x4000, 0x4000, 0x4000, 0x10000, 0x10000, 0x0],
      [⟨31, 0, .rw, .keep⟩]⟩,
    -- TEMPLE.I_MIN (R434)
    ⟨0x228, 8, 0x100, false, false,
      .byIndex [0xffec0000, 0x10000, 0x10000, 0x10000, 0x10000, 0x140000, 0x140000, 0x0],
      [⟨31, 0, .rw, .keep⟩]⟩,
    -- TEMPLE.I_MAX (R434)
    ⟨0x230, 8, 0x100, false, false, .byIndex [0x500000, 0x70000, 0x70000, 0x70000, 0x70000, 0x640000, 0x640000, 0x0],
      [⟨31, 0, .rw, .keep⟩]⟩,
    -- TEMPLE.U_MIN (R434)
    ⟨0x238, 8, 0x100, false, false,
      .byIndex [0xffec0000, 0x10000, 0x10000, 0x10000, 0x10000, 0x140000, 0x140000, 0x0],
      [⟨31, 0, .rw, .keep⟩]⟩,
    -- TEMPLE.U_MAX (R434)
    ⟨0x240, 8, 0x100, false, false, .byIndex [0x500000, 0x70000, 0x70000, 0x70000, 0x70000, 0x640000, 0x640000, 0x0],
      [⟨31, 0, .rw, .keep⟩]⟩,
    -- TEMPLE.SP_TARGET (R434)
    ⟨0x248, 8, 0x100, false, false, .byIndex [0x0, 0x640000, 0x640000, 0x640000, 0x640000, 0x550000, 0x550000, 0x0],
      [⟨31, 0, .rw, .keep⟩]⟩,
    -- TEMPLE.VMAX (R434)
    ⟨0x250, 8, 0x100, false, false, .byIndex [0x40000, 0x10000, 0x10000, 0x10000, 0x10000, 0x10000, 0x10000, 0x0],
      [⟨31, 0, .rw, .keep⟩]⟩,
    -- TEMPLE.AMAX (R434)
    ⟨0x258, 8, 0x100, false, false, .byIndex [0x8000, 0x8000, 0x8000, 0x8000, 0x8000, 0x8000, 0x8000, 0x0],
      [⟨31, 0, .rw, .keep⟩]⟩,
    -- TEMPLE.JMAX (R434)
    ⟨0x260, 8, 0x100, false, false, .byIndex [0x2000, 0x4000, 0x4000, 0x4000, 0x4000, 0x4000, 0x4000, 0x0],
      [⟨31, 0, .rw, .keep⟩]⟩,
    -- TEMPLE.U_SAFE (R434)
    ⟨0x268, 8, 0x100, false, false, .byIndex [0x500000, 0x10000, 0x10000, 0x10000, 0x10000, 0x640000, 0x640000, 0x0],
      [⟨31, 0, .rw, .keep⟩]⟩,
    -- TEMPLE.STATUS (R435)
    ⟨0x280, 8, 0x100, false, false, .const 0,
      [⟨63, 32, .ro, .keep⟩, ⟨6, 6, .rosW1c, .keep⟩, ⟨4, 4, .rosW1c, .keep⟩, ⟨3, 3, .rosW1c, .keep⟩,
       ⟨2, 2, .rosW1c, .keep⟩, ⟨1, 1, .rosW1c, .keep⟩, ⟨0, 0, .rosW1c, .keep⟩]⟩,
    -- TEMPLE.SP (R434)
    ⟨0x288, 8, 0x100, false, false, .const 0,
      [⟨31, 0, .ro, .keep⟩]⟩,
    -- TEMPLE.PV (R434)
    ⟨0x290, 8, 0x100, false, false, .const 0,
      [⟨31, 0, .ro, .keep⟩]⟩,
    -- TEMPLE.U (R434)
    ⟨0x298, 8, 0x100, false, false, .const 0,
      [⟨31, 0, .ro, .keep⟩]⟩,
    -- TEMPLE.I (R434)
    ⟨0x2A0, 8, 0x100, false, false, .const 0,
      [⟨31, 0, .ro, .keep⟩]⟩]

/-- The block-specific registers of `THERM`. -/
def regsTherm : List RegDesc := [
    -- THERM.CFG (R441)
    ⟨0x100, 1, 0x8, true, false, .const 0x3e8046c,
      [⟨31, 16, .rw, .keep⟩, ⟨11, 8, .rw, .oneOf [2, 4] 4⟩, ⟨7, 0, .rw, .clamp 105 112⟩]⟩,
    -- THERM.STATUS (R441)
    ⟨0x180, 1, 0x8, false, false, .const 0,
      [⟨63, 56, .ro, .keep⟩, ⟨55, 50, .ro, .keep⟩, ⟨2, 2, .ros, .keep⟩, ⟨1, 1, .ro, .keep⟩, ⟨0, 0, .ro, .keep⟩]⟩,
    -- THERM.FAN (R441)
    ⟨0x200, 4, 0x8, false, false, .const 0,
      [⟨31, 0, .ro, .keep⟩]⟩,
    -- THERM.SENSOR (R430)
    ⟨0x1000, 64, 0x8, false, false, .const 0,
      [⟨15, 0, .ro, .keep⟩]⟩]

/-- The block-specific registers of `EVREC`. -/
def regsEvrec : List RegDesc := [
    -- EVREC.CFG (R463)
    ⟨0x100, 1, 0x8, true, false, .const 0x3e8000000000234,
      [⟨63, 48, .rw, .clamp 100 10000⟩, ⟨10, 8, .rw, .keep⟩, ⟨6, 4, .rw, .keep⟩, ⟨2, 0, .rw, .keep⟩]⟩,
    -- EVREC.STATUS (R463)
    ⟨0x180, 1, 0x8, false, false, .const 0,
      [⟨63, 48, .ro, .keep⟩, ⟨47, 38, .ro, .keep⟩, ⟨31, 0, .ro, .keep⟩]⟩,
    -- EVREC.FLUSH (R455)
    ⟨0x188, 1, 0x8, false, false, .const 0,
      [⟨0, 0, .w1s, .keep⟩]⟩,
    -- EVREC.RD_CMD (R456)
    ⟨0x1A0, 1, 0x8, false, false, .const 0,
      [⟨63, 63, .w1s, .keep⟩, ⟨32, 32, .rw, .keep⟩, ⟨31, 0, .rw, .keep⟩]⟩,
    -- EVREC.RD_DATA0 (R456)
    ⟨0x1A8, 1, 0x8, false, false, .const 0,
      [⟨63, 0, .ro, .keep⟩]⟩,
    -- EVREC.RD_DATA1 (R456)
    ⟨0x1B0, 1, 0x8, false, false, .const 0,
      [⟨63, 0, .ro, .keep⟩]⟩,
    -- EVREC.RD_DATA2 (R456)
    ⟨0x1B8, 1, 0x8, false, false, .const 0,
      [⟨63, 0, .ro, .keep⟩]⟩,
    -- EVREC.RD_DATA3 (R456)
    ⟨0x1C0, 1, 0x8, false, false, .const 0,
      [⟨63, 0, .ro, .keep⟩]⟩,
    -- EVREC.RATE_CMD (R454)
    ⟨0x200, 1, 0x8, false, false, .const 0,
      [⟨63, 63, .w1s, .keep⟩, ⟨17, 16, .rw, .keep⟩, ⟨11, 0, .rw, .keep⟩]⟩,
    -- EVREC.RATE_DATA (R454)
    ⟨0x208, 1, 0x8, false, false, .const 0,
      [⟨63, 48, .rw, .keep⟩, ⟨47, 32, .rw, .keep⟩, ⟨31, 16, .ro, .keep⟩, ⟨15, 0, .ro, .keep⟩]⟩,
    -- EVREC.CNT (R456)
    ⟨0x300, 11, 0x8, false, true, .const 0,
      [⟨63, 0, .ro, .keep⟩]⟩]

/-- The block-specific registers of `SVC`. -/
def regsSvc : List RegDesc := [
    -- SVC.CFG (R475)
    ⟨0x100, 1, 0x8, true, false, .const 0xa,
      [⟨7, 0, .rw, .clamp 1 100⟩]⟩,
    -- SVC.STATUS (R475)
    ⟨0x180, 1, 0x8, false, false, .const 0,
      [⟨63, 32, .ro, .keep⟩, ⟨31, 24, .ro, .keep⟩, ⟨23, 16, .ro, .keep⟩, ⟨3, 0, .ro, .keep⟩]⟩,
    -- SVC.ITEMS (R465)
    ⟨0x188, 1, 0x8, false, true, .const 0,
      [⟨63, 0, .ro, .keep⟩]⟩]

/-- The block-specific registers of `INTC`. -/
def regsIntc : List RegDesc := [
    -- INTC.CLAIM (R473)
    ⟨0x400, 16, 0x20, false, false, .const 0,
      [⟨15, 15, .ro, .keep⟩, ⟨9, 0, .ro, .keep⟩]⟩,
    -- INTC.COMPLETE (R473)
    ⟨0x408, 16, 0x20, false, false, .const 0,
      [⟨9, 0, .wo, .keep⟩]⟩,
    -- INTC.RUN_PRIO (R473)
    ⟨0x410, 16, 0x20, false, false, .const 0,
      [⟨12, 8, .ro, .keep⟩, ⟨4, 0, .ro, .keep⟩]⟩,
    -- INTC.CORE_CLAIMS (R473)
    ⟨0x418, 16, 0x20, false, true, .const 0,
      [⟨63, 0, .ro, .keep⟩]⟩,
    -- INTC.CNT (R474)
    ⟨0x600, 5, 0x8, false, true, .const 0,
      [⟨63, 0, .ro, .keep⟩]⟩,
    -- INTC.GROUP (R475)
    ⟨0x800, 64, 0x8, true, false, .const 0,
      [⟨63, 32, .ro, .keep⟩, ⟨15, 0, .rw, .keep⟩]⟩,
    -- INTC.SRC (R475)
    ⟨0x1000, 1024, 0x8, true, false, .const 0xffff000000000000,
      [⟨63, 48, .rw, .keep⟩, ⟨37, 32, .rw, .keep⟩, ⟨11, 8, .rw, .keep⟩, ⟨0, 0, .rw, .keep⟩]⟩,
    -- INTC.SRC_STATE (R475)
    ⟨0x3000, 1024, 0x8, false, false, .const 0,
      [⟨63, 32, .ro, .keep⟩, ⟨20, 20, .ro, .keep⟩, ⟨19, 16, .ro, .keep⟩, ⟨3, 3, .ro, .keep⟩, ⟨2, 2, .ro, .keep⟩,
       ⟨1, 1, .ro, .keep⟩, ⟨0, 0, .ro, .keep⟩]⟩]

/-- The block-specific registers of `PICK`. -/
def regsPick : List RegDesc := [
    -- PICK.CFG (R491)
    ⟨0x100, 1, 0x8, true, false, .const 0x1,
      [⟨8, 8, .rw, .keep⟩, ⟨5, 0, .rw, .divisorOf 60⟩]⟩,
    -- PICK.RING_BASE (R484)
    ⟨0x108, 1, 0x8, false, false, .const 0,
      [⟨63, 12, .rw, .keep⟩]⟩,
    -- PICK.RING_BYTES (R484)
    ⟨0x110, 1, 0x8, false, false, .const 0,
      [⟨63, 12, .rw, .keep⟩]⟩,
    -- PICK.RING_PROD (R484)
    ⟨0x118, 1, 0x8, false, false, .const 0,
      [⟨63, 0, .ro, .keep⟩]⟩,
    -- PICK.RING_CONS (R484)
    ⟨0x120, 1, 0x8, false, false, .const 0,
      [⟨63, 0, .rw, .keep⟩]⟩,
    -- PICK.COUNTERS (R477)
    ⟨0x128, 1, 0x8, false, false, .pickCounters,
      [⟨63, 32, .ro, .keep⟩, ⟨31, 0, .ro, .keep⟩]⟩,
    -- PICK.STATUS (R491)
    ⟨0x180, 1, 0x8, false, false, .const 0,
      [⟨63, 32, .ro, .keep⟩, ⟨31, 16, .ro, .keep⟩, ⟨1, 0, .ro, .keep⟩]⟩,
    -- PICK.PARTNER_EPOCH (R485)
    ⟨0x188, 1, 0x8, false, false, .const 0,
      [⟨31, 0, .ro, .keep⟩]⟩,
    -- PICK.RD_CMD (R477)
    ⟨0x190, 1, 0x8, false, false, .const 0,
      [⟨63, 63, .w1s, .keep⟩, ⟨31, 0, .rw, .keep⟩]⟩,
    -- PICK.RD_DATA (R477)
    ⟨0x198, 1, 0x8, false, false, .const 0,
      [⟨63, 0, .ro, .keep⟩]⟩]

/-- The block-specific registers of `TRACE`. `TRACE.LOST` has a register for each of the sources 0 to 60, and none for the reserved 61 to 63: DESIGN
CHOICE (R477, log entry 149). -/
def regsTrace : List RegDesc := [
    -- TRACE.CFG (R491)
    ⟨0x100, 1, 0x8, true, false, .const 0x3e8000000000000,
      [⟨63, 48, .rw, .clamp 100 16000⟩, ⟨3, 3, .rw, .keep⟩, ⟨2, 2, .rw, .keep⟩, ⟨1, 0, .rw, .oneOf [0, 1, 2] 0⟩]⟩,
    -- TRACE.SRC_EN (R489)
    ⟨0x108, 1, 0x8, true, false, .const 0,
      [⟨60, 0, .rw, .keep⟩]⟩,
    -- TRACE.DRAM_BASE (R490)
    ⟨0x110, 1, 0x8, true, false, .const 0,
      [⟨63, 26, .rw, .keep⟩]⟩,
    -- TRACE.DRAM_BYTES (R490)
    ⟨0x118, 1, 0x8, true, false, .const 0,
      [⟨63, 26, .rw, .keep⟩]⟩,
    -- TRACE.WR_PTR (R490)
    ⟨0x120, 1, 0x8, false, false, .const 0,
      [⟨63, 0, .ro, .keep⟩]⟩,
    -- TRACE.RD (R490)
    ⟨0x128, 1, 0x8, false, false, .const 0,
      [⟨63, 0, .ro, .keep⟩]⟩,
    -- TRACE.LOST (R490)
    ⟨0x1000, 61, 0x8, false, true, .const 0,
      [⟨63, 0, .ro, .keep⟩]⟩]

/-- The block-specific registers of `UPEP`. -/
def regsUpep : List RegDesc := [
    -- UPEP.APERTURE (R508)
    ⟨0x100, 1, 0x8, false, false, .const 0,
      [⟨11, 0, .rw, .keep⟩]⟩,
    -- UPEP.LINK (R508)
    ⟨0x180, 1, 0x8, false, false, .const 0,
      [⟨17, 16, .ro, .keep⟩, ⟨10, 8, .ro, .keep⟩, ⟨4, 0, .ro, .keep⟩]⟩,
    -- UPEP.CNT (R495)
    ⟨0x200, 5, 0x8, false, true, .const 0,
      [⟨63, 0, .ro, .keep⟩]⟩]

/-- The block-specific registers of `CTLCH`. -/
def regsCtlch : List RegDesc := [
    -- CTLCH.CFG (R508)
    ⟨0x100, 1, 0x8, true, false, .const 0x138800000005,
      [⟨63, 32, .rw, .clamp 100 600000⟩, ⟨2, 0, .rw, .keep⟩]⟩,
    -- CTLCH.ALIVE (R496)
    ⟨0x108, 1, 0x8, false, false, .const 0,
      [⟨0, 0, .w1s, .keep⟩]⟩,
    -- CTLCH.STATUS (R508)
    ⟨0x180, 1, 0x8, false, false, .const 0,
      [⟨63, 48, .ro, .keep⟩, ⟨47, 47, .ro, .keep⟩, ⟨24, 16, .ro, .keep⟩, ⟨3, 3, .ro, .keep⟩, ⟨2, 2, .ro, .keep⟩,
       ⟨1, 1, .ro, .keep⟩, ⟨0, 0, .ro, .keep⟩]⟩,
    -- CTLCH.RING (R498)
    ⟨0x200, 16, 0x10, false, false, .const 0,
      [⟨63, 12, .rw, .keep⟩]⟩,
    -- CTLCH.RING_SIZE (R498)
    ⟨0x208, 16, 0x10, false, false, .const 0,
      [⟨63, 63, .rw, .keep⟩, ⟨51, 12, .rw, .keep⟩, ⟨3, 0, .rw, .keep⟩]⟩,
    -- CTLCH.EV_RING (R498)
    ⟨0x300, 1, 0x8, false, false, .const 0,
      [⟨63, 12, .rw, .keep⟩]⟩,
    -- CTLCH.EV_RING_SIZE (R498)
    ⟨0x308, 1, 0x8, false, false, .const 0,
      [⟨63, 63, .rw, .keep⟩, ⟨51, 12, .rw, .keep⟩, ⟨3, 0, .rw, .keep⟩]⟩,
    -- CTLCH.CNT (R504)
    ⟨0x400, 8, 0x8, false, true, .const 0,
      [⟨63, 0, .ro, .keep⟩]⟩]

/-- The block-specific registers of `MGMT`. -/
def regsMgmt : List RegDesc := [
    -- MGMT.BOOT_STATUS (R63)
    ⟨0x100, 1, 0x8, false, false, .const 0,
      [⟨39, 32, .ros, .keep⟩, ⟨25, 25, .ro, .keep⟩, ⟨24, 24, .ro, .keep⟩, ⟨17, 16, .ro, .keep⟩,
       ⟨15, 8, .ros, .keep⟩, ⟨7, 0, .ro, .keep⟩]⟩,
    -- MGMT.IMAGE_A (R461)
    ⟨0x108, 1, 0x8, false, false, .const 0,
      [⟨40, 40, .ro, .keep⟩, ⟨39, 32, .ro, .keep⟩, ⟨31, 0, .ro, .keep⟩]⟩,
    -- MGMT.IMAGE_B (R461)
    ⟨0x110, 1, 0x8, false, false, .const 0,
      [⟨40, 40, .ro, .keep⟩, ⟨39, 32, .ro, .keep⟩, ⟨31, 0, .ro, .keep⟩]⟩,
    -- MGMT.NOR_DIR (R463)
    ⟨0x118, 1, 0x8, false, false, .const 0,
      [⟨63, 32, .ro, .keep⟩, ⟨1, 1, .ro, .keep⟩, ⟨0, 0, .ro, .keep⟩]⟩,
    -- MGMT.ROLLBACK (R463)
    ⟨0x120, 1, 0x8, false, false, .const 0,
      [⟨19, 16, .ro, .keep⟩, ⟨15, 8, .ro, .keep⟩, ⟨5, 0, .ro, .keep⟩]⟩,
    -- MGMT.UPD_STATUS (R463)
    ⟨0x128, 1, 0x8, false, false, .const 0,
      [⟨63, 48, .ro, .keep⟩, ⟨15, 8, .ro, .keep⟩, ⟨7, 4, .ro, .keep⟩, ⟨3, 0, .ro, .keep⟩]⟩,
    -- MGMT.IF_CFG (R463)
    ⟨0x130, 1, 0x8, true, false, .const 0x8011d,
      [⟨23, 16, .rw, .keep⟩, ⟨15, 15, .rw, .keep⟩, ⟨9, 8, .rw, .keep⟩, ⟨6, 0, .rw, .keep⟩]⟩,
    -- MGMT.OOB_DEST0 (R448)
    ⟨0x138, 1, 0x8, false, false, .const 0,
      [⟨63, 0, .rw, .keep⟩]⟩,
    -- MGMT.OOB_DEST1 (R448)
    ⟨0x140, 1, 0x8, false, false, .const 0,
      [⟨63, 0, .rw, .keep⟩]⟩,
    -- MGMT.OOB_PORT (R448)
    ⟨0x148, 1, 0x8, false, false, .const 0x1414,
      [⟨15, 0, .rw, .keep⟩]⟩,
    -- MGMT.VMON (R449)
    ⟨0x1000, 40, 0x8, false, false, .const 0,
      [⟨15, 0, .ro, .keep⟩]⟩,
    -- MGMT.IMON (R449)
    ⟨0x1200, 24, 0x8, false, false, .const 0,
      [⟨15, 0, .ro, .keep⟩]⟩]

/-- The block-specific registers of each block type. -/
def blockRegs : BlockType → List RegDesc
  | .deck => regsDeck
  | .chip => regsChip
  | .time => regsTime
  | .ethp => regsEthp
  | .xpt => regsXpt
  | .heddle => regsHeddle
  | .nvmf => regsNvmf
  | .loom => regsLoom
  | .reed => regsReed
  | .dpc => regsDpc
  | .selv => regsSelv
  | .segw => regsSegw
  | .media => regsMedia
  | .mapx => regsMapx
  | .modp => regsModp
  | .slot => regsSlot
  | .dikor => regsDikor
  | .own => regsOwn
  | .repl => regsRepl
  | .keys => regsKeys
  | .life => regsLife
  | .meas => regsMeas
  | .sess => regsSess
  | .dramc => regsDramc
  | .pwr => regsPwr
  | .temple => regsTemple
  | .therm => regsTherm
  | .evrec => regsEvrec
  | .svc => regsSvc
  | .intc => regsIntc
  | .pick => regsPick
  | .trace => regsTrace
  | .upep => regsUpep
  | .ctlch => regsCtlch
  | .mgmt => regsMgmt

end Sys2Proof.Machine
end

