-- ==== Sys2Proof/Machine/Tables.lean ====
section
/-!
DEFINITION. Sys2Proof/Machine/Tables.lean: sparse tables keyed by a number, as lists of (key, value) pairs with the
keys strictly rising, and the bit-field helpers every family uses.
-/

namespace Sys2Proof.Machine

variable {α : Type}

/-- The entry at a key, if the table lists one. -/
def tGet? : List (Nat × α) → Nat → Option α
  | [], _ => none
  | (k, v) :: t, i => if i = k then some v else tGet? t i

/-- The entry at a key, or the value an unlisted key stands for. -/
def tGet (t : List (Nat × α)) (i : Nat) (d : α) : α := (tGet? t i).getD d

/-- Whether the table lists the key. -/
def tHas (t : List (Nat × α)) (i : Nat) : Bool := (tGet? t i).isSome

/-- The table with the entry written, in key order. -/
def tPut : List (Nat × α) → Nat → α → List (Nat × α)
  | [], i, x => [(i, x)]
  | (k, v) :: t, i, x =>
    if i < k then (i, x) :: (k, v) :: t
    else if i = k then (i, x) :: t
    else (k, v) :: tPut t i x

/-- The table without the key. -/
def tDel (t : List (Nat × α)) (i : Nat) : List (Nat × α) := t.filter (fun e => e.1 != i)

/-- The table with the entry at a key changed, if it is listed. -/
def tMod (t : List (Nat × α)) (i : Nat) (f : α → α) : List (Nat × α) :=
  t.map (fun e => if e.1 = i then (e.1, f e.2) else e)

/-- The table with every entry changed. -/
def tMap (t : List (Nat × α)) (f : Nat → α → α) : List (Nat × α) := t.map (fun e => (e.1, f e.1 e.2))

/-- The entries that satisfy a test. -/
def tFilter (t : List (Nat × α)) (p : Nat → α → Bool) : List (Nat × α) := t.filter (fun e => p e.1 e.2)

/-- Keys strictly rising: the one form of a table. -/
def tSorted : List (Nat × α) → Bool
  | [] => true
  | [_] => true
  | (k, _) :: (k', v') :: t => decide (k < k') && tSorted ((k', v') :: t)

/-- The smallest number not below `n` that the list does not hold (`fuel` bounds the search). -/
def firstFree (used : List Nat) : Nat → Nat → Nat
  | 0, n => n
  | fuel + 1, n => if used.contains n then firstFree used fuel (n + 1) else n

/-- Bits `lo` to `lo + w - 1` of a word, as a number. -/
def bitsOf (v : Word) (lo w : Nat) : Nat := v.toNat / 2 ^ lo % 2 ^ w

/-- The mask of bits `lo` to `lo + w - 1`. -/
def fieldMask (lo w : Nat) : Word := BitVec.ofNat 64 ((2 ^ w - 1) * 2 ^ lo)

/-- The word with bits `lo` to `lo + w - 1` replaced by the low `w` bits of `x`. -/
def setBits (v : Word) (lo w x : Nat) : Word :=
  (v &&& ~~~(fieldMask lo w)) ||| (BitVec.ofNat 64 (x % 2 ^ w * 2 ^ lo) &&& fieldMask lo w)

/-- A saturating 64-bit count (R477's counters saturate). -/
def satAdd (v : Word) (n : Nat) : Word := BitVec.ofNat 64 (min (v.toNat + n) (2 ^ 64 - 1))

/-- Round up to a multiple. -/
def ceilDiv (a b : Nat) : Nat := if b = 0 then 0 else (a + b - 1) / b

/-- A number limited to a range. -/
def clampNat (lo hi x : Nat) : Nat := if x < lo then lo else if hi < x then hi else x

/-- An integer limited to a range. -/
def clampInt (lo hi x : Int) : Int := if x < lo then lo else if hi < x then hi else x

end Sys2Proof.Machine
end

