-- ==== Sys2Proof/Machine/Blocks.lean ====
section
/-!
DEFINITION. Sys2Proof/Machine/Blocks.lean: the block instances of stepping B1 (R10, R23, R526), the reset value of
every register (R34 and each chapter's tables), and the Pattern Deck (R29 to R31).
-/

namespace Sys2Proof.Machine

/-- The block types with what R526 and R31 fix, in page order. -/
def blockTable : List BlockInfo := [
  ⟨.deck,   0x0001,   1,  1, false, false, false, false,  0, false,   0, 0,  0, 0⟩,
  ⟨.chip,   0x0002,   2,  1, false, false, false, false,  2, false,   0, 0,  0, 0⟩,
  ⟨.time,   0x0003,   3,  1, false, false, false, false,  2, false,   0, 0,  0, 0⟩,
  ⟨.ethp,   0x0010,   4, 16, true,  true,  false, true,   4, false,   0, 1,  1, 0⟩,
  ⟨.xpt,    0x0011,  20,  8, true,  true,  false, true,   8, false,  16, 1,  1, 0⟩,
  ⟨.heddle, 0x0012,  28,  1, true,  false, false, true,   4, false,   0, 0,  0, 0⟩,
  ⟨.nvmf,   0x0013,  29,  1, true,  false, false, true,   8, false,   0, 0,  0, 0⟩,
  ⟨.loom,   0x0020,  30,  2, true,  false, false, true,   4, false,  24, 1,  0, 0⟩,
  ⟨.reed,   0x0021,  32,  1, true,  false, false, true,   2, false,   0, 0,  0, 0⟩,
  ⟨.dpc,    0x0030,  33, 18, true,  true,  true,  true,   8, false,  26, 4,  7, 1⟩,
  ⟨.selv,   0x0031,  51,  1, true,  false, false, true,   8, false,   0, 0,  0, 0⟩,
  ⟨.segw,   0x0032,  52,  1, false, false, false, true,   8, false,   0, 0,  0, 0⟩,
  ⟨.media,  0x0033,  53,  2, true,  false, false, true,   8, false,  98, 1,  2, 0⟩,
  ⟨.mapx,   0x0034,  55,  1, true,  false, false, true,  14, false,   0, 0,  0, 0⟩,
  ⟨.modp,   0x0040,  56, 64, true,  false, false, true,   4, false, 100, 1,  2, 0⟩,
  ⟨.slot,   0x0041, 120,  1, false, false, false, true,   4, false,   0, 0,  0, 0⟩,
  ⟨.dikor,  0x0050, 121,  1, true,  false, false, true,  16, false, 132, 6,  3, 0⟩,
  ⟨.own,    0x0051, 122,  1, true,  false, false, true,   8, false,   0, 0,  0, 0⟩,
  ⟨.repl,   0x0052, 123,  1, true,  false, false, true,   8, false,   0, 0,  0, 0⟩,
  ⟨.keys,   0x0060, 124,  1, false, false, false, true,   8, false,   0, 0,  0, 0⟩,
  ⟨.life,   0x0061, 125,  1, false, false, false, true,   4, true,    0, 0,  6, 0⟩,
  ⟨.meas,   0x0062, 126,  1, false, false, false, true,   2, true,    0, 0,  6, 0⟩,
  ⟨.sess,   0x0063, 127,  1, true,  false, false, true,   2, true,    0, 0,  6, 0⟩,
  ⟨.dramc,  0x0070, 128, 16, false, true,  false, true,   4, false, 138, 1,  5, 0⟩,
  ⟨.pwr,    0x0071, 144,  1, true,  false, false, true,   8, true,    0, 0,  6, 0⟩,
  ⟨.temple, 0x0072, 145,  1, false, false, false, true,   8, true,    0, 0,  6, 0⟩,
  ⟨.therm,  0x0073, 146,  1, true,  false, false, true,   8, true,    0, 0,  6, 0⟩,
  ⟨.evrec,  0x0080, 147,  1, true,  false, false, true,   4, true,    0, 0,  6, 0⟩,
  ⟨.svc,    0x0081, 148, 16, true,  true,  false, true,   4, false, 154, 1, 25, 1⟩,
  ⟨.intc,   0x0082, 164,  1, true,  false, false, true,   0, false,   0, 0,  0, 0⟩,
  ⟨.pick,   0x0083, 165,  1, true,  false, false, true,   4, false,   0, 0,  0, 0⟩,
  ⟨.trace,  0x0084, 166,  1, true,  false, false, true,   4, false,   0, 0,  0, 0⟩,
  ⟨.upep,   0x0090, 167,  1, false, false, false, true,   8, false, 170, 4,  4, 0⟩,
  ⟨.ctlch,  0x0091, 168,  1, true,  false, false, true,  20, false,   0, 0,  0, 0⟩,
  ⟨.mgmt,   0x00A0, 169,  1, true,  false, false, true,  16, true,  182, 1,  6, 0⟩]

/-- The number of block instances, and so the last occupied page (R23). -/
def blockCount : Nat := 169

/-- The block type and block number of a page (R23); none for page 0 and for unoccupied pages. -/
def blockAt (page : Nat) : Option (BlockInfo × Nat) :=
  match blockTable.find? (fun b => b.page ≤ page && page < b.page + b.count) with
  | some b => some (b, page - b.page)
  | none => none

/-- The page of a block type's number `i`. -/
def pageOf (t : BlockType) (i : Nat) : Nat :=
  match blockTable.find? (fun b => b.type = t) with
  | some b => b.page + i
  | none => 0

/-- First interrupt source of the block on a page: the sources of every lower page (R526). -/
def intBase (page : Nat) : Nat :=
  blockTable.foldl (fun n b => n + b.ints * (min b.count (page - b.page))) 0

/-- Interrupt sources of the block on a page (R526). -/
def intCount (page : Nat) : Nat := ((blockAt page).map (fun p => p.1.ints)).getD 0

/-- The page and bit of an interrupt source, if some block has it (R526). -/
def sourcePage (src : Nat) : Option (Nat × Nat) :=
  match (List.range (blockCount + 1)).find? (fun p => intBase p ≤ src && src < intBase p + intCount p) with
  | some p => some (p, src - intBase p)
  | none => none

/-- Whether the tenant table of R478 sits under this block's card, and its size. -/
def tenantCounters : Nat := 131072

/-- Pick counters of one block of a type (R477): its saturating whole-word counters, in offset order. -/
def blockPicks (t : BlockType) : Nat :=
  if t = .pick then tenantCounters
  else ((blockRegs t).filter (fun r => r.pick)).foldl (fun n r => n + r.count) 0

/-- Index of the first pick counter of the block on a page (R477). -/
def pickBase (page : Nat) : Nat :=
  blockTable.foldl (fun n b => n + blockPicks b.type * (min b.count (page - b.page))) 0

/-- The total number N of pick counters (R477). -/
def pickTotal : Nat := pickBase (blockCount + 1)

/-- Bytes of one tally record (R484): a 64-byte header, the counters, and padding to 4 KiB. -/
def tallyBytes : Nat := ceilDiv (64 + 8 * pickTotal) 4096 * 4096

/-- The register of a block type at an offset, and the index within its array. -/
def findReg (t : BlockType) (off : Nat) : Option (RegDesc × Nat) :=
  match (blockRegs t).find? (fun r => r.off ≤ off && (off - r.off) % r.stride = 0 && (off - r.off) / r.stride < r.count) with
  | some r => some (r, (off - r.off) / r.stride)
  | none => none

/-- The reset value that a description gives. -/
def rstValue (r : Rst) (num idx : Nat) : Nat :=
  match r with
  | .const v => v
  | .byPage vs => vs.getD num 0
  | .byIndex vs => vs.getD idx 0
  | .slotCap => 0x4147B + num * 2 ^ 19
  | .pickCounters => tallyBytes * 2 ^ 32 + pickTotal

/-- `BLK_IDENT` (R34, R526). -/
def identOf (b : BlockInfo) (num : Nat) : Nat := b.code * 2 ^ 48 + num * 2 ^ 32 + 1 * 2 ^ 24

/-- `BLK_CAPS` (R34, R526). -/
def capsOf (b : BlockInfo) : Nat :=
  (if b.resettable then 16 else 0) + (if blockPicks b.type = 0 then 0 else 8) + (if b.spare then 4 else 0)
    + (if b.drainable then 2 else 0) + (if b.staging then 1 else 0)

/-- The reset value of a header register (R34). -/
def headerReset (b : BlockInfo) (num page off : Nat) : Nat :=
  if off = 0x00 then identOf b num
  else if off = 0x08 then capsOf b
  else if off = 0x18 then 0x200
  else if off = 0x28 then 2 ^ 64 - 1
  else if off = 0x50 then min (blockPicks b.type) 0xFFFF * 2 ^ 32 + pickBase page
  else 0

/-- The value every register holds at reset, by its key: page x 0x1_0000 + offset. An active copy resets as its
staging register does (R39). -/
def regReset (key : Nat) : Word :=
  let page := key / 0x10000
  let off := key % 0x10000
  match blockAt page with
  | none => 0
  | some (b, num) =>
    if off < 0x100 then BitVec.ofNat 64 (headerReset b num page off)
    else
      match findReg b.type (if off < 0x8000 then off else off - 0x8000) with
      | some (r, idx) => BitVec.ofNat 64 (rstValue r.rst num idx)
      | none => 0

/-! ## The Pattern Deck -/

/-- Little-endian bytes of a number. -/
def leBytes (v : Nat) : Nat → List Nat
  | 0 => []
  | n + 1 => v % 256 :: leBytes (v / 256) n

/-- The power domain a card names: the block's own, the hosting segment's, or 182 in the management domain (R31). -/
def cardDomain (b : BlockInfo) (num page : Nat) : Nat :=
  if b.mgmt then 182
  else if b.domCount = 0 then 174 + page % 8
  else if b.type = .modp then b.dom + num / 2
  else b.dom + num * b.domCount

/-- A block card (R31). -/
def blockCard (b : BlockInfo) (num page : Nat) : List Nat :=
  leBytes b.code 2 ++ leBytes num 2 ++ [1, 0]
    ++ leBytes (1 + (if b.type = .modp then 2 else 0) + (if b.mgmt then 4 else 0)
        + (if blockPicks b.type = 0 then 0 else 8)) 2
    ++ leBytes page 4 ++ leBytes (cardDomain b num page) 2 ++ [b.domCount, b.clk + num * b.clkStep]
    ++ leBytes (intBase page) 2 ++ leBytes b.ints 2 ++ leBytes (pickBase page) 4
    ++ leBytes (min (blockPicks b.type) 0xFFFF) 2 ++ leBytes 0 6

/-- The length of the deck: header card, one card per block, end card (R29). -/
def deckBytes : Nat := 32 * (blockCount + 2)

/-- The header card with a given `DECK_CRC` (R30). -/
def headerCard (crc : Nat) : List Nat :=
  [0x44, 0x45, 0x43, 0x4B] ++ leBytes 1 2 ++ leBytes 32 2 ++ leBytes blockCount 4 ++ leBytes deckBytes 4
    ++ [16, 29] ++ leBytes 0 6 ++ leBytes crc 4 ++ leBytes 0 4

/-- The block cards in ascending page order (R29). -/
def blockCards : List Nat :=
  (List.range (blockCount + 1)).flatMap (fun p =>
    match blockAt p with
    | some (b, num) => blockCard b num p
    | none => [])

/-- One byte into a reflected CRC of `w` bits with reflected polynomial `poly`. -/
def crcByte (poly : Nat) (crc b : Nat) : Nat :=
  (List.range 8).foldl (fun c _ => if c % 2 = 1 then (c / 2).xor poly else c / 2) (crc.xor b)

/-- CRC-32C (Castagnoli) of a byte list. -/
def crc32c (bs : List Nat) : Nat :=
  (bs.foldl (crcByte 0x82F63B78) 0xFFFFFFFF).xor 0xFFFFFFFF

/-- `DECK_CRC`: CRC-32C over the deck with the field taken as zero (R30). -/
def deckCrc : Nat := crc32c (headerCard 0 ++ blockCards ++ leBytes 0 32)

/-- The Pattern Deck's bytes (R29). -/
def deck : List Nat := headerCard deckCrc ++ blockCards ++ leBytes 0 32

end Sys2Proof.Machine
end

