-- ==== Sys2Proof/Machine/State.lean ====
section
/-!
DEFINITION. Sys2Proof/Machine/State.lean: everything the spec gives one AZ7240 head, as plain data: the register file,
one record per chapter for what no register shows, the queue of waiting commands, and the state after reset.
-/

namespace Sys2Proof.Machine

/-- What stops the block. The spec names no event of this part that stops it: every access completes (R25), every
unsupported command is answered, and a fatal device error is a condition of the state (R58). No command raises a
fault, so the type has no constructor. -/
inductive Fault where
  deriving DecidableEq, Repr

/-- Why a command has no meaning. -/
inductive Refusal where
  /-- The command's meaning is not written; raised by its arm of `exec` alone. Safe: the machine stops. -/
  | notModelled (mnemonic : String)
  deriving DecidableEq, Repr

/-! ## Chapters 1 to 3: the head -/

/-- The conditions of the head (R55). -/
inductive Cond where
  /-- `STBY_PWR_OK` or `CHIP_RESET_N` is low -/
  | reset
  /-- reset released, not yet serving -/
  | booting
  | serving
  /-- a fatal device error is present (R58) -/
  | fatal
  deriving DecidableEq, Repr

/-- The head: its condition, its pins and what the reset and time rules hold (R45 to R57). -/
structure Chip where
  cond : Cond
  /-- input pins (R49) -/
  stbyPwrOk : Bool
  mainPwrOk : Bool
  chipResetN : Bool
  perstN : Bool
  pwrFailN : Bool
  bootPins : BitVec 2
  /-- output pins (R55) -/
  faultN : Bool
  /-- hold-up mode runs (R192) -/
  holdup : Bool
  holdupActive : Bool
  holdupDone : Bool
  hbOut : Bool
  thermtripN : Bool
  wakeN : Bool
  smbAlertN : Bool
  /-- `PPS_OUT` pulses driven -/
  ppsOut : Nat
  /-- the upper half of `TIME.NOW` latched by a 32-bit read (R48) -/
  nowHigh : Option (BitVec 32)
  /-- `TIME.STATUS.STATE` has left UNSYNCED since `CHIP_RESET_N` (R46) -/
  leftUnsynced : Bool
  /-- the deck check's outcome that waits for step 4, once `MAIN_PWR_OK` is good (R69) -/
  deck : Option Bool
  /-- whole seconds of the vault RTC (R45) -/
  rtc : Nat
  /-- steps of R59 that have completed -/
  steps : List Nat
  deriving DecidableEq, Repr

/-! ## Chapter 18: the event recorder, the NOR flash and management -/

/-- One event record (R451): its time, code, severity, source and the sixteen argument bytes as two words. -/
structure EvRec where
  time : Nat
  code : Nat
  sev : Nat
  summary : Bool
  head : Nat
  srcType : Nat
  srcInst : Nat
  arg0 : Word
  arg1 : Word
  deriving DecidableEq, Repr

/-- A code's token bucket (R454): rate and depth, the level in billionths of a token, when it was last refilled, and
the suppressed records it owes a summary for. -/
structure Bucket where
  rate : Nat
  depth : Nat
  level : Nat
  last : Nat
  supp : Nat
  first : Nat
  deriving DecidableEq, Repr

/-- The event recorder (R453 to R456). The ring and its sectors lie in NOR and outlive a reset. -/
structure Evrec where
  /-- unflushed records, oldest first -/
  buf : List EvRec
  /-- records dropped since the last `RECORDS_DROPPED` -/
  dropped : Nat
  /-- buckets that differ from their code's full default -/
  buckets : List (Nat × Bucket)
  /-- records of the flush in progress -/
  flushing : Option Nat
  /-- a flush trigger arrived during a flush -/
  again : Bool
  /-- event ring: slot and record -/
  ring : List (Nat × EvRec)
  /-- written sectors: index and sector sequence -/
  sectors : List (Nat × Nat)
  nextSeq : Nat
  /-- ring slot of the next record -/
  head : Nat
  /-- erased sectors ahead of the write position -/
  erased : Nat
  /-- sector whose erase is in progress -/
  erasing : Option Nat
  /-- a NOR error persists -/
  norError : Bool
  deriving DecidableEq, Repr

/-- Where an update came from (`MGMT.UPD_STATUS.SOURCE`, R461). -/
inductive UpdSource where
  | pldm | control | uart
  deriving DecidableEq, Repr

/-- The management subsystem: NOR directory and slots (R444 to R446), the update in progress (R461), the interfaces
(R448) and the watchdog (R54). -/
structure Mgmt where
  dirSeq : Nat
  /-- the slot in effect: false A, true B -/
  dirActive : Bool
  dirTrial : Bool
  slotA : Option Image
  slotB : Option Image
  /-- the slot the running image was booted from -/
  bootedB : Bool
  /-- management firmware runs -/
  running : Bool
  /-- slots the ROM has tried at this boot (R65) -/
  tried : List Bool
  /-- the last restart followed a watchdog expiry (R446) -/
  afterWatchdog : Bool
  /-- the update in progress: its source, its image and the control command it answers -/
  update : Option (UpdSource × Image × Option Nat)
  /-- the source of an update that has restarted into its image and has not been confirmed -/
  updated : Option UpdSource
  /-- watchdog expiries, newest first (R54) -/
  wdogTimes : List Nat
  /-- MCTP endpoint ID assigned by the bus owner -/
  eid : Option (BitVec 8)
  /-- PLDM event receiver -/
  eventReceiver : Option (BitVec 8)
  /-- PLDM terminus id -/
  tid : BitVec 8
  /-- directory copy in effect (R445) -/
  dirCopy : Bool := false
  /-- service cores that a live update has still to reload, and the one that is being reloaded (R461, R464) -/
  reload : List Nat := []
  reloadCore : Option Nat := none
  /-- components other than 1 and 2 that it has still to apply -/
  compsDue : List Nat := []
  deriving DecidableEq, Repr

/-! ## Chapter 3: fuses and the life cycle -/

/-- Where a life-cycle transition stands (R68). -/
inductive LifePhase where
  | idle
  /-- an intent cell is being blown -/
  | intent (cell : Nat)
  /-- the target's work -/
  | work
  /-- a commit cell is being blown, after so many retries of the bit -/
  | commit (cell : Nat) (retries : Nat)
  deriving DecidableEq, Repr

/-- The fuses (R67, R68, R460) and the transition in progress. Fuses outlive every reset. -/
structure Life where
  /-- the 24 cells of R67, as `LIFE.FUSE.CELLS` shows them -/
  cells : BitVec 24
  uid : BitVec 128
  /-- anti-rollback bits that read blown -/
  rollback : Nat
  /-- revocation fuses of the key indices -/
  revoked : BitVec 4
  testDisable : Bool
  fuseRootDisable : Bool
  phase : LifePhase
  /-- `PWR_FAIL_N` has been asserted while a cell is being blown: no further cell is started (R70) -/
  stopping : Bool
  deriving DecidableEq, Repr

/-! ## Chapter 16: keys, digests, sessions and the vault -/

/-- One key set of a CONN slot (R394). -/
structure ConnSet where
  /-- an IPsec set; otherwise a TLS set -/
  ipsec : Bool
  key256 : Bool
  txKey : Bytes
  txSalt : Bytes
  txSpi : BitVec 32
  rxKey : Bytes
  rxSalt : Bytes
  rxSpi : BitVec 32
  /-- next outbound ESP sequence number, or TLS records sent (R404) -/
  sent : Nat
  /-- anti-replay window of an ESP set: the highest sequence number taken, and those taken of the 1,024 that end there (R80) -/
  rxTop : Nat := 0
  rxSeen : List Nat := []
  /-- TLS epoch of a TLS set: how many KeyUpdates have gone before it (R82) -/
  epoch : Nat := 0
  deriving DecidableEq, Repr

/-- One key-store slot (R394). -/
structure KeySlot where
  epoch : BitVec 32
  /-- material of a TENANT, PSK, DERIVED or session slot; empty when the slot holds none -/
  material : Bytes
  /-- PSK hash, 1 SHA-256 or 2 SHA-384 -/
  param : Nat
  setA : Option ConnSet
  setB : Option ConnSet
  deriving DecidableEq, Repr

/-- One key-ledger entry (R447): kind 1 SLOT, 2 EMPTY, 3 EPOCHS. -/
structure LedgerEntry where
  kind : Nat
  slot : Nat
  epoch : BitVec 32
  material : Bytes
  param : Nat
  /-- the epochs of an EPOCHS entry -/
  epochs : List (BitVec 32)
  deriving DecidableEq, Repr

/-- The key ledger in NOR (R447): written sectors, newest last, each with its entries in offset order. -/
structure Ledger where
  sectors : List (List LedgerEntry)
  /-- bytes used of the sector being written -/
  used : Nat
  erased : Nat
  /-- a reclaim erase is in progress -/
  erasing : Bool
  /-- place of the oldest written sector among the 32, and its sequence -/
  base : Nat := 0
  seq : Nat := 1
  deriving DecidableEq, Repr

/-- A key command that has not completed (R399, R401). -/
structure KeyOp where
  slot : Nat
  /-- the entry whose append must be durable first -/
  append : Option LedgerEntry
  /-- engines still hold the slot -/
  drop : Bool
  /-- the control command it answers -/
  tag : Option Nat
  deriving DecidableEq, Repr

/-- A context of the management digest engine (R407). -/
inductive DigestCtx where
  | plain (alg : Hash)
  /-- keyed with the inner pad of a level's session key -/
  | inner (level : SessLevel)
  /-- keyed with the outer pad, over the message of the inner context it took in -/
  | outer (level : SessLevel) (msg : Bytes)
  deriving DecidableEq, Repr

/-- A vault event record (R413, R414): RTC seconds and fraction, and the source. -/
structure VaultRec where
  sec : Nat
  frac : Nat
  source : Nat
  /-- the 32 bytes of the record in the event area (R413, R451) -/
  bytes : Bytes := []
  deriving DecidableEq, Repr

/-- The security subsystem. -/
structure Sec where
  /-- key-store slots that are not empty at epoch 0 -/
  slots : List (Nat × KeySlot)
  /-- peer table (R398): entry and public key -/
  peers : List (Nat × Bytes)
  ledger : Ledger
  op : Option KeyOp
  /-- the TRNG runs -/
  trngOn : Bool
  /-- time base at which the lock shown in `SESS.STATUS.LOCK_S` ends -/
  lockUntil : Nat := 0
  /-- management digest contexts in use -/
  ctxs : List (Nat × DigestCtx)
  /-- saved contexts: context, latest save sequence, and whether it has been restored -/
  saved : List (Nat × DigestCtx × Nat × Bool)
  /-- open challenges (R411) -/
  chalAdmin : Option Word256
  chalMonitor : Option Word256
  /-- open monitor sessions -/
  monitors : List (BitVec 32)
  /-- consecutive wrong answers per level -/
  failsAdmin : Nat
  failsMonitor : Nat
  /-- length of the last lock in seconds, 0 before the first, and whether the lock runs -/
  lockAdmin : Nat
  lockMonitor : Nat
  lockedAdmin : Bool
  lockedMonitor : Bool
  /-- vault (R413): latch, latched sources, sources in alarm, time of the first latched alarm -/
  latch : Bool
  sources : BitVec 6
  alarms : BitVec 6
  tamperTime : Word
  /-- vault event area, oldest first -/
  vault : List VaultRec
  historyKey : Bool
  /-- the dump key is held (R393) -/
  dumpKey : Bool
  /-- slots whose key check values differ from the partner's (R397) -/
  mismatch : List Nat
  /-- key check values received in the exchange that runs: slot, epoch and value (R335, R397) -/
  kcvIn : List KcvEntry
  /-- this head has sent its list in that exchange -/
  kcvOut : Bool
  /-- SPDM negotiation: algorithms agreed -/
  spdmReady : Bool
  deriving DecidableEq, Repr

/-! ## Chapter 21: the upstream endpoint and the control channel -/

/-- A command or completion ring's indexes (R498, R500). -/
structure Ring where
  sqHead : Nat
  sqTail : Nat
  cqHead : Nat
  cqTail : Nat
  phase : Bool
  deriving DecidableEq, Repr

/-- The body of a `LOST_EXTENT` event (R303). -/
structure Extent where
  tenant : Nat
  volume : Nat
  snap : Nat
  first : Nat
  grains : Nat
  cause : Nat
  time : Nat
  deriving DecidableEq, Repr

/-- What waits for the control-channel event ring (R508), with the time it was queued. -/
inductive EvEntry where
  | record (time : Nat) (r : EvRec)
  | extent (time : Nat) (e : Extent)
  | lost (time : Nat) (count : Nat)
  deriving DecidableEq, Repr

/-- Completion status codes of the control channel (R503). -/
inductive CtlStatus where
  | ok | invalidOpcode | invalidField | session | state | limit | notFound | exists | busy | dma | notHere | replayed
  | inProgress | key | fault
  deriving DecidableEq, Repr

/-- A control command that has been fetched and not yet posted. -/
structure CtlCmd where
  ring : Nat
  cmdId : BitVec 32
  opcode : Nat
  barrier : Bool
  token : Word
  /-- the ring it came from has been reset since (R499) -/
  orphan : Bool
  /-- status and results once it has finished -/
  done : Option (CtlStatus × Word × Word)
  /-- records of this head's region that must be MIRRORED before it completes, and its results (R504) -/
  waits : Option (List Nat × Word × Word)
  deriving DecidableEq, Repr

/-- The upstream endpoint and the control channel. -/
structure Up where
  busMaster : Bool
  pmeStatus : Bool
  pmeEn : Bool
  /-- BAR registers as written (R493) -/
  bars : List (Nat × BitVec 32)
  subsystem : BitVec 32
  /-- MSI-X vectors held as pending bits -/
  msixPending : List Nat
  rings : List (Nat × Ring)
  /-- commands in progress or finished and not posted, by tag, in fetch order -/
  cmds : List (Nat × CtlCmd)
  nextTag : Nat
  /-- results of completed commands with a token, newest first (R505) -/
  results : List (Word × Word × Word)
  /-- completions kept and not posted that await the control plane (R497, R499) -/
  kept : Nat
  /-- event ring: producer, consumer, next sequence, phase -/
  evProd : Nat
  evCons : Nat
  evSeq : Nat
  evPhase : Bool
  /-- entries that await the event ring, oldest first -/
  evq : List EvEntry
  /-- records not delivered since the last `EVENTS_LOST` -/
  evLost : Nat
  /-- tenants whose commands receive the busy status (R502) -/
  busyTenants : List Nat
  /-- `WAKE_N` may not be driven low yet (R497) -/
  wakeHold : Bool
  /-- the endpoint answers configuration requests (R495) -/
  cfgReady : Bool
  /-- DRAM words that the aperture has reached in RECOVERY or TEST: word index and value (R494) -/
  dram : List (Nat × Word)
  deriving DecidableEq, Repr

/-! ## Chapter 4: the host fabric -/

/-- One connection entry of the Heddle table (R84). -/
structure ConnEntry where
  valid : Bool
  typ : Nat
  /-- 0 SETUP, 1 CONNECTED, 2 CLOSING -/
  st : Nat
  prot : Nat
  lc : Nat
  subsys : Bool
  keySel : Bool
  tenant : Nat
  keySlot : Nat
  reuse : Nat
  gen : Nat
  addrIdx : Nat
  port : Nat
  remoteId : Nat
  localId : Nat
  remoteIp : BitVec 128
  deriving DecidableEq, Repr

/-- What the `XPT` keeps of a connection (R76, R78, R81, R92). -/
structure ConnRt where
  /-- the error state of R92 -/
  err : Bool
  /-- retries and RNR retries spent on the oldest outstanding packet -/
  retries : Nat
  rnr : Nat
  /-- packets or segments sent and not acknowledged -/
  unacked : Nat
  /-- RDMA READ requests outstanding, and those the host grants -/
  reads : Nat
  granted : Nat
  /-- congestion notifications since the rate was last restored, and the rate that the reaction point has set, if it has (R76) -/
  cnps : Nat
  rate : Option Word := none
  /-- path MTU (R76) -/
  pmtu : Nat := 1024
  /-- the host advertises a TCP receive window of zero (R75) -/
  zeroWin : Bool := false
  /-- the set not in use for sending is still accepted on receive (R82) -/
  oldSet : Bool := false
  /-- negotiated ICReq parameters -/
  ic : Option IcReq
  /-- a TLS handshake has completed on the connection -/
  tls : Bool
  /-- the controller it belongs to, and its queue (0 admin) -/
  ctrl : Option Nat
  qid : Nat
  /-- submission queue entries -/
  qsize : Nat
  /-- the fabric Connect has succeeded -/
  joined : Bool
  deriving DecidableEq, Repr

/-- A frame still in the front end, with its classification (R85). -/
structure FrameTag where
  conn : Nat
  gen : Nat
  addrGen : Nat
  time : Nat
  /-- the key set that the frame's SPI or TLS epoch selects: B when true (R82) -/
  set : Option Bool := none
  deriving DecidableEq, Repr

/-! ## Chapters 5 and 6: tenants, controllers, host commands and the Loom -/

/-- Whom a command's completion goes to: a host's connection and command id, or the head that forwarded it, by tag (R173). -/
inductive Origin where
  | host (conn cid : Nat)
  | fwd (tag : Nat)
  deriving DecidableEq, Repr

/-- Where a Sanitize of a tenant stands (R120, R121). -/
structure Sanitize where
  /-- `SSTAT`: 0 never, 1 complete, 2 in progress, 3 failed -/
  stat : Nat
  prog : Nat
  /-- phase in progress, 1 to 4; 0 none -/
  phase : Nat
  /-- Global Data Erased -/
  erased : Bool
  /-- segments listed for this head and for the other -/
  list : List Nat
  listOther : List Nat
  /-- segments erased by each head, and those covered by a progress record -/
  done : Nat
  doneOther : Nat
  covered : Nat
  /-- segments erased here that no progress record covers yet: they stay out of the free pool (R121) -/
  held : List Nat
  /-- the other head has reported the phase's work done -/
  otherDone : Bool
  /-- the connection and command id to answer -/
  host : Option Origin
  /-- a phase that the configuration head has started: its number, and the `SEQ` of the record that must be in the mirror first (R120) -/
  awaits : Option (Nat × Nat) := none
  deriving DecidableEq, Repr

/-- A tenant the control plane has created (R96). -/
structure Tenant where
  nqn : Bytes
  /-- serial and model number strings (R119) -/
  sn : Bytes
  mn : Bytes
  /-- allowed hosts and the class of each (R98) -/
  hosts : List (Bytes × Nat)
  crdt1 : Nat
  crdt2 : Nat
  crdt3 : Nat
  san : Sanitize
  /-- new I/O completes with Sanitize In Progress (R120, R121) -/
  quiesced : Bool
  /-- bytes written and stored by the writes that completed last (R151) -/
  written : Nat
  stored : Nat
  /-- writes completed in the last 1 s: when, bytes written and bytes stored (R151) -/
  recent : List (Nat × Nat × Nat)
  /-- the control command that deletes the tenant, while its Sanitize runs (R507) -/
  deleting : Option Nat
  deriving DecidableEq, Repr

/-- A namespace's reservation state (R112). -/
structure Resv where
  /-- registrants: host identifier and key -/
  regs : List (BitVec 128 × Word)
  holder : Option (BitVec 128)
  rtype : Nat
  gen : Nat
  ptpl : Bool
  deriving DecidableEq, Repr

/-- A volume (R99, R229, R250). -/
structure Volume where
  tenant : Nat
  nsid : Nat
  group : Nat
  /-- LBAF 0, 1 or 2 (R113) -/
  lbaf : Nat
  /-- provisioned size in blocks -/
  blocks : Nat
  nguid : BitVec 128
  eui64 : Word
  /-- root page id of the live tree; 0 when the tree is empty -/
  root : Nat
  /-- live generation -/
  gen : Nat
  /-- pin requested (R240), and every leaf resident so that the LC0 floor applies -/
  pinned : Bool
  pinReady : Bool
  /-- every leaf was resident at the last beat boundary -/
  lc0 : Bool := false
  /-- pinned before this boot and not yet resident since (R60) -/
  loading : Bool
  /-- the LBAF that a running Format NVM gives (R124) -/
  formatting : Option Nat
  /-- the command that the end of the format answers: its connection and command id, or the link's tag -/
  formatHost : Option Origin
  resv : Resv
  /-- current dictionary id, and the control plane's wish: 0 train, 1 pinned, 2 forbidden -/
  dict : Nat
  dictMode : Nat
  /-- the snapshot a clone came from -/
  origin : Option Nat
  /-- second of the last snapshot creation -/
  lastSnap : Option Nat
  deriving DecidableEq, Repr

/-- One I/O controller of a host (R97). -/
structure Ctrl where
  tenant : Nat
  cntlid : Nat
  discovery : Bool
  hostNqn : Bytes
  hostId : BitVec 128
  cls : Nat
  adminConn : Nat
  /-- I/O queues: id and connection -/
  queues : List (Nat × Nat)
  /-- controller configuration and status properties -/
  cc : BitVec 32
  csts : BitVec 32
  /-- keep-alive timeout in ms; 0 none -/
  kato : Nat
  /-- Advanced Command Retry Enable (R106) -/
  acre : Bool
  /-- Asynchronous Event Configuration -/
  aec : BitVec 32
  /-- Arbitration, the over and under temperature thresholds as set (R117), and whether the temperature event has been posted and its
  page not read since -/
  arb : BitVec 32
  tempTh : BitVec 32
  tempLow : BitVec 32
  warned : Bool
  /-- namespaces whose reservation notifications are masked: id and mask -/
  resMask : List (Nat × Nat)
  /-- outstanding Asynchronous Event Requests (command ids) and events that wait for one -/
  aers : List Nat
  events : List (Nat × Nat × Nat)
  /-- Changed Namespace List log -/
  changed : List Nat
  /-- reservation notifications logged: namespace and kind -/
  resLog : List (Nat × Nat)
  /-- error log: status of each, newest first -/
  errors : List Nat
  deriving DecidableEq, Repr

/-- The kinds of I/O command that the Loom admits. -/
inductive CmdKind where
  | write | read | compare | writeZeroes | dsm | copy
  deriving DecidableEq, Repr

/-- Where an I/O command stands. -/
inductive Phase where
  /-- waits for Reed tokens (R133) -/
  | reed
  /-- a read whose map lines are being resolved (R131) -/
  | map
  /-- accepted: intake and pipeline, or read stages -/
  | run
  /-- its record has a header (R186) -/
  | headed
  deriving DecidableEq, Repr

/-- A grain's remote lookup that has no answer yet (R208, R236). -/
structure Lookup where
  grain : Nat
  /-- the chunk id reserved -/
  chunk : Nat
  fp : Word256
  plain : Bytes
  /-- the hit that waits for its keeper's confirmation -/
  confirm : Option Nat
  /-- the DPC that runs the grain, the outcome of its compress verify, and whether a hit's form is in the read cache -/
  dpc : Nat
  ok : Bool
  cached : Bool
  deriving DecidableEq, Repr

/-- One stripe read of a command (R139, R143): segment, row, wanted member, its pages of 16 KiB, the members read, and the
grains whose forms lie there. -/
structure Plan where
  seg : Nat
  row : Nat
  member : Nat
  pages : List Nat
  members : List Nat
  grains : List Nat
  /-- reconstructions tried after a check failure (R291, R292) -/
  tries : Nat
  /-- members that the alternative taken erases (R144) -/
  erased : Nat := 0
  deriving DecidableEq, Repr

/-- An I/O command at a head, from its capsule to its completion. -/
structure HCmd where
  conn : Nat
  cid : Nat
  tenant : Nat
  volume : Nat
  kind : CmdKind
  /-- block ranges of the command (one but for Dataset Management); a Copy's source -/
  ranges : List (Nat × Nat)
  src : Nat
  /-- transfer length *T* -/
  bytes : Nat
  connCls : Nat
  cls : Nat
  fua : Bool
  pi : PiReq
  arrived : Nat
  /-- deadline and end of the acceptance window -/
  deadline : Nat
  window : Nat
  phase : Phase
  /-- no completion is sent: its controller has been deleted (R100) -/
  mute : Bool
  /-- received from the partner for this owner, with the link's tag (R173) -/
  fwdFrom : Option Nat
  /-- forwarded to the owner -/
  fwdTo : Bool
  /-- data beyond the capsule has been asked for -/
  pulled : Bool
  /-- intake data: offset and bytes; a Compare's data -/
  data : List (Nat × Bytes)
  /-- Reed charges taken: IOPS and bytes -/
  tokens : Nat
  byteTokens : Nat
  /-- debt estimate added, and the F at admission in Q4.12 (R151) -/
  est : Nat
  f : Nat
  /-- reduction settings in effect at acceptance -/
  red : Nat
  /-- journal extent: first block and blocks -/
  ext : Option (Nat × Nat)
  intakeEnd : Nat
  /-- pipeline results by grain: the delta and its stored form -/
  outs : List (Nat × Delta × Option Form)
  lookups : List Lookup
  /-- grains a read still has to deliver, and what has been delivered -/
  todo : List Nat
  got : List (Nat × Bytes)
  /-- the stripe reads of its draft -/
  plan : List Plan
  /-- a Compare has met different data -/
  differs : Bool
  seq : Option Nat
  /-- time base and snapshot generation at acceptance (R177) -/
  accepted : Nat
  snapGen : Nat
  /-- guarantee conditions that were broken while the command was in flight, by cause of R164 -/
  hurt : List Nat := []
  /-- the LBA format in effect when it was accepted (R124) -/
  lbaf : Nat := 0
  /-- the completion rule in effect when its record was written (R107): 0 mirrored, 1 at once in solo mode, 2 on flash -/
  rule : Nat := 0
  /-- chunks that its Copy references, whose rows its completion on flash waits for (R107) -/
  refs : List Nat := []
  /-- the contract in effect when its Reed check began (R168) -/
  terms : List Word := []
  /-- accepted by the owner before it failed: a placement that does not fit ends it with FAULT_ABORT (R163) -/
  sure : Bool := false
  /-- the tee was opened at its acceptance (R169, R171) -/
  tee : Bool := false
  deriving DecidableEq, Repr

/-- A command that is neither a read nor a write and has gone to the other head (R355): its tag, connection, command id and tenant. -/
structure FwdOther where
  tag : Nat
  conn : Nat
  cid : Nat
  tenant : Nat
  body : FwdBody
  deriving DecidableEq, Repr

/-- NVMe service. -/
structure Nvm where
  tenants : List (Nat × Tenant)
  volumes : List (Nat × Volume)
  /-- controllers, by 65536 × tenant + controller id -/
  ctrls : List (Nat × Ctrl)
  /-- deleted controller ids and the time of deletion (R97) -/
  gone : List (Nat × Nat)
  cmds : List (Nat × HCmd)
  next : Nat
  /-- groups created, and the head index that owns each; their generations (R354) -/
  groups : List (Nat × Nat)
  groupGens : List (Nat × Nat)
  /-- commands other than reads and writes that were forwarded: tag, connection and command id -/
  fwdOther : List FwdOther
  /-- PSK identities and their slots (R403) -/
  psks : List (Bytes × Nat)
  deriving DecidableEq, Repr

/-- What a booking books (R135). -/
inductive Res where
  | die (module die : Nat)
  | compressor (dpc : Nat)
  | decompressor (dpc : Nat)
  | digest (dpc : Nat)
  | cipher (dpc : Nat)
  | mapEngine (dpc : Nat)
  | parity (engine : Nat)
  | portIn (port : Nat)
  | portOut (port : Nat)
  | moduleIn (module : Nat)
  | moduleOut (module : Nat)
  | dikor
  | dram
  | chipEnergy
  | mediaEnergy
  deriving DecidableEq, Repr

/-- For whom a booking stands. -/
inductive Who where
  | cmd (id : Nat)
  /-- a debt unit that a command's draft booked (R152) -/
  | debt (id : Nat)
  /-- background work: its rank of R153, plus 16 for each further piece of the rank -/
  | background (rank : Nat)
  /-- a claim the partner made on this die master (R137) -/
  | claim (tag : Nat)
  deriving DecidableEq, Repr

/-- One booking: beat, resource, amount, tenant, for whom, and the head whose command made it (R138). -/
structure Booking where
  beat : Nat
  res : Res
  amt : Nat
  tenant : Nat
  who : Who
  head : Nat
  deriving DecidableEq, Repr

/-- Token buckets of a tenant (R147), levels in billionths of a token or byte, and when they were refilled. -/
structure Buckets where
  rdOps : Nat
  wrOps : Nat
  rdBytes : Nat
  wrBytes : Nat
  last : Nat
  deriving DecidableEq, Repr

/-- The Loom and Reed beside their registers. -/
structure LoomSt where
  book : List Booking
  /-- the partner's calendar changes (R138) -/
  shadow : List Booking
  /-- die bookings of the mastered calendars at the last boundary (R138) -/
  sent : List Booking
  /-- claims sent and not answered: tag, command, and the bookings they stand for -/
  claims : List (Nat × Nat × List Booking)
  /-- bookings that the partner has granted, and the starts at which it has rejected a command's claim: command, resource, first beat (R137) -/
  granted : List Booking := []
  rejected : List (Nat × Res × Nat) := []
  nextTag : Nat
  /-- energy of drafts refused for `ENERGY` in this beat, 0.1 µJ (R157) -/
  refused : Nat
  /-- a role swap is due and has not taken place -/
  swapDue : Bool
  /-- contracts: tenant and words 0 to 3, staged and active (R168) -/
  staged : List (Nat × List Word)
  active : List (Nat × List Word)
  /-- contracts of TENANT_CONTRACT that take effect at the next beat boundary (R168) -/
  contractNext : List (Nat × List Word) := []
  buckets : List (Nat × Buckets)
  /-- commands that wait for tokens, in arrival order -/
  queue : List Nat
  /-- debt ledgers, bytes (R151) -/
  ledger : List (Nat × Int)
  /-- overwrite ratio in Q0.16, and grains written and replaced in this millisecond (R150) -/
  ovr : List (Nat × Nat)
  ovrAcc : List (Nat × Nat × Nat)
  /-- when the floor last rose (R154) -/
  floorAt : Nat
  /-- beats in a row with power above the booked energy (R158) -/
  overBeats : Nat
  /-- victims taken in the last 100 ms: when, live bytes and capacity (R150) -/
  victims : List (Nat × Nat × Nat) := []
  /-- *L* as last published, live bytes and capacity (R150, R152) -/
  live : Nat × Nat := (0, 1)
  /-- the energy check of R141 is passed over: only while the energy of a draft refused for `ENERGY` is reckoned (R157), never in a state that a
  command leaves -/
  anyEnergy : Bool := false
  /-- debt units held: the command, and the last beat of each (R152) -/
  debts : List (Nat × Nat) := []
  /-- the beat in which a fault of group 1 last fell, and a floor that waits for the next boundary (R127, R154, R159) -/
  faultBeat : Option Nat := none
  floorNext : Option Nat := none
  /-- the time until which the interruption of the last fault lasts (R22, R162) -/
  faultEnd : Nat := 0
  /-- the set of ACTIVE DPCs at the last boundary (R258) -/
  dpcs : List Nat
  /-- energy of each tenant below 1 µJ that is carried to the next beat, 0.1 µJ (R479) -/
  energy : List (Nat × Nat)
  deriving DecidableEq, Repr



/-! ## Chapter 15: relationships -/

/-- A relationship at this head (R380 to R392). -/
structure Rel where
  /-- relationship id, and whether this array is the source -/
  rid : Nat
  source : Bool
  mode : Nat
  volume : Nat
  peer : BitVec 48
  /-- address entry, remote address and remote volume (R380) -/
  entry : Nat
  ip : BitVec 128
  remote : Nat
  interval : Nat
  /-- state as `REPL.REL_DATA0` shows it -/
  st : Nat
  conn : Option Nat
  /-- HELLO has passed -/
  hello : Bool
  cycle : Nat
  /-- snapshot of the last cycle or base, and of the one that runs -/
  base : Option Nat
  next : Option Nat
  /-- a snapshot is being created for it -/
  snapping : Bool
  /-- source: grains not yet offered, ranges to be deallocated, and the OFFERs of the cycle: index,
  `MSEQ` and entries (R387) -/
  todo : List Nat
  ranges : List (Nat × Nat)
  offers : List (Nat × Nat × List OfferEnt)
  nextOffer : Nat
  /-- entries offered in this cycle, in order, and ranges sent or received -/
  entries : List OfferEnt
  rangeCount : Nat
  /-- the delta of the cycle has been found; COMMIT has been sent -/
  begun : Bool
  committing : Bool
  /-- target: staging volume, needed entries not yet received (OFFER index, entry), dictionaries mapped and in parts -/
  staging : Option Nat
  needed : List (Nat × Nat)
  dicts : List (Nat × Nat)
  dictParts : List (Nat × Bytes)
  /-- time base of the last COMMITTED -/
  committed : Nat
  /-- synchronous: confirmed bases, newest first (number, snapshot), the base under way, writes that wait (`SEQ`, command), and
  whether a write has been headed since the cycle's snapshot -/
  bases : List (Nat × Nat)
  basing : Option (Nat × Nat)
  waits : List (Nat × Nat)
  unsent : Bool
  /-- target: synchronous writes being drafted: command and source `SEQ` -/
  syncing : List (Nat × Nat)
  /-- target: synchronous writes held until the base before them is taken -/
  held : List (RplHead × SyncWrite × Standby)
  /-- bytes of the stage of the cycle under way: `REPL.CFG.STAGE_MIB` when it was opened -/
  stage : Nat := 0
  /-- at both heads: the relationship is IN_SYNC at the head that runs it -/
  synced : Bool := false
  deriving DecidableEq, Repr


/-! ## Chapter 7: the Selvedge journal -/

/-- An extent of the own ring, in ring order: offset, blocks, and whether its record has been abandoned or padded. -/
structure Ext where
  off : Nat
  blks : Nat
  /-- the command it is booked for; none once its record has a header -/
  cmd : Option Nat
  /-- the record's `SEQ`; none for a PAD record or an extent without a header -/
  seq : Option Nat
  deriving DecidableEq, Repr

/-- A hold-up dump (R195). -/
structure Dump where
  number : Nat
  /-- 1 COMPLETE, 2 PARTIAL_TRIP, 3 PARTIAL_POWER, 4 PARTIAL_MEDIA; 0 while OPEN -/
  result : Nat
  own : List JRec
  mirror : List JRec
  consumed : Bool
  /-- the device and the array that wrote it, the time base at *tpf*, the first and last `SEQ` and the bytes of each region's records -/
  uid : BitVec 128 := 0
  array : Nat := 0
  tpf : Nat := 0
  ownSeqs : Nat × Nat := (0, 0)
  mirSeqs : Nat × Nat := (0, 0)
  ownBytes : Nat := 0
  mirBytes : Nat := 0
  /-- every record of the region lies in it -/
  ownWhole : Bool := false
  mirWhole : Bool := false
  deriving DecidableEq, Repr

/-- `SELV` and the open rows of `SEGW`. -/
structure Jrn where
  own : List JRec
  mir : List JRec
  exts : List Ext
  /-- next free block of the own ring -/
  next : Nat
  /-- stripes of the rings: channels in service are counted in `SELV.STATUS` -/
  restriping : Bool
  /-- deferred region sizes (R200) -/
  ownDefer : Option Nat
  mirDefer : Option Nat
  dumpA : Option Dump
  dumpB : Option Dump
  dumpNext : Nat
  /-- rows written of the map journal since the last checkpoint cut, KiB, and entries that wait for a row -/
  jkib : Nat
  jwait : List Nat
  /-- DRAM channels retired or failed -/
  lostCh : List Nat
  /-- own records, then mirror records, that hold-up dumps as read because channel parity could not rebuild them (R194) -/
  badOwn : List Nat
  badMir : List Nat
  /-- the channels that both regions are striped over, in ring order (R182) -/
  striped : List Nat
  /-- stripes open in the SRAM parity buffer, oldest first, and the data blocks each stripe has written in the current lap of its ring
  (R183) -/
  openStripes : List Nat
  laps : List (Nat × Nat)
  /-- the block behind the furthest that the mirror's ring has come to in its current lap (R183) -/
  mirNext : Nat := 0
  /-- CONTROL and ROW_DURABLE records that wait for room in the own region, oldest first (R180) -/
  waits : List JRec := []
  /-- chunks whose form in a region has failed its checks and is re-read through channel parity (R290) -/
  reread : List Nat := []
  /-- chunks whose form has been asked of the partner's mirror (R289, R290), and whether a good copy has come -/
  asked : List (Nat × Bool) := []
  deriving DecidableEq, Repr


/-! ## Chapters 8 and 9: deduplication, dictionaries, maps and the Bobbin cache -/

/-- States of a chunk (R233). A chunk not in use is FREE and not listed. -/
inductive ChunkState where
  | journaled | located | alias_ | freeing | lost
  deriving DecidableEq, Repr

/-- One chunk-table entry (R233). For JOURNALED the location is the region (`segment` 0 own, 1 mirror) and ring offset. -/
structure Chunk where
  state : ChunkState
  len32 : Nat
  segment : Nat
  row : Nat
  member : Nat
  off : Nat
  fpCheck : Nat
  count : Nat
  tenant : Nat
  target : Nat
  /-- when it was allocated: the model's own, for the age that R216 asks for (log entry 140) -/
  born : Nat := 0
  deriving DecidableEq, Repr

/-- A pool of chunk ids in use (R234): keeper head, indexes returned to the head of the allocation order (R207), first
index never allocated, and freed indexes in order. -/
structure Pool where
  keeper : Nat
  head : List Nat
  next : Nat
  freed : List Nat
  deriving DecidableEq, Repr

/-- A dictionary-table entry (R223). -/
structure Dict where
  tenant : Nat
  version : Nat
  /-- chunks of its pieces -/
  pieces : List Nat
  len : Nat
  digest : Word256
  /-- chunks whose header names it -/
  refs : Nat
  deriving DecidableEq, Repr

/-- A map page (R229, R230): a leaf with its mapped entries (slot and chunk), or an interior page with its slots (key,
birth, child). -/
structure Page where
  volume : Nat
  level : Nat
  birth : Nat
  key : Nat
  ents : List (Nat × Nat)
  slots : List (Nat × Nat × Nat)
  resident : Bool
  dirty : Bool
  /-- flash address: segment, row, member and position (R231) -/
  flash : Option (Nat × Nat × Nat × Nat)
  applied : Nat
  /-- `SEQ` of the change that made it dirty -/
  dirtyAt : Nat
  /-- when it was last used (R239) -/
  used : Nat
  deriving DecidableEq, Repr

/-- A snapshot (R250). -/
structure Snapshot where
  volume : Nat
  gen : Nat
  root : Nat
  beat : Nat
  hidden : Bool
  /-- deletion has been asked for -/
  deleting : Bool
  deriving DecidableEq, Repr

/-- A snapshot creation under way (R251). -/
structure SnapOp where
  volumes : List Nat
  ids : List Nat
  cut : Nat
  start : Nat
  /-- the partner owns a member, and has confirmed -/
  partner : Bool
  confirmed : Bool
  done : Bool
  tag : Option Nat
  /-- the relationship whose cycle or base it begins -/
  rel : Option Nat
  deriving DecidableEq, Repr

/-- A tally audit under way (R214): tenant, ids and their tallies. -/
structure Audit where
  tenant : Nat
  tally : List (Nat × Nat)
  deriving DecidableEq, Repr

/-- An entry of a merging buffer (R255): a page's sector, the bytes of it that the entry holds, one bit each, and when it was made. -/
structure MergeEnt where
  volume : Nat
  page : Nat
  sector : Nat
  mask : Nat
  since : Nat
  deriving DecidableEq, Repr

/-- One map engine's Bobbin cache (R255): main entries, most recent first (volume, page, valid sectors); victims, newest
first; miss registers (volume, page, sectors, waiting requests); the merging buffer, oldest first; deltas that wait for the fill of their
sector (volume, page, sector, slot of the page); lookups that wait for a miss register (volume, page, sector). -/
structure Bobbin where
  main : List (Nat × Nat × Nat)
  victim : List (Nat × Nat × Nat)
  miss : List (Nat × Nat × Nat × Nat)
  merge : List MergeEnt
  late : List (Nat × Nat × Nat × Nat)
  stalled : List (Nat × Nat × Nat) := []
  deriving DecidableEq, Repr

/-- Block states (R264). -/
inductive BlkState where
  | erased | dirty | inSegment | reserved | bad
  deriving DecidableEq, Repr

/-- A block-table entry (R268). -/
structure Blk where
  st : BlkState
  erases : Nat
  seg : Nat
  deriving DecidableEq, Repr

/-- What a checkpoint writes of the maps (R246). -/
structure MapCopy where
  chunks : List (Nat × Chunk)
  pools : List (Nat × Pool)
  dicts : List (Nat × Dict)
  pages : List (Nat × Page)
  nextPage : Nat
  snaps : List (Nat × Snapshot)
  nextSnap : Nat
  volumes : List (Nat × Volume)
  tenants : List (Nat × Tenant)
  /-- groups with their owners and generations, PSK identities, contracts and reduction settings -/
  groups : List (Nat × Nat)
  groupGens : List (Nat × Nat)
  psks : List (Bytes × Nat)
  contracts : List (Nat × List Word)
  red : List (Nat × Nat)
  members : List Nat
  rels : List (Nat × Rel)
  /-- the block table (R268) -/
  blocks : List (Nat × Blk) := []
  deriving DecidableEq, Repr

/-- Where a 4 KiB page of a checkpoint table lies: table 0 chunks, 1 pages, 2 pools, 3 snapshots, 4 blocks; the page's number in its table; and
segment, row, and place among the pages of the row. -/
structure TableLoc where
  table : Nat
  page : Nat
  seg : Nat
  row : Nat
  pos : Nat
  deriving DecidableEq, Repr

/-- A checkpoint root (R246): number, cut time base, cut `SEQ`, groups owned at the cut, what its image holds, and the addresses of its
tables. -/
structure Root where
  num : Nat
  cut : Nat
  seq : Nat
  groups : List Nat
  copy : MapCopy
  tables : List TableLoc := []
  /-- its table pages have been queued for their rows -/
  tabled : Bool := false
  deriving DecidableEq, Repr

/-- The maps. -/
structure Maps where
  chunks : List (Nat × Chunk)
  /-- stored form of each chunk, wherever it lies -/
  forms : List (Nat × Form)
  pools : List (Nat × Pool)
  /-- index shards: 2^34 × shard + bucket, and its entries -/
  index : List (Nat × List IdxEntry)
  /-- index-log entries since the last run, and the runs written, oldest first: the highest `AGE` of a run's entries, and the entries
  (R215) -/
  idxLog : List IdxEntry
  runs : List (Nat × List IdxEntry)
  /-- log2 of the buckets of the table that lookups use (R228) -/
  tableLog : Nat
  /-- shards this head holds in DRAM beside its own (R208) -/
  solo : Bool
  /-- this head's own shard is still held by the partner, which has not handed it back (R208) -/
  away : Bool := false
  /-- a shard rebuild runs toward this size, has ended and waits for the next beat boundary, and another waits for it (R228) -/
  rebuild : Option Nat
  rebuilt : Bool := false
  rebuildNext : Option Nat
  /-- pairs queued for re-weave (R211) -/
  reweave : List (Nat × Nat)
  /-- ids handed to the tally audit -/
  auditSet : List Nat
  /-- chunk id that the rotating sweep of the tally audit goes on from (R214) -/
  sweep : Nat
  audit : Option Audit
  /-- reduction settings by tenant, staged and active (R209) -/
  redS : List (Nat × Nat)
  redA : List (Nat × Nat)
  dicts : List (Nat × Dict)
  /-- training: volume and grains written to it since its last training -/
  training : List (Nat × Nat)
  /-- dictionaries each DPC holds, most recent first, with the last beat of a draft that names it (R225) -/
  dictCache : List (Nat × List (Nat × Nat))
  /-- chunks whose stored form the read cache holds (R16, R139, R199) -/
  cache : List Nat := []
  pages : List (Nat × Page)
  nextPage : Nat
  snaps : List (Nat × Snapshot)
  nextSnap : Nat
  /-- creations under way, by the link's tag -/
  snapOps : List (Nat × SnapOp)
  nextOp : Nat
  /-- mirrored deltas of unpinned volumes (R241): page, `SEQ`, and the slots of the page that the delta writes, one bit each -/
  overlay : List (Nat × Nat × Nat)
  bobbins : List (Nat × Bobbin)
  /-- checkpoint under way -/
  ckpt : Option Root
  ckptDue : Bool
  /-- roots of slots A and B -/
  rootA : Option Root
  rootB : Option Root
  /-- time of the last cut -/
  lastCut : Nat
  /-- entries of durable map-journal rows that no complete checkpoint covers, in `SEQ` order (R242) -/
  jlog : List JRec
  /-- the same of the partner's adopted records that this head's map journal holds (R242, R363) -/
  jlogP : List JRec := []
  /-- the root of the running checkpoint in program: slot, segment, and whether its row is durable (R280) -/
  ckptRoot : Option (Nat × Nat × Bool) := none
  /-- `TIME` of the newest record in a durable map-journal row of this head and of the partner, as read at boot (R269) -/
  lastLogged : Nat × Nat := (0, 0)
  /-- chunks whose counts this head has raised for the partner's hits (R236) and whose records it does not hold yet -/
  confirmed : List Nat := []
  /-- inserts that the new table of a shard rebuild has taken beside the one that lookups use (R228) -/
  newIns : List IdxEntry := []
  deriving DecidableEq, Repr


/-! ## Chapters 10 to 12: media, parity and modules -/

/-- Segment states (R264). A FREE segment is not listed. -/
inductive SegState where
  | opened | closed | victim | drained | reserved
  deriving DecidableEq, Repr

/-- Why a row's program fails to make it durable, or that it may still. -/
inductive RowState where
  /-- being filled -/
  | filling
  /-- its units are in program: members still to report, and whether one has failed -/
  | program (left : List Nat) (failed : Bool)
  deriving DecidableEq, Repr

/-- The row of an open segment that is being filled or programmed (R187, R188). -/
structure Row where
  forms : List Placed
  /-- where the next form goes: member and offset in 32-byte units -/
  member : Nat
  off : Nat
  /-- time of its first stored form -/
  since : Nat
  /-- map pages packed into a MAP row, each with the `SEQ` its image contains, and records of a JOURNAL row -/
  pages : List (Nat × Nat)
  recs : List Nat
  st : RowState
  /-- the data units of a row written whole (R195, R215, R246, R280), and the table pages they hold: table and page -/
  raw : Option (List Bytes) := none
  tables : List (Nat × Nat) := []
  deriving DecidableEq, Repr

/-- A segment (R260 to R264). -/
structure Seg where
  type : Nat
  st : SegState
  width : Nat
  /-- units per block -/
  rows : Nat
  seq : Nat
  /-- member blocks: module, die, block -/
  members : List (Nat × Nat × Nat)
  /-- rows assigned so far; highest durable row + 1 -/
  nextRow : Nat
  durable : Nat
  closedAt : Nat
  early : Bool
  /-- bytes of live forms (R270) -/
  live : Nat
  /-- directories of its durable rows: row, and form places -/
  dir : List (Nat × Placed)
  row : Option Row
  /-- members lost (R295) -/
  lost : List Nat
  /-- DEGRADED and CRITICAL have been recorded -/
  degradedSeen : Bool
  criticalSeen : Bool
  /-- the partner has cleared the erase (R274) -/
  clear : Bool
  /-- members whose erase is in progress -/
  erasing : List Nat
  /-- dump area 0 A, 1 B of a VAULT segment; root slot of a ROOT segment; highest own `SEQ` of a JOURNAL segment -/
  area : Nat
  /-- highest `TIME` of the adopted records of a JOURNAL segment -/
  logTime : Nat := 0
  deriving DecidableEq, Repr

/-- A victim in the queue (R271): order, segment, and the member of a relocation. -/
structure Victim where
  order : Nat
  seg : Nat
  member : Option Nat
  /-- corrected-bit ratio of a relocation, permille -/
  ratio : Nat
  deriving DecidableEq, Repr

/-- A row written whole that waits for its segment (R266): the segment type, the data units, and the table pages they hold. -/
structure BulkRow where
  type : Nat
  data : List Bytes
  pages : List (Nat × Nat) := []
  deriving DecidableEq, Repr

/-- The media manager and the parity engines. -/
structure Media where
  segs : List (Nat × Seg)
  nextSeq : Nat
  /-- 2^22 × module + 2^16 × die + block; a block not listed is DIRTY with no erase -/
  blocks : List (Nat × Blk)
  /-- last module chosen in an opening (R267) -/
  lastModule : Nat
  /-- DATA segment that took the last row (R266) -/
  lastData : Nat
  victims : List Victim
  /-- victims of order 6 taken since the last of order 5 (R271) -/
  wearMix : Nat
  /-- suspect units (R293): segment, member, row -/
  suspect : List (Nat × Nat × Nat)
  /-- chunks set LOST whose extents have not been searched: chunk, cause, time -/
  lostChunks : List (Nat × Nat × Nat)
  /-- the partner's last CAP_REPORT: live, metadata, free and reserved bytes -/
  partner : Nat × Nat × Nat × Nat
  /-- 90% and 100% of usable capacity have been recorded -/
  cap90 : Bool
  cap100 : Bool
  /-- recovery windows that are open: the members lost in each loss, as segment and member (R300) -/
  windows : List (List (Nat × Nat))
  /-- live bytes left at the last publication of R301 -/
  lastRemain : Option Nat
  /-- patrol: units read in this pass, and whether lateness has been recorded -/
  patrolPos : Nat
  patrolLate : Bool
  /-- next segments to patrol: segment, row, member -/
  patrolAt : Nat × Nat × Nat
  /-- when this pass began, and its length in days (R283) -/
  patrolStart : Nat
  patrolDays : Nat
  /-- segments whose erase-clear request waits for a read booked here (R274) -/
  clearReqs : List Nat
  /-- rows written whole that wait for their segment (R266), oldest first -/
  bulk : List BulkRow := []
  deriving DecidableEq, Repr

/-- What an MQP command is for. -/
inductive MqpUse where
  | hostRead (cmd grain : Nat)
  /-- a read of collection or of rebuild (R273, R298) -/
  | collect (seg member : Nat)
  | tag
  | program (seg row member : Nat)
  | erase (seg member : Nat)
  | init
  | lease
  | claim
  deriving DecidableEq, Repr

/-- An MQP command in flight (R314): queue, command id, opcode, die, block, unit, `ARG0`, `ARG1`, `ARG2`, and its use. -/
structure MqpCmd where
  queue : Nat
  cid : Nat
  op : Nat
  die : Nat
  block : Nat
  unit : Nat
  arg0 : Word
  arg1 : Word
  arg2 : Nat
  use : MqpUse
  deriving DecidableEq, Repr

/-- A module port and its slot (R306 to R326). -/
structure Module where
  /-- outputs in effect -/
  pwren : Bool
  perstRel : Bool
  /-- inputs in effect: `PRESENT`, `PWR_GOOD`, `PWR_FAULT`, and frames that have shown another value -/
  present : Bool
  pwrGood : Bool
  pwrFault : Bool
  seenPresent : Nat
  seenGood : Nat
  seenFault : Nat
  linkTries : Nat
  geom : Option Geometry
  geomTries : Nat
  /-- array word last read -/
  array : Word
  /-- defects taken for these dies; failed dies -/
  defects : List Nat
  failedDies : BitVec 64
  health : Bool
  temp : Int
  wear : Nat
  suspend : Bool
  budget : Bool
  /-- steps 7 and 8 of R325 have passed -/
  claimed : Bool
  tagsLeft : Nat
  cmds : List MqpCmd
  nextCid : Nat
  /-- a timed-out arbitration command that is to be issued again (R325) -/
  redo : Option MqpCmd
  /-- times of recent timeouts and of overruns -/
  timeouts : List Nat
  overruns : List Nat
  deriving DecidableEq, Repr

/-- The module ports and the slot chain. -/
structure Mods where
  mods : List (Nat × Module)
  /-- frames in a row with a bad marker, or good ones while in fault -/
  badMarkers : Nat
  goodMarkers : Nat
  deriving DecidableEq, Repr



/-! ## Chapter 13: the Dikor Link -/

/-- What `DIKOR` holds beside its registers. -/
structure Dik where
  /-- `PARTNER_PRSNT_N` is low -/
  prsnt : Bool
  /-- flits of C0 to C3 that wait for room in the replay buffer or for a credit -/
  waiting : List Nat
  /-- next `SEQ`, and the flits sent and not acknowledged, oldest first: `SEQ` and class -/
  txNext : Nat
  unacked : List (Nat × Nat)
  /-- replays of the oldest of them -/
  replays : Nat
  /-- slots since the last flit of C0 while another class had one ready (R338) -/
  c0gap : Nat
  /-- credits of each class, and the last `CR_TOTAL` taken for it -/
  credits : List Nat
  freed : List Nat
  /-- expected `SEQ`, and whether `NAK` is set -/
  rxNext : Nat
  nak : Bool
  /-- messages partly received: class, bytes received and `LENGTH` -/
  parts : List (Nat × Nat × Nat)
  /-- candidate quads of the attempt, and whether it has already failed -/
  cand : Nat
  failed : Bool
  /-- the identity exchange has passed once since reset (R350) -/
  passed : Bool
  /-- the mask this end has named in WIDTH sets that await the partner's, and when traffic stopped -/
  named : Option Nat
  stopped : Nat
  /-- quads that have returned and when, and quads left out until `QUAD_EN` is committed (R344) -/
  returned : List (Nat × Nat)
  leftOut : Nat
  /-- quads whose return a commit of `QUAD_EN` asks for (R344) -/
  asked : Nat
  /-- region sizes differ, so mirroring is stopped (R182) -/
  sizesDiffer : Bool
  /-- the `PARTNER_WAIT` timer has been started, runs, and has expired (R347) -/
  waitStarted : Bool
  waitRunning : Bool
  waitExpired : Bool
  /-- messages handed to each class and not wholly sent, oldest first: their bytes, and those already sent (R336) -/
  msgs : List (List (Nat × Nat)) := [[], [], [], []]
  /-- `CR_TOTAL` of each class as this end reports it, and the class whose credits the next flit reports (R331) -/
  rxFreed : List Nat := [0, 0, 0, 0]
  crNext : Nat := 0
  /-- the time base in the last SYNC from the partner (R332) -/
  lastSync : Nat := 0
  /-- quads that have trained alone and wait for their planned return to the mask (R21, R344) -/
  back : List Nat := []
  deriving DecidableEq, Repr

/-! ## Chapter 14: two heads -/

/-- A lease move under way (R356, R357): cause 1 takeover, 2 split brain, 3 boot, 4 join, 5 cold pairing; the swap value; *td* and
the start of the interruption; modules asked, those won, and whether it awaits a retry of R366. -/
structure LeaseMove where
  cause : Nat
  value : Word
  start : Nat
  since : Nat
  asked : List Nat
  won : List Nat
  waits : Bool
  deriving DecidableEq, Repr

/-- A role swap (R373): whether this head gives the group, *Bo* and *Bh*, whether it has been accepted, and the control command it
answers. -/
structure Swap where
  giving : Bool
  bo : Nat
  bh : Nat
  accepted : Bool
  tag : Option Nat
  deriving DecidableEq, Repr

/-- A join (R371) or a cold pairing (R372): whether this head gives its records, and whether it takes the other head's; JOIN_START
sent; of the records it takes, *s0*, the tail `SEQ`, JOIN_START received, and the `SEQ` after the last copied record; JOIN_READY
sent; and the lease read or won as PAIRED. -/
structure Join where
  gives : Bool
  takes : Bool
  sent : Bool
  s0 : Nat
  tail : Nat
  began : Bool
  got : Nat
  ready : Bool
  paired : Bool
  deriving DecidableEq, Repr

/-- What `OWN` holds beside its registers. -/
structure OwnSt where
  /-- array epoch (R356) -/
  epoch : Nat
  /-- modules that count in M (R357) -/
  members : List Nat
  move : Option LeaseMove
  /-- renewal count last written to each module, and the partner's with the ms for which it has not changed (R358) -/
  renewed : List (Nat × Nat)
  seen : List (Nat × Nat × Nat)
  /-- modules read at the renewal that runs -/
  asked : List Nat
  /-- mirror records with a `SEQ` below this are an adopted region (R363); 0 none -/
  adopted : Nat
  join : Option Join
  /-- control commands that wait for a join -/
  joinTags : List Nat
  /-- a fenced head's join has been asked for by Rejoin -/
  rejoin : Bool
  /-- the server was lost during a join, and this head takes over once it has recovered from flash (R377) -/
  recover : Bool
  /-- swaps under way by group, and swaps to be started: group and control command -/
  swaps : List (Nat × Swap)
  planned : List (Nat × Option Nat)
  /-- when the last swap began (R375) -/
  lastSwap : Nat
  /-- next `SEQ` of the mirror audit -/
  auditNext : Nat
  /-- the control command that creates the array and waits for its claims (R507) -/
  arrayTag : Option Nat
  /-- beats in a row with differing ownership tables -/
  digestBad : Nat
  /-- no quorum: writes are refused (R366) -/
  noQuorum : Bool
  /-- the pairing has changed: a Sanitize in progress is resumed at the next beat boundary (R121) -/
  sanAgain : Bool
  deriving DecidableEq, Repr

/-! ## Chapter 15: replication -/

/-- A replication connection (R383, R384): next `MSEQ` to send and to receive, credits, and messages sent and not acknowledged. -/
structure RplConn where
  txNext : Nat
  rxNext : Nat
  credits : Nat
  unacked : List Nat
  /-- highest round trip of the last 10 s, ns -/
  rtt : Nat
  /-- messages that wait for a credit, oldest first: relationship, cycle and message -/
  queue : List (Nat × Nat × RplMsg)
  /-- receive buffers posted: `REPL.CFG.RECV_BUFS` when the connection was opened -/
  bufs : Nat := 256
  deriving DecidableEq, Repr

/-- `REPL`. -/
structure ReplSt where
  conns : List (Nat × RplConn)
  rels : List (Nat × Rel)
  /-- highest round trip of the last 10 s on connections of the other head, ns; connection index + 16384 -/
  far : List (Nat × Nat)
  deriving DecidableEq, Repr

/-! ## Chapter 17: power, clocks and temperature -/

/-- A Temple loop's state beside its registers, as raw Q15.16 (R434 to R438). -/
structure Loop where
  df : Int
  pvPrev : Int
  v : Int
  a : Int
  /-- the last consistent limits -/
  iMin : Int
  iMax : Int
  uMin : Int
  uMax : Int
  iReset : Bool
  /-- the last sample was taken under `HOLD` -/
  held : Bool
  deriving DecidableEq, Repr

/-- What `PWR`, `THERM` and `TEMPLE` hold beside their registers. -/
structure Pwr where
  /-- rail and the voltage commanded, mV (R418) -/
  railSet : List (Nat × Nat)
  /-- target of `VDD_CORE7` from its process monitors, mV -/
  core7 : Nat
  /-- domains that wait to power up, in number order (R420) -/
  upQueue : List Nat
  /-- domains powering down, with the state they go to -/
  downTo : List (Nat × Nat)
  /-- DVFS index and step whose voltage is rising, and those settled (R424) -/
  rising : List (Nat × Nat)
  settled : List (Nat × Nat)
  /-- step a service core's firmware requests, 7 where unlisted -/
  svcReq : List (Nat × Nat)
  /-- sensors at or above `EMERG_C` in the last sample (R432) -/
  hot : List Nat
  /-- DPCs forced to step 1 (R431), and DPCs without new placements (R161) -/
  gradForced : List Nat
  excluded : List Nat
  loops : List (Nat × Loop)
  fanStall : Bool
  /-- tachometers that have stalled and not recovered (R441) -/
  stalled : List Nat := []
  /-- duty of `FAN_PWM[1:0]`, per mille -/
  fan0 : Nat
  fan1 : Nat
  /-- planned *P*sp by beat, raw Q15.16 W (R440) -/
  pSp : List (Nat × Int)
  /-- published *P*st by beat, raw Q15.16 W (R440) -/
  pSt : List (Nat × Int)
  /-- main-domain clocks stopped by the hardware trip (R433) -/
  clocksOff : Bool
  deriving DecidableEq, Repr


/-! ## Chapters 19 and 20: service cores, the interrupt controller, pick counters and trace -/

/-- The service cores' work queues (R464, R467). -/
structure Svc where
  /-- queue and the core that owns it -/
  owner : List (Nat × Nat)
  /-- queue and the kinds of the items that wait in it, oldest first -/
  work : List (Nat × List WorkKind)
  /-- firmware revision of the service-core manifest (R118, R119) -/
  rev : Nat
  deriving DecidableEq, Repr

/-- What `INTC` holds beside its registers (R471 to R475). -/
structure Intc where
  /-- core and what it has claimed and not completed, innermost first: (source, priority) -/
  claimed : List (Nat × List (Nat × Nat))
  /-- group and the time at which its hold-off ends -/
  holdEnd : List (Nat × Nat)
  /-- running priority + 1 and the core last chosen at it -/
  lastCore : List (Nat × Nat)
  /-- pending source and the core it is routed to -/
  routed : List (Nat × Nat)
  deriving DecidableEq, Repr

/-- A pick snapshot in a shadow (R482, R483): its time, the period in effect, the epochs not written between it and
the snapshot or record before it, and the counters that are not 0, by index. -/
structure Snap where
  time : Nat
  period : Nat
  gap : Nat
  counters : List (Nat × Nat)
  deriving DecidableEq, Repr

/-- What `PICK` holds beside its registers. -/
structure PickSt where
  /-- tenant table (R478): 32 t + k and the counter, where it is not 0 -/
  tenants : List (Nat × Nat)
  /-- energy remainders of tenants, 0.1 µJ (R479) -/
  rest : List (Nat × Nat)
  /-- the epoch announced -/
  next : Option Nat
  /-- snapshots held, oldest first -/
  held : List Snap
  /-- epochs not written since the last held snapshot -/
  gap : Nat
  /-- a record has been written since `CHIP_RESET_N` -/
  wrote : Bool
  /-- time base at the last `CHIP_RESET_N` release -/
  since : Nat
  /-- the partner's last tenant table (R485): its snapshot and its head's index -/
  partner : Option (Snap × Nat)
  /-- that copy waits to be written as a record after a takeover -/
  partnerDue : Bool
  deriving DecidableEq, Repr

/-- A tally record (R484). -/
structure TallyRec where
  head : Nat
  first : Bool
  partner : Bool
  period : Nat
  time : Nat
  dropped : Nat
  array : Nat
  since : Nat
  counters : List (Nat × Nat)
  deriving DecidableEq, Repr

/-- A trace record (R487). -/
structure TrRec where
  src : Nat
  type : Nat
  time : Nat
  payload : Word
  deriving DecidableEq, Repr

/-- What `TRACE` holds beside its registers. -/
structure Trc where
  /-- the on-chip buffer, oldest first, and records ever put in it -/
  buf : List TrRec
  put : Nat
  /-- 64-bit words of the on-chip buffer read, counted from the first record ever put in it -/
  rd : Nat
  /-- the DRAM ring: slot and record -/
  ring : List (Nat × TrRec)
  /-- source and records dropped since its last record -/
  lost : List (Nat × Nat)
  /-- sources between GATE_OFF and GATE_ON (R488) -/
  gated : List Nat := []
  deriving DecidableEq, Repr



/-! ## What the head sends out -/

/-- PLDM completion codes the spec names (R448, R461). -/
inductive PldmCode where
  | success | unsupported | alreadyInUpdateMode | invalid
  deriving DecidableEq, Repr

/-- SPDM answers (R410). -/
inductive SpdmRsp where
  | version (major minor : Nat)
  | capabilities
  /-- ECDSA P-384, SHA-384, measurement hash SHA-384 -/
  | algorithms
  | digests (chain : Digest)
  | certificate (part : Bytes)
  | challengeAuth (chain : Digest) (signature : Bytes)
  | measurements (blocks : List (Nat × Digest)) (signature : Option Bytes)
  | unsupported
  deriving DecidableEq, Repr

/-- One thing the head has sent or driven, by interface. -/
inductive Emit where
  /-- an entry written to the control-channel event ring, and its 64 bytes (R508) -/
  | evEntry (slot seq : Nat) (phase : Bool) (e : EvEntry) (image : Bytes)
  /-- a completion written to a completion ring, and its 32 bytes (R501) -/
  | ctlCompletion (ring slot : Nat) (phase : Bool) (cmdId : BitVec 32) (status : CtlStatus) (sqHead : Nat) (token r0 r1 : Word) (image : Bytes)
  /-- bytes written to head-processor memory -/
  | dma (addr : Word) (data : Bytes)
  | msix (vector : Nat)
  | pmPme
  /-- a configuration completion: successful with data, or Request Retry Status -/
  | cfgData (data : BitVec 32)
  | cfgRetry
  /-- a BAR0 read's successful completion with its data, zero where the read is discarded (R25) -/
  | barData (data : Word)
  /-- a DRAM aperture read's data -/
  | apertureData (data : Word)
  /-- out-of-band datagram of records with its authentication bytes (R457) -/
  | oobRecords (rs : List EvRec) (mac : BitVec 128)
  /-- PMBus `VOUT_COMMAND` to a regulator address, mV (R419) -/
  | voutCommand (addr mv : Nat)
  /-- bytes are programmed into the NOR at an offset (R444) -/
  | norWrite (offset : Nat) (bytes : Bytes)
  /-- a transport key set is due for change: KeyUpdate on a TLS connection, a rekey of an ESP set by the control plane (R404) -/
  | rekeyDue (slot : Nat) (esp : Bool)
  | uartRecord (r : EvRec)
  | oobReply (kind : Nat) (data : Bytes)
  | pldm (code : PldmCode) (data : List Nat)
  | mctpControl (data : List Nat)
  | spdm (control : Bool) (r : SpdmRsp)
  /-- a session challenge or answer over MCTP (R411) -/
  | challenge (level : SessLevel) (value : Word256)
  | sessionOpen (level : SessLevel) (id : BitVec 32)
  | sessionRefused (level : SessLevel)
  /-- results that leave the key store in the clear (R403) -/
  | ecdhePublic (slot : Nat) (key : Bytes)
  | macValue (value : Bytes)
  | keyFail (slot : Nat)
  /-- a cipher engine's output, or its failure `LENGTH`/`PARAM`, tag failure or `KEY_EMPTY` (R404) -/
  | cipher (data : Bytes)
  | cipherLimit
  | cipherTag
  | keyEmpty (slot : Nat)
  | digest (alg : Hash) (value : Bytes)
  /-- result of a final compare: the pair (MATCH, MATCH_N) -/
  | compared (m n : Bool)
  /-- an R2T: connection, command id, `TTAG`, offset, length -/
  | r2t (conn cid ttag off len : Nat)
  /-- a `NAK` for a flit, flits replayed from a `SEQ`, WIDTH sets naming a mask, and this head's identity message (R331, R340, R343,
  R348) -/
  | dkNak (seq : Nat)
  | dkReplay (first count : Nat)
  | dkWidth (mask : Nat)
  | dkIdentity (image : List Nat)
  /-- a DATA flit: its header (R331) -/
  | dkFlit (header : Nat)
  /-- a SYNC flit: its header, the time base, and that of the partner's last SYNC (R332) -/
  | dkSync (header now last : Nat)
  /-- a replication message: connection, relationship, `MSEQ`, cycle, and the bytes of the SEND (R385) -/
  | repl (conn rel mseq cycle : Nat) (m : RplMsg) (image : Bytes)
  /-- a replication connection is to be opened for a relationship: address entry and remote address (R381) -/
  | replConnect (rel entry : Nat) (ip : BitVec 128)
  /-- a record copied to a joiner on class C3 (R371) -/
  | bulk (r : JRec)
  /-- a tally record written into head-processor memory at an offset of the tally ring (R484) -/
  | tally (offset : Nat) (r : TallyRec)
  /-- an alignment control block of a trace lane, with the next record number (R490) -/
  | traceAlign (lane next : Nat)
  /-- a record on the trace port: lane and record (R490) -/
  | tracePort (lane : Nat) (r : TrRec)
  /-- a trace record written into the DRAM ring -/
  | traceDram (slot : Nat) (r : TrRec)
  /-- a core's request line asserted for a source (R471) -/
  | coreRequest (core src : Nat)
  /-- what a claim returned to a core -/
  | claimed (core : Nat) (src : Option Nat)
  /-- a Dikor message (R334): its `MTYPE` and the numbers of its body, in the order of its layout -/
  | msg (mtype : Nat) (body : List Nat)
  /-- the tenant table sent to the partner (R485) -/
  | pickShadow (epoch head time : Nat) (counters : List (Nat × Nat))
  /-- an NVMe completion handed to the `XPT`: connection, command id, SCT, SC, Do Not Retry, Command Retry Delay, DW0 -/
  | nvme (conn cid sct sc : Nat) (dnr : Bool) (crd : Nat) (result : Nat)
  /-- the SEND of the completion just given is one with Invalidate of a key (R76) -/
  | invalidate (conn cid key : Nat)
  /-- data sent to a host: connection, command id, offset and bytes, and the CRC-32C of a C2HData PDU where data digests are
  negotiated (R78) -/
  | hostData (conn cid off : Nat) (data : Bytes) (ddgst : Option Nat := none)
  /-- a structure sent to a host as numbers in layout order: Identify, log pages, features, reservation reports -/
  | hostInfo (conn cid kind : Nat) (fields : List Nat)
  /-- an RDMA READ request or R2T: connection, command id, offset, length -/
  | pull (conn cid off len : Nat)
  | tcpRst (port : Nat)
  | cmRej (conn : Nat)
  | cmDreq (conn : Nat)
  | nakRemoteAccess (conn : Nat)
  /-- an ICResp: CPDA, the HPDA honoured, the digests agreed, and MAXH2CDATA (R78) -/
  | icResp (conn cpda hpda : Nat) (hdgst ddgst : Bool) (maxh2cdata : Nat)
  | c2hTerm (conn : Nat)
  /-- a TLS alert with its description (R81) -/
  | tlsAlert (conn : Nat) (description : Nat)
  | tlsServerHello (conn : Nat)
  /-- outstanding packets sent again -/
  | retransmit (conn : Nat)
  | pfcPause (quad prio : Nat) (on : Bool)
  /-- a congestion notification packet (R73, R76) -/
  | cnp (conn : Nat)
  /-- a received PTP event message's time stamp: port, message, time, and whether it is the configured clock's (R95) -/
  | ptpStamp (port : Nat) (m : PtpMsg) (time : Nat) (clock : Bool)
  /-- a Delay_Req of the slave clock leaves on its port (R95) -/
  | ptpDelayReq (port : Nat) (m : PtpMsg)
  /-- the announcement of an address on a port with that port's MAC address (R93): an unsolicited Neighbor Advertisement to all nodes
  with Override set when `ipv6`, else a gratuitous ARP request -/
  | announce (entry port : Nat) (ipv6 : Bool) (ip : BitVec 128) (mac : BitVec 48)
  /-- an MQP submission entry: module, queue, command id, opcode, die, block, unit, `ARG0`, `ARG1`, `ARG2` -/
  | mqp (module queue cid op die block unit : Nat) (arg0 arg1 : Word) (arg2 : Nat)
  /-- what a `PROGRAM_UNIT` programs (R265, R284): module, command id, the unit's content without the zeros that end it, and its page
  tag -/
  | unitData (module cid : Nat) (content tag : Bytes)
  /-- a slot-chain output byte: slot and byte -/
  | slotByte (slot byte : Nat)
  /-- a record written on Dikor class C1 for the mirror, and its 64-byte header (R171, R177) -/
  | mirror (r : JRec) (header : Bytes)
  /-- a page-in, write-back or other transfer of a map page -/
  | mapIo (page : Nat) (write : Bool)
  deriving DecidableEq, Repr


/-! ## The front end -/

/-- The front end. -/
structure Fab where
  /-- ports that are up, by first lane -/
  up : List Nat
  conns : List (Nat × ConnEntry)
  /-- the `REUSE` value last deleted at an index (R89) -/
  deleted : List (Nat × Nat)
  /-- updates that have not taken effect, oldest first: index and new entry, or deletion (R87) -/
  upd : List (Nat × Option ConnEntry)
  /-- old versions held -/
  old : List (Nat × ConnEntry)
  /-- frames in the front end, oldest first -/
  frames : List FrameTag
  /-- generations of the address table, and whether its previous version is held (R88) -/
  addrGen : Nat
  addrOld : Bool
  rt : List (Nat × ConnRt)
  /-- 4096 × connection + tag, its generation and the write it stands for (R91) -/
  ttags : List (Nat × Nat × Option Nat)
  /-- connections whose TLS handshake runs (R403) -/
  hs : List Nat
  /-- announcements still to be repeated (R93) -/
  announce : Nat
  /-- this head answers for its home addresses, and for its partner's (R93, R94) -/
  answersHome : Bool
  answersPartner : Bool
  /-- PTP port, domain and transport set through the control channel (R95) -/
  ptpPort : Nat
  ptpDomain : Nat
  ptpTransport : Nat
  /-- 8 × quad + priority for which pause is being sent (R75) -/
  paused : List Nat
  /-- 8 × quad + priority and the share of the quad's 2 MiB receive buffer last seen filled, percent (R75) -/
  fill : List (Nat × Nat)
  /-- 8 × port + priority that received PFC pauses (R75) -/
  rxPaused : List Nat
  /-- what the head has to send on connections whose transmission is held, oldest first (R75) -/
  txq : List (Nat × Emit)
  /-- connections deleted by a forced teardown and not created again (R89) -/
  forced : List Nat
  /-- `XPT.RC_CFG.ACK_TO` (R76) -/
  ackTo : Nat
  /-- port, second, and control frames passed to the service cores in it (R83) -/
  ctlSeen : List (Nat × Nat × Nat)
  /-- 65536 × connection + command id of RoCEv2 commands whose host asks for SEND with Invalidate, and the key to invalidate (R76) -/
  invals : List (Nat × Nat)
  deriving DecidableEq, Repr


/-! ## The whole head -/

/-- The state of one AZ7240 head. -/
structure State where
  /-- commands that wait, first in, first out -/
  pending : List Instr
  /-- registers that do not hold their reset value: (BAR0 address, value), addresses strictly rising -/
  regs : List (Nat × Word)
  /-- (page, bits of `BLK_INT_RAW` whose condition still holds) (R36) -/
  held : List (Nat × Word)
  /-- the time base, in ns (R45) -/
  now : Nat
  /-- the model's own: how many free values have been drawn -/
  freeCtr : Nat
  /-- the model's own: what the head has sent, newest first -/
  out : List Emit
  chip : Chip
  life : Life
  mgmt : Mgmt
  evrec : Evrec
  sec : Sec
  up : Up
  fab : Fab
  nv : Nvm
  loom : LoomSt
  jr : Jrn
  mp : Maps
  md : Media
  mo : Mods
  dk : Dik
  own : OwnSt
  repl : ReplSt
  pw : Pwr
  svc : Svc
  intc : Intc
  pick : PickSt
  trc : Trc
  deriving DecidableEq, Repr

/-! ## Reset -/

/-- The head with `STBY_PWR_OK` and `CHIP_RESET_N` low and every output at its reset level (R55). -/
def Chip.reset : Chip :=
  { cond := .reset, stbyPwrOk := false, mainPwrOk := false, chipResetN := false, perstN := false, pwrFailN := true,
    bootPins := 0, faultN := false, holdup := false, holdupActive := false, holdupDone := false, hbOut := false, thermtripN := true,
    wakeN := true, smbAlertN := true, ppsOut := 0, nowHigh := none, leftUnsynced := false, deck := none, rtc := 0,
    steps := [] }

/-- No fuse blown. -/
def Life.reset : Life :=
  { cells := 0, uid := 0, rollback := 0, revoked := 0, testDisable := false, fuseRootDisable := false, phase := .idle,
    stopping := false }

/-- The NOR holds no directory and no image; management does not run. -/
def Mgmt.reset : Mgmt :=
  { dirSeq := 0, dirActive := false, dirTrial := false, slotA := none, slotB := none, bootedB := false,
    running := false, tried := [], afterWatchdog := false, update := none, updated := none, wdogTimes := [],
    eid := none, eventReceiver := none, tid := 0 }

/-- An empty buffer, every bucket full, and an event ring of 512 erased sectors. -/
def Evrec.reset : Evrec :=
  { buf := [], dropped := 0, buckets := [], flushing := none, again := false, ring := [], sectors := [], nextSeq := 0,
    head := 0, erased := 512, erasing := none, norError := false }

/-- Every slot empty, no session, no tamper. -/
def Sec.reset : Sec :=
  { slots := [], peers := [], ledger := { sectors := [], used := 0, erased := 32, erasing := false }, op := none,
    trngOn := true, ctxs := [], saved := [], chalAdmin := none, chalMonitor := none, monitors := [],
    failsAdmin := 0, failsMonitor := 0, lockAdmin := 0, lockMonitor := 0, lockedAdmin := false,
    lockedMonitor := false, latch := false, sources := 0, alarms := 0, tamperTime := 0, vault := [],
    historyKey := true, dumpKey := false, mismatch := [], kcvIn := [], kcvOut := false, spdmReady := false }

/-- No ring set up, bus mastering off. -/
def Up.reset : Up :=
  { busMaster := false, pmeStatus := false, pmeEn := false, bars := [], subsystem := 0x00001FB0, msixPending := [],
    rings := [], cmds := [], nextTag := 0, results := [], kept := 0, evProd := 0, evCons := 0, evSeq := 1,
    evPhase := true, evq := [], evLost := 0, busyTenants := [], wakeHold := false, cfgReady := false, dram := [] }
/-- No port up and no connection. -/
def Fab.reset : Fab :=
  { up := [], conns := [], deleted := [], upd := [], old := [], frames := [], addrGen := 0, addrOld := false,
    rt := [], ttags := [], hs := [], announce := 0, answersHome := true, answersPartner := false, ptpPort := 0, ptpDomain := 0,
    ptpTransport := 0, paused := [], fill := [], rxPaused := [], txq := [], forced := [], ackTo := 14, ctlSeen := [], invals := [] }

/-- No tenant, no volume, no controller, no command. -/
def Nvm.reset : Nvm :=
  { tenants := [], volumes := [], ctrls := [], gone := [], cmds := [], next := 0, groups := [], groupGens := [],
    fwdOther := [], psks := [] }

/-- An empty calendar and no contract. -/
def LoomSt.reset : LoomSt :=
  { book := [], shadow := [], sent := [], claims := [], nextTag := 0, refused := 0, swapDue := false, staged := [], active := [],
    buckets := [], queue := [], ledger := [], ovr := [], ovrAcc := [], floorAt := 0, overBeats := 0, dpcs := [], energy := [] }

/-- Both regions empty. -/
def Jrn.reset : Jrn :=
  { own := [], mir := [], exts := [], next := 0, restriping := false, ownDefer := none, mirDefer := none, dumpA := none,
    dumpB := none, dumpNext := 1, jkib := 0, jwait := [], lostCh := [],
    badOwn := [], badMir := [], striped := [], openStripes := [], laps := [] }

/-- No chunk, no page, no snapshot. -/
def Maps.reset : Maps :=
  { chunks := [], forms := [], pools := [], index := [], idxLog := [], runs := [], tableLog := 30, solo := false, rebuild := none,
    rebuildNext := none, reweave := [], auditSet := [], sweep := 0, audit := none, redS := [], redA := [], dicts := [],
    training := [], dictCache := [], pages := [], nextPage := 1, snaps := [], nextSnap := 1, snapOps := [], nextOp := 0, overlay := [],
    bobbins := [], ckpt := none, ckptDue := false, rootA := none, rootB := none, lastCut := 0, jlog := [] }

/-- No segment and no block known. -/
def Media.reset : Media :=
  { segs := [], nextSeq := 0, blocks := [], lastModule := 63, lastData := 0, victims := [], wearMix := 15, suspect := [],
    lostChunks := [], partner := (0, 0, 0, 0), cap90 := false, cap100 := false, windows := [], lastRemain := none,
    patrolPos := 0, patrolLate := false, patrolAt := (0, 0, 0), patrolStart := 0, patrolDays := 7, clearReqs := [] }

/-- Every slot empty. -/
def Mods.reset : Mods := { mods := [], badMarkers := 0, goodMarkers := 0 }


/-- No link. -/
def Dik.reset : Dik :=
  { prsnt := false, waiting := [0, 0, 0, 0], txNext := 0, unacked := [], replays := 0, c0gap := 31, credits := [0, 0, 0, 0],
    freed := [0, 0, 0, 0], rxNext := 0, nak := false, parts := [], cand := 0, failed := false, passed := false, named := none,
    stopped := 0, returned := [], leftOut := 0, asked := 0, sizesDiffer := false, waitStarted := false, waitRunning := false,
    waitExpired := false }

/-- No lease read, no swap, no join. -/
def OwnSt.reset : OwnSt :=
  { epoch := 0, members := [], move := none, renewed := [], seen := [], asked := [], adopted := 0, join := none,
    joinTags := [], rejoin := false, recover := false, swaps := [], planned := [], lastSwap := 0, auditNext := 0, arrayTag := none, digestBad := 0, noQuorum := false, sanAgain := false }

/-- No relationship. -/
def ReplSt.reset : ReplSt := { conns := [], rels := [], far := [] }

/-- Nothing moving, fans at full duty (R55). -/
def Pwr.reset : Pwr :=
  { railSet := [], core7 := 720, upQueue := [], downTo := [], rising := [], settled := [], svcReq := [], hot := [],
    gradForced := [], excluded := [], loops := [], fanStall := false, fan0 := 1000, fan1 := 1000, pSp := [],
    pSt := [], clocksOff := false }
/-- No queue owned, no work. -/
def Svc.reset : Svc := { owner := [], work := [], rev := 0 }

/-- Nothing claimed. -/
def Intc.reset : Intc := { claimed := [], holdEnd := [], lastCore := [], routed := [] }

/-- Every counter 0 and no snapshot. -/
def PickSt.reset : PickSt :=
  { tenants := [], rest := [], next := none, held := [], gap := 0, wrote := false, since := 0, partner := none,
    partnerDue := false }

/-- Nothing captured. -/
def Trc.reset : Trc := { buf := [], put := 0, rd := 0, ring := [], lost := [] }


/-- The machine right after reset: every register at its reset value, nothing queued, nothing in progress. -/
def State.reset : State :=
  { pending := [], regs := [], held := [], now := 0, freeCtr := 0, out := [], chip := Chip.reset,
    life := Life.reset, mgmt := Mgmt.reset, evrec := Evrec.reset, sec := Sec.reset, up := Up.reset,
    fab := Fab.reset,
    nv := Nvm.reset,
    loom := LoomSt.reset,
    jr := Jrn.reset,
    mp := Maps.reset,
    md := Media.reset,
    mo := Mods.reset,
    dk := Dik.reset,
    own := OwnSt.reset,
    repl := ReplSt.reset,
    pw := Pwr.reset,
    svc := Svc.reset,
    intc := Intc.reset,
    pick := PickSt.reset,
    trc := Trc.reset }

end Sys2Proof.Machine
end

