-- ==== Sys2Proof/Machine/Ops.lean ====
section
/-!
DEFINITION. Sys2Proof/Machine/Ops.lean: the named operations over the register file that every family uses: reading and
writing a register, a field and an active copy, counters, and the free-value counter.
-/

namespace Sys2Proof.Machine

/-- The answer of every meaning. -/
abbrev Out := Host.Outcome State Fault Refusal

/-- The register file's one form: keys strictly rising, and no entry that equals what an unlisted key reads as. -/
def regsWf (r : List (Nat × Word)) : Bool := tSorted r && r.all (fun e => e.2 != regReset e.1)

/-- The register file with one register written: an entry equal to the reset value is not listed. -/
def regsPut (r : List (Nat × Word)) (k : Nat) (v : Word) : List (Nat × Word) :=
  if v = regReset k then tDel r k else tPut r k v

namespace State

/-- A register, by its key (BAR0 address). -/
def reg (s : State) (k : Nat) : Word := tGet s.regs k (regReset k)

/-- A register written by the hardware. -/
def setReg (s : State) (k : Nat) (v : Word) : State := { s with regs := regsPut s.regs k v }

/-- A field of a register. -/
def fld (s : State) (f : Fld) : Nat := bitsOf (s.reg f.key) f.lo f.w

/-- Whether a one-bit field is set. -/
def bit (s : State) (f : Fld) : Bool := s.fld f != 0

/-- A field written by the hardware. -/
def setFld (s : State) (f : Fld) (x : Nat) : State := s.setReg f.key (setBits (s.reg f.key) f.lo f.w x)

/-- A one-bit field set or cleared by the hardware. -/
def setBit (s : State) (f : Fld) (b : Bool) : State := s.setFld f b.toNat

/-- The active copy of a staged field (R39). -/
def act (s : State) (f : Fld) : Nat := bitsOf (s.reg (f.key + 0x8000)) f.lo f.w

/-- A whole-word pick counter advanced, saturating (R477). -/
def bump (s : State) (k n : Nat) : State := s.setReg k (satAdd (s.reg k) n)

/-- A counting field advanced, saturating at its width. -/
def bumpFld (s : State) (f : Fld) (n : Nat) : State := s.setFld f (min (s.fld f + n) (2 ^ f.w - 1))

/-- The next draw from the free values: its number, and the state with that number used. -/
def draw (s : State) : Nat × State := (s.freeCtr, { s with freeCtr := s.freeCtr + 1 })

/-- Registers written in turn. -/
def setRegs (s : State) (l : List (Nat × Word)) : State := l.foldl (fun t e => t.setReg e.1 e.2) s

/-- A guarantee condition is broken for the commands in flight that satisfy a test (R164). -/
def markHurt (s : State) (k : Nat) (p : HCmd → Bool) : State :=
  { s with nv.cmds := s.nv.cmds.map (fun (e : Nat × HCmd) =>
      if p e.2 && !e.2.hurt.contains k then (e.1, { e.2 with hurt := e.2.hurt ++ [k] }) else e) }

end State

/-! ## The common page header -/

/-- Block states (R34). -/
abbrev OFF : Nat := 0
abbrev STARTING : Nat := 1
abbrev ACTIVE : Nat := 2
abbrev DRAINING : Nat := 3
abbrev DRAINED : Nat := 4
abbrev SPARE : Nat := 5
abbrev FAILED : Nat := 6
abbrev RETIRED : Nat := 7

/-- Values of `BLK_STATE.PWR` (R34). -/
abbrev PWR_ON : Nat := 0
abbrev PWR_RETENTION : Nat := 1
abbrev PWR_GATED : Nat := 2
abbrev PWR_UP : Nat := 3
abbrev PWR_DOWN : Nat := 4

namespace State

/-- `BLK_STATE.STATE` of the block on a page. -/
def blk (s : State) (page : Nat) : Nat := s.fld (Reg.BLK_STATE_STATE page)

/-- `BLK_STATE.STATE` written. -/
def setBlk (s : State) (page st : Nat) : State := s.setFld (Reg.BLK_STATE_STATE page) st

/-- `BLK_STATE.PWR` of the block on a page. -/
def pwr (s : State) (page : Nat) : Nat := s.fld (Reg.BLK_STATE_PWR page)

/-- Whether the block on a page is ACTIVE. -/
def active (s : State) (page : Nat) : Bool := s.blk page == ACTIVE

/-! ## Planned changes (R21) -/

/-- Whether the recovery window of a head loss is open (R377): from the takeover until no record of the adopted region waits for flash. That
it closes then, and not when the partner joins again, is the model's choice (log entry 119). -/
def headWindow (s : State) : Bool :=
  s.bit Reg.OWN_STATUS_TAKEOVER_BUSY || (s.fld Reg.OWN_STATUS_ROLE == 3 && s.jr.mir.any (fun r => !r.flashed))

/-- Whether a recovery window other than a narrowing's is open: of a module's loss (R300), of a DRAM channel's (R184), of a head's (R377), or
of a fault whose interruption still lasts (R22). -/
def faultWindow (s : State) : Bool :=
  !s.md.windows.isEmpty || s.bit Reg.SELV_STATUS_DEGRADED || decide (s.now < s.loom.faultEnd) || s.headWindow

/-- Whether a recovery window is open: one of `faultWindow`, or of a Dikor narrowing (R343). -/
def windowsOpen (s : State) : Bool := s.faultWindow || s.fld Reg.DIKOR_STATUS_LSTATE == 8

/-- A fault inside an open recovery window breaks the guarantee of every command in flight with SECOND_FAULT (R22, R164, R377). -/
def secondFault (s : State) : State := if s.windowsOpen then s.markHurt 1 (fun _ => true) else s

/-- Pages whose drain is a planned change and goes on: DPCs, service cores and DRAM channels. -/
def draining (s : State) : List Nat :=
  ((List.range 18).map Reg.DPC_PAGE ++ (List.range 16).map Reg.SVC_PAGE ++ (List.range 16).map Reg.DRAMC_PAGE).filter
    (fun p => s.blk p == DRAINING)

/-- Whether a planned change may be started: no recovery window is open and no other planned change goes on, the return of a quad to the Dikor
mask among them. -/
def changeFree (s : State) : Bool := !s.windowsOpen && s.own.swaps.isEmpty && s.draining.isEmpty && s.dk.named.isNone

/-- Whether the change that a page's drain is may go on (R21): one at a time, in page order, and outside of every recovery window. What a
block does that drains out of its turn is the model's choice (log entry 95): it waits in DRAINING. -/
def changeTurn (s : State) (page : Nat) : Bool :=
  !s.windowsOpen && s.own.swaps.isEmpty && s.dk.named.isNone && s.draining.head? == some page

end State

end Sys2Proof.Machine
end

