-- ==== Sys2Proof/Machine/Flags.lean ====
section
/-!
DEFINITION. Sys2Proof/Machine/Flags.lean: the status bits every block keeps: interrupt conditions (R36, R37), sticky
errors, the capture of a discarded access (R25, R44), and the checks that a BAR0 write passes before it takes effect.
-/

namespace Sys2Proof.Machine

/-! ## Interrupt conditions -/

namespace State

/-- The bits of a page's `BLK_INT_RAW` whose condition still holds. -/
def heldBits (s : State) (page : Nat) : Word := tGet s.held page 0

/-- Record that a condition holds, or holds no longer. -/
def setHeld (s : State) (page bit : Nat) (holds : Bool) : State :=
  let v := setBits (s.heldBits page) bit 1 holds.toNat
  { s with held := if v = 0 then tDel s.held page else tPut s.held page v }

/-- `BLK_INT_PEND`: RAW and not MASK, zero at and above `INT_COUNT` (R37). -/
def intPend (s : State) (page : Nat) : Word :=
  s.reg (Reg.BLK_INT_RAW page) &&& ~~~(s.reg (Reg.BLK_INT_MASK page)) &&& fieldMask 0 (intCount page)

/-- An interrupt condition sets its `RAW` bit (R36). -/
def raiseRaw (s : State) (page bit : Nat) : State :=
  s.setReg (Reg.BLK_INT_RAW page) (s.reg (Reg.BLK_INT_RAW page) ||| fieldMask bit 1)

/-- A W1C write of `BLK_INT_RAW`: a bit whose condition still holds is set again (R36). -/
def clearRaw (s : State) (page : Nat) (w : Word) : State :=
  s.setReg (Reg.BLK_INT_RAW page) ((s.reg (Reg.BLK_INT_RAW page) &&& ~~~w) ||| s.heldBits page)

end State

/-! ## Discarded accesses -/

/-- The causes of `CHIP.ACCESS_ERR.CAUSE` (R44). -/
inductive AccessCause where
  | unmapped | size | misaligned | poweredOff | stageBusy | locked | session | readOnly | state
  deriving DecidableEq, Repr

/-- The value of a cause (R44). -/
def AccessCause.value : AccessCause → Nat
  | .unmapped => 1 | .size => 2 | .misaligned => 3 | .poweredOff => 4 | .stageBusy => 5 | .locked => 6
  | .session => 7 | .readOnly => 8 | .state => 9

namespace State

/-- The first discarded access is captured, every one is counted, and the addressed block page's sticky `ACCESS` bit
is set (R25, R44). -/
def discard (s : State) (addr : Nat) (size32 write : Bool) (c : AccessCause) : State :=
  let page := addr / 0x10000
  let s1 :=
    if s.bit Reg.CHIP_ACCESS_ERR_VALID then s
    else s.setReg Reg.CHIP_ACCESS_ERR
      (BitVec.ofNat 64 (addr % 0x10000 * 2 ^ 32 + page * 2 ^ 16 + size32.toNat * 2 ^ 9 + write.toNat * 2 ^ 8
        + c.value * 2 ^ 4 + 1))
  let s2 := s1.bumpFld Reg.CHIP_ACCESS_ERR_CNT_COUNT 1
  if (blockAt page).isSome then s2.setBit (Reg.BLK_ERR_STICKY_ACCESS page) true else s2

/-- A block-specific error bit of `BLK_ERR_STICKY`. -/
def stick (s : State) (page bit : Nat) : State :=
  s.setReg (Reg.BLK_ERR_STICKY page) (s.reg (Reg.BLK_ERR_STICKY page) ||| fieldMask bit 1)

/-- A field of an active copy written by the hardware. -/
def setAct (s : State) (f : Fld) (x : Nat) : State := s.setReg (f.key + 0x8000) (setBits (s.reg (f.key + 0x8000)) f.lo f.w x)

/-- `GEN` advances by 1, wrapping to 1 (R40). -/
def genNext (s : State) (page : Nat) : State :=
  let g := Reg.BLK_GEN_GEN page
  s.setFld g (if s.fld g = 0xFFFFFFFF then 1 else s.fld g + 1)

/-- Whether an admin session is open (R411). -/
def adminOpen (s : State) : Bool := s.bit Reg.SESS_STATUS_ADMIN_ID

/-- Whether a BAR0 access can arrive: out of reset, and the function neither in reset nor asleep (R49, R53, R496). -/
def barReachable (s : State) : Bool :=
  s.chip.cond != .reset && s.chip.mainPwrOk && s.chip.perstN && s.fld Reg.UPEP_LINK_DSTATE == 0

/-- The life-cycle state in effect (R67). -/
def lifeState (s : State) : Nat := s.fld Reg.LIFE_STATUS_STATE

/-- Whether RWL fields are locked (R28): the life cycle has reached DEPLOYED. -/
def rwlLocked (s : State) : Bool := 2 ≤ s.lifeState

/-- Whether a write to this address needs an open admin session (R411): a management-domain page, `KEYS.CMD`, or
`UPEP.APERTURE` (R494), but for `SESS.CHAL_REQ` and `SESS.RESP`. -/
def needsSession (addr : Nat) : Bool :=
  (((blockAt (addr / 0x10000)).map (fun p => p.1.mgmt)).getD false
      && addr != Reg.SESS_CHAL_REQ && !(List.range 4).any (fun k => addr == Reg.SESS_RESP k))
    || addr == Reg.KEYS_CMD || addr == Reg.UPEP_APERTURE

/-- Whether a staged register lies at this address. -/
def isStaged (addr : Nat) : Bool :=
  match blockAt (addr / 0x10000) with
  | some (b, _) => ((findReg b.type (addr % 0x10000)).map (fun p => p.1.staged)).getD false
  | none => false

/-- The cause, if any, that keeps a 64-bit write of a register from taking effect before its fields are looked at
(R27, R41, R411). Among several the lowest is captured (R25). -/
def writeCause (s : State) (addr : Nat) : Option AccessCause :=
  let page := addr / 0x10000
  if 0x100 ≤ addr % 0x10000 && s.pwr page != PWR_ON then some .poweredOff
  else if isStaged addr && s.bit (Reg.BLK_STATE_COMMIT_PENDING page) then some .stageBusy
  else if needsSession addr && !s.adminOpen then some .session
  else none

/-- A BAR0 write of one register: nothing when it cannot arrive, discarded under its cause, or its effect. -/
def barWrite (s : State) (addr : Nat) (f : State → State) : State :=
  if !s.barReachable then s
  else
    match s.writeCause addr with
    | some c => s.discard addr false true c
    | none => f s

end State

end Sys2Proof.Machine
end

