-- ==== Sys2Proof/Machine/Operands.lean ====
section
/-!
DEFINITION. Sys2Proof/Machine/Operands.lean: what a written value becomes: the readback rule of a field, and the fields
that an access code lets a write change (R28).
-/

namespace Sys2Proof.Machine

/-- The value a field of width `w` reads after `x` is written, under its chapter's limit. -/
def fixApply (w x : Nat) : Fix → Nat
  | .keep => x
  | .clamp lo hi => clampNat lo hi x
  | .zeroAs n => if x = 0 then n else x
  | .zeroOrClamp lo hi => if x = 0 then 0 else clampNat lo hi x
  | .oneOf vs d => if vs.contains x then x else d
  | .divisorOf n => ((List.range (x + 1)).reverse.find? (fun d => d != 0 && n % d = 0)).getD 1
  | .clampSigned m =>
    let v : Int := if x < 2 ^ (w - 1) then (x : Int) else (x : Int) - (2 ^ w : Nat)
    (clampInt (-(m : Int)) (m : Int) v % (2 ^ w : Nat)).toNat

/-- The width of a field. -/
def fieldWidth (f : FieldDesc) : Nat := f.hi + 1 - f.lo

/-- Whether a write can change a field of this code (R28). -/
def accChangeable (locked : Bool) : Acc → Bool
  | .rw | .wo | .w1c | .w1s | .rosW1c => true
  | .rwl => !locked
  | .ro | .ros => false

/-- One field of a register under a write of `w`: `WO` fields keep nothing and `W1S` fields start an action that its
own command performs, so neither is stored (R28). -/
def fieldWrite (f : FieldDesc) (locked : Bool) (old w : Word) : Word :=
  let x := bitsOf w f.lo (fieldWidth f)
  match f.acc with
  | .rw => setBits old f.lo (fieldWidth f) (fixApply (fieldWidth f) x f.fix)
  | .rwl => if locked then old else setBits old f.lo (fieldWidth f) (fixApply (fieldWidth f) x f.fix)
  | .w1c | .rosW1c => old &&& ~~~(w &&& fieldMask f.lo (fieldWidth f))
  | .wo | .w1s | .ro | .ros => old

/-- A register under a write of `w`: the new value, or the cause for which the write is discarded when it can change
no field (R28). -/
def regDescWrite (r : RegDesc) (locked : Bool) (old w : Word) : AccessCause ⊕ Word :=
  if r.fields.any (fun f => accChangeable locked f.acc) then
    .inr (r.fields.foldl (fun v f => fieldWrite f locked v w) old)
  else if r.fields.any (fun f => f.acc == .rwl) then .inl .locked
  else .inl .readOnly

end Sys2Proof.Machine
end

