-- ==== Sys2Proof/Machine/Parity.lean ====
section
/-!
DEFINITION. Sys2Proof/Machine/Parity.lean: the bytes of a unit: stored forms as they lie in it (R226, R227), its page tag (R265), the parity
units P and Q over GF(2^8) (R284, R285), the rebuild of erased members (R286), the walk of a rebuilt unit (R294), and the syndromes of a
row (R304). The content of a unit is written without the zeros that end it: its 65,536 bytes are those given and then zeros.
-/

namespace Sys2Proof.Machine

/-! ## GF(2^8) with 0x11D and the generator 2 (R284) -/

/-- A field element times g. -/
def gdouble (a : Byte) : Byte := if a.getLsbD 7 then (a <<< 1) ^^^ 0x1D else a <<< 1

/-- The first `n` bits of a multiplier taken up, from the least significant. -/
def gmulBits : Nat → Byte → Byte → Byte
  | 0, _, _ => 0
  | n + 1, a, b => (if b.getLsbD 0 then a else 0) ^^^ gmulBits n (gdouble a) (b >>> 1)

/-- The product of two field elements. -/
def gmul (a b : Byte) : Byte := gmulBits 8 a b

/-- A power of g. -/
def gpow : Nat → Byte
  | 0 => 1
  | n + 1 => gdouble (gpow n)

/-- A power of a field element. -/
def gexp (a : Byte) : Nat → Byte
  | 0 => 1
  | n + 1 => gmul a (gexp a n)

/-- The inverse of a nonzero element, whose order divides 255. -/
def ginv (a : Byte) : Byte := gexp a 254

/-- A quotient. -/
def gdiv (a b : Byte) : Byte := gmul a (ginv b)

/-! ## Unit contents -/

/-- The bytewise sum of two unit contents. -/
def xorBytes : Bytes → Bytes → Bytes
  | [], b => b
  | a, [] => a
  | x :: a, y :: b => (x ^^^ y) :: xorBytes a b

/-- A unit content times a field element. -/
def scaleBytes (k : Byte) (b : Bytes) : Bytes := b.map (gmul k)

/-- The P unit of a row's data units (R284). -/
def parityP (data : List Bytes) : Bytes := data.foldl xorBytes []

/-- The Q unit of a row's data units (R284). -/
def parityQ (data : List Bytes) : Bytes :=
  ((List.range data.length).zip data).foldl (fun q x => xorBytes q (scaleBytes (gpow x.1) x.2)) []

/-- The members of a row of `d` data units with P and Q behind them. -/
def rowUnits (data : List Bytes) : List Bytes := data ++ [parityP data, parityQ data]

/-! ## Rebuild (R286) -/

/-- The card of R286 for a set of erased members of a row of `d` data units: 0 none, 1 `XOR_REBUILD`, 2 `RS_REBUILD`, 3 `PARITY_GEN`; 4 where
more are erased than a row rebuilds. -/
def rebuildCard (d : Nat) (erased : List Nat) : Nat :=
  match erased.filter (fun m => decide (m < d)), erased.length with
  | _, 0 => 0
  | [], n => if n ≤ 2 then 3 else 4
  | [_], n => if n = 1 then 1 else if n = 2 then (if erased.contains d then 2 else 1) else 4
  | [_, _], n => if n = 2 then 2 else 4
  | _, _ => 4

/-- P less the surviving data units: P′ of R286. -/
def pRest (d : Nat) (read : Nat → Bytes) (erased : List Nat) : Bytes :=
  ((List.range d).filter (fun i => !erased.contains i)).foldl (fun p i => xorBytes p (read i)) (read d)

/-- Q less the surviving data units' shares: Q′ of R286. -/
def qRest (d : Nat) (read : Nat → Bytes) (erased : List Nat) : Bytes :=
  ((List.range d).filter (fun i => !erased.contains i)).foldl (fun q i => xorBytes q (scaleBytes (gpow i) (read i))) (read (d + 1))

/-- The erased data units of a row, rebuilt from the others (R286); none where more than two members are erased. -/
def rebuildData (d : Nat) (read : Nat → Bytes) (erased : List Nat) : List (Nat × Bytes) :=
  let p := pRest d read erased
  let q := qRest d read erased
  if 2 < erased.length then []
  else
    match (List.range d).filter (fun i => erased.contains i) with
    | [a] => [(a, if erased.contains d then scaleBytes (ginv (gpow a)) q else p)]
    | [a, b] =>
      let x := scaleBytes (ginv (gpow a ^^^ gpow b)) (xorBytes (scaleBytes (gpow b) p) q)
      [(a, x), (b, xorBytes p x)]
    | _ => []

/-- Every erased member of a row rebuilt: the data units first, then P and Q from them (R286). -/
def rebuildRow (d : Nat) (read : Nat → Bytes) (erased : List Nat) : List (Nat × Bytes) :=
  if 2 < erased.length then []
  else
    let got := rebuildData d read erased
    let data := (List.range d).map (fun i => ((got.find? (fun x => x.1 == i)).map (fun x => x.2)).getD (read i))
    erased.map (fun m => (m, (rowUnits data).getD m []))

/-! ## Stored forms in a unit (R226, R227, R187) -/

/-- Bytes as the numbers they are. -/
def byteNats (b : Bytes) : List Nat := b.map BitVec.toNat

/-- Numbers below 256 as bytes. -/
def natBytes (l : List Nat) : Bytes := l.map (BitVec.ofNat 8)

/-- The 32-byte grain header of a stored form (R226). -/
def formHeader (f : Form) : Bytes :=
  natBytes (leBytes f.guard.toNat 8 ++ leBytes f.chunk 5 ++ [f.kind] ++ leBytes f.len 2
    ++ leBytes (f.tenant % 4096 + (if f.verified then 4096 else 0) + (if f.dictPiece then 8192 else 0)) 2
    ++ leBytes (if f.kind = 2 then f.dictId else 0) 4 ++ [0, 0] ++ leBytes (crc32c (byteNats f.sealed)) 4 ++ [0, 0, 0, 0])

/-- Content filled up with zeros to a length. -/
def zeroFill (b : Bytes) (n : Nat) : Bytes := b ++ List.replicate (n - b.length) 0

/-- A stored form as it lies in a record or a unit: header, encrypted payload, zeros to the next 32 bytes (R227). -/
def formContent (f : Form) : Bytes :=
  zeroFill (formHeader f ++ f.sealed) (32 * ((32 + f.len + 31) / 32))

/-- A data unit of forms at their offsets, in 32-byte units and ascending (R187). -/
def dataUnit (forms : List (Nat × Form)) : Bytes :=
  forms.foldl (fun b x => zeroFill b (32 * x.1) ++ formContent x.2) []

/-! ## Page tags (R265) -/

/-- What a page tag says: type, member, width, segment, row, segment sequence, units per block, and its directory. -/
structure PageTag where
  type : Nat
  member : Nat
  width : Nat
  segment : Nat
  row : Nat
  segSeq : Nat
  rows : Nat
  dir : List Placed
  deriving DecidableEq, Repr

/-- A page tag's bytes with a given `CRC`. -/
def tagWith (t : PageTag) (crc : Nat) : List Nat :=
  [0x50, 0x54, 0x41, 0x47, t.type, t.member, t.width, 0] ++ leBytes t.segment 3 ++ [0] ++ leBytes t.row 2 ++ leBytes t.dir.length 2
    ++ leBytes t.segSeq 8 ++ leBytes (t.rows - 1) 8 ++ List.replicate 28 0 ++ leBytes crc 4
    ++ t.dir.flatMap (fun p => leBytes (p.chunk % 2 ^ 40 + p.off * 2 ^ 40 + p.len32 * 2 ^ 51) 8)
    ++ List.replicate (8128 - 8 * t.dir.length) 0

/-- The 8,192 bytes of a page tag: its `CRC` covers all of them, taken with the field as zero. -/
def tagBytes (t : PageTag) : Bytes := natBytes (tagWith t (crc32c (tagWith t 0)))

/-! ## The walk of a rebuilt unit (R294) -/

/-- What the walk finds in a unit: a grain header's place in 32-byte units, its chunk, its size in 32-byte units, and whether its payload's
CRC-32C is the header's. -/
structure SlotForm where
  off : Nat
  chunk : Nat
  len32 : Nat
  good : Bool
  deriving DecidableEq, Repr

/-- The number that bytes spell, least significant first. -/
def leNumber (b : Bytes) : Nat := b.foldr (fun x n => x.toNat + 256 * n) 0

/-- Slots walked from an offset: zero slots are passed over, any other is a grain header, and the walk goes on behind its payload. -/
def walkFrom : Nat → Nat → Bytes → List SlotForm
  | 0, _, _ => []
  | fuel + 1, off, b =>
    let slot := zeroFill (b.take 32) 32
    if b.isEmpty then []
    else if slot.all (fun x => x == 0) then walkFrom fuel (off + 1) (b.drop 32)
    else
      let len := leNumber ((slot.drop 14).take 2)
      let n := (32 + len + 31) / 32
      let payload := (zeroFill b (32 + len)).drop 32 |>.take len
      ⟨off, leNumber ((slot.drop 8).take 5), n, crc32c (byteNats payload) == leNumber ((slot.drop 24).take 4)⟩
        :: walkFrom fuel (off + n) (b.drop (32 * n))

/-- The directory of a unit recovered by walking its 2,048 slots. -/
def walkUnit (b : Bytes) : List SlotForm := walkFrom 2048 0 b

/-! ## Syndromes of a row (R304) -/

/-- Whether every byte of a content is zero. -/
def allZero (b : Bytes) : Bool := b.all (fun x => x == 0)

/-- What the syndromes of a row decide (R304): `bad` says which data members hold a form that fails its `CRC` where the syndromes are not
zero. -/
def syndromeOf (d : Nat) (read : Nat → Bytes) (bad : Nat → Bool) : Syndrome :=
  let data := (List.range d).map read
  let sp := xorBytes (read d) (parityP data)
  let sq := xorBytes (read (d + 1)) (parityQ data)
  match allZero sp, allZero sq with
  | true, true => .consistent
  | false, true => .pWrong
  | true, false => .qWrong
  | false, false =>
    match (List.range d).filter (fun i => bad i && allZero (xorBytes sq (scaleBytes (gpow i) sp))) with
    | [i] => .dataWrong (Fin.ofNat 32 i)
    | _ => .notLocatable

end Sys2Proof.Machine
end

