-- ==== Sys2Proof/Machine/Records.lean ====
section
/-!
DEFINITION. Sys2Proof/Machine/Records.lean: the bytes of journal records (R177, R178, R243, R244), of index entries (R205), of map pages and map units (R229, R230,
R232), and of a map-journal row (R242).
-/

namespace Sys2Proof.Machine

/-- A number in `n` bytes, least significant first. -/
def leField (v n : Nat) : Bytes := natBytes (leBytes v n)

/-- A layout of a given size from its fields in ascending order: byte offset, width and value; every other byte is zero. -/
def layout (size : Nat) (fields : List (Nat × Nat × Nat)) : Bytes :=
  zeroFill (fields.foldl (fun b f => zeroFill b f.1 ++ leField f.2.2 f.2.1) []) size

/-- The 32 bytes of an index entry (R205). -/
def idxBytes (e : IdxEntry) : Bytes :=
  layout 32 [(0, 20, e.fp), (20, 5, e.chunk), (25, 1, 1 + 2 * e.pending.toNat + 4 * (e.pendHead % 2)), (26, 2, e.tenant % 4096 + 4096 * e.hint), (28, 4, e.age)]

/-! ## Map pages (R229 to R232) -/

/-- The 512 bytes of a map page: a leaf's 64 entries by slot, or an interior page's header and slots. -/
def pageImage (level birth : Nat) (ents : List (Nat × Nat)) (slots : List (Nat × Nat × Nat)) : Bytes :=
  if level = 0 then
    (List.range 64).flatMap (fun i => leField (match ents.find? (fun e => e.1 == i) with | some e => 2 ^ 40 + e.2 % 2 ^ 40 | none => 0) 8)
  else
    zeroFill (layout 16 [(0, 1, level), (1, 1, slots.length), (4, 4, birth)]
      ++ slots.flatMap (fun x => layout 16 [(0, 4, x.1), (4, 4, x.2.1), (8, 6, x.2.2)])) 512

/-- A page's image. -/
def pageBytes (p : Page) : Bytes := pageImage p.level p.birth p.ents p.slots

/-- A descriptor of a map unit (R232). -/
def pageDesc (id applied : Nat) (p : Page) : Bytes :=
  layout 32 [(0, 6, id), (6, 2, p.volume), (8, 1, p.level), (12, 4, p.birth), (16, 4, p.key), (20, 8, applied),
    (28, 4, crc32c (byteNats (pageBytes p)))]

/-- A map unit: its descriptor block, which ends in its CRC-32C, and its pages (R232). -/
def mapUnit (pages : List (Nat × Nat × Page)) : Bytes :=
  let descs := zeroFill (pages.flatMap (fun x => pageDesc x.1 x.2.1 x.2.2)) 4092
  descs ++ leField (crc32c (byteNats descs)) 4 ++ pages.flatMap (fun x => pageBytes x.2.2)

/-! ## CONTROL entries (R243) -/

/-- Pairs of a list of numbers taken `n` times, and what is left. -/
def takePairs : Nat → List Nat → List (Nat × Nat) × List Nat
  | n + 1, a :: b :: t => let r := takePairs n t; ((a, b) :: r.1, r.2)
  | _, l => ([], l)

/-- The rest of a list of numbers in threes. -/
def triples : List Nat → List (Nat × Nat × Nat)
  | a :: b :: c :: t => (a, b, c) :: triples t
  | _ => []

/-- A flash address (R231): segment, row, member and position. -/
def flashAddress (seg row member pos : Nat) : Nat := seg * 2 ^ 24 + row * 2 ^ 12 + member * 2 ^ 7 + pos

/-- Bytes of one entry of a CONTROL subtype (R243, R378); eight bytes a number, in units of 16, where no chapter gives a layout. -/
def ctlBytes (c : Ctl) : Nat :=
  match c.sub with
  | 0x01 => 544
  | 0x02 => 32
  | 0x03 => 16
  | 0x04 => 16
  | 0x05 => 16
  | 0x06 => 64
  | 0x07 => 16
  | 0x08 => 64
  | 0x20 | 0x21 | 0x22 | 0x23 => 16
  | _ => 16 * max 1 ((c.body.length + 1) / 2)

/-- One entry of a CONTROL record (R243). -/
def ctlEntryBytes (c : Ctl) : Bytes :=
  match c.sub, c.body with
  | 0x01, page :: vol :: level :: op :: birth :: key :: src :: n :: rest =>
    let x := takePairs n rest
    let img := pageImage level birth x.1 (triples x.2)
    layout 32 [(0, 6, page), (6, 2, vol), (8, 1, level), (9, 1, op), (12, 4, birth), (16, 4, key), (20, if op = 1 then 6 else 8, src),
      (28, 4, crc32c (byteNats img))] ++ img
  | 0x02, [page, vol, seg, row, member, pos, seq] =>
    layout 32 [(0, 6, page), (6, 2, vol), (8, 6, flashAddress seg row member pos), (16, 8, seq)]
  | 0x03, chunk :: st :: _ => layout 16 [(0, 5, chunk), (5, 1, st)]
  | 0x04, [alias_, target, op] => layout 16 [(0, 5, alias_), (5, 5, target), (10, 1, op)]
  | 0x05, [pool, keeper, op] => layout 16 [(0, 3, pool), (3, 1, keeper), (4, 1, op)]
  | 0x06, [op, snap, vol, clone, gen, root, origin, beat] =>
    layout 64 [(0, 1, op), (4, 4, snap), (8, 2, vol), (10, 2, clone), (12, 4, gen), (16, 6, root), (24, 4, origin), (32, 8, beat)]
  | 0x07, [vol, pin] => layout 16 [(0, 2, vol), (2, 1, pin)]
  | 0x08, [num, cut, seq, slot] => layout 64 [(0, 8, num), (8, 8, cut), (16, 8, seq), (24, 1, slot)]
  | 0x20, [g, owner, op, gen, beat] => layout 16 [(0, 1, g), (1, 1, owner), (2, 1, op), (4, 4, gen), (8, 8, beat)]
  | 0x21, [epoch, st, holder, m, won] => layout 16 [(0, 6, epoch), (6, 1, st), (7, 1, holder), (8, 2, m), (10, 2, won)]
  | 0x22, [op, cause, beat] => layout 16 [(0, 1, op), (1, 1, cause), (8, 8, beat)]
  | 0x23, [k, op, m] => layout 16 [(0, 1, k), (1, 1, op), (2, 2, m)]
  | _, l => zeroFill (l.flatMap (fun v => leField v 8)) (ctlBytes c)

/-- The body of a CONTROL record (R243). -/
def ctlBody (l : List Ctl) : Bytes :=
  layout 32 [(0, 2, (l.head?.map (fun c => c.sub)).getD 0), (2, 2, l.length), (4, 4, (l.head?.map ctlBytes).getD 16)] ++ l.flatMap ctlEntryBytes

/-! ## Records (R177, R178, R244) -/

/-- A map delta (R178). -/
def deltaBytes (d : Delta) : Bytes :=
  match d with
  | .store c g i o => layout 16 [(0, 5, c), (5, 2, g), (7, 2, i), (9, 5, o.getD 0), (14, 1, o.isSome.toNat), (15, 1, 1)]
  | .dedup c g o => layout 16 [(0, 5, c), (5, 2, g), (9, 5, o.getD 0), (14, 1, o.isSome.toNat), (15, 1, 2)]
  | .pending c g o => layout 16 [(0, 5, c), (5, 2, g), (9, 5, o.getD 0), (14, 1, o.isSome.toNat), (15, 1, 3)]
  | .deallocRange f n => layout 16 [(0, 6, f), (6, 6, n), (15, 1, 4)]
  | .copyRange a b n => layout 16 [(0, 6, a), (6, 6, b), (12, 3, n), (15, 1, 5)]

/-- The deltas of a record, padded with zeros to a 32-byte boundary (R177). -/
def deltaBlock (l : List Delta) : Bytes := zeroFill (l.flatMap deltaBytes) (32 * ((l.length + 1) / 2))

/-- A ROW_DURABLE body (R244). -/
def rowBody (d : RowDur) : Bytes :=
  layout 32 [(0, 3, d.segment), (4, 2, d.row), (6, 1, d.width), (8, 2, d.entries.length), (16, 8, d.segSeq)]
    ++ d.entries.flatMap (fun p => layout 16 [(0, 5, p.chunk), (5, 1, p.member), (6, 2, p.off), (8, 1, p.len32), (9, 1, p.moved.toNat)])

/-- What follows a record's header. -/
def recordBody (r : JRec) : Bytes :=
  match r.type with
  | 4 => ctlBody r.ctl
  | 5 => (match r.row with | some d => rowBody d | none => [])
  | 6 => []
  | _ => deltaBlock r.deltas ++ r.forms.flatMap formContent

/-- A record's 64-byte header with a given `CRC` (R177). -/
def headerWith (r : JRec) (crc : Nat) : Bytes :=
  layout 64 [(0, 4, 0x43455253), (4, 2, r.type),
    (6, 2, r.fua.toNat + 2 * r.solo.toNat + 4 * r.fwd.toNat + 8 * r.pi.toNat + 16 * r.rmw.toNat),
    (8, 8, r.seq), (16, 4, r.bytes), (20, 2, r.deltas.length), (22, 2, r.forms.length), (24, 2, r.volume), (26, 1, r.group), (27, 1, r.cls),
    (28, 2, r.tenant), (32, 8, r.first), (40, 8, r.time), (48, 8, r.snapGen), (56, 4, crc)]

/-- A record's body, padded to `BYTES`. -/
def bodyBytes (r : JRec) : Bytes := zeroFill (recordBody r) (r.bytes - 64)

/-- `CRC`: CRC-32C over `BYTES` bytes, taken with the field as zero (R177). -/
def recordCrc (r : JRec) : Nat := crc32c (byteNats (headerWith r 0 ++ bodyBytes r))

/-- A record's header as it is written. -/
def recordHeader (r : JRec) : Bytes := headerWith r (recordCrc r)

/-- A record as it lies in its region. -/
def recordBytes (r : JRec) : Bytes := recordHeader r ++ bodyBytes r

/-- What the map journal holds of a record (R242): CONTROL and ROW_DURABLE records whole; of the others the header and the deltas, the
header as it was but for `BYTES` and `CRC`, which are computed anew. -/
def journalEntry (r : JRec) : Bytes :=
  if r.type = 4 || r.type = 5 then recordBytes r
  else
    let q := { r with bytes := 64 + 32 * ((r.deltas.length + 1) / 2) }
    headerWith q (crc32c (byteNats (headerWith q 0 ++ deltaBlock q.deltas))) ++ deltaBlock q.deltas

/-- A data unit of a map-journal row: its records follow one another over the row's data units, an order of packing that the spec leaves
open (log entry 97). -/
def journalUnit (l : List JRec) (member : Nat) : Bytes := ((l.flatMap journalEntry).drop (65536 * member)).take 65536

end Sys2Proof.Machine
end

