-- ==== Sys2Proof/Machine/Events.lean ====
section
/-!
DEFINITION. Sys2Proof/Machine/Events.lean: what every family calls when something is to be seen outside: output, MSI-X
and wake requests (R496, R497), the control-channel event ring (R508), and the recording of an event (R451 to R457).
-/

namespace Sys2Proof.Machine

namespace State

/-- Something leaves the head. -/
def emit (s : State) (e : Emit) : State := { s with out := e :: s.out }

/-! ## The control plane's presence -/

/-- Whether `CTLCH` and `PICK` may move data to and from head-processor memory (R53, R496). -/
def dmaAllowed (s : State) : Bool :=
  s.chip.cond != .reset && s.chip.perstN && s.fld Reg.UPEP_LINK_DSTATE == 0 && s.up.busMaster

/-- Whether the control plane is present (R496). -/
def present (s : State) : Bool := s.dmaAllowed && !s.bit Reg.CTLCH_STATUS_ALIVE_LATE

/-- An MSI-X vector is sent, or held as a pending bit outside D0 (R496). -/
def msix (s : State) (v : Nat) : State :=
  if s.dmaAllowed then s.emit (.msix v)
  else if s.up.msixPending.contains v then s
  else { s with up.msixPending := s.up.msixPending ++ [v] }

/-- Held vectors are sent once each when D0 and bus mastering return (R496). -/
def msixRelease (s : State) : State :=
  if s.dmaAllowed then
    { s with out := s.up.msixPending.reverse.map Emit.msix ++ s.out, up.msixPending := [] }
  else s

/-- Entries of the control-channel event ring (R498). -/
def evRingSize (s : State) : Nat := 2 ^ clampNat 4 12 (s.fld Reg.CTLCH_EV_RING_SIZE_LOG2_ENTRIES)

/-- Entries of command and completion ring `r` (R498). -/
def ringSize (s : State) (r : Nat) : Nat := 2 ^ clampNat 4 12 (s.fld (Reg.CTLCH_RING_SIZE_LOG2_ENTRIES r))

/-- Severity at which an event that waits for the ring is a wake condition (R497). -/
def wakeSev (s : State) : Nat := s.act Reg.CTLCH_CFG_WAKE_MIN_SEV

/-- Whether a wake condition holds (R497). -/
def wakeCondition (s : State) : Bool :=
  s.up.evq.any (fun e => match e with
    | .record _ r => s.wakeSev ≤ r.sev
    | .extent _ _ => true
    | .lost _ _ => false)
  || s.fld Reg.PICK_STATUS_HELD == 2
  || !s.up.busyTenants.isEmpty
  || s.up.kept != 0 || s.up.cmds.any (fun c => c.2.done.isSome)

/-- While the control plane is absent and a wake condition holds it is requested back: PM_PME in D3hot with the link
up, otherwise `WAKE_N` low, at most once per release and not within 1 s of one (R497). -/
def wake (s : State) : State :=
  let s := s.setBit Reg.CTLCH_STATUS_WAKE s.wakeCondition
  if s.present || !s.wakeCondition || s.chip.cond == .reset || !s.chip.wakeN then s
  else if s.fld Reg.UPEP_LINK_DSTATE = 3 && s.fld Reg.UPEP_LINK_RATE != 0 && s.chip.perstN then
    if s.up.pmeStatus then s
    else ({ s with up.pmeStatus := true }.emit .pmPme).bump (Reg.CTLCH_CNT 7) 1
  else if s.up.wakeHold then s
  else { s with up.pmeStatus := true, chip.wakeN := false }.bump (Reg.CTLCH_CNT 7) 1

/-- `CTLCH.STATUS` brought up to date, and a wake request made when it is due. -/
def upRefresh (s : State) : State :=
  ((s.setBit Reg.CTLCH_STATUS_PRESENT s.present).setFld Reg.CTLCH_STATUS_IN_PROGRESS
    (s.up.cmds.filter (fun c => c.2.done.isNone)).length).wake

/-! ## The control-channel event ring -/

/-- Entries the event ring holds that the control plane has not consumed. -/
def evUsed (s : State) : Nat := (s.up.evProd + s.evRingSize - s.up.evCons) % s.evRingSize

/-- The bytes of a record (R451). -/
def recordBytes (r : EvRec) : List Nat :=
  leBytes r.time 8 ++ leBytes r.code 2 ++ [r.sev + r.summary.toNat * 8 + r.head % 2 * 16, 0] ++ leBytes r.srcType 2
    ++ leBytes r.srcInst 2 ++ leBytes r.arg0.toNat 8 ++ leBytes r.arg1.toNat 8

/-- The body of a LOST_EXTENT entry (R303). -/
def extentBytes (e : Extent) : Bytes :=
  layout 32 [(0, 2, e.tenant % 4096), (2, 2, e.volume), (4, 4, e.snap), (8, 8, e.first), (16, 4, e.grains), (20, 1, e.cause), (24, 8, e.time)]

/-- An entry of the event ring with its type, time, count and body: the phase stands in byte 63, and the body's last byte in `COUNT` (R508). -/
def entryImage (type seq time count : Nat) (body : Bytes) (phase : Bool) : Bytes :=
  layout 32 [(0, 2, type), (4, 4, seq), (8, 8, time), (16, 4, count % 2 ^ 24 + 2 ^ 24 * (body.getD 31 0).toNat)]
    ++ zeroFill (body.take 31) 31 ++ [BitVec.ofNat 8 (128 * phase.toNat)]

/-- The 64 bytes of an event entry (R508). -/
def eventImage (seq : Nat) (phase : Bool) (e : EvEntry) : Bytes :=
  match e with
  | .record t r => entryImage 1 seq t 0 (natBytes (recordBytes r)) phase
  | .extent t x => entryImage 2 seq t 0 (extentBytes x) phase
  | .lost t n => layout 63 [(0, 2, 3), (4, 4, seq), (8, 8, t), (16, 4, n)] ++ [BitVec.ofNat 8 (128 * phase.toNat)]

/-- One entry is written to the event ring and vector 16 raised (R500, R508). -/
def evPost (s : State) (e : EvEntry) : State :=
  let next := (s.up.evProd + 1) % s.evRingSize
  let s1 := s.emit (.evEntry s.up.evProd s.up.evSeq s.up.evPhase e (eventImage s.up.evSeq s.up.evPhase e))
  { s1 with up.evProd := next, up.evSeq := s.up.evSeq + 1,
            up.evPhase := if next = 0 then !s.up.evPhase else s.up.evPhase }.msix 16

/-- Waiting entries go to the ring while it is enabled, reachable and not full. -/
def evDrainN : Nat → State → State
  | 0, s => s
  | n + 1, s =>
    match s.up.evq with
    | [] => s
    | e :: rest =>
      if s.bit Reg.CTLCH_EV_RING_SIZE_EN && s.dmaAllowed && s.evUsed + 1 < s.evRingSize then
        evDrainN n ({ s with up.evq := rest }.evPost e)
      else s

/-- Every waiting entry that can go to the ring goes. -/
def evDrain (s : State) : State := (evDrainN s.up.evq.length s).upRefresh

/-- Whether a `RECORD` entry is dropped: the ring is full, or, while it is not set up, 4,096 entries wait (R508). -/
def evFull (s : State) : Bool :=
  if s.bit Reg.CTLCH_EV_RING_SIZE_EN then s.evRingSize ≤ s.evUsed + s.up.evq.length + 1
  else 4096 ≤ s.up.evq.length

/-- A record is queued for the event ring, after an `EVENTS_LOST` entry when records were lost, or dropped and
counted (R508). -/
def evQueueRecord (s : State) (r : EvRec) : State :=
  if s.evFull then { s with up.evLost := s.up.evLost + 1 }.bump (Reg.CTLCH_CNT 5) 1
  else
    { s with
      up.evq := s.up.evq ++ (if s.up.evLost = 0 then [] else [EvEntry.lost s.now s.up.evLost]) ++ [EvEntry.record s.now r]
      up.evLost := 0 }.evDrain

/-- Whether the queue of `LOST_EXTENT` entries has room (R508). -/
def extentRoom (s : State) : Bool :=
  (s.up.evq.filter (fun (e : EvEntry) => match e with | .extent _ _ => true | _ => false)).length < 4096

/-- A `LOST_EXTENT` entry is queued; none is ever dropped (R508). -/
def evQueueExtent (s : State) (e : Extent) : State := { s with up.evq := s.up.evq ++ [EvEntry.extent s.now e] }.evDrain

end State

/-! ## Control commands that finish -/

namespace State

/-- A fetched control command finishes with a status and results (R503, R505): results of a command with a token are
kept, and a command whose ring has been reset since keeps its result and is not posted (R499). -/
def ctlFinish (s : State) (tag : Nat) (st : CtlStatus) (r0 r1 : Word) : State :=
  match tGet? s.up.cmds tag with
  | none => s
  | some c =>
    if c.done.isSome then s
    else
      let s1 :=
        if c.token = 0 || st = .replayed || st = .inProgress then s
        else { s with up.results := ((c.token, r0, r1) :: s.up.results).take 1024 }
      let s2 :=
        if c.orphan then
          { s1 with up.cmds := tDel s1.up.cmds tag, up.kept := s1.up.kept + 1 }.bump (Reg.CTLCH_CNT 2) 1
        else { s1 with up.cmds := tPut s1.up.cmds tag { c with done := some (st, r0, r1) } }
      s2.upRefresh

/-- As `ctlFinish`, for an operation that may answer no control command. -/
def ctlAnswer (s : State) (tag : Option Nat) (st : CtlStatus) (r0 r1 : Word) : State :=
  match tag with
  | some t => s.ctlFinish t st r0 r1
  | none => s

end State

/-! ## Event codes -/

/-- The codes the chapters define, with their severities (R452). -/
def eventTable : List (Nat × Nat) := [
  (0x0201, 3), (0x0301, 4), (0x0302, 6), (0x0303, 4), (0x0401, 6), (0x0501, 4), (0x0502, 3), (0x0503, 3),
  (0x0601, 5), (0x0602, 4), (0x0603, 4), (0x0604, 5), (0x0605, 4), (0x0701, 5), (0x0702, 5), (0x0801, 4),
  (0x0802, 5), (0x0803, 5), (0x0804, 4), (0x0902, 5), (0x0903, 6), (0x0904, 4), (0x0905, 5), (0x0906, 3),
  (0x0907, 4), (0x0908, 2), (0x0909, 6), (0x0A01, 4), (0x0A02, 5), (0x0A03, 3), (0x0B02, 4), (0x0B03, 5),
  (0x0B04, 5), (0x0B06, 6), (0x0B07, 6), (0x0B08, 4), (0x0C01, 5), (0x0C02, 2), (0x0C03, 4), (0x0C04, 4),
  (0x0C05, 3), (0x0D01, 7), (0x0D02, 4), (0x0D03, 2), (0x0D04, 4), (0x0D05, 5), (0x0D06, 5), (0x0D07, 5),
  (0x0D08, 5), (0x0D09, 4)]

/-- The severity of a code: the one its defining rule states, else the given one. -/
def evSeverity (code given : Nat) : Nat := tGet eventTable code given

/-! ## Token buckets -/

/-- A code's bucket at `CHIP_RESET_N` (R454). -/
def defaultBucket (sev : Nat) : Bucket :=
  { rate := if 6 ≤ sev then 0 else 10, depth := 32, level := 32 * 10 ^ 9, last := 0, supp := 0, first := 0 }

/-- A bucket refilled up to a time. -/
def refill (b : Bucket) (now : Nat) : Bucket :=
  { b with level := min (b.depth * 10 ^ 9) (b.level + b.rate * (now - b.last)), last := now }

namespace State

/-- A code's bucket. -/
def bucket (s : State) (code sev : Nat) : Bucket := tGet s.evrec.buckets code (defaultBucket sev)

/-- A code's bucket replaced. -/
def setBucket (s : State) (code : Nat) (b : Bucket) : State :=
  { s with evrec.buckets := tPut s.evrec.buckets code b }

/-! ## The buffer -/

/-- `EVREC.STATUS` brought up to date. -/
def evrecStatus (s : State) : State :=
  ((s.setFld Reg.EVREC_STATUS_BUF_USED s.evrec.buf.length).setFld Reg.EVREC_STATUS_ERASED s.evrec.erased).setFld
    Reg.EVREC_STATUS_HEAD s.evrec.head

/-- A flush of the records now buffered starts, or is noted for the end of the one in progress (R455). -/
def flushStart (s : State) : State :=
  match s.evrec.flushing with
  | some _ => { s with evrec.again := true }
  | none => { s with evrec.flushing := some s.evrec.buf.length }

/-- The list without the first element that satisfies a test. -/
def dropFirst {α : Type} (p : α → Bool) : List α → List α
  | [] => []
  | x :: t => if p x then t else x :: dropFirst p t

/-- The lowest severity among records. -/
def minSev (l : List EvRec) : Nat := l.foldl (fun m r => min m r.sev) 7

/-- A record arrives at the buffer: appended, or, with the buffer full, in place of the oldest record of the lowest
severity, or dropped and counted (R453). -/
def bufferRecord (s : State) (r : EvRec) : State :=
  let s1 :=
    if s.evrec.buf.length < 16384 then
      { s with evrec.buf := s.evrec.buf ++ [r] }.bump (Reg.EVREC_CNT 0) 1
    else if minSev s.evrec.buf ≤ r.sev then
      (({ s with evrec.buf := dropFirst (fun (x : EvRec) => x.sev == minSev s.evrec.buf) s.evrec.buf ++ [r] }).bump
        (Reg.EVREC_CNT 0) 1).bump (Reg.EVREC_CNT 1) 1
    else { s with evrec.dropped := s.evrec.dropped + 1 }.bump (Reg.EVREC_CNT 2) 1
  let s2 := if 5 ≤ r.sev && s1.evrec.dropped == s.evrec.dropped then s1.flushStart else s1
  s2.evrecStatus

/-- Copies of a record to the control-channel event ring, the out-of-band port and the UART (R457). -/
def exportRecord (s : State) (r : EvRec) : State :=
  let s1 := if s.act Reg.EVREC_CFG_EXPORT_MIN_SEV ≤ r.sev then s.evQueueRecord r else s
  let s2 :=
    if s.act Reg.EVREC_CFG_OOB_MIN_SEV ≤ r.sev && s.act Reg.MGMT_IF_CFG_OOB_EN == 1 then
      match tGet? s.sec.slots 32741 with
      | some k =>
        if k.material.isEmpty then s1.bump (Reg.EVREC_CNT 10) 1
        else s1.emit (.oobRecords [r] ((Config.hmac256 k.material ((recordBytes r).map (BitVec.ofNat 8)) >>> 128).setWidth 128))
      | none => s1.bump (Reg.EVREC_CNT 10) 1
    else s1
  if s.act Reg.EVREC_CFG_UART_MIN_SEV ≤ r.sev then s2.emit (.uartRecord r) else s2

/-- A record made and handed to the buffer and its destinations. -/
def takeRecord (s : State) (r : EvRec) : State := (s.bufferRecord r).exportRecord r

/-- This head's index, 0 or 1, from the Dikor identity exchange (R349). -/
def headIndex (s : State) : Nat := s.fld Reg.DIKOR_STATUS_HEAD_INDEX

/-- An event arrives at the recorder: it takes a token of its code's bucket, or is suppressed and counted (R454). -/
def recordFrom (s : State) (code sev srcType srcInst : Nat) (a0 a1 : Word) : State :=
  let b := refill (s.bucket code sev) s.now
  if b.rate = 0 then
    s.takeRecord ⟨s.now, code, sev, false, s.headIndex, srcType, srcInst, a0, a1⟩
  else if 10 ^ 9 ≤ b.level then
    (s.setBucket code { b with level := b.level - 10 ^ 9 }).takeRecord
      ⟨s.now, code, sev, false, s.headIndex, srcType, srcInst, a0, a1⟩
  else
    (s.setBucket code { b with supp := b.supp + 1, first := if b.supp = 0 then s.now else b.first }).bump
      (Reg.EVREC_CNT 3) 1

/-- An event of a block: its code, the page of its source, and its argument bytes 16 to 23 and 24 to 31. -/
def event (s : State) (code page : Nat) (a0 a1 : Word) : State :=
  match blockAt page with
  | some (b, num) => s.recordFrom code (evSeverity code 3) b.code num a0 a1
  | none => s

end State

/-- Two or more numbers packed into an argument word: (lowest byte, value) pairs. -/
def argWord (l : List (Nat × Nat)) : Word := BitVec.ofNat 64 (l.foldl (fun n p => n + p.2 * 2 ^ (8 * p.1)) 0)

end Sys2Proof.Machine
end

