-- ==== Sys2Proof/Machine/Link.lean ====
section
/-!
DEFINITION. Sys2Proof/Machine/Link.lean: handing a message to the Dikor link, and which heads are paired.
-/

namespace Sys2Proof.Machine

/-- The class of a message type (R334). -/
def msgClass (mtype : Nat) : Nat := if mtype < 0x100 then 0 else if mtype < 0x200 then 1 else if mtype < 0x300 then 2 else 3

/-- Bytes of a message (R333): its layout where the spec gives one, else eight bytes for each number after the header. -/
def msgBytes (mtype : Nat) (body : List Nat) : Nat :=
  match mtype with
  | 0x000C => 48
  | 0x000F => 64
  | 0x0010 => 24
  | 0x0011 | 0x0012 | 0x0014 => 32
  | 0x0013 => 18
  | 0x0015 => 32
  | 0x0016 => 24
  | 0x0017 => 64
  | 0x0018 => 20
  | 0x0200 => 104 + (body.length - (17 + 2 * body.getD 11 0))
  | 0x0201 => 24 + (body.length - 2)
  | 0x0202 => 33
  | 0x020A => 24 + 16 * (body.length / 4)
  | 0x020B => 40
  | 0x020C => 32 + (body.length - 3)
  | _ => 16 + 8 * body.length

/-- The bytes of a message whose body the spec lays out by offsets (R281, R333, R335, R355, R379), for a header with a given `TAG`; none for one
that it does not, or of which the model does not hold every field. -/
def msgImage (mtype tag : Nat) (body : List Nat) : Option Bytes :=
  let all := fun (n : Nat) (fields : List (Nat × Nat × Nat)) => some (layout n ([(0, 2, mtype), (4, 4, n), (8, 8, tag)] ++ fields))
  match mtype, body with
  | 0x000C, [live, mt, free, res] => all 48 [(16, 8, live), (24, 8, mt), (32, 8, free), (40, 8, res)]
  | 0x0010, [word] => all 24 [(16, 8, word)]
  | 0x0011, [g, gen, bh] => all 32 [(16, 1, g), (20, 4, gen), (24, 8, bh)]
  | 0x0012, [g, bh] => all 32 [(16, 1, g), (24, 8, bh)]
  | 0x0013, [g, cause] => all 18 [(16, 1, g), (17, 1, cause)]
  | 0x0014, [g, gen, bh] => all 32 [(16, 1, g), (20, 4, gen), (24, 8, bh)]
  | 0x0015, [s0, tail] => all 32 [(16, 8, s0), (24, 8, tail)]
  | 0x0016, [held] => all 24 [(16, 8, held)]
  | 0x0017, [first, n, digest] => (all 32 [(16, 8, first), (24, 4, n)]).map (fun b => b ++ (leField digest 32).reverse)
  | 0x0018, [crc] => all 20 [(16, 4, crc)]
  | 0x0201, _ :: off :: data => (all 24 [(16, 8, off)]).map (fun b => b ++ natBytes data)
  | 0x020A, first :: n :: last :: es =>
    (all (24 + 16 * n) [(16, 2, first), (18, 2, n), (20, 1, last % 2)]).map (fun b =>
      b.take 24 ++ (List.range n).flatMap (fun i =>
        layout 16 [(0, 2, es.getD (4 * i) 0), (2, 1, es.getD (4 * i + 1) 0 % 2), (4, 4, es.getD (4 * i + 2) 0), (8, 8, es.getD (4 * i + 3) 0)]))
  | 0x020B, [tenant, phase, op, erased, seq] => all 40 [(16, 2, tenant), (18, 1, phase), (19, 1, op), (24, 8, erased), (32, 8, seq)]
  | 0x020C, conn :: rel :: dir :: msg => (all 32 [(16, 2, conn), (18, 2, rel), (20, 1, dir)]).map (fun b => b ++ natBytes msg)
  | _, _ => none

/-- The 64-bit header of a flit (R331): kind, class, first and last of its message, payload bytes in use, `SEQ`, `ACK_SEQ`, `NAK`, and the
class whose credits it reports with their total. -/
def flitHeader (kind cls : Nat) (som eom : Bool) (len seq ack : Nat) (nak : Bool) (crClass crTotal : Nat) : Nat :=
  kind % 4 * 2 ^ 62 + cls % 4 * 2 ^ 60 + som.toNat * 2 ^ 59 + eom.toNat * 2 ^ 58 + len % 256 * 2 ^ 50 + seq % 4096 * 2 ^ 38
    + ack % 4096 * 2 ^ 26 + nak.toNat * 2 ^ 25 + crClass % 4 * 2 ^ 23 + crTotal % 4096 * 2 ^ 11

namespace State

/-- The header of a flit sent now: every flit carries `ACK_SEQ`, `NAK` and the credits of one class. -/
def headerNow (s : State) (kind cls : Nat) (som eom : Bool) (len seq : Nat) : Nat :=
  flitHeader kind cls som eom len seq s.dk.rxNext s.dk.nak s.dk.crNext (s.dk.rxFreed.getD s.dk.crNext 0)

/-- Whether the Dikor link carries messages: UP, or UP at a smaller width (R345). -/
def linkUp (s : State) : Bool := s.fld Reg.DIKOR_STATUS_LSTATE == 7 || s.fld Reg.DIKOR_STATUS_LSTATE == 8

/-- Whether the two heads serve together (R353): the role is PAIRED. -/
def paired (s : State) : Bool := s.fld Reg.OWN_STATUS_ROLE == 2

/-- DATA flits sent while the class's credits and the 512-flit replay buffer allow (R336, R339, R340): the highest class first, but
while another class has a flit ready C0 takes at most one slot in 32 (R338). While the link narrows none is sent (R343). -/
def dkPump : Nat → State → State
  | 0, s => s
  | n + 1, s =>
    let ready := fun (c : Nat) => decide (0 < s.dk.waiting.getD c 0) && decide (0 < s.dk.credits.getD c 0)
    let other := [1, 2, 3].find? ready
    let pick : Option Nat := if ready 0 && (other.isNone || decide (31 ≤ s.dk.c0gap)) then some 0 else other
    match pick with
    | none => s
    | some c =>
      if s.fld Reg.DIKOR_STATUS_LSTATE != 7 || 512 ≤ s.dk.unacked.length then s
      else
        let q := s.dk.msgs.getD c []
        let m := q.headD (240, 0)
        let len := min 240 (m.1 - m.2)
        let last := decide (m.1 ≤ m.2 + len)
        let s0 := s.emit (.dkFlit (s.headerNow 1 c (m.2 == 0) last len s.dk.txNext))
        let s1 := (s0.bump (Reg.DIKOR_CNT 0) 1).bump (Reg.DIKOR_CNT 13) (if ready 0 && c != 0 then 1 else 0)
        dkPump n { s1 with
          dk.msgs := s1.dk.msgs.set c (if last then q.tail else (m.1, m.2 + len) :: q.tail)
          dk.crNext := (s1.dk.crNext + 1) % 4
          dk.waiting := s1.dk.waiting.set c (s1.dk.waiting.getD c 0 - 1)
          dk.credits := s1.dk.credits.set c (s1.dk.credits.getD c 0 - 1)
          dk.unacked := s1.dk.unacked ++ [(s1.dk.txNext, c)]
          dk.txNext := (s1.dk.txNext + 1) % 4096
          dk.c0gap := if c = 0 then 0 else min 31 (s1.dk.c0gap + 1) }

/-- A message of so many bytes, its header among them, is handed to a class (R330, R333). -/
def dkHand (s : State) (c bytes : Nat) : State :=
  if s.linkUp then
    dkPump 512 { s with
      dk.waiting := s.dk.waiting.set c (s.dk.waiting.getD c 0 + ceilDiv bytes 240)
      dk.msgs := s.dk.msgs.set c (s.dk.msgs.getD c [] ++ [(bytes, 0)]) }
  else s

/-- A message handed to the link (R334): sent while the link is up. -/
def sendMsg (s : State) (mtype : Nat) (body : List Nat) : State :=
  if s.linkUp then (s.dkHand (msgClass mtype) (msgBytes mtype body)).emit (.msg mtype body) else s

/-- A record teed or sent again on class C1 (R171, R185). -/
def sendRecord (s : State) (r : JRec) : State := (s.dkHand 1 (16 + (if r.type = 6 then 64 else r.bytes))).emit (.mirror r (recordHeader r))

end State

end Sys2Proof.Machine
end

