-- ==== Sys2Proof/Machine/Frames.lean ====
section
/-!
DEFINITION. Sys2Proof/Machine/Frames.lean: the guard of a grain (R114, R226), the Zstandard frame that the compressor makes (R218), what the
decompressor accepts and what it makes of it (R220, R221), and the checks of the bytes of a stored form (R227).
-/

namespace Sys2Proof.Machine

/-! ## The guard (R114, R226) -/

/-- One byte into a CRC-64 with the polynomial 0xAD93_D235_94C9_3659, most significant bit first. -/
def guardByte (crc b : Nat) : Nat :=
  (List.range 8).foldl (fun c _ => if 2 ^ 63 ≤ c then ((c - 2 ^ 63) * 2).xor 0xAD93D23594C93659 else c * 2) (crc.xor (b * 2 ^ 56))

/-- The guard of a plain grain: CRC-64 with the polynomial of R114. The spec states no start value, reflection or final value; those are free
values (log entry 143). -/
def guardOf (b : Bytes) : Word :=
  let l := byteNats b
  BitVec.ofNat 64 ((if Config.guardReflected then l.foldl (crcByte 0x9A6C9329AC4BC9B5) Config.guardStart.toNat
    else l.foldl guardByte Config.guardStart.toNat).xor Config.guardFinal.toNat)

/-! ## Frames (R218, R220) -/

/-- A block's bytes: the 3-byte block header, then what the block's type puts behind it. -/
def blockBytes (last : Bool) (b : Config.ZBlock) : Bytes :=
  let head := fun (type size : Nat) => natBytes (leBytes (last.toNat + 2 * type + 8 * size) 3)
  match b with
  | .raw x => head 0 x.length ++ x
  | .rle v n => head 1 n ++ [v]
  | .compressed x => head 2 x.length ++ x

/-- A frame's blocks, the last of them marked. -/
def blocksBytes : List Config.ZBlock → Bytes
  | [] => []
  | [b] => blockBytes true b
  | b :: t => blockBytes false b ++ blocksBytes t

/-- The head of a frame: magic number, descriptor with `Single_Segment_Flag` 1 and a 2-byte content size and nothing else, and the content size
4,096, which its 2-byte field holds less 256 (R218). -/
def frameHead : Bytes := natBytes [0x28, 0xB5, 0x2F, 0xFD, 0x60, 0x00, 0x0F]

/-- What a decompressor makes of a payload (R220, R221). -/
inductive Unframed where
  | plain (b : Bytes)
  | expansion
  | short
  | format
  deriving DecidableEq, Repr

/-- The blocks of a frame with `before` in front of them, decoded behind what is out already, at most so many. The frame ends within the payload,
and only zero bytes follow it. -/
def unblock (dict : Bytes) (limit : Nat) : Nat → Bytes → Bytes → Bytes → Unframed
  | 0, _, _, _ => .format
  | n + 1, before, rest, out =>
    let h := leNumber (rest.take 3)
    let size := h / 8
    let body := rest.drop 3
    let used := if h / 2 % 4 = 1 then 1 else size
    if rest.length < 3 + used || 4096 < size then .format
    else
      let made : Option Bytes := match h / 2 % 4 with
        | 0 => some (body.take size)
        | 1 => some (List.replicate size (body.headD 0))
        | 2 => Config.zstdBlock dict before (body.take size)
        | _ => none
      match made with
      | none => .format
      | some x =>
        let out' := out ++ x
        if 4096 < x.length then .format
        else if limit < out'.length then .expansion
        else if h % 2 = 1 then
          if (body.drop used).any (fun b => b != 0) then .format
          else if out'.length < 4096 then .short
          else .plain out'
        else unblock dict limit n (before ++ rest.take (3 + used)) (body.drop used) out'

/-- A payload decompressed with a dictionary's content, `id` its dictionary id, up to an output limit (R220, R221). -/
def unframe (dict : Bytes) (id limit : Nat) (p : Bytes) : Unframed :=
  let d := (p.getD 4 0).toNat
  let idLen := (match d % 4 with | 0 => 0 | 1 => 1 | 2 => 2 | _ => 4)
  let fcsLen := 2 ^ (d / 64)
  let fcs := leNumber ((p.drop (5 + idLen)).take fcsLen) + (if d / 64 = 1 then 256 else 0)
  let head := 5 + idLen + fcsLen
  if p.length < head || leNumber (p.take 4) != 0xFD2FB528 || d / 32 % 2 = 0 || d / 8 % 2 = 1 || d / 4 % 2 = 1 || fcs != 4096
      || (idLen != 0 && leNumber ((p.drop 5).take idLen) != id) then .format
  else unblock dict limit p.length (p.take head) (p.drop head) []

/-- Whether bytes have the form of a dictionary: 4 KiB to 64 KiB with the magic of RFC 8878 and the entropy tables behind it, which are those
that an RFC 8878 decoder can read (R223). -/
def dictForm (content : Bytes) : Bool :=
  decide (4096 ≤ content.length) && decide (content.length ≤ 65536) && leNumber (content.take 4) == 0xEC30A437 && Config.entropyTables content

/-- The frame that the compressor makes of a plain grain (R218): the blocks it chooses, or one raw block. The blocks are a free value, of which R218
says that a standard decoder reproduces the grain from them. -/
def frameBytes (dict plain : Bytes) : Bytes :=
  let f := frameHead ++ blocksBytes (Config.zstdBlocks dict plain)
  if unframe dict 0 4096 f = .plain plain then f else frameHead ++ blockBytes true (.raw plain)

end Sys2Proof.Machine
end

