-- ==== Sys2Proof/Machine/Trace.lean ====
section
/-!
DEFINITION. Sys2Proof/Machine/Trace.lean: trace (R486 to R491): the payloads, the three sinks, lost records and the read
port of the on-chip buffer.
-/

namespace Sys2Proof.Machine

/-- The `TYPE` and payload of a trace item (R487). -/
def traceFields (now : Nat) : TraceItem → Nat × Word
  | .sync pc => (0x01, BitVec.ofNat 64 (now / 2 ^ 48 % 2 ^ 16 + pc.toNat * 2 ^ 16))
  | .gateOff pc st => (0x02, BitVec.ofNat 64 (pc.toNat + st.toNat * 2 ^ 48))
  | .gateOn st => (0x03, BitVec.ofNat 64 (st.toNat * 2 ^ 48))
  | .coreFlow t p => (0x10 + t.val, p)
  | .decision i t c a alt b =>
    (0x40, BitVec.ofNat 64 (i.toNat + t.toNat * 2 ^ 32 + c.toNat * 2 ^ 44 + a.toNat * 2 ^ 46 + alt.toNat * 2 ^ 47
      + b.toNat * 2 ^ 51))
  | .swap r g => (0x41, BitVec.ofNat 64 (r.toNat + g.toNat * 2 ^ 8))
  | .event c v => (0x48, BitVec.ofNat 64 (c.toNat + v.toNat * 2 ^ 16))
  | .link l m h q => (0x50, BitVec.ofNat 64 (l.toNat + m.toNat * 2 ^ 8 + h.toNat * 2 ^ 16 + q.toNat * 2 ^ 20))
  | .ownStep x g r => (0x58, BitVec.ofNat 64 (x.toNat + g.toNat * 2 ^ 8 + r.toNat * 2 ^ 16))
  | .claim q c => (0x60, BitVec.ofNat 64 (q.toNat + c.toNat * 2 ^ 16))
  | .complete q c => (0x61, BitVec.ofNat 64 (q.toNat + c.toNat * 2 ^ 16))
  | .beatUse b p => (0x68, BitVec.ofNat 64 (b.toNat + p.toNat * 2 ^ 32))
  | .keyop o q r => (0x70, BitVec.ofNat 64 (o.toNat + q.toNat * 2 ^ 4 + r.toNat * 2 ^ 19))

/-- Whether a source may emit an item: core flow comes from the cores alone, and sources 61 to 63 never emit (R486,
R487). -/
def traceAllowed (src : Nat) : TraceItem → Bool
  | .coreFlow _ _ => src ≤ 16
  | _ => src ≤ 60

/-- The three records that a source keeps slots for, which are never dropped (R488). -/
def traceReserved : TraceItem → Bool
  | .sync _ | .gateOff _ _ | .gateOn _ => true
  | _ => false

/-- Whether an item is GATE_ON. -/
def isGateOn : TraceItem → Bool | .gateOn _ => true | _ => false

/-- Whether an item is GATE_OFF. -/
def isGateOff : TraceItem → Bool | .gateOff _ _ => true | _ => false

/-- Records the on-chip buffer holds (R490). -/
def traceBufRecords : Nat := 524288

/-- Whether a lane's alignment control block follows a record: the lane has sent 16,383 further blocks, at two a record (R490). -/
def alignDue (n : Nat) : Bool := decide (2 * (n / 4) / 16383 < (2 * (n / 4) + 2) / 16383)

namespace State

/-- Whether a trace source is enabled. -/
def traceOn (s : State) (src : Nat) : Bool :=
  s.act Reg.TRACE_CFG_EN == 1 && (s.reg (Reg.TRACE_SRC_EN + 0x8000)).getLsbD src

/-- Bytes of the DRAM ring: `TRACE.DRAM_BYTES` held to its range of 64 MiB to 4 GiB: DESIGN CHOICE, the spec gives the range and no outcome of another
value (R490, log entry 150). -/
def traceRing (s : State) : Nat := clampNat 1 64 (s.act Reg.TRACE_DRAM_BYTES_BYTES) * 2 ^ 26

/-- A record reaches the selected sink (R490). -/
def traceSink (s : State) (r : TrRec) : State :=
  let n := (s.reg Reg.TRACE_WR_PTR).toNat
  match s.act Reg.TRACE_CFG_SINK with
  | 1 =>
    let slots := s.traceRing / 16
    ({ s with trc.ring := tPut s.trc.ring (n % slots) r }.emit (.traceDram (n % slots) r)).setReg Reg.TRACE_WR_PTR
      (BitVec.ofNat 64 (n + 1))
  | 2 =>
    let s1 := (s.emit (.tracePort (n % 4) r)).setReg Reg.TRACE_WR_PTR (BitVec.ofNat 64 (n + 1))
    if alignDue n then s1.emit (.traceAlign (n % 4) (n + 1)) else s1
  | _ =>
    if traceBufRecords ≤ s.trc.buf.length && s.act Reg.TRACE_CFG_STOP == 1 then s
    else
      { s with
        trc.buf := (if traceBufRecords ≤ s.trc.buf.length then s.trc.buf.drop 1 else s.trc.buf) ++ [r]
        trc.put := s.trc.put + 1 }.setReg Reg.TRACE_WR_PTR (BitVec.ofNat 64 (n + 1))

/-- The record of an item, after a LOST record when the source has dropped records since its last one (R489). -/
def traceEmit (s : State) (src : Nat) (i : TraceItem) : State :=
  let f := traceFields s.now i
  let r : TrRec := ⟨src, f.1, s.now % 2 ^ 48, f.2⟩
  match tGet? s.trc.lost src with
  | none => s.traceSink r
  | some n =>
    ({ s with trc.lost := tDel s.trc.lost src }.traceSink
      ⟨src, 0x04, s.now % 2 ^ 48, BitVec.ofNat 64 (min n (2 ^ 32 - 1))⟩).traceSink r

/-- GATE_ON, and the SYNC that comes before any other record of the source (R488); the program counter of a core is a free value. -/
def traceGateOn (s : State) (src : Nat) (i : TraceItem) : State :=
  let s1 := { s with trc.gated := s.trc.gated.filter (fun n => n != src) }.traceEmit src i
  if src ≤ 16 then
    let d := s1.draw
    d.2.traceEmit src (.sync ((Config.openWord d.1).setWidth 48))
  else s1.traceEmit src (.sync 0)

/-- A source's next record: dropped and counted when its queue is full (R489). Between GATE_OFF and GATE_ON a source emits nothing (R488). -/
def traceItem (s : State) (src : Nat) (i : TraceItem) (full : Bool) : State :=
  if !s.traceOn src || !traceAllowed src i then s
  else if isGateOn i then s.traceGateOn src i
  else if s.trc.gated.contains src then s
  else if isGateOff i then { s.traceEmit src i with trc.gated := s.trc.gated ++ [src] }
  else if full && !traceReserved i then
    { s with trc.lost := tPut s.trc.lost src (tGet s.trc.lost src 0 + 1) }.bump (Reg.TRACE_LOST src) 1
  else s.traceEmit src i

/-- A SYNC of each enabled source in a set (R487). -/
def traceSync (s : State) (srcs : List Nat) (pcs : List (BitVec 48)) : State :=
  srcs.foldl (fun t n => t.traceItem n (.sync (if n ≤ 16 then pcs.getD n 0 else 0)) false) s

/-- The time base stepped to a value (R46, R350): each enabled trace source then emits a SYNC. -/
def stepTo (s : State) (t : Nat) : State :=
  { s with now := t, freeCtr := s.freeCtr + 17 }.traceSync (List.range 61)
    ((List.range 17).map (fun i => (Config.openWord (s.freeCtr + i)).setWidth 48))

end State

/-- TRACE_RECORD (R487). -/
def execTraceRecord (src : BitVec 6) (item : TraceItem) (full : Bool) (s : State) : Out :=
  .next (s.traceItem src.toNat item full)

/-- TRACE_SYNC_TIMER (R487): every enabled source emits a SYNC. -/
def execTraceSyncTimer (pcs : List (BitVec 48)) (s : State) : Out := .next (s.traceSync (List.range 61) pcs)

/-- TRACE_BUFFER_READ (R490): the next 64-bit word from the oldest record on; past the newest record the word is a free
value, for the spec states none. -/
def execTraceBufferRead (s : State) : Out :=
  if !s.barReachable then .next s
  else
    let first := 2 * (s.trc.put - s.trc.buf.length)
    let pos := max s.trc.rd first
    match s.trc.buf[(pos - first) / 2]? with
    | some r =>
      let w : Word :=
        if pos % 2 = 0 then BitVec.ofNat 64 (r.src + r.type * 2 ^ 8 + r.time * 2 ^ 16) else r.payload
      .next ({ s with trc.rd := pos + 1 }.setReg Reg.TRACE_RD w)
    | none =>
      let d := s.draw
      .next (d.2.setReg Reg.TRACE_RD (Config.openWord d.1))

end Sys2Proof.Machine
end

