-- ==== Sys2Proof/Machine/Pick.lean ====
section
/-!
DEFINITION. Sys2Proof/Machine/Pick.lean: pick counters and the tally ring (R476 to R485).
-/

namespace Sys2Proof.Machine

/-! ## Counter numbers (R477) -/

/-- First index of the tenant table. -/
def tenantBase : Nat := pickBase Reg.PICK_PAGE

/-- A block's pick registers, in offset order. -/
def pickRegs (t : BlockType) : List RegDesc := (blockRegs t).filter (fun r => r.pick)

/-- The index of the pick counter at a register key, if the register is one. -/
def pickIndex (key : Nat) : Option Nat :=
  match blockAt (key / 0x10000) with
  | none => none
  | some (b, _) =>
    match findReg b.type (key % 0x10000) with
    | some (r, i) =>
      if r.pick then
        some (pickBase (key / 0x10000)
          + ((pickRegs b.type).filter (fun q => q.off < r.off)).foldl (fun n q => n + q.count) 0 + i)
      else none
    | none => none

/-- The register key at place `n` of a list of counter registers. -/
def pickKeyIn (page : Nat) : List RegDesc → Nat → Option Nat
  | [], _ => none
  | r :: t, n => if n < r.count then some (page * 0x10000 + r.off + n * r.stride) else pickKeyIn page t (n - r.count)

/-- The register key of a pick counter that lies outside the tenant table. -/
def pickKey (index : Nat) : Option Nat :=
  match (List.range (blockCount + 1)).find? (fun p => p != Reg.PICK_PAGE && pickBase p ≤ index && index < pickBase (p + 1)) with
  | none => none
  | some p => match blockAt p with | some (b, _) => pickKeyIn p (pickRegs b.type) (index - pickBase p) | none => none

namespace State

/-! ## The tenant table (R478) -/

/-- Counter `k` of tenant `t`. -/
def tcnt (s : State) (t k : Nat) : Nat := tGet s.pick.tenants (32 * t + k) 0

/-- A gauge or count of a tenant set; counters that read 0 are not listed. -/
def tcntSet (s : State) (t k v : Nat) : State :=
  { s with pick.tenants := if v = 0 then tDel s.pick.tenants (32 * t + k) else tPut s.pick.tenants (32 * t + k) v }

/-- A tenant's counter gains `n`. -/
def tcntAdd (s : State) (t k n : Nat) : State := s.tcntSet t k (min (s.tcnt t k + n) (2 ^ 64 - 1))

/-- A tenant's gauge loses `n`. -/
def tcntSub (s : State) (t k n : Nat) : State := s.tcntSet t k (s.tcnt t k - n)

end State

/-- The latency bin of a completed command, ns (R480). -/
def latencyBin (ns : Nat) : Nat :=
  ((List.range 15).find? (fun j => ns < 10000 * 2 ^ j)).getD 15

namespace State

/-! ## Epochs (R481 to R483) -/

/-- The counters that are not 0, by index. -/
def pickValues (s : State) : List (Nat × Nat) :=
  (s.regs.filterMap (fun e => (pickIndex e.1).map (fun i => (i, e.2.toNat)))).foldl (fun t e => tPut t e.1 e.2)
    (s.pick.tenants.map (fun e => (tenantBase + e.1, e.2)))

/-- `PICK.STATUS` brought up to date. -/
def pickStatus (s : State) : State :=
  (s.setFld Reg.PICK_STATUS_HELD s.pick.held.length).setFld Reg.PICK_STATUS_DROPPED
    (min 65535 (s.pick.held.foldl (fun n h => n + h.gap) s.pick.gap))

/-- Whether an epoch is a whole minute. -/
def minuteEpoch (t : Nat) : Bool := t % (60 * 10 ^ 9) == 0

/-- The held snapshots without the newest one that is not a whole minute, its place counted as not written; the second
part is what the place adds to the gap after the last snapshot. -/
def dropNewest : List Snap → Option (List Snap × Nat)
  | [] => none
  | h :: t =>
    match dropNewest t with
    | some (t', g) => some (h :: t', g)
    | none =>
      if minuteEpoch h.time then none
      else
        match t with
        | [] => some ([], h.gap + 1)
        | n :: r => some ({ n with gap := n.gap + h.gap + 1 } :: r, 0)

/-- A snapshot goes to a free shadow, or replaces one, or is skipped (R483). -/
def takeSnap (s : State) (x : Snap) : State :=
  if s.pick.held.length < 2 then
    { s with pick.held := s.pick.held ++ [{ x with gap := s.pick.gap }], pick.gap := 0 }
  else if !minuteEpoch x.time then { s with pick.gap := s.pick.gap + 1 }
  else
    match dropNewest s.pick.held with
    | some (l, g) => { s with pick.held := l ++ [{ x with gap := s.pick.gap + g }], pick.gap := 0 }
    | none => { s with pick.gap := s.pick.gap + 1 }

/-- Every block with pick counters shows the epoch id last latched. -/
def epochShown (s : State) (id : Nat) : State :=
  (List.range (blockCount + 1)).foldl (fun t p =>
    match blockAt p with
    | some (b, _) => if blockPicks b.type = 0 then t else t.setFld (Reg.BLK_PICK_EPOCH_EPOCH p) id
    | none => t) s

/-- This head's tenant table goes to the partner (R485). -/
def shadowSend (s : State) (id t : Nat) : State :=
  if s.paired && s.linkUp then (s.dkHand 3 1048640).emit (.pickShadow id s.headIndex t s.pick.tenants) else s

/-! ## The tally ring (R484) -/

/-- Where the next record starts and `RING_PROD` after it, when the free space holds it whole. One byte position is
never filled, so that equal offsets mean an empty ring. -/
def tallyPlace (s : State) : Option (Nat × Nat) :=
  let size := s.fld Reg.PICK_RING_BYTES_BYTES * 4096
  let prod := (s.reg Reg.PICK_RING_PROD).toNat
  let cons := (s.reg Reg.PICK_RING_CONS).toNat
  let n := tallyBytes
  if size < n then none
  else if prod < cons then if prod + n < cons then some (prod, prod + n) else none
  else if prod + n < size || (prod + n = size && cons != 0) then some (prod, (prod + n) % size)
  else if n < cons then some (0, n)
  else none

/-- One record is written, `RING_PROD` advances and vector 17 is raised (R484, R500). -/
def tallyWrite (s : State) (x : Snap) (head : Nat) (partner : Bool) (place : Nat × Nat) : State :=
  let r : TallyRec := ⟨head, !s.pick.wrote, partner, x.period, x.time, x.gap, s.fld Reg.OWN_ARRAY_ARRAY_ID, s.pick.since,
    x.counters⟩
  let s1 := { s.emit (.tally place.1 r) with pick.wrote := true }.setReg Reg.PICK_RING_PROD (BitVec.ofNat 64 place.2)
  (if partner then s1 else s1.setFld Reg.PICK_STATUS_LAST_WRITTEN (x.time / 10 ^ 9 % 2 ^ 32)).msix 17

end State

/-- Fields of a tally record before the counters, with a given `CRC` (R484). -/
def tallyHeader (r : TallyRec) (crc : Nat) : List Nat :=
  [0x54, 0x41, 0x4C, 0x59] ++ leBytes 1 2 ++ [r.head, r.first.toNat + (r.dropped != 0).toNat * 2 + r.partner.toNat * 4]
    ++ leBytes (r.time / 10 ^ 9) 4 ++ leBytes r.period 4 ++ leBytes r.time 8 ++ leBytes tallyBytes 4
    ++ leBytes pickTotal 4 ++ leBytes r.dropped 4 ++ leBytes 0 4 ++ leBytes r.array 6 ++ leBytes 0 2
    ++ leBytes r.since 8 ++ leBytes crc 4 ++ leBytes 0 4

/-- The counters of a tally record and its padding. -/
def tallyBody (r : TallyRec) : List Nat :=
  (List.range ((tallyBytes - 64) / 8)).flatMap (fun i => leBytes (tGet r.counters i 0) 8)

/-- The bytes of a tally record as they lie in the ring (R484). -/
def tallyRecordBytes (r : TallyRec) : List Nat :=
  tallyHeader r (crc32c (tallyHeader r 0 ++ tallyBody r)) ++ tallyBody r

/-! ## Meanings -/

/-- PICK_EPOCH_ANNOUNCE (R481, R482): the next multiple of the period at least 10 µs ahead, once the time base has left
UNSYNCED and outside hold-up mode. -/
def execPickEpochAnnounce (s : State) : Out :=
  let p := s.act Reg.PICK_CFG_PERIOD_S * 10 ^ 9
  if s.fld Reg.TIME_STATUS_STATE = 0 || s.chip.holdup || p = 0 || s.chip.cond == .reset then .next s
  else .next { s with pick.next := some (((s.now + 10000 + p - 1) / p) * p) }

/-- PICK_EPOCH_LATCH (R482, R483): every unit latches, and a paired head sends its tenant table (R485). -/
def execPickEpochLatch (s : State) : Out :=
  match s.pick.next with
  | none => .next s
  | some t =>
    if s.chip.holdup || s.chip.cond == .reset then .next s
    else
      let x : Snap := ⟨t, s.act Reg.PICK_CFG_PERIOD_S, 0, s.pickValues⟩
      let id := t / 10 ^ 9 % 2 ^ 32
      .next (((({ s with pick.next := none }.takeSnap x).epochShown id).shadowSend id t).pickStatus.upRefresh)

/-- TALLY_RECORD_WRITE (R484, R485): the partner's copy after a takeover, else the oldest held snapshot. -/
def execTallyRecordWrite (s : State) : Out :=
  if s.act Reg.PICK_CFG_RING_EN != 1 || !s.dmaAllowed then .next s
  else
    match s.tallyPlace with
    | none => .next s
    | some place =>
      match s.pick.partnerDue, s.pick.partner with
      | true, some (x, head) =>
        .next ({ s with pick.partnerDue := false }.tallyWrite x head true place).upRefresh
      | _, _ =>
        match s.pick.held with
        | [] => .next s
        | x :: rest =>
          .next (({ s with pick.held := rest }.tallyWrite x s.headIndex false place).pickStatus.upRefresh)

/-- PICK_COUNTER_READ (R477): one counter, live. An index at or above *N* reads a free value: the spec states none. -/
def execPickCounterRead (index : BitVec 32) (s : State) : Out :=
  .next (s.barWrite Reg.PICK_RD_CMD (fun t =>
    let i := index.toNat
    let t1 := t.setFld Reg.PICK_RD_CMD_INDEX i
    if tenantBase ≤ i && i < tenantBase + tenantCounters then
      t1.setReg Reg.PICK_RD_DATA (BitVec.ofNat 64 (tGet t1.pick.tenants (i - tenantBase) 0))
    else
      match pickKey i with
      | some k => t1.setReg Reg.PICK_RD_DATA (t1.reg k)
      | none =>
        let d := t1.draw
        d.2.setReg Reg.PICK_RD_DATA (Config.openWord d.1)))

/-- PICK_SHADOW (R485): the partner's tenant table is held. -/
def execPickShadow (epoch : BitVec 32) (head : BitVec 8) (time : Nat) (counters : List (Nat × Nat)) (s : State) : Out :=
  if !s.linkUp then .next s
  else
    let vals := (counters.filter (fun e => e.1 < tenantCounters && e.2 != 0)).foldl
      (fun t e => tPut t (tenantBase + e.1) e.2) []
    let x : Snap := ⟨time, s.act Reg.PICK_CFG_PERIOD_S, 0, vals⟩
    .next ({ s with pick.partner := some (x, head.toNat) }.setFld Reg.PICK_PARTNER_EPOCH_EPOCH epoch.toNat)

end Sys2Proof.Machine
end

