-- ==== Sys2Proof/Machine/Intc.lean ====
section
/-!
DEFINITION. Sys2Proof/Machine/Intc.lean: the interrupt controller (R470 to R475).
-/

namespace Sys2Proof.Machine

/-- Sources of the interrupt controller (R470). -/
def intcSources : Nat := 1024

/-- The bit that a source is, in its block's `BLK_INT_PEND`, and 0 beyond the last block's sources. -/
def State.intcLevel (s : State) (src : Nat) : Bool :=
  match sourcePage src with
  | some (p, i) => (s.intPend p).getLsbD i
  | none => false

namespace State

/-- What a core has claimed and not completed, innermost first. -/
def claimStack (s : State) (c : Nat) : List (Nat × Nat) := tGet s.intc.claimed c []

/-- A core's running priority plus 1; 0 when it is idle (R471). -/
def runPrio (s : State) (c : Nat) : Nat :=
  match s.claimStack c with
  | [] => 0
  | (_, p) :: _ => p + 1

/-- Whether a source is claimed and not completed. -/
def inService (s : State) (src : Nat) : Bool := s.intc.claimed.any (fun e => e.2.any (fun x => x.1 == src))

/-- Whether a group's hold-off runs (R474). -/
def heldOff (s : State) (g : Nat) : Bool := tHas s.intc.holdEnd g

/-- Whether a source is pending (R470). -/
def srcPending (s : State) (src : Nat) : Bool :=
  s.act (Reg.INTC_SRC_EN src) == 1 && s.intcLevel src && !s.inService src && !s.heldOff (s.act (Reg.INTC_SRC_GROUP src))

/-- Whether a core is ACTIVE. -/
def coreActive (s : State) (c : Nat) : Bool := s.active (Reg.SVC_PAGE c)

/-- The cores that a source's mask names, or every core when none of those is ACTIVE (R472); the second part says that
this fallback applies. -/
def srcCores (s : State) (src : Nat) : List Nat × Bool :=
  let m := s.act (Reg.INTC_SRC_CORE_MASK src)
  let named := (List.range 16).filter (fun c => m / 2 ^ c % 2 = 1 && s.coreActive c)
  if named.isEmpty then ((List.range 16).filter s.coreActive, true) else (named, false)

/-- The eligible cores of a pending source with the lowest running priority (R471), and the fallback. -/
def srcBest (s : State) (src : Nat) : List Nat × Bool :=
  let (cores, fb) := s.srcCores src
  let el := cores.filter (fun c => s.runPrio c < s.act (Reg.INTC_SRC_PRIO src) + 1)
  let low := el.foldl (fun m c => min m (s.runPrio c)) 17
  (el.filter (fun c => s.runPrio c == low), fb)

/-- One pending source is routed: it stays with its core while that is among the best; otherwise the next best core after
the one last chosen at that running priority takes it (R471). A new fallback routing is counted (R472). -/
def routeOne (s : State) (src : Nat) : State :=
  let (best, fb) := s.srcBest src
  match best with
  | [] => { s with intc.routed := tDel s.intc.routed src }
  | b :: _ =>
    if best.contains (tGet s.intc.routed src 16) then s
    else
      let p := s.runPrio b
      let last := tGet s.intc.lastCore p 15
      let c := ((List.range 16).map (fun k => (last + 1 + k) % 16)).find? (fun k => best.contains k) |>.getD b
      let s1 := { s with intc.routed := tPut s.intc.routed src c, intc.lastCore := tPut s.intc.lastCore p c }
      (if fb then s1.bump (Reg.INTC_CNT 3) 1 else s1).emit (.coreRequest c src)

/-- `INTC.SRC_STATE` of a source brought up to date. -/
def srcShow (s : State) (src : Nat) : State :=
  let old := s.reg (Reg.INTC_SRC_STATE src)
  let new := setBits (setBits (setBits (setBits old 0 1 (s.intcLevel src).toNat) 1 1 (s.srcPending src).toNat) 2 1
    (s.inService src).toNat) 3 1 (s.heldOff (s.act (Reg.INTC_SRC_GROUP src))).toNat
  if new = old then s else s.setReg (Reg.INTC_SRC_STATE src) new

/-- Routing evaluated again for every source (R471). -/
def intcEval (s : State) : State :=
  let pend := (List.range intcSources).filter s.srcPending
  let s1 := { s with intc.routed := s.intc.routed.filter (fun e => pend.contains e.1) }
  (List.range intcSources).foldl srcShow (pend.foldl routeOne s1)

/-- A core's `RUN_PRIO` brought up to date. -/
def runShow (s : State) (c : Nat) : State :=
  (s.setFld (Reg.INTC_RUN_PRIO_PRIO c) (s.runPrio c)).setFld (Reg.INTC_RUN_PRIO_DEPTH c) (s.claimStack c).length

/-- The source a core's claim takes: among the pending sources routed to it the one of highest priority, the lower number
on a tie (R473). -/
def claimPick (s : State) (c : Nat) : Option Nat :=
  let mine := (s.intc.routed.filter (fun e => e.2 == c)).map (·.1)
  let top := mine.foldl (fun m x => max m (s.act (Reg.INTC_SRC_PRIO x))) 0
  mine.find? (fun x => s.act (Reg.INTC_SRC_PRIO x) == top)

/-- A claim starts the hold-off of the source's group (R474). -/
def holdStart (s : State) (g : Nat) : State :=
  let h := s.act (Reg.INTC_GROUP_HOLDOFF g)
  if h = 0 then s
  else
    ({ s with intc.holdEnd := tPut s.intc.holdEnd g (s.now + h * 100) }.setFld (Reg.INTC_GROUP_REMAIN_NS g)
      (h * 100)).bump (Reg.INTC_CNT 4) 1

/-- The hold-off time left, shown at a beat boundary. -/
def holdShow (s : State) : State :=
  s.intc.holdEnd.foldl (fun t e => t.setFld (Reg.INTC_GROUP_REMAIN_NS e.1) (e.2 - t.now)) s

end State

/-- INTERRUPT_REQUEST (R36, R471, R472): the condition behind a source arises in its block and the source is routed. -/
def execInterruptRequest (src : BitVec 10) (holds : Bool) (s : State) : Out :=
  match sourcePage src.toNat with
  | none => .next s
  | some (p, i) => if s.chip.cond == .reset then .next s else .next ((s.setHeld p i holds).raiseRaw p i).intcEval

/-- INTC_CLAIM (R473): a core's own read of its `CLAIM`. -/
def execIntcClaim (core : Fin 16) (s : State) : Out :=
  let c := core.val
  let s0 := s.intcEval
  match s0.claimPick c with
  | none => .next ((s0.bump (Reg.INTC_CNT 1) 1).emit (.claimed c none))
  | some x =>
    let p := s0.act (Reg.INTC_SRC_PRIO x)
    let s1 := { s0 with intc.claimed := tPut s0.intc.claimed c ((x, p) :: s0.claimStack c) }
    let s2 := (s1.bump (Reg.INTC_CNT 0) 1).bump (Reg.INTC_CORE_CLAIMS c) 1
    let s3 := ((s2.bumpFld (Reg.INTC_SRC_STATE_CLAIMS x) 1).setFld (Reg.INTC_SRC_STATE_CORE x) c).setBit
      (Reg.INTC_SRC_STATE_CORE_VALID x) true
    .next ((((s3.holdStart (s3.act (Reg.INTC_SRC_GROUP x))).runShow c).emit (.claimed c (some x))).intcEval)

/-- INTC_COMPLETE (R473): a source not in service on the core is ignored and counted. -/
def execIntcComplete (core : Fin 16) (src : BitVec 10) (s : State) : Out :=
  let c := core.val
  if (s.claimStack c).any (fun e => e.1 == src.toNat) then
    let rest := (s.claimStack c).filter (fun e => e.1 != src.toNat)
    .next (({ s with intc.claimed := if rest.isEmpty then tDel s.intc.claimed c else tPut s.intc.claimed c rest }.runShow
      c).intcEval)
  else .next (s.bump (Reg.INTC_CNT 2) 1)

/-- HOLDOFF_EXPIRY (R474): the requesting sources of the group become pending together. -/
def execHoldoffExpiry (group : Fin 64) (s : State) : Out :=
  if s.heldOff group.val then
    .next (({ s with intc.holdEnd := tDel s.intc.holdEnd group.val }.setFld (Reg.INTC_GROUP_REMAIN_NS group.val) 0).intcEval)
  else .next s

end Sys2Proof.Machine
end

