-- ==== Sys2Proof/Machine/EventRecorder.lean ====
section
/-!
DEFINITION. Sys2Proof/Machine/EventRecorder.lean: the event recorder's commands: records, summaries, flushes, the event
ring and its reclaim, and the reads and rate writes of `EVREC` (R453 to R457).
-/

namespace Sys2Proof.Machine

/-- Slots of one sector of the event ring, its header included (R456). -/
abbrev SECTOR_SLOTS : Nat := 2048

/-- Slots of the event ring (R456). -/
abbrev RING_SLOTS : Nat := 512 * 2048

namespace State

/-- A record written at the ring's write position; entering a sector writes its header first (R456). -/
def ringWrite (s : State) (r : EvRec) : State :=
  let e := s.evrec
  let e1 := if e.head % SECTOR_SLOTS = 0 then
      { e with sectors := tPut e.sectors (e.head / SECTOR_SLOTS) e.nextSeq, nextSeq := e.nextSeq + 1,
               erased := e.erased - 1, head := e.head + 1 }
    else e
  { s with evrec := { e1 with ring := tPut e1.ring e1.head r, head := (e1.head + 1) % RING_SLOTS } }

/-- The written sector with the lowest sequence. -/
def oldestSector (l : List (Nat × Nat)) : Option (Nat × Nat) :=
  l.foldl (fun m x => match m with
    | none => some x
    | some y => if x.2 < y.2 then some x else some y) none

/-- Of a sector's records above severity `t`, the 1,023 to carry: highest severity first, then newest, in ring
order (R456). -/
def carried (t : Nat) (l : List EvRec) : List EvRec :=
  let q := l.filter (fun r => t < r.sev)
  let keep (sv : Nat) : Nat :=
    let above := (q.filter (fun r => sv < r.sev)).length
    min (q.filter (fun r => r.sev == sv)).length (1023 - above)
  (q.foldr (fun r acc =>
    if (acc.filter (fun x => x.sev == r.sev)).length < keep r.sev then r :: acc else acc) [])

/-- With fewer than 10 erased sectors ahead, the oldest sector's important records are carried forward and its erase
starts (R456). -/
def ringReclaim (s : State) : State :=
  if 10 ≤ s.evrec.erased || s.evrec.erasing.isSome then s
  else
    match oldestSector s.evrec.sectors with
    | none => s
    | some (i, _) =>
      let mine := (s.evrec.ring.filter (fun e => e.1 / SECTOR_SLOTS == i)).map Prod.snd
      let keep := carried (minSev (s.evrec.ring.map Prod.snd)) mine
      let s1 := { s with evrec.ring := s.evrec.ring.filter (fun e => e.1 / SECTOR_SLOTS != i)
                         evrec.sectors := tDel s.evrec.sectors i
                         evrec.erasing := some i }
      ((keep.foldl ringWrite s1).bump (Reg.EVREC_CNT 6) keep.length).bump (Reg.EVREC_CNT 7)
        (mine.length - keep.length)

/-- A NOR program or erase fails: it is recorded and records stay buffered while the error persists (R456). -/
def norFail (s : State) (offset : Nat) : State :=
  ({ s with evrec.norError := true }.bump (Reg.EVREC_CNT 9) 1).event 0x0D08 Reg.EVREC_PAGE (BitVec.ofNat 64 offset) 0

/-- The flush in progress ends: its records are in the ring in arrival order, and records dropped meanwhile are
reported (R453, R455). -/
def flushDone (s : State) : State :=
  match s.evrec.flushing with
  | none => s
  | some n =>
    let s1 := (s.evrec.buf.take n).foldl ringWrite s
    let s2 := { s1 with evrec.buf := s1.evrec.buf.drop n, evrec.flushing := none, evrec.again := false,
                        evrec.norError := false }
    let s3 := ((s2.bump (Reg.EVREC_CNT 5) 1).setBit Reg.EVREC_FLUSH_GO false).ringReclaim
    let s4 := if s.evrec.dropped = 0 then s3
      else { s3 with evrec.dropped := 0 }.event 0x0D02 Reg.EVREC_PAGE (argWord [(0, s.evrec.dropped)]) 0
    let s5 := if s.evrec.again && !s4.evrec.buf.isEmpty then s4.flushStart else s4
    s5.evrecStatus

/-- The first 8-byte words of a record as `RD_DATA0` to `RD_DATA3` show them (R451). -/
def recordWords (r : EvRec) : List Word :=
  [BitVec.ofNat 64 r.time,
   BitVec.ofNat 64 (r.code + (r.sev + r.summary.toNat * 8 + r.head % 2 * 16) * 2 ^ 16 + r.srcType * 2 ^ 32
     + r.srcInst * 2 ^ 48),
   r.arg0, r.arg1]

/-- A sector header as words (R456). -/
def headerWords (seq : Nat) : List Word :=
  let bs := [0x45, 0x56, 0x53, 0x43] ++ leBytes 0 4 ++ leBytes seq 8 ++ leBytes 0 12
  [BitVec.ofNat 64 0x43535645, BitVec.ofNat 64 seq, 0, BitVec.ofNat 64 (crc32c bs * 2 ^ 32)]

/-- `RD_DATA0` to `RD_DATA3` written. -/
def setRdData (s : State) (l : List Word) : State :=
  s.setRegs (List.zip [Reg.EVREC_RD_DATA0, Reg.EVREC_RD_DATA1, Reg.EVREC_RD_DATA2, Reg.EVREC_RD_DATA3] l)

/-- One slot of the event ring: a record, a sector header, or erased NOR (all ones, PRESUMED). -/
def ringSlot (s : State) (i : Nat) : List Word :=
  match tGet? s.evrec.ring i with
  | some r => recordWords r
  | none =>
    match tGet? s.evrec.sectors (i / SECTOR_SLOTS), decide (i % SECTOR_SLOTS = 0) with
    | some q, true => headerWords q
    | _, _ => List.replicate 4 (BitVec.allOnes 64)

/-- A code's rate and depth set: its level is kept, capped at the new depth, and a limit on a code of severity 7 is
ignored (R454). -/
def setRate (s : State) (code rate depth : Nat) : State :=
  let sev := evSeverity code 3
  if sev = 7 && rate != 0 then s
  else
    let b := refill (s.bucket code sev) s.now
    s.setBucket code { b with rate := rate, depth := depth, level := min b.level (depth * 10 ^ 9) }

end State

open State

/-- EVENT_RECORD (R453, R454). -/
def execEventRecord (code : BitVec 12) (sev : BitVec 3) (srcType srcInst : BitVec 16) (arg0 arg1 : Word)
    (s : State) : Out :=
  .next (s.recordFrom code.toNat (evSeverity code.toNat sev.toNat) srcType.toNat srcInst.toNat arg0 arg1)

/-- EVENT_SUMMARY (R454): the bucket holds a token again, and the summary of the suppressed records takes it. -/
def execEventSummary (code : BitVec 12) (sev : BitVec 3) (s : State) : Out :=
  let c := code.toNat
  let sv := evSeverity c sev.toNat
  let b := refill (s.bucket c sv) s.now
  .next (if b.supp = 0 then s else
    ((s.setBucket c { b with supp := 0, first := 0, level := max b.level (10 ^ 9) - 10 ^ 9 }).takeRecord
      ⟨s.now, c, sv, true, s.headIndex, 0x0080, 0, BitVec.ofNat 64 b.first, BitVec.ofNat 64 (b.supp % 2 ^ 32)⟩).bump
        (Reg.EVREC_CNT 4) 1)

/-- EVENT_FLUSH_TIMER (R455). -/
def execEventFlushTimer (s : State) : Out := .next s.flushStart

/-- EVREC_FLUSH_WRITE (R455): `GO` reads 1 until the flush completes. -/
def execEvrecFlushWrite (s : State) : Out :=
  .next (s.barWrite Reg.EVREC_FLUSH (fun t => (t.setBit Reg.EVREC_FLUSH_GO true).flushStart))

/-- EVENT_FLUSH_DONE (R455, R456). -/
def execEventFlushDone (ok : Bool) (s : State) : Out :=
  .next (
    match s.evrec.flushing with
    | none => s
    | some _ =>
      if ok then s.flushDone
      else ({ s with evrec.flushing := none }.setBit Reg.EVREC_FLUSH_GO false).norFail (0x2000000 + s.evrec.head * 32))

/-- EVREC_READ_RING (R456). -/
def execEvrecReadRing (index : BitVec 32) (s : State) : Out :=
  .next (s.barWrite Reg.EVREC_RD_CMD (fun t =>
    ((t.setFld Reg.EVREC_RD_CMD_INDEX index.toNat).setBit Reg.EVREC_RD_CMD_WHERE false).setRdData
      (t.ringSlot index.toNat)))

/-- EVREC_READ_BUFFER (R453): entry 0 is the oldest; an entry the buffer does not hold reads zero. -/
def execEvrecReadBuffer (index : BitVec 32) (s : State) : Out :=
  .next (s.barWrite Reg.EVREC_RD_CMD (fun t =>
    ((t.setFld Reg.EVREC_RD_CMD_INDEX index.toNat).setBit Reg.EVREC_RD_CMD_WHERE true).setRdData
      (match t.evrec.buf[index.toNat]? with
       | some r => recordWords r
       | none => [0, 0, 0, 0])))

/-- EVREC_RATE_WRITE (R454). -/
def execEvrecRateWrite (code : BitVec 12) (s : State) : Out :=
  .next (s.barWrite Reg.EVREC_RATE_CMD (fun t =>
    ((t.setFld Reg.EVREC_RATE_CMD_CODE code.toNat).setFld Reg.EVREC_RATE_CMD_OP 1).setRate code.toNat
      (t.fld Reg.EVREC_RATE_DATA_RATE) (t.fld Reg.EVREC_RATE_DATA_DEPTH)))

/-- EVREC_RATE_READ (R454). -/
def execEvrecRateRead (code : BitVec 12) (s : State) : Out :=
  .next (s.barWrite Reg.EVREC_RATE_CMD (fun t =>
    let b := refill (t.bucket code.toNat (evSeverity code.toNat 3)) t.now
    ((t.setFld Reg.EVREC_RATE_CMD_CODE code.toNat).setFld Reg.EVREC_RATE_CMD_OP 2).setReg Reg.EVREC_RATE_DATA
      (BitVec.ofNat 64 (b.rate * 2 ^ 48 + b.depth * 2 ^ 32 + b.level / 10 ^ 9 * 2 ^ 16 + min b.supp 0xFFFF))))

end Sys2Proof.Machine
end

