-- ==== Sys2Proof/Machine/Keys.lean ====
section
/-!
DEFINITION. Sys2Proof/Machine/Keys.lean: the key store: slots, import, export and zeroize, the key ledger, the private key
bus, the TLS schedule unit and the TRNG (R393 to R403, R447).
-/

namespace Sys2Proof.Machine

/-! ## Bytes -/

/-- Little-endian bytes of a number as `Byte`s. -/
def bytesLE (v n : Nat) : Bytes := (leBytes v n).map (BitVec.ofNat 8)

/-- The number little-endian bytes spell. -/
def natLE (l : Bytes) : Nat := l.foldr (fun b n => b.toNat + 256 * n) 0

/-- Big-endian bytes of a bit vector: the order in which a digest's bytes are written. -/
def bytesBE {w : Nat} (v : BitVec w) : Bytes :=
  (List.range (w / 8)).map (fun i => BitVec.ofNat 8 (v.toNat / 2 ^ (w - 8 - 8 * i)))

/-- ASCII bytes of a label. -/
def asciiBytes (l : List Nat) : Bytes := l.map (BitVec.ofNat 8)

/-! ## Slots -/

/-- The slot types of R394. -/
inductive SlotType where
  | tenant | conn | psk | derived | device | reserved
  deriving DecidableEq, Repr

/-- Slot type is fixed by slot number (R394). -/
def slotType (n : Nat) : SlotType :=
  if n = 0 then .reserved
  else if n < 4096 then .tenant
  else if n < 20480 then .conn
  else if n < 24576 then .psk
  else if n < 28672 then .derived
  else if n < 32736 then .reserved
  else .device

/-- The admin and monitor session-key slots (R393). -/
def sessionSlot : SessLevel → Nat
  | .admin => 32740
  | .monitor => 32741

/-- An empty slot at epoch 0. -/
def emptySlot : KeySlot := { epoch := 0, material := [], param := 0, setA := none, setB := none }

/-- Whether a slot holds a key. -/
def slotFull (k : KeySlot) : Bool := !k.material.isEmpty || k.setA.isSome || k.setB.isSome

/-- The bytes of a CONN key set, in record order (R395). -/
def connSetBytes (c : ConnSet) : Bytes :=
  c.txKey ++ c.txSalt ++ bytesLE c.txSpi.toNat 4 ++ c.rxKey ++ c.rxSalt ++ bytesLE c.rxSpi.toNat 4

/-- A slot's material as bytes. -/
def slotMaterial (k : KeySlot) : Bytes :=
  k.material ++ ((k.setA.map connSetBytes).getD []) ++ ((k.setB.map connSetBytes).getD [])

/-- The key check value: the first 8 bytes of SHA-256 over `AZ7240-KCV` and the material (R394). -/
def kcvOf (k : KeySlot) : Word :=
  BitVec.ofNat 64 ((Config.sha256 (asciiBytes [0x41, 0x5A, 0x37, 0x32, 0x34, 0x30, 0x2D, 0x4B, 0x43, 0x56]
    ++ slotMaterial k)).toNat / 2 ^ 192)

/-- Whether a slot's material is kept in the ledger (R394). -/
def persistentSlot (n : Nat) : Bool :=
  match slotType n with
  | .tenant | .psk => true
  | .device => n == 32740 || n == 32741
  | _ => false

/-- The consumers a slot type serves (R400). -/
def serves (c : Consumer) (n : Nat) : Bool :=
  match slotType n, c with
  | .tenant, .dpcCipher | .tenant, .dpcDigest => true
  | .conn, .transport => true
  | .psk, .schedule | .derived, .schedule => true
  | .device, .selv => n == 32739
  | .device, .mgmtDigest => n == 32740 || n == 32741
  | _, _ => false

namespace State

/-- A slot of the key store. -/
def keySlot (s : State) (n : Nat) : KeySlot := tGet s.sec.slots n emptySlot

/-- A slot written; an empty slot at epoch 0 is not listed. -/
def setKeySlot (s : State) (n : Nat) (k : KeySlot) : State :=
  { s with sec.slots := if k = emptySlot then tDel s.sec.slots n else tPut s.sec.slots n k }

/-- A slot emptied, its epoch advanced (R394, R401). -/
def zeroizeSlot (s : State) (n : Nat) : State :=
  s.setKeySlot n { emptySlot with epoch := (s.keySlot n).epoch + 1 }

/-- A request to the private key bus: the slot's content for a consumer it serves, otherwise nothing, counted (R400). -/
def keyFetch (s : State) (c : Consumer) (n : Nat) : Option KeySlot × State :=
  if serves c n then (some (s.keySlot n), s) else (none, s.bump (Reg.KEYS_CNT 4) 1)

/-! ## Device keys (R393) -/

/-- `CHIP.UID` as bytes. -/
def uidBytes (s : State) : Bytes := bytesLE s.life.uid.toNat 16

/-- A key derived from the fuse root under an info label; none after the SCRAP work. -/
def deviceKey (s : State) (label : List Nat) : Option Bytes :=
  if s.life.fuseRootDisable then none else some (Config.hkdf Config.fuseRoot (asciiBytes label ++ s.uidBytes))

/-- The identity key's private scalar. -/
def identityKey (s : State) : Option Bytes := s.deviceKey [0x49, 0x44, 0x45, 0x4E, 0x54]

/-- `KEYS.OWNER_PUB` as 96 bytes, in ascending address order. -/
def ownerPub (s : State) : Bytes :=
  (List.range 12).flatMap (fun i => bytesLE (s.reg (Reg.KEYS_OWNER_PUB i)).toNat 8)

/-- The KEK; absent while `OWNER_PUB` is zero. -/
def kek (s : State) : Option Bytes :=
  if s.ownerPub.all (fun b => b == 0) || s.life.fuseRootDisable then none
  else s.identityKey.map (fun i => Config.hkdf (Config.ecdhX i s.ownerPub) (asciiBytes [0x4B, 0x45, 0x4B] ++ s.uidBytes))

/-- The peer transfer key of a peer-table entry (R398). -/
def peerKey (s : State) (p : Nat) : Option Bytes :=
  match tGet? s.sec.peers p, s.identityKey with
  | some pub, some i => some (Config.hkdf (Config.ecdhX i pub) (asciiBytes [0x50, 0x45, 0x45, 0x52] ++ s.uidBytes))
  | _, _ => none

/-- Whether the storage key can be derived (R393): in PROVISION and DEPLOYED. -/
def storageKey (s : State) : Bool := (s.lifeState == 1 || s.lifeState == 2) && !s.life.fuseRootDisable

/-! ## Measurement registers (R409) -/

/-- The bytes of a measurement register, in ascending address order. -/
def mrBytes (s : State) (i : Nat) : Bytes :=
  [Reg.MEAS_MR_W0 i, Reg.MEAS_MR_W1 i, Reg.MEAS_MR_W2 i, Reg.MEAS_MR_W3 i, Reg.MEAS_MR_W4 i, Reg.MEAS_MR_W5 i].flatMap
    (fun k => bytesLE (s.reg k).toNat 8)

/-- The six register words of 48 bytes. -/
def words6 (b : Bytes) : List Word := (List.range 6).map (fun i => BitVec.ofNat 64 (natLE ((b.drop (8 * i)).take 8)))

/-- An extend: register `i` becomes SHA-384 of its value followed by 48 bytes (R409). -/
def measExtend (s : State) (i : Nat) (v : Bytes) : State :=
  s.setRegs (List.zip
    [Reg.MEAS_MR_W0 i, Reg.MEAS_MR_W1 i, Reg.MEAS_MR_W2 i, Reg.MEAS_MR_W3 i, Reg.MEAS_MR_W4 i, Reg.MEAS_MR_W5 i]
    (words6 (bytesBE (Config.sha384 (s.mrBytes i ++ v)))))

/-- Register 7 takes SHA-384 of slot, new epoch and KCV (R409). -/
def measKey (s : State) (slot : Nat) (epoch : BitVec 32) (kcv : Word) : State :=
  s.measExtend 7 (bytesBE (Config.sha384 (bytesLE slot 2 ++ bytesLE epoch.toNat 4 ++ bytesLE kcv.toNat 8)))

/-- `KEYS.ID_PUB` shows the identity public key while it can be derived (R393). -/
def idPubShow (s : State) : State :=
  match s.identityKey with
  | some k => s.setRegs (List.zip ((List.range 12).map Reg.KEYS_ID_PUB)
      ((List.range 12).map (fun i => BitVec.ofNat 64 (natLE (((Config.ecPublic k).drop (8 * i)).take 8)))))
  | none => s

/-! ## The key ledger (R447) -/

/-- The record of a slot's material as a ledger entry wraps it (R395, R447). -/
def ledgerRecord (e : LedgerEntry) : Bytes :=
  layout 16 [(0, 1, match slotType e.slot with | .tenant => 1 | .psk => 3 | _ => 4), (2, 2, e.slot), (4, 4, e.epoch.toNat), (8, 2, e.material.length),
    (10, 2, e.param)] ++ e.material

/-- The bytes of an entry: its 16-byte header with the CRC-32C over header and body, and the body, padded with zeros to 32 bytes (R447). -/
def ledgerImage (s : State) (e : LedgerEntry) : Bytes :=
  let body := if e.kind = 1 then
      match s.deviceKey [0x4C, 0x45, 0x44, 0x47, 0x45, 0x52] with
      | some k => Config.keyWrap k (ledgerRecord e)
      | none => []
    else if e.kind = 2 then []
    else e.epochs.flatMap (fun x => bytesLE x.toNat 4)
  let head := fun (crc : Nat) => layout 16 [(0, 2, 0x4C4B), (2, 1, e.kind), (4, 2, e.slot), (6, 2, body.length),
    (8, 4, if e.kind = 3 then 0 else e.epoch.toNat), (12, 4, crc)]
  let all := head (crc32c (byteNats (head 0 ++ body))) ++ body
  zeroFill all (32 * ((all.length + 31) / 32))

/-- A ledger sector's header: ASCII `KLSC`, its sequence and a CRC-32C (R447). -/
def sectorImage (seq : Nat) : Bytes :=
  let b := layout 28 [(0, 4, 0x43534C4B), (8, 8, seq)]
  b ++ leField (crc32c (byteNats b)) 4

/-- Bytes of a ledger entry. -/
def entryBytes (e : LedgerEntry) : Nat :=
  if e.kind = 1 then (if slotType e.slot = .tenant then 192 else 96) else if e.kind = 2 then 32 else 4128

/-- An entry placed at the write position: in the sector being written when it fits, else in the next erased one. -/
def ledgerPut (l : Ledger) (e : LedgerEntry) : Ledger :=
  match l.sectors.getLast? with
  | some cur =>
    if l.used + entryBytes e ≤ 65536 then
      { l with sectors := l.sectors.dropLast ++ [cur ++ [e]], used := l.used + entryBytes e }
    else { l with sectors := l.sectors ++ [[e]], used := 32 + entryBytes e, erased := l.erased - 1 }
  | none => { l with sectors := [[e]], used := 32 + entryBytes e, erased := l.erased - 1 }

/-- An entry appended: it is programmed at the write position, behind the header of a sector that it is the first of (R447). -/
def ledgerAppend (s : State) (e : LedgerEntry) : State :=
  let l := s.sec.ledger
  let m := ledgerPut l e
  let at_ := 0x1C20000 + 65536 * ((m.base + m.sectors.length - 1) % 32)
  let s1 := { s with sec.ledger := m }
  if m.sectors.length = l.sectors.length then s1.emit (.norWrite (at_ + l.used) (s.ledgerImage e))
  else (s1.emit (.norWrite at_ (sectorImage (m.seq + m.sectors.length - 1)))).emit (.norWrite (at_ + 32) (s.ledgerImage e))

/-- Whether an entry of the oldest sector is still the newest for its slot among the later sectors. -/
def stillNewest (e : LedgerEntry) (own : List LedgerEntry) (later : List (List LedgerEntry)) : Bool :=
  e.kind != 3 && !later.any (fun sec => sec.any (fun x => x.kind != 3 && x.slot == e.slot))
    && ((own.filter (fun x => x.kind != 3 && x.slot == e.slot)).getLast? == some e)

/-- The blocks of 1,024 slots whose epochs a sector holds. -/
def epochBlocks (l : List LedgerEntry) : List Nat := (l.map (fun e => e.slot / 1024)).eraseDups

/-- With fewer than 4 erased sectors the oldest is copied forward, with EPOCHS entries for the slots whose epochs it
held, and its erase starts (R447). -/
def ledgerReclaim (s : State) : State :=
  let l := s.sec.ledger
  if 4 ≤ l.erased || l.erasing then s
  else
    match l.sectors with
    | old :: next :: rest =>
      let keep := old.filter (fun e => stillNewest e old (next :: rest))
      let eps := (epochBlocks old).map (fun b =>
        { kind := 3, slot := 1024 * b, epoch := 0, material := [], param := 0,
          epochs := (List.range 1024).map (fun i => (s.keySlot (1024 * b + i)).epoch) : LedgerEntry })
      (keep ++ eps).foldl ledgerAppend { s with sec.ledger := { l with sectors := next :: rest, base := (l.base + 1) % 32, seq := l.seq + 1, erasing := true } }
    | _ => s

/-- One ledger entry taken into the slots at load: the newest entry of a slot comes last. -/
def loadEntry (keep : Nat → Bool) (s : State) (e : LedgerEntry) : State :=
  if e.kind = 3 then
    (List.zip (List.range e.epochs.length) e.epochs).foldl (fun t p =>
      if keep (e.slot + p.1) then t.setKeySlot (e.slot + p.1) { t.keySlot (e.slot + p.1) with epoch := p.2 } else t) s
  else if keep e.slot then
    s.setKeySlot e.slot { emptySlot with epoch := e.epoch, material := e.material, param := e.param }
  else s

/-- The ledger is loaded (R399): everything, only the SESSION entries while a tamper latch is set in DEPLOYED, nothing
in RETURN and SCRAP. An entry of `bad` fails its unwrap: its slot is left empty and `LEDGER_BAD` recorded. -/
def ledgerLoad (s : State) (bad : List Nat) : State :=
  if !s.storageKey then s.setBit Reg.KEYS_STATUS_LEDGER_OK false
  else
    let limited := s.sec.latch && s.lifeState == 2
    let keep (n : Nat) : Bool := if limited then n == 32740 || n == 32741 else true
    let s1 := s.sec.ledger.sectors.flatten.foldl (loadEntry keep) s
    let hit := bad.filter (fun n => keep n && slotFull (s1.keySlot n))
    let s2 := hit.foldl (fun t n => t.setKeySlot n { t.keySlot n with material := [], param := 0 }) s1
    let s3 := hit.foldl (fun t n => t.event 0x0B03 Reg.KEYS_PAGE (argWord [(0, n)]) 0) s2
    s3.setBit Reg.KEYS_STATUS_LEDGER_OK (hit.isEmpty && !limited)

/-! ## Key commands -/

/-- The result codes of `KEYS.STATUS.RESULT` (R396). -/
def setKeyResult (s : State) (r slot : Nat) : State :=
  (s.setFld Reg.KEYS_STATUS_RESULT r).setFld Reg.KEYS_STATUS_EPOCH (s.keySlot slot).epoch.toNat

/-- A key command ends: its result shows, and the control command it answers finishes (R399, R401). -/
def keyDone (s : State) (slot r : Nat) (tag : Option Nat) : State :=
  let s1 := (({ s with sec.op := none }.setKeyResult r slot).setBit Reg.KEYS_STATUS_BUSY false).setBit Reg.KEYS_CMD_GO false
  let s2 := s1.setReg Reg.KEYS_KCV (if slotFull (s1.keySlot slot) then kcvOf (s1.keySlot slot) else 0)
  s2.ctlAnswer tag (if r = 1 then .ok else .key) (BitVec.ofNat 64 (if r = 1 then 0 else r)) 0

/-- A key command waits for its ledger entry and for the engines to drop the slot, or ends at once. -/
def keyStart (s : State) (slot : Nat) (e : Option LedgerEntry) (drop : Bool) (tag : Option Nat) : State :=
  if e.isNone && !drop then s.keyDone slot 1 tag
  else
    ({ s with sec.op := some { slot := slot, append := e, drop := drop, tag := tag } }.setBit Reg.KEYS_STATUS_BUSY
      true).setBit Reg.KEYS_CMD_GO true

/-- A ledger entry for a slot's present state. -/
def slotEntry (s : State) (n : Nat) : LedgerEntry :=
  let k := s.keySlot n
  { kind := if persistentSlot n && slotFull k then 1 else 2, slot := n, epoch := k.epoch,
    material := if persistentSlot n then k.material else [], param := if persistentSlot n then k.param else 0, epochs := [] }

/-- The CONN key set a CONN_IPSEC record's material spells (R395). -/
def recordSet (flags : Nat) (m : Bytes) : ConnSet :=
  { ipsec := true, key256 := flags % 2 == 1, txKey := m.take 32, txSalt := (m.drop 32).take 4,
    txSpi := BitVec.ofNat 32 (natLE ((m.drop 36).take 4)), rxKey := (m.drop 40).take 32, rxSalt := (m.drop 72).take 4,
    rxSpi := BitVec.ofNat 32 (natLE ((m.drop 76).take 4)), sent := 1 }

/-- Whether another slot uses a receive SPI (R396). -/
def spiInUse (s : State) (slot : Nat) (spi : BitVec 32) : Bool :=
  s.sec.slots.any (fun e => e.1 != slot &&
    ((e.2.setA.map (fun c => c.ipsec && c.rxSpi == spi)).getD false
      || (e.2.setB.map (fun c => c.ipsec && c.rxSpi == spi)).getD false))

/-- The checks of R396 on an unwrapped record, in the order of their values: the first that fails. -/
def importRefusal (s : State) (slot : Nat) (rec : Bytes) : Option Nat :=
  let byte (i : Nat) : Nat := (rec.getD i 0).toNat
  let ty := byte 0
  let flags := byte 1
  let target := byte 2 + 256 * byte 3
  let len := byte 8 + 256 * byte 9
  let param := byte 10 + 256 * byte 11
  let m := rec.drop 16
  let wantLen := if ty = 1 then 128 else if ty = 2 then 80 else if ty = 3 then 48 else if ty = 4 then 32 else 0
  let cs := recordSet flags m
  let typeOk := match slotType target with
    | .tenant => ty == 1
    | .conn => ty == 2
    | .psk => ty == 3
    | .device => ty == 4 && (target == 32740 && param == 1 || target == 32741 && param == 2)
    | _ => false
  if wantLen = 0 || len != wantLen || m.length != wantLen || !((rec.drop 12).take 4).all (fun b => b == 0)
      || (ty != 2 && flags != 0) || (ty == 2 && 16 ≤ flags) then some 3
  else if !typeOk || target != slot then some 4
  else if byte 4 + 2 ^ 8 * byte 5 + 2 ^ 16 * byte 6 + 2 ^ 24 * byte 7 != ((s.keySlot slot).epoch + 1).toNat then some 5
  else if ty = 1 && slotFull (s.keySlot slot) then some 6
  else if ty = 1 && m.take 32 == (m.drop 32).take 32
      || ty = 2 && (flags / 2 % 2 == 0 || flags / 4 % 2 == 1 || flags / 8 % 2 == 1 || cs.txSpi.toNat < 256
        || cs.rxSpi.toNat < 256 || s.spiInUse slot cs.rxSpi) then some 7
  else if s.lifeState == 0 || 3 ≤ s.lifeState || s.bit Reg.LIFE_STATUS_BUSY || s.bit Reg.LIFE_STATUS_INCOMPLETE
      || (s.sec.latch && s.lifeState == 2) then some 8
  else none

/-- The key that unwraps an import: the KEK, or a peer transfer key (R395, R398). -/
def importKey (s : State) (src : Nat) : Option Bytes :=
  if src = 0 then s.kek else if 0x10 ≤ src then s.peerKey (src - 0x10) else none

/-- A slot after the import of a record (R395). -/
def importedSlot (old : KeySlot) (rec : Bytes) : KeySlot :=
  let ty := (rec.getD 0 0).toNat
  let param := (rec.getD 10 0).toNat
  let m := rec.drop 16
  if ty = 2 then
    let c := recordSet (rec.getD 1 0).toNat m
    if param % 2 = 1 then { old with epoch := old.epoch + 1, setB := some c }
    else { old with epoch := old.epoch + 1, setA := some c }
  else { old with epoch := old.epoch + 1, material := m, param := param }

/-- Whether an import replaces a CONN set that engines may hold (R401). -/
def importDrops (old : KeySlot) (rec : Bytes) : Bool :=
  (rec.getD 0 0).toNat == 2 && (if (rec.getD 10 0).toNat % 2 = 1 then old.setB.isSome else old.setA.isSome)

/-- IMPORT (R395, R396, R399): refused with its cause and the slot unchanged, or loaded, to complete once its ledger
entry is durable. -/
def keyImport (s : State) (src slot : Nat) (blob : Bytes) (tag : Option Nat) : State :=
  let refuse (r : Nat) : State := (s.bump (Reg.KEYS_CNT 1) 1).keyDone slot r tag
  match (s.importKey src).bind (fun k => Config.keyUnwrap k blob) with
  | none => refuse 2
  | some rec =>
    match s.importRefusal slot rec with
    | some r => refuse r
    | none =>
      let old := s.keySlot slot
      let s1 := (s.setKeySlot slot (importedSlot old rec)).bump (Reg.KEYS_CNT 0) 1
      let s2 := if slotType slot = .device then s1.measKey slot (old.epoch + 1) (kcvOf (s1.keySlot slot)) else s1
      s2.keyStart slot (some (s2.slotEntry slot)) (importDrops old rec) tag

/-- ZEROIZE of a CONN or PSK slot (R401, R447). -/
def keyZeroize (s : State) (slot : Nat) (tag : Option Nat) : State :=
  if slotType slot = .conn || slotType slot = .psk then
    let had := slotFull (s.keySlot slot)
    let s1 := (s.zeroizeSlot slot).bump (Reg.KEYS_CNT 3) 1
    s1.keyStart slot (if slotType slot = .psk then some (s1.slotEntry slot) else none) had tag
  else s.keyDone slot 4 tag

/-- The record of a TENANT or PSK slot as EXPORT carries it: the slot's epoch + 1 in `EPOCH` (R395, R398). -/
def exportRecordOf (n : Nat) (k : KeySlot) : Bytes :=
  bytesLE (if slotType n = .tenant then 1 else 3) 1 ++ bytesLE 0 1 ++ bytesLE n 2 ++ bytesLE (k.epoch + 1).toNat 4
    ++ bytesLE k.material.length 2 ++ bytesLE k.param 2 ++ bytesLE 0 4 ++ k.material

/-- EXPORT (R398): the blob, or the result that refuses it. -/
def keyExport (s : State) (slot peer : Nat) : Nat × Bytes :=
  if s.lifeState != 2 || s.sec.latch then (8, [])
  else if slotType slot != .tenant && slotType slot != .psk then (4, [])
  else
    match s.peerKey peer with
    | none => (10, [])
    | some k =>
      if slotFull (s.keySlot slot) then (1, Config.keyWrap k (exportRecordOf slot (s.keySlot slot))) else (10, [])

/-- PEER_SET (R398): a peer-table entry is written, and register 7 extended (R409). -/
def peerSet (s : State) (peer : Nat) (key : Bytes) : State :=
  { s with sec.peers := tPut s.sec.peers peer (key.take 96) }.measKey peer 0
    (kcvOf { emptySlot with material := key.take 96 })

/-- A BAR0 key command begins: its operands show in `KEYS.CMD`. -/
def keyCmd (s : State) (op src slot : Nat) : State :=
  ((s.setFld Reg.KEYS_CMD_OP op).setFld Reg.KEYS_CMD_SRC src).setFld Reg.KEYS_CMD_SLOT slot

/-- A BAR0 write of `KEYS.CMD` with `GO`: nothing while a command runs (one at a time); without an admin session it is
discarded, except the import of a SESSION slot in PROVISION (R411). -/
def keyWrite (s : State) (sessionImport : Bool) (f : State → State) : State :=
  if !s.barReachable then s
  else
    match s.writeCause Reg.KEYS_CMD with
    | some .session =>
      if sessionImport && s.lifeState == 1 then (if s.sec.op.isSome then s else f s)
      else s.discard Reg.KEYS_CMD false true .session
    | some c => s.discard Reg.KEYS_CMD false true c
    | none => if s.sec.op.isSome then s else f s

/-- A part of the key command that runs has ended; the command ends with its last part. -/
def keyPart (s : State) (o : KeyOp) : State :=
  if o.append.isNone && !o.drop then s.keyDone o.slot 1 o.tag else { s with sec.op := some o }

/-! ## The schedule unit (R403) -/

/-- A DERIVED slot written by the schedule unit. -/
def putDerived (s : State) (n : Nat) (v : Bytes) : State := s.setKeySlot n { s.keySlot n with material := v }

/-- Bytes of fresh random data. -/
def random (s : State) (n : Nat) : Bytes × State :=
  let (a, s1) := s.draw
  let (b, s2) := s1.draw
  ((bytesBE (Config.trng a) ++ bytesBE (Config.trng b)).take n, s2)

/-- The material of a slot the schedule unit may use, or none with the failure shown. -/
def scheduleIn (s : State) (n : Nat) : Option Bytes × State :=
  match s.keyFetch .schedule n with
  | (none, t) => (none, t.emit (.keyFail n))
  | (some k, t) =>
    if k.material.isEmpty then (none, (t.bump (Reg.KEYS_CNT 8) 1).emit (.keyEmpty n)) else (some k.material, t)

/-- An optional input slot of HKDF-Extract; no slot stands for zero. -/
def scheduleOpt (s : State) (n : Option (BitVec 15)) : Option Bytes × State :=
  match n with
  | none => (some [], s)
  | some k => s.scheduleIn k.toNat

end State

open State

/-- KEYS_IMPORT (R395, R396, R399). -/
def execKeysImport (src : BitVec 5) (slot : BitVec 15) (blob : Bytes) (s : State) : Out :=
  .next (s.keyWrite (slot.toNat == 32740 || slot.toNat == 32741) (fun t =>
    (t.keyCmd 1 src.toNat slot.toNat).keyImport src.toNat slot.toNat blob none))

/-- KEYS_EXPORT (R398). -/
def execKeysExport (slot : BitVec 15) (peer : BitVec 4) (s : State) : Out :=
  .next (s.keyWrite false (fun t =>
    let t1 := t.keyCmd 2 (0x10 + peer.toNat) slot.toNat
    match t1.keyExport slot.toNat peer.toNat with
    | (1, blob) => ((t1.emit (.dma (t1.reg Reg.KEYS_ARG) blob)).bump (Reg.KEYS_CNT 2) 1).setKeyResult 1 slot.toNat
    | (r, _) => t1.setKeyResult r slot.toNat))

/-- KEYS_ZEROIZE (R401). -/
def execKeysZeroize (slot : BitVec 15) (s : State) : Out :=
  .next (s.keyWrite false (fun t => (t.keyCmd 3 0 slot.toNat).keyZeroize slot.toNat none))

/-- KEYS_INFO (R394): the epoch, whether the slot holds a key, and its KCV. -/
def execKeysInfo (slot : BitVec 15) (s : State) : Out :=
  .next (s.keyWrite false (fun t =>
    let k := t.keySlot slot.toNat
    (((t.keyCmd 4 0 slot.toNat).setKeyResult 1 slot.toNat).setBit Reg.KEYS_STATUS_FULL (slotFull k)).setReg Reg.KEYS_KCV
      (if slotFull k then kcvOf k else 0)))

/-- KEYS_PEER_SET (R398). -/
def execKeysPeerSet (peer : BitVec 4) (key : Bytes) (s : State) : Out :=
  .next (s.keyWrite false (fun t =>
    ((t.keyCmd 5 0 peer.toNat).peerSet peer.toNat key).setFld Reg.KEYS_STATUS_RESULT 1))

/-- LEDGER_APPEND_DONE (R447): the entry is durable, a reclaim starts when few erased sectors remain, and the key
command completes. -/
def execLedgerAppendDone (s : State) : Out :=
  .next (
    match s.sec.op with
    | some o =>
      match o.append with
      | some e =>
        ((s.ledgerAppend e).ledgerReclaim).keyPart { o with append := none }
      | none => s
    | none => s)

/-- KEY_DROP_DONE (R401). -/
def execKeyDropDone (s : State) : Out :=
  .next (
    match s.sec.op with
    | some o => if o.drop then s.keyPart { o with drop := false } else s
    | none => s)

/-- ECDHE_GEN (R403): fails while the TRNG is stopped (R402). -/
def execEcdheGen (p384 : Bool) (slot : BitVec 15) (s : State) : Out :=
  .next (
    if slotType slot.toNat != .derived || !s.sec.trngOn then s.emit (.keyFail slot.toNat)
    else
      let (priv, t) := s.random (if p384 then 48 else 32)
      (t.putDerived slot.toNat priv).emit (.ecdhePublic slot.toNat (Config.ecPublic priv)))

/-- ECDH (R403): the peer's public key must lie on the curve. -/
def execEcdh (priv : BitVec 15) (peer : Bytes) (dst : BitVec 15) (s : State) : Out :=
  .next (
    match s.scheduleIn priv.toNat with
    | (none, t) => t
    | (some k, t) =>
      if slotType priv.toNat != .derived || slotType dst.toNat != .derived || !Config.onCurve peer then
        t.emit (.keyFail dst.toNat)
      else t.putDerived dst.toNat (Config.ecdhX k peer))

/-- EXTRACT (R403). -/
def execExtract (salt input : Option (BitVec 15)) (dst : BitVec 15) (s : State) : Out :=
  .next (
    match s.scheduleOpt salt with
    | (none, t) => t
    | (some a, t) =>
      match t.scheduleOpt input with
      | (none, u) => u
      | (some b, u) =>
        if slotType dst.toNat != .derived then u.emit (.keyFail dst.toNat)
        else u.putDerived dst.toNat ((Config.hkdfExtract a b).take 48))

/-- A TLS key set with nothing in it. -/
def emptyTlsSet : ConnSet :=
  { ipsec := false, key256 := false, txKey := [], txSalt := [], txSpi := 0, rxKey := [], rxSalt := [], rxSpi := 0, sent := 0 }

/-- EXPAND_LABEL (R403): into a DERIVED slot, or as key and IV into set A or B of a CONN slot. -/
def execExpandLabel (secret : BitVec 15) (label context : Bytes) (dst : ExpandDst) (s : State) : Out :=
  .next (
    match s.scheduleIn secret.toNat with
    | (none, t) => t
    | (some k, t) =>
      let v := Config.hkdfExpandLabel k label context
      match dst with
      | .derived d => if slotType d.toNat != .derived then t.emit (.keyFail d.toNat) else t.putDerived d.toNat (v.take 48)
      | .conn c setB tx =>
        if slotType c.toNat != .conn then t.emit (.keyFail c.toNat)
        else
          let old := t.keySlot c.toNat
          let cs := ((if setB then old.setB else old.setA).getD emptyTlsSet)
          let keyLen := if k.length = 48 then 32 else 16
          let cs1 := if tx then { cs with ipsec := false, key256 := keyLen == 32, txKey := v.take keyLen, txSalt := (v.drop keyLen).take 12, sent := 0 }
            else { cs with ipsec := false, key256 := keyLen == 32, rxKey := v.take keyLen, rxSalt := (v.drop keyLen).take 12 }
          t.setKeySlot c.toNat (if setB then { old with setB := some cs1 } else { old with setA := some cs1 }))

/-- MAC (R403): the HMAC of a 32- or 48-byte transcript hash is returned. -/
def execMac (key : BitVec 15) (hash : Bytes) (s : State) : Out :=
  .next (
    match s.scheduleIn key.toNat with
    | (none, t) => t
    | (some k, t) =>
      if hash.length = 32 || hash.length = 48 then t.emit (.macValue (Config.hmacTls k hash)) else t.emit (.keyFail key.toNat))

/-- SCHED_ZEROIZE (R403). -/
def execSchedZeroize (slot : BitVec 15) (s : State) : Out :=
  .next (
    if slotType slot.toNat = .derived then (s.zeroizeSlot slot.toNat).bump (Reg.KEYS_CNT 3) 1
    else s.emit (.keyFail slot.toNat))

/-- DERIVED_SLOT_EXPIRY (R394). -/
def execDerivedSlotExpiry (slot : BitVec 15) (s : State) : Out :=
  .next (if slotType slot.toNat = .derived && slotFull (s.keySlot slot.toNat) then s.zeroizeSlot slot.toNat else s)

/-- TRNG_HEALTH_FAIL (R402). -/
def execTrngHealthFail (s : State) : Out :=
  .next ({ s with sec.trngOn := false }.event 0x0B06 Reg.KEYS_PAGE 0 0)

/-- TRNG_RECOVER (R402). -/
def execTrngRecover (s : State) : Out := .next { s with sec.trngOn := true }

/-- NOR_ERASE_COMPLETE (R447, R456): the erased sector is counted ahead, and a further reclaim starts when one is
due. -/
def execNorEraseComplete (area : NorArea) (ok : Bool) (s : State) : Out :=
  .next (
    match area with
    | .eventRing =>
      match s.evrec.erasing with
      | none => s
      | some i =>
        if ok then
          (({ s with evrec.erasing := none, evrec.erased := s.evrec.erased + 1 }.bump (Reg.EVREC_CNT 8)
            1).ringReclaim).evrecStatus
        else s.norFail (0x2000000 + i * 65536)
    | .keyLedger =>
      if s.sec.ledger.erasing then
        if ok then
          { s with sec.ledger := { s.sec.ledger with erasing := false, erased := s.sec.ledger.erased + 1 } }.ledgerReclaim
        else s.norFail 0x1C20000
      else s)

end Sys2Proof.Machine
end

