-- ==== Sys2Proof/Machine/Sessions.lean ====
section
/-!
DEFINITION. Sys2Proof/Machine/Sessions.lean: the management digest engine, measurement extends, sessions and their
locks, tamper alarms, and SPDM (R407 to R415).
-/

namespace Sys2Proof.Machine

namespace State

/-! ## Digests -/

/-- The digest of a message under an algorithm, as bytes (R406, R407). -/
def hashBytes (alg : Hash) (msg : Bytes) : Bytes :=
  match alg with
  | .sha256 => bytesBE (Config.sha256 msg)
  | .sha384 => bytesBE (Config.sha384 msg)
  | .sha512 => bytesBE (Config.sha512 msg)

/-- A context is loaded; one that was in use is saved first, under the next save sequence (R405, R407). -/
def ctxLoad (s : State) (i : Nat) (c : DigestCtx) : State :=
  let s1 := match tGet? s.sec.ctxs i with
    | some old =>
      let seq := match tGet? s.sec.saved i with
        | some (_, n, _) => n + 1
        | none => 1
      { s with sec.saved := tPut s.sec.saved i (old, seq, false) }
    | none => s
  { s1 with sec.ctxs := tPut s1.sec.ctxs i c }

/-- A context ends. -/
def ctxEnd (s : State) (i : Nat) : State := { s with sec.ctxs := tDel s.sec.ctxs i }

/-- The session key of a level. -/
def sessionKey (s : State) (l : SessLevel) : Bytes := (s.keySlot (sessionSlot l)).material

/-- The value a context ends with over what it has digested (R407). -/
def ctxValue (s : State) (c : DigestCtx) (msg : Bytes) : Bytes :=
  match c with
  | .plain alg => hashBytes alg msg
  | .inner l => bytesBE (Config.sha256 ((s.sessionKey l).map (fun b => b ^^^ 0x36) ++ msg))
  | .outer l m => bytesBE (Config.hmac256 (s.sessionKey l) m)

/-- `FINAL_COMPARE` (R408): two comparators give MATCH and MATCH_N; a flip is a fault of one. A pair other than (1, 0)
and (0, 1) is recorded as a comparator fault. -/
def compareWith (s : State) (value digest : Bytes) (flipM flipN : Bool) : State :=
  let s0 := s.setRegs (List.zip ((List.range 6).map Reg.MEAS_CMP_VALUE) (words6 (value.take 48)))
  let eq : Bool := value.take (min digest.length 48) == digest.take 48
  let m := xor eq flipM
  let n := xor (!eq) flipN
  let s1 := (((s0.setBit Reg.MEAS_CMP_RESULT_MATCH m).setBit Reg.MEAS_CMP_RESULT_MATCH_N n)).emit (.compared m n)
  if m == n then s1.event 0x0B07 Reg.MEAS_PAGE 0 0 else s1

/-! ## Sessions -/

/-- The admin session closes, with the control channel's writes it granted (R411). -/
def closeAdmin (s : State) : State := s.setFld Reg.SESS_STATUS_ADMIN_ID 0

/-- Consecutive wrong answers of a level. -/
def fails (s : State) (l : SessLevel) : Nat := match l with
  | .admin => s.sec.failsAdmin
  | .monitor => s.sec.failsMonitor

/-- Whether a level is locked (R412). -/
def locked (s : State) (l : SessLevel) : Bool := match l with
  | .admin => s.sec.lockedAdmin
  | .monitor => s.sec.lockedMonitor

/-- The open challenge of a level. -/
def challenge (s : State) (l : SessLevel) : Option Word256 := match l with
  | .admin => s.sec.chalAdmin
  | .monitor => s.sec.chalMonitor

/-- A level's challenge set or consumed. -/
def setChallenge (s : State) (l : SessLevel) (c : Option Word256) : State := match l with
  | .admin => { s with sec.chalAdmin := c }
  | .monitor => { s with sec.chalMonitor := c }

/-- A level's count of wrong answers, shown in `SESS.STATUS.FAILS`. -/
def setFails (s : State) (l : SessLevel) (n : Nat) : State :=
  (match l with
  | .admin => { s with sec.failsAdmin := n }
  | .monitor => { s with sec.failsMonitor := n }).setFld Reg.SESS_STATUS_FAILS (min n 15)

/-- A level is locked for so many seconds (R412). -/
def lockFor (s : State) (l : SessLevel) (secs : Nat) : State :=
  (match l with
  | .admin => { s with sec.lockAdmin := secs, sec.lockedAdmin := true }
  | .monitor => { s with sec.lockMonitor := secs, sec.lockedMonitor := true } : State) |> fun (t : State) =>
  { t with sec.lockUntil := t.now + secs * 1000000000 }.setFld Reg.SESS_STATUS_LOCK_S secs

/-- `SESS.STATUS.LOCK_S` counts down to the end of the lock that it shows. -/
def lockShow (s : State) : State :=
  if s.fld Reg.SESS_STATUS_LOCK_S = 0 || s.sec.lockUntil ≤ s.now then s
  else s.setFld Reg.SESS_STATUS_LOCK_S (ceilDiv (s.sec.lockUntil - s.now) 1000000000)

/-- The length of a level's last lock, 0 before the first. -/
def lastLock (s : State) (l : SessLevel) : Nat := match l with
  | .admin => s.sec.lockAdmin
  | .monitor => s.sec.lockMonitor

/-- A wrong answer (R412): recorded; the fifth in a row locks the level for 60 s, and each one after a lock has ended
doubles the lock, up to 3,600 s. -/
def wrongAnswer (s : State) (l : SessLevel) : State :=
  let n := s.fails l + 1
  let s1 := (s.setFails l n).event 0x0B08 Reg.SESS_PAGE (argWord [(0, if l = .admin then 1 else 2)]) 0
  if s.lastLock l != 0 then s1.lockFor l (min (2 * s.lastLock l) 3600)
  else if 5 ≤ n then s1.lockFor l 60
  else s1

/-- The answer that opens a session (R411): HMAC under the level's key over the challenge, `CHIP.UID`, the level and
the channel. -/
def rightAnswer (s : State) (l : SessLevel) (c : Word256) : Word256 :=
  let tail : Bytes := match l with
    | .admin => [1, 1]
    | .monitor => [2, 2]
  Config.hmac256 (s.sessionKey l) (bytesBE c ++ s.uidBytes ++ tail)

/-- A session opens, if its level has room and the TRNG runs (R402, R411): one admin session, four monitor sessions. SCRAP allows monitor sessions only (R67). -/
def openSession (s : State) (l : SessLevel) : State :=
  let (d, t) := s.draw
  let id : BitVec 32 := BitVec.ofNat 32 (1 + (Config.trng d).toNat % (2 ^ 32 - 1))
  match l with
  | .admin =>
    if t.adminOpen || t.lifeState = 4 || !t.sec.trngOn then t.emit (.sessionRefused .admin)
    else (t.setFld Reg.SESS_STATUS_ADMIN_ID id.toNat).emit (.sessionOpen .admin id)
  | .monitor =>
    if 4 ≤ t.sec.monitors.length || !t.sec.trngOn then t.emit (.sessionRefused .monitor)
    else
      ({ t with sec.monitors := t.sec.monitors ++ [id] }.setFld Reg.SESS_STATUS_MONITORS
        (t.sec.monitors.length + 1)).emit (.sessionOpen .monitor id)

/-- A session request of a level: over BAR0 for the admin level, over MCTP for the monitor level (R411). -/
def sessionAccess (s : State) (l : SessLevel) (addr : Nat) (f : State → State) : State :=
  match l with
  | .admin => s.barWrite addr f
  | .monitor => f s

/-- Whether a monitor session is open. -/
def monitorOpen (s : State) : Bool := !s.sec.monitors.isEmpty

/-! ## Tamper -/

/-- The tamper part of the vault, shown in the `LIFE` registers (R413). -/
def tamperRegs (s : State) : State :=
  ((s.setReg Reg.LIFE_TAMPER_STATUS
    (BitVec.ofNat 64 (s.sec.sources.toNat + (if s.sec.alarms = 0 then 0 else 64) + (if s.sec.latch then 128 else 0)))).setReg
      Reg.LIFE_TAMPER_TIME s.sec.tamperTime)

/-- Every TENANT, CONN, PSK and DERIVED slot and the session-key slots emptied: a tamper response of ZEROIZE (R414) and
the RETURN work (R68). Slots that hold no key keep their epoch. -/
def zeroizeStore (s : State) : State :=
  s.sec.slots.foldl (fun t e => if slotFull e.2 then t.zeroizeSlot e.1 else t) s

/-- The response to an alarm (R414). -/
def tamperResponse (s : State) (source : Nat) (standby : Bool) : State :=
  if !standby then s
  else
    let s1 := s.closeAdmin
    if source < 5 && s.fld Reg.LIFE_TAMPER_CFG_ZEROIZE / 2 ^ source % 2 = 1 then s1.zeroizeStore else s1

/-- Whether a source can alarm: the mesh and `VAULT_LOST` always, an input when it is enabled (R413). -/
def tamperEnabled (s : State) (source : Nat) : Bool :=
  4 ≤ source || s.fld Reg.LIFE_TAMPER_CFG_EN / 2 ^ source % 2 == 1

/-! ## SPDM -/

/-- Whether an SPDM request that needs a session may be answered: a monitor session over MCTP, none over the control
channel (R448, R507). -/
def spdmAllowed (s : State) (ch : Channel) : Bool := ch == .control || s.monitorOpen

/-- An SPDM answer on its channel. -/
def spdmAnswer (s : State) (ch : Channel) (r : SpdmRsp) : State := s.emit (.spdm (ch == .control) r)

/-- A digest of the certificate chain (R410). -/
def chainDigest : Digest := Config.sha384 Config.certChain

/-- The value of a measurement register. -/
def mrValue (s : State) (i : Nat) : Digest :=
  BitVec.ofNat 384 ((s.mrBytes i).foldl (fun n b => n * 256 + b.toNat) 0)

/-- A signature under the identity key, if it can be derived and the TRNG answers (R402). -/
def identitySign (s : State) (msg : Bytes) : Option Bytes × State :=
  let (d, t) := s.draw
  (if !s.sec.trngOn then none else s.identityKey.map (fun k => Config.ecSign k msg d), t)

end State

open State

/-- DIGEST_INIT (R407). -/
def execDigestInit (ctx : Fin 8) (alg : Hash) (s : State) : Out := .next (s.ctxLoad ctx (.plain alg))

/-- DIGEST_KEYPAD_I (R407): the session key comes over the key bus. -/
def execDigestKeypadI (ctx : Fin 8) (level : SessLevel) (s : State) : Out :=
  .next (
    if (s.sessionKey level).isEmpty then (s.bump (Reg.KEYS_CNT 8) 1).emit (.keyEmpty (sessionSlot level))
    else s.ctxLoad ctx (.inner level))

/-- DIGEST_KEYPAD_O (R407): the inner result passes to the outer context inside the engine. -/
def execDigestKeypadO (ctx : Fin 8) (level : SessLevel) (inner : Fin 8) (msg : Bytes) (s : State) : Out :=
  .next (
    if (s.sessionKey level).isEmpty then (s.bump (Reg.KEYS_CNT 8) 1).emit (.keyEmpty (sessionSlot level))
    else
      match tGet? s.sec.ctxs inner with
      | some (.inner l) => if l = level then (s.ctxEnd inner).ctxLoad ctx (.outer level msg) else s
      | _ => s)

/-- DIGEST_RESTORE (R405, R407): a wrapped context is restored once, and only when its sequence is the latest saved;
any other restore of one fails with `CONTEXT`. -/
def execDigestRestore (ctx source : Fin 8) (seq : BitVec 32) (alg : Option Hash) (s : State) : Out :=
  .next (
    match alg with
    | some a => s.ctxLoad ctx (.plain a)
    | none =>
      match tGet? s.sec.saved source with
      | some (c, n, used) =>
        if n = seq.toNat && !used then
          { s with sec.saved := tPut s.sec.saved source (c, n, true), sec.ctxs := tPut s.sec.ctxs ctx c }
        else s.bump (Reg.KEYS_CNT 7) 1
      | none => s.bump (Reg.KEYS_CNT 7) 1)

/-- DIGEST_FINAL (R407): an unkeyed context ends with a readable digest; a keyed one ends only in FINAL_COMPARE. -/
def execDigestFinal (ctx : Fin 8) (msg : Bytes) (s : State) : Out :=
  .next (
    match tGet? s.sec.ctxs ctx with
    | some (.plain alg) => (s.ctxEnd ctx).emit (.digest alg (hashBytes alg msg))
    | _ => s)

/-- DIGEST_FINAL_COMPARE (R408). -/
def execDigestFinalCompare (ctx : Fin 8) (msg value : Bytes) (flipM flipN : Bool) (s : State) : Out :=
  .next (
    match tGet? s.sec.ctxs ctx with
    | some c => (s.ctxEnd ctx).compareWith value (s.ctxValue c msg) flipM flipN
    | none => s)

/-- MEAS_EXT_GO (R409): registers 16 to 23; any other is discarded with cause STATE. -/
def execMeasExtGo (mr : BitVec 5) (s : State) : Out :=
  .next (s.barWrite Reg.MEAS_EXT_CMD (fun t =>
    if 16 ≤ mr.toNat && mr.toNat ≤ 23 then
      (t.setFld Reg.MEAS_EXT_CMD_MR mr.toNat).measExtend mr.toNat
        ((List.range 6).flatMap (fun i => bytesLE (t.reg (Reg.MEAS_EXT_DATA i)).toNat 8))
    else t.discard Reg.MEAS_EXT_CMD false true .state))

/-- CHALLENGE_REQUEST (R411): 32 TRNG bytes for a level that is not locked, while the TRNG runs. -/
def execChallengeRequest (level : SessLevel) (s : State) : Out :=
  .next (s.sessionAccess level Reg.SESS_CHAL_REQ (fun s =>
    if s.locked level || !s.sec.trngOn || !s.mgmt.running then s.emit (.sessionRefused level)
    else
      let (d, t) := s.draw
      let c := Config.trng d
      let t1 := t.setChallenge level (some c)
      match level with
      | .admin => t1.setRegs (List.zip ((List.range 4).map Reg.SESS_CHAL)
          ((List.range 4).map (fun i => BitVec.ofNat 64 (natLE (((bytesBE c).drop (8 * i)).take 8)))))
      | .monitor => t1.emit (.challenge level c)))

/-- CHALLENGE_RESPONSE (R411, R412): the challenge is answered once; the equal pair opens the session and resets the
count, anything else is a wrong answer. -/
def execChallengeResponse (level : SessLevel) (answer : Word256) (s : State) : Out :=
  .next (s.sessionAccess level (Reg.SESS_RESP 3) (fun s =>
    match s.challenge level with
    | none => s
    | some c =>
      let t := s.setChallenge level none
      let t1 := t.compareWith (bytesBE answer) (bytesBE (s.rightAnswer level c)) false false
      if (s.sessionKey level).isEmpty || answer != s.rightAnswer level c then t1.wrongAnswer level
      else
        (match level with
          | .admin => { t1.setFails level 0 with sec.lockAdmin := 0 }
          | .monitor => { t1.setFails level 0 with sec.lockMonitor := 0 }).openSession level))

/-- CHALLENGE_EXPIRY (R411). -/
def execChallengeExpiry (level : SessLevel) (s : State) : Out := .next (s.setChallenge level none)

/-- SESSION_CLOSE (R411). -/
def execSessionClose (level : SessLevel) (id : BitVec 32) (s : State) : Out :=
  .next (
    match level with
    | .admin => if s.fld Reg.SESS_STATUS_ADMIN_ID = id.toNat then s.closeAdmin else s
    | .monitor =>
      let m := s.sec.monitors.filter (fun x => x != id)
      { s with sec.monitors := m }.setFld Reg.SESS_STATUS_MONITORS m.length)

/-- ADMIN_IDLE_TIMEOUT (R411). -/
def execAdminIdleTimeout (s : State) : Out := .next s.closeAdmin

/-- SESSION_LOCK_EXPIRY (R412). -/
def execSessionLockExpiry (level : SessLevel) (s : State) : Out :=
  .next ((match level with
    | .admin => { s with sec.lockedAdmin := false }
    | .monitor => { s with sec.lockedMonitor := false }).setFld Reg.SESS_STATUS_LOCK_S 0)

/-- The vault after both of its supplies were lost (R52, R413): it finds itself uninitialised, and holds what it holds at its own reset. -/
def State.vaultLost (s : State) : State :=
  { s with sec.vault := Sec.reset.vault, sec.latch := Sec.reset.latch, sec.sources := Sec.reset.sources, sec.alarms := Sec.reset.alarms
           sec.tamperTime := Sec.reset.tamperTime, sec.historyKey := Sec.reset.historyKey }

/-- A vault record (R413, R451): the RTC time as time base, the source in its arguments, and in bytes 24 to 31 the first 8 bytes of the HMAC
under the vault history key. Its code and severity are given nowhere: they are Config constants. -/
def State.vaultRecord (s : State) (sec frac source : Nat) : VaultRec :=
  let x := Config.unnamedEvent 413
  let b := layout 24 [(0, 8, sec * 1000000000 + frac * 1000000000 / 32768), (8, 2, x.1.toNat), (10, 1, x.2.toNat + 16 * (s.headIndex % 2)), (16, 8, source)]
  let mac := if s.sec.historyKey then (bytesBE (Config.hmac256 Config.historyKey b)).take 8 else List.replicate 8 0
  ⟨sec, frac, source, b ++ mac⟩

/-- TAMPER_ALARM (R413, R414): a record in the vault event area, the latch, and the response of the supply and the
source. Source 5 is `VAULT_LOST`, which the vault raises after it has lost everything it held (R52). -/
def execTamperAlarm (source : Fin 6) (standby : Bool) (sec : Nat) (frac : Fin 32768) (s0 : State) : Out :=
  .next (
    if !s0.tamperEnabled source then s0
    else
      let s := if source = 5 then s0.vaultLost else s0
      let bit : BitVec 6 := BitVec.ofNat 6 (2 ^ source.val)
      let v := s.sec.vault ++ [s.vaultRecord sec frac.val source.val]
      let s1 := { s with sec.vault := v.drop (v.length - 512)
                         sec.latch := true
                         sec.sources := s.sec.sources ||| bit
                         sec.alarms := s.sec.alarms ||| bit
                         sec.tamperTime := if s.sec.latch then s.sec.tamperTime
                           else BitVec.ofNat 64 (sec * 2 ^ 15 + frac.val) }
      (s1.tamperResponse source standby).tamperRegs)

/-- TAMPER_ALARM_END (R415). -/
def execTamperAlarmEnd (source : Fin 6) (s : State) : Out :=
  .next ({ s with sec.alarms := s.sec.alarms &&& ~~~(BitVec.ofNat 6 (2 ^ source.val)) }.tamperRegs)

namespace State

/-- Whether a write of `TAMPER_CLEAR` clears the latch (R415): it is set, no alarm is present, and the write confirms every source. -/
def tamperClears (s : State) (confirm : BitVec 6) : Bool := s.sec.latch && s.sec.alarms == 0 && confirm == ~~~s.sec.sources

/-- The latch clears on the inverse of the latched sources with no source in alarm (R415): register 9 is extended, the
clear recorded, and the full ledger load started. -/
def tamperClear (s : State) (confirm : BitVec 6) (bad : List Nat) : State :=
  if s.tamperClears confirm then
    let s1 := { s with sec.latch := false, sec.sources := 0, sec.tamperTime := 0 }
    let s2 := s1.measExtend 9 (bytesBE (Config.measured 9 [s.sec.sources.toNat, s.now]))
    ((s2.event 0x0B02 Reg.LIFE_PAGE (argWord [(0, s.sec.sources.toNat)]) 0).ledgerLoad bad).tamperRegs
  else s

end State

/-- LIFE_TAMPER_CLEAR (R415). -/
def execLifeTamperClear (confirm : BitVec 6) (clear : Bool) (bad : List (BitVec 15)) (s : State) : Out :=
  .next (s.barWrite Reg.LIFE_TAMPER_CLEAR (fun t =>
    if clear then t.tamperClear confirm (bad.map BitVec.toNat) else t))

/-- SPDM_GET_VERSION (R410): SPDM 1.2. -/
def execSpdmGetVersion (ch : Channel) (s : State) : Out :=
  .next ({ s with sec.spdmReady := false }.spdmAnswer ch (.version 1 2))

/-- SPDM_GET_CAPABILITIES (R410). -/
def execSpdmGetCapabilities (ch : Channel) (s : State) : Out := .next (s.spdmAnswer ch .capabilities)

/-- SPDM_NEGOTIATE_ALGORITHMS (R410): the one set supported, when it is offered. -/
def execSpdmNegotiateAlgorithms (ch : Channel) (ecdsaP384 sha384 measSha384 : Bool) (s : State) : Out :=
  .next (
    if ecdsaP384 && sha384 && measSha384 then { s with sec.spdmReady := true }.spdmAnswer ch .algorithms
    else s.spdmAnswer ch .unsupported)

/-- SPDM_GET_DIGESTS (R410). -/
def execSpdmGetDigests (ch : Channel) (s : State) : Out :=
  .next (if s.spdmAllowed ch then s.spdmAnswer ch (.digests chainDigest) else s)

/-- SPDM_GET_CERTIFICATE (R410): slot 0 holds the chain. -/
def execSpdmGetCertificate (ch : Channel) (slot : BitVec 8) (offset length : BitVec 16) (s : State) : Out :=
  .next (
    if !s.spdmAllowed ch then s
    else if slot = 0 then s.spdmAnswer ch (.certificate ((Config.certChain.drop offset.toNat).take length.toNat))
    else s.spdmAnswer ch .unsupported)

/-- SPDM_CHALLENGE (R410): signed with the identity key. -/
def execSpdmChallenge (ch : Channel) (slot : BitVec 8) (nonce : Word256) (s : State) : Out :=
  .next (
    if !s.spdmAllowed ch then s
    else if slot != 0 then s.spdmAnswer ch .unsupported
    else
      match s.identitySign (bytesBE chainDigest ++ bytesBE nonce) with
      | (some sig, t) => t.spdmAnswer ch (.challengeAuth chainDigest sig)
      | (none, t) => t.spdmAnswer ch .unsupported)

/-- SPDM_GET_MEASUREMENTS (R410): indices 1 to 24 carry registers 0 to 23. -/
def execSpdmGetMeasurements (ch : Channel) (index : BitVec 8) (signed : Bool) (nonce : Word256) (s : State) : Out :=
  .next (
    if !s.spdmAllowed ch then s
    else if 24 < index.toNat && index != 0xFF then s.spdmAnswer ch .unsupported
    else
      let idx := if index = 0 then [] else if index = 0xFF then (List.range 24).map (· + 1) else [index.toNat]
      let blocks := idx.map (fun i => (i, s.mrValue (i - 1)))
      if signed then
        let (sig, t) := s.identitySign (blocks.flatMap (fun b => bytesBE b.2) ++ bytesBE nonce)
        if sig.isNone then t.spdmAnswer ch .unsupported else t.spdmAnswer ch (.measurements blocks sig)
      else s.spdmAnswer ch (.measurements blocks none))

/-- SPDM_UNSUPPORTED (R410). -/
def execSpdmUnsupported (ch : Channel) (s : State) : Out := .next (s.spdmAnswer ch .unsupported)

end Sys2Proof.Machine
end

