-- ==== Sys2Proof/Machine/Tarren.lean ====
section
/-!
DEFINITION. Sys2Proof/Machine/Tarren.lean: the layout of a Tarren image (R458), read from the image's bytes: little-endian fields, but for the values
of ECDSA and SHA-384.
-/

namespace Sys2Proof.Machine

/-- The little-endian field of `n` bytes at an offset of an image. -/
def imageField (i : Image) (off n : Nat) : Nat := leNumber ((i.bytes.drop off).take n)

/-- An image's bytes from an offset. -/
def imagePart (i : Image) (off n : Nat) : Bytes := (i.bytes.drop off).take n

/-- The number that bytes spell, most significant first. -/
def bigNumber (b : Bytes) : Nat := b.foldl (fun n x => 256 * n + x.toNat) 0

/-- Where the signature lies: behind the header and the manifest. -/
def imageSigAt (i : Image) : Nat := 64 + imageField i 12 4

/-- One component entry (R458): id, offset, length, component version and SHA-384. -/
structure ImageEntry where
  id : Nat
  off : Nat
  len : Nat
  version : Nat
  digest : Digest
  deriving DecidableEq, Repr

/-- The component entries of an image. -/
def imageEntries (i : Image) : List ImageEntry :=
  (List.range (imageField i 6 2)).map (fun k =>
    let at_ := 128 + 80 * k
    ⟨imageField i at_ 2, imageField i (at_ + 4) 4, imageField i (at_ + 8) 4, imageField i (at_ + 12) 4,
      BitVec.ofNat 384 (bigNumber (imagePart i (at_ + 16) 48))⟩)

/-- The manifest's version, `SVN`, `TARGET` and `TARGET_MASK`, the key index, and the image's length. -/
def imageVersion (i : Image) : BitVec 32 := BitVec.ofNat 32 (imageField i 68 4)
def imageSvn (i : Image) : Nat := imageField i 72 1
def imageTarget (i : Image) : BitVec 32 := BitVec.ofNat 32 (imageField i 76 4)
def imageTargetMask (i : Image) : BitVec 32 := BitVec.ofNat 32 (imageField i 80 4)
def imageKeyIndex (i : Image) : Nat := imageField i (imageSigAt i + 4) 1
def imageLen (i : Image) : Nat := i.bytes.length

/-- The public key x ‖ y, the signature r ‖ s, and what is signed: header bytes 0 to 59 followed by the manifest. -/
def imagePublicKey (i : Image) : Bytes := imagePart i (imageSigAt i + 8) 96
def imageSignature (i : Image) : Bytes := imagePart i (imageSigAt i + 104) 96
def imageSigned (i : Image) : Bytes := imagePart i 0 60 ++ imagePart i 64 (imageField i 12 4)

/-- The components: id, the manifest's digest and the bytes. -/
def imageComponents (i : Image) : List (Nat × Digest × Bytes) :=
  (imageEntries i).map (fun e => (e.id, e.digest, imagePart i e.off e.len))

/-- Whether two components overlap. -/
def entriesMeet (a b : ImageEntry) : Bool := decide (a.off < b.off + b.len) && decide (b.off < a.off + a.len)

/-- Whether no component of a list overlaps a later one. -/
def entriesApart : List ImageEntry → Bool
  | [] => true
  | e :: l => l.all (fun x => !entriesMeet e x) && entriesApart l

/-- The check FORMAT of R459 against the layout of R458: magics, format, `CRC`, counts and lengths, `SVN` within its range, and components inside the
image, on 4 KiB boundaries behind the signature, and not overlapping. That a value outside the range of a field, or another magic than the header's, is
a failure of FORMAT is DEDUCED (log entry 151). -/
def imageFormat (i : Image) : Bool :=
  let n := imageField i 6 2
  let first := (imageSigAt i + 200 + 4095) / 4096 * 4096
  imagePart i 0 4 == natBytes [0x54, 0x41, 0x52, 0x4E] && imageField i 4 2 == 1 && decide (1 ≤ n) && decide (n ≤ 8)
    && imageField i 8 4 == imageLen i && imageField i 12 4 == 64 + 80 * n && imageField i 60 4 == crc32c (byteNats (imagePart i 0 60))
    && imagePart i 64 4 == natBytes [0x54, 0x4D, 0x41, 0x4E] && decide (imageSvn i ≤ 32)
    && imagePart i (imageSigAt i) 4 == natBytes [0x54, 0x53, 0x49, 0x47]
    && (imageEntries i).all (fun e => e.off % 4096 == 0 && decide (first ≤ e.off) && decide (e.off + e.len ≤ imageLen i) && decide (1 ≤ e.id) && decide (e.id ≤ 6))
    && entriesApart (imageEntries i)

/-- The check KEY of R459, but for revocation: SHA-384 of the public key equals the ROM key hash at the key index, 0 to 3. -/
def imageKeyOk (i : Image) : Bool :=
  decide (imageKeyIndex i ≤ 3) && Config.sha384 (imagePublicKey i) == Config.romKeyHash (imageKeyIndex i)

end Sys2Proof.Machine
end

