-- ==== Sys2Proof/Machine/Head.lean ====
section
/-!
DEFINITION. Sys2Proof/Machine/Head.lean: what happens to the head as a whole: the registers a reset restores, the fatal
condition (R58), fuse sensing (R67), a management restart (R52), and requests for life-cycle transitions (R68 to R71).
-/

namespace Sys2Proof.Machine

/-! ## What a reset restores -/

/-- The bits of a register that ROS fields hold (R28). -/
def rosMask (r : RegDesc) : Word :=
  r.fields.foldl (fun m f => if f.acc = .ros ∨ f.acc = .rosW1c then m ||| fieldMask f.lo (fieldWidth f) else m) 0

/-- A block-specific register after a reset that keeps ROS fields (R36, R52). -/
def rosKept (key : Nat) (v : Word) : Word :=
  match blockAt (key / 0x10000) with
  | none => v
  | some (b, _) =>
    let off := key % 0x10000
    match findReg b.type (if off < 0x8000 then off else off - 0x8000) with
    | some (r, _) => (regReset key &&& ~~~rosMask r) ||| (v &&& rosMask r)
    | none => regReset key

namespace State

/-- The block-specific registers of a page reset, ROS fields kept. -/
def resetPage (s : State) (page : Nat) : State :=
  (s.regs.filter (fun e => e.1 / 0x10000 == page && 0x100 ≤ e.1 % 0x10000)).foldl
    (fun t e => t.setReg e.1 (rosKept e.1 e.2)) s

end State

/-! ## Fuses (R67) -/

/-- Blown cells of a fuse bit whose three cells start at `lo`. -/
def cellsBlown (cells : BitVec 24) (lo : Nat) : Nat :=
  (List.range 3).foldl (fun n i => n + (cells.getLsbD (lo + i)).toNat) 0

/-- Lowest cell of target `n`'s intent bit. -/
def intentLo (n : Nat) : Nat := 6 * (n - 1)

/-- Lowest cell of target `n`'s commit bit. -/
def commitLo (n : Nat) : Nat := 6 * (n - 1) + 3

/-- A bit reads blown when at least two of its three cells are. -/
def intentBlown (cells : BitVec 24) (n : Nat) : Bool := 2 ≤ cellsBlown cells (intentLo n)

/-- As `intentBlown`, for the commit bit. -/
def commitBlown (cells : BitVec 24) (n : Nat) : Bool := 2 ≤ cellsBlown cells (commitLo n)

/-- The targets, least advanced first. -/
def targets : List Nat := [1, 2, 3, 4]

/-- The state in effect: the most advanced target whose commit bit reads blown. -/
def lifeOf (cells : BitVec 24) : Nat := (targets.reverse.find? (fun n => commitBlown cells n)).getD 0

/-- The target whose intent bit reads blown and whose commit bit does not. -/
def incompleteTarget (cells : BitVec 24) : Option Nat :=
  targets.reverse.find? (fun n => intentBlown cells n && !commitBlown cells n)

/-- Whether a bit's blown cells are the first ones of the order 0, 1, 2. -/
def cellOrderOk (cells : BitVec 24) (lo : Nat) : Bool :=
  (!cells.getLsbD (lo + 1) || cells.getLsbD lo) && (!cells.getLsbD (lo + 2) || cells.getLsbD (lo + 1))

/-- A fuse sense error: a commit bit blown without its intent bit, or a blown cell above an unblown one (R58, R67). -/
def senseError (cells : BitVec 24) : Bool :=
  targets.any (fun n => (commitBlown cells n && !intentBlown cells n) || !cellOrderOk cells (intentLo n)
    || !cellOrderOk cells (commitLo n))

namespace State

/-- The `MGMT` registers that show the anti-rollback count and the revocations (R460). -/
def rollbackRegs (s : State) : State :=
  (s.setFld Reg.MGMT_ROLLBACK_COUNT s.life.rollback).setFld Reg.MGMT_ROLLBACK_REVOKED s.life.revoked.toNat

/-- `CHIP.UID`. -/
def uidRegs (s : State) : State :=
  (s.setReg Reg.CHIP_UID_LO (s.life.uid.setWidth 64)).setReg Reg.CHIP_UID_HI ((s.life.uid >>> 64).setWidth 64)

/-- The registers that show fuses: unique id, life cycle, raw cells, anti-rollback count and revocations. -/
def senseFuses (s : State) : State :=
  let s2 := (s.uidRegs.setFld Reg.LIFE_STATUS_STATE (lifeOf s.life.cells)).setReg Reg.LIFE_FUSE (s.life.cells.setWidth 64)
  let s3 := (s2.setBit Reg.LIFE_STATUS_INCOMPLETE (incompleteTarget s.life.cells).isSome).setFld Reg.LIFE_STATUS_TARGET
    ((incompleteTarget s.life.cells).getD 0)
  s3.rollbackRegs

/-- The registers that show the NOR directory and the slots' images (R445). -/
def norRegs (s : State) : State :=
  let show_ (t : State) (v sv : Fld) (i : Option Image) : State :=
    (t.setFld v ((i.map (fun x => (imageVersion x).toNat)).getD 0)).setFld sv ((i.map (fun x => imageSvn x)).getD 0)
  let s1 := show_ s Reg.MGMT_IMAGE_A_VERSION Reg.MGMT_IMAGE_A_SVN s.mgmt.slotA
  let s2 := show_ s1 Reg.MGMT_IMAGE_B_VERSION Reg.MGMT_IMAGE_B_SVN s.mgmt.slotB
  ((s2.setFld Reg.MGMT_NOR_DIR_SEQ s.mgmt.dirSeq).setBit Reg.MGMT_NOR_DIR_TRIAL s.mgmt.dirTrial).setBit
    Reg.MGMT_NOR_DIR_ACTIVE s.mgmt.dirActive

/-- A directory copy's first 64 bytes (R445). -/
def dirImage (m : Mgmt) : Bytes :=
  let len := fun (i : Option Image) => (i.map (fun x => imageLen x)).getD 0
  let b := layout 60 [(0, 4, 0x5249444E), (4, 4, m.dirSeq), (8, 1, m.dirActive.toNat), (9, 1, m.dirTrial.toNat), (12, 4, len m.slotA), (16, 4, len m.slotB)]
  b ++ leField (crc32c (byteNats b)) 4

/-- The directory changed (R445): the copy not in effect is rewritten under the next sequence number and is then in effect. -/
def dirWrite (s : State) (toB trial : Bool) : State :=
  let m := { s.mgmt with dirActive := toB, dirTrial := trial, dirSeq := s.mgmt.dirSeq + 1, dirCopy := !s.mgmt.dirCopy }
  { s with mgmt := m }.emit (.norWrite (if m.dirCopy then 0x10000 else 0) (dirImage m))

/-! ## The fatal condition -/

/-- The head enters the fatal condition, once and not in reset (R49, R58): the cause is recorded, service and hold-up mode stop, and the
outputs take their fatal levels (R55): the heartbeat low, both fans at full duty, no port up and `PERST#` asserted for every slot. -/
def fatalEnter (s : State) (cause step : Nat) : State :=
  if s.chip.cond = .fatal || s.chip.cond = .reset then s
  else
    let s1 := (s.setFld Reg.MGMT_BOOT_STATUS_FATAL_CAUSE cause).setFld Reg.MGMT_BOOT_STATUS_FAILED_STEP step
    let s2 := s1.event 0x0D01 Reg.MGMT_PAGE (argWord [(0, cause), (1, step)]) 0
    { s2 with chip.cond := .fatal, chip.faultN := false, chip.hbOut := false, chip.holdup := false, chip.holdupActive := false,
              chip.holdupDone := false, pw.fan0 := 1000, pw.fan1 := 1000, fab.up := []
              mo.mods := tMap s2.mo.mods (fun _ m => { m with perstRel := false }) }.setBit Reg.DIKOR_STATUS_HB_OUT_ON false

/-- The boot mode in effect of the latched pins (R51). -/
def modeOf (s : State) (pins : Nat) : Nat := if pins = 0 then 0 else if pins = 2 && s.lifeState = 0 then 2 else 1

/-! ## Management restart -/

/-- A reload of a service core is given up (R469): the core is no longer to be drained, and it is reloaded later. -/
def reloadAbort (s : State) : State :=
  match s.mgmt.reloadCore with
  | none => s
  | some c => { s with mgmt.reloadCore := none, mgmt.reload := c :: s.mgmt.reload }.setBit (Reg.BLK_CTRL_DRAIN (Reg.SVC_PAGE c)) false

/-- A management restart (R52): the management core and the `MGMT` registers restart, the admin session closes, and the
data path runs on. The ledger's SESSION entries load again when a tamper latch is set (R415). -/
def mgmtRestart (s : State) : State :=
  let s1 := ((s.reloadAbort.resetPage Reg.MGMT_PAGE).closeAdmin).setFld Reg.SESS_STATUS_MONITORS 0
  let s2 := { s1 with mgmt.running := false, mgmt.tried := [], mgmt.update := none, mgmt.eid := none,
                      mgmt.eventReceiver := none, mgmt.tid := 0, mgmt.reload := [], mgmt.reloadCore := none, mgmt.compsDue := [], sec.monitors := [], sec.chalAdmin := none,
                      sec.chalMonitor := none, sec.ctxs := [], sec.spdmReady := false }
  let s3 := s2.rollbackRegs.norRegs
  if s3.sec.latch && s3.lifeState == 2 then s3.ledgerLoad [] else s3

/-! ## Life-cycle transitions -/

/-- Whether a target may be requested from a state (R67). -/
def transitionOk (st target : Nat) : Bool :=
  target == 1 && st == 0 || target == 2 && st == 1 || target == 3 && (st == 1 || st == 2) || target == 4 && st != 4

/-- Whether the head owns a volume group or holds a journal record (R71). -/
def holdsData (s : State) : Bool :=
  s.fld Reg.OWN_STATUS_OWNED != 0 || s.fld Reg.SELV_OWN_USED_RECORDS != 0 || s.fld Reg.SELV_MIR_USED_RECORDS != 0

/-- A request for a transition (R68, R71): the refusal's `REQ_ERR`, or none when it is accepted. -/
def lifeRefusal (s : State) (target : Nat) (confirmed : Bool) : Option Nat :=
  if !s.adminOpen then some 4
  else if !confirmed then some 1
  else if s.bit Reg.LIFE_STATUS_BUSY || s.bit Reg.LIFE_STATUS_INCOMPLETE then some 2
  else if !transitionOk s.lifeState target then some 1
  else if 3 ≤ target && s.holdsData then some 3
  else none

/-- The first cell of a bit that is not blown. -/
def firstUnblown (cells : BitVec 24) (lo : Nat) : Nat := ((List.range 3).find? (fun i => !cells.getLsbD (lo + i))).getD 2

/-- An accepted request begins with the intent bit and is extended into register 8 (R68, R409). -/
def lifeBegin (s : State) (target : Nat) : State :=
  let s1 := ((s.setFld Reg.LIFE_STATUS_REQ_ERR 0).setBit Reg.LIFE_STATUS_BUSY true).setFld Reg.LIFE_STATUS_TARGET target
  { s1.measExtend 8 (bytesBE (Config.measured 8 [target, s.now])) with
    life.phase := .intent (firstUnblown s.life.cells (intentLo target)) }

/-- A request under an admin session: begun, or refused with every fuse unchanged. -/
def lifeRequest (s : State) (target : Nat) (confirmed : Bool) : State :=
  match s.lifeRefusal target confirmed with
  | some e => s.setFld Reg.LIFE_STATUS_REQ_ERR e
  | none => s.lifeBegin target

/-- A write of `LIFE.REQ`: `CONFIRM` must be the inverse of `TARGET` as a byte (R71). -/
def lifeReqWrite (s : State) (target : Nat) (confirm : BitVec 8) : State :=
  let s1 := s.barWrite Reg.LIFE_REQ (fun t => t.lifeRequest target (confirm == ~~~(BitVec.ofNat 8 target)))
  if s.barReachable && s.writeCause Reg.LIFE_REQ == some .session then s1.setFld Reg.LIFE_STATUS_REQ_ERR 4 else s1

/-- A transition stops where it stands; the next boot repairs it (R69, R70). -/
def lifeStop (s : State) : State := { s with life.phase := .idle, life.stopping := false }.setBit Reg.LIFE_STATUS_BUSY false

/-- Whether a session key is provisioned: its slot holds it, or the newest ledger entry of the slot does, which is all there is before
the key store is powered (R68, R69; DESIGN CHOICE, log entry 66). -/
def sessionKeyHeld (s : State) (slot : Nat) : Bool :=
  slotFull (s.keySlot slot)
    || (((s.sec.ledger.sectors.flatten.filter (fun e => e.kind != 3 && e.slot == slot)).getLast?).map
        (fun e => e.kind == 1 && !e.material.isEmpty)).getD false

/-- A fuse cell read as blown. -/
def blowCell (s : State) (i : Nat) : State := { s with life.cells := s.life.cells ||| (1#24 <<< i) }

/-- The RETURN work (R68): every slot, the dump key and the session keys zeroized, the vault history key cleared. -/
def returnWork (s : State) : State := { s.zeroizeStore with sec.dumpKey := false, sec.historyKey := false }

/-- The target's work between intent and commit; none when the DEPLOYED check fails (R68). -/
def lifeWork (s : State) (target : Nat) : Option State :=
  match target with
  | 1 => some { s with life.testDisable := true }
  | 2 =>
    if s.sessionKeyHeld 32740 && s.sessionKeyHeld 32741 then
      some (s.recordFrom Config.deployedEventCode.toNat Config.deployedEventSev.toNat 0x0061 0
        (argWord [(0, target)]) 0)
    else none
  | 3 => some s.returnWork
  | 4 => some { s.returnWork with life.fuseRootDisable := true }
  | _ => none

end State

open State

/-- LIFE_REQ_PROVISION (R68, R71). -/
def execLifeReqProvision (confirm : BitVec 8) (s : State) : Out := .next (s.lifeReqWrite 1 confirm)

/-- LIFE_REQ_DEPLOYED (R68, R71). -/
def execLifeReqDeployed (confirm : BitVec 8) (s : State) : Out := .next (s.lifeReqWrite 2 confirm)

/-- LIFE_REQ_RETURN (R71). -/
def execLifeReqReturn (confirm : BitVec 8) (s : State) : Out := .next (s.lifeReqWrite 3 confirm)

/-- LIFE_REQ_SCRAP (R71). -/
def execLifeReqScrap (confirm : BitVec 8) (s : State) : Out := .next (s.lifeReqWrite 4 confirm)

end Sys2Proof.Machine
end

