-- ==== Sys2Proof/Machine/Management.lean ====
section
/-!
DEFINITION. Sys2Proof/Machine/Management.lean: the management core's watchdog, live update, sensors and external
interfaces (R446 to R450, R458 to R461).
-/

namespace Sys2Proof.Machine

namespace State

/-! ## Live update -/

/-- The boot mode in effect (R51). -/
def bootMode (s : State) : Nat := s.fld Reg.MGMT_BOOT_STATUS_MODE

/-- Whether RECOVERY is in effect: value 1, and values that are treated as RECOVERY are latched as 1 (R51). -/
def recovery (s : State) : Bool := s.bootMode == 1

/-- `CHIP_IDENT` bits [63:32], which a Tarren target names (R458). -/
def chipIdentHigh (s : State) : BitVec 32 := (s.reg Reg.CHIP_CHIP_IDENT >>> 32).setWidth 32

/-- The checks of R459 in order: the first that fails, or 1. -/
def imageResult (s : State) (i : Image) : Nat :=
  if !imageFormat i || 14 * 2 ^ 20 < imageLen i || !(imageComponents i).any (fun c => c.1 == 1) || !(imageComponents i).any (fun c => c.1 == 2)
    then 2
  else if s.chipIdentHigh &&& imageTargetMask i != imageTarget i then 3
  else if !imageKeyOk i || s.life.revoked.getLsbD (imageKeyIndex i) then 4
  else if !Config.ecVerify (imagePublicKey i) (imageSigned i) (imageSignature i) then 5
  else if imageSvn i < s.life.rollback then 6
  else if (imageComponents i).any (fun c => Config.sha384 c.2.2 != c.2.1) then 7
  else 1

/-- Whether an image is accepted (R65, R459). -/
def imageOk (s : State) (i : Image) : Bool := s.imageResult i == 1

/-- The `ACCEPTABLE` bits: each slot's image passes R459 now. -/
def acceptableRegs (s : State) : State :=
  (s.setBit Reg.MGMT_IMAGE_A_ACCEPTABLE ((s.mgmt.slotA.map s.imageOk).getD false)).setBit Reg.MGMT_IMAGE_B_ACCEPTABLE
    ((s.mgmt.slotB.map s.imageOk).getD false)

/-- The number of an update source (`MGMT.UPD_STATUS.SOURCE`). -/
def updSourceValue : UpdSource → Nat
  | .pldm => 1
  | .control => 2
  | .uart => 3

/-- An update that fails is recorded and leaves the directory unchanged (R461). -/
def updateFail (s : State) (result : Nat) : State :=
  (({ s with mgmt.update := none }.setFld Reg.MGMT_UPD_STATUS_RESULT result).setFld Reg.MGMT_UPD_STATUS_STEP 0).event
    0x0D04 Reg.MGMT_PAGE (argWord [(0, result)]) 0

/-- An update is under way: up to its directory, or restarted into its image and not yet confirmed (R461). -/
def updating (s : State) : Bool := s.mgmt.update.isSome || s.mgmt.updated.isSome

/-- Whether an update is refused with result 8: RETURN and SCRAP, where RECOVERY refuses SCRAP alone (R459). -/
def updateState (s : State) : Bool := if s.recovery then s.lifeState == 4 else 3 ≤ s.lifeState

/-- An update begins (R461): its image is verified in the source buffer, and the slot not in effect is programmed. -/
def updateBegin (s : State) (src : UpdSource) (i : Image) (tag : Option Nat) : State :=
  let s1 := s.setFld Reg.MGMT_UPD_STATUS_SOURCE (updSourceValue src)
  let r := if s.updateState then 8 else s.imageResult i
  if r = 1 then
    ({ s1 with mgmt.update := some (src, i, tag) }.setFld Reg.MGMT_UPD_STATUS_STEP 2).setFld Reg.MGMT_UPD_STATUS_RESULT 0
  else (s1.updateFail r).ctlAnswer tag (if r = 8 then .state else .invalidField) (BitVec.ofNat 64 r) 0

/-- The slot not in effect takes the image, the directory names it as a trial, and management restarts into it (R445,
R461). -/
def updateInstall (s : State) (src : UpdSource) (i : Image) (tag : Option Nat) : State :=
  let toB := !s.mgmt.dirActive
  let s1 := { s with mgmt.slotA := if toB then s.mgmt.slotA else some i
                     mgmt.slotB := if toB then some i else s.mgmt.slotB
                     mgmt.updated := some src
                     mgmt.afterWatchdog := false }.dirWrite toB true
  (s1.ctlAnswer tag .ok ((imageVersion i).setWidth 64) 0).mgmtRestart

/-! ## Interfaces -/

/-- The endpoint ID in effect: the bus owner's, else the static one (R448). -/
def mctpEid (s : State) : Nat := (s.mgmt.eid.map BitVec.toNat).getD (s.act Reg.MGMT_IF_CFG_MCTP_EID)

/-- A numeric sensor's reading by PLDM sensor id (R449). -/
def sensorReading (s : State) (id : Nat) : Option Nat :=
  if 1 ≤ id ∧ id ≤ 64 then some (s.fld (Reg.THERM_SENSOR_TEMP (id - 1)))
  else if 101 ≤ id ∧ id ≤ 140 then some (s.fld (Reg.MGMT_VMON_MV (id - 101)))
  else if 201 ≤ id ∧ id ≤ 224 then some (s.fld (Reg.MGMT_IMON_DA (id - 201)))
  else if 301 ≤ id ∧ id ≤ 304 then some (s.fld (Reg.THERM_FAN_RPM (id - 301)))
  else if id = 401 then some (s.fld Reg.PWR_STATUS_P_MEAS_W)
  else none

/-- The sensor ids in order (R449): the numeric sensor records of the descriptor repository. -/
def sensorIds : List Nat :=
  (List.range 64).map (· + 1) ++ (List.range 40).map (· + 101) ++ (List.range 24).map (· + 201)
    ++ (List.range 4).map (· + 301) ++ [401]

/-- A management-interface request is answered while management runs. -/
def ifRunning (s : State) (f : State → State) : State := if s.mgmt.running then f s else s

/-- A request over SMBus that needs a monitor session (R448). -/
def ifMonitor (s : State) (f : State → State) : State := if s.mgmt.running && s.monitorOpen then f s else s

end State

open State

/-- MGMT_WATCHDOG_EXPIRY (R54): a restart, or, when another expiry lies within 60 s, fatal cause 6. -/
def execMgmtWatchdogExpiry (s : State) : Out :=
  .next (
    let recent := s.mgmt.wdogTimes.filter (fun t => s.now < t + 60 * 10 ^ 9)
    let s1 := { s with mgmt.wdogTimes := s.now :: recent, mgmt.afterWatchdog := true }.event 0x0D07 Reg.MGMT_PAGE
      (argWord [(0, recent.length + 1)]) 0
    if recent.isEmpty then s1.mgmtRestart else s1.fatalEnter 6 0)

/-- PLDM_FIRMWARE_UPDATE (R459, R461): a second request completes with ALREADY_IN_UPDATE_MODE. -/
def execPldmFirmwareUpdate (image : Image) (s : State) : Out :=
  .next (s.ifMonitor (fun t =>
    if t.updating then t.emit (.pldm .alreadyInUpdateMode [])
    else (t.emit (.pldm .success [])).updateBegin .pldm image none))

/-- UART_IMAGE_RECEIVE (R448): only in RECOVERY. -/
def execUartImageReceive (image : Image) (s : State) : Out :=
  .next (s.ifRunning (fun t =>
    if t.recovery && !t.updating then t.updateBegin .uart image none else t))

/-- UPDATE_SLOT_PROGRAMMED (R445, R461). -/
def execUpdateSlotProgrammed (ok : Bool) (s : State) : Out :=
  .next (
    match s.mgmt.update with
    | none => s
    | some (src, i, tag) =>
      if ok then { s with mgmt.update := none }.updateInstall src i tag
      else (s.updateFail 9).ctlAnswer tag .fault 9 0)

/-- TRIAL_CONFIRM (R446, R461). -/
def execTrialConfirm (s : State) : Out :=
  .next (
    if s.mgmt.dirTrial && s.mgmt.running then
      let s1 := ({ s with mgmt.updated := none }.dirWrite s.mgmt.dirActive false).norRegs
      let img := if s.mgmt.dirActive then s.mgmt.slotB else s.mgmt.slotA
      match s.mgmt.updated, img with
      | some _, some i =>
        ((s1.setFld Reg.MGMT_UPD_STATUS_STEP 0).setFld Reg.MGMT_UPD_STATUS_RESULT 1).event 0x0D03 Reg.MGMT_PAGE
          (argWord [(0, (imageVersion i).toNat), (4, imageSvn i)]) 0
      | _, _ => s1
    else s)

/-- SENSOR_SAMPLE (R449). -/
def execSensorSample (sample : Sensor) (s : State) : Out :=
  .next (
    match sample with
    | .voltage n mv => s.setFld (Reg.MGMT_VMON_MV n) mv.toNat
    | .current n da => s.setFld (Reg.MGMT_IMON_DA n) da.toNat
    | .fan n rpm => s.setFld (Reg.THERM_FAN_RPM n) rpm.toNat
    | .chipPower w => s.setFld Reg.PWR_STATUS_P_MEAS_W w.toNat)

/-- The number of a detector in the `GLITCH` event (R452). -/
def detectorValue : Detector → Nat
  | .vddStby => 0
  | .vddCore7 => 1
  | .mgmtRefclk => 2

/-- GLITCH_DETECT (R450): a glitch on `VDD_STBY` or `MGMT_REFCLK` also restarts management. -/
def execGlitchDetect (detector : Detector) (s : State) : Out :=
  .next (
    let s1 := s.event 0x0D06 Reg.MGMT_PAGE (argWord [(0, detectorValue detector)]) 0
    if detector = .vddCore7 then s1 else s1.mgmtRestart)

/-- PLDM_BASE_COMMAND (R448). -/
def execPldmBaseCommand (cmd : PldmBase) (s : State) : Out :=
  .next (s.ifRunning (fun t =>
    match cmd with
    | .setTid tid => { t with mgmt.tid := tid }.emit (.pldm .success [])
    | .getTid => t.emit (.pldm .success [t.mgmt.tid.toNat])
    | .getVersion ty =>
      if ty = 0 then t.emit (.pldm .success [Config.pldmBaseVersion])
      else if ty = 2 then t.emit (.pldm .success [1, 2])
      else if ty = 5 then t.emit (.pldm .success [1, 1])
      else t.emit (.pldm .invalid [])
    | .getTypes => t.emit (.pldm .success [0, 2, 5])
    | .getCommands ty =>
      if ty = 0 then t.emit (.pldm .success [0x01, 0x02, 0x03, 0x04, 0x05])
      else if ty = 2 then t.emit (.pldm .success [0x04, 0x0A, 0x11, 0x21, 0x51])
      else if ty = 5 then t.emit (.pldm .success [0x01, 0x02, 0x10, 0x14, 0x15, 0x16, 0x17, 0x18, 0x19, 0x1A, 0x1B, 0x1C, 0x1D])
      else t.emit (.pldm .invalid [])))

/-- PLDM_GET_PDR (R448): handle 0 names the first record; the answer holds the next handle and the sensor id. -/
def execPldmGetPdr (handle : BitVec 32) (s : State) : Out :=
  .next (s.ifMonitor (fun t =>
    let i := if handle = 0 then 0 else handle.toNat - 1
    match sensorIds[i]? with
    | some id => t.emit (.pldm .success [if i + 1 < sensorIds.length then i + 2 else 0, id])
    | none => t.emit (.pldm .invalid [])))

/-- PLDM_GET_SENSOR_READING (R448, R449). -/
def execPldmGetSensorReading (id : BitVec 16) (s : State) : Out :=
  .next (s.ifMonitor (fun t =>
    match t.sensorReading id.toNat with
    | some v => t.emit (.pldm .success [v])
    | none => t.emit (.pldm .invalid [])))

/-- PLDM_GET_STATE_SENSOR_READINGS (R448): R449 gives numeric sensors only, so no id names a state sensor. -/
def execPldmGetStateSensorReadings (_id : BitVec 16) (s : State) : Out :=
  .next (s.ifMonitor (fun t => t.emit (.pldm .invalid [])))

/-- PLDM_SET_EVENT_RECEIVER (R448). -/
def execPldmSetEventReceiver (eid : BitVec 8) (s : State) : Out :=
  .next (s.ifMonitor (fun t => { t with mgmt.eventReceiver := some eid }.emit (.pldm .success [])))

/-- PLDM_UNSUPPORTED (R448). -/
def execPldmUnsupported (s : State) : Out := .next (s.ifRunning (fun t => t.emit (.pldm .unsupported [])))

/-- MCTP_SET_ENDPOINT_ID (R448). -/
def execMctpSetEndpointId (eid : BitVec 8) (s : State) : Out :=
  .next (s.ifRunning (fun t => { t with mgmt.eid := some eid }.emit (.mctpControl [eid.toNat])))

/-- MCTP_GET_ENDPOINT_ID (R448). -/
def execMctpGetEndpointId (s : State) : Out := .next (s.ifRunning (fun t => t.emit (.mctpControl [t.mctpEid])))

/-- MCTP_GET_VERSION_SUPPORT (R448): base version 1.3. -/
def execMctpGetVersionSupport (s : State) : Out := .next (s.ifRunning (fun t => t.emit (.mctpControl [1, 3])))

/-- MCTP_GET_MESSAGE_TYPE_SUPPORT (R448): PLDM and SPDM. -/
def execMctpGetMessageTypeSupport (s : State) : Out := .next (s.ifRunning (fun t => t.emit (.mctpControl [1, 5])))

/-- MCTP_OTHER_TYPE (R448): discarded. -/
def execMctpOtherType (s : State) : Out := .next s

/-- The number of an answered out-of-band frame kind. -/
def oobKind : OobFrame → Nat
  | .arp => 0
  | .neighbour => 1
  | .echo => 2
  | .other => 3

/-- OOB_FRAME_RECEIVE (R448): ARP, ND and ICMP echo for this port's address are answered; every other frame is
discarded. -/
def execOobFrameReceive (frame : OobFrame) (forUs : Bool) (data : Bytes) (s : State) : Out :=
  .next (s.ifRunning (fun t =>
    if forUs && t.act Reg.MGMT_IF_CFG_OOB_EN == 1 && frame != .other then t.emit (.oobReply (oobKind frame) data) else t))

end Sys2Proof.Machine
end

