-- ==== Sys2Proof/Machine/Upstream.lean ====
section
/-!
DEFINITION. Sys2Proof/Machine/Upstream.lean: the upstream endpoint, its resets and power states, the command rings, the
fetch and completion of control commands, and the presence of the control plane (R492 to R508).
-/

namespace Sys2Proof.Machine

/-- The number of a completion status (R503). -/
def CtlStatus.code : CtlStatus → Nat
  | .ok => 0 | .invalidOpcode => 1 | .invalidField => 2 | .session => 3 | .state => 4 | .limit => 5 | .notFound => 6 | .exists => 7
  | .busy => 8 | .dma => 9 | .notHere => 10 | .replayed => 11 | .inProgress => 12 | .key => 13 | .fault => 14

/-- The 32 bytes of a completion entry (R501). -/
def completionImage (phase : Bool) (cmdId : BitVec 32) (st : CtlStatus) (sqHead : Nat) (token r0 r1 : Word) : Bytes :=
  layout 32 [(0, 4, cmdId.toNat), (4, 2, st.code), (6, 2, sqHead), (8, 8, token.toNat), (16, 8, r0.toNat), (24, 4, r1.toNat), (31, 1, phase.toNat)]

namespace State

/-! ## The endpoint -/

/-- The four `UPEP` quads take a power state (R421, R496). -/
def upepPower (s : State) (st : Nat) : State :=
  ([170, 171, 172, 173].foldl (fun t d => t.setFld (Reg.PWR_DOM_STATE d) st) s).setFld (Reg.BLK_STATE_PWR Reg.UPEP_PAGE) st

/-- The endpoint, a block of the main domain, powers up while the main rails are good, the head is out of reset and `PERST_N` is high (R49, R496). -/
def upepOn (s : State) : State := if s.chip.cond = .reset || !s.chip.mainPwrOk || !s.chip.perstN then s else s.upepPower PWR_ON

/-- DMA has become possible again: held vectors are sent and waiting event entries go to the ring (R496). -/
def dmaReturn (s : State) : State := s.msixRelease.evDrain

/-- A ring's indexes. -/
def ring (s : State) (r : Nat) : Ring :=
  tGet s.up.rings r { sqHead := 0, sqTail := 0, cqHead := 0, cqTail := 0, phase := true }

/-- A ring's indexes written. -/
def setRing (s : State) (r : Nat) (x : Ring) : State := { s with up.rings := tPut s.up.rings r x }

/-- The `EN` bits of the rings as `CTLCH.STATUS` shows them. -/
def ringStatus (s : State) : State :=
  (s.setFld Reg.CTLCH_STATUS_RING_EN
    ((List.range 16).foldl (fun n r => n + s.fld (Reg.CTLCH_RING_SIZE_EN r) * 2 ^ r) 0)).setFld Reg.CTLCH_STATUS_EV_EN
      (s.fld Reg.CTLCH_EV_RING_SIZE_EN)

/-- A ring is taken away (R499): its commands in progress run on without posting, and its finished ones are kept. -/
def ringDrop (s : State) (r : Nat) : State :=
  let finished := (s.up.cmds.filter (fun c => c.2.ring == r && !c.2.orphan && c.2.done.isSome)).length
  let s1 := (s.setFld (Reg.CTLCH_RING_SIZE_EN r) 0).bump (Reg.CTLCH_CNT 2) finished
  { s1 with
    up.cmds := (s.up.cmds.filter (fun c => !(c.2.ring == r && c.2.done.isSome))).map
      (fun c => if c.2.ring = r then (c.1, { c.2 with orphan := true }) else c)
    up.kept := s1.up.kept + finished }

/-- Every ring is taken away, the event ring too. -/
def ringDropAll (s : State) : State :=
  (((List.range 16).foldl ringDrop s).setFld Reg.CTLCH_EV_RING_SIZE_EN 0).ringStatus

/-- The scope that `PERST_N` and Function Level Reset share (R52, R495, R499): configuration space and BAR settings,
and every ring. -/
def endpointReset (s : State) : State :=
  { s with up.busMaster := false, up.pmeStatus := false, up.pmeEn := false, up.bars := [], up.subsystem := 0x00001FB0 }.ringDropAll

/-- The bits of BAR `n` that are writable, as its low and high register show them (R493). -/
def barMask (n : Fin 6) : BitVec 32 :=
  match n with
  | 0 => 0xE0000000
  | 1 => 0xFFFFFFFF
  | 2 => 0x00000000
  | 3 => 0xFFFFFFF0
  | 4 => 0xFF000000
  | 5 => 0xFFFFFFFF

/-- The type bits of a BAR register: 64-bit, prefetchable for BAR2/3 (R493). -/
def barType (n : Fin 6) : BitVec 32 :=
  match n with
  | 0 => 0x4
  | 2 => 0xC
  | 4 => 0x4
  | _ => 0

/-- A configuration register's value (R492, R493); an absent capability reads 0. -/
def cfgRead (s : State) (r : CfgReg) : BitVec 32 :=
  match r with
  | .ids => 0x72401FB0
  | .classRevision => 0x05800000 ||| ((s.reg Reg.CHIP_CHIP_IDENT >>> 32).setWidth 32 &&& 0xFF)
  | .subsystem => s.up.subsystem
  | .command => if s.up.busMaster then 4 else 0
  | .bar n => (tGet s.up.bars n 0 &&& barMask n) ||| barType n
  | .serialLow => (s.reg Reg.CHIP_UID_LO).setWidth 32
  | .serialHigh => (s.reg Reg.CHIP_UID_LO >>> 32).setWidth 32
  | .pmControl =>
    BitVec.ofNat 32 ((if s.up.pmeStatus then 2 ^ 15 else 0) + (if s.up.pmeEn then 2 ^ 8 else 0) + s.fld Reg.UPEP_LINK_DSTATE)
  | .absent => 0

/-- `WAKE_N` is released, and held off for 1 s (R497). -/
def wakeRelease (s : State) : State :=
  if s.chip.wakeN then s else { s with chip.wakeN := true, up.wakeHold := true }

/-- A configuration register written. -/
def cfgWrite (s : State) (r : CfgReg) (d : BitVec 32) : State :=
  match r with
  | .command => { s with up.busMaster := d.getLsbD 2 }.dmaReturn.upRefresh
  | .bar n => { s with up.bars := tPut s.up.bars n (d &&& barMask n) }
  | .subsystem => if s.rwlLocked then s else { s with up.subsystem := d }
  | .pmControl =>
    let s1 := { s with up.pmeEn := d.getLsbD 8 }
    if d.getLsbD 15 then ({ s1 with up.pmeStatus := false }.wakeRelease).upRefresh else s1
  | _ => s

/-! ## Commands -/

/-- Where an opcode may execute (R506). -/
inductive Scope where
  /-- array and tenant scope: the configuration head -/
  | config
  /-- group, volume, snapshot and relationship scope: the owner, checked when the object is known -/
  | owner
  | anyHead
  deriving DecidableEq, Repr

/-- One row of the opcode table (R507): opcode, whether an admin session is needed, whether it is refused outside
PROVISION and DEPLOYED, and its scope. -/
def opcodeTable : List (Nat × Bool × Bool × Scope) := [
  (0x0001, false, false, .anyHead), (0x0002, true, true, .config), (0x0003, false, true, .anyHead),
  (0x0004, false, true, .owner), (0x0005, false, true, .anyHead), (0x0006, false, true, .anyHead),
  (0x0010, false, true, .config), (0x0011, true, true, .config), (0x0012, false, true, .config),
  (0x0013, false, true, .config), (0x0014, false, true, .config), (0x0015, false, true, .config),
  (0x0020, false, true, .config), (0x0021, false, true, .owner), (0x0022, false, true, .owner),
  (0x0023, false, true, .owner), (0x0024, false, true, .owner), (0x0025, false, true, .owner),
  (0x0026, false, true, .owner), (0x0027, false, true, .owner), (0x0028, false, true, .owner),
  (0x0030, false, true, .owner), (0x0040, false, true, .owner), (0x0041, false, true, .owner),
  (0x0042, false, true, .owner), (0x0050, true, true, .anyHead), (0x0051, true, true, .anyHead),
  (0x0052, true, true, .anyHead), (0x0053, true, true, .anyHead), (0x0054, false, false, .anyHead),
  (0x0055, true, true, .anyHead), (0x0056, true, false, .anyHead), (0x0057, true, false, .anyHead),
  (0x0060, true, false, .anyHead), (0x0061, true, true, .anyHead), (0x0070, false, true, .anyHead)]

/-- Whether this head is the configuration head: head 0 while paired, and the serving head in solo mode (R506). -/
def configHead (s : State) : Bool :=
  s.fld Reg.OWN_STATUS_ROLE == 2 && s.headIndex == 0 || s.fld Reg.OWN_STATUS_ROLE == 3

/-- What the checks at fetch decide (R498, R503, R505, R506): a status and results to finish with, or none to start. -/
def fetchCheck (s : State) (opcode : Nat) (token : Word) (session : BitVec 32) : Option (CtlStatus × Word × Word) :=
  match (if token = 0 then none else s.up.results.find? (fun r => r.1 == token)) with
  | some (_, r0, r1) => some (.replayed, r0, r1)
  | none =>
    if token != 0 && s.up.cmds.any (fun c => c.2.token == token && c.2.done.isNone) then some (.inProgress, 0, 0)
    else
      match opcodeTable.find? (fun o => o.1 == opcode) with
      | none => none
      | some (_, a, lifeBound, sc) =>
        if a && !(s.adminOpen && s.fld Reg.SESS_STATUS_ADMIN_ID == session.toNat) then some (.session, 0, 0)
        else if lifeBound && !(s.lifeState == 1 || s.lifeState == 2) then some (.state, 0, 0)
        else if sc = .config && !s.configHead then
          some (.notHere, BitVec.ofNat 64 (if s.fld Reg.OWN_STATUS_ROLE = 2 then 0 else 1 - s.headIndex), 0)
        else none

/-- Whether a fetched command may start: it has not finished, and with `BARRIER` every earlier command of its ring has
completed (R501). -/
def ctlReady (s : State) (tag opcode : Nat) : Bool :=
  match tGet? s.up.cmds tag with
  | none => false
  | some c =>
    c.done.isNone && c.waits.isNone && c.opcode == opcode
      && !(c.barrier && s.up.cmds.any (fun e => e.1 < tag && e.2.ring == c.ring && e.2.done.isNone))

/-- A control command has had its effect: it completes once every record in `seqs` is MIRRORED (R504). -/
def ctlHold (s : State) (tag : Nat) (seqs : List Nat) (r0 r1 : Word) : State :=
  if seqs.isEmpty then s.ctlFinish tag .ok r0 r1
  else { s with up.cmds := tMod s.up.cmds tag (fun c => { c with waits := some (seqs, r0, r1) }) }

/-- Opcodes with a data buffer in head-processor memory (R507). -/
def bufferOpcodes : List Nat := [0x01, 0x10, 0x12, 0x13, 0x15, 0x22, 0x26, 0x30, 0x40, 0x41, 0x50, 0x51, 0x53, 0x54, 0x55, 0x60]

/-- A control command executes when it has been fetched with its opcode and may start, and its entry and buffer are in order
(R503): its status, results and the state it leaves, or none for a command that another step finishes. A command with a data buffer is
held while DMA is not possible (R53). -/
def ctlRun (s : State) (tag opcode : Nat) (buf : CtlBuf) (f : State → Option (CtlStatus × Word × Word) × State) : State :=
  if !s.ctlReady tag opcode || (bufferOpcodes.contains opcode && !s.dmaAllowed) then s
  else
    match buf with
    | .bad => s.ctlFinish tag .invalidField 0 0
    | .dma => s.ctlFinish tag .dma 0 0
    | .good =>
      let q := (s.reg Reg.SELV_OWN_NEXT_SEQ).toNat
      match f s with
      | (none, t) => t
      | (some (st, r0, r1), t) =>
        if st = .ok then
          let n := (t.reg Reg.SELV_OWN_NEXT_SEQ).toNat - q
          t.ctlHold tag ((List.range n).map (fun i => q + i)) r0 r1
        else s.ctlFinish tag st r0 r1

end State

open State

/-- PERST_ASSERT (R52, R53, R499). -/
def execPerstAssert (s : State) : Out :=
  .next (
    if !s.chip.perstN then s
    else
      let s1 := { s with chip.perstN := false }.endpointReset.closeAdmin
      ((((s1.setReg Reg.UPEP_LINK 0).setBit Reg.CTLCH_STATUS_PERST true).bump (Reg.UPEP_CNT 3) 1).upepPower PWR_GATED).upRefresh)

/-- PERST_RELEASE (R49, R495): the endpoint, a block of the main domain, powers up while the main rails are good and the head is out of
reset. -/
def execPerstRelease (s : State) : Out :=
  .next ({ s with chip.perstN := true }.upepOn).upRefresh

/-- CONFIG_REQUEST (R492, R493, R495): Request Retry Status before the endpoint is ready. -/
def execConfigRequest (write : Bool) (reg : CfgReg) (data : BitVec 32) (s : State) : Out :=
  .next (
    if !s.chip.perstN || s.chip.cond == .reset then s
    else if !s.up.cfgReady then s.emit .cfgRetry
    else if write then (s.cfgWrite reg data).emit (.cfgData 0)
    else s.emit (.cfgData (s.cfgRead reg)))

/-- FUNCTION_LEVEL_RESET (R495, R499): the scope of `PERST_N`, with the link up. -/
def execFunctionLevelReset (s : State) : Out := .next ((s.endpointReset.bump (Reg.UPEP_CNT 4) 1).upRefresh)

/-- POWER_STATE_CHANGE (R496): a status change raises vector 18, and D0 releases what was held. The endpoint's quads come on as at a release of
`PERST_N` (R49). -/
def execPowerStateChange (dst : DState) (s : State) : Out :=
  .next (
    match dst with
    | .d0 => ((((s.setFld Reg.UPEP_LINK_DSTATE 0).upepOn).msix 18).dmaReturn).upRefresh
    | .d3hot => ((s.setFld Reg.UPEP_LINK_DSTATE 3).msix 18).upRefresh
    | .d3cold =>
      ((((s.setReg Reg.UPEP_LINK 0).setFld Reg.UPEP_LINK_DSTATE 2).upepPower PWR_GATED).msix 18).upRefresh)

/-- SQ_TAIL_DOORBELL (R500): a value outside the ring is ignored and counted. -/
def execSqTailDoorbell (ring : Fin 16) (value : BitVec 32) (s : State) : Out :=
  .next (
    if !s.barReachable then s
    else if s.ringSize ring ≤ value.toNat then s.bump (Reg.CTLCH_CNT 6) 1
    else s.setRing ring { s.ring ring with sqTail := value.toNat })

/-- CQ_HEAD_DOORBELL (R500). -/
def execCqHeadDoorbell (ring : Fin 16) (value : BitVec 32) (s : State) : Out :=
  .next (
    if !s.barReachable then s
    else if s.ringSize ring ≤ value.toNat then s.bump (Reg.CTLCH_CNT 6) 1
    else s.setRing ring { s.ring ring with cqHead := value.toNat })

/-- EV_CONS_DOORBELL (R500, R508). -/
def execEvConsDoorbell (value : BitVec 32) (s : State) : Out :=
  .next (
    if !s.barReachable then s
    else if s.evRingSize ≤ value.toNat then s.bump (Reg.CTLCH_CNT 6) 1
    else { s with up.evCons := value.toNat }.evDrain)

/-- COMMAND_FETCH (R498, R501, R505): from an enabled ring that holds a command, while DMA is possible and fewer than
256 commands are in progress. -/
def execCommandFetch (ring : Fin 16) (opcode : BitVec 16) (barrier : Bool) (cmdId : BitVec 32) (token : Word)
    (session : BitVec 32) (s : State) : Out :=
  .next (
    let q := s.ring ring
    if s.bit (Reg.CTLCH_RING_SIZE_EN ring) && s.dmaAllowed && q.sqHead != q.sqTail
        && decide ((s.up.cmds.filter (fun c => c.2.done.isNone)).length < 256) then
      let tag := s.up.nextTag
      let s1 := (s.setRing ring { q with sqHead := (q.sqHead + 1) % s.ringSize ring }).bump (Reg.CTLCH_CNT 0) 1
      let c : CtlCmd := { ring := ring, cmdId := cmdId, opcode := opcode.toNat, barrier := barrier, token := token,
                          orphan := false, done := none, waits := none }
      let s2 := { s1 with up.cmds := tPut s1.up.cmds tag c, up.nextTag := tag + 1 }
      match s.fetchCheck opcode.toNat token session with
      | none => s2.upRefresh
      | some (st, r0, r1) =>
        let s3 := if st = .replayed then s2.bump (Reg.CTLCH_CNT 3) 1
          else if st = .notHere then s2.bump (Reg.CTLCH_CNT 4) 1 else s2
        s3.ctlFinish tag st r0 r1
    else s)

/-- COMMAND_COMPLETION_POST (R500, R501): a finished command's completion goes to its ring and raises the ring's
vector. -/
def execCommandCompletionPost (tag : Nat) (s : State) : Out :=
  .next (
    match tGet? s.up.cmds tag with
    | none => s
    | some c =>
      match c.done with
      | none => s
      | some (st, r0, r1) =>
        let q := s.ring c.ring
        let next := (q.cqTail + 1) % s.ringSize c.ring
        if s.bit (Reg.CTLCH_RING_SIZE_EN c.ring) && s.dmaAllowed && next != q.cqHead then
          let s1 := s.emit (.ctlCompletion c.ring q.cqTail q.phase c.cmdId st q.sqHead c.token r0 r1
            (completionImage q.phase c.cmdId st q.sqHead c.token r0 r1))
          let s2 := (s1.setRing c.ring { q with cqTail := next, phase := if next = 0 then !q.phase else q.phase }).bump
            (Reg.CTLCH_CNT 1) 1
          ({ s2 with up.cmds := tDel s2.up.cmds tag }.msix c.ring).upRefresh
        else s)

/-- ALIVE_BEAT (R496). -/
def execAliveBeat (s : State) : Out :=
  .next (s.barWrite Reg.CTLCH_ALIVE (fun t => (t.setBit Reg.CTLCH_STATUS_ALIVE_LATE false).upRefresh))

/-- ALIVE_TIMEOUT (R496, R497). -/
def execAliveTimeout (s : State) : Out := .next ((s.setBit Reg.CTLCH_STATUS_ALIVE_LATE true).upRefresh)

/-- WAKE_REARM (R497). -/
def execWakeRearm (s : State) : Out := .next ({ s with up.wakeHold := false }.wake)

/-- RING_ENABLE (R498, R508): the ring's indexes return to 0. A ring is set only while its `EN` is 0. -/
def execRingEnable (ring : Fin 17) (cplBase : BitVec 40) (log2 : BitVec 4) (s : State) : Out :=
  .next (
    if ring.val = 16 then
      s.barWrite Reg.CTLCH_EV_RING_SIZE (fun t =>
        if t.bit Reg.CTLCH_EV_RING_SIZE_EN then t
        else
          let t1 := t.setReg Reg.CTLCH_EV_RING_SIZE (BitVec.ofNat 64 (2 ^ 63 + cplBase.toNat * 2 ^ 12 + log2.toNat))
          (({ t1 with up.evProd := 0, up.evCons := 0, up.evSeq := 1, up.evPhase := true }.ringStatus).setBit
            Reg.CTLCH_STATUS_PERST false).evDrain)
    else
      s.barWrite (Reg.CTLCH_RING_SIZE ring) (fun t =>
        if t.bit (Reg.CTLCH_RING_SIZE_EN ring) then t
        else
          let t1 := t.setReg (Reg.CTLCH_RING_SIZE ring) (BitVec.ofNat 64 (2 ^ 63 + cplBase.toNat * 2 ^ 12 + log2.toNat))
          let t2 := t1.setRing ring { sqHead := 0, sqTail := 0, cqHead := 0, cqTail := 0, phase := true }
          (({ t2 with up.kept := 0 }.ringStatus).setBit Reg.CTLCH_STATUS_PERST false).upRefresh))

/-- RING_DISABLE (R499). -/
def execRingDisable (ring : Fin 17) (s : State) : Out :=
  .next (
    if ring.val = 16 then
      s.barWrite Reg.CTLCH_EV_RING_SIZE (fun t => (t.setFld Reg.CTLCH_EV_RING_SIZE_EN 0).ringStatus)
    else s.barWrite (Reg.CTLCH_RING_SIZE ring) (fun t => ((t.ringDrop ring).ringStatus).upRefresh))

/-- UPSTREAM_LINK_TRAINED (R497, R500): with the function in D0 the link's L0 releases `WAKE_N`. -/
def execUpstreamLinkTrained (rate : BitVec 3) (width : BitVec 5) (s : State) : Out :=
  .next (
    let s1 := ((s.setFld Reg.UPEP_LINK_RATE rate.toNat).setFld Reg.UPEP_LINK_WIDTH width.toNat).msix 18
    if s1.fld Reg.UPEP_LINK_DSTATE = 0 then s1.wakeRelease else s1)

/-- CTL_UNKNOWN_OPCODE (R503). -/
def execCtlUnknownOpcode (tag : Nat) (s : State) : Out :=
  .next (
    match tGet? s.up.cmds tag with
    | some c => if opcodeTable.any (fun o => o.1 == c.opcode) then s else s.ctlFinish tag .invalidOpcode 0 0
    | none => s)

end Sys2Proof.Machine
end

