-- ==== Sys2Proof/Machine/Power.lean ====
section
/-!
DEFINITION. Sys2Proof/Machine/Power.lean: supply rails, power domains, DVFS, temperature, the Temple loops and the fans
(R417 to R441).
-/

namespace Sys2Proof.Machine

/-! ## Domains and pages -/

/-- The domains that hold the power of the block on a page (R27, R31, R526). -/
def domainsOf (page : Nat) : List Nat :=
  match blockAt page with
  | none => []
  | some (b, num) =>
    if b.mgmt then [182]
    else if b.domCount = 0 then [174 + page % 8]
    else if b.type = .modp then [b.dom + num / 2]
    else (List.range b.domCount).map (fun i => b.dom + num * b.domCount + i)

/-- The pages whose blocks a domain powers. -/
def pagesOf (dom : Nat) : List Nat := (List.range (blockCount + 1)).filter (fun p => (domainsOf p).contains dom)

/-- Whether the block on a page owns its domains (R12, R31). -/
def ownsDomain (page : Nat) : Bool := ((blockAt page).map (fun p => decide (p.1.domCount != 0))).getD false

namespace State

/-- The power state of a domain, as `BLK_STATE.PWR` encodes it. -/
def domState (s : State) (d : Nat) : Nat := s.fld (Reg.PWR_DOM_STATE d)

/-- What `BLK_STATE.PWR` of a page reads (R27). -/
def pwrOf (s : State) (page : Nat) : Nat :=
  match domainsOf page with
  | [] => PWR_GATED
  | d :: rest =>
    if page = Reg.DIKOR_PAGE || page = Reg.UPEP_PAGE then
      if (d :: rest).any (fun x => s.domState x == PWR_ON) then PWR_ON else s.domState d
    else s.domState d

/-- Whether the requested power state of a page's block is in effect (R38). -/
def granted (s : State) (page : Nat) : Bool :=
  let r := s.fld (Reg.BLK_PWR_REQ_REQ page)
  if !ownsDomain page then r < 2
  else if r < 2 then s.pwrOf page == PWR_ON
  else if r = 2 then s.pwrOf page == PWR_RETENTION
  else s.pwrOf page == PWR_GATED

/-- A page's header shows its power state and grant. -/
def pwrSync (s : State) (page : Nat) : State :=
  (s.setFld (Reg.BLK_STATE_PWR page) (s.pwrOf page)).setBit (Reg.BLK_PWR_REQ_GRANTED page) (s.granted page)

/-- A domain enters a power state; entries to GATED are counted. -/
def setDom (s : State) (d st : Nat) : State :=
  let s1 := s.setFld (Reg.PWR_DOM_STATE d) st
  let s2 := if st = PWR_GATED && s.domState d != PWR_GATED then s1.bumpFld (Reg.PWR_DOM_GATE_CNT d) 1 else s1
  (pagesOf d).foldl pwrSync s2

/-- Domains powering up now. -/
def poweringUp (s : State) : Nat := ((List.range 183).filter (fun d => s.domState d == PWR_UP)).length

/-- A domain begins to power up, or waits in domain-number order while `MAX_POWERING` do (R420). -/
def domUp (s : State) (d : Nat) : State :=
  if s.poweringUp < s.act Reg.PWR_CFG_MAX_POWERING then s.setDom d PWR_UP
  else if s.pw.upQueue.contains d then s
  else { s with pw.upQueue := s.pw.upQueue.filter (· < d) ++ [d] ++ s.pw.upQueue.filter (d < ·) }

/-- A domain begins to leave ON or RETENTION for a lower state, its outputs isolated (R420). -/
def domDown (s : State) (d st : Nat) : State :=
  { s with pw.downTo := tPut s.pw.downTo d st }.setDom d PWR_DOWN

/-- The lower state that AUTO gives a domain, or ON (R421): `k` is the domain's place among its owner's. -/
def autoState (s : State) (d page k : Nat) : Nat :=
  let st := s.blk page
  match blockAt page with
  | none => PWR_ON
  | some (b, _) =>
  match b.type with
  | .ethp | .xpt => if st = OFF || st = RETIRED then PWR_GATED else PWR_ON
  | .loom | .media => if st = FAILED || st = RETIRED then PWR_GATED else PWR_ON
  | .dpc =>
    if st = SPARE then PWR_RETENTION
    else if st = OFF || st = RETIRED then PWR_GATED
    else if k != 0 && s.domState d == PWR_RETENTION then PWR_RETENTION
    else PWR_ON
  | .dramc => if st = RETIRED then PWR_GATED else PWR_ON
  | .svc =>
    if st = DRAINED then PWR_RETENTION else if st = OFF || st = RETIRED then PWR_GATED else PWR_ON
  | .dikor =>
    let training := 1 ≤ s.fld Reg.DIKOR_STATUS_LSTATE && s.fld Reg.DIKOR_STATUS_LSTATE ≤ 6
    if s.fld Reg.DIKOR_STATUS_QUAD_MASK / 2 ^ k % 2 = 1 || training then PWR_ON else PWR_GATED
  | .upep =>
    if s.fld Reg.UPEP_LINK_DSTATE = 2 || !s.chip.perstN then PWR_GATED
    else if s.fld Reg.UPEP_LINK_RATE != 0 && s.fld Reg.UPEP_LINK_WIDTH ≤ 4 * k then PWR_GATED
    else PWR_ON
  | _ => PWR_ON

/-- Whether a block's state permits RETENTION or OFF (R38). -/
def mayLower (s : State) (page : Nat) : Bool :=
  let st := s.blk page
  st == OFF || st == DRAINED || st == SPARE || st == RETIRED

/-- The state a request asks of a domain owned by one page, if it may have it now. -/
def wantOne (s : State) (d page k : Nat) : Option Nat :=
  match s.fld (Reg.BLK_PWR_REQ_REQ page) with
  | 0 => some (if s.act Reg.PWR_CFG_AUTO_GATE = 1 then s.autoState d page k else PWR_ON)
  | 1 => some PWR_ON
  | 2 => if s.mayLower page then some PWR_RETENTION else none
  | _ => if s.mayLower page then some PWR_GATED else none

/-- The state a domain is to have, if it is to change now (R38, R421). A domain two `MODP` instances share leaves ON
only when both request a lower state, and takes the higher of the two. -/
def domWant (s : State) (d : Nat) : Option Nat :=
  match pagesOf d with
  | [a, b] =>
    let ra := s.fld (Reg.BLK_PWR_REQ_REQ a)
    let rb := s.fld (Reg.BLK_PWR_REQ_REQ b)
    if 2 ≤ ra && 2 ≤ rb then
      if s.mayLower a && s.mayLower b then some (if ra = 2 || rb = 2 then PWR_RETENTION else PWR_GATED) else none
    else some PWR_ON
  | [a] => s.wantOne d a (d - (domainsOf a).headD 0)
  | _ => if d = 182 then (if s.chip.cond = .serving then some PWR_ON else s.wantOne d Reg.MGMT_PAGE 0) else none

/-- A domain moves toward the state it is to have; one that is moving finishes first. R420 has no way from GATED to RETENTION but through
ON. -/
def domEval (s : State) (d : Nat) : State :=
  match s.domWant d with
  | none => s
  | some w =>
    let cur := s.domState d
    if cur = w || cur = PWR_UP || cur = PWR_DOWN then s
    else if w = PWR_ON || (cur = PWR_GATED && w = PWR_RETENTION) then s.domUp d
    else if cur = PWR_ON || (cur = PWR_RETENTION && w = PWR_GATED) then s.domDown d w
    else s

/-- The effective request of a domain, as `PWR.DOM.REQ` shows it (R38). -/
def domReq (s : State) (d : Nat) : Nat :=
  match pagesOf d with
  | [a, b] =>
    let ra := s.fld (Reg.BLK_PWR_REQ_REQ a)
    let rb := s.fld (Reg.BLK_PWR_REQ_REQ b)
    if 2 ≤ ra && 2 ≤ rb then min ra rb else if ra = 1 || rb = 1 then 1 else 0
  | [a] => s.fld (Reg.BLK_PWR_REQ_REQ a)
  | _ => if d = 182 then s.fld (Reg.BLK_PWR_REQ_REQ Reg.MGMT_PAGE) else 0

/-- The power of a page's block follows its request and state, once main power is good and the head is out of reset
(R38, R49). Segment-hosted and management-domain blocks ignore the request. -/
def powerEval (s : State) (page : Nat) : State :=
  if !ownsDomain page then s.pwrSync page
  else if page != Reg.MGMT_PAGE && (s.chip.cond == .reset || !s.chip.mainPwrOk) then s.pwrSync page
  else
    ((domainsOf page).foldl (fun t d => (t.setFld (Reg.PWR_DOM_REQ d) (t.domReq d)).domEval d) s).pwrSync page

/-- A block enters a state, and its power follows; a service core's state changes the routing of interrupts (R472). -/
def toState (s : State) (page st : Nat) : State :=
  let s0 := if st = FAILED || st = RETIRED then s.setBit (Reg.BLK_STATE_COMMIT_PENDING page) false else s
  let s1 := (s0.setBlk page st).powerEval page
  if Reg.SVC_PAGE 0 ≤ page && page ≤ Reg.SVC_PAGE 15 then s1.intcEval else s1

/-! ## DVFS (R423, R424) -/

/-- The domain voltage of a step, mV. -/
def stepMv (step : Nat) : Nat := [600, 600, 640, 680, 720, 760, 800, 850].getD step 850

/-- The page of a DVFS index. -/
def dvfsPage (n : Nat) : Nat := if n < 18 then Reg.DPC_PAGE n else Reg.SVC_PAGE (n - 18)

/-- The thermal zone of a DVFS index (R430). -/
def zoneOf (n : Nat) : Nat := if n < 18 then n / 6 + 1 else 4

/-- A Q15.16 register as an integer. -/
def q16 (v : Word) : Int := (v.setWidth 32).toInt

/-- An integer as a Q15.16 register. -/
def toQ16 (x : Int) : Word := (BitVec.ofInt 32 x).setWidth 64

/-- The ceiling of a DPC or service core: the lowest of its zone's loop output, step 1 in an emergency, and step 1
under the gradient rule (R424, R439). -/
def ceiling (s : State) (n : Nat) : Nat :=
  if s.bit Reg.THERM_STATUS_EMERGENCY || s.pw.gradForced.contains n && decide (n < 18) then 1
  else (clampInt 1 7 (q16 (s.reg (Reg.TEMPLE_U (zoneOf n))) / 65536)).toNat

/-- The step a domain is to run at under its ceiling: a service core takes the lower of it and its firmware's request. -/
def stepTarget (s : State) (n c : Nat) : Nat := if n < 18 then c else min c (tGet s.pw.svcReq n 7)

/-- A rail's target, mV (R418): the highest step voltage its domains need, 30 mV of headroom and the guard. -/
def railTarget (s : State) (r : Nat) : Nat :=
  if r = 7 then s.pw.core7
  else
    let ds := if r < 6 then [3 * r, 3 * r + 1, 3 * r + 2] else (List.range 16).map (· + 18)
    let mv := ds.foldl (fun m n => max m (max (stepMv (s.fld (Reg.PWR_DVFS_CEIL n))) (stepMv (s.fld (Reg.PWR_DVFS_STEP n))))) 0
    clampNat 650 900 (mv + 30 + s.act Reg.PWR_CFG_AVS_GUARD_MV)

/-- The voltage commanded on an adaptive rail. -/
def railNow (s : State) (r : Nat) : Nat := tGet s.pw.railSet r (if r = 7 then 720 else 650)

/-- `PWR.STATUS.AVS_BUSY`. -/
def avsRefresh (s : State) : State :=
  s.setBit Reg.PWR_STATUS_AVS_BUSY ((List.range 8).any (fun r => s.railNow r != s.railTarget r))

/-- A ceiling is published (R424): a rise waits for the rail and the domain voltage, a fall is pending until the boundary
of R160. -/
def ceilUpdate (s : State) (n : Nat) : State :=
  let c := s.ceiling n
  let t := s.stepTarget n c
  let cur := s.fld (Reg.PWR_DVFS_STEP n)
  let s1 := s.setFld (Reg.PWR_DVFS_CEIL n) c
  let s2 := s1.setFld (Reg.PWR_DVFS_PENDING n) (if t < cur then t else 0)
  { s2 with pw.rising := if cur < t then tPut s.pw.rising n t else tDel s.pw.rising n
            pw.settled := if cur < t && (tGet? s.pw.settled n == some t) then s.pw.settled else tDel s.pw.settled n }

/-- Every ceiling of a zone published. -/
def zoneUpdate (s : State) (z : Nat) : State :=
  (((List.range 34).filter (fun n => zoneOf n == z)).foldl ceilUpdate s).avsRefresh

/-- Every ceiling published. -/
def ceilAll (s : State) : State := ((List.range 34).foldl ceilUpdate s).avsRefresh

/-- The divider in effect on every DPC and service core (R425). -/
def setStretch (s : State) (div : Nat) : State :=
  ((List.range 34).foldl (fun t n => t.setFld (Reg.PWR_DVFS_STRETCH_DIV n) div) s).setBit Reg.PWR_STATUS_STRETCH
    (div != 1)

/-! ## Temperature -/

/-- A sensor's last sample, signed Q8.8. -/
def temp (s : State) (n : Nat) : Int := ((s.reg (Reg.THERM_SENSOR n)).setWidth 16).toInt

/-- The hottest of a list of sensors. -/
def hottest (s : State) (l : List Nat) : Int := l.foldl (fun m n => max m (s.temp n)) (-32768)

/-- The sensors of a zone (R430). -/
def zoneSensors (z : Nat) : List Nat :=
  if z = 4 then (List.range 16).map (· + 36) else (List.range 12).map (fun i => 12 * (z - 1) + i)

/-- A DPC's temperature: the hotter of its two sensors. -/
def dpcTemp (s : State) (n : Nat) : Int := max (s.temp (2 * n)) (s.temp (2 * n + 1))

/-- Whether two DPCs are adjacent in the grid of 3 rows of 6 (R431). -/
def adjacentDpc (i j : Nat) : Bool :=
  (i / 6 == j / 6 && (i % 6 + 1 == j % 6 || j % 6 + 1 == i % 6)) || (i % 6 == j % 6 && (i / 6 + 1 == j / 6 || j / 6 + 1 == i / 6))

/-- The DPCs under a gradient rule: set at a difference of `on` degrees to an adjacent DPC, released below 12 (R161,
R431). -/
def gradientSet (s : State) (on : Int) (old : List Nat) : List Nat :=
  (List.range 18).filter (fun i =>
    (List.range 18).any (fun j => adjacentDpc i j &&
      (decide (on * 256 ≤ s.dpcTemp i - s.dpcTemp j)
        || (old.contains i && decide (12 * 256 ≤ s.dpcTemp i - s.dpcTemp j)))))

/-- Whether both fans run at full speed (R55, R194, R432, R441). -/
def fansFull (s : State) : Bool :=
  s.pw.fanStall || s.bit Reg.THERM_STATUS_EMERGENCY || s.chip.holdup || s.chip.cond == .fatal || s.chip.cond == .reset

/-- A fan loop's duty in per mille (R439). -/
def fanDuty (s : State) (l : Nat) : Nat := (clampInt 0 1000 (q16 (s.reg (Reg.TEMPLE_U l)) * 10 / 65536)).toNat

/-- The fan outputs follow loops 5 and 6, or run at full speed. -/
def fanRefresh (s : State) : State :=
  { s with pw.fan0 := if s.fansFull then 1000 else s.fanDuty 5, pw.fan1 := if s.fansFull then 1000 else s.fanDuty 6 }

/-- A thermal emergency begins (R432): clocks are stretched, except in hold-up mode (R194), admission is suspended (R166), every ceiling is forced to
step 1, both fans run at full speed, the commands in flight lose a guarantee condition (R164), and the event is recorded. -/
def emergencyBegin (s : State) : State :=
  let s1 := ((s.setBit Reg.THERM_STATUS_EMERGENCY true).setBit (Reg.LOOM_STATUS_SUSPENDED 0) true).setBit (Reg.LOOM_STATUS_SUSPENDED 1) true
  let s2 := if s.chip.holdup then s1 else s1.setStretch (s1.act Reg.THERM_CFG_STRETCH_DIV)
  ((s2.ceilAll.fanRefresh).markHurt 0 (fun _ => true)).event 0x0C01 Reg.THERM_PAGE (argWord [(0, s.fld Reg.THERM_STATUS_HOTTEST_IDX)]) 0

/-! ## Temple loops (R434 to R438) -/

/-- Q15.16 saturation. -/
def sat16 (x : Int) : Int := clampInt (-(2 ^ 31)) (2 ^ 31 - 1) x

/-- The product of two Q15.16 values, rounded to nearest with ties toward +infinity, before saturation. -/
def mulQ (a b : Int) : Int := (a * b + 32768) / 65536

/-- The integer square root, bit by bit from bit `n`. -/
def isqrtN : Nat → Nat → Nat → Nat
  | 0, _, r => r
  | n + 1, x, r => isqrtN n x (if (r + 2 ^ n) * (r + 2 ^ n) ≤ x then r + 2 ^ n else r)

/-- The integer square root of a number below 2 to the 80. -/
def isqrt (x : Nat) : Nat := isqrtN 40 x 0

/-- A loop's state before its first sample: the limits of its registers at reset (R438). -/
def loopDefault (l : Nat) : Loop :=
  { df := 0, pvPrev := 0, v := 0, a := 0, iMin := q16 (regReset (Reg.TEMPLE_I_MIN l)), iMax := q16 (regReset (Reg.TEMPLE_I_MAX l)),
    uMin := q16 (regReset (Reg.TEMPLE_U_MIN l)), uMax := q16 (regReset (Reg.TEMPLE_U_MAX l)), iReset := false, held := false }

/-- A loop's state. -/
def loop (s : State) (l : Nat) : Loop := tGet s.pw.loops l (loopDefault l)

/-- A loop's state written. -/
def setLoop (s : State) (l : Nat) (x : Loop) : State := { s with pw.loops := tPut s.pw.loops l x }

/-- One step of the profile generator (R436): set-point, speed, acceleration, and whether its arithmetic saturated. -/
def profileStep (target vmax amax jmax sp v a : Int) : Int × Int × Int × Bool :=
  if vmax ≤ 0 || amax ≤ 0 || jmax ≤ 0 then (sp, v, a, false)
  else
    let dist := sat16 (target - sp)
    let root : Int := (isqrt (2 * amax.toNat * dist.natAbs) : Nat)
    let vg := (if dist < 0 then -1 else if dist = 0 then 0 else 1) * min vmax root
    let a1 := a + clampInt (-jmax) jmax (clampInt (-amax) amax (vg - v) - a)
    let v1 := clampInt (-vmax) vmax (v + a1)
    let ovf := dist != target - sp || sat16 (v + a1) != v + a1 || sat16 (sp + v1) != sp + v1
    if dist.natAbs ≤ v1.natAbs then (target, 0, 0, ovf) else (sat16 (sp + v1), v1, a1, ovf)

/-- A loop's measured value (R439). -/
def loopPv (s : State) (l : Nat) : Int :=
  if l = 0 then (s.fld Reg.PWR_STATUS_P_MEAS_W : Int) * 65536
  else if l ≤ 4 then s.hottest (zoneSensors l) * 256
  else if l = 5 then s.hottest (List.range 64) * 256
  else if l = 6 then s.hottest ((List.range 8).map (· + 56)) * 256
  else
    let sel := s.fld (Reg.TEMPLE_CTRL_PV_SEL 7)
    if sel < 64 then s.temp sel * 256 else (s.fld (Reg.PWR_RAIL_IOUT_DA (sel - 64)) : Int) * 65536 / 10

/-- `U_SAFE` limited to the integrator's limits: what *I* is held at while a loop is disabled (R438). -/
def iSafe (s : State) (l : Nat) (x : Loop) : Int := clampInt x.iMin x.iMax (q16 (s.reg (Reg.TEMPLE_U_SAFE l)))

/-- The limits a sample uses: the registers' pair when it is consistent, else the last consistent pair (R434). -/
def loopLimits (s : State) (l : Nat) (x : Loop) : Loop × Bool :=
  let i0 := q16 (s.reg (Reg.TEMPLE_I_MIN l))
  let i1 := q16 (s.reg (Reg.TEMPLE_I_MAX l))
  let u0 := q16 (s.reg (Reg.TEMPLE_U_MIN l))
  let u1 := q16 (s.reg (Reg.TEMPLE_U_MAX l))
  let x1 := if i0 ≤ i1 then { x with iMin := i0, iMax := i1 } else x
  let x2 := if u0 ≤ u1 then { x1 with uMin := u0, uMax := u1 } else x1
  (x2, decide (i1 < i0) || decide (u1 < u0))

/-- The sticky flags of a sample, and the event of the first one after a clear (R435). -/
def loopFlags (s : State) (l : Nat) (p i d u sp : Bool) : State :=
  let new := p.toNat + i.toNat * 2 + d.toNat * 4 + u.toNat * 8 + sp.toNat * 16
  let old := s.reg (Reg.TEMPLE_STATUS l)
  if new = 0 then s
  else
    let s1 := s.setReg (Reg.TEMPLE_STATUS l) (old ||| BitVec.ofNat 64 new)
    if bitsOf old 0 5 = 0 then s1.event 0x0C05 Reg.TEMPLE_PAGE (argWord [(0, l), (1, new)]) 0 else s1

/-- One sample of an enabled loop (R434 to R437). The set-point of loop 0 is *P*sp of the beat, as it was planned (R440). -/
def loopSample (s : State) (l : Nat) : State :=
  let (x, bad) := s.loopLimits l (s.loop l)
  let sgn : Int := if s.bit (Reg.TEMPLE_CTRL_INVERT l) then -1 else 1
  let hold := s.bit (Reg.TEMPLE_CTRL_HOLD l)
  let pv := s.loopPv l
  let (sp, v, a, spSat) := profileStep (q16 (s.reg (Reg.TEMPLE_SP_TARGET l))) (q16 (s.reg (Reg.TEMPLE_VMAX l)))
    (q16 (s.reg (Reg.TEMPLE_AMAX l))) (q16 (s.reg (Reg.TEMPLE_JMAX l))) (q16 (s.reg (Reg.TEMPLE_SP l))) x.v x.a
  let spUsed := if l = 0 then tGet s.pw.pSp (s.now / 10000) sp else sp
  let e := sat16 (sgn * (spUsed - pv))
  let pRaw := mulQ (q16 (s.reg (Reg.TEMPLE_KP l))) e
  let p := sat16 pRaw
  let dIn := mulQ (q16 (s.reg (Reg.TEMPLE_ALPHA l))) (sat16 (pv - x.pvPrev))
  let df := sat16 (x.df + sat16 dIn)
  let dRaw := mulQ (q16 (s.reg (Reg.TEMPLE_KD l))) df
  let d := sat16 (-sgn * sat16 dRaw)
  let satD := sat16 dIn != dIn || sat16 (x.df + sat16 dIn) != x.df + sat16 dIn || sat16 dRaw != dRaw
    || sat16 (-sgn * sat16 dRaw) != -sgn * sat16 dRaw
  let u0 := q16 (s.reg (Reg.TEMPLE_U l))
  let i0 := q16 (s.reg (Reg.TEMPLE_I l))
  let iIn := mulQ (q16 (s.reg (Reg.TEMPLE_KI l))) e
  let iSum := i0 + sat16 iIn
  let iNext :=
    if x.iReset then s.iSafe l x
    else if x.held then clampInt x.iMin x.iMax (sat16 (u0 - p - d))
    else clampInt x.iMin x.iMax (sat16 iSum)
  let satI := !x.iReset && !x.held && (sat16 iIn != iIn || sat16 iSum != iSum || iNext != sat16 iSum)
  let uSum := p + iNext + d
  let uNext := clampInt x.uMin x.uMax (sat16 uSum)
  let satU := sat16 uSum != uSum || uNext != sat16 uSum
  let s1 := ((s.setReg (Reg.TEMPLE_SP l) (toQ16 sp)).setReg (Reg.TEMPLE_PV l) (toQ16 pv)).setLoop l
    { x with df := df, pvPrev := pv, v := v, a := a, iReset := x.iReset && hold, held := hold }
  let s2 := if hold then s1 else (s1.setReg (Reg.TEMPLE_I l) (toQ16 iNext)).setReg (Reg.TEMPLE_U l) (toQ16 uNext)
  let s3 := s2.setFld (Reg.TEMPLE_STATUS_SAMPLES l) (s.fld (Reg.TEMPLE_STATUS_SAMPLES l) + 1)
  let s4 := if bad then s3.setBit (Reg.TEMPLE_STATUS_LIMIT_ERR l) true else s3
  s4.loopFlags l (p != pRaw) (!hold && satI) satD (!hold && satU) spSat

/-- A loop's output goes where it belongs: the DVFS ceilings of a zone, or the fans (R439). -/
def loopDrive (s : State) (l : Nat) : State :=
  if 1 ≤ l && l ≤ 4 then s.zoneUpdate l else if l = 5 || l = 6 then s.fanRefresh else s

/-- A disabled loop: its output is `U_SAFE` and its integrator is held there (R438). -/
def loopSafe (s : State) (l : Nat) : State :=
  let (x, _) := s.loopLimits l (s.loop l)
  (s.setReg (Reg.TEMPLE_U l) (s.reg (Reg.TEMPLE_U_SAFE l))).setReg (Reg.TEMPLE_I l) (toQ16 (s.iSafe l x))

/-- Loop 0's profile generator alone, which runs while a `LOOM` instance is ACTIVE whatever `ENABLE` is (R440). -/
def loopProfile (s : State) (l : Nat) : State :=
  let x := s.loop l
  let (sp, v, a, spSat) := profileStep (q16 (s.reg (Reg.TEMPLE_SP_TARGET l))) (q16 (s.reg (Reg.TEMPLE_VMAX l)))
    (q16 (s.reg (Reg.TEMPLE_AMAX l))) (q16 (s.reg (Reg.TEMPLE_JMAX l))) (q16 (s.reg (Reg.TEMPLE_SP l))) x.v x.a
  ((s.setReg (Reg.TEMPLE_SP l) (toQ16 sp)).setLoop l { x with v := v, a := a }).loopFlags l false false false false spSat

/-- A sample of the 64 sensors (R430 to R432, R161). -/
def thermalSample (s : State) (temps : List (BitVec 16)) : State :=
  let s1 := (List.zip (List.range 64) temps).foldl (fun t p =>
    t.setFld (Reg.THERM_SENSOR_TEMP p.1) p.2.toNat) s
  let mx := s1.hottest (List.range 64)
  let idx := ((List.range 64).find? (fun n => s1.temp n == mx)).getD 0
  let s2 := (s1.setFld Reg.THERM_STATUS_HOTTEST_C (BitVec.ofInt 8 (mx / 256)).toNat).setFld Reg.THERM_STATUS_HOTTEST_IDX idx
  let hot := (List.range 64).filter (fun n => decide ((s.act Reg.THERM_CFG_EMERG_C : Int) * 256 ≤ s2.temp n))
  let forced := s2.gradientSet 20 s.pw.gradForced
  let s3 := { s2 with pw.hot := hot, pw.gradForced := forced, pw.excluded := s2.gradientSet 16 s.pw.excluded }.setBit
    Reg.THERM_STATUS_GRAD_FORCE (!forced.isEmpty)
  if !s.bit Reg.THERM_STATUS_EMERGENCY && hot.any (fun n => s.pw.hot.contains n) then s3.emergencyBegin
  else s3.ceilAll

end State

open State

/-- POWER_REQUEST (R38): held until the block's state permits it. -/
def execPowerRequest (page : BitVec 13) (req : BitVec 2) (s : State) : Out :=
  .next (
    if page = 0 then (if s.barReachable then s.discard 0x40 false true .readOnly else s)
    else if (blockAt page.toNat).isNone then
      (if s.barReachable then s.discard (Reg.BLK_PWR_REQ page.toNat) false true .unmapped else s)
    else s.barWrite (Reg.BLK_PWR_REQ page.toNat) (fun t =>
      (t.setFld (Reg.BLK_PWR_REQ_REQ page.toNat) req.toNat).powerEval page.toNat))

/-- RAIL_POLL (R418, R419). -/
def execRailPoll (vout iout status : List (BitVec 16)) (core7 : BitVec 16) (s : State) : Out :=
  .next (
    let s1 := (List.range 12).foldl (fun t r =>
      ((t.setFld (Reg.PWR_RAIL_VOUT_MV r) (vout.getD r 0).toNat).setFld (Reg.PWR_RAIL_IOUT_DA r)
        (iout.getD r 0).toNat).setFld (Reg.PWR_RAIL_STATUS_WORD r) (status.getD r 0).toNat) s
    { s1 with pw.core7 := clampNat 720 800 core7.toNat }.avsRefresh)

/-- PMB_ALERT (R419): a warning is recorded and changes nothing else. -/
def execPmbAlert (rail : Fin 12) (status : BitVec 16) (warning : Bool) (s : State) : Out :=
  .next (
    let s1 := s.setFld (Reg.PWR_RAIL_STATUS_WORD rail) status.toNat
    if warning then s1.event 0x0C03 Reg.PWR_PAGE (argWord [(0, rail.val), (1, status.toNat)]) 0 else s1)

/-- RAIL_STEP (R418, R419): at most 5 mV toward the target, by a `VOUT_COMMAND` to the rail's regulator. -/
def execRailStep (rail : Fin 8) (s : State) : Out :=
  .next (
    let cur := s.railNow rail
    let t := s.railTarget rail
    let nxt := if cur < t then min t (cur + 5) else max t (cur - 5)
    let s1 := { s with pw.railSet := tPut s.pw.railSet rail nxt }.avsRefresh
    if nxt = cur then s1 else s1.emit (.voutCommand (s.fld (Reg.PWR_RAIL_PMB_ADDR rail)) nxt))

/-- DOMAIN_POWER_UP_DONE (R420): the domain is ON, and the next one that waits starts. -/
def execDomainPowerUpDone (dom : Fin 183) (s : State) : Out :=
  .next (
    if s.domState dom = PWR_UP then
      let s1 := (s.setDom dom PWR_ON).domEval dom
      match s1.pw.upQueue with
      | [] => s1
      | d :: rest => { s1 with pw.upQueue := rest }.domUp d
    else s)

/-- DOMAIN_POWER_DOWN_DONE (R420). -/
def execDomainPowerDownDone (dom : Fin 183) (s : State) : Out :=
  .next (
    if s.domState dom = PWR_DOWN then
      let st := tGet s.pw.downTo dom PWR_GATED
      ({ s with pw.downTo := tDel s.pw.downTo dom }.setDom dom st).domEval dom
    else s)

/-- DOMAIN_VOLTAGE_SETTLED (R418, R424): once `READ_VOUT` has confirmed the rail, the clock rises at the next beat
boundary. -/
def execDomainVoltageSettled (dvfs : Fin 34) (s : State) : Out :=
  .next (
    match tGet? s.pw.rising dvfs with
    | some t =>
      let rail := if dvfs.val < 18 then dvfs.val / 3 else 6
      if stepMv t + 30 + s.act Reg.PWR_CFG_AVS_GUARD_MV ≤ s.fld (Reg.PWR_RAIL_VOUT_MV rail) then
        { s with pw.settled := tPut s.pw.settled dvfs t }
      else s
    | none => s)

/-- WARP_SEGMENT_FAULT (R12, R58): fatal cause 5. -/
def execWarpSegmentFault (s : State) : Out := .next (s.fatalEnter 5 0)

/-- Whether every sensor reads `EMERG_C` − 3 °C or less (R432). -/
def State.coolEnough (s : State) : Bool :=
  (List.range 64).all (fun n => decide (s.temp n ≤ ((s.act Reg.THERM_CFG_EMERG_C : Int) - 3) * 256))

/-- THERMAL_EMERGENCY_CLEAR (R432): each thermal loop restarts from its integrator value of step 1. -/
def execThermalEmergencyClear (s : State) : Out :=
  .next (
    if s.bit Reg.THERM_STATUS_EMERGENCY && s.coolEnough then
      let s1 := (s.setBit Reg.THERM_STATUS_EMERGENCY false).event 0x0C02 Reg.THERM_PAGE 0 0
      let s2 := [1, 2, 3, 4].foldl (fun t l => (t.setReg (Reg.TEMPLE_I l) (toQ16 65536)).setReg (Reg.TEMPLE_U l) (toQ16 65536)) s1
      s2.ceilAll.fanRefresh
    else s)

/-- TEMPLE_LOOP_SAMPLE (R434, R438, R439). -/
def execTempleLoopSample (loop : Fin 8) (s : State) : Out :=
  .next (
    if s.bit (Reg.TEMPLE_CTRL_ENABLE loop) then (s.loopSample loop).loopDrive loop
    else
      let s1 := s.loopSafe loop
      let s2 := if loop.val = 0 && (s.active (Reg.LOOM_PAGE 0) || s.active (Reg.LOOM_PAGE 1)) then s1.loopProfile 0 else s1
      s2.loopDrive loop)

/-- LOOP_ENABLE (R438). -/
def execLoopEnable (loop : Fin 8) (enable : Bool) (s : State) : Out :=
  .next (s.barWrite (Reg.TEMPLE_CTRL loop) (fun t =>
    let t1 := t.setBit (Reg.TEMPLE_CTRL_ENABLE loop) enable
    if enable && t.bit (Reg.TEMPLE_CTRL_ENABLE loop) then t1 else (t1.loopSafe loop).loopDrive loop))

/-- LOOP_HOLD (R437). -/
def execLoopHold (loop : Fin 8) (hold : Bool) (s : State) : Out :=
  .next (s.barWrite (Reg.TEMPLE_CTRL loop) (fun t => t.setBit (Reg.TEMPLE_CTRL_HOLD loop) hold))

/-- LOOP_I_RESET (R438): at the next sample. -/
def execLoopIReset (loop : Fin 8) (s : State) : Out :=
  .next (s.barWrite (Reg.TEMPLE_CTRL loop) (fun t => t.setLoop loop { t.loop loop with iReset := true }))

/-- FAN_STALL (R441). -/
def execFanStall (fan : Fin 4) (s : State) : Out :=
  .next ({ s with pw.fanStall := true, pw.stalled := s.pw.stalled.filter (fun f => f != fan.val) ++ [fan.val] }.fanRefresh.event 0x0C04 Reg.THERM_PAGE (argWord [(0, fan.val)]) 0)

/-- FAN_RECOVER (R441): the fans run at full speed until every reading that stalled has recovered. -/
def execFanRecover (fan : Fin 4) (s : State) : Out :=
  .next (
    if s.act Reg.THERM_CFG_FAN_MIN_RPM ≤ s.fld (Reg.THERM_FAN_RPM fan) then
      let l := s.pw.stalled.filter (fun f => f != fan.val)
      { s with pw.stalled := l, pw.fanStall := !l.isEmpty }.fanRefresh
    else s)

end Sys2Proof.Machine
end

