-- ==== Sys2Proof/Machine/ServiceCores.lean ====
section
/-!
DEFINITION. Sys2Proof/Machine/ServiceCores.lean: the work queues of the service cores (R464 to R468).
-/

namespace Sys2Proof.Machine

/-- The number of a kind of service work, in the order of R464's table. -/
def workNum : WorkKind → Nat
  | .exception => 0
  | .adminFabrics => 1
  | .tlsHandshake => 2
  | .collection => 3
  | .dictTraining => 4
  | .replication => 5
  | .fitting => 6
  | .clockServo => 7

namespace State

/-- The clock servo writes `TIME.RATE_ADJ` (R46, R95, R350): a free value, clamped as any write of it. -/
def rateServo (s : State) : State :=
  let d := s.draw
  d.2.setFld Reg.TIME_RATE_ADJ_PPB (fixApply 32 ((Config.openWord d.1).toNat % 2 ^ 32) (.clampSigned 500000))

/-- Whether the head's time source is PTP (R46). -/
def ptpSource (s : State) : Bool :=
  s.fld Reg.TIME_CTRL_SRC == 1 || (s.fld Reg.TIME_CTRL_SRC == 3 && s.bit Reg.DIKOR_STATUS_LEADER)

/-- Work handed off by the fast path waits in a queue (R464). Which queue takes which kind is open. -/
def handOff (s : State) (k : WorkKind) : State :=
  let q := (Config.workQueue (workNum k)).val
  { s with svc.work := tPut s.svc.work q (tGet s.svc.work q [] ++ [k]) }

/-- Queues a core owns. -/
def queuesOf (s : State) (c : Nat) : Nat := (s.svc.owner.filter (fun e => e.2 == c)).length

/-- Among cores, the one with the fewest queues, the lower number on a tie. -/
def fewest (s : State) (cores : List Nat) : Option Nat :=
  cores.foldl (fun m c => match m with
    | none => some c
    | some d => if s.queuesOf c < s.queuesOf d then some c else some d) none

/-- Among cores, the one with the most queues, the lower number on a tie. -/
def most (s : State) (cores : List Nat) : Option Nat :=
  cores.foldl (fun m c => match m with
    | none => some c
    | some d => if s.queuesOf d < s.queuesOf c then some c else some d) none

/-- A queue passes to a core. -/
def ownQueue (s : State) (q c : Nat) : State := { s with svc.owner := tPut s.svc.owner q c }

/-- Every queue without an ACTIVE owner passes to the core with the fewest, in ascending number. -/
def adoptQueues (s : State) (cores : List Nat) : State :=
  (List.range 64).foldl (fun t q =>
    if cores.contains (tGet t.svc.owner q 16) then t
    else match t.fewest cores with | some c => t.ownQueue q c | none => t) s

/-- While two cores' shares differ by more than one, the lowest queue of the fullest moves to the emptiest. -/
def levelQueues (cores : List Nat) : Nat → State → State
  | 0, s => s
  | n + 1, s =>
    match s.most cores, s.fewest cores with
    | some a, some b =>
      if s.queuesOf b + 1 < s.queuesOf a then
        match s.svc.owner.find? (fun e => e.2 == a) with
        | some e => levelQueues cores n (s.ownQueue e.1 b)
        | none => s
      else s
    | _, _ => s

/-- `SVC.STATUS.QUEUES` of every core. -/
def queuesShow (s : State) : State :=
  (List.range 16).foldl (fun t c => t.setFld (Reg.SVC_STATUS_QUEUES c) (t.queuesOf c)) s

/-- Queue ownership at a beat boundary (R467): each of the *n* ACTIVE cores owns ⌊64/n⌋ or ⌈64/n⌉. -/
def rebalanceQueues (s : State) : State :=
  let cores := (List.range 16).filter s.coreActive
  if cores.isEmpty then { s with svc.owner := [] }.queuesShow
  else (levelQueues cores 64 (s.adoptQueues cores)).queuesShow

end State

/-- WORK_ITEM (R464 to R468): an ACTIVE core takes the oldest item of a queue it owns and runs it to its end; an item that
is one of a chain leaves the next one in the queue. -/
def execWorkItem (core : Fin 16) (queue : Fin 64) (again : Bool) (reqStep : BitVec 4) (busy : Fin 101) (s : State) : Out :=
  let c := core.val
  if !s.coreActive c || tGet s.svc.owner queue.val 16 != c then .next s
  else
    match tGet s.svc.work queue.val [] with
    | [] => .next s
    | k :: rest =>
      let left := if again then rest ++ [k] else rest
      let s1 := { s with
        svc.work := if left.isEmpty then tDel s.svc.work queue.val else tPut s.svc.work queue.val left
        pw.svcReq := if reqStep.toNat = 0 then tDel s.pw.svcReq c else tPut s.pw.svcReq c (min 7 reqStep.toNat) }
      let s2 := ((s1.bump (Reg.SVC_ITEMS c) 1).setFld (Reg.SVC_STATUS_REQ_STEP c) reqStep.toNat).setFld
        (Reg.SVC_STATUS_BUSY_PCT c) busy.val
      let s3 := if k = .clockServo && s2.ptpSource then s2.rateServo else s2
      .next ((s3.ceilUpdate (18 + c)).avsRefresh)

end Sys2Proof.Machine
end

