-- ==== Sys2Proof/Machine/Chunks.lean ====
section
/-!
DEFINITION. Sys2Proof/Machine/Chunks.lean: stored forms, the chunk table, pools of chunk ids and the fingerprint index
(R201 to R210, R217 to R219, R226, R233, R234).
-/

namespace Sys2Proof.Machine

/-! ## Fingerprints and stored forms -/

/-- A digest's number with bit *i* at bit (i mod 8) of byte ⌊i/8⌋ (R201). -/
def digestNumber (d : Word256) : Nat :=
  (List.range 32).foldl (fun n i => n + (d.toNat / 2 ^ (8 * (31 - i)) % 256) * 2 ^ (8 * i)) 0

/-- The fingerprint of a grain under a tenant's 64-byte salt (R201). -/
def fingerprint (salt plain : Bytes) : Nat := digestNumber (Config.sha256 (salt ++ plain))

/-- The payload length and `FORM` of a grain whose frame has `n` bytes (R219): raw at 3,968 bytes or more, and at least
16 bytes otherwise. -/
def formShape (n kind : Nat) : Nat × Nat := if 3968 ≤ n then (0, 4096) else (kind, max 16 n)

/-- `LEN32` of a payload: 32 + `LEN` bytes in 32-byte units, rounded up (R227, R233). -/
def len32Of (len : Nat) : Nat := ceilDiv (32 + len) 32

/-- Bytes of a stored form. -/
def formBytes (f : Form) : Nat := 32 * len32Of f.len

namespace State

/-- The dictionary content that a dictionary's pieces hold. -/
def dictContent (s : State) (id : Nat) : Bytes :=
  match tGet? s.mp.dicts (id % 2 ^ 30 / 256) with
  | some d => ((d.pieces.filterMap (fun c => tGet? s.mp.forms c)).flatMap (fun f => f.plain)).take d.len
  | none => []

/-- A tenant's salt: the last 64 bytes of its key slot's material (R202). -/
def saltOf (s : State) (tenant : Nat) : Bytes :=
  match tGet? s.sec.slots tenant with
  | some k => k.material.drop 64
  | none => []

/-- Reduction settings of a tenant in effect: `DEDUP_MODE`, `COMP_MODE` and `COMP_VERIFY` as `MAPX.RED_DATA` packs them. -/
def redOf (s : State) (tenant : Nat) : Nat := tGet s.mp.redA tenant 0xA1

/-- The payload of a form before encryption: the plain grain of a raw form, else the frame padded with zeros to `LEN` (R219, R227). -/
def formPayload (s : State) (f : Form) : Bytes :=
  if f.kind = 0 then f.plain
  else
    let frame := frameBytes (if f.kind = 2 then s.dictContent f.dictId else []) f.plain
    frame ++ List.replicate (f.len - frame.length) 0

/-- A form encrypted under its tenant's key slot, with its chunk id as the tweak (R227). -/
def sealForm (s : State) (f : Form) : Form :=
  let key := match tGet? s.sec.slots f.tenant with | some k => k.material.take 64 | none => []
  { f with sealed := Config.xts true key (BitVec.ofNat 128 (f.chunk % 2 ^ 40)) (s.formPayload f) }

/-- The stored form that stage 4b builds (R217 to R219, R226): `ok` is whether the compress verify finds the frame good. -/
def buildForm (s : State) (tenant dictId red chunk : Nat) (plain : Bytes) (ok : Bool) : Form :=
  let mode := red / 16 % 4
  let verify := red / 128 % 2 = 1
  let d := if mode = 2 then dictId else 0
  let frame := frameBytes (if d = 0 then [] else s.dictContent d) plain
  let sh := if mode = 0 || (verify && !ok) then (0, 4096) else formShape frame.length (if d = 0 then 1 else 2)
  s.sealForm
    { guard := guardOf plain, chunk := chunk, kind := sh.1, len := sh.2, tenant := tenant, verified := verify && ok && mode != 0
      dictPiece := false, dictId := if sh.1 = 2 then d else 0, plain := plain }

end State

/-! ## The chunk table and pools -/

/-- The pool of a chunk id (R234). -/
def poolOf (c : Nat) : Nat := c / 2 ^ 20

namespace State

/-- Whether the head is in solo mode. -/
def solo (s : State) : Bool := s.bit Reg.NVMF_STATUS_SOLO

/-- A chunk-table entry. -/
def chunk? (s : State) (c : Nat) : Option Chunk := tGet? s.mp.chunks c

/-- A chunk-table entry written. -/
def setChunk (s : State) (c : Nat) (e : Chunk) : State := { s with mp.chunks := tPut s.mp.chunks c e }

/-- A dictionary is named by one more, or one fewer, chunk header (R223). -/
def dictRef (s : State) (id : Nat) (up : Bool) : State :=
  { s with mp.dicts := tMod s.mp.dicts (id % 2 ^ 30 / 256) (fun d =>
      if id % 256 = d.version then { d with refs := if up then d.refs + 1 else d.refs - 1 } else d) }

/-- A chunk becomes FREE: its entry and its stored form go. -/
def dropChunk (s : State) (c : Nat) : State :=
  let s1 := match tGet? s.mp.forms c with
    | some f => if f.kind = 2 then s.dictRef f.dictId false else s
    | none => s
  { s1 with mp.chunks := tDel s1.mp.chunks c, mp.forms := tDel s1.mp.forms c, mp.cache := s1.mp.cache.filter (fun x => x != c) }

/-- Whether this head keeps a pool (R234): the serving head keeps every pool in solo mode. -/
def keepsPool (s : State) (p : Nat) : Bool :=
  match tGet? s.mp.pools p with
  | some q => s.solo || q.keeper == s.headIndex
  | none => false

/-- Whether a chunk is JOURNALED, LOCATED or ALIAS (R233). -/
def chunkUsable (s : State) (c : Nat) : Bool :=
  match s.chunk? c with
  | some e => e.state == .journaled || e.state == .located || e.state == .alias_
  | none => false

/-- The chunk whose stored form serves a chunk: an alias's target (R238). -/
def resolve (s : State) (c : Nat) : Nat :=
  match s.chunk? c with
  | some e => if e.state == .alias_ then e.target else c
  | none => c

/-- The stored form that serves a chunk. -/
def formOf (s : State) (c : Nat) : Option Form := tGet? s.mp.forms (s.resolve c)

/-- Free ids of the pools this head keeps (R234). -/
def freeIds (s : State) : Nat :=
  s.mp.pools.foldl (fun n p => if s.keepsPool p.1 then n + p.2.head.length + (2 ^ 20 - p.2.next) + p.2.freed.length else n) 0

/-- The next id of a pool's allocation order and the pool without it. -/
def poolTake (p : Pool) : Option (Nat × Pool) :=
  match p.head with
  | i :: r => some (i, { p with head := r })
  | [] =>
    if p.next < 2 ^ 20 then some (p.next, { p with next := p.next + 1 })
    else match p.freed with
      | i :: r => some (i, { p with freed := r })
      | [] => none

/-- The next id of this head's allocation order: the lowest pool it keeps that holds a free id. -/
def reserveFrom (s : State) : List (Nat × Pool) → Option (Nat × State)
  | [] => none
  | (n, p) :: t =>
    if s.keepsPool n then
      match poolTake p with
      | some (i, p') => some (n * 2 ^ 20 + i, { s with mp.pools := tPut s.mp.pools n p' })
      | none => reserveFrom s t
    else reserveFrom s t

/-- An id reserved before a lookup (R207). -/
def reserveId (s : State) : Option (Nat × State) := s.reserveFrom s.mp.pools

/-- A reserved id goes back to the head of the allocation order (R207). -/
def returnId (s : State) (c : Nat) : State :=
  { s with mp.pools := tMod s.mp.pools (poolOf c) (fun p => { p with head := c % 2 ^ 20 :: p.head }) }

/-- An id that became FREE joins the end of its pool's order (R234). -/
def freeId (s : State) (c : Nat) : State :=
  { s with mp.pools := tMod s.mp.pools (poolOf c) (fun p => { p with freed := p.freed ++ [c % 2 ^ 20] }) }

/-- A pool's allocation order rebuilt from the chunk table (R234): every id in state FREE counts as never allocated. -/
def rebuildPool (s : State) (n : Nat) (p : Pool) : Pool :=
  let used := (s.mp.chunks.filter (fun c => poolOf c.1 == n)).map (fun c => c.1 % 2 ^ 20)
  let top := used.foldl (fun m i => max m (i + 1)) 0
  { p with head := (List.range top).filter (fun i => !used.contains i), next := top, freed := [] }

/-- The allocation orders of the pools that satisfy a test rebuilt: at boot, and at a takeover those it adopts (R234, R363). -/
def rebuildPools (s : State) (which : Pool → Bool) : State :=
  { s with mp.pools := s.mp.pools.map (fun (e : Nat × Pool) => (e.1, if which e.2 then s.rebuildPool e.1 e.2 else e.2)) }

/-- The code of a chunk state (R233); a FREE chunk has no entry, and code 0. -/
def stateCode : ChunkState → Nat
  | .journaled => 1
  | .located => 2
  | .alias_ => 3
  | .freeing => 4
  | .lost => 5

/-- The two words of a chunk-table entry (R233): an alias's target stands in `SEGMENT` and in the low half of word 1. -/
def chunkWords (e : Chunk) : Nat × Nat :=
  let top := stateCode e.state * 2 ^ 60 + e.count % 2 ^ 20 * 2 ^ 40 + e.tenant % 2 ^ 12 * 2 ^ 28
  if e.state = .alias_ then
    (e.len32 % 2 ^ 8 * 2 ^ 56 + e.target % 2 ^ 24 * 2 ^ 32 + e.fpCheck % 2 ^ 32, top + e.target / 2 ^ 24 % 2 ^ 16)
  else
    (e.len32 % 2 ^ 8 * 2 ^ 56 + e.segment % 2 ^ 24 * 2 ^ 32 + e.fpCheck % 2 ^ 32,
      top + e.off % 2 ^ 11 * 2 ^ 17 + e.member % 2 ^ 5 * 2 ^ 12 + e.row % 2 ^ 12)

/-- A new JOURNALED chunk with count 1 (R207, R212). -/
def newChunk (s : State) (c tenant fp : Nat) : State :=
  s.setChunk c ⟨.journaled, 0, 0, 0, 0, 0, fp / 2 ^ 160 % 2 ^ 32, 1, tenant, 0, s.now⟩

/-- A reference count rises, saturating at its field (R212); the id of a saturated count is handed to the tally audit (R214). -/
def countUp (s : State) (c n : Nat) : State :=
  match s.chunk? c with
  | some e =>
    let s1 := s.setChunk c { e with count := min (e.count + n) 0xFFFFF }
    if 0xFFFFF ≤ e.count + n && !s1.mp.auditSet.contains c then { s1 with mp.auditSet := s1.mp.auditSet ++ [c] } else s1
  | none => s

/-! ## The index -/

/-- The shard of a fingerprint (R204). -/
def shardOf (fp : Nat) : Nat := fp % 2

/-- `BUCKET_LOG2` of the table in use: one less while this head holds both shards (R208). -/
def bucketLog (s : State) : Nat :=
  if s.mp.solo then s.mp.tableLog - 1 else s.mp.tableLog

/-- The table key of a fingerprint's bucket (R204). -/
def bucketKey (s : State) (fp : Nat) : Nat := shardOf fp * 2 ^ 34 + fp / 2 % 2 ^ s.bucketLog

/-- Whether this head holds a fingerprint's shard (R204): both in solo mode, and its own once it has been handed back (R208). -/
def holdsShard (s : State) (fp : Nat) : Bool := s.mp.solo || (shardOf fp == s.headIndex && !s.mp.away)

/-- `MAPX.INDEX_STATUS` brought up to date. -/
def indexShow (s : State) : State :=
  ((s.setFld Reg.MAPX_INDEX_STATUS_ENTRIES (s.mp.index.foldl (fun n b => n + b.2.length) 0)).setBit
    Reg.MAPX_INDEX_STATUS_SOLO_SHARDS s.mp.solo).setBit Reg.MAPX_INDEX_STATUS_REBUILD s.mp.rebuild.isSome

/-- A bucket. -/
def bucketOf (s : State) (fp : Nat) : List IdxEntry := tGet s.mp.index (s.bucketKey fp) []

/-- A bucket written. -/
def setBucketOf (s : State) (fp : Nat) (b : List IdxEntry) : State :=
  { s with mp.index := if b.isEmpty then tDel s.mp.index (s.bucketKey fp) else tPut s.mp.index (s.bucketKey fp) b }

/-- The tests of R206 that an entry alone can pass. -/
def entryMatches (tenant fp : Nat) (e : IdxEntry) : Bool := e.fp == fp % 2 ^ 160 && e.tenant == tenant

/-- The tests of R206 on the chunk an entry names. -/
def chunkTests (s : State) (tenant fp c : Nat) : Bool :=
  match s.chunk? c with
  | some e => s.chunkUsable c && e.tenant == tenant && e.fpCheck == fp / 2 ^ 160 % 2 ^ 32
  | none => false

/-- The entry that a full bucket evicts: lowest hint, then oldest age (R207). -/
def evictOne (b : List IdxEntry) : List IdxEntry :=
  match b.foldl (fun (m : Option IdxEntry) e => match m with
    | none => some e
    | some x => if e.hint < x.hint || (e.hint = x.hint && e.age < x.age) then some e else some x) none with
  | some v => dropFirst (fun e => e == v) b
  | none => b

/-- The result of a shard's lookup (R206, R207): a hit with its chunk and whether it is pending and whose, or a miss that
has inserted a `PENDING` entry for the requester's reserved chunk. -/
structure Found where
  hit : Option (Nat × Bool × Nat)
  st : State

/-- The first three tests pass: stale entries are deleted and counted until a hit is found (R206). -/
def probe (tenant fp : Nat) : Nat → State → Found
  | 0, s => ⟨none, s⟩
  | n + 1, s =>
    match (s.bucketOf fp).find? (entryMatches tenant fp) with
    | none => ⟨none, s⟩
    | some e =>
      if e.pending || s.chunkTests tenant fp e.chunk then
        ⟨some (e.chunk, e.pending, e.pendHead),
          s.setBucketOf fp ((s.bucketOf fp).map (fun x =>
            if x = e then { x with hint := min 15 (x.hint + 1), age := s.now / 2 ^ 24 % 2 ^ 32 } else x))⟩
      else
        probe tenant fp n ((s.setBucketOf fp ((s.bucketOf fp).filter (fun x => x != e))).bump Reg.MAPX_STALE_CNT 1)

/-- One lookup at this head's shard, for a reserved chunk of a head (R206, R207). -/
def shardLookup (s : State) (tenant fp chunk head : Nat) : Found :=
  let f := probe tenant fp 9 s
  match f.hit with
  | some _ => ⟨f.hit, f.st.indexShow⟩
  | none =>
    let b := f.st.bucketOf fp
    let b1 := if 8 ≤ b.length then evictOne b else b
    let s1 := if 8 ≤ b.length then f.st.bump Reg.MAPX_EVICT_CNT 1 else f.st
    let e : IdxEntry := ⟨fp % 2 ^ 160, chunk, true, head, tenant, 0, s.now / 2 ^ 24 % 2 ^ 32⟩
    ⟨none, ({ s1.setBucketOf fp (b1 ++ [e]) with mp.idxLog := s1.mp.idxLog ++ [e], mp.newIns := if s1.mp.rebuild.isSome then s1.mp.newIns ++ [e] else [] }).indexShow⟩

/-- The `PENDING` bit of the entry that names a chunk clears (R210). -/
def clearPending (s : State) (c : Nat) : State :=
  { s with
    mp.index := s.mp.index.map (fun b => (b.1, b.2.map (fun e => if e.chunk = c then { e with pending := false } else e)))
    mp.newIns := s.mp.newIns.map (fun e => if e.chunk = c then { e with pending := false } else e)
    mp.idxLog := s.mp.idxLog ++ ((s.mp.index.flatMap (fun b => b.2.filter (fun e => e.chunk == c))).map (fun e =>
      { e with pending := false })) }

/-- The PENDING entries of a chunk withdrawn (R191, R210): an entry of the id's next life that another record has stored stays. -/
def withdrawPending (s : State) (c : Nat) : State :=
  let idx := s.mp.index.map (fun b => (b.1, b.2.filter (fun e => !(e.chunk == c && e.pending))))
  { s with
    mp.index := idx.filter (fun b => !b.2.isEmpty)
    mp.newIns := s.mp.newIns.filter (fun e => !(e.chunk == c && e.pending)) }.indexShow

/-- Every index entry that names a chunk goes, with the DRAM that held it (R20). -/
def withdrawIndex (s : State) (c : Nat) : State :=
  let idx := s.mp.index.map (fun b => (b.1, b.2.filter (fun e => e.chunk != c)))
  { s with mp.index := idx.filter (fun b => !b.2.isEmpty) }.indexShow

end State

end Sys2Proof.Machine
end

