-- ==== Sys2Proof/Machine/Trees.lean ====
section
/-!
DEFINITION. Sys2Proof/Machine/Trees.lean: volume maps as B+-trees of 512-byte pages, with redirect-on-write (R229 to R231,
R238, R239, R252).
-/

namespace Sys2Proof.Machine

/-- Slots of an interior page (R230). -/
def pageSlots : Nat := 31

/-- Leaf index of a grain (R229). -/
def leafOf (g : Nat) : Nat := g / 64

/-- A MAP_IMAGE entry (R243): page, volume, level, operation (1 COPY, 2 UPDATE, 3 FREE), birth, key, and the source page of a COPY or the
`APPLIED_SEQ` of another; then the image: the number of entries, each slot and chunk, and each interior slot's key, birth and child. -/
def mapImage (page : Nat) (p : Page) (op src : Nat) : Ctl :=
  ⟨0x01, [page, p.volume, p.level, op, p.birth, p.key, if op = 1 then src else p.applied, p.ents.length] ++ p.ents.flatMap (fun e => [e.1, e.2])
    ++ p.slots.flatMap (fun e => [e.1, e.2.1, e.2.2])⟩

/-- What a change to a tree has done: the state, the MAP_IMAGE entries to be journaled, and the page now in place. -/
structure TreeOut where
  st : State
  ctl : List Ctl
  id : Nat

/-- The child of an interior page that covers a leaf index (R230): at level 1 the slot of that key, above it the last slot
whose key is not greater. -/
def childOf (p : Page) (li : Nat) : Option (Nat × Nat × Nat) :=
  if p.level = 1 then p.slots.find? (fun e => e.1 == li) else p.slots.reverse.find? (fun e => e.1 ≤ li)

/-- `KEY` of an interior page: its first slot's (R232). -/
def firstKey (slots : List (Nat × Nat × Nat)) (key : Nat) : Nat := (slots.head?.map (fun e => e.1)).getD key

/-- A slot list with an entry written in key order. -/
def slotPut : List (Nat × Nat × Nat) → Nat × Nat × Nat → List (Nat × Nat × Nat)
  | [], x => [x]
  | e :: t, x => if x.1 < e.1 then x :: e :: t else if x.1 = e.1 then x :: t else e :: slotPut t x

namespace State

/-- A map page. -/
def page? (s : State) (id : Nat) : Option Page := tGet? s.mp.pages id

/-- A map page written. -/
def setPage (s : State) (id : Nat) (p : Page) : State := { s with mp.pages := tPut s.mp.pages id p }

/-- The next page id of this head: bit 0 is its index (R231). -/
def newPageId (s : State) : Nat × State :=
  (2 * s.mp.nextPage + s.headIndex % 2, { s with mp.nextPage := s.mp.nextPage + 1 })

/-- The leaf page of a leaf index under a tree's root. -/
def findLeaf (s : State) (li : Nat) : Nat → Nat → Option Nat
  | 0, _ => none
  | n + 1, id =>
    match s.page? id with
    | none => none
    | some p =>
      if p.level = 0 then if p.key = li then some id else none
      else match childOf p li with
        | some c => findLeaf s li n c.2.2
        | none => none

/-- The chunk a grain references under a root; none when it is deallocated (R229). -/
def lookupAt (s : State) (root g : Nat) : Option Nat :=
  match s.findLeaf (leafOf g) 10 root with
  | some l => match s.page? l with | some p => tGet? p.ents (g % 64) | none => none
  | none => none

/-- A volume. -/
def vol? (s : State) (v : Nat) : Option Volume := tGet? s.nv.volumes v

/-- The leaf directory (R231): the page id of the live tree's leaf of a (volume, leaf index), for every resident leaf. -/
def leafDir (s : State) (v li : Nat) : Option Nat :=
  match (s.vol? v).bind (fun x => s.findLeaf li 10 x.root) with
  | some id => match s.page? id with | some p => if p.resident then some id else none | none => none
  | none => none

/-- The two addresses of a page's page-table entry (R231): its DRAM frame while it is resident, and its flash address once it has been
written. Which frame a page takes the spec leaves open: a free value (log entry 128). -/
def pageEntry (s : State) (id : Nat) : Option Nat × Option Nat :=
  match s.page? id with
  | some p => (if p.resident then some (Config.dramFrame id) else none, p.flash.map (fun a => flashAddress a.1 a.2.1 a.2.2.1 a.2.2.2))
  | none => (none, none)

/-- A volume changed. -/
def modVol (s : State) (v : Nat) (f : Volume → Volume) : State := { s with nv.volumes := tMod s.nv.volumes v f }

/-- The chunk a grain of a volume's live tree references. -/
def lookup (s : State) (v g : Nat) : Option Nat :=
  match s.vol? v with | some x => s.lookupAt x.root g | none => none

/-- A page of a volume's tree made writable for a generation (R252): an older page is copied under a new id; a copied leaf adds 1 to
the count of each chunk it maps (R235). -/
def writable (s : State) (v id gen : Nat) : TreeOut :=
  match s.page? id with
  | none => ⟨s, [], id⟩
  | some p =>
    if gen ≤ p.birth then ⟨s, [], id⟩
    else
      let (nid, s1) := s.newPageId
      let q : Page := { p with volume := v, birth := gen, dirty := true, resident := true, flash := none, applied := 0, dirtyAt := 0, used := s1.now }
      let s2 := (s1.setPage nid q).bump Reg.MAPX_COW_CNT 1
      ⟨p.ents.foldl (fun t e => t.countUp e.2 1) s2, [mapImage nid q 1 id], nid⟩

/-- A leaf put under an interior page at a key, splitting pages that overflow; the result names the page now in place, and
the sibling that a split has made (key, birth, id). `leaf` 0 only makes the path writable. A page that was copied for it has one COPY
entry, which shows it with its new children (R252). -/
def insertLeaf (v gen li leaf : Nat) : Nat → Nat → State → TreeOut × Option (Nat × Nat × Nat)
  | 0, id, s => (⟨s, [], id⟩, none)
  | n + 1, id, s =>
    let w := s.writable v id gen
    match w.st.page? w.id with
    | none => (w, none)
    | some p =>
      let step : State × List Ctl × List (Nat × Nat × Nat) :=
        if p.level = 1 then
          match childOf p li with
          | some c =>
            let x := w.st.writable v c.2.2 gen
            (x.st, x.ctl, slotPut p.slots (li, gen, x.id))
          | none => if leaf = 0 then (w.st, [], p.slots) else (w.st, [], slotPut p.slots (li, gen, leaf))
        else
          match (match childOf p li with | some c => some c | none => p.slots.head?) with
          | none => (w.st, [], p.slots)
          | some c =>
            let r := insertLeaf v gen li leaf n c.2.2 w.st
            let s1 := (p.slots.filter (fun e => e.1 != c.1))
            let s2 := slotPut s1 (min c.1 li, gen, r.1.id)
            let s3 := match r.2 with | some x => slotPut s2 x | none => s2
            (r.1.st, r.1.ctl, s3)
      let (s1, ctl, slots) := step
      if slots.length ≤ pageSlots then
        let q := { p with slots := slots, key := firstKey slots p.key, dirty := true }
        (⟨s1.setPage w.id q, ctl ++ (if w.id != id then [mapImage w.id q 1 id] else if slots = p.slots then [] else [mapImage w.id q 2 0]), w.id⟩, none)
      else
        let q := { p with slots := slots.take 16, key := firstKey slots p.key, dirty := true }
        let rest := slots.drop 16
        let key := (rest.head?.map (fun e => e.1)).getD 0
        let (nid, s2) := s1.newPageId
        let r : Page := { p with volume := v, slots := rest, key := key, birth := gen, dirty := true, resident := true, flash := none, applied := 0, dirtyAt := 0, used := s1.now }
        (⟨(s2.setPage w.id q).setPage nid r, ctl ++ [if w.id != id then mapImage w.id q 1 id else mapImage w.id q 2 0, mapImage nid r 2 0], w.id⟩,
          some (key, gen, nid))

/-- The leaf of a volume that a change is about to touch: copied when it is older than the live generation, created when
absent; the path above it likewise (R245, R252). -/
def touchLeaf (s : State) (v li : Nat) : State × List Ctl :=
  match s.vol? v with
  | none => (s, [])
  | some x =>
    let have_ := x.root != 0 && (s.findLeaf li 10 x.root).isSome
    let (leaf, s1, c1) : Nat × State × List Ctl :=
      if have_ then (0, s, [])
      else
        let (nid, t) := s.newPageId
        let p : Page := ⟨v, 0, x.gen, li, [], [], true, true, none, 0, 0, s.now⟩
        (nid, t.setPage nid p, [mapImage nid p 2 0])
    if x.root = 0 then
      let (nid, t) := s1.newPageId
      let p : Page := ⟨v, 1, x.gen, li, [], [(li, x.gen, leaf)], true, true, none, 0, 0, s.now⟩
      ((t.setPage nid p).modVol v (fun y => { y with root := nid }), c1 ++ [mapImage nid p 2 0])
    else
      let (o, sib) := insertLeaf v x.gen li leaf 9 x.root s1
      match sib with
      | none => (o.st.modVol v (fun y => { y with root := o.id }), c1 ++ o.ctl)
      | some b =>
        let (nid, t) := o.st.newPageId
        let lv := (o.st.page? o.id).map (fun p => p.level) |>.getD 1
        let key := (o.st.page? o.id).map (fun p => p.key) |>.getD 0
        let p : Page := ⟨v, lv + 1, x.gen, key, [], [(key, x.gen, o.id), b], true, true, none, 0, 0, s.now⟩
        ((t.setPage nid p).modVol v (fun y => { y with root := nid }), c1 ++ o.ctl ++ [mapImage nid p 2 0])

/-! ## Leaves removed -/

/-- A page of the live generation goes with a MAP_IMAGE FREE entry; an older one stays for the snapshots that hold it. -/
def unlinkPage (s : State) (id gen : Nat) : State × List Ctl :=
  match s.page? id with
  | some p => if p.birth = gen then ({ s with mp.pages := tDel s.mp.pages id }, [mapImage id p 3 0]) else (s, [])
  | none => (s, [])

/-- Two neighbours under one parent of which one has fewer than 16 slots (R230): one page takes all slots where they fit, else they share
them evenly. The slots that name what is left, in key order. -/
def joinPages (s : State) (v gen : Nat) (a b : Nat × Nat × Nat) : State × List Ctl × List (Nat × Nat × Nat) :=
  let x := s.writable v a.2.2 gen
  match x.st.page? x.id, x.st.page? b.2.2 with
  | some p, some q =>
    let all := p.slots ++ q.slots
    let shown := fun (id old : Nat) (r : Page) => if id = old then mapImage id r 2 0 else mapImage id r 1 old
    if all.length ≤ pageSlots then
      let p' := { p with slots := all, key := firstKey all p.key, dirty := true }
      let y := (x.st.setPage x.id p').unlinkPage b.2.2 gen
      (y.1, shown x.id a.2.2 p' :: y.2, [(a.1, gen, x.id)])
    else
      let y := x.st.writable v b.2.2 gen
      let left := all.take (all.length / 2)
      let right := all.drop (all.length / 2)
      let key := (right.head?.map (fun e => e.1)).getD b.1
      let p' := { p with slots := left, key := firstKey left p.key, dirty := true }
      let q' := { q with volume := v, birth := gen, slots := right, key := key, dirty := true }
      ((y.st.setPage x.id p').setPage y.id q', [shown x.id a.2.2 p', shown y.id b.2.2 q'], [(a.1, gen, x.id), (key, gen, y.id)])
  | _, _ => (s, [], [a, b])

/-- Slots after the one of a key, and the slot of that key with its neighbour: the next one, or else the one before it. -/
def neighbours (l : List (Nat × Nat × Nat)) (key : Nat) : Option ((Nat × Nat × Nat) × (Nat × Nat × Nat)) :=
  let before := l.filter (fun e => decide (e.1 < key))
  match l.find? (fun e => e.1 == key), l.find? (fun e => decide (key < e.1)), before.getLast? with
  | some a, some b, _ => some (a, b)
  | some a, none, some b => some (b, a)
  | _, _, _ => none

/-- A leaf's slot taken out of the pages below one of the live generation, and the pages that it leaves with fewer than 16 slots joined with
a neighbour (R230, R245). -/
def removeSlot (v gen li : Nat) : Nat → Nat → State → State × List Ctl
  | 0, _, s => (s, [])
  | n + 1, id, s =>
    match s.page? id with
    | none => (s, [])
    | some p =>
      let put := fun (t : State) (c : List Ctl) (slots : List (Nat × Nat × Nat)) =>
        let q := { p with slots := slots, key := firstKey slots p.key, dirty := true }
        (t.setPage id q, c ++ (if slots = p.slots then [] else [mapImage id q 2 0]))
      if p.level = 1 then put s [] (p.slots.filter (fun e => e.1 != li))
      else
        match childOf p li with
        | none => (s, [])
        | some c =>
          let r := removeSlot v gen li n c.2.2 s
          if 16 ≤ ((r.1.page? c.2.2).map (fun q => q.slots.length)).getD 16 then put r.1 r.2 p.slots
          else
            match neighbours p.slots c.1 with
            | none => put r.1 r.2 p.slots
            | some (a, b) =>
              let j := r.1.joinPages v gen a b
              put j.1 (r.2 ++ j.2.1) (j.2.2.foldl slotPut (p.slots.filter (fun e => e.1 != a.1 && e.1 != b.1)))

/-- A root above level 1 with one slot gives way to its child, and one without slots goes; the entries in the order in which the other head
finds the new root by them. -/
def lowerRoot (v gen : Nat) : Nat → State → State × List Ctl
  | 0, s => (s, [])
  | n + 1, s =>
    match s.vol? v with
    | none => (s, [])
    | some x =>
      match s.page? x.root with
      | none => (s, [])
      | some p =>
        match p.slots with
        | [] =>
          let y := s.unlinkPage x.root gen
          (y.1.modVol v (fun z => { z with root := 0 }), y.2)
        | [c] =>
          if p.level ≤ 1 then (s, [])
          else
            let y := s.unlinkPage x.root gen
            let w := y.1.writable v c.2.2 gen
            let shown := match w.st.page? w.id with
              | some q => [if w.id = c.2.2 then mapImage w.id q 2 0 else mapImage w.id q 1 c.2.2]
              | none => []
            let r := lowerRoot v gen n (w.st.modVol v (fun z => { z with root := w.id }))
            (r.1, y.2 ++ shown ++ r.2)
        | _ => (s, [])

/-- A leaf of a volume that has been left wholly deallocated is removed (R230, R245): the MAP_IMAGE entries to be journaled. -/
def dropLeaf (s : State) (v li : Nat) : State × List Ctl :=
  match s.vol? v with
  | none => (s, [])
  | some x =>
    match s.findLeaf li 10 x.root with
    | none => (s, [])
    | some l =>
      match s.page? l with
      | none => (s, [])
      | some p =>
        if !p.ents.isEmpty || p.birth != x.gen then (s, [])
        else
          let a := s.unlinkPage l x.gen
          let b := removeSlot v x.gen li 9 x.root a.1
          let c := lowerRoot v x.gen 9 b.1
          (c.1, a.2 ++ b.2 ++ c.2)

/-- A grain's entry written in its leaf, which is resident and of the live generation; the chunk it held before. -/
def setGrain (s : State) (v g : Nat) (c : Option Nat) (seq : Nat) : State × Option Nat :=
  match s.vol? v with
  | none => (s, none)
  | some x =>
    match s.findLeaf (leafOf g) 10 x.root with
    | none => (s, none)
    | some l =>
      match s.page? l with
      | none => (s, none)
      | some p =>
        let ents := match c with | some k => tPut p.ents (g % 64) k | none => tDel p.ents (g % 64)
        (s.setPage l { p with
          ents := ents
          dirty := true
          applied := max p.applied seq
          dirtyAt := if p.dirty then p.dirtyAt else seq
          used := s.now }, tGet? p.ents (g % 64))

/-- Every page reachable from a page. -/
def pagesUnder (s : State) : Nat → Nat → List Nat
  | 0, _ => []
  | n + 1, id =>
    match s.page? id with
    | none => []
    | some p => id :: p.slots.flatMap (fun e => pagesUnder s n e.2.2)

/-- Every page of a tree. -/
def treePages (s : State) (root : Nat) : List Nat := if root = 0 then [] else s.pagesUnder 10 root

/-- The grains a tree maps, with their chunks. -/
def treeGrains (s : State) (root : Nat) : List (Nat × Nat) :=
  (s.treePages root).flatMap (fun id => match s.page? id with
    | some p => if p.level = 0 then p.ents.map (fun e => (64 * p.key + e.1, e.2)) else []
    | none => [])

/-- Grains of a volume's size. -/
def volGrains (v : Volume) : Nat := if v.lbaf = 2 then ceilDiv v.blocks 8 else v.blocks

/-- The home map engine of a leaf page (R237), among the DPCs that were ACTIVE at the last beat boundary: homes change at a boundary only
(R258). None while no DPC was ACTIVE. -/
def homeOf (s : State) (v li : Nat) : Option Nat :=
  s.loom.dpcs[crc32c (leBytes v 2 ++ leBytes li 4) % s.loom.dpcs.length]?

/-- Whether the overlay holds a slot of a page, so that a lookup is resolved by it (R241). -/
def overlayHas (s : State) (id slot : Nat) : Bool := s.mp.overlay.any (fun o => o.1 == id && o.2.2.testBit slot)

/-- Whether a page is a leaf of a pinned volume's live tree. -/
def pinnedPage (s : State) (id : Nat) (p : Page) : Bool :=
  match s.vol? p.volume with
  | some v => v.pinned && s.findLeaf p.key 10 v.root == some id
  | none => false

/-- Residency counts of `MAPX.MAP_STATUS` (R239, R240). -/
def residentShow (s : State) : State :=
  let leaf := s.mp.pages.filter (fun e => e.2.level == 0 && e.2.resident)
  let pin := leaf.filter (fun e => s.pinnedPage e.1 e.2)
  (s.setFld Reg.MAPX_MAP_STATUS_PIN_RES_GIB (pin.length * 512 / 2 ^ 30)).setFld Reg.MAPX_MAP_STATUS_LEAF_RES_GIB
    ((leaf.length - pin.length) * 512 / 2 ^ 30)

end State

end Sys2Proof.Machine
end

