-- ==== Sys2Proof/Machine/Bobbin.lean ====
section
/-!
DEFINITION. Sys2Proof/Machine/Bobbin.lean: the Bobbin cache of each map engine (R255 to R258). A sector's content is the map
page's; the cache holds which sectors are present, in fill, or wait to be written to DRAM.
-/

namespace Sys2Proof.Machine

/-- A cache with nothing in it. -/
def emptyBobbin : Bobbin := { main := [], victim := [], miss := [], merge := [], late := [] }

/-- Whether a sector mask holds a sector. -/
def hasSector (mask sector : Nat) : Bool := mask / 2 ^ sector % 2 == 1

/-- A sector mask with a sector added. -/
def addSector (mask sector : Nat) : Nat := if hasSector mask sector then mask else mask + 2 ^ sector

/-- A sector mask with a sector taken away. -/
def dropSector (mask sector : Nat) : Nat := if hasSector mask sector then mask - 2 ^ sector else mask

namespace State

/-- A map engine's cache. -/
def bob (s : State) (n : Nat) : Bobbin := tGet s.mp.bobbins n emptyBobbin

/-- A map engine's cache written, and `DPC.BOBBIN_STATUS` brought up to date. -/
def setBob (s : State) (n : Nat) (b : Bobbin) : State :=
  (((({ s with mp.bobbins := if b = emptyBobbin then tDel s.mp.bobbins n else tPut s.mp.bobbins n b }.setFld
    (Reg.DPC_BOBBIN_STATUS_MAIN_VALID n) b.main.length).setFld (Reg.DPC_BOBBIN_STATUS_VICTIM_VALID n) b.victim.length).setFld
    (Reg.DPC_BOBBIN_STATUS_MISS_BUSY n) b.miss.length).setFld (Reg.DPC_BOBBIN_STATUS_MERGE_USED n) b.merge.length)

/-- A Bobbin counter advanced. -/
def bobCnt (s : State) (n k : Nat) : State := s.bump (Reg.DPC_BOBBIN_CNT n k) 1

/-- Cycles of a stall, which the spec does not fix, added to a counter. -/
def bobStall (s : State) (n k : Nat) : State :=
  let d := s.draw
  d.2.bump (Reg.DPC_BOBBIN_CNT n k) (Config.openWord d.1).toNat

/-- The oldest entry of a merging buffer drained to DRAM. -/
def bobDrain (s : State) (n : Nat) : State :=
  let b := s.bob n
  if b.merge.isEmpty then s else (s.setBob n { b with merge := b.merge.tail }).bobCnt n 6

/-- The bytes of its sector that a map entry's slot takes, one bit each (R229). -/
def slotMask (slot : Nat) : Nat := 255 * 2 ^ (8 * (slot % 8))

/-- An entry of the merging buffer written: its bytes merged into the sector's entry, else an entry added, after a stall while the buffer is
full (R257). -/
def bobMerge (s : State) (n v page slot : Nat) : State :=
  let b := s.bob n
  let same := fun (e : MergeEnt) => e.volume == v && e.page == page && e.sector == slot / 8
  if b.merge.any same then
    (s.setBob n { b with merge := b.merge.map (fun e => if same e then { e with mask := e.mask ||| slotMask slot } else e) }).bobCnt n 5
  else
    let s1 := if 16 ≤ b.merge.length then (s.bobStall n 8).bobDrain n else s
    s1.setBob n { s1.bob n with merge := (s1.bob n).merge ++ [⟨v, page, slot / 8, slotMask slot, s.now⟩] }

/-- A delta applied to a slot of a page by the page's home engine (R256, R257): it waits in the miss register while the fill of its sector is
in flight. -/
def bobApply (s : State) (v li page slot : Nat) : State :=
  match s.homeOf v li with
  | none => s
  | some n =>
    let b := s.bob n
    if b.miss.any (fun e => e.1 == v && e.2.1 == page && hasSector e.2.2.1 (slot / 8)) then
      s.setBob n { b with late := b.late ++ [(v, page, slot / 8, slot)] }
    else s.bobMerge n v page slot

/-- A page placed in front of the main array; the least recently used entry of a full array goes to the victim cache. -/
def mainPut (s : State) (n : Nat) (b : Bobbin) (e : Nat × Nat × Nat) : Bobbin :=
  let rest := b.main.filter (fun x => !(x.1 == e.1 && x.2.1 == e.2.1))
  let out := rest.drop 47
  let vic := b.victim.filter (fun x => !(x.1 == e.1 && x.2.1 == e.2.1))
  { b with
    main := e :: rest.take 47
    victim := if s.act (Reg.DPC_BOBBIN_CFG_VICTIM_EN n) = 1 then (out ++ vic).take 8 else [] }

/-- The cache with a page that the victim cache holds recalled into the main array (R256), whatever sectors of it are valid. -/
def victimBack (s : State) (n v page : Nat) (b : Bobbin) : Bobbin :=
  match b.victim.find? (fun e => e.1 == v && e.2.1 == page) with
  | some e => s.mainPut n b e
  | none => b

/-- A lookup of a page's sector (R256): none when it stalls, for want of a miss register or as the seventeenth to wait in one (DESIGN CHOICE,
R255 does not say what becomes of that one, log entry 80). A victim entry without the sector is recalled and its sector fetched like any other:
DEDUCED, since R256 has the entry recalled and the main array covers a page by sectors. -/
def bobTry (s : State) (n v page sector : Nat) (resident : Bool) : Option State :=
  let b := s.bob n
  let same := fun (e : Nat × Nat × Nat) => e.1 == v && e.2.1 == page
  match b.main.find? (fun e => same e && hasSector e.2.2 sector) with
  | some e => some ((s.setBob n (s.mainPut n b e)).bobCnt n 0)
  | none =>
    match b.victim.find? (fun e => same e && hasSector e.2.2 sector) with
    | some e => some ((s.setBob n (s.mainPut n b e)).bobCnt n 1)
    | none =>
      let b1 := s.victimBack n v page b
      match b.miss.find? (fun e => e.1 == v && e.2.1 == page) with
      | some m =>
        if 16 ≤ m.2.2.2 then none
        else
          some ((s.setBob n { b1 with miss := b.miss.map (fun x =>
            if x = m then (x.1, x.2.1, addSector x.2.2.1 sector, x.2.2.2 + 1) else x) }).bobCnt n 3)
      | none =>
        if 32 ≤ b.miss.length then none
        else
          let s1 := (s.setBob n { b1 with miss := b.miss ++ [(v, page, addSector 0 sector, 1)] }).bobCnt n 2
          some (if resident then s1 else s1.bobCnt n 4)

/-- A lookup of a page's sector (R256). One that finds no room waits, counted as a stall, until a register has closed. -/
def bobLookup (s : State) (n v page sector : Nat) (resident : Bool) : State :=
  match s.bobTry n v page sector resident with
  | some t => t
  | none => (s.setBob n { s.bob n with stalled := (s.bob n).stalled ++ [(v, page, sector)] }).bobStall n 7

/-- Whether a page is resident. -/
def isResident (s : State) (page : Nat) : Bool := ((s.page? page).map (fun p => p.resident)).getD false

/-- Lookups that stalled go on in the order in which they came, as far as there is room for them (R256). -/
def bobResume (s : State) (n : Nat) : State :=
  (s.bob n).stalled.foldl (fun t x =>
    match t.bobTry n x.1 x.2.1 x.2.2 (t.isResident x.2.1) with
    | some u => u.setBob n { u.bob n with stalled := dropFirst (fun y => y == x) (u.bob n).stalled }
    | none => t) s

/-- The cache after a sector's fill: the page stands in the main array with the sector valid; at an engine that is the page's home no more,
only the waiting requests are served (R258). -/
def bobFilled (s : State) (n v page sector : Nat) (b : Bobbin) : Bobbin :=
  if ((s.page? page).bind (fun p => s.homeOf v p.key)) = some n then
    let old := ((b.main ++ b.victim).find? (fun e => e.1 == v && e.2.1 == page)).map (fun e => e.2.2) |>.getD 0
    s.mainPut n b (v, page, addSector old sector)
  else b

/-- A sector's fill lands (R256, R257), once its page is resident: the sector becomes valid, the deltas that waited for it are applied, and
with its last sector the register closes, which lets lookups that stalled go on. -/
def bobFill (s : State) (n v page sector : Nat) : State :=
  let b := s.bob n
  match (if s.isResident page then b.miss.find? (fun e => e.1 == v && e.2.1 == page && hasSector e.2.2.1 sector) else none) with
  | none => s
  | some m =>
    let left := dropSector m.2.2.1 sector
    let waits := b.late.filter (fun e => e.1 == v && e.2.1 == page && e.2.2.1 == sector)
    let s1 := s.setBob n { s.bobFilled n v page sector b with
      miss := if left = 0 then b.miss.filter (fun x => x != m) else b.miss.map (fun x => if x = m then (x.1, x.2.1, left, x.2.2.2) else x)
      late := b.late.filter (fun e => !waits.contains e) }
    (waits.foldl (fun t w => t.bobMerge n v page w.2.2.2) s1).bobResume n

/-- Every cache invalidated, its merging buffer drained (R258); requests in its miss registers complete where they are. -/
def bobInvalidate (s : State) : State :=
  s.mp.bobbins.foldl (fun t e =>
    ((e.2.merge.foldl (fun u _ => u.bobDrain e.1) t).setBob e.1 { t.bob e.1 with main := [], victim := [], merge := [] }).bobCnt e.1 9) s

end State

end Sys2Proof.Machine
end

