-- ==== Sys2Proof/Machine/Segments.lean ====
section
/-!
DEFINITION. Sys2Proof/Machine/Segments.lean: MQP commands, blocks, segments and the rows that `SEGW` packs (R187, R188,
R259 to R270, R313, R314).
-/

namespace Sys2Proof.Machine

/-! ## Modules and MQP commands -/

/-- A module port before anything is seated: power is requested by Slot Control's reset value only once it is seated. -/
def emptyModule : Module :=
  { pwren := false, perstRel := false, present := false, pwrGood := false, pwrFault := false, seenPresent := 0,
    seenGood := 0, seenFault := 0, linkTries := 0, geom := none, geomTries := 0, array := 0, 
    defects := [], failedDies := 0, health := false, temp := 0, wear := 0, suspend := false, budget := false,
    claimed := false, tagsLeft := 0, cmds := [], nextCid := 0, redo := none, timeouts := [], overruns := [] }

namespace State

/-- A module port. -/
def module (s : State) (k : Nat) : Module := tGet s.mo.mods k emptyModule

/-- A module port written. -/
def setModule (s : State) (k : Nat) (m : Module) : State := { s with mo.mods := tPut s.mo.mods k m }

/-- A module port changed. -/
def modModule (s : State) (k : Nat) (f : Module → Module) : State := s.setModule k (f (s.module k))

/-- `MODP.STATUS.SVC`. -/
def svcState (s : State) (k : Nat) : Nat := s.fld (Reg.MODP_STATUS_SVC k)

/-- Whether a module is in service: IN_SERVICE or EVACUATING (R310). -/
def inServiceM (s : State) (k : Nat) : Bool := s.svcState k == 4 || s.svcState k == 5

/-- Modules in service. -/
def modulesIn (s : State) : List Nat := (List.range 64).filter s.inServiceM

/-- Commands that one queue of a port holds in flight (R313): 16 queues at 256 give the 4,096 of a port and the 262,144 of R13. -/
def queueDepth : Nat := 256

/-- The queue that a command waits outside of, because every queue of its kind is full. -/
def waitQueue : Nat := 16

/-- Whether a head that holds the lease alone finds a module's word 0 to name the other head: no program or erase goes to it before it has
been moved (R360). -/
def heldByOther (s : State) (k : Nat) : Bool :=
  s.fld Reg.OWN_STATUS_ROLE == 3 && bitsOf (s.reg (Reg.MODP_LEASE k)) 62 2 == 2 && bitsOf (s.reg (Reg.MODP_LEASE k)) 61 1 != s.headIndex % 2

/-- The queue a command goes to (R313): queue 0 for arbitration and control, the first of 1 to 15 that has room for a media operation of a
module in service; which of them the spec leaves open (log entry 99). -/
def queueFor (s : State) (k op : Nat) : Nat :=
  let media := (op = 0x01 || op = 0x02 || op = 0x10 || op = 0x11) && s.inServiceM k
  if (op = 0x10 || op = 0x11) && s.heldByOther k then waitQueue else ((if media then (List.range 15).map (fun i => i + 1) else [0]).find? (fun q =>
    decide (((s.module k).cmds.filter (fun c => c.queue == q)).length < queueDepth))).getD waitQueue

/-- A submission entry is written to its queue. -/
def submit1 (s : State) (k : Nat) (c : MqpCmd) : State :=
  (s.bump (Reg.MODP_CNT k 0) 1).emit (.mqp k c.queue c.cid c.op c.die c.block c.unit c.arg0 c.arg1 c.arg2)

/-- An MQP command is issued (R313, R314), or waits until a queue of its kind has room. A fenced head issues no program or erase but of its
VAULT segments (R359). -/
def mqpIssue (s : State) (k op die block unit : Nat) (arg0 arg1 : Word) (arg2 : Nat) (use : MqpUse) : State :=
  let m := s.module k
  if s.fld Reg.OWN_STATUS_ROLE = 5 && (op == 0x10 || op == 0x11) && arg0 != 1 then s
  else
  let c : MqpCmd := ⟨s.queueFor k op, m.nextCid, op, die, block, unit, arg0, arg1, arg2, use⟩
  let s1 := s.setModule k { m with cmds := m.cmds ++ [c], nextCid := (m.nextCid + 1) % 65536 }
  if c.queue = waitQueue then s1 else s1.submit1 k c

/-- A command has ended: those that wait for a queue are submitted, oldest first, as far as there is room. -/
def mqpNext (s : State) (k : Nat) : State :=
  ((s.module k).cmds.filter (fun c => c.queue == waitQueue)).foldl (fun t c =>
    let q := t.queueFor k c.op
    if q = waitQueue then t
    else
      let d := { c with queue := q }
      (t.modModule k (fun m => { m with cmds := m.cmds.map (fun x => if x = c then d else x) })).submit1 k d) s

/-! ## Blocks -/

/-- A block-table entry; a block not listed is DIRTY. -/
def blkOf (s : State) (k : Nat) : Blk := tGet s.md.blocks k ⟨.dirty, 0, 0⟩

/-- A block-table entry written. -/
def setBlkOf (s : State) (k : Nat) (b : Blk) : State := { s with md.blocks := tPut s.md.blocks k b }

end State

/-- The key of a block. -/
def blkKey (m d b : Nat) : Nat := m * 2 ^ 22 + d * 2 ^ 16 + b

namespace State

/-- Whether this head may place new members on a die (R137, R263). -/
def dieUsable (s : State) (d : Nat) : Bool := s.fld Reg.OWN_STATUS_ROLE == 3 || d % 2 == s.headIndex % 2

/-- Dies of a module that are not reported failed. -/
def diesOf (s : State) (k : Nat) : List Nat :=
  match (s.module k).geom with
  | some g => (List.range g.dies).filter (fun d => !(s.module k).failedDies.getLsbD d)
  | none => []

/-- A segment. -/
def seg? (s : State) (i : Nat) : Option Seg := tGet? s.md.segs i

/-- A segment written. -/
def setSeg (s : State) (i : Nat) (g : Seg) : State := { s with md.segs := tPut s.md.segs i g }

/-- A segment changed. -/
def modSeg (s : State) (i : Nat) (f : Seg → Seg) : State := { s with md.segs := tMod s.md.segs i f }

/-- This head's segments: ids whose bit 0 is its index, or every id in solo mode (R263). -/
def ownSeg (s : State) (i : Nat) : Bool := s.solo || i % 2 == s.headIndex % 2

/-- Open segments of a type. -/
def openSegs (s : State) (t : Nat) : List (Nat × Seg) := s.md.segs.filter (fun e => e.2.type == t && e.2.st == .opened)

/-- Whether a die is in an open segment of this head (R267). -/
def dieOpen (s : State) (k d : Nat) : Bool :=
  s.md.segs.any (fun e => e.2.st == .opened && e.2.members.any (fun m => m.1 == k && m.2.1 == d))

/-- Die time booked on a die over the horizon. -/
def dieBooked (s : State) (k d : Nat) : Nat :=
  s.loom.book.foldl (fun n b => if b.res = .die k d then n + b.amt else n) 0

/-- ERASED blocks on one die. -/
def erasedOn (s : State) (k d : Nat) : List (Nat × Blk) :=
  (s.md.blocks.filter (fun e => e.1 / 2 ^ 16 == k * 64 + d && e.2.st == .erased)).map (fun e => (e.1 % 2 ^ 16, e.2))

/-- Dies of a module on which a new member may lie: usable, in no open segment unless sharing, with an ERASED block. -/
def candDies (s : State) (k : Nat) (share : Bool) : List Nat :=
  (s.diesOf k).filter (fun d => s.dieUsable d && (share || !s.dieOpen k d) && !(s.erasedOn k d).isEmpty)

/-- ERASED blocks among the dies of a module that this head may use. -/
def erasedCount (s : State) (k : Nat) : Nat :=
  ((s.diesOf k).filter s.dieUsable).foldl (fun n d => n + (s.erasedOn k d).length) 0

/-- Modules that may take members: in service, not being evacuated, and claimed for this array (R325). -/
def openModules (s : State) : List Nat := (List.range 64).filter (fun k => s.svcState k == 4 && (s.module k).claimed)

/-- Units per block of a module. -/
def unitsOf (s : State) (k : Nat) : Nat := ((s.module k).geom.map (fun g => g.units)).getD 0

/-- The needed size (R261): the units per block that the most modules offer in an ERASED block on a usable die; ties go to
the larger. -/
def neededSize (s : State) : Nat :=
  let ms := s.openModules.filter (fun k => s.erasedCount k != 0)
  let votes := fun n => (ms.filter (fun k => s.unitsOf k == n)).length
  ms.foldl (fun best k =>
    let n := s.unitsOf k
    if votes best < votes n || (votes best = votes n && best < n) then n else best) 0

/-- The first of a list under a strict order test. -/
def bestBy {α : Type} (better : α → α → Bool) : List α → Option α
  | [] => none
  | x :: t => match bestBy better t with | none => some x | some y => if better y x then some y else some x

/-- The `MEDIA` instance whose role is ACTIVE. -/
def mediaActive (s : State) : Nat := if s.fld (Reg.MEDIA_STATUS_ROLE 0) = 0 then 0 else 1

/-- `WIDTH` in effect: that of the ACTIVE `MEDIA` instance (R261, R283). -/
def mediaWidth (s : State) : Nat := s.act (Reg.MEDIA_CFG_WIDTH s.mediaActive)

/-- Mastered dies (R266). -/
def masteredDies (s : State) : Nat := s.modulesIn.foldl (fun n k => n + ((s.diesOf k).filter s.dieUsable).length) 0

/-- *S* of R266: the open segments of the width in effect that the mastered dies hold without sharing a die. -/
def segRoom (s : State) : Nat := s.masteredDies / max 1 s.mediaWidth

/-- Open segments a head keeps of a type (R266). -/
def segLimit (s : State) (t : Nat) : Nat :=
  let x := s.segRoom
  if t = 3 || t = 4 || t = 5 then 1
  else if 20 ≤ x then if t = 1 then min 48 (x - 19) else 16
  else if 5 ≤ x then if t = 1 then (x - 3) / 2 else x - 3 - (x - 3) / 2
  else 1

/-- Modules in choice order: most ERASED blocks first, then the lowest number after the last module chosen (R267). -/
def chooseModules (s : State) : Nat → List Nat → List Nat
  | 0, _ => []
  | n + 1, l =>
    match bestBy (fun a b => s.erasedCount b < s.erasedCount a || (s.erasedCount a = s.erasedCount b
        && (a + 63 - s.md.lastModule) % 64 < (b + 63 - s.md.lastModule) % 64)) l with
    | none => []
    | some k => k :: chooseModules s n (l.filter (fun x => x != k))

/-- The die of a module that takes the new member (R266, R267): the fewest open segments when dies are shared, then the
least die time booked; the members of dump areas are spread over dies in the same way (R279). Between dies that are equal in all of this the
rule is silent: the lowest number, DESIGN CHOICE (log entry 124). -/
def chooseDie (s : State) (t k : Nat) (share : Bool) : Option Nat :=
  let uses := fun d => (s.md.segs.filter (fun e => (e.2.st == .opened || (t == 6 && e.2.type == 6)) && e.2.members.any (fun m => m.1 == k && m.2.1 == d))).length
  bestBy (fun a b => uses a < uses b || (uses a = uses b && s.dieBooked k a < s.dieBooked k b)) (s.candDies k share)

/-- The ERASED block of the lowest erase count on a die (R267); of equal counts the lowest number, DESIGN CHOICE (log entry 124). -/
def chooseBlock (s : State) (k d : Nat) : Option Nat :=
  (bestBy (fun (a b : Nat × Blk) => a.2.erases < b.2.erases) (s.erasedOn k d)).map (fun e => e.1)

/-- The id of a new segment (R263): in paired operation bit 0 is this head's index, in solo mode either parity will do; none when all 24-bit
ids are in use. Which free id is taken the rule does not say: the lowest, DESIGN CHOICE (log entry 125). -/
def newSegId (s : State) : Option Nat :=
  let used := s.md.segs.map (fun e => e.1)
  let n := s.md.segs.length + 1
  let h := s.headIndex % 2
  let id :=
    if s.solo then 1 + firstFree ((used.filter (fun i => 1 ≤ i)).map (fun i => i - 1)) n 0
    else 2 - h + 2 * firstFree ((used.filter (fun i => 2 - h ≤ i && i % 2 == h)).map (fun i => (i - (2 - h)) / 2)) n 0
  if id < 2 ^ 24 then some id else none

/-- `MEDIA.STATUS` counts on both instances. -/
def mediaShow (s : State) : State :=
  (List.range 2).foldl (fun t i =>
    (t.setFld (Reg.MEDIA_STATUS_OPEN_SEG i) ((t.md.segs.filter (fun e => e.2.st == .opened)).length)).setFld
      (Reg.MEDIA_STATUS_VICTIM_Q i) t.md.victims.length) s

/-- A media-manager counter of the ACTIVE instance. -/
def mediaCnt (s : State) (n k : Nat) : State := s.bump (Reg.MEDIA_CNT s.mediaActive n) k

/-- The blocks that a new segment of a type takes on the modules chosen, in member order (R267); none when one of them has no die for it. -/
def pickMembers (s : State) (t : Nat) (share : Bool) : List Nat → Option (List (Nat × Nat × Nat))
  | [] => some []
  | k :: l =>
    match (s.chooseDie t k share).bind (fun d => (s.chooseBlock k d).map (fun b => (k, d, b))), pickMembers s t share l with
    | some m, some r => some (m :: r)
    | _, _ => none

/-- The modules that may give a new segment a member (R261): in service, with an ERASED block of the needed size on a usable die. -/
def sizedModules (s : State) : List Nat := s.openModules.filter (fun k => s.unitsOf k == s.neededSize && s.erasedCount k != 0)

/-- A segment is opened (R261, R263, R267), with `w` members at most and at least `least`. Segments opened at one value of the time base take
sequences 2 ns apart, so that none repeats (R263, log entry 125). -/
def openSegment (s : State) (t w least : Nat) : Option (Nat × State) :=
  let size := s.neededSize
  let cand := s.sizedModules
  let width := min w cand.length
  if width < least || size = 0 then none
  else
    match s.newSegId with
    | none => none
    | some id =>
      let pick := s.chooseModules width cand
      let asc := (List.range 64).filter (fun k => pick.contains k)
      match s.pickMembers t (s.segRoom < 5) ((List.range width).map (fun i => asc.getD ((i + id) % width) 0)) with
      | none => none
      | some members =>
        let seq := max (s.now / 2 * 2) s.md.nextSeq
        let g : Seg :=
          { type := t, st := if t = 6 || t = 7 then .reserved else .opened, width := width, rows := size,
            seq := seq + id % 2, members := members, nextRow := 0, durable := 0, closedAt := 0,
            early := false, live := 0, dir := [], row := none, lost := [], degradedSeen := false, criticalSeen := false,
            clear := false, erasing := [], area := 0 }
        let s1 := members.foldl (fun u m =>
          let b := u.blkOf (blkKey m.1 m.2.1 m.2.2)
          u.setBlkOf (blkKey m.1 m.2.1 m.2.2)
            { b with st := if t = 6 || t = 7 then .reserved else .inSegment, seg := id }) s
        some (id, { s1.setSeg id g with md.lastModule := pick.getLastD s.md.lastModule, md.nextSeq := seq + 2 }.mediaShow)

/-- A dump area's segments. -/
def areaSegs (s : State) (area : Nat) : List (Nat × Seg) :=
  s.md.segs.filter (fun e => e.2.type == 6 && e.2.area == area && e.2.st == .reserved && s.ownSeg e.1)

/-- A VAULT or ROOT segment is released (R264): it is DRAINED, and its blocks are members of a DRAINED segment. -/
def unreserve (s : State) (id : Nat) : State :=
  match s.seg? id with
  | none => s
  | some g =>
    g.members.foldl (fun t m =>
      let k := blkKey m.1 m.2.1 m.2.2
      let b := t.blkOf k
      if b.st = .reserved then t.setBlkOf k { b with st := .inSegment } else t) (s.setSeg id { g with st := .drained })

/-- Whether an open segment still takes forms: a row of it is being filled, or it has rows left. -/
def takesForms (g : Seg) : Bool := decide (g.nextRow < g.rows) || (g.row.map (fun r => r.st == .filling)).getD false

/-- A new segment of a type may be opened: within its limit (R266), and a DATA segment only from `FREE_PM` 5 (R282). -/
def openNew (s : State) (t : Nat) : Option (Nat × State) :=
  if s.segLimit t ≤ (s.openSegs t).length || (t = 1 && s.fld (Reg.LOOM_GC_STATE_FREE_PM 0) < 5) then none
  else s.openSegment t s.mediaWidth 8

/-- A segment of a type that takes forms: an open one, else one opened now. -/
def openFor (s : State) (t : Nat) : State :=
  if (s.openSegs t).any (fun e => takesForms e.2) then s else ((s.openNew t).map (fun x => x.2)).getD s

/-! ## Live bytes (R270) -/

/-- Live bytes gained or lost by a segment. -/
def liveAdd (s : State) (seg n : Nat) : State := s.modSeg seg (fun g => { g with live := g.live + n })

/-- Live bytes lost by a segment. -/
def liveSub (s : State) (seg n : Nat) : State := s.modSeg seg (fun g => { g with live := g.live - n })

/-! ## Rows -/

/-- Data members of a segment. -/
def dataMembers (g : Seg) : Nat := g.width - 2

/-- An empty row. -/
def newRow (now : Nat) : Row :=
  { forms := [], member := 0, off := 0, since := now, pages := [], recs := [], st := .filling }

/-- A stored form held: that of its chunk, or one of a record whose chunk is gone. -/
def formHeld (s : State) (chunk : Nat) : Option Form :=
  match tGet? s.mp.forms chunk with
  | some f => some f
  | none => ((s.jr.own ++ s.jr.mir).flatMap (fun r => r.forms)).find? (fun f => f.chunk == chunk)

/-- A record that waits for a map-journal row: an own one, or one of the adopted mirror region. -/
def rowRecord (s : State) (q : Nat) : Option JRec :=
  if 2 ^ 64 ≤ q then s.jr.mir.find? (fun r => r.seq + 2 ^ 64 == q) else s.jr.own.find? (fun r => r.seq == q)

/-- The image of a page that goes to flash with an `APPLIED_SEQ`: that of the running checkpoint's cut where it was copied for it (R246),
else the page as it is. -/
def imagePage (s : State) (id applied : Nat) : Option Page :=
  match s.mp.ckpt.bind (fun r => (tGet? r.copy.pages id).filter (fun q => q.applied == applied)) with
  | some q => some q
  | none => tGet? s.mp.pages id

/-- The `APPLIED_SEQ` of a page's image as its row closes (R232): that of the page as it is then, or of the checkpoint's copy of it. -/
def stampPage (s : State) (x : Nat × Nat) : Nat × Nat :=
  match s.imagePage x.1 x.2 with
  | some q => (x.1, q.applied)
  | none => x

/-- What a data member of a row holds: its stored forms at their offsets (R187), its map pages (R232), or its map-journal records (R242). -/
def dataContent (s : State) (g : Seg) (r : Row) (member : Nat) : Bytes :=
  match g.type with
  | 3 => mapUnit (((r.pages.drop (120 * member)).take 120).filterMap (fun x => (s.imagePage x.1 x.2).map (fun p => (x.1, x.2, p))))
  | 4 => journalUnit (r.recs.filterMap s.rowRecord) member
  | _ => dataUnit ((r.forms.filter (fun p => p.member == member)).filterMap (fun p => (s.formHeld p.chunk).map (fun f => (p.off, f))))

/-- The units of a row as they are programmed: the data members', then P and Q (R284, R285); of a ROOT row the same unit in every member,
without parity (R280). -/
def rowContents (s : State) (g : Seg) (r : Row) : List Bytes :=
  if g.type = 7 then List.replicate g.width (zeroFill ((r.raw.getD []).headD []) 65536)
  else
    rowUnits ((List.range (dataMembers g)).map (fun i =>
      match r.raw with | some data => zeroFill (data.getD i []) 65536 | none => s.dataContent g r i))

/-- The page tag of a member's unit (R265): only data units of stored forms have a directory. -/
def tagOf (id : Nat) (g : Seg) (row : Nat) (forms : List Placed) (member : Nat) : PageTag :=
  ⟨g.type, member, g.width, id, row, g.seq, g.rows, if g.type = 1 || g.type = 2 then forms.filter (fun p => p.member == member) else []⟩

/-- A member's unit of a row is programmed: the command, its data and its page tag. -/
def programUnit (s : State) (id row member : Nat) (g : Seg) (m : Nat × Nat × Nat) (content tag : Bytes) : State :=
  let cid := (s.module m.1).nextCid
  let n := (s.module m.1).cmds.length
  let s1 := s.mqpIssue m.1 0x10 m.2.1 m.2.2 row (if g.type = 6 then 1 else 0) 0 0 (.program id row member)
  if (s1.module m.1).cmds.length = n then s1 else s1.emit (.unitData m.1 cid content tag)

/-- Members that a row's units are programmed on: all of them; of a dump stripe those that are not lost (R194). -/
def rowMembers (s : State) (g : Seg) : List Nat :=
  (List.range g.width).filter (fun i => g.type != 6 || (s.inServiceM (g.members.getD i (64, 0, 0)).1 && !g.lost.contains i))

/-- A row closes (R188): the parity engines compute P and Q, and its units are programmed on every member. -/
def closeRow (s : State) (seg : Nat) : State :=
  match s.seg? seg with
  | none => s
  | some g =>
    match g.row with
    | none => s
    | some r0 =>
      let r := { r0 with pages := r0.pages.map s.stampPage }
      if r.st != .filling then s
      else
        let idx := s.rowMembers g
        let s1 := s.setSeg seg { g with row := some { r with st := .program idx false }, nextRow := g.nextRow + 1 }
        let units := s.rowContents g r
        let s2 := idx.foldl (fun t i =>
          match g.members[i]? with
          | some m => t.programUnit seg g.nextRow i g m (units.getD i []) (tagBytes (tagOf seg g g.nextRow r.forms i))
          | none => t) s1
        s2.bump (Reg.SEGW_CNT 0) 1

/-- The open segment of a type whose row takes the next form: one being filled, else the next in turn that may start a row
(R266), else one opened now. DATA segments are not opened while `FREE_PM` is below 5 (R282). -/
def rowFor (s : State) (t : Nat) : Option (Nat × State) :=
  let os := s.openSegs t
  match os.find? (fun e => match e.2.row with | some r => r.st == .filling | none => false) with
  | some e => some (e.1, s)
  | none =>
    let ready := os.filter (fun e => e.2.row.isNone && e.2.nextRow < e.2.rows)
    match (match ready.find? (fun e => s.md.lastData < e.1) with | some e => some e | none => ready.head?) with
    | some e =>
      some (e.1, { s.modSeg e.1 (fun g => { g with row := some (newRow s.now) }) with md.lastData := if t = 1 then e.1 else s.md.lastData })
    | none =>
      match s.openNew t with
      | some (id, s1) =>
        some (id, { s1.modSeg id (fun g => { g with row := some (newRow s.now) }) with md.lastData := if t = 1 then id else s1.md.lastData })
      | none => none

/-- The oldest row of a type that waits to be written whole starts in the open segment of the type, or in one opened now; while that segment
has a row in program it waits (R266), and a row that is being filled there is closed first. -/
def bulkNext (s : State) (t : Nat) : State :=
  match s.md.bulk.find? (fun b => b.type == t) with
  | none => s
  | some b =>
    let start := fun (u : State) (id : Nat) =>
      ({ u.modSeg id (fun g => { g with row := some { newRow u.now with raw := some b.data, tables := b.pages } }) with
        md.bulk := dropFirst (fun (x : BulkRow) => x == b) u.md.bulk }).closeRow id
    match s.openSegs t with
    | (id, g) :: _ =>
      match g.row with
      | none => if g.nextRow < g.rows then start s id else s
      | some r => if r.st = .filling then s.closeRow id else s
    | [] =>
      match s.openSegment t s.mediaWidth 8 with
      | some (id, u) => start u id
      | none => s

/-- Rows of the tables and of the index that could not start yet are tried again. -/
def bulkRetry (s : State) : State := (s.bulkNext 3).bulkNext 5

/-- Where a form of `n` 32-byte units goes in a row of `d` data members: it crosses no unit, and a unit's directory holds
1,016 entries (R187, R265). -/
def placeIn (r : Row) (n : Nat) : Nat × Nat :=
  if 2048 < r.off + n || 1016 ≤ (r.forms.filter (fun f => f.member == r.member)).length then (r.member + 1, 0)
  else (r.member, r.off)

/-- A stored form packed into a row of a type (R187): none when no row can take it now. A row that it fills closes. -/
def packForm (s : State) (t chunk n : Nat) (moved : Bool) : Nat → Option State
  | 0 => none
  | fuel + 1 =>
    match s.rowFor t with
    | none => none
    | some (id, s1) =>
      match s1.seg? id with
      | none => none
      | some g =>
        match g.row with
        | none => none
        | some r =>
          let p := placeIn r n
          if dataMembers g ≤ p.1 then packForm (s1.closeRow id) t chunk n moved fuel
          else
            let r' := { r with
              forms := r.forms ++ [⟨p.1, p.2, chunk, n, moved⟩]
              member := p.1
              off := p.2 + n
              since := if r.forms.isEmpty then s.now else r.since }
            let s2 := s1.setSeg id { g with row := some r' }
            some (if p.1 + 1 = dataMembers g && (2048 ≤ r'.off || 1016 ≤ (r'.forms.filter (fun f => f.member == p.1)).length) then
              s2.closeRow id else s2)

/-- Whether a chunk's form lies in a row that is being filled or programmed. -/
def placedNow (s : State) (c : Nat) : Bool :=
  s.md.segs.any (fun e => match e.2.row with | some r => r.forms.any (fun f => f.chunk == c) | none => false)

end State

end Sys2Proof.Machine
end

