-- ==== Sys2Proof/Machine/Ring.lean ====
section
/-!
DEFINITION. Sys2Proof/Machine/Ring.lean: the protected regions in DRAM: how a region's ring is striped over the channels, the SRAM parity
buffer, the lap masks, and what channel parity can rebuild (R182 to R184).
-/

namespace Sys2Proof.Machine

/-- The key of a stripe: region 0 own, 1 mirror. -/
def stripeKey (region stripe : Nat) : Nat := 2 * stripe + region

/-- Stripes that the 16 MiB parity buffer holds (R183). -/
def parityStripes : Nat := 4096

/-- The mask of the data blocks written in the current lap, after one more block is written (R183); `lapStart` empties it when the ring comes
to the stripe again. -/
def lapMask (mask i : Nat) : Nat := mask ||| 2 ^ i

namespace State

/-! ## Where a block lies -/

/-- Data blocks of a stripe: one channel of those striped over holds its parity (R182). -/
def dataBlocks (s : State) : Nat := s.jr.striped.length - 1

/-- Usable 4 KiB blocks of a region of a raw size in GiB over `n` channels (R182). -/
def usableBlocks (gib n : Nat) : Nat := if n = 0 then 0 else gib * 262144 * (n - 1) / n

/-- Usable 4 KiB blocks of a region of a raw size in GiB over the channels in service (R182). -/
def ringBlocks (s : State) (gib : Nat) : Nat := usableBlocks gib (s.fld Reg.SELV_STATUS_CHANNELS)

/-- The stripe of a ring block, and the block's place among the stripe's data blocks. -/
def stripeOf (s : State) (block : Nat) : Nat × Nat := (block / s.dataBlocks, block % s.dataBlocks)

/-- The channel of a stripe's parity block, which rotates by stripe (R182); the order is the model's (log entry 93). -/
def parityChannel (s : State) (stripe : Nat) : Nat := s.jr.striped.getD (stripe % s.jr.striped.length) 16

/-- The channel of a data block. -/
def dataChannel (s : State) (stripe i : Nat) : Nat := s.jr.striped.getD ((stripe + 1 + i) % s.jr.striped.length) 16

/-! ## Writing blocks (R183) -/

/-- The oldest open stripe leaves a full parity buffer: its parity is written to DRAM. -/
def evictStripe (l : List Nat) : List Nat := if l.length < parityStripes then l else l.tail

/-- One 4 KiB block of a region is written. An open stripe's parity changes in the SRAM buffer, and leaves it once every data block has
been written; a stripe whose parity was evicted has it changed in DRAM by read-modify-write; a new lap opens the stripe (R183). -/
def stripeWrite (region : Nat) (s : State) (block : Nat) : State :=
  if s.dataBlocks = 0 then s
  else
    let (stripe, i) := s.stripeOf block
    let key := stripeKey region stripe
    let old := tGet s.jr.laps key 0
    let mask := lapMask old i
    let evicted := old != 0 && mask != 2 ^ i && !s.jr.openStripes.contains key
    let held := if s.jr.openStripes.contains key || evicted then s.jr.openStripes else evictStripe s.jr.openStripes ++ [key]
    { s with
      jr.laps := tPut s.jr.laps key mask
      jr.openStripes := if mask + 1 = 2 ^ s.dataBlocks then held.filter (fun k => k != key) else held }

/-- Ring blocks from an offset, round the end of the region's ring. -/
def ringSpan (s : State) (region off n : Nat) : List Nat :=
  let gib := s.act (if region = 0 then Reg.SELV_CFG_OWN_GIB else Reg.SELV_CFG_MIRROR_GIB)
  let size := max 1 (usableBlocks gib s.jr.striped.length)
  (List.range n).map (fun k => (off + k) % size)

/-- The blocks of a record are written. -/
def blocksWrite (s : State) (region off n : Nat) : State := (s.ringSpan region off n).foldl (stripeWrite region) s

/-- A region's ring comes to new blocks: the lap of each stripe whose first block is one of them starts over (R183). -/
def lapStart (s : State) (region off n : Nat) : State :=
  if s.dataBlocks = 0 then s
  else
    let keys := ((s.ringSpan region off n).filter (fun b => b % s.dataBlocks == 0)).map (fun b => stripeKey region (b / s.dataBlocks))
    { s with jr.laps := keys.foldl tDel s.jr.laps, jr.openStripes := s.jr.openStripes.filter (fun k => !keys.contains k) }

/-- A mirror record's extent: the mirror's ring comes to what of it lies ahead, at most half a ring (R183). An empty region's lap begins with
it. -/
def mirrorLap (s : State) (off n : Nat) : State :=
  let size := max 1 (usableBlocks (s.act Reg.SELV_CFG_MIRROR_GIB) s.jr.striped.length)
  let start := if s.jr.mir.isEmpty then off % size else s.jr.mirNext % size
  let ahead := (off + n + size - start) % size
  if 2 * ahead ≤ size then { s.lapStart 1 start ahead with jr.mirNext := (off + n) % size } else s

/-! ## Reconstruction (R183, R184) -/

/-- Whether a stripe's parity can be read: in SRAM as well as in DRAM it protects the stripe (R183). -/
def parityHeld (s : State) (region stripe : Nat) : Bool :=
  s.jr.openStripes.contains (stripeKey region stripe) || !s.jr.lostCh.contains (s.parityChannel stripe)

/-- Whether channel parity rebuilds a block whose channel cannot deliver it: the block and the others of the mask, which alone are XORed, lie
on channels that are there, and so does the parity (R183, R184). -/
def rebuildable (s : State) (region block : Nat) : Bool :=
  let (stripe, i) := s.stripeOf block
  let mask := tGet s.jr.laps (stripeKey region stripe) 0
  mask.testBit i && s.parityHeld region stripe
    && (List.range s.dataBlocks).all (fun j => j == i || !mask.testBit j || !s.jr.lostCh.contains (s.dataChannel stripe j))

/-- Whether every block of a record that lies on a channel can be rebuilt. -/
def recordRebuilt (s : State) (region : Nat) (r : JRec) (channel : Nat) : Bool :=
  (s.ringSpan region r.off (ceilDiv r.bytes 4096)).all (fun b =>
    s.dataChannel (s.stripeOf b).1 (s.stripeOf b).2 != channel || s.rebuildable region b)

/-- The records of both regions that a channel's failure leaves unreadable: hold-up dumps them as read (R194). -/
def regionsHurt (s : State) (channel : Nat) : State :=
  if s.dataBlocks = 0 then s
  else
    let bad := fun (region : Nat) (l : List JRec) => (l.filter (fun r => !s.recordRebuilt region r channel)).map (fun r => r.seq)
    { s with jr.badOwn := (s.jr.badOwn ++ bad 0 s.jr.own).dedup, jr.badMir := (s.jr.badMir ++ bad 1 s.jr.mir).dedup }

/-! ## Re-striping (R184, R199) -/

/-- Channels that a re-striping leaves the regions on: those neither failed nor retired, and, outside of a recovery window, not being
drained: a fault aborts the drain's re-striping, which is retried once the window has closed (R21). -/
def stripeChannels (s : State) : List Nat :=
  let held := fun (i : Nat) => !s.bit Reg.SELV_STATUS_DEGRADED && (s.blk (Reg.DRAMC_PAGE i) == DRAINING || s.blk (Reg.DRAMC_PAGE i) == DRAINED)
  (List.range 16).filter (fun i => !s.jr.lostCh.contains i && s.blk (Reg.DRAMC_PAGE i) != RETIRED && !held i)

/-- Both regions striped afresh over a list of channels: the records keep their ring offsets, and every stripe's parity is in DRAM (R184). -/
def restripe (s : State) (channels : List Nat) : State :=
  let s1 := { s with jr.striped := channels, jr.laps := [], jr.openStripes := [] }
  let s2 := s1.jr.own.foldl (fun t r => t.blocksWrite 0 r.off (ceilDiv r.bytes 4096)) s1
  let s3 := s2.jr.mir.foldl (fun t r => t.blocksWrite 1 r.off (ceilDiv r.bytes 4096)) s2
  { s3 with jr.openStripes := [] }

/-- The laps of a region whose ring starts empty. -/
def ringClear (s : State) (region : Nat) : State :=
  { s with
    jr.laps := s.jr.laps.filter (fun e => e.1 % 2 != region)
    jr.mirNext := if region = 1 then 0 else s.jr.mirNext
    jr.openStripes := s.jr.openStripes.filter (fun k => k % 2 != region) }

end State

end Sys2Proof.Machine
end

