-- ==== Sys2Proof/Machine/Journal.lean ====
section
/-!
DEFINITION. Sys2Proof/Machine/Journal.lean: the Selvedge regions (R176 to R181, R189), what a record does to the maps and
the reference counts (R212, R235), and how records become FLASHED and retire.
-/

namespace Sys2Proof.Machine

/-! ## Sizes -/

/-- Bytes of a WRITE, DEALLOC or COPY record: header, deltas padded to 32 bytes, stored forms (R177). -/
def recordSize (deltas : List Delta) (forms : List Form) : Nat :=
  64 + 32 * ceilDiv deltas.length 2 + forms.foldl (fun n f => n + formBytes f) 0

/-- The worst-case record size in 4 KiB blocks of `d` deltas and `s` stored forms (R176). -/
def worstBlocks (d s : Nat) : Nat := ceilDiv (64 + 32 * ceilDiv d 2 + 4128 * s) 4096

/-- A record with every field at nothing. -/
def blankRec : JRec :=
  { seq := 0, type := 4, fua := false, solo := false, fwd := false, pi := false, rmw := false, bytes := 64, volume := 0,
    group := 0, cls := 0, tenant := 0, first := 0, time := 0, snapGen := 0, deltas := [], forms := [], ctl := [], row := none,
    off := 0, blks := 0, mirrored := false, journaled := false, flashed := false, olds := [] }

namespace State

/-! ## The regions -/

/-- Blocks of the own ring allocated. -/
def ownUsed (s : State) : Nat := s.jr.exts.foldl (fun n e => n + e.blks) 0

/-- Blocks of the mirror ring allocated: from the oldest record's first to the newest's last, round the ring. -/
def mirUsed (s : State) : Nat :=
  match s.jr.mir.head?, s.jr.mir.getLast? with
  | some a, some b =>
    let size := max 1 (s.ringBlocks (s.act Reg.SELV_CFG_MIRROR_GIB))
    (b.off + b.blks + size - a.off - 1) % size + 1
  | _, _ => 0

/-- `SELV`'s counts brought up to date. -/
def selvShow (s : State) : State :=
  let next := (s.reg Reg.SELV_OWN_NEXT_SEQ)
  let mnext := (s.reg Reg.SELV_MIR_NEXT_SEQ)
  let s1 := s.setReg Reg.SELV_OWN_TAIL_SEQ ((s.jr.own.head?.map (fun r => BitVec.ofNat 64 r.seq)).getD next)
  let s2 := s1.setReg Reg.SELV_MIR_TAIL_SEQ ((s.jr.mir.head?.map (fun r => BitVec.ofNat 64 r.seq)).getD mnext)
  let s3 := (s2.setFld Reg.SELV_OWN_USED_BLOCKS s.ownUsed).setFld Reg.SELV_OWN_USED_RECORDS s.jr.own.length
  (s3.setFld Reg.SELV_MIR_USED_BLOCKS s.mirUsed).setFld Reg.SELV_MIR_USED_RECORDS s.jr.mir.length

/-- Whether the own region can take an extent of `n` blocks and one more record (R180). -/
def recRoom (s : State) (n : Nat) : Bool :=
  s.ownUsed + n ≤ s.ringBlocks (s.act Reg.SELV_CFG_OWN_GIB) && s.jr.own.length + (s.jr.exts.filter (fun e => e.cmd.isSome)).length < 1048576

/-- Whether a draft's record has room in the own region; records that wait for room go first (R180). -/
def journalRoom (s : State) (n : Nat) : Bool := s.recRoom n && s.jr.waits.isEmpty

/-- An extent taken from the ring (R176). -/
def takeExtent (s : State) (n : Nat) (cmd : Option Nat) : Nat × State :=
  let size := max 1 (s.ringBlocks (s.act Reg.SELV_CFG_OWN_GIB))
  let off := s.jr.next % size
  (off, ({ s with jr.exts := s.jr.exts ++ [Ext.mk off n cmd none], jr.next := (off + n) % size }.lapStart 0 off n).selvShow)

/-- Whether a command is bound to a tee at its acceptance: while mirroring is in use, and at the server of a join (R171, R172, R371);
hold-up closes the tees (R192). -/
def teeOpen (s : State) : Bool :=
  !s.chip.holdup && (!s.solo || (s.own.join.map (fun j => j.gives && j.sent)).getD false)

/-- The chunk-table entries of a headed record's new chunks name its region and ring offset (R233). -/
def formsHeaded (s : State) (r : JRec) : State :=
  { s with mp.chunks := r.forms.foldl (fun m f => tMod m f.chunk (fun (e : Chunk) =>
      if e.state = .journaled then { e with segment := 0, off := r.off } else e)) s.mp.chunks }

/-- A record headed at an extent already taken (R179): `SEQ` is the next of the region, the unused end of the extent becomes a
PAD record, and an open tee sends the record to the mirror (R171). In solo mode, and without a tee, it carries `FLAGS.SOLO` (R172). -/
def headAt (s : State) (r : JRec) (off blks : Nat) (tee : Bool) : Nat × State :=
  let seq := (s.reg Reg.SELV_OWN_NEXT_SEQ).toNat
  let n := ceilDiv r.bytes 4096
  let solo := s.solo || !tee
  let r' := { r with seq := seq, off := off, blks := n, solo := solo, mirrored := solo, time := r.time }
  let exts := s.jr.exts.flatMap (fun (e : Ext) =>
    if e.off = off then
      [Ext.mk off n none (some seq)] ++ (if n < blks then [Ext.mk (off + n) (blks - n) none none] else [])
    else [e])
  let s1 := { s with jr.own := s.jr.own ++ [r'], jr.exts := exts, jr.jwait := s.jr.jwait ++ [seq] }
  let s2 := s1.setReg Reg.SELV_OWN_NEXT_SEQ (BitVec.ofNat 64 (seq + 1))
  let s3 := s2.blocksWrite 0 off (if n < blks then n + 1 else n)
  let s4 := (if tee && s.linkUp then s3.sendRecord r' else s3).formsHeaded r'
  (seq, s4.selvShow)

/-- A CONTROL or ROW_DURABLE record headed, sized exactly, with this head's index in `CLASS` (R176, R177). -/
def headRec (s : State) (r : JRec) : Nat × State :=
  let n := ceilDiv r.bytes 4096
  let (off, s1) := s.takeExtent n none
  { s1 with jr.exts := s1.jr.exts.map (fun (e : Ext) => if e.off = off && e.seq.isNone && e.cmd.isNone then { e with seq := some 0 } else e) }.headAt
    { r with time := s.now, cls := r.cls % 4 + 4 * (s.headIndex % 2) } off n s.teeOpen

/-- A CONTROL or ROW_DURABLE record: headed, or waiting where the own region has no room for it, since R180 refuses drafts alone: DESIGN CHOICE
(log entry 94). -/
def appendRec (s : State) (r : JRec) : Nat × State :=
  if s.jr.waits.isEmpty && s.recRoom (ceilDiv r.bytes 4096) then s.headRec r
  else ((s.reg Reg.SELV_OWN_NEXT_SEQ).toNat, { s with jr.waits := s.jr.waits ++ [r] })

/-- Records that wait are headed while there is room, at most so many. -/
def headWaits : Nat → State → State
  | 0, s => s
  | n + 1, s =>
    match s.jr.waits with
    | [] => s
    | r :: rest => if s.recRoom (ceilDiv r.bytes 4096) then headWaits n ({ s with jr.waits := rest }.headRec r).2 else s

/-- The entries at the front of a list that one CONTROL record holds: those of one subtype, as many as `ENTRIES` counts (R243). -/
def oneSubtype : List Ctl → List Ctl
  | [] => []
  | c :: t => c :: (t.takeWhile (fun x => x.sub == c.sub)).take 65534

/-- Bytes of a CONTROL record of entries (R177, R243). -/
def ctlSize (l : List Ctl) : Nat := ceilDiv (64 + 32 + l.foldl (fun n x => n + ctlBytes x) 0) 32 * 32

/-- The first records of a list of entries, at most so many. -/
def journalRuns : Nat → State → List Ctl → State
  | 0, s, _ => s
  | _, s, [] => s
  | n + 1, s, l =>
    let part := oneSubtype l
    journalRuns n (s.appendRec { blankRec with ctl := part, bytes := ctlSize part }).2 (l.drop part.length)

/-- CONTROL records of entries, one record for each run of one subtype (R243). -/
def journalCtl (s : State) (l : List Ctl) : State := journalRuns l.length s l

/-! ## Counts that fall (R212) -/

/-- Bytes a chunk occupies: tenant gauge 12 of its keeper (R478). -/
def physBytes (e : Chunk) : Nat := 32 * e.len32

/-- A page's flash image becomes dead space (R270). -/
def imageDies (s : State) (id : Nat) (p : Page) : State :=
  match p.flash with
  | some (seg, _) => if s.ownSeg seg then s.liveSub seg 512 else s.sendMsg 0x000B [seg, id, 512]
  | none => s

/-- A located form dies: its segment loses its bytes at the allocating head, which is told when it is the other (R270). -/
def liveDies (s : State) (c : Nat) (e : Chunk) : State :=
  if e.state != .located then s
  else if s.ownSeg e.segment then s.liveSub e.segment (32 * e.len32)
  else s.sendMsg 0x000B [e.segment, c, 32 * e.len32]

/-- An alias is removed: the record of its ALIAS entry lets its target go when it is FLASHED (R216, R235). -/
def aliasRemoved (s : State) (c target : Nat) : State :=
  (s.appendRec { blankRec with ctl := [⟨0x04, [c, target, 2]⟩], bytes := 128, olds := [target] }).2

/-- A count falls by one; at 0 the keeper journals FREEING, or FREE at once for a LOST chunk (R212), and an alias is removed (R216). -/
def countDown (s : State) (c : Nat) : State :=
    match s.chunk? c with
    | none => s
    | some e =>
      if e.count = 0xFFFFF || e.count = 0 then s
      else if 1 < e.count || !s.keepsPool (poolOf c) then s.setChunk c { e with count := e.count - 1 }
      else
        match e.state with
        | .lost => ((s.tcntSub e.tenant 12 (physBytes e)).dropChunk c).journalCtl [⟨0x03, [c, 0, 1]⟩]
        | .alias_ => ((s.setChunk c { e with count := 0, state := .freeing }).aliasRemoved c e.target).journalCtl [⟨0x03, [c, 4, 0]⟩]
        | _ => ((s.liveDies c e).setChunk c { e with count := 0, state := .freeing }).journalCtl [⟨0x03, [c, 4, 0]⟩]

/-- The chunks a FLASHED record lets go. -/
def lower (s : State) (l : List Nat) : State := l.foldl countDown s

/-! ## A record's map deltas -/

/-- A grain of a volume mapped or unmapped, with the tenant's logical bytes (R478). -/
def mapGrain (s : State) (v g : Nat) (c : Option Nat) (seq : Nat) : State × Option Nat :=
  let r0 := s.setGrain v g c seq
  let r := match s.vol? v with
    | some x =>
      match s.findLeaf (leafOf g) 10 x.root with
      | some l => if tGet? s.nv.groups x.group = some s.headIndex then (r0.1.bobApply v (leafOf g) l (g % 64), r0.2) else r0
      | none => r0
    | none => r0
  let t := ((s.vol? v).map (fun x => x.tenant)).getD 0
  match c, r.2 with
  | some _, none => (r.1.tcntAdd t 11 4096, none)
  | none, some o => (r.1.tcntSub t 11 4096, some o)
  | _, o => (r.1, o)

/-- The leaf indexes that a record's deltas change. -/
def deltaLeaves (s : State) (r : JRec) : List Nat :=
  (r.deltas.flatMap (fun d => match d with
    | .store _ g _ _ | .dedup _ g _ | .pending _ g _ => [leafOf (r.first + g)]
    | .deallocRange f n =>
      match s.vol? r.volume with
      | some x => (((s.treeGrains x.root).filter (fun e => f ≤ e.1 && e.1 < f + n)).map (fun e => leafOf e.1)).dedup
      | none => []
    | .copyRange _ f n => (List.range (leafOf (f + n - 1) + 1 - leafOf f)).map (fun i => leafOf f + i))).dedup

/-- Every leaf a record changes is made ready, its copies and new pages journaled in a record before it (R245, R252). -/
def readyLeaves (s : State) (r : JRec) : State :=
  let x := (s.deltaLeaves r).foldl (fun (a : State × List Ctl) li =>
    let y := a.1.touchLeaf r.volume li
    (y.1, a.2 ++ y.2)) (s, [])
  x.1.journalCtl x.2

/-- One delta applied; `rise` says that the increments of range copies are made here. The second part gathers the chunks that
lose a reference when the record is FLASHED. -/
def applyDelta (r : JRec) (rise : Bool) (a : State × List Nat) (d : Delta) : State × List Nat :=
  match d with
  | .store c g _ _ | .dedup c g _ | .pending c g _ =>
    let y := a.1.mapGrain r.volume (r.first + g) (some c) r.seq
    (y.1, a.2 ++ y.2.toList)
  | .deallocRange f n =>
    match a.1.vol? r.volume with
    | none => a
    | some x =>
      ((a.1.treeGrains x.root).filter (fun e => f ≤ e.1 && e.1 < f + n)).foldl (fun (b : State × List Nat) e =>
        let y := b.1.mapGrain r.volume e.1 none r.seq
        (y.1, b.2 ++ y.2.toList)) a
  | .copyRange src dst n =>
    (List.range n).foldl (fun (b : State × List Nat) i =>
      let c := b.1.lookup r.volume (src + i)
      let s1 := match c with | some k => if rise then b.1.countUp k 1 else b.1 | none => b.1
      let y := s1.mapGrain r.volume (dst + i) c r.seq
      (y.1, b.2 ++ y.2.toList)) a

/-- A record's deltas applied in order. -/
def applyDeltas (s : State) (r : JRec) : State × List Nat := r.deltas.foldl (applyDelta r true) (s, [])

/-! ## ROW_DURABLE -/

/-- One entry of a ROW_DURABLE record (R235, R273): a new form's chunk becomes LOCATED; a moved one changes place only while
it is LOCATED. -/
def applyPlaced (d : RowDur) (s : State) (p : Placed) : State :=
  match s.chunk? p.chunk with
  | none => s
  | some e =>
    if (p.moved && e.state != .located) || (!p.moved && e.state != .journaled) then s
    else
      let s1 := if p.moved then s.liveSub e.segment (32 * e.len32) else s
      (s1.setChunk p.chunk { e with
        state := .located, segment := d.segment, row := d.row, member := p.member, off := p.off, len32 := p.len32 }).liveAdd
        d.segment (32 * p.len32)

/-- A form of a ROW_DURABLE record noted in the oldest record that holds it and has it in no durable row yet (R181). -/
def notePlaced (chunk : Nat) : List JRec → List JRec
  | [] => []
  | r :: t =>
    if r.forms.any (fun f => f.chunk == chunk) && !r.placed.contains chunk then { r with placed := r.placed ++ [chunk] } :: t
    else r :: notePlaced chunk t

/-- Every new form of a ROW_DURABLE record noted in the records of both regions. -/
def formsPlaced (s : State) (l : List Placed) : State :=
  (l.filter (fun p => !p.moved)).foldl (fun t p =>
    { t with jr.own := notePlaced p.chunk t.jr.own, jr.mir := notePlaced p.chunk t.jr.mir }) s

/-- A ROW_DURABLE body applied at a head. -/
def applyRow (s : State) (d : RowDur) : State :=
  ((d.entries.foldl (applyPlaced d) s).formsPlaced d.entries).modSeg d.segment (fun g =>
    { g with dir := g.dir ++ d.entries.map (fun p => (d.row, p)), durable := max g.durable (d.row + 1) })

/-- The ROW_DURABLE record of a durable row (R189, R244). -/
def rowDurable (s : State) (seg row : Nat) (forms : List Placed) : State :=
  match s.seg? seg with
  | none => s
  | some g =>
    let d : RowDur := ⟨seg, row, g.width, g.seq, forms⟩
    ((s.appendRec { blankRec with type := 5, row := some d, bytes := 64 + 32 * ceilDiv (32 + 16 * forms.length) 32 }).2).applyRow d

/-! ## FLASHED and RETIRED (R181) -/

/-- Whether a stored form of a record lies in a row of a ROW_DURABLE record. One that was LOCATED before its record was loaded by replay
does; a LOST one will never lie in a row. -/
def formDurable (s : State) (r : JRec) (chunk : Nat) : Bool :=
  r.placed.contains chunk || match s.chunk? chunk with | some e => e.state == .located || e.state == .lost | none => false

/-- Whether every stored form of a record lies in a row of a ROW_DURABLE record (R181). -/
def formsDurable (s : State) (r : JRec) : Bool := r.forms.all (fun f => s.formDurable r f.chunk)

/-- A pool this head keeps is released once every id in it is FREE again (R234). -/
def poolRelease (s : State) (p : Nat) : State :=
  match tGet? s.mp.pools p with
  | some q =>
    if s.keepsPool p && q.next != 0 && q.next == q.freed.length + q.head.length then
      { s with mp.pools := tDel s.mp.pools p }.journalCtl [⟨0x05, [p, s.headIndex, 2]⟩]
    else s
  | none => s

/-- What the FLASHED and MIRRORED point of a CHUNK_STATE entry lets happen (R212): after FREEING the keeper journals FREE and
the id returns; after a LOST chunk's FREE the id returns. -/
def freeingDone (s : State) (c : Ctl) : State :=
  match c.sub, c.body with
  | 0x03, [k, 4, _] =>
    match s.chunk? k with
    | some e =>
      if e.state == .freeing && e.count == 0 && s.keepsPool (poolOf k) then
        ((((s.tcntSub e.tenant 12 (physBytes e)).dropChunk k).journalCtl [⟨0x03, [k, 0, 0]⟩]).freeId k).poolRelease (poolOf k)
      else s
    | none => s
  | 0x03, [k, 0, 1] => if s.keepsPool (poolOf k) then (s.freeId k).poolRelease (poolOf k) else s
  | _, _ => s

/-- Whether a record counts as MIRRORED: acknowledged, headed in solo mode, or headed by a head whose partner is lost and whose lease
move has not won yet (R181, R366). -/
def mirrored? (s : State) (r : JRec) : Bool := r.mirrored || s.own.noQuorum

/-- What a record that has become FLASHED lets happen at once, and, once it is MIRRORED too, what its entries let happen. -/
def flashedDone (s : State) (r : JRec) : State :=
  let s1 := s.lower r.olds
  if s1.mirrored? r then r.ctl.foldl freeingDone s1 else s1

/-- Own records that satisfy a test become MIRRORED; those already FLASHED let their entries take effect. -/
def markMirrored (s : State) (p : JRec → Bool) : State :=
  let ready := s.jr.own.filter (fun r => p r && !r.mirrored && r.flashed)
  ready.foldl (fun t r => r.ctl.foldl freeingDone t)
    { s with jr.own := s.jr.own.map (fun (r : JRec) => if p r then { r with mirrored := true } else r) }

/-- Records of a region that can become FLASHED. -/
def flashReady (s : State) (l : List JRec) : List JRec :=
  l.filter (fun r => !r.flashed && r.journaled && s.formsDurable r)

/-- Records of a region marked FLASHED. -/
def markFlashed (l : List JRec) (seqs : List Nat) : List JRec :=
  l.map (fun (r : JRec) => if seqs.contains r.seq then { r with flashed := true } else r)

/-- Every record that can become FLASHED does, in `SEQ` order, and is reported so to the partner (R235); after a takeover the
adopted mirror records too (R242). -/
def flashEval (s : State) : State :=
  let ready := s.flashReady s.jr.own
  let seqs := ready.map (fun r => r.seq)
  let mready := s.flashReady (s.jr.mir.filter (fun (r : JRec) => decide (r.seq < s.own.adopted)))
  let s1 := { s with jr.own := markFlashed s.jr.own seqs, jr.mir := markFlashed s.jr.mir (mready.map (fun r => r.seq)) }
  let s2 := if seqs.isEmpty then s1 else s1.sendMsg 0x0101 ([0, seqs.length] ++ seqs)
  (ready ++ mready).foldl flashedDone s2

/-- Records that are FLASHED, and MIRRORED, retire from the tail and the ring tail passes them and the PAD extents behind it (R181). -/
def retire (s : State) : State :=
  let own := s.jr.own.dropWhile (fun r => r.flashed && s.mirrored? r)
  let live := own.map (fun r => r.seq)
  let exts := s.jr.exts.dropWhile (fun e => e.cmd.isNone && (match e.seq with | some q => !live.contains q | none => true))
  let mir := s.jr.mir.dropWhile (fun (r : JRec) => r.flashed && decide (r.seq < s.own.adopted))
  { s with jr.own := own, jr.exts := exts, jr.mir := mir }.selvShow

/-- The journal brought forward after something became durable. -/
def journalStep (s : State) : State := let t := s.flashEval.retire; headWaits t.jr.waits.length t

/-- What marks a record of the adopted mirror region in the lists of records that wait for a map-journal row. -/
def adoptMark : Nat := 2 ^ 64

/-- Records' entries lie in a durable map-journal row (R242): the numbers of own records, and of adopted ones. -/
def journalDurable (s : State) (seqs : List Nat) : State :=
  let own := seqs.filter (fun q => decide (q < adoptMark))
  let mir := (seqs.filter (fun q => decide (adoptMark ≤ q))).map (fun q => q - adoptMark)
  let mark := fun (l : List JRec) (qs : List Nat) => l.map (fun (r : JRec) => if qs.contains r.seq then { r with journaled := true } else r)
  let log := fun (l : List JRec) (qs : List Nat) =>
    (l.filter (fun (r : JRec) => qs.contains r.seq && !r.journaled)).map (fun (r : JRec) => { r with forms := [] })
  let s1 := { s with
    jr.own := mark s.jr.own own
    jr.mir := mark s.jr.mir mir
    mp.jlog := s.mp.jlog ++ log s.jr.own own
    mp.jlogP := s.mp.jlogP ++ log s.jr.mir mir }
  let top := own.foldl max (s.reg Reg.MAPX_JOURNAL_SEQ).toNat
  (s1.setReg Reg.MAPX_JOURNAL_SEQ (BitVec.ofNat 64 top)).journalStep

/-! ## Packing (R187) -/

/-- Stored forms of headed records that lie in no row yet, in `SEQ` order. -/
def unplaced (s : State) : List (Nat × Nat) :=
  (s.jr.own ++ s.jr.mir.filter (fun (r : JRec) => decide (r.seq < s.own.adopted))).flatMap (fun r => (r.forms.filter (fun f =>
    !s.formDurable r f.chunk && !s.placedNow f.chunk)).map (fun f => (f.chunk, len32Of f.len)))

/-- Chunks of headed commands that complete at flash. -/
def flashChunks (s : State) : List Nat :=
  (s.nv.cmds.filter (fun e => e.2.phase == .headed && e.2.rule == 2)).flatMap (fun e => e.2.refs)

/-- Forms that fail the checks before they are packed (R289): those of records that channel parity cannot rebuild, until a mirror copy has come. -/
def damagedForms (s : State) : List Nat :=
  let bad := s.jr.own.filter (fun (r : JRec) => s.jr.badOwn.contains r.seq)
    ++ s.jr.mir.filter (fun (r : JRec) => s.jr.badMir.contains r.seq && decide (r.seq < s.own.adopted))
  (bad.flatMap (fun (r : JRec) => r.forms.map (fun f => f.chunk))).filter (fun k => tGet? s.jr.asked k != some true)

/-- Forms that may be packed (R187, R289). -/
def packable (s : State) : List (Nat × Nat) := let bad := s.damagedForms; s.unplaced.filter (fun x => !bad.contains x.1)

/-- A partly filled row that holds forms of a command that completes at flash closes early, as its draft requires, once no form of such a
command waits (R146, R188). -/
def closeEarly (s : State) : State :=
  let l := s.flashChunks
  if s.packable.any (fun x => l.contains x.1) then s
  else ((s.openSegs 1).filter (fun e => s.ownSeg e.1 && (e.2.row.map (fun r => r.st == .filling && r.forms.any (fun f => l.contains f.chunk))).getD
    false)).foldl (fun t e => t.closeRow e.1) s

/-- Waiting forms packed into rows until one finds no room. -/
def packRows (s : State) : State :=
  (s.packable.foldl (fun (a : State × Bool) x =>
    if a.2 then a
    else match packForm a.1 1 x.1 x.2 false 3 with
      | some t => (t, false)
      | none => (a.1, true)) (s, false)).1

/-- Waiting forms packed, and the rows closed that a flash completion waits for. -/
def packWaiting (s : State) : State := s.packRows.closeEarly

end State

end Sys2Proof.Machine
end

