-- ==== Sys2Proof/Machine/Vault.lean ====
section
/-!
DEFINITION. Sys2Proof/Machine/Vault.lean: the bytes of a dump and the rows of the vault segments that hold it (R192, R195, R285), and the rows of
the root slots (R280).
-/

namespace Sys2Proof.Machine

/-! ## The dump stream (R195) -/

/-- The block that opens or closes a dump (R195), with `SDMP`, what the rule lists, and a CRC-32C at its end. The rule gives neither the order of
the fields nor their widths: DESIGN CHOICE (log entry 130). -/
def dumpBlock (d : Dump) (result : Nat) : Bytes :=
  let b := layout 4092 [(0, 4, 0x504D4453), (4, 4, d.number), (8, 16, d.uid.toNat), (24, 8, d.array), (32, 8, d.tpf), (40, 8, result),
    (48, 8, d.ownSeqs.1), (56, 8, d.ownSeqs.2), (64, 8, d.mirSeqs.1), (72, 8, d.mirSeqs.2), (80, 8, d.ownBytes), (88, 8, d.mirBytes)]
  b ++ leField (crc32c (byteNats b)) 4

/-- A record's entry of a record index (R180): `SEQ`, ring offset, length in 4 KiB blocks, and state; 16 bytes. -/
def indexEntry (r : JRec) : Bytes :=
  layout 16 [(0, 8, r.seq), (8, 4, r.off), (12, 3, r.blks), (15, 1, r.mirrored.toNat + 2 * r.journaled.toNat + 4 * r.flashed.toNat)]

/-- The header and the journal metadata of a dump: the ring states of both regions and both record indexes (R192 step 4), to the next 4 KiB. -/
def dumpHead (d : Dump) : Bytes :=
  let ring := fun (l : List JRec) => layout 32 [(0, 8, (l.head?.map (fun r => r.off)).getD 0), (8, 8, (l.getLast?.map (fun r => r.off + r.blks)).getD 0),
    (16, 8, l.length)]
  let m := ring d.own ++ ring d.mirror ++ (d.own ++ d.mirror).flatMap indexEntry
  dumpBlock d 0 ++ zeroFill m (4096 * ceilDiv m.length 4096)

/-- The stream of a dump in the clear: header, metadata, the records of both regions in `SEQ` order, trailer (R195). -/
def dumpPlain (d : Dump) : Bytes :=
  let b := dumpHead d ++ (d.own ++ d.mirror).flatMap recordBytes
  zeroFill b (4096 * ceilDiv b.length 4096) ++ dumpBlock d 1

/-- A stream encrypted in 4 KiB data units, the tweak made of the dump number and the unit's index (R195). -/
def sealUnits (key : Bytes) (number : Nat) : Nat → Nat → Bytes → Bytes
  | 0, _, _ => []
  | n + 1, i, b =>
    if b.isEmpty then []
    else Config.xts true key (BitVec.ofNat 128 (number * 2 ^ 32 + i)) (zeroFill (b.take 4096) 4096) ++ sealUnits key number n (i + 1) (b.drop 4096)

/-- Records whose bytes end within a length, from the first. -/
def takeRecs : Nat → List JRec → List JRec
  | _, [] => []
  | n, r :: t => if r.bytes ≤ n then r :: takeRecs (n - r.bytes) t else []

/-- The records that the first so many bytes of a dump's stream hold whole: the own region's, then the mirror region's. -/
def recordsIn (d : Dump) (n : Nat) : List JRec × List JRec :=
  let own := takeRecs (n - (dumpHead d).length) d.own
  (own, if own.length = d.own.length then takeRecs (n - (dumpHead d).length - own.foldl (fun k r => k + r.bytes) 0) d.mirror else [])

namespace State

/-- Data capacity of a segment in bytes. -/
def segBytes (g : Seg) : Nat := 65536 * dataMembers g * g.rows

/-- The area whose dump is being written. -/
def dumpOpen (s : State) : Option (Nat × Dump) :=
  match s.jr.dumpA, s.jr.dumpB with
  | some d, e =>
    if d.result = 0 then some (0, d)
    else match e with
      | some x => if x.result = 0 then some (1, x) else none
      | none => none
  | none, some x => if x.result = 0 then some (1, x) else none
  | none, none => none

/-- The dump key (R393), 512 bits. -/
def dumpKeyBytes (s : State) : Bytes := ((s.deviceKey [0x44, 0x55, 0x4D, 0x50]).getD []).take 64

/-- A dump's stream as it is programmed. -/
def dumpStream (s : State) (d : Dump) : Bytes :=
  let b := dumpPlain d
  sealUnits s.dumpKeyBytes d.number (ceilDiv b.length 4096) 0 b

/-- Where the part of a segment of a dump area begins in the stream: the segments take it in id order, which the spec leaves open
(DESIGN CHOICE, log entry 130). -/
def streamAt (s : State) (area id : Nat) : Nat :=
  ((s.areaSegs area).filter (fun e => decide (e.1 < id))).foldl (fun n e => n + segBytes e.2) 0

/-- The data units of a row of a dump; none behind the end of the stream. -/
def vaultRow (s : State) (d : Dump) (id : Nat) (g : Seg) (row : Nat) : List Bytes :=
  let part := ((s.dumpStream d).drop (s.streamAt g.area id + 65536 * dataMembers g * row)).take (65536 * dataMembers g)
  (List.range (ceilDiv part.length 65536)).map (fun i => (part.drop (65536 * i)).take 65536)

/-- The next row of a vault segment is programmed while the dump runs and its stream goes on there (R192, R260, R285). -/
def vaultNext (s : State) (id : Nat) : State :=
  match s.dumpOpen, s.seg? id with
  | some (a, d), some g =>
    if g.type != 6 || g.area != a || g.st != .reserved || g.row.isSome || g.rows ≤ g.nextRow then s
    else
      match s.vaultRow d id g g.nextRow with
      | [] => s
      | l => (s.setSeg id { g with row := some { newRow s.now with raw := some l } }).closeRow id
  | _, _ => s

/-- Every segment of the area takes its first row. -/
def vaultStart (s : State) (area : Nat) : State := (s.areaSegs area).foldl (fun t e => t.vaultNext e.1) s

/-- A member of a vault row has been programmed, or lost: the dump goes on without a lost one (R194), and the row that no member is left to
program is followed by the next. -/
def vaultDone (s : State) (id member : Nat) (ok : Bool) : State :=
  match s.seg? id with
  | none => s
  | some g =>
    let g1 := if ok || g.lost.contains member then g else { g with lost := g.lost ++ [member] }
    match g.row with
    | none => s.setSeg id g1
    | some r =>
      let left := match r.st with | .program l _ => l.filter (fun x => x != member) | .filling => []
      if left.isEmpty then (s.setSeg id { g1 with row := none, durable := max g.durable g.nextRow }).vaultNext id
      else s.setSeg id { g1 with row := some { r with st := .program left false } }

/-- Whether the whole stream of a dump lies in durable rows of its area, as far as the area has room. -/
def dumpWritten (s : State) (area : Nat) (d : Dump) : Bool :=
  (s.areaSegs area).all (fun e => e.2.row.isNone && (e.2.rows ≤ e.2.nextRow || (s.vaultRow d e.1 e.2 e.2.nextRow).isEmpty))

/-- Bytes of a stream, from its first, that lie in durable rows of the area. -/
def writtenBytes (s : State) (area : Nat) : Nat :=
  let full := (s.areaSegs area).takeWhile (fun e => decide (e.2.rows ≤ e.2.durable))
  full.foldl (fun n e => n + segBytes e.2) 0
    + (((s.areaSegs area).drop full.length).head?.map (fun e => 65536 * dataMembers e.2 * e.2.durable)).getD 0

/-! ## Root slots (R275, R280) -/

/-- The row of a root in program will not become durable: its slot is released, and the root is written into another segment reserved for the
slot. R275 speaks of segments that take rows; which way a root slot goes it leaves open: DESIGN CHOICE (log entry 132). -/
def rootFail (s : State) (id : Nat) : State :=
  match s.seg? id with
  | none => s
  | some g => { (s.setSeg id { g with row := none }).unreserve id with mp.ckptRoot := none }

/-- The row of a root is durable. -/
def rootDurable (s : State) (id : Nat) : State :=
  match s.seg? id with
  | none => s
  | some g =>
    { s.setSeg id { g with row := none, durable := max g.durable g.nextRow } with mp.ckptRoot := s.mp.ckptRoot.map (fun x => (x.1, x.2.1, true)) }

end State

end Sys2Proof.Machine
end

