-- ==== Sys2Proof/Machine/Loom.lean ====
section
/-!
DEFINITION. Sys2Proof/Machine/Loom.lean: the calendar, bookable capacities, energy cards, the Reed buckets and the placement
of drafts (R125 to R168).
-/

namespace Sys2Proof.Machine

/-! ## Classes and deadlines (R129, R130) -/

/-- Class deadline of a read or a write, ns. -/
def classDeadline (cls : Nat) (write : Bool) : Nat :=
  match cls with
  | 0 => if write then 60000 else 150000
  | 1 => if write then 120000 else 400000
  | 2 => if write then 1000000 else 2000000
  | _ => 50000000

/-- Acceptance window of a class, ns. -/
def classWindow (cls : Nat) : Nat :=
  match cls with | 0 => 8000 | 1 => 40000 | 2 => 200000 | _ => 1000000

/-- Intake allowance of a class, ns. -/
def classAllowance (cls : Nat) : Nat :=
  match cls with | 0 => 20000 | 1 => 100000 | 2 => 1000000 | _ => 10000000

/-- Deadline of a command of `bytes` bytes from its arrival (R130). -/
def cmdDeadline (cls : Nat) (write : Bool) (bytes : Nat) : Nat :=
  classDeadline cls write + 10000 * ceilDiv (bytes - 65536) 65536

/-- Whether a command is of the write class (R107, R129). -/
def isWriteKind (k : CmdKind) : Bool :=
  match k with | .write | .writeZeroes | .dsm | .copy => true | .read | .compare => false

/-! ## Demands -/

/-- A demand of a draft: beat, resource and amount. -/
structure Dem where
  beat : Nat
  res : Res
  amt : Nat
  deriving DecidableEq, Repr

/-- The rows of R135, numbered. -/
def kindOf : Res → Nat
  | .die _ _ => 0 | .compressor _ => 1 | .decompressor _ => 2 | .digest _ => 3 | .cipher _ => 4 | .mapEngine _ => 5
  | .parity _ => 6 | .portIn _ => 7 | .portOut _ => 8 | .moduleIn _ => 9 | .moduleOut _ => 10 | .dikor => 11 | .dram => 12
  | .chipEnergy => 13 | .mediaEnergy => 14

/-- The DPC that a resource belongs to. -/
def dpcOf : Res → Option Nat
  | .compressor n | .decompressor n | .digest n | .cipher n | .mapEngine n => some n
  | _ => none

/-- Nominal capacity of a DPC engine in a beat at 2.0 GHz (R135). -/
def dpcNominal : Res → Nat
  | .compressor _ | .digest _ => 160000
  | .decompressor _ => 640000
  | .cipher _ => 960000
  | .mapEngine _ => 80
  | _ => 0

/-- Bits set in a number of at most 64 bits. -/
def popcount (n : Nat) : Nat := (List.range 64).foldl (fun k i => k + n / 2 ^ i % 2) 0

/-- A capacity less so many percent. -/
def lessPct (cap pct : Nat) : Nat := cap * (100 - pct) / 100

/-- Bytes a message of `m` bytes books on the Dikor Link (R330). -/
def flitBytes (m : Nat) : Nat := 256 * ceilDiv m 240

/-- The next narrower Dikor width (R136). -/
def narrower (lanes : Nat) : Nat := if 24 ≤ lanes then 20 else if 20 ≤ lanes then 16 else if 12 ≤ lanes then 12 else 0

/-- A total split over `n` beats in whole units, the remainder to the earliest (R156). -/
def splitOver (total n : Nat) : List Nat := (List.range n).map (fun i => total / n + (if i < total % n then 1 else 0))

namespace State

/-- The `LOOM` instance whose role is ACTIVE. -/
def loomActive (s : State) : Nat := if s.fld (Reg.LOOM_STATUS_ROLE 0) = 0 then 0 else 1

/-- An active field of the `LOOM` configuration. -/
def loomAct (s : State) (f : Nat → Fld) : Nat := s.act (f s.loomActive)

/-- A register field written alike in both `LOOM` instances (R125). -/
def loomSet (s : State) (f : Nat → Fld) (x : Nat) : State := (s.setFld (f 0) x).setFld (f 1) x

/-- A `LOOM` counter advanced alike in both instances. -/
def loomCount (s : State) (f : Nat → Nat) : State := (s.bump (f 0) 1).bump (f 1) 1

/-- The current beat (R134). -/
def beat (s : State) : Nat := s.now / 10000

/-! ## Capacities (R135, R136) -/

/-- Lanes of the front-end port whose first lane is `p` (R72); 0 when no port starts there. -/
def portLanes (s : State) (p : Nat) : Nat :=
  let m := fun q => s.act (Reg.ETHP_MODE_MODE q)
  match m (p / 4) with
  | 0 => 1
  | 1 => if p % 2 = 0 then 2 else 0
  | 2 => if p % 4 = 0 then 4 else 0
  | 3 => if p % 8 = 0 && m (p / 4 + 1) = 3 then 8 else 0
  | _ => 0

/-- Width of the Dikor Link, lanes. -/
def dikorLanes (s : State) : Nat := if s.linkUp then 4 * popcount (s.fld Reg.DIKOR_STATUS_QUAD_MASK) else 0

/-- Capacity of a module root port in a beat: 160,000 bytes at 64 GT/s ×2, half at ×1 or at 32 GT/s (R135, R305). -/
def moduleRate (s : State) (k : Nat) : Nat :=
  if s.inServiceM k then
    160000 / (if s.fld (Reg.MODP_STATUS_WIDTH k) = 1 then 2 else 1) / (if s.fld (Reg.MODP_STATUS_RATE k) = 5 then 2 else 1)
  else 0

/-- Margin withheld from every resource but energy, percent. -/
def bookMargin (s : State) : Nat := s.loomAct Reg.LOOM_CFG_BOOK_MARGIN

/-- Collection floor in effect, percent (R154). -/
def floorPct (s : State) : Nat := s.fld (Reg.LOOM_GC_STATE_FLOOR_PCT s.loomActive)

/-- Percent of energy withheld (R155). -/
def eMargin (s : State) : Nat := s.loomAct Reg.LOOM_ENERGY_CFG_E_MARGIN

/-- Chip-energy capacity of a beat, 0.1 µJ: (planned set-point − static power) × 10 µs (R155, R440). -/
def chipEnergyCap (s : State) (b : Nat) : Nat :=
  ((tGet s.pw.pSp b 0 - tGet s.pw.pSt b 0) * 100 / 65536).toNat

/-- Media-energy capacity of a beat, 0.1 µJ (R155). -/
def mediaEnergyCap (s : State) : Nat :=
  100 * (if s.fld Reg.OWN_STATUS_ROLE == 3 then s.loomAct Reg.LOOM_ENERGY_CFG_MEDIA_W_SOLO else s.loomAct Reg.LOOM_ENERGY_CFG_MEDIA_W)

/-- ACTIVE DPCs. -/
def activeDpcs (s : State) : List Nat := (List.range 18).filter (fun n => s.active (Reg.DPC_PAGE n))

/-- Whether a spare DPC remains. -/
def spareDpc (s : State) : Bool := (List.range 18).any (fun n => s.blk (Reg.DPC_PAGE n) == SPARE)

/-- The sub-domain of a DPC that an engine lies in (R11): 0 control and map, 1 compressors, 2 decompressors, 3 ciphers and digests. -/
def subDomainOf : Res → Nat
  | .compressor _ => 1
  | .decompressor _ => 2
  | .cipher _ | .digest _ => 3
  | _ => 0

/-- Whether a DPC's sub-domain is in RETENTION, or still waking from it, in a beat: it counts from the second boundary after a decision on
(R422). -/
def asleep (s : State) (n : Nat) (r : Res) (b : Nat) : Bool :=
  let st := s.fld (Reg.PWR_DOM_STATE (26 + 4 * n + subDomainOf r))
  (st == PWR_RETENTION || st == PWR_UP) && decide (b < s.beat + 2)

/-- Bookable capacity of one resource in a beat; `floor` withholds the collection floor where it applies (R136, R155).
The DRAM sink of trace withholds its bandwidth (R490). -/
def bookable (s : State) (r : Res) (b : Nat) (floor : Bool) : Nat :=
  let m := s.bookMargin
  let fl := if floor then s.floorPct else 0
  match r with
  | .die _ _ => 100
  | .parity e => if s.fld Reg.SEGW_ENGINES_ACTIVE / 2 ^ e % 2 = 1 then lessPct 640000 (m + fl) else 0
  | .portIn p | .portOut p => if p < 64 && s.fab.up.contains p then lessPct (125000 * s.portLanes p) m else 0
  | .moduleIn k | .moduleOut k => lessPct (s.moduleRate k) (m + fl)
  | .dikor => lessPct (125000 * narrower s.dikorLanes) (max m 4)
  | .dram => lessPct (704000 * (s.fld Reg.SELV_STATUS_CHANNELS - 1)) m
      - (if s.act Reg.TRACE_CFG_SINK = 1 then 10 * s.act Reg.TRACE_CFG_DRAM_MBPS else 0)
  | .chipEnergy => lessPct (s.chipEnergyCap b) s.eMargin
  | .mediaEnergy => lessPct s.mediaEnergyCap (s.eMargin + fl)
  | .compressor n | .decompressor n | .digest n | .cipher n | .mapEngine n =>
    if s.bit (Reg.LOOM_DPC_CAP_EXCLUDED s.loomActive n) || s.asleep n r b then 0
    else lessPct (dpcNominal r * s.fld (Reg.LOOM_DPC_CAP_PCT s.loomActive n) / 100) m

/-- The aggregate bookable capacity of a kind of resource (R136, R148): the margin and the floor act on the sum of mastered
die time, and with no spare DPC the sum over DPCs counts one DPC fewer. -/
def aggregate (s : State) (r : Res) (b : Nat) (floor : Bool) : Nat :=
  let fl := if floor then s.floorPct else 0
  let sum := fun (l : List Nat) (f : Nat → Res) => l.foldl (fun n i => n + s.bookable (f i) b floor) 0
  let dpcs := fun (f : Nat → Res) =>
    let n := s.activeDpcs.length
    if s.spareDpc then sum s.activeDpcs f else sum s.activeDpcs f * (n - 1) / max 1 n
  match r with
  | .die _ _ => lessPct (100 * s.masteredDies) (s.bookMargin + fl)
  | .compressor _ => dpcs Res.compressor
  | .decompressor _ => dpcs Res.decompressor
  | .digest _ => dpcs Res.digest
  | .cipher _ => dpcs Res.cipher
  | .mapEngine _ => dpcs Res.mapEngine
  | .parity _ => sum (List.range 4) Res.parity
  | .portIn _ => sum (List.range 64) Res.portIn
  | .portOut _ => sum (List.range 64) Res.portOut
  | .moduleIn _ => sum (List.range 64) Res.moduleIn
  | .moduleOut _ => sum (List.range 64) Res.moduleOut
  | .dikor | .dram | .chipEnergy | .mediaEnergy => s.bookable r b floor

/-! ## The calendar -/

/-- Whether this head's Loom books a resource (R135, R137): a port numbered 64 and up is the partner's. -/
def books (s : State) (r : Res) : Bool :=
  match r with
  | .die _ d => s.dieUsable d
  | .portIn p | .portOut p => p < 64
  | _ => true

/-- Whether a booking is background work, which the floor is kept for; a debt unit is its tenant's booking (R152, R154). -/
def isBackground (w : Who) : Bool := match w with | .background _ => true | .cmd _ | .debt _ | .claim _ => false

/-- Amount booked of one resource in a beat; a die of the partner's is judged by the shadow (R138). -/
def bookedOn (s : State) (r : Res) (b : Nat) (hostOnly : Bool) : Nat :=
  let own := s.loom.book.foldl (fun n x =>
    if x.beat = b && x.res = r && !(hostOnly && isBackground x.who) then n + x.amt else n) 0
  if s.books r then own else s.loom.shadow.foldl (fun n x => if x.beat = b && x.res = r then n + x.amt else n) own

/-- Amount of a kind of resource booked in a beat, of one tenant or of all. -/
def bookedKind (s : State) (k b : Nat) (tenant : Option Nat) (hostOnly : Bool) : Nat :=
  s.loom.book.foldl (fun n x =>
    if x.beat = b && kindOf x.res = k && s.books x.res && !(hostOnly && isBackground x.who)
      && (match tenant with | some t => x.tenant == t | none => true) then n + x.amt else n) 0

end State

/-- The first beat of the demands on a resource. -/
def demStart (l : List Dem) (r : Res) : Option Nat :=
  ((l.filter (fun d => d.res == r)).map (fun d => d.beat)).foldl (fun m b => match m with | some x => some (min x b) | none => some b) none

/-- Demands summed per beat and resource. -/
def demSum (l : List Dem) : List Dem :=
  l.foldl (fun acc d =>
    if acc.any (fun (x : Dem) => x.beat == d.beat && x.res == d.res) then
      acc.map (fun (x : Dem) => if x.beat = d.beat && x.res = d.res then { x with amt := x.amt + d.amt } else x)
    else acc ++ [d]) []

/-- The last beat of demands. -/
def lastDem (l : List Dem) : Nat := l.foldl (fun n d => max n d.beat) 0

/-- Demands on one resource in one beat, summed. -/
def demOn (l : List Dem) (r : Res) (b : Nat) : Nat := l.foldl (fun n d => if d.res = r && d.beat = b then n + d.amt else n) 0

/-- Chip energy of demands, 0.1 µJ. -/
def energyOf (l : List Dem) : Nat := l.foldl (fun n d => if d.res = .chipEnergy then n + d.amt else n) 0

/-- Demands of one kind in one beat, summed. -/
def demKind (l : List Dem) (k b : Nat) : Nat := l.foldl (fun n d => if kindOf d.res = k && d.beat = b then n + d.amt else n) 0

/-- A way to place part of a draft: its demands, the number of members it erases, and the members it reads. -/
structure Cand where
  dems : List Dem
  erased : Nat
  members : List Nat

/-! Refusal causes (`LOOM.REFUSE_CNT`). -/

abbrev causeRate : Nat := 0
abbrev causeShare : Nat := 1
abbrev causePlacement : Nat := 2
abbrev causeEnergy : Nat := 3
abbrev causeInflight : Nat := 4
abbrev causeJournal : Nat := 5
abbrev causeDebt : Nat := 6
abbrev causeDikor : Nat := 7
abbrev causeThermal : Nat := 8

namespace State

/-- A tenant's active contract words (R168). -/
def contract (s : State) (t : Nat) : List Word := tGet s.loom.active t [0, 0, 0, 0]

/-- A tenant's share, in 1/65,536; tenant 0 has no contract and no limit. -/
def shareOf (s : State) (t : Nat) : Nat := if t = 0 then 65536 else bitsOf ((s.contract t).getD 0 0) 0 16

/-- Whether the partner has rejected a claim of this command that started as these demands do (R137). -/
def barred (s : State) (who : Who) (l : List Dem) : Bool :=
  match who with
  | .cmd id => s.loom.rejected.any (fun r => r.1 == id && demStart l r.2.1 == some r.2.2)
  | _ => false

/-- Whether demands fit for a tenant, in the order of R141: die occupancy, share, remaining capacity, energy. The answer is the
cause that blocks, the lowest of those that one check finds, or none. `host` is false for background work. -/
def fits (s : State) (tenant : Nat) (host : Bool) (l0 : List Dem) : Option Nat :=
  let l := demSum l0
  let excess := fun (d : Dem) =>
    decide (s.bookable d.res d.beat false < s.bookedOn d.res d.beat false + d.amt)
      || (host && decide (s.bookable d.res d.beat true < s.bookedOn d.res d.beat true + d.amt))
  let overAgg := fun (d : Dem) =>
    decide (s.aggregate d.res d.beat false < s.bookedKind (kindOf d.res) d.beat none false + demKind l (kindOf d.res) d.beat)
      || (host && decide (s.aggregate d.res d.beat true
            < s.bookedKind (kindOf d.res) d.beat none true + demKind l (kindOf d.res) d.beat))
  let energy := fun (d : Dem) => decide (13 ≤ kindOf d.res)
  let past := l.filter (fun d => !energy d && s.books d.res && (overAgg d || (kindOf d.res != 0 && excess d)))
  if l.any (fun d => d.beat ≤ s.beat || s.beat + 64 < d.beat) then some causePlacement
  else if l.any (fun d => kindOf d.res == 0 && decide (100 < s.bookedOn d.res d.beat false + d.amt)) then some causePlacement
  else if host && l.any (fun d => s.books d.res && decide (s.beat + 1 + s.loomAct Reg.LOOM_CFG_LEND_EDGE ≤ d.beat)
      && decide (s.shareOf tenant * s.aggregate d.res d.beat true
          < 65536 * (s.bookedKind (kindOf d.res) d.beat (some tenant) false + demKind l (kindOf d.res) d.beat))) then
    some causeShare
  else if past.any (fun d => kindOf d.res != 11) then some causePlacement
  else if !past.isEmpty then some causeDikor
  else if !s.loom.anyEnergy && l.any (fun d => energy d && excess d) then some causeEnergy
  else none

/-- Demands held on the calendar. -/
def hold (s : State) (who : Who) (tenant : Nat) (l : List Dem) : State :=
  { s with loom.book := s.loom.book ++ ((demSum l).filter (fun d => d.amt != 0)).map (fun d =>
      Booking.mk d.beat d.res d.amt tenant who s.headIndex) }

/-- The bookings of a command from a beat on are released (R191). -/
def release (s : State) (id fromBeat : Nat) : State :=
  { s with
    loom.book := s.loom.book.filter (fun b => !(decide (fromBeat ≤ b.beat) && b.who == Who.cmd id))
    loom.granted := s.loom.granted.filter (fun b => !(decide (fromBeat ≤ b.beat) && b.who == Who.cmd id))
    loom.claims := s.loom.claims.filter (fun c => c.2.1 != id) }

/-! ## Energy cards (R156, R167) -/

/-- Chip energy of a stage, 0.1 µJ, rounded up: `ops` operations that move `bytes` bytes. -/
def chipE (s : State) (op ops bytes : Nat) : Nat :=
  let a := s.loomActive
  ceilDiv (1024 * ops * s.act (Reg.LOOM_CARD0_CHIP_FIX a op) + bytes * s.act (Reg.LOOM_CARD0_CHIP_KIB a op)) 102400

/-- Media energy of a die operation, 0.1 µJ. -/
def mediaE (s : State) (op ops bytes : Nat) : Nat :=
  let a := s.loomActive
  ceilDiv (1024 * ops * s.act (Reg.LOOM_CARD0_MEDIA_FIX a op) + bytes * s.act (Reg.LOOM_CARD1_MEDIA_KIB a op)) 102400

/-- Die time of an operation, 0.1 µs. -/
def dieTime (s : State) (op : Nat) : Nat := s.act (Reg.LOOM_CARD1_DIE_TIME s.loomActive op)

/-- Die beats of `n` operations, each of which starts at a beat boundary (R139). -/
def dieBeats (s : State) (op n : Nat) : Nat := n * ceilDiv (s.dieTime op) 100

/-- So many units of die time from a beat: min(100, remaining) in each (R139). -/
def dieRun (m d b units : Nat) : List Dem :=
  (List.range (ceilDiv units 100)).map (fun i => Dem.mk (b + i) (.die m d) (min 100 (units - 100 * i)))

/-- One operation on a die from a beat: its die time, and its media energy spread over its die beats (R139, R156). -/
def dieOp (s : State) (op bytes m d b : Nat) : List Dem :=
  dieRun m d b (s.dieTime op)
    ++ (splitOver (s.mediaE op 1 bytes) (s.dieBeats op 1)).mapIdx (fun i x => Dem.mk (b + i) .mediaEnergy x)

/-- `n` operations on a die, one after another from a beat. -/
def dieOps (s : State) (op n bytes m d b : Nat) : List Dem :=
  (List.range n).flatMap (fun j => s.dieOp op (bytes / max 1 n) m d (b + j * s.dieBeats op 1))

/-- Whether a die can take `n` operations from a beat. -/
def dieFree (s : State) (op n m d b : Nat) : Bool :=
  (s.dieOps op n 0 m d b).all (fun x => kindOf x.res != 0 || decide (s.bookedOn x.res x.beat false + x.amt ≤ 100))

/-- The slices of an operation, units each (R144): the card's slice length, or one slice when it is 0. -/
def slicesOf (s : State) (op : Nat) : List Nat :=
  let n := s.act (Reg.LOOM_CARD1_DIE_SLICE s.loomActive op)
  if n = 0 then [s.dieTime op] else (List.range (ceilDiv (s.dieTime op) n)).map (fun i => min n (s.dieTime op - n * i))

/-- A slice of an operation on a die from a beat, with its part of the operation's media energy: `done` units lie in earlier slices. The
operation's chip energy lies in the first beat of its first slice (R156). -/
def sliceAt (s : State) (op m d done units b : Nat) : Cand :=
  let e := splitOver (s.mediaE op 1 0) (s.dieBeats op 1)
  ⟨dieRun m d b units ++ (if done = 0 then [Dem.mk b .chipEnergy (s.chipE op 1 0)] else [])
    ++ (List.range (ceilDiv units 100)).map (fun i => Dem.mk (b + i) .mediaEnergy (e.getD (done / 100 + i) 0)), 0, []⟩

end State

/-! ## Stripe reads (R139, R140, R143, R144) -/

namespace State

/-- Members of a row that are lost or suspect (R293, R295). -/
def lostIn (s : State) (seg row : Nat) : List Nat :=
  match s.seg? seg with
  | some g => (List.range g.width).filter (fun m => g.lost.contains m || s.md.suspect.contains (seg, m, row))
  | none => []

/-- The numbers of members the alternatives of a stripe erase, in order (R144). -/
def altsOf (s : State) (seg row member : Nat) : List Nat :=
  let lost := s.lostIn seg row
  let ra := min 2 (s.loomAct Reg.LOOM_CFG_RA_MAX)
  if 3 ≤ lost.length then []
  else if lost.contains member then
    ((List.range (ra + 1)).map (fun b => lost.length + b)).filter (fun e => e ≤ 2)
  else 0 :: ((List.range ra).map (fun b => lost.length + b + 1)).filter (fun e => e ≤ 2)

/-- One alternative of a stripe read at a start beat (R143): the busy members it can route around, Q, P and then the data
members from the last down when fewer are busy; the pages read, the transfers, and the rebuild. -/
def stripeAt (s : State) (p : Plan) (e b : Nat) : Option Cand :=
  match s.seg? p.seg with
  | none => none
  | some g =>
    let n := p.pages.length
    let span := s.dieBeats 4 n
    let lost := s.lostIn p.seg p.row
    let must := if e = 0 then [] else (lost ++ [p.member]).dedup
    let dieOf := fun m => g.members.getD m (0, 0, 0)
    let skipQ := fun (m : Nat) => e == 1 && m + 1 == g.width
    let busy := (List.range g.width).filter (fun m => !must.contains m && !skipQ m
      && !s.dieFree 4 n (dieOf m).1 (dieOf m).2.1 b)
    let need := e - must.length
    if e != 0 && (e < must.length || need < busy.length) then none
    else
      let spare := ((List.range g.width).reverse.filter (fun m => !must.contains m && !busy.contains m)).take (need - busy.length)
      let erased := if e = 0 then [] else must ++ busy ++ spare
      let members :=
        if e = 0 then [p.member]
        else (List.range g.width).filter (fun m => !erased.contains m && !skipQ m)
      let t := b + span
      let bytes := members.length * n * 16384
      let card := if e = 1 || erased.contains (g.width - 1) then 7 else 8
      let reads := members.flatMap (fun m => s.dieOps 4 n (n * 16384) (dieOf m).1 (dieOf m).2.1 b)
      let moves := members.map (fun m => Dem.mk t (.moduleIn (dieOf m).1) (n * 16384))
      let rebuild :=
        if e = 0 then []
        else
          let engines := (List.range 4).filter (fun i => s.bookedOn (.parity i) t false + members.length * 16384
            ≤ s.bookable (.parity i) t true)
          (p.pages.mapIdx (fun i _ => Dem.mk t (.parity (engines.getD (i % max 1 engines.length) 0)) (members.length * 16384)))
            ++ [Dem.mk t .chipEnergy (s.chipE card 1 bytes)]
      some ⟨reads ++ moves ++ [Dem.mk t .chipEnergy (s.chipE 4 (members.length * n) bytes)] ++ rebuild, e, members⟩

/-- The earliest start at which a part fits and ends by a beat, and the lowest cause among those that blocked the placements tried before
(R140, R141); `c` is the lowest so far, 99 for none. -/
def firstFit (s : State) (tenant : Nat) (host : Bool) (last : Nat) (f : Nat → Option Cand) : List Nat → Nat → Option Cand × Nat
  | [], c => (none, c)
  | b :: t, c =>
    match f b with
    | none => firstFit s tenant host last f t (min c causePlacement)
    | some x =>
      if last < lastDem x.dems then firstFit s tenant host last f t c
      else
        match s.fits tenant host x.dems with
        | none => (some x, c)
        | some k => firstFit s tenant host last f t (min c k)

/-- The lowest-numbered of the causes seen; PLACEMENT when no start was left to try. -/
def causeOf (c : Nat) : Nat := if c = 99 then causePlacement else c

/-- Beats from one to another. -/
def beatsFrom (lo hi : Nat) : List Nat := (List.range (hi + 1 - lo)).map (fun i => lo + i)

end State

/-- A draft under way: the state with its holds, the last beat held, and the lowest cause that has blocked a placement tried (99: none). -/
structure Draft where
  st : State
  stop : Nat
  cause : Nat

namespace State

/-- A candidate at a start that no rejected claim of the command rules out (R137). -/
def unbarred (s : State) (who : Who) (x : Option Cand) : Option Cand := x.filter (fun y => !s.barred who y.dems)

/-- A part of a command's draft placed at the earliest of some starts, or the cause of the refusal (R140, R141). -/
def place (d : Draft) (tenant : Nat) (who : Who) (last : Nat) (f : State → Nat → Option Cand) (starts : List Nat) : (Draft × Cand) ⊕ Nat :=
  match d.st.firstFit tenant true last (fun b => d.st.unbarred who (f d.st b)) starts d.cause with
  | (some x, c) => .inl (⟨d.st.hold who tenant x.dems, max d.stop (lastDem x.dems), c⟩, x)
  | (none, c) => .inr (causeOf c)

/-- One stripe placed: the alternatives in order, each at its earliest start (R140). -/
def placeStripe (tenant : Nat) (who : Who) (p : Plan) (last : Nat) : List Nat → Draft → (Draft × Plan) ⊕ Nat
  | [], d => .inr (causeOf d.cause)
  | e :: t, d =>
    match d.st.firstFit tenant true last (fun b => d.st.unbarred who (d.st.stripeAt p e b)) (beatsFrom (d.st.beat + 1) last) d.cause with
    | (some x, c) =>
      .inl (⟨d.st.hold who tenant x.dems, max d.stop (lastDem x.dems), c⟩, { p with members := x.members, erased := x.erased })
    | (none, c) => placeStripe tenant who p last t { d with cause := c }

/-- A read's stripes placed in turn: the plans taken. -/
def placeStripes (tenant : Nat) (who : Who) (last : Nat) : List Plan → Draft → List Plan → (Draft × List Plan) ⊕ Nat
  | [], d, ps => .inl (d, ps)
  | p :: t, d, ps =>
    match placeStripe tenant who p last (d.st.altsOf p.seg p.row p.member) d with
    | .inl (d1, p1) => placeStripes tenant who last t d1 (ps ++ [p1])
    | .inr c => .inr c

/-! ## Tails -/

/-- Beats that `bytes` bytes take on a port at its bookable capacity, which R136 lets no beat exceed. The partner's front-end port, whose width
this head does not know, is taken with 8 lanes: DESIGN CHOICE, R139 names no width (log entry 76). -/
def portBeats (s : State) (port bytes : Nat) : Nat :=
  ceilDiv bytes (max 1 (lessPct (125000 * (if port < 64 then s.portLanes port else 8)) s.bookMargin))

/-- Dictionaries a DPC holds, with the last beat of a draft that names each (R225). -/
def dictsIn (s : State) (n : Nat) : List (Nat × Nat) := tGet s.mp.dictCache n []

/-- The dictionaries of a stage that a DPC does not hold. -/
def dictsMissing (s : State) (n : Nat) (ds : List Nat) : List Nat := ds.filter (fun d => !(s.dictsIn n).any (fun e => e.1 == d))

/-- Whether a DPC's 16 entries can take the dictionaries of a stage (R225). -/
def dictsFit (s : State) (n : Nat) (ds : List Nat) : Bool :=
  let l := s.dictsIn n
  let free := (l.filter (fun e => e.2 < s.beat && !ds.contains e.1)).length
  (s.dictsMissing n ds).length ≤ 16 - l.length + free

/-- A DPC takes dictionaries for a stage that ends with a beat: entries no draft needs make room, oldest first. -/
def takeDicts (s : State) (n b : Nat) (ds : List Nat) : State :=
  if ds.isEmpty then s
  else
    let l := (s.dictsIn n).filter (fun e => !ds.contains e.1)
    let keep := 16 - ds.length
    let l1 := if l.length ≤ keep then l else (l.filter (fun e => s.beat ≤ e.2)) ++ ((l.filter (fun e => e.2 < s.beat)).take
      (keep - (l.filter (fun e => s.beat ≤ e.2)).length))
    { s with mp.dictCache := tPut s.mp.dictCache n (ds.map (fun d => (d, max b (((s.dictsIn n).find? (fun e => e.1 == d)).map
      (fun e => e.2) |>.getD 0))) ++ l1) }

/-- One part of a DPC stage (R139, R225): on the lowest DPC, in the earliest of `span` beats from `b`, that can take its dictionaries and has
room for it beside what the stage has put there already; on the first that can take them when none has the room. Where no DPC can take the
dictionaries the placement is infeasible, which demands in beat 0 say. -/
def dpcPart (s : State) (ds : List Nat) (b span : Nat) (acc : List Dem) (p : List ((Nat → Res) × Nat)) : List Dem :=
  let room := fun (x : Nat × Nat) => p.all (fun e =>
    decide (s.bookedOn (e.1 x.2) x.1 false + demOn acc (e.1 x.2) x.1 + e.2 ≤ s.bookable (e.1 x.2) x.1 true))
  let may := s.activeDpcs.filter (fun n => s.dictsFit n ds)
  let at_ := ((beatsFrom b (b + span - 1)).flatMap (fun t => may.map (fun n => (t, n)))).find? room
  let x := at_.getD (if may.isEmpty then 0 else b, may.headD 0)
  acc ++ p.map (fun e => Dem.mk x.1 (e.1 x.2) e.2)

/-- The DRAM reads of dictionaries that the DPCs of a stage do not hold: 80 KiB each, in the beat before the stage (R225). -/
def dictLoads (s : State) (ds : List Nat) (l : List Dem) : List Dem :=
  (l.filterMap (fun d => dpcOf d.res)).dedup.filterMap (fun n =>
    let missing := (s.dictsMissing n ds).length
    let first := (l.filter (fun d => dpcOf d.res == some n)).foldl (fun b d => min b d.beat) (lastDem l)
    if missing = 0 then none else some ⟨first - 1, .dram, 81920 * missing⟩)

/-- A DPC stage of `grains` grains from a beat (R139): engine demands `l`, and `energy` of its card. The spec does not say how the work of one
stage is divided: parts of at most 16 grains, each on one DPC, DESIGN CHOICE (log entry 88). -/
def dpcStage (s : State) (ds : List Nat) (b span grains energy : Nat) (l : List ((Nat → Res) × Nat)) : List Dem :=
  let k := ceilDiv (max 1 grains) 16
  let dems := (List.range k).foldl (fun acc i => s.dpcPart ds b span acc (l.map (fun e => (e.1, (splitOver e.2 k).getD i 0)))) []
  let beats := (dems.map (fun d => d.beat)).dedup
  dems ++ beats.mapIdx (fun i t => Dem.mk t .chipEnergy ((splitOver energy beats.length).getD i 0)) ++ s.dictLoads ds dems

/-- The DPCs that demands name take the stage's dictionaries. -/
def holdDicts (s : State) (ds : List Nat) (l : List Dem) : State :=
  l.foldl (fun t d => match d.res with | .cipher n => t.takeDicts n d.beat ds | _ => t) s

/-- A read's tail at a beat: the DPC stage, then transport and egress in its last beat or the next (R139). `all` are the grains looked up,
`grains` those with stored forms, `stored` their bytes, `shift` 1 for egress one beat later, `ds` the dictionaries of its forms. -/
def readTail (s : State) (port bytes all grains stored : Nat) (fwd : Bool) (ds : List Nat) (shift b : Nat) : Option Cand :=
  let n := max 1 (s.portBeats port bytes)
  let dpc := s.dpcStage ds b n all (if grains = 0 then 0 else s.chipE 1 grains (4096 * grains))
    [(Res.decompressor, 4096 * grains), (Res.cipher, stored + bytes), (Res.mapEngine, all)]
  let t := max b (lastDem dpc) + shift
  let out := (List.range n).flatMap (fun i =>
    let x := (splitOver bytes n).getD i 0
    [Dem.mk (t + i) (.portOut port) x, Dem.mk (t + i) .chipEnergy ((splitOver (s.chipE 0 1 bytes) n).getD i 0)]
      ++ (if fwd then [Dem.mk (t + i) .dikor (flitBytes (x + 24))] else []))
  some ⟨dpc ++ out, 0, []⟩

/-- A write's stages from a beat (R139): intake, the DPC stage one beat behind it, journal and mirror one beat behind that. `record` is the
worst-case record size; `red` the tenant's settings, under which a verify books the decompressor and `GRAIN_RD` (R211, R222); `paused` says in
which beats no journal or mirror stage may lie (R251). A forwarded write's data crosses the link as it is taken in. -/
def writeTail (s : State) (port bytes grains record : Nat) (fwd : Bool) (ds : List Nat) (red : Nat) (paused : Nat → Bool)
    (b : Nat) : Option Cand :=
  let n := s.portBeats port bytes
  let m := max 1 n
  let card := s.chipE 2 grains (4096 * grains) + (if red % 4 = 2 then s.chipE 1 grains (4096 * grains) else 0)
  let share := fun (x i : Nat) => (splitOver x m).getD i 0
  let intake := (List.range n).flatMap (fun i =>
    [Dem.mk (b + i) (.portIn port) (share bytes i), Dem.mk (b + i) .chipEnergy (share (s.chipE 0 1 bytes) i)]
      ++ (if fwd then [Dem.mk (b + i) .dikor (flitBytes (share bytes i + 24))] else []))
  let d := if n = 0 then b else b + 1
  let dpc := if grains = 0 then [] else (List.range m).flatMap (fun i =>
    let g := share grains i
    let x := 4096 * g
    s.dpcStage ds (d + i) 1 g (share card i) [(Res.compressor, if red / 16 % 4 = 0 then 0 else x), (Res.digest, x), (Res.cipher, x + share bytes i),
      (Res.decompressor, 4096 * g * (red / 128 % 2 + (if red % 4 = 2 then 1 else 0))), (Res.mapEngine, g)])
  let j := if grains = 0 then b else d + 1
  let mirror := !s.solo && s.linkUp
  let jr := (List.range m).flatMap (fun i =>
    let x := share record i
    [Dem.mk (j + i) .dram x, Dem.mk (j + i) .chipEnergy (share (s.chipE 3 1 record) i)]
      ++ (if mirror then [Dem.mk (j + i) .dikor (flitBytes (x + 16)), Dem.mk (j + i) .chipEnergy (share (s.chipE 11 1 record) i)] else []))
  let link := if fwd then [Dem.mk (j + m - 1) .dikor (flitBytes 48)] else []
  if (List.range m).any (fun i => paused (j + i)) then none
  else some ⟨intake ++ dpc ++ jr ++ link, 0, []⟩

/-- Parity generation over bytes of data from a beat: shared by the engines in service, over as many beats as they need. -/
def parityGen (s : State) (b bytes : Nat) : List Dem :=
  let es := (List.range 4).filter (fun i => s.fld Reg.SEGW_ENGINES_ACTIVE / 2 ^ i % 2 = 1)
  let k := max 1 es.length
  let r := max 1 (ceilDiv bytes (k * max 1 (s.bookable (.parity (es.headD 0)) b true)))
  (List.range (r * k)).map (fun i => Dem.mk (b + i / k) (.parity (es.getD (i % k) 0)) ((splitOver bytes (r * k)).getD i 0))

/-- One unit programmed on each of some members from a beat: transfer, then the program (R139, R156). -/
def unitPrograms (s : State) (ms : List (Nat × Nat × Nat)) (t : Nat) : List Dem :=
  ms.flatMap (fun m => Dem.mk t (.moduleOut m.1) 65536 :: s.dieOp 5 65536 m.1 m.2.1 (t + 1))
    ++ [Dem.mk t .chipEnergy (s.chipE 5 ms.length (65536 * ms.length))]

/-- The programs of one row (R146): its parity is generated, then one unit goes to each member. -/
def rowProgram (s : State) (g : Seg) (b : Nat) : Option Cand :=
  let par := s.parityGen b (65536 * dataMembers g)
  some ⟨par ++ [Dem.mk b .chipEnergy (s.chipE 9 1 (65536 * dataMembers g))] ++ s.unitPrograms g.members (lastDem par), 0, []⟩

/-- What is left of the data units of the row being filled, bytes. -/
def rowLeft (g : Seg) : Nat :=
  match g.row with
  | some r => if r.st = .filling then 65536 * (dataMembers g - r.member) - 32 * r.off else 0
  | none => 0

/-- The open segment of a type that takes the next form: one whose row is being filled, else one that has rows left. -/
def nextTaker (s : State) (t : Nat) : Option Seg :=
  match (s.openSegs t).find? (fun e => (e.2.row.map (fun r => r.st == .filling)).getD false) with
  | some e => some e.2
  | none => ((s.openSegs t).find? (fun e => takesForms e.2)).map (fun e => e.2)

/-- The rows whose programs a flash completion needs (R146): every DATA row that holds its stored forms, from the row being filled on, and the
JOURNAL row of its map deltas; none when there is no segment for one of them. -/
def flashRows (s : State) (stored : Nat) : Option (List Seg) :=
  let data := if stored = 0 then some [] else (s.nextTaker 1).map (fun g =>
    let left := rowLeft g
    List.replicate ((if left = 0 then 0 else 1) + ceilDiv (stored - left) (65536 * max 1 (dataMembers g))) g)
  match data, s.nextTaker 4 with
  | some l, some g => some (l ++ [g])
  | _, _ => none

/-- Rows placed one after another, each at its earliest start. -/
def placeRows (tenant : Nat) (who : Who) (lo last : Nat) : List Seg → Draft → Draft ⊕ Nat
  | [], d => .inl d
  | g :: t, d =>
    match place d tenant who last (fun s b => s.rowProgram g b) (beatsFrom lo last) with
    | .inl x => placeRows tenant who lo last t x.1
    | .inr c => .inr c

/-! ## Write debt (R150 to R152) -/

/-- F in Q4.12, as published. -/
def collectF (s : State) : Nat := s.fld (Reg.LOOM_GC_STATE_COLLECT_F s.loomActive)

/-- A tenant's overwrite ratio, Q0.16. -/
def ovrOf (s : State) (t : Nat) : Nat := tGet s.loom.ovr t 0

/-- A tenant's stored bytes to its written bytes over the last 1 s, as two numbers; the last ratio measured when it completed no write in that
second, and 1.0 when none has been measured (R151, log entry 75). -/
def storedRatio (s : State) (t : Nat) : Nat × Nat :=
  match tGet? s.nv.tenants t with
  | none => (1, 1)
  | some x =>
    let l := x.recent.filter (fun e => decide (s.now < e.1 + 1000000000))
    let w := l.foldl (fun n e => n + e.2.1) 0
    if w != 0 then (l.foldl (fun n e => n + e.2.2) 0, w) else if x.written != 0 then (x.stored, x.written) else (1, 1)

/-- A completed write enters its tenant's ratio (R151). -/
def ratioNote (s : State) (t written stored : Nat) : State :=
  { s with nv.tenants := tMod s.nv.tenants t (fun x =>
      let same := (x.recent.getLast?.map (fun e => e.1 == s.now)).getD false
      { x with
        recent := x.recent.filter (fun e => decide (s.now < e.1 + 1000000000)) ++ [(s.now, written, stored)]
        written := if same then x.written + written else written
        stored := if same then x.stored + stored else stored }) }

/-- An amount times a tenant's debt factor, rounded up to a whole byte. -/
def debtBytes (s : State) (t bytes : Nat) : Nat := ceilDiv (bytes * s.ovrOf t * s.collectF) (2 ^ 28)

/-- A tenant's debt ledger. -/
def ledgerOf (s : State) (t : Nat) : Int := tGet s.loom.ledger t 0

/-- A debt ledger changed, floored at −65,536 (R151). -/
def ledgerAdd (s : State) (t : Nat) (d : Int) : State :=
  { s with loom.ledger := tPut s.loom.ledger t (max (-65536) (s.ledgerOf t + d)) }

/-- Dies of the next live pages of the victim queue. -/
def victimDies (s : State) : List (Nat × Nat) :=
  s.md.victims.flatMap (fun v => match s.seg? v.seg with
    | some g => g.dir.filterMap (fun p => (g.members[p.2.member]?).map (fun m => (m.1, m.2.1)))
    | none => [])

/-- Pages that a debt unit reads: ⌈4/*L*⌉ (R152); none before a victim has been taken. -/
def debtPages (s : State) : Nat := if s.loom.live.1 = 0 then 0 else ceilDiv (4 * s.loom.live.2) s.loom.live.1

/-- One unit program on the next member of the open collection row from a beat, with the row's parity when that unit closes it (R152); `held`
units are held before it. None while no COLLECT segment takes forms. -/
def collectProgram (s : State) (held t : Nat) : Option (List Dem) :=
  (s.nextTaker 2).map (fun g =>
    let data := max 1 (dataMembers g)
    let k := ((g.row.map (fun r => r.member)).getD 0 + held) % data
    if k + 1 = data then s.parityGen t (65536 * data) ++ [Dem.mk t .chipEnergy (s.chipE 9 1 (65536 * data))] ++ s.unitPrograms (g.members.drop k) t
    else s.unitPrograms ((g.members.drop k).take 1) t)

/-- A debt unit from a beat (R152): its page reads, then its program. `held` units are held before it, whose pages and members come first. -/
def debtUnit (s : State) (held b : Nat) : Option Cand :=
  let n := s.debtPages
  let dies := (s.victimDies.drop (held * n)).take n
  let reads := dies.flatMap (fun d => s.dieOp 4 16384 d.1 d.2 b ++ [Dem.mk (b + s.dieBeats 4 1) (.moduleIn d.1) 16384])
  let t := b + s.dieBeats 4 1
  (s.collectProgram held t).map (fun prog =>
    ⟨reads ++ (if dies.isEmpty then [] else [Dem.mk t .chipEnergy (s.chipE 4 dies.length (16384 * dies.length))]) ++ prog, 0, []⟩)

/-- So many debt units placed anywhere in the horizon; each lowers the ledger by 65,536 and is counted. -/
def placeDebt (tenant id : Nat) : Nat → State → State ⊕ Nat
  | 0, s => .inl s
  | n + 1, s0 =>
    let s := s0.openFor 2
    match s.firstFit tenant true (s.beat + 64) (fun b => s.debtUnit s.loom.debts.length b) (beatsFrom (s.beat + 1) (s.beat + 64)) 99 with
    | (some x, _) =>
      let s1 := ((s.hold (.debt id) tenant x.dems).ledgerAdd tenant (-65536)).tcntAdd tenant 14 1
      placeDebt tenant id n { s1 with loom.debts := s1.loom.debts ++ [(id, lastDem x.dems)] }
    | (none, _) => .inr causeDebt

/-- The debt units of a draft that has not been accepted are given back. -/
def undoDebt (s : State) (id tenant : Nat) : State :=
  let n := (s.loom.debts.filter (fun x => x.1 == id)).length
  if n = 0 then s
  else
    { (s.ledgerAdd tenant (65536 * n)).tcntSub tenant 14 n with
      loom.debts := s.loom.debts.filter (fun x => x.1 != id), loom.book := s.loom.book.filter (fun b => b.who != .debt id) }

/-- Debt units that a write's draft books (R152). -/
def debtUnits (s : State) (t : Nat) : Nat := min 4 (s.ledgerOf t / 65536).toNat

/-! ## Claims (R137) -/

/-- A resource as the numbers of a claim: kind, and two indexes. How a claim names the partner's front-end port the spec does not say: port 64
is the one that the forwarded command came over, DESIGN CHOICE (log entry 122). -/
def resBody : Res → List Nat
  | .die m d => [0, m, d]
  | .portIn p => [7, p, 0]
  | .portOut p => [8, p, 0]
  | r => [kindOf r, 0, 0]

/-- Bookings of a command that the partner's Loom must grant and has not granted are sent as claims, and held until they are answered. A claim of
a forwarded command carries its tag, plus 1. -/
def sendClaims (s : State) (id : Nat) : State :=
  let l := s.loom.book.filter (fun b => b.who == Who.cmd id && !s.books b.res && !s.loom.granted.contains b)
  if l.isEmpty then s
  else
    let tag := s.loom.nextTag
    let fwd := (((tGet? s.nv.cmds id).bind (fun c => c.fwdFrom)).map (fun t => t + 1)).getD 0
    { s with loom.claims := s.loom.claims ++ [(tag, id, l)], loom.nextTag := tag + 1 }.sendMsg 0x0001
      ([tag, l.length, fwd] ++ l.flatMap (fun (b : Booking) => resBody b.res ++ [b.beat, b.amt, b.tenant]))

/-- A rejected claim bars the starts of its bookings to its command (R137). -/
def barClaim (s : State) (id : Nat) (l : List Booking) : State :=
  let dems := l.map (fun b => Dem.mk b.beat b.res b.amt)
  { s with
    loom.rejected := s.loom.rejected ++ ((dems.map (fun d => d.res)).dedup).filterMap (fun r => (demStart dems r).map (fun b => (id, r, b))) }

/-- Whether a command has a claim without an answer. -/
def claimsOpen (s : State) (id : Nat) : Bool := s.loom.claims.any (fun c => c.2.1 == id)

/-! ## Reed (R147) -/

/-- Tokens per ns of a rate field in billionths; none means no limit. -/
def rateOf (field perUnit : Nat) : Option Nat := if field = 0xFFFFFF then none else some (field * perUnit)

/-- The rates of a contract: read tokens, write tokens, read bytes, write bytes, in billionths per ns. -/
def ratesOf (w : List Word) : List (Option Nat) :=
  [rateOf (bitsOf (w.getD 0 0) 40 24) 1000, rateOf (bitsOf (w.getD 0 0) 16 24) 1000,
    rateOf (bitsOf (w.getD 1 0) 32 32) 1000000, rateOf (bitsOf (w.getD 1 0) 0 32) 1000000]

/-- Bucket depths, billionths: rate × `BURST_MS`. -/
def depthsOf (w : List Word) : List Nat :=
  (ratesOf w).map (fun r => (r.getD 0) * 1000000 * max 1 (bitsOf (w.getD 2 0) 0 8))

/-- Whether a contract is in effect. -/
def contractValid (w : List Word) : Bool := bitsOf (w.getD 3 0) 63 1 == 1

/-- Bucket levels as a list, in the order of `ratesOf`. -/
def levelsOf (b : Buckets) : List Nat := [b.rdOps, b.wrOps, b.rdBytes, b.wrBytes]

/-- Buckets of the levels given. -/
def bucketsOf (l : List Nat) (now : Nat) : Buckets := ⟨l.getD 0 0, l.getD 1 0, l.getD 2 0, l.getD 3 0, now⟩

/-- A tenant's levels refilled to the current time. -/
def levelsNow (s : State) (t : Nat) : List Nat :=
  let w := s.contract t
  match tGet? s.loom.buckets t with
  | none => depthsOf w
  | some b => (List.range 4).map (fun i =>
      min ((depthsOf w).getD i 0) ((levelsOf b).getD i 0 + (((ratesOf w).getD i none).getD 0) * (s.now - b.last)))

/-- The charges of a command, in the order of `ratesOf` (R147). -/
def chargesOf (s : State) (k : CmdKind) (tenant bytes : Nat) : List Nat :=
  match k with
  | .read | .compare => [1, 0, bytes, 0]
  | .write => [0, 1, 0, bytes + s.debtBytes tenant bytes]
  | _ => [0, 1, 0, 0]

/-- Whether two lists of charges share a bucket. -/
def chargesMeet (a b : List Nat) : Bool := (List.range 4).any (fun i => a.getD i 0 != 0 && b.getD i 0 != 0)

/-- Whether charges fit in a tenant's buckets now. -/
def chargesFit (s : State) (t : Nat) (c : List Nat) : Bool :=
  (List.range 4).all (fun i => ((ratesOf (s.contract t)).getD i none).isNone
    || decide (c.getD i 0 * 10 ^ 9 ≤ (s.levelsNow t).getD i 0))

/-- Charges taken from a tenant's buckets. -/
def takeCharges (s : State) (t : Nat) (c : List Nat) : State :=
  let l := (List.range 4).map (fun i => (s.levelsNow t).getD i 0 - c.getD i 0 * 10 ^ 9)
  { s with loom.buckets := tPut s.loom.buckets t (bucketsOf l s.now) }

/-- Charges returned after a refusal by the Loom. -/
def returnCharges (s : State) (t : Nat) (c : List Nat) : State :=
  let l := (List.range 4).map (fun i => min ((depthsOf (s.contract t)).getD i 0) ((s.levelsNow t).getD i 0 + c.getD i 0 * 10 ^ 9))
  { s with loom.buckets := tPut s.loom.buckets t (bucketsOf l s.now) }

/-- Whether charges, behind those of earlier waiting commands, can be present by a time (R133). -/
def chargesBy (s : State) (t : Nat) (earlier c : List Nat) (time : Nat) : Bool :=
  (List.range 4).all (fun i =>
    c.getD i 0 = 0 ||
    match (ratesOf (s.contract t)).getD i none with
    | none => true
    | some r =>
      let need := (earlier.getD i 0 + c.getD i 0) * 10 ^ 9
      decide (c.getD i 0 * 10 ^ 9 ≤ (depthsOf (s.contract t)).getD i 0)
        && decide (need ≤ (s.levelsNow t).getD i 0 + r * (time - s.now)))

/-- A changed contract keeps its buckets' levels, capped at the new depth; one that becomes `VALID` starts full (R147). -/
def contractMoveTo (s : State) (t : Nat) (new : List Word) : State :=
  let old := s.contract t
  if !contractValid old || !contractValid new then { s with loom.buckets := tDel s.loom.buckets t }
  else if ratesOf old = ratesOf new && depthsOf old = depthsOf new then s
  else
    let lvl := s.levelsNow t
    let kept := (List.range 4).map (fun i =>
      match (ratesOf old).getD i none with
      | none => (depthsOf new).getD i 0
      | some _ => min (lvl.getD i 0) ((depthsOf new).getD i 0))
    { s with loom.buckets := tPut s.loom.buckets t (bucketsOf kept s.now) }

/-- A tenant's staged contract is about to take effect. -/
def contractMove (s : State) (t : Nat) : State := s.contractMoveTo t (tGet s.loom.staged t [0, 0, 0, 0])

/-- `REED.SHARE_SUM` brought up to date (R149). -/
def shareSum (s : State) : State :=
  s.setFld Reg.REED_SHARE_SUM_SUM
    (s.loom.staged.foldl (fun n e => if contractValid e.2 then n + bitsOf (e.2.getD 0 0) 0 16 else n) 0)

end State

end Sys2Proof.Machine
end

