-- ==== Sys2Proof/Machine/Grains.lean ====
section
/-!
DEFINITION. Sys2Proof/Machine/Grains.lean: the grains of a command, where a grain's data comes from (R238), the intake data and
protection information of a grain (R113, R114, R174), and the making of a new chunk (R207, R212, R217 to R222, R234).
-/

namespace Sys2Proof.Machine

/-- Grains of a block range: eight blocks of a 512 B format make one grain (R113). -/
def grainSpan (lbaf first n : Nat) : Nat × Nat :=
  if n = 0 then (first, 0)
  else if lbaf = 2 then (first / 8, (first + n - 1) / 8 + 1 - first / 8) else (first, n)

/-- Grains that a block range covers wholly. -/
def wholeSpan (lbaf first n : Nat) : Nat × Nat :=
  if lbaf = 2 then (ceilDiv first 8, (first + n) / 8 - ceilDiv first 8) else (first, n)

/-- The grains of a span. -/
def spanGrains (p : Nat × Nat) : List Nat := (List.range p.2).map (fun i => p.1 + i)

/-- Bytes a block takes on the wire: metadata travels with it unless the AZ7240 makes it (R113, R114). -/
def wireBytes (lbaf : Nat) (pract : Bool) : Nat := if lbaf = 2 then 512 else if lbaf = 1 && !pract then 4112 else 4096

/-- Bytes a block of a volume takes on the wire. -/
def wireBlock (v : Volume) (pract : Bool) : Nat := wireBytes v.lbaf pract

/-- `len` bytes from an offset, put together from arrived pieces; `fuel` bounds the pieces. -/
def gather (l : List (Nat × Bytes)) : Nat → Nat → Nat → Option Bytes
  | 0, _, len => if len = 0 then some [] else none
  | fuel + 1, off, len =>
    if len = 0 then some []
    else
      match l.find? (fun e => e.1 ≤ off && off < e.1 + e.2.length) with
      | none => none
      | some e =>
        let part := (e.2.drop (off - e.1)).take len
        (gather l fuel (off + part.length) (len - part.length)).map (fun r => part ++ r)

/-- Bytes of a command's intake buffer. -/
def intake (c : HCmd) (off len : Nat) : Option Bytes := gather c.data (c.data.length + 1) off len

/-- A number of big-endian bytes. -/
def beNat (b : Bytes) : Nat := b.foldl (fun n x => 256 * n + x.toNat) 0

/-- What the protection information of block `i` of a write fails (R114): the status code of SCT 2. -/
def piFail (c : HCmd) (i : Nat) (block : Bytes) : Option Nat :=
  let plain := block.take 4096
  let mt := block.drop 4096
  if c.pi.prchk.getLsbD 2 && beNat (mt.take 8) != (guardOf plain).toNat then some 0x82
  else if c.pi.prchk.getLsbD 1
      && (BitVec.ofNat 16 (beNat ((mt.drop 8).take 2)) &&& c.pi.lbatm) != (c.pi.lbat &&& c.pi.lbatm) then some 0x83
  else if c.pi.prchk.getLsbD 0 && beNat ((mt.drop 10).take 6) != (c.pi.ilbrt.toNat + i) % 2 ^ 48 then some 0x84
  else none

/-- The state of a block's check (R114). -/
inductive PiState where
  | missing | good
  | bad (sc : Nat)
  deriving DecidableEq, Repr

/-- Block `i` of a write on a PI format. -/
def piAt (c : HCmd) (i : Nat) : PiState :=
  match intake c (i * 4112) 4112 with
  | none => .missing
  | some b => match piFail c i b with | some k => .bad k | none => .good

/-- The first of blocks 0 to `n` that fails, and whether one before it has not arrived. -/
def piFirst (c : HCmd) (n : Nat) : PiState :=
  match (List.range (n + 1)).find? (fun i => piAt c i != .good) with
  | some i => piAt c i
  | none => .good

/-- A grain's worth of zero bytes. -/
def zeroGrain : Bytes := List.replicate 4096 0

namespace State

/-- A command at this head. -/
def cmd? (s : State) (id : Nat) : Option HCmd := tGet? s.nv.cmds id

/-- A command changed. -/
def modCmd (s : State) (id : Nat) (f : HCmd → HCmd) : State := { s with nv.cmds := tMod s.nv.cmds id f }

/-- The grains of a command's ranges. -/
def cmdGrains (s : State) (c : HCmd) : List Nat :=
  match s.vol? c.volume with
  | some _ => c.ranges.flatMap (fun r => spanGrains (grainSpan c.lbaf r.1 r.2))
  | none => []

/-- The grains whose leaves a command reads or changes: those of its ranges, and those of a Copy's source (R239). -/
def touchGrains (s : State) (c : HCmd) : List Nat :=
  s.cmdGrains c ++ (if c.kind = .copy then (c.ranges.flatMap (fun r => spanGrains (grainSpan c.lbaf c.src r.2))).filter (fun g =>
    !(s.cmdGrains c).contains g) else [])

/-- The grains of a range that a span of whole grains leaves out: those at its edges. -/
def edgeGrains (lbaf : Nat) (r w : Nat × Nat) : List Nat :=
  (spanGrains (grainSpan lbaf r.1 r.2)).filter (fun g => !(decide (w.1 ≤ g) && decide (g < w.1 + w.2)))

/-- The grains of a Copy's destination range that take the source's chunks by reference (R104): those it covers wholly, when source and
destination lie alike within their grains. On a 512 B format the other grains are made of the source's sectors: DESIGN CHOICE, R104 says
only how whole grains are copied (log entry 34). -/
def copySpan (c : HCmd) (r : Nat × Nat) : Nat × Nat :=
  if c.lbaf = 2 ∧ r.1 % 8 ≠ c.src % 8 then (r.1, 0) else wholeSpan c.lbaf r.1 r.2

/-- The grains of a command that pass the pipeline (R174): every grain of a Write, and on a 512 B format the partly covered grains of a
Write Zeroes and those of a Copy that no reference can make. -/
def pipeGrains (s : State) (c : HCmd) : List Nat :=
  match c.kind with
  | .write => s.cmdGrains c
  | .writeZeroes => c.ranges.flatMap (fun r => edgeGrains c.lbaf r (wholeSpan c.lbaf r.1 r.2))
  | .copy => if c.lbaf = 2 then c.ranges.flatMap (fun r => edgeGrains c.lbaf r (copySpan c r)) else []
  | _ => []

/-! ## Where a grain's data comes from -/

/-- Where a grain's data comes from (R238): nothing mapped, a DRAM copy, a stripe, or an error; `dangling` when the chunk is
FREE or FREEING. -/
inductive Source where
  | zero | journal (form : Form) | cache (chunk : Nat) (form : Form) | stripe (chunk : Nat) (e : Chunk) | lost | dangling
  deriving DecidableEq, Repr

/-- The source of a chunk's data. -/
def chunkSource (s : State) (c : Nat) : Source :=
  let k := s.resolve c
  match s.chunk? c with
  | none => .dangling
  | some e0 =>
    if e0.state = .freeing then .dangling
    else
      match s.chunk? k with
      | none => .dangling
      | some e =>
        match e.state with
        | .lost => .lost
        | .freeing => .dangling
        | .alias_ => .dangling
        | .journaled => match tGet? s.mp.forms k with | some f => .journal f | none => .lost
        | .located =>
          match (if s.mp.cache.contains k then tGet? s.mp.forms k else none) with
          | some f => .cache k f
          | none => .stripe k e

/-- The source of a grain of a volume's live tree. -/
def grainSource (s : State) (vol g : Nat) : Source :=
  match s.lookup vol g with
  | none => .zero
  | some c => s.chunkSource c

/-- A mapped entry that names a FREE or FREEING chunk is counted and recorded when a lookup meets it (R238). -/
def danglingSeen (s : State) (vol g : Nat) : State :=
  if s.grainSource vol g = .dangling then
    (s.bump Reg.MAPX_DANGLING_CNT 1).event 0x0401 Reg.MAPX_PAGE (argWord [(0, vol), (2, g % 2 ^ 48)]) 0
  else s

/-- The plain content of a grain of a volume's live tree: none when it cannot be read. -/
def plainOf (s : State) (vol g : Nat) : Option Bytes :=
  match s.grainSource vol g with
  | .zero => some zeroGrain
  | .journal f | .cache _ f => some f.plain
  | .stripe k _ => (tGet? s.mp.forms k).map (fun f => f.plain)
  | .lost | .dangling => none

/-! ## A grain of a write -/

/-- Whether an earlier command that touches a 512 B format's grain has not been headed (R111). -/
def grainWaits (s : State) (id : Nat) (c : HCmd) (g : Nat) : Bool :=
  c.lbaf == 2 && s.nv.cmds.any (fun e => decide (e.1 < id) && e.2.volume == c.volume && isWriteKind e.2.kind && e.2.fwdTo == false
    && (e.2.phase == .reed || e.2.phase == .run) && (s.cmdGrains e.2).contains g)

/-- The new content of a partly covered grain: the covered blocks of the old content replaced (R174). -/
def mergeBlocks (old : Bytes) (at_ : Nat) (new : Bytes) : Bytes :=
  old.take (512 * at_) ++ new ++ old.drop (512 * at_ + new.length)

/-- `n` blocks of a 512 B format from an LBA on, as the volume's grains hold them: none when one cannot be read. -/
def sectorsOf (s : State) (vol lba n : Nat) : Option Bytes :=
  (List.range n).foldl (fun a i =>
    match a, s.plainOf vol ((lba + i) / 8) with
    | some b, some p => some (b ++ (p.drop (512 * ((lba + i) % 8))).take 512)
    | _, _ => none) (some [])

/-- The plain content that a command gives a grain: none while its data has not arrived, or when the old content of a partly
covered grain cannot be read. -/
def grainPlain (s : State) (c : HCmd) (g : Nat) : Option Bytes :=
  match c.ranges.head? with
  | none => none
  | some r =>
    if c.lbaf = 2 then
      let lo := max r.1 (8 * g)
      let hi := min (r.1 + r.2) (8 * g + 8)
      let new := match c.kind with
        | .write => intake c (512 * (lo - r.1)) (512 * (hi - lo))
        | .copy => s.sectorsOf c.volume (c.src + (lo - r.1)) (hi - lo)
        | _ => some (List.replicate (512 * (hi - lo)) 0)
      match new with
      | none => none
      | some n => if hi - lo = 8 then some n else (s.plainOf c.volume g).map (fun old => mergeBlocks old (lo - 8 * g) n)
    else
      let bs := wireBytes c.lbaf c.pi.pract
      (intake c (bs * (g - r.1)) bs).map (fun b => b.take 4096)

/-- Whether the old content of a partly covered grain, and a Copy's source sectors for it, can be read. -/
def oldReadable (s : State) (c : HCmd) (g : Nat) : Bool :=
  c.lbaf != 2 || ((s.plainOf c.volume g).isSome && (c.kind != .copy || (s.grainPlain c g).isSome))

/-! ## Pools -/

/-- A free pool number of this head (R234). -/
def freePool (s : State) : Nat :=
  if s.solo then firstFree (s.mp.pools.map (fun p => p.1)) (s.mp.pools.length + 1) 0
  else
    let h := s.headIndex % 2
    2 * firstFree ((s.mp.pools.filter (fun p => p.1 % 2 == h)).map (fun p => p.1 / 2)) (s.mp.pools.length + 1) 0 + h

/-- A pool is claimed when the pools this head keeps hold fewer than 65,536 free ids (R234). -/
def poolClaim (s : State) : State :=
  if 65536 ≤ s.freeIds || 65536 ≤ s.mp.pools.length then s
  else
    let p := s.freePool
    { s with mp.pools := tPut s.mp.pools p ⟨s.headIndex, [], 0, []⟩ }.journalCtl [⟨0x05, [p, s.headIndex, 1]⟩]

/-! ## A new chunk -/

/-- The current dictionary of a volume, if its table entry stands (R217, R223). -/
def dictOfVol (s : State) (v : Volume) : Nat :=
  match tGet? s.mp.dicts (v.dict % 2 ^ 30 / 256) with
  | some d => if v.dict != 0 && d.version == v.dict % 256 then v.dict else 0
  | none => 0

/-- A stored form built in a DPC (R217 to R222, R226): counted by its `FORM`, and a failed compress verify recorded. -/
def makeForm (s : State) (tenant dict red chunk dpc : Nat) (plain : Bytes) (ok : Bool) : Form × State :=
  let f := s.buildForm tenant dict red chunk plain ok
  let s1 := s.bump (Reg.DPC_FORM_CNT dpc f.kind) 1
  (f, if red / 16 % 4 != 0 && red / 128 % 2 == 1 && !ok then
      (s1.bump (Reg.DPC_RED_ERR_CNT dpc 4) 1).event 0x0303 (Reg.DPC_PAGE dpc) (argWord [(0, tenant)]) (BitVec.ofNat 64 chunk)
    else s1)

/-- A grain stored as a new chunk under a reserved id: its entry, its form, its dictionary's reference and the tenant's physical
bytes (R212, R223, R478). -/
def storeGrain (s : State) (tenant dict red chunk dpc fp : Nat) (plain : Bytes) (ok : Bool) : Form × State :=
  let x := s.makeForm tenant dict red chunk dpc plain ok
  let f := x.1
  let e : Chunk := ⟨.journaled, len32Of f.len, 0, 0, 0, 0, fp / 2 ^ 160 % 2 ^ 32, 1, tenant, 0, s.now⟩
  let s1 := { x.2.setChunk chunk e with mp.forms := tPut x.2.mp.forms chunk f }
  let s2 := if f.kind = 2 then s1.dictRef f.dictId true else s1
  (f, s2.tcntAdd tenant 12 (physBytes e))

/-- The record's delta and form of a grain that has left the pipeline. -/
def putOut (s : State) (id g : Nat) (d : Delta) (f : Option Form) : State :=
  s.modCmd id (fun c => { c with outs := c.outs ++ [(g, d, f)], lookups := c.lookups.filter (fun l => l.grain != g) })

/-- A grain becomes a new chunk under its reserved id (R174 stage 4b). -/
def grainStore (s : State) (id g chunk dpc fp : Nat) (plain : Bytes) (ok : Bool) : State :=
  match s.cmd? id with
  | none => s
  | some c =>
    match s.vol? c.volume with
    | none => s
    | some v =>
      let x := s.storeGrain c.tenant (s.dictOfVol v) c.red chunk dpc fp plain ok
      x.2.putOut id g (.store chunk (g - (c.ranges.head?.map (fun r => (grainSpan c.lbaf r.1 r.2).1)).getD 0) 0 none) (some x.1)

/-- PENDING deltas that name a withdrawn chunk become STORE, each with its grain's own form (R179, R210). -/
def convertPending (s : State) (chunk : Nat) : State :=
  s.nv.cmds.foldl (fun t e =>
    (e.2.outs.filter (fun o => match o.2.1 with | .pending c _ _ => c == chunk | _ => false)).foldl (fun u o =>
      match u.cmd? e.1, u.poolClaim.reserveId with
      | some c, some (k, w) =>
        match u.grainPlain c o.1 with
        | some p =>
          (w.modCmd e.1 (fun y => { y with outs := y.outs.filter (fun z => z.1 != o.1) })).grainStore e.1 o.1 k 0
            (fingerprint (u.saltOf c.tenant) p) p true
        | none => u
      | _, _ => u) t) s

end State

end Sys2Proof.Machine
end

