-- ==== Sys2Proof/Machine/Rpl.lean ====
section
/-!
DEFINITION. Sys2Proof/Machine/Rpl.lean: replication messages on their connections, the states a relationship falls to, and the
synchronous writes that leave and end (R380 to R391).
-/

namespace Sys2Proof.Machine

/-! ## Messages (R385) -/

/-- The 48 bytes of an OFFER entry. -/
def offerBytes (e : OfferEnt) : Bytes := 
  (leBytes e.grain 8 ++ leBytes e.fp 32 ++ leBytes e.dict 4 ++ [e.kind, 0, 0, 0]).map (BitVec.ofNat 8)

/-- SHA-256 over the OFFER entries of a cycle, in order. -/
def offerDigest (l : List OfferEnt) : Word256 := Config.sha256 (l.flatMap offerBytes)

/-- `TYPE` of a message. -/
def rplType (m : RplMsg) : Nat :=
  match m with
  | .hello _ => 0x0001
  | .offer _ => 0x0002
  | .need _ _ _ => 0x0003
  | .grain _ => 0x0004
  | .dict _ _ _ => 0x0005
  | .mapdelta _ => 0x0006
  | .commit _ _ _ _ => 0x0007
  | .ack _ _ _ _ => 0x0008
  | .syncWrite _ => 0x0010
  | .syncAck _ _ => 0x0011
  | .base _ => 0x0012

/-- A GRAIN entry: OFFER index, entry index, the grain header and the payload as sent, zeros to 32 bytes (R385, R386). -/
def grainEntImage (e : GrainEnt) : Bytes := natBytes (leBytes e.offer 4 ++ leBytes e.entry 2 ++ [0, 0]) ++ formContent e.form

/-- A bit list as bytes: bit i of byte ⌊i/8⌋, over a number of bytes. -/
def bitBytes (l : List Bool) (n : Nat) : Bytes :=
  (List.range n).map (fun i => BitVec.ofNat 8 ((List.range 8).foldl (fun a j => a + (l.getD (8 * i + j) false).toNat * 2 ^ j) 0))

/-- The body of a message (R385). -/
def rplBody (m : RplMsg) : Bytes :=
  match m with
  | .hello h => layout 48 [(0, 6, h.array.toNat), (6, 1, h.head), (7, 1, h.role), (8, 1, h.mode), (12, 2, h.tenant), (16, 32, h.salt)]
  | .offer l => l.flatMap offerBytes
  | .need o n d => layout 16 [(0, 8, o), (8, 2, n.length)] ++ bitBytes n (4 * ((n.length + 31) / 32)) ++ d.flatMap (fun x => leField x 4)
  | .grain l => l.flatMap grainEntImage
  | .dict i n p => layout 16 [(0, 4, i), (4, 4, n)] ++ p
  | .mapdelta l => l.flatMap (fun r => leField r.1 8 ++ leField r.2 8)
  | .commit a b c d => layout 24 [(0, 4, a), (8, 8, b), (16, 8, c)] ++ (leField d.toNat 32).reverse
  | .ack a b c d => layout 24 [(0, 8, a), (8, 4, b), (12, 2, c), (16, 8, d)]
  | .syncWrite w =>
    layout 32 [(0, 8, w.seq), (8, 8, w.first), (16, 4, w.grains),
      (20, 1, w.fua.toNat + 2 * w.last.toNat + 4 * w.dealloc.toNat + 8 * w.copy.isSome.toNat), (24, 8, w.copy.getD 0)]
      ++ w.ents.flatMap grainEntImage
  | .syncAck q t => layout 16 [(0, 8, q), (8, 1, t)]
  | .base q => leField q 8

/-- A message: its 32-byte header, beginning with ASCII `RPLM`, and its body (R385). -/
def rplImage (rel mseq cycle : Nat) (m : RplMsg) : Bytes :=
  let b := rplBody m
  layout 32 [(0, 4, 0x4D4C5052), (4, 2, rplType m), (8, 4, 32 + b.length), (12, 4, rel), (16, 8, mseq), (24, 8, cycle)] ++ b

/-- The body of a `REPL_FWD` (R335, R381): connection index, relationship, direction (1 for the owner, 2 to be sent on the connection), and the
replication message whole. -/
def rplFwdBody (conn rel dir mseq cycle : Nat) (m : RplMsg) : List Nat := [conn, rel, dir] ++ (rplImage rel mseq cycle m).map BitVec.toNat

/-- A stored form as it goes on the wire: decrypted but still compressed (R386). -/
def State.wireForm (s : State) (f : Form) : Form := { f with sealed := s.formPayload f }

/-- Whether a message is an ACK, which needs no credit and is not itself acknowledged. -/
def isAck (m : RplMsg) : Bool := match m with | .ack _ _ _ _ => true | _ => false

/-- Bytes of a GRAIN entry: 8, the grain header and its payload padded to 32 bytes (R385). -/
def grainEntBytes (f : Form) : Nat := 8 + formBytes f

/-- GRAIN entries cut into messages of at most a number of bytes. -/
def cutEnts (limit : Nat) (l : List GrainEnt) : List (List GrainEnt) :=
  let x := l.foldl (fun (a : List (List GrainEnt) × List GrainEnt × Nat) e =>
    let n := grainEntBytes e.form
    if a.2.2 + n ≤ limit || a.2.1.isEmpty then (a.1, a.2.1 ++ [e], a.2.2 + n) else (a.1 ++ [a.2.1], [e], n)) ([], [], 0)
  if x.2.1.isEmpty then x.1 else x.1 ++ [x.2.1]

/-- A content cut into parts that each fit one DICT message. -/
def dictCuts : Nat → Bytes → List Bytes
  | 0, _ => []
  | n + 1, b => if b.isEmpty then [] else b.take 65488 :: dictCuts n (b.drop 65488)

/-- Whether a relationship is the source end of a synchronous one. -/
def syncSource (r : Rel) : Bool := r.source && r.mode == 2

namespace State

/-! ## Relationships -/

/-- A relationship of this array. -/
def rel? (s : State) (k : Nat) : Option Rel := tGet? s.repl.rels k

/-- Whether this head runs a relationship: it owns the volume's group (R381). -/
def runsRel (s : State) (r : Rel) : Bool :=
  match s.vol? r.volume with | some v => tGet? s.nv.groups v.group == some s.headIndex | none => false

/-- `REPL.STATUS` brought up to date. -/
def replShow (s : State) : State :=
  let run := (s.repl.rels.filter (fun e => s.runsRel e.2)).map (fun e => e.2)
  ((s.setFld Reg.REPL_STATUS_CONNS s.repl.conns.length).setFld Reg.REPL_STATUS_RELS run.length).setFld Reg.REPL_STATUS_FRACTURED
    (run.filter (fun r => r.mode == 2 && r.st != 3)).length

/-- A relationship changed. -/
def modRel (s : State) (k : Nat) (f : Rel → Rel) : State := { s with repl.rels := tMod s.repl.rels k f }.replShow

/-- *RTTB* of a relationship in µs: the highest round trip of the last 10 s, rounded up to 10 µs (R389). -/
def rttbUs (s : State) (r : Rel) : Nat :=
  let ns := match r.conn with
    | some c => match tGet? s.repl.conns c with | some x => x.rtt | none => tGet s.repl.far c 0
    | none => 0
  10 * ceilDiv ns 10000

/-! ## Sending (R383, R384) -/

/-- A message sent on a connection of this head; an ACK tells the receive buffers that this head posts on it (R383). -/
def rplEmit (s : State) (c : Nat) (x : RplConn) (rel cycle : Nat) (m0 : RplMsg) : State :=
  let m := match m0 with | .ack a _ t e => .ack a x.bufs t e | _ => m0
  (({ s with repl.conns := tPut s.repl.conns c { x with
      txNext := x.txNext + 1
      unacked := if isAck m then x.unacked else x.unacked ++ [x.txNext] } }).bump (Reg.REPL_CNT 0) 1).emit (.repl c rel x.txNext cycle m (rplImage rel x.txNext cycle m))

/-- A message for a connection of this head: sent when a credit is free, else kept in order. -/
def rplPut (s : State) (c rel cycle : Nat) (m : RplMsg) : State :=
  match tGet? s.repl.conns c with
  | none => s
  | some x =>
    if isAck m || (x.unacked.length < x.credits && x.queue.isEmpty) then s.rplEmit c x rel cycle m
    else { s with repl.conns := tPut s.repl.conns c { x with queue := x.queue ++ [(rel, cycle, m)] } }

/-- A message for a connection: at this head, or at the other (R381). -/
def rplSend (s : State) (c rel cycle : Nat) (m : RplMsg) : State :=
  if c < 16384 then s.rplPut c rel cycle m
  else if s.linkUp then s.sendMsg 0x020C (rplFwdBody (c - 16384) rel 2 0 cycle m)
  else s

/-- Messages that waited leave as credits allow. -/
def rplPump (c : Nat) : Nat → State → State
  | 0, s => s
  | n + 1, s =>
    match tGet? s.repl.conns c with
    | none => s
    | some x =>
      match x.queue with
      | [] => s
      | (rel, cycle, m) :: rest =>
        if x.unacked.length < x.credits then rplPump c n (s.rplEmit c { x with queue := rest } rel cycle m) else s

/-- A message of a relationship on its connection. -/
def relSend (s : State) (r : Rel) (cycle : Nat) (m : RplMsg) : State :=
  match r.conn with | some c => s.rplSend c r.rid cycle m | none => s

/-- Receive buffers that this head posts (R383). -/
def recvBufs (s : State) : Nat := clampNat 16 1024 (s.act Reg.REPL_CFG_RECV_BUFS)

/-- An ACK on the connection that a message came on. -/
def rplAck (s : State) (c rel mseq cycle status entry : Nat) : State :=
  s.rplSend c rel cycle (.ack mseq s.recvBufs status entry)

/-! ## Falls (R384, R388, R391) -/

/-- A relationship leaves IN_SYNC (R391): its waiting writes wait no longer. -/
def fracture (s : State) (k : Nat) : State :=
  match s.rel? k with
  | some r =>
    if r.source && r.st = 3 then
      (((s.modRel k (fun x => { x with st := 4, waits := [], unsent := true, synced := false })).bump (Reg.REPL_CNT 8) 1).event 0x0A01
        Reg.REPL_PAGE (argWord [(0, r.rid)]) 0).journalCtl [⟨0x16, [6, k, 0]⟩]
    else s
  | none => s

/-- A cycle that has not reached COMMITTED is aborted (R388); a relationship without one goes to RETRY, and a synchronous source to
FRACTURED. The source keeps both snapshots. -/
def cycleAbort (s : State) (k : Nat) : State :=
  match s.rel? k with
  | none => s
  | some r =>
    if r.st = 7 then s
    else
      let running := r.st = 2 || r.st = 5 && (r.begun || r.next.isSome || r.staging.isSome)
      let s1 := if running then s.bump (Reg.REPL_CNT 6) 1 else s
      let s2 := s1.fracture k
      s2.modRel k (fun x => { x with
        st := if syncSource x then 4 else 6
        todo := [], ranges := [], offers := [], nextOffer := 0, entries := [], rangeCount := 0, begun := false, committing := false
        needed := [], dictParts := [] })

/-- A relationship loses its connection (R388, R391). -/
def relLost (s : State) (k : Nat) : State :=
  (s.cycleAbort k).modRel k (fun x => { x with conn := none, hello := false, basing := none, syncing := [], held := [] })

/-- A connection is gone: its relationships with it, and the other head is told of those it runs. -/
def rplLost (s : State) (c : Nat) : State :=
  if !(tGet? s.repl.conns c).isSome then s
  else
    let ks := s.repl.rels.filter (fun e => e.2.conn == some c)
    let s1 := { s with repl.conns := tDel s.repl.conns c }
    ks.foldl (fun (t : State) (e : Nat × Rel) =>
      if t.runsRel e.2 then t.relLost e.1
      else
        (if t.linkUp then t.sendMsg 0x020C (rplFwdBody c e.2.rid 1 0 e.2.cycle (.ack 0 0 4 0)) else t).modRel e.1
          (fun x => { x with conn := none, hello := false })) s1.replShow

/-- A protocol error (R384): the connection is torn down with a CM DREQ. -/
def rplError (s : State) (c : Nat) : State := ((s.bump (Reg.REPL_CNT 10) 1).emit (.cmDreq c)).rplLost c

/-- Every replication connection of this head is gone. -/
def rplDown (s : State) : State := s.repl.conns.foldl (fun (t : State) (e : Nat × RplConn) => t.rplLost e.1) s

/-- A head that fences itself runs no relationship and holds no replication connection. -/
def rplClear (s : State) : State :=
  { s with
    repl.conns := []
    repl.rels := s.repl.rels.map (fun (e : Nat × Rel) => (e.1, { e.2 with
      conn := none, hello := false, waits := [], syncing := [], held := [], basing := none, snapping := false
      st := if e.2.st = 7 then 7 else if syncSource e.2 then 4 else 6 })) }.replShow

/-- Relationships of adopted groups (R381, R388): their cycles are aborted, and new connections are opened for them. -/
def rplTake (s : State) (groups : List Nat) : State :=
  s.repl.rels.foldl (fun (t : State) (e : Nat × Rel) =>
    match t.vol? e.2.volume with
    | some v =>
      if groups.contains v.group then
        let t1 := if syncSource e.2 && e.2.synced then (t.modRel e.1 (fun x => { x with st := 3 })).fracture e.1 else t
        (t1.modRel e.1 (fun x => { x with
            st := if syncSource x then 4 else 6
            conn := none, hello := false, unsent := true
            staging := (t.vol? (65536 + e.1)).map (fun _ => 65536 + e.1) })).emit (.replConnect e.2.rid e.2.entry e.2.ip)
      else if e.2.st = 2 || e.2.st = 3 || e.2.st = 5 then t.cycleAbort e.1
      else t
    | none => t) s

/-! ## A connection that comes up (R382, R383) -/

/-- This array's id. -/
def arrayId (s : State) : BitVec 48 := (s.reg Reg.OWN_ARRAY).setWidth 48

/-- The salt check of a tenant (R382). -/
def saltCheck (s : State) (tenant : Nat) : Nat := fingerprint (s.saltOf tenant) zeroGrain

/-- The HELLO of a relationship. -/
def helloOf (s : State) (r : Rel) : RplMsg :=
  let t := ((s.vol? r.volume).map (fun v => v.tenant)).getD 0
  .hello ⟨s.arrayId, s.headIndex, if r.source then 1 else 2, r.mode, t, s.saltCheck t⟩

/-- The source ends of an address that have no connection send their HELLOs on a new one. -/
def helloAll (s : State) (c : Nat) (ip : BitVec 128) : State :=
  (s.repl.rels.filter (fun e => e.2.source && e.2.ip == ip && e.2.conn.isNone && e.2.st != 7)).foldl (fun (t : State) (e : Nat × Rel) =>
    (t.modRel e.1 (fun x => { x with conn := some c })).rplPut c 0 e.2.cycle (t.helloOf e.2)) s

/-- A connection entry of `TYPE` 3 has become CONNECTED: without ESP, or beyond 256, it is refused. -/
def rplUp (s : State) (c : Nat) (e : ConnEntry) : State :=
  if (tGet? s.repl.conns c).isSome then s
  else if e.prot != 1 || 256 ≤ s.repl.conns.length then s.emit (.cmRej e.port)
  else
    ({ s with repl.conns := tPut s.repl.conns c ⟨1, 1, s.recvBufs, [], 0, [], s.recvBufs⟩ }.replShow).helloAll c e.remoteIp

/-- The highest round trip of a connection's last 10 s (R389): above 2 ms its relationships leave IN_SYNC (R391). -/
def rttSet (s : State) (c rtt : Nat) : State :=
  match tGet? s.repl.conns c with
  | none => s
  | some x =>
    let s1 := { s with repl.conns := tPut s.repl.conns c { x with rtt := rtt } }
    if rtt ≤ 2000000 then s1
    else s1.repl.rels.foldl (fun (t : State) (e : Nat × Rel) =>
      if e.2.conn = some c && t.runsRel e.2 then t.fracture e.1 else t) s1

/-! ## Synchronous writes at the source (R390) -/

/-- The synchronous relationships of a volume that this head runs as their source. -/
def syncRels (s : State) (vol : Nat) : List (Nat × Rel) :=
  s.repl.rels.filter (fun e => syncSource e.2 && e.2.volume == vol && s.runsRel e.2)

/-- The class floor that synchronous replication sets (R390). -/
def syncFloor (s : State) (vol : Nat) (write : Bool) : Nat :=
  if write then ((s.syncRels vol).filter (fun e => e.2.st == 3)).foldl (fun n e => max n (if s.rttbUs e.2 ≤ 500 then 2 else 3)) 0 else 0

/-- Whether new writes of a volume are refused: a relationship of it is not IN_SYNC and `SYNC_FENCE` is 1 (R389). -/
def syncFenced (s : State) (vol : Nat) : Bool :=
  s.act Reg.REPL_CFG_SYNC_FENCE == 1 && (s.syncRels vol).any (fun e => e.2.st == 4 || e.2.st == 5)

/-- The stages that a write's draft adds: the egress port, and beats of the wait of *RTTB* + 100 µs (R390). -/
def syncStages (s : State) (vol : Nat) : Option (Nat × Nat) :=
  match (s.syncRels vol).find? (fun e => e.2.st == 3) with
  | none => none
  | some e =>
    let port := match e.2.conn with
      | some c => if c < 16384 then ((tGet? s.fab.conns c).map (fun x => x.port)).getD 0 else 64
      | none => 0
    some (port, ceilDiv (s.rttbUs e.2 + 100) 10)

/-- The form that a delta leaves in its grain, with the grain. -/
def deltaForm (s : State) (r : JRec) (d : Delta) : Option (Option GrainEnt) :=
  match d with
  | .store _ _ i _ => some (r.forms[i]?.map (fun f => ⟨0, 0, s.wireForm f, true⟩))
  | .dedup c _ _ | .pending c _ _ => some ((s.formOf c).map (fun f => ⟨0, 0, s.wireForm f, true⟩))
  | _ => none

/-- The SYNC_WRITEs of a record: one per range of a deallocation or a copy, and as many as its grains need; the last carries LAST. -/
def syncMsgs (s : State) (r : JRec) : Option (List SyncWrite) :=
  let ranges := r.deltas.filterMap (fun d => match d with
    | .deallocRange f n => some (SyncWrite.mk r.seq f n r.fua false true none [])
    | .copyRange src f n => some (SyncWrite.mk r.seq f n r.fua false false (some src) [])
    | _ => none)
  let grains := r.deltas.filterMap (s.deltaForm r)
  if grains.any (fun g => g.isNone) then none
  else
    let cuts := cutEnts 65472 (grains.filterMap id)
    let goff := (r.deltas.filterMap (fun d => match d with | .store _ g _ _ | .dedup _ g _ | .pending _ g _ => some g | _ => none)).headD 0
    let ws := (cuts.foldl (fun (a : List SyncWrite × Nat) c =>
      (a.1 ++ [SyncWrite.mk r.seq a.2 c.length r.fua false false none c], a.2 + c.length)) ([], r.first + goff)).1
    let l := ranges ++ ws
    some (l.dropLast ++ (l.getLast?.map (fun w => { w with last := true })).toList)

/-- A dictionary sent on a relationship, in parts (R385). -/
def dictSend (s : State) (k d : Nat) : State :=
  match s.rel? k with
  | none => s
  | some r =>
    let b := s.dictContent d
    ((dictCuts 2 b).foldl (fun t p => t.relSend r (r.cycle + 1) (.dict d b.length p)) s).modRel k
      (fun x => { x with dicts := tPut x.dicts d 0 })

/-- A record headed at the source of synchronous relationships: sent to those IN_SYNC, in `SEQ` order, with the command waiting; the
others remember that a write was not sent. -/
def syncHead (s : State) (cmd : Nat) (r : JRec) : State :=
  (s.syncRels r.volume).foldl (fun (t : State) (e : Nat × Rel) =>
    if e.2.st != 3 then t.modRel e.1 (fun x => { x with unsent := true })
    else
      match t.syncMsgs r with
      | none => t.fracture e.1
      | some l =>
        let ds := ((l.flatMap (fun w => w.ents.filterMap (fun g => if g.form.kind = 2 then some g.form.dictId else none))).dedup).filter
          (fun d => !(tGet? e.2.dicts d).isSome)
        let t1 := ds.foldl (fun (u : State) d => u.dictSend e.1 d) t
        (l.foldl (fun (u : State) w => u.relSend e.2 e.2.cycle (.syncWrite w)) t1).modRel e.1
          (fun x => { x with waits := x.waits ++ [(r.seq, cmd)] })) s

/-- Whether a write waits for a SYNC_ACK. -/
def syncWaits (s : State) (seq : Nat) : Bool := s.repl.rels.any (fun e => e.2.waits.any (fun w => w.1 == seq))

/-! ## Synchronous writes at the target (R390) -/

/-- A command drafted for a SYNC_WRITE is durable, or ends otherwise: SYNC_ACK follows when no part of its `SEQ` is left. -/
def syncEnd (s : State) (cmd : Nat) (good : Bool) : State :=
  s.repl.rels.foldl (fun (t : State) (e : Nat × Rel) =>
    match e.2.syncing.find? (fun x => x.1 == cmd) with
    | none => t
    | some x =>
      let rest := e.2.syncing.filter (fun y => if good then y.1 != cmd else y.2 != x.2)
      let t1 := t.modRel e.1 (fun r => { r with syncing := rest })
      if good && rest.any (fun y => y.2 == x.2) then t1
      else t1.relSend e.2 e.2.cycle (.syncAck x.2 (if good then 0 else 1))) s

end State

end Sys2Proof.Machine
end

