-- ==== Sys2Proof/Machine/HostCmd.lean ====
section
/-!
DEFINITION. Sys2Proof/Machine/HostCmd.lean: the life of a host command: its completion, refusal or termination, the Reed check
and the Loom's decision (R91, R105, R107, R125 to R165, R186, R191).
-/

namespace Sys2Proof.Machine

namespace State

/-! ## Connections -/

/-- A valid connection entry. -/
def conn? (s : State) (i : Nat) : Option ConnEntry := (tGet? s.fab.conns i).filter (fun e => e.valid)

/-- What the `XPT` keeps of a connection. -/
def connRt? (s : State) (i : Nat) : Option ConnRt := tGet? s.fab.rt i

/-- What the `XPT` keeps of a connection changed. -/
def modRt (s : State) (i : Nat) (f : ConnRt → ConnRt) : State := { s with fab.rt := tMod s.fab.rt i f }

/-- The version of an entry that a frame's tag names. -/
def versionOf (s : State) (i gen : Nat) : Option ConnEntry :=
  match s.conn? i with
  | some e => if e.gen = gen then some e else (s.fab.old.find? (fun x => x.1 == i && x.2.gen == gen)).map (fun x => x.2)
  | none => (s.fab.old.find? (fun x => x.1 == i && x.2.gen == gen)).map (fun x => x.2)

/-- The oldest frame of a connection is consumed: the entry version it matched, or the current entry when none is held (R85,
R86). -/
def takeFrame (s : State) (i : Nat) : Option ConnEntry × State :=
  match s.fab.frames.find? (fun f => f.conn == i) with
  | some f => (s.versionOf i f.gen, { s with fab.frames := dropFirst (fun (x : FrameTag) => x.conn == i) s.fab.frames })
  | none => (s.conn? i, s)

/-! ## Commands -/

/-- Deadlines and windows of commands grow by an interruption of at most 32 µs (R162, R343). -/
def extendAll (s : State) (by_ : Nat) : State :=
  { s with nv.cmds := s.nv.cmds.map (fun (e : Nat × HCmd) => (e.1, { e.2 with deadline := e.2.deadline + by_, window := e.2.window + by_ })) }

/-- A single fault of R20: commands in flight and commands awaiting a decision are extended by the interruption that is measured, a free
value of at most 32 µs (R162, log entry 90), and the fault is noted for the next boundary (R127, R159). -/
def faultMark (s : State) : State :=
  let d := s.secondFault.draw
  let by_ := (Config.openWord d.1).toNat % 32001
  { d.2.extendAll by_ with loom.faultBeat := some s.beat, loom.faultEnd := s.now + by_ }

/-- An event that a rule says is logged without giving it a code. -/
def unnamedEvent (s : State) (rule page : Nat) (a0 : Word) : State :=
  match blockAt page with
  | some (b, num) => s.recordFrom (Config.unnamedEvent rule).1.toNat (Config.unnamedEvent rule).2.toNat b.code num a0 0
  | none => s

/-- A command of a connection that this head received. -/
def cmdAt (s : State) (conn cid : Nat) : Option (Nat × HCmd) :=
  s.nv.cmds.find? (fun e => e.2.fwdFrom.isNone && !e.2.mute && e.2.conn == conn && e.2.cid == cid)

/-- The controller of a connection, and its key. -/
def ctrlAt (s : State) (conn : Nat) : Option (Nat × Ctrl) :=
  match s.connRt? conn with
  | some r => match r.ctrl with | some k => (tGet? s.nv.ctrls k).map (fun c => (k, c)) | none => none
  | none => none

/-- Whether transmission on a connection is held: by received PFC on its port, or by a TCP receive window of zero (R75). A connection's
priority is not named by the spec, so any paused priority holds it: DESIGN CHOICE (log entry 70). -/
def txHeld (s : State) (i : Nat) : Bool :=
  ((s.connRt? i).map (fun r => r.zeroWin)).getD false
    || ((s.conn? i).map (fun e => s.fab.rxPaused.any (fun x => x / 8 == e.port))).getD false

/-- Something for a host leaves, or waits while transmission on its connection is held. -/
def transmit (s : State) (conn : Nat) (e : Emit) : State :=
  if s.txHeld conn then { s with fab.txq := s.fab.txq ++ [(conn, e)] } else s.emit e

/-- What waited for connections whose transmission is held no longer leaves, oldest first. -/
def txDrain (s : State) : State :=
  (s.fab.txq.filter (fun x => !s.txHeld x.1)).foldl (fun t x => t.emit x.2) { s with fab.txq := s.fab.txq.filter (fun x => s.txHeld x.1) }

/-- Something sent to a host, which its transport keeps until it is acknowledged. -/
def sendOn (s : State) (conn : Nat) (e : Emit) : State :=
  (s.modRt conn (fun r => { r with unacked := r.unacked + 1 })).transmit conn e

/-- Data sent to a host, with the CRC-32C of an NVMe/TCP data PDU where the connection has negotiated data digests (R78). -/
def sendData (s : State) (conn cid off : Nat) (data : Bytes) : State :=
  let dg := ((s.connRt? conn).bind (fun r => r.ic)).map (fun x => x.ddgst)
  s.sendOn conn (.hostData conn cid off data (if dg = some true then some (crc32c (byteNats data)) else none))

/-- The completion just given goes out in a SEND with Invalidate where its host asked for one (R76). -/
def sendInval (s : State) (conn cid : Nat) : State :=
  match tGet? s.fab.invals (65536 * conn + cid) with
  | none => s
  | some k => { s with fab.invals := tDel s.fab.invals (65536 * conn + cid) }.transmit conn (.invalidate conn cid k)

/-- A completion for the host on a connection: Command Retry Delay is 0 without Advanced Command Retry Enable (R106), and an
error enters the controller's error log (R118). -/
def nvmeOut (s : State) (conn cid sct sc : Nat) (dnr : Bool) (crd res : Nat) : State :=
  match s.ctrlAt conn with
  | none => (s.sendOn conn (.nvme conn cid sct sc dnr 0 res)).sendInval conn cid
  | some c =>
    let s1 := if sct = 0 && sc = 0 then s
      else { s with nv.ctrls := tPut s.nv.ctrls c.1 { c.2 with errors := ((256 * sct + sc) :: c.2.errors).take 64 } }
    (s1.sendOn conn (.nvme conn cid sct sc dnr (if c.2.acre then crd else 0) res)).sendInval conn cid

/-- A completion for a command: to the host, or to the head that received it (R173). -/
def answer (s : State) (c : HCmd) (sct sc crd : Nat) : State :=
  match c.fwdFrom with
  | some tag => s.sendMsg 0x0202 [tag, sct, sc, crd]
  | none => if c.mute then s else s.nvmeOut c.conn c.cid sct sc false crd 0

/-- A command leaves: its bookings of later beats, its claims, its transfer tag and its place among waiting commands go with
it. A SYNC_WRITE's command that has not completed is answered REFUSED (R390). -/
def dropCmd (s : State) (id : Nat) : State :=
  let s1 := (s.release id (s.beat + 1)).syncEnd id false
  { s1 with
    nv.cmds := tDel s1.nv.cmds id, loom.queue := s1.loom.queue.filter (fun x => x != id)
    loom.rejected := s1.loom.rejected.filter (fun r => r.1 != id)
    fab.ttags := s1.fab.ttags.map (fun e => if e.2.2 = some id then (e.1, e.2.1, none) else e) }

/-- The guarantee condition that a late completion is charged to (R164): the lowest of those that were broken while the command was in flight.
Without one the rule leaves no cause, and HOST_STALL is counted: DESIGN CHOICE (log entry 77). -/
def missCause (c : HCmd) : Nat := c.hurt.foldl min 3

/-- A completion after the deadline is counted and recorded (R165). Where the event's arguments lie is not in the spec: tenant in bytes 16 and 17,
class in 18, cause in 19, lateness in 24 to 31, DESIGN CHOICE (log entry 77). -/
def missCheck (s : State) (c : HCmd) : State :=
  if s.now ≤ c.deadline then s
  else
    let k := missCause c
    ((s.loomCount (fun i => Reg.LOOM_MISS_CNT i k)).tcntAdd c.tenant 7 1).event 0x0201 (Reg.LOOM_PAGE s.loomActive)
      (argWord [(0, c.tenant), (2, c.cls), (3, k)]) (BitVec.ofNat 64 (s.now - c.deadline))

/-- Pick counters of a completed I/O command (R478, R480). -/
def countDone (s : State) (c : HCmd) : State :=
  let s1 := if isWriteKind c.kind then s.tcntAdd c.tenant 1 1 else s.tcntAdd c.tenant 0 1
  let s2 :=
    if c.kind = .write then s1.tcntAdd c.tenant 4 c.bytes
    else if isWriteKind c.kind then s1 else s1.tcntAdd c.tenant 3 c.bytes
  s2.tcntAdd c.tenant (16 + latencyBin (s.now - c.arrived)) 1

/-- A command completes (R132, R165): the owner of a forwarded command answers the receiving head, which counts it. -/
def finish (s : State) (id sct sc : Nat) : State :=
  match s.cmd? id with
  | none => s
  | some c =>
    let s1 := ((if sct = 0 && sc = 0 then s.syncEnd id true else s).dropCmd id).answer c sct sc 0
    if c.fwdFrom.isSome then s1
    else
      let s2 := (s1.countDone c).missCheck c
      if sct = 2 && sc = 0x81 then s2.tcntAdd c.tenant 10 1 else s2

/-- The charges a command has taken. -/
def takenCharges (c : HCmd) : List Nat :=
  if isWriteKind c.kind then [0, c.tokens, 0, c.byteTokens] else [c.tokens, 0, c.byteTokens, 0]

/-- The chunk ids a command has allocated. -/
def cmdChunks (c : HCmd) : List Nat :=
  c.outs.filterMap (fun o => match o.2.1 with | .store k _ _ _ => some k | _ => none)

/-- A chunk that an abandoned command had allocated: its entry, form and index entries go and its id returns to the pool
(R191, R210). -/
def unallocate (s : State) (c : Nat) : State :=
  let s1 := match s.chunk? c with | some e => s.tcntSub e.tenant 12 (physBytes e) | none => s
  (((((s1.dropChunk c).withdrawPending c).convertPending c).freeId c).poolRelease (poolOf c)).sendMsg 0x0207 [c, 1]

/-- The extent of a command becomes a PAD record in both regions (R191). -/
def padExtent (s : State) (id : Nat) : State :=
  let s1 := { s with jr.exts := s.jr.exts.map (fun (e : Ext) => if e.cmd = some id then { e with cmd := none } else e) }
  match s.jr.exts.find? (fun (e : Ext) => e.cmd == some id) with
  | some e =>
    let tee := s.linkUp && !s.chip.holdup && ((s.cmd? id).map (fun c => c.tee)).getD false
    let s2 := s1.stripeWrite 0 e.off
    (if tee then s2.sendRecord { blankRec with type := 6, off := e.off, blks := e.blks } else s2).selvShow
  | none => s1

/-- What a write leaves behind when it is abandoned before its header (R191). -/
def abandon (s : State) (id : Nat) : State :=
  match s.cmd? id with
  | none => s
  | some c =>
    if c.phase = .headed then s.dropCmd id
    else
      let s0 := (c.lookups.foldl (fun t l => t.returnId l.chunk) (s.padExtent id)).modCmd id (fun x => { x with outs := [], lookups := [] })
      let s1 := (cmdChunks c).foldl unallocate s0
      (s1.ledgerAdd c.tenant (-(c.est : Int))).dropCmd id

/-- An accepted command whose work cannot be placed again after a fault (R162). -/
def faultAbort (s : State) (id : Nat) : State :=
  match s.cmd? id with
  | none => s
  | some c =>
    let s1 := (if isWriteKind c.kind then s.abandon id else s.dropCmd id).loomCount (fun i => Reg.LOOM_MISS_CNT i 4)
    (if c.fwdFrom.isSome then s1 else s1.tcntAdd c.tenant 9 1).answer c 0 0x21 1

/-- A command is refused with a cause (R105): nothing of it remains, and the Loom returns its charges (R147). While an emergency suspends the
guarantee conditions, the delay is `CRDT2` whatever the cause. One that the failed owner had accepted ends with FAULT_ABORT instead (R163). -/
def refuse (s : State) (id cause : Nat) : State :=
  match s.cmd? id with
  | none => s
  | some c =>
    if c.sure then s.faultAbort id
    else
    let s0 := ((s.dropCmd id).ledgerAdd c.tenant (-(c.est : Int))).undoDebt id c.tenant
    let s1 := s0.loomCount (fun i => Reg.LOOM_REFUSE_CNT i cause)
    let s2 := if c.tokens = 0 then s1 else s1.returnCharges c.tenant (takenCharges c)
    let s3 := if c.fwdFrom.isSome then s2 else s2.tcntAdd c.tenant (if cause ≤ 1 then 5 else 6) 1
    s3.answer c 0 0x21 (if cause = causeThermal || s.bit (Reg.LOOM_STATUS_SUSPENDED s.loomActive) then 2 else 1)

/-- A command is terminated under R91: with Transient Transport Error, or without a completion in a forced teardown (R89). -/
def terminate (s : State) (id : Nat) (post : Bool) : State :=
  match s.cmd? id with
  | none => s
  | some c =>
    let s1 := if c.fwdTo then s.sendMsg 0x0005 [id] else s
    let s2 := (s1.abandon id).tcntAdd c.tenant 8 1
    if post then s2.answer c 0 0x22 0 else s2

/-- A connection is torn down (R89): every command of it is terminated without a completion, and the connection is gone. -/
def teardown (s : State) (i : Nat) : State :=
  let ids := (s.nv.cmds.filter (fun e => e.2.fwdFrom.isNone && !e.2.mute && e.2.conn == i)).map (fun e => e.1)
  let s1 := ids.foldl (fun t id => t.terminate id false) s
  let s2 := { s1 with
    fab.rt := tDel s1.fab.rt i, fab.frames := s1.fab.frames.filter (fun f => f.conn != i)
    fab.txq := s1.fab.txq.filter (fun x => x.1 != i)
    fab.invals := s1.fab.invals.filter (fun e => e.1 / 65536 != i)
    fab.ttags := s1.fab.ttags.filter (fun e => e.1 / 4096 != i) }
  { s2 with nv.ctrls := s2.nv.ctrls.map (fun (e : Nat × Ctrl) => (e.1, { e.2 with queues := e.2.queues.filter (fun q => q.2 != i) })) }.rplLost i

/-- A connection entry is deleted, and its `REUSE` value remembered (R89). -/
def deleteEntry (s : State) (i : Nat) : State :=
  match s.conn? i with
  | none => s
  | some e => { s with fab.conns := tPut s.fab.conns i { e with valid := false }, fab.deleted := tPut s.fab.deleted i e.reuse }

/-! ## Pulling write data (R76, R78, R91) -/

/-- Bytes of a command's data that have arrived. -/
def arrivedBytes (c : HCmd) : Nat := c.data.foldl (fun k e => k + e.2.length) 0

/-- RDMA READ requests outstanding on one `XPT`. -/
def readsOn (s : State) (x : Nat) : Nat :=
  s.fab.rt.foldl (fun n e => match s.conn? e.1 with | some c => if c.port / 8 = x then n + e.2.reads else n | none => n) 0

/-- Whether another RDMA READ request may be outstanding on a connection (R76). -/
def mayRead (s : State) (i : Nat) (e : ConnEntry) : Bool :=
  match s.connRt? i with
  | some r => r.reads < min 16 r.granted && s.readsOn (e.port / 8) < 8192
  | none => false

/-- The lowest transfer tag of a connection that no command holds, and its next generation (R91). -/
def freeTag (s : State) (i : Nat) : Nat × Nat :=
  let used := (s.fab.ttags.filter (fun e => e.1 / 4096 == i && e.2.2.isSome)).map (fun e => e.1 % 4096)
  let t := firstFree used 4096 0
  (t, match tGet? s.fab.ttags (4096 * i + t) with | some g => (g.1 + 1) % 16 | none => 0)

/-- Bytes of the 16 MiB intake buffer of a Warp fabric segment (R170). -/
def intakeBuffer : Nat := 16777216

/-- Bytes that a command holds in the intake buffer: its data asked for or arrived, less the grains whose results are in the record buffer
(R170). -/
def intakeOf (c : HCmd) : Nat :=
  if c.phase = .headed then 0
  else (if c.pulled then c.bytes else arrivedBytes c) - 4096 * c.outs.length

/-- Bytes held in the intake buffer of the segment that hosts an `XPT`; each of the eight is hosted by a segment of its own (R170, R526). -/
def intakeHeld (s : State) (x : Nat) : Nat :=
  s.nv.cmds.foldl (fun n e => match s.conn? e.2.conn with
    | some v => if e.2.fwdFrom.isNone && v.port / 8 == x then n + intakeOf e.2 else n
    | none => n) 0

/-- A command's data beyond the capsule is asked for, once, by an RDMA READ request or an R2T, when the intake buffer has room for it. -/
def pullData (s : State) (id : Nat) : State :=
  match s.cmd? id with
  | none => s
  | some c =>
    let n := arrivedBytes c
    let room := match s.conn? c.conn with | some e => decide (s.intakeHeld (e.port / 8) + (c.bytes - n) ≤ intakeBuffer) | none => true
    if c.pulled || c.bytes ≤ n || c.fwdFrom.isSome || !room then s
    else
      match s.conn? c.conn with
      | none => s
      | some e =>
        if e.typ = 2 then
          let t := s.freeTag c.conn
          { s.modCmd id (fun c => { c with pulled := true }) with
            fab.ttags := tPut s.fab.ttags (4096 * c.conn + t.1) (t.2, some id) }.transmit c.conn
              (.r2t c.conn c.cid (4096 * t.2 + t.1) n (c.bytes - n))
        else if s.mayRead c.conn e then
          ((s.modCmd id (fun c => { c with pulled := true })).modRt c.conn (fun r => { r with reads := r.reads + 1 })).transmit c.conn
            (.pull c.conn c.cid n (c.bytes - n))
        else s

/-- The oldest command of a connection that waits for a READ request to become free asks for its data. -/
def pullNext (s : State) (i : Nat) : State :=
  match s.nv.cmds.find? (fun e => e.2.conn == i && e.2.fwdFrom.isNone && e.2.phase == .run && !e.2.pulled
      && (e.2.kind == .write || e.2.kind == .compare) && decide (arrivedBytes e.2 < e.2.bytes)) with
  | some e => s.pullData e.1
  | none => s

/-- Commands that wait for room in the intake buffer ask for their data, oldest first. -/
def pullWaiting (s : State) : State :=
  (s.nv.cmds.filter (fun e => e.2.fwdFrom.isNone && e.2.phase == .run && !e.2.pulled && (e.2.kind == .write || e.2.kind == .compare)
    && decide (arrivedBytes e.2 < e.2.bytes))).foldl (fun t e => t.pullData e.1) s

/-! ## Completion points of writes (R107, R186) -/

/-- Whether a chunk lies in a durable row. -/
def chunkDurable (s : State) (c : Nat) : Bool :=
  match s.chunk? (s.resolve c) with | some e => e.state == .located | none => true

/-- The chunks a record references. -/
def deltaChunks (r : JRec) : List Nat :=
  r.deltas.filterMap (fun d => match d with | .store c _ _ _ | .dedup c _ _ | .pending c _ _ => some c | _ => none)

/-- Every chunk that a record's command references (R107): those its deltas name and those that a copy takes over. -/
def recordRefs (s : State) (r : JRec) : List Nat :=
  deltaChunks r ++ r.deltas.flatMap (fun d => match d with
    | .copyRange _ g n => (beatsFrom g (g + n - 1)).filterMap (s.lookup r.volume)
    | _ => [])

/-- The completion rule of a command whose record is written now (R107). -/
def ruleNow (s : State) (c : HCmd) : Nat :=
  if c.fua || (s.solo && s.act Reg.NVMF_POLICY_SOLO_FUA == 1) then 2 else if s.solo then 1 else 0

/-- Writes that wait only for their mirror acknowledgement when the head enters solo mode come under a solo rule (R107). -/
def soloRules (s : State) : State :=
  let k := if s.act Reg.NVMF_POLICY_SOLO_FUA = 1 then 2 else 1
  { s with nv.cmds := s.nv.cmds.map (fun (e : Nat × HCmd) =>
      if e.2.phase == .headed && e.2.rule == 0 then (e.1, { e.2 with rule := k }) else e) }

/-- Whether a headed write has reached its completion point under the rule that its record was written under, and every SYNC_ACK it waits for has come (R390). -/
def writeReady (s : State) (c : HCmd) : Bool :=
  match c.seq with
  | none => false
  | some q =>
    match (if adoptMark ≤ q then s.jr.mir.find? (fun r => r.seq + adoptMark == q) else s.jr.own.find? (fun r => r.seq == q)) with
    | none => c.rule != 2 || c.refs.all s.chunkDurable
    | some r =>
      (if c.rule = 2 then r.flashed && c.refs.all s.chunkDurable
        else r.mirrored || c.rule == 1 || (s.own.noQuorum && r.flashed)) && !s.syncWaits q

/-- Every write that has reached its completion point completes. -/
def completeReady (s : State) : State :=
  (s.nv.cmds.filter (fun e => e.2.phase == .headed && s.writeReady e.2)).foldl (fun t e => t.finish e.1 0 0) s

/-- Whether every SNAP record of a creation is MIRRORED: every snapshot stands, and no own record that makes one awaits the mirror
(R251 step 6). -/
def snapReady (s : State) (o : SnapOp) : Bool :=
  o.done && o.ids.all (fun i => (tGet? s.mp.snaps i).isSome)
    && s.jr.own.all (fun r => r.mirrored || r.ctl.all (fun c => c.sub != 6 || !o.ids.contains (c.body.getD 1 0)))

/-- `MAPX.MAP_STATUS.PAUSE` brought up to date. -/
def pauseShow (s : State) : State := s.setBit Reg.MAPX_MAP_STATUS_PAUSE (s.mp.snapOps.any (fun e => !e.2.volumes.isEmpty))

/-- A snapshot creation that has reached its end answers the control plane or its relationship, and goes once its pause has ended. -/
def snapEval (s : State) : State :=
  (s.mp.snapOps.foldl (fun t e =>
    if s.snapReady e.2 then
      let t1 := t.ctlAnswer e.2.tag .ok (BitVec.ofNat 64 (e.2.ids.headD 0)) 0
      let t2 := match e.2.rel with
        | some r =>
          let id := e.2.ids.headD 0
          let t2 := t1.modRel r (fun x => { x with next := if x.basing.isSome then x.next else some id, snapping := false })
          match t2.rel? r with
          | some x => if x.basing.isSome then t2 else t2.journalCtl [⟨0x16, [5, r, id]⟩]
          | none => t2
        | none => t1
      { t2 with mp.snapOps := if e.2.volumes.isEmpty then tDel t2.mp.snapOps e.1
          else tPut t2.mp.snapOps e.1 { e.2 with tag := none, rel := none } }
    else t) s).pauseShow

/-- Control commands whose records are all MIRRORED complete (R504). -/
def ctlWaits (s : State) : State :=
  s.up.cmds.foldl (fun t e =>
    match e.2.waits with
    | some (seqs, r0, r1) =>
      if t.jr.own.all (fun r => t.mirrored? r || !seqs.contains r.seq) then
        { t with up.cmds := tMod t.up.cmds e.1 (fun c => { c with waits := none }) }.ctlFinish e.1 .ok r0 r1
      else t
    | none => t) s

/-- The journal brought forward, the writes, snapshot creations and control commands this lets complete, and the data that now finds room. -/
def settle (s : State) : State := s.journalStep.completeReady.snapEval.ctlWaits.pullWaiting

/-! ## Classes and states a command meets -/

/-- Whether this head owns a volume group. -/
def ownsGroup (s : State) (g : Nat) : Bool := tGet? s.nv.groups g == some s.headIndex

/-- The ANA state of a group at this head (R115): 0 Optimized, 1 Non-Optimized, 2 Inaccessible. Between the release and the commit of a swap
both heads forward, so the group is Non-Optimized at both and never Inaccessible. -/
def groupState (s : State) (g : Nat) : Nat :=
  match tGet? s.nv.groups g with
  | some h => if h = s.headIndex then 0 else if (h != 3 || (tGet? s.own.swaps g).isSome) && s.paired && !s.own.noQuorum then 1 else 2
  | none => 2

/-- The ANA state of a volume at this head (R115): a pinned volume whose maps are loading is Inaccessible. -/
def anaState (s : State) (v : Volume) : Nat := if v.loading then 2 else s.groupState v.group

/-- Namespace floor (R101): that of a pinned volume from the first beat after every leaf page is resident (R240). -/
def nsFloor (v : Volume) : Nat := if v.lbaf = 2 then 2 else if v.pinned && v.pinReady && v.lc0 then 0 else 1

/-- The effective class under a further floor, and the class-raise counter it advances: 1 floor, 2 size, 3 FUA or solo policy; 0 none (R101). -/
def effClass (s : State) (connCls floor : Nat) (v : Volume) (bytes : Nat) (write fua : Bool) : Nat × Nat :=
  let fl := max floor (nsFloor v)
  let size := if connCls = 0 && 131072 < bytes then 1 else 0
  let fu := if fua || (write && s.solo && s.act Reg.NVMF_POLICY_SOLO_FUA == 1) then 2 else 0
  (max connCls (max fl (max size fu)), if connCls < fl then 1 else if connCls < size then 2 else if connCls < fu then 3 else 0)

/-- The class-raise counter advances. -/
def raiseCount (s : State) (k : Nat) : State :=
  match k with
  | 1 => s.bump Reg.NVMF_RAISE_FLOOR_CNT 1
  | 2 => s.bump Reg.NVMF_RAISE_SIZE_CNT 1
  | 3 => s.bump Reg.NVMF_RAISE_FUA_CNT 1
  | _ => s

/-- Whether a tenant's key slot is empty. -/
def keyEmptyOf (s : State) (t : Nat) : Bool := !slotFull (s.keySlot t)

/-- The busy status of R1 (R502), and the tenant noted as one whose commands receive it. -/
def busyOut (s : State) (conn cid tenant : Nat) : State :=
  let s1 := if s.up.busyTenants.contains tenant then s else { s with up.busyTenants := s.up.busyTenants ++ [tenant] }
  (s1.nvmeOut conn cid 0 0x82 false 3 0).upRefresh

/-- A command of this head completes with the busy status. -/
def busyFinish (s : State) (id : Nat) : State :=
  match s.cmd? id with
  | none => s
  | some c =>
    let s1 := (s.dropCmd id)
    let s2 := if s1.up.busyTenants.contains c.tenant then s1 else { s1 with up.busyTenants := s1.up.busyTenants ++ [c.tenant] }
    (s2.answer c 0 0x82 3).upRefresh

/-! ## Time and the two instances -/

/-- Whether this head has a time source (R46). -/
def timeSource (s : State) : Bool :=
  let src := s.fld Reg.TIME_CTRL_SRC
  src == 1 || src == 3 || (src == 2 && !s.bit Reg.DIKOR_STATUS_LEADER)

/-- The first decision takes the time base out of UNSYNCED (R46). -/
def firstDecision (s : State) : State :=
  if s.fld Reg.TIME_STATUS_STATE = 0 then
    { s with chip.leftUnsynced := true }.setFld Reg.TIME_STATUS_STATE (if s.timeSource then 2 else 1)
  else s

/-- Whether the Loom runs in simplex (R126). -/
def simplex (s : State) : Bool := s.bit (Reg.LOOM_STATUS_SIMPLEX s.loomActive)

/-- An instance goes to FAILED and the other is ACTIVE in simplex (R126). -/
def loomFail (s : State) (i : Nat) : State :=
  let o := 1 - i
  let s1 := (s.toState (Reg.LOOM_PAGE i) FAILED).setFld (Reg.LOOM_STATUS_ROLE i) 1
  (s1.setFld (Reg.LOOM_STATUS_ROLE o) 0).setBit (Reg.LOOM_STATUS_SIMPLEX o) true

/-- Two decisions have differed (R126): it is logged, self-checks run, and each instance that fails its own goes to FAILED, else the STANDBY. -/
def decisionMismatch (s : State) (fail0 fail1 : Bool) : State :=
  let s1 := ((s.bumpFld (Reg.LOOM_STATUS_MISMATCHES 0) 1).bumpFld (Reg.LOOM_STATUS_MISMATCHES 1) 1).unnamedEvent 126
    (Reg.LOOM_PAGE s.loomActive) 0
  if fail0 && fail1 then (s1.loomFail 0).toState (Reg.LOOM_PAGE 1) FAILED
  else s1.loomFail (if fail0 then 0 else if fail1 then 1 else 1 - s.loomActive)

/-! ## Drafts -/

/-- The port a command's data passes: the connection's, or the partner's port for a forwarded command. -/
def cmdPort (s : State) (c : HCmd) : Nat :=
  match s.conn? c.conn with
  | some e => if c.fwdFrom.isSome then 64 else e.port
  | none => if c.fwdFrom.isSome then 64 else 0

/-- The last beat that ends no later than a command's deadline, within the horizon (R132, R134) and before the handover of its group
(R373). -/
def lastBeat (s : State) (c : HCmd) : Nat :=
  let last := min (c.deadline / 10000 - 1) (s.beat + 64)
  match s.own.swaps.find? (fun e => e.2.giving && e.2.accepted && ((s.vol? c.volume).map (fun v => v.group == e.1)).getD false) with
  | some e => min last (e.2.bh - 1)
  | none => last

/-- Leaf indexes a command touches whose pages exist and are not resident (R239). -/
def missingLeaves (s : State) (c : HCmd) : List Nat :=
  match s.vol? c.volume with
  | none => []
  | some v =>
    (((s.touchGrains c).map leafOf).dedup).filterMap (fun li =>
      match s.findLeaf li 10 v.root with
      | some id =>
        match s.page? id with
        | some p => if p.resident || p.flash.isNone || (c.kind == .read && ((s.cmdGrains c).filter (fun g => leafOf g == li)).all (fun g =>
            s.overlayHas id (g % 64))) then none else some id
        | none => none
      | none => none)

/-- A map page-in from a beat: a page read on the die that holds the page's flash image, then its transfer and the lookup that resolves the
line (R145). -/
def pageinAt (s : State) (id b : Nat) : Option Cand :=
  match s.page? id with
  | none => none
  | some p =>
    match p.flash with
    | none => none
    | some (seg, _, member, _) =>
      match s.seg? seg with
      | none => none
      | some g =>
        let m := g.members.getD member (0, 0, 0)
        let t := b + s.dieBeats 10 1
        some ⟨s.dieOp 10 16384 m.1 m.2.1 b ++ [Dem.mk t (.moduleIn m.1) 16384, Dem.mk t .chipEnergy (s.chipE 10 1 16384)]
          ++ s.dpcStage [] t 1 1 0 [(Res.mapEngine, 1)], 0, []⟩

/-- Page-ins placed in turn, each to end by a beat; those that find no place run in slack (R145). The answer is false when one found none. -/
def placePageins (tenant : Nat) (who : Who) (last : Nat) : List Nat → Draft → Draft × Bool
  | [], d => (d, true)
  | id :: t, d0 =>
    let d := { d0 with st := d0.st.emit (.mapIo id false) }
    match place d tenant who last (fun s b => s.pageinAt id b) (beatsFrom (d.st.beat + 1) last) with
    | .inl x => placePageins tenant who last t x.1
    | .inr k => ((placePageins tenant who last t { d with cause := min d.cause k }).1, false)

/-- The cause of a page-in that finds no place (R145, R149). -/
def pageinCause (d : Draft) : Nat := if d.cause = causeShare then causeShare else causePlacement

/-- The page-ins of a command that is refused for want of a place run in slack: booked as background work at the earliest start that fits, so
that a retry finds the lines resident (R145). -/
def slackPageins (s : State) (c : HCmd) : State :=
  (s.missingLeaves c).foldl (fun t i =>
    let u := t.emit (.mapIo i false)
    match u.firstFit 0 false (u.beat + 64) (fun b => u.pageinAt i b) (beatsFrom (u.beat + 1) (u.beat + 64)) 99 with
    | (some x, _) => u.hold (.background 8) 0 x.dems
    | (none, _) => u) s

/-- Accepted commands of this head (R15). -/
def inflight (s : State) : Nat := (s.nv.cmds.filter (fun e => e.2.phase == .run || e.2.phase == .headed)).length

/-- Worst-case deltas and stored forms of a command's record (R176). -/
def recordShape (s : State) (c : HCmd) : Nat × Nat :=
  match c.kind with
  | .write => ((s.cmdGrains c).length, (s.cmdGrains c).length)
  | _ => (c.ranges.length + (s.pipeGrains c).length, (s.pipeGrains c).length)

/-- Worst-case bytes of a command's record. -/
def recordWorst (s : State) (c : HCmd) : Nat :=
  let d := s.recordShape c
  64 + 32 * ceilDiv d.1 2 + 4128 * d.2

/-- Beats in which a volume's drafts book no journal or mirror stage (R251, R373). -/
def pausedFor (s : State) (vol b : Nat) : Bool :=
  s.mp.snapOps.any (fun e => e.2.volumes.contains vol && decide (e.2.cut ≤ b)
    && decide (b < e.2.cut + s.act Reg.MAPX_MAP_CFG_SNAP_PAUSE))
    || s.own.swaps.any (fun e => !e.2.giving && ((s.vol? vol).map (fun v => v.group == e.1)).getD false && decide (b ≤ e.2.bh))

/-- The estimate of stored bytes times the debt factor, rounded up once (R151). -/
def debtEstimate (s : State) (c : HCmd) : Nat :=
  let r := if c.red / 16 % 4 = 0 then (1, 1) else s.storedRatio c.tenant
  if c.kind = .write then ceilDiv (c.bytes * r.1 * s.ovrOf c.tenant * s.collectF) (2 ^ 28 * r.2) else 0

/-- Whether journal space can be booked: the ring's, less the margin (R136, R180). -/
def bookRoom (s : State) (n : Nat) : Bool :=
  s.journalRoom n && decide (s.ownUsed + n ≤ lessPct (s.ringBlocks (s.act Reg.SELV_CFG_OWN_GIB)) s.bookMargin)

/-- The send of SYNC_WRITE after a write's journal stage, so early that its wait ends by the last beat (R390). -/
def placeSync (tenant : Nat) (who : Who) (last bytes : Nat) (x : Option (Nat × Nat)) (d : Draft) : Draft ⊕ Nat :=
  match x with
  | none => .inl d
  | some (port, wait) =>
    let n := max 1 (d.st.portBeats port bytes)
    match place d tenant who (last - wait) (fun s b => some ⟨(List.range n).flatMap (fun i =>
        [Dem.mk (b + i) (.portOut port) ((splitOver bytes n).getD i 0),
          Dem.mk (b + i) .chipEnergy ((splitOver (s.chipE 0 1 bytes) n).getD i 0)]), 0, []⟩) (beatsFrom (d.stop + 1) (last - wait)) with
    | .inl y => .inl y.1
    | .inr k => .inr k

/-- The stripe reads of a list of grains: one for each member of a row that holds wanted forms. -/
def plansOf (s : State) (vol : Nat) (gs : List Nat) : List Plan :=
  gs.foldl (fun ps g =>
    match s.grainSource vol g with
    | .stripe _ e =>
      let first := e.off * 32 / 16384
      let stop := (e.off * 32 + e.len32 * 32 - 1) / 16384
      let pages := beatsFrom first stop
      if ps.any (fun (p : Plan) => p.seg == e.segment && p.row == e.row && p.member == e.member) then
        ps.map (fun (p : Plan) =>
          if p.seg = e.segment ∧ p.row = e.row ∧ p.member = e.member then
            { p with pages := (p.pages ++ pages).dedup, grains := p.grains ++ [g] }
          else p)
      else ps ++ [{ seg := e.segment, row := e.row, member := e.member, pages := pages, members := [], grains := [g], tries := 0 }]
    | _ => ps) []

/-- The dictionary a write's grains need. -/
def writeDict (s : State) (c : HCmd) : List Nat :=
  match s.vol? c.volume with
  | some v => if c.red / 16 % 4 = 2 && v.dict != 0 && !(s.pipeGrains c).isEmpty then [v.dict] else []
  | none => []

/-- Grains that a command covers only in part, whose old content it reads first (R174). -/
def partGrains (c : HCmd) : List Nat := c.ranges.flatMap (fun r => edgeGrains c.lbaf r (wholeSpan c.lbaf r.1 r.2))

/-- Whether a command's record completes at flash (R107). -/
def atFlash (s : State) (c : HCmd) : Bool := c.fua || (s.solo && s.act Reg.NVMF_POLICY_SOLO_FUA == 1)

/-- The beat after the last booking of the earlier commands whose grains a command of a 512 B format shares (R111). -/
def orderBeat (s : State) (id : Nat) (c : HCmd) : Nat :=
  if c.lbaf != 2 then 0
  else
    let gs := s.cmdGrains c
    let ids := (s.nv.cmds.filter (fun e => decide (e.1 < id) && e.2.volume == c.volume && isWriteKind e.2.kind && !e.2.fwdTo
      && (s.cmdGrains e.2).any gs.contains)).map (fun e => e.1)
    s.loom.book.foldl (fun n b => match b.who with | .cmd k => if ids.contains k then max n (b.beat + 1) else n | _ => n) 0

/-- A write-class command's stages from a beat. -/
def writeStages (s : State) (c : HCmd) (b : Nat) : Option Cand :=
  s.writeTail (s.cmdPort c) (if c.kind = .write then c.bytes else 0) (s.pipeGrains c).length (s.recordWorst c) c.fwdFrom.isSome (s.writeDict c)
    c.red (s.pausedFor c.volume) b

/-- The last beat in which the stripe work of a write-class command may end, which leaves room for its stages (R140). -/
def writeLead (s : State) (c : HCmd) : Nat :=
  s.lastBeat c - (if c.kind = .write then s.portBeats (s.cmdPort c) c.bytes + 2 else if (s.pipeGrains c).isEmpty then 1 else 2)

/-- The page-ins of a write-class command's draft. -/
def writePageins (s : State) (id : Nat) (c : HCmd) : Draft × Bool :=
  placePageins c.tenant (.cmd id) (s.writeLead c) (s.missingLeaves c) ⟨s, s.beat, 99⟩

/-- A write-class command's draft placed (R139, R140, R146, R152), `first` at its decision and not when it is drafted again: the state with
every hold and the stripe reads of the grains that it covers in part, or the cause. -/
def placeWrite (s : State) (id : Nat) (c : HCmd) (first : Bool) : State ⊕ Nat :=
  let who := Who.cmd id
  let grains := (s.pipeGrains c).length
  let last := s.lastBeat c
  let pg := s.writePageins id c
  if !pg.2 then .inr (pageinCause pg.1)
  else if first && !s.bookRoom (ceilDiv (s.recordWorst c) 4096) then .inr causeJournal
  else
    let d0 := if first then { pg.1 with st := pg.1.st.ledgerAdd c.tenant (s.debtEstimate c) } else pg.1
    match placeStripes c.tenant who (s.writeLead c) (s.plansOf c.volume (partGrains c)) d0 [] with
    | .inr k => .inr k
    | .inl (d1, ps) =>
      match place d1 c.tenant who last (fun t b => t.writeStages c b) (beatsFrom (max (d1.stop + 1) (s.orderBeat id c)) last) with
      | .inr k => .inr k
      | .inl (d2, x) =>
        let t3 := (d2.st.holdDicts (s.writeDict c) x.dems).modCmd id (fun y => { y with plan := ps })
        let stored := 4128 * (s.recordShape c).2
        let d3 := { d2 with st := if s.atFlash c then (if stored = 0 then t3 else t3.openFor 1).openFor 4 else t3 }
        match (if s.atFlash c then (match d3.st.flashRows stored with
            | some l => placeRows c.tenant who (d3.stop + 1) last l d3
            | none => .inr causePlacement) else .inl d3) with
        | .inr k => .inr k
        | .inl d4 =>
          match placeSync c.tenant who last (64 + 4136 * grains) (d4.st.syncStages c.volume) d4 with
          | .inr k => .inr k
          | .inl d5 => if first then placeDebt c.tenant id (d5.st.debtUnits c.tenant) d5.st else .inl d5.st

/-- The sources of a read's grains. -/
def readSources (s : State) (c : HCmd) (gs : List Nat) : List Source := gs.map (s.grainSource c.volume)

/-- Stored bytes that grains take from DRAM: JOURNALED ones and read-cache hits (R16, R139). -/
def fromDram (l : List Source) : Nat := l.foldl (fun n x => match x with | .journal f | .cache _ f => n + formBytes f | _ => n) 0

/-- The dictionaries that the forms of grains name. -/
def readDicts (s : State) (c : HCmd) (gs : List Nat) : List Nat :=
  (gs.filterMap (fun g => match s.lookup c.volume g with
    | some k => match s.formOf k with | some f => if f.kind = 2 then some f.dictId else none | none => none
    | none => none)).dedup

/-- A read's tail for a list of grains. -/
def readStages (s : State) (c : HCmd) (gs : List Nat) (shift b : Nat) : Option Cand :=
  let srcs := s.readSources c gs
  let stored := srcs.foldl (fun n x => match x with | .stripe _ e => n + 32 * e.len32 | _ => n) (fromDram srcs)
  let work := (srcs.filter (fun x => match x with | .stripe _ _ | .journal _ | .cache _ _ => true | _ => false)).length
  s.readTail (s.cmdPort c) c.bytes gs.length work stored c.fwdFrom.isSome (s.readDicts c gs) shift b

/-- A read's draft placed: the state with every hold, and the plans taken, or the cause. -/
def placeRead (s : State) (id : Nat) (c : HCmd) (gs : List Nat) : (State × List Plan) ⊕ Nat :=
  let who := Who.cmd id
  let last := s.lastBeat c
  let tail := max 1 (s.portBeats (s.cmdPort c) c.bytes)
  let dram := fromDram (s.readSources c gs)
  match placeStripes c.tenant who (last - tail) (s.plansOf c.volume gs) ⟨s, s.beat, 99⟩ [] with
  | .inr k => .inr k
  | .inl (d, ps) =>
    match (if dram = 0 then .inl (d, ⟨[], 0, []⟩)
        else place d c.tenant who (last - tail) (fun _ b => some ⟨[Dem.mk b .dram dram], 0, []⟩) (beatsFrom (s.beat + 1) (last - tail))) with
    | .inr k => .inr k
    | .inl (d1, _) =>
      match place d1 c.tenant who last (fun t k => t.readStages c gs (k % 2) (k / 2))
          ((beatsFrom (d1.stop + 1) last).flatMap (fun b => [2 * b, 2 * b + 1])) with
      | .inr k => .inr k
      | .inl (d2, x) => .inl (d2.st.holdDicts (s.readDicts c gs) x.dems, ps)

/-- Chip energy that a command and its debt units hold. -/
def heldEnergy (s : State) (id : Nat) : Nat :=
  s.loom.book.foldl (fun n b => if b.res = .chipEnergy && (b.who == .cmd id || b.who == .debt id) then n + b.amt else n) 0

/-- The state in which the energy check is passed over, to reckon what a draft would have booked (R157). -/
def energyOpen (s : State) : State := { s with loom.anyEnergy := true }

/-- Chip energy of the draft of a write-class command that is refused for ENERGY (R157): what it would hold were energy no bound; where it would
then fail in a later part, that of its own stages in the next beat. -/
def writeEnergy (s : State) (id : Nat) (c : HCmd) : Nat :=
  match s.energyOpen.placeWrite id c true with
  | .inl t => t.heldEnergy id
  | .inr _ => ((s.writeStages c (s.beat + 1)).map (fun y => energyOf y.dems)).getD 0

/-- Chip energy of the draft of a read that is refused for ENERGY (R157), in the same way. -/
def readEnergy (s : State) (id : Nat) (c : HCmd) (gs : List Nat) : Nat :=
  match s.energyOpen.placeRead id c gs with
  | .inl x => x.1.heldEnergy id
  | .inr _ => ((s.readStages c gs 0 (s.beat + 1)).map (fun x => energyOf x.dems)).getD 0

/-! ## Acceptance -/

/-- The end of a write's intake as it is booked (R91, R139): the end of the last beat of its front-end ingress. -/
def intakeBooked (s : State) (id : Nat) : Nat :=
  let l := s.loom.book.filter (fun b => b.who == .cmd id && kindOf b.res == 7)
  if l.isEmpty then s.now else 10000 * (l.foldl (fun n b => max n (b.beat + 1)) 0)

/-- The media reads of an accepted command are issued: one `READ_UNIT` for each member of each stripe read (R143). -/
def issueReads (s : State) (id : Nat) : State :=
  match s.cmd? id with
  | none => s
  | some c =>
    c.plan.foldl (fun t p =>
      match t.seg? p.seg with
      | none => t
      | some g => p.members.foldl (fun u m =>
          let d := g.members.getD m (0, 0, 0)
          u.mqpIssue d.1 0x01 d.2.1 d.2.2 p.row (BitVec.ofNat 64 (p.pages.headD 0)) (BitVec.ofNat 64 p.pages.length) m
            (.hostRead id (p.grains.headD 0))) t) s

/-- A write-class command is accepted (R171, R176): its extent is taken, the tee opened, data beyond the capsule pulled, and the stripe reads of
the grains it covers in part are counted (R144). -/
def acceptWrite (s : State) (id : Nat) : State :=
  match s.cmd? id with
  | none => s
  | some c =>
    let n := ceilDiv (s.recordWorst c) 4096
    let s0 := c.plan.foldl (fun t p => t.loomCount (fun i => Reg.LOOM_ALT_CNT i p.erased)) s
    let (off, s1) := s0.takeExtent n (some id)
    let s2 := s1.modCmd id (fun c => { c with
      phase := .run
      accepted := s.now
      snapGen := ((s.vol? c.volume).map (fun v => v.gen)).getD 0
      ext := some (off, n)
      intakeEnd := s.intakeBooked id
      tee := s.teeOpen
      f := s.collectF
      outs := match c.kind with
        | .write => []
        | .copy => (c.ranges.filter (fun r => (copySpan c r).2 != 0)).map (fun r =>
            let w := copySpan c r
            let from_ := if c.lbaf = 2 then (c.src + (8 * w.1 - r.1)) / 8 else c.src
            (w.1, Delta.copyRange from_ w.1 w.2, none))
        | _ => (c.ranges.map (fun r => wholeSpan c.lbaf r.1 r.2)).map (fun g => (g.1, Delta.deallocRange g.1 g.2, none)) })
    let s3 := s2.issueReads id
    if c.kind = .write then s3.pullData id else s3

/-- A read is accepted; each of its stripe reads is counted under the members its alternative erases (R144). -/
def acceptRead (s : State) (id : Nat) (plans : List Plan) (gs : List Nat) : State :=
  let s0 := plans.foldl (fun t p => t.loomCount (fun i => Reg.LOOM_ALT_CNT i p.erased)) s
  let s1 := (s0.modCmd id (fun c => { c with phase := .run, plan := plans, todo := gs })).issueReads id
  match s.cmd? id with
  | some c => if c.kind = .compare then s1.pullData id else s1
  | none => s1

/-- Whether a thermal emergency suspends admission (R166). -/
def suspended (s : State) : Bool := s.bit (Reg.LOOM_STATUS_SUSPENDED s.loomActive)

/-- What turns a command away before a placement is tried (R15, R17, R131, R166): an emergency, an acceptance window that has ended, or the
in-flight limit. The spec names no cause for a decision that comes after its window: PLACEMENT, DESIGN CHOICE (log entry 89). One that the
failed owner had accepted is past them. -/
def turnedAway (s : State) (c : HCmd) : Option Nat :=
  if c.sure then none
  else if s.suspended then some causeThermal
  else if c.window < s.now then some causePlacement
  else if 65536 ≤ s.inflight then some causeInflight
  else none

/-- A decision made under the contract that was in effect when the command's Reed check began (R168). -/
def underTerms (s : State) (c : HCmd) (f : State → State) : State :=
  if c.terms.isEmpty || c.terms = s.contract c.tenant then f s
  else { f { s with loom.active := tPut s.loom.active c.tenant c.terms } with loom.active := s.loom.active }

/-- A command whose draft stands and whose claims are all answered is accepted, or turned away after all (R15, R136, R137, R166). -/
def acceptDraft (s : State) (id : Nat) : State :=
  match s.cmd? id with
  | none => s
  | some c =>
    match s.turnedAway c with
    | some k => s.refuse id k
    | none =>
      if isWriteKind c.kind then
        if s.bookRoom (ceilDiv (s.recordWorst c) 4096) then s.acceptWrite id else s.refuse id causeJournal
      else s.acceptRead id c.plan c.todo

/-- A command whose holds stand asks the partner for what it masters; with nothing to ask for it is accepted at once (R131, R137). -/
def standDraft (s : State) (id : Nat) : State :=
  let s1 := s.sendClaims id
  if s1.claimsOpen id then s1 else s1.acceptDraft id

/-- A write-class command meets the Loom (R131): refused under the lowest cause, or accepted once every claim is answered. -/
def decideWrite (s : State) (id : Nat) : State :=
  match s.cmd? id with
  | none => s
  | some c =>
    s.underTerms c (fun s0 =>
      match s0.turnedAway c with
      | some k => s0.refuse id k
      | none =>
        if s0.own.noQuorum then s0.refuse id causeJournal
        else if s0.syncFenced c.volume then s0.refuse id causeDikor
        else
          match s0.placeWrite id c true with
          | .inr k =>
            let t := if k = causeEnergy then { s0 with loom.refused := s0.loom.refused + s0.writeEnergy id c } else s0
            (if (s0.writePageins id c).2 then t else t.slackPageins c).refuse id k
          | .inl s1 => (s1.modCmd id (fun c => { c with est := s0.debtEstimate c })).standDraft id)

/-- A read whose grains are resolved meets the Loom (R131, R238). A LOST or dangling chunk fails the command before any booking. -/
def decideRead (s : State) (id : Nat) : State :=
  match s.cmd? id with
  | none => s
  | some c =>
    let gs := s.cmdGrains c
    let srcs := s.readSources c gs
    s.underTerms c (fun s0 =>
      match s0.turnedAway c with
      | some k => s0.refuse id k
      | none =>
        if srcs.any (fun x => x == .dangling) then
          (gs.foldl (fun t g => t.danglingSeen c.volume g) s0).finish id 2 0x81
        else if srcs.any (fun x => x == .lost) then s0.finish id 2 0x81
        else
          match s0.placeRead id c gs with
          | .inr k => (if k = causeEnergy then { s0 with loom.refused := s0.loom.refused + s0.readEnergy id c gs } else s0).refuse id k
          | .inl (s1, ps) => (s1.modCmd id (fun c => { c with plan := ps, todo := gs })).standDraft id)

/-- A decision under the gating of R125, which takes the time base out of UNSYNCED (R46): when the STANDBY's differs, the command is refused
with PLACEMENT and the pair goes to simplex (R126). -/
def gated (s : State) (id : Nat) (st : Standby) (f : State → State) : State :=
  let s0 := s.firstDecision
  match st with
  | .same => f s0
  | .differ a b => if s0.simplex then f s0 else (s0.refuse id causePlacement).decisionMismatch a b

/-- The last beat in which a read's page-ins may end (R145): it ends within the acceptance window. One that the failed owner had accepted is held
to its deadline (R162, R163). -/
def pageinLast (s : State) (c : HCmd) : Nat := if c.sure then s.lastBeat c else min (c.window / 10000 - 1) (s.beat + 64)

/-- A read's map lines are sought (R145): every missing leaf is drafted as a page-in that ends inside the acceptance window, with claims where
the partner masters the die (R137). -/
def resolveMap (s : State) (id : Nat) (st : Standby) : State :=
  match s.cmd? id with
  | none => s
  | some c =>
    s.underTerms c (fun s0 =>
      let p := placePageins c.tenant (.cmd id) (s0.pageinLast c) (s0.missingLeaves c) ⟨s0, s0.beat, 99⟩
      if p.2 then (p.1.st.modCmd id (fun c => { c with phase := .map })).sendClaims id
      else (s0.slackPageins c).gated id st (fun t => t.refuse id (pageinCause p.1)))

/-- A command that has passed Reed goes to drafting. -/
def toDraft (s : State) (id : Nat) (st : Standby) : State :=
  match s.cmd? id with
  | none => s
  | some c =>
    if !s.active (Reg.LOOM_PAGE s.loomActive) then s.gated id st (fun t => t.refuse id causePlacement)
    else if isWriteKind c.kind then s.gated id st (fun t => t.decideWrite id) else s.resolveMap id st

/-- A command's charges are taken, and it goes to drafting. -/
def chargeDraft (s : State) (id : Nat) (c : HCmd) (ch : List Nat) (st : Standby) : State :=
  ((s.takeCharges c.tenant ch).modCmd id (fun c => { c with
    tokens := ch.getD 0 0 + ch.getD 1 0, byteTokens := ch.getD 2 0 + ch.getD 3 0 })).toDraft id st

/-- The Reed check (R133, R147, R168): charged and passed, held, or refused with RATE; in a thermal emergency every new command is
refused (R166). -/
def reedCheck (s : State) (id : Nat) (st : Standby) : State :=
  match s.cmd? id with
  | none => s
  | some c =>
    let ch := s.chargesOf c.kind c.tenant c.bytes
    let waiting := (s.loom.queue.filterMap s.cmd?).filter (fun x => x.tenant == c.tenant
      && chargesMeet (s.chargesOf x.kind x.tenant x.bytes) ch)
    let earlier := waiting.foldl (fun a x => (List.range 4).map (fun i => a.getD i 0 + (s.chargesOf x.kind x.tenant x.bytes).getD i 0))
      [0, 0, 0, 0]
    let s1 := s.modCmd id (fun c => { c with terms := s.contract c.tenant })
    if s.suspended then s1.gated id st (fun t => t.refuse id causeThermal)
    else if !contractValid (s.contract c.tenant) then s1.gated id st (fun t => t.refuse id causeRate)
    else if waiting.isEmpty && s.chargesFit c.tenant ch then s1.chargeDraft id c ch st
    else if s.chargesBy c.tenant earlier ch (c.window - 2000) then { s1 with loom.queue := s.loom.queue ++ [id] }
    else s1.gated id st (fun t => t.refuse id causeRate)

/-- A waiting command passes Reed when its turn has come and its charges fit: no earlier command of its tenant waits for a bucket it charges.
One whose tokens have not come 2 µs before its window ends is refused (R133). -/
def reedPass (s : State) (id : Nat) (st : Standby) : State :=
  match s.cmd? id with
  | none => s
  | some c =>
    s.underTerms c (fun s0 =>
      let ch := s0.chargesOf c.kind c.tenant c.bytes
      let before := (s0.loom.queue.takeWhile (fun x => x != id)).filterMap s0.cmd?
      let s1 := { s0 with loom.queue := s0.loom.queue.filter (fun x => x != id) }
      if !s0.loom.queue.contains id || before.any (fun x => x.tenant == c.tenant && chargesMeet (s0.chargesOf x.kind x.tenant x.bytes) ch) then s0
      else if c.window < s0.now + 2000 then s1.gated id st (fun t => t.refuse id causeRate)
      else if s0.chargesFit c.tenant ch then s1.chargeDraft id c ch st
      else s0)

/-! ## Work lost in a fault (R162) -/

/-- A command whose booked work a fault has taken is drafted again against its deadline, with claims where the partner masters what it needs,
or aborted when no placement fits. A forwarded command is drafted again by its owner. -/
def redraftOne (s : State) (id : Nat) : State :=
  let u := s.release id (s.beat + 1)
  match u.cmd? id with
  | none => u
  | some c =>
    if c.fwdTo || c.phase != .run then u
    else u.underTerms c (fun t =>
      match (if isWriteKind c.kind then t.placeWrite id c false else (match t.placeRead id c c.todo with
          | .inl (v, ps) => .inl (v.modCmd id (fun x => { x with plan := ps }))
          | .inr k => .inr k)) with
      | .inl v =>
        let w := (if isWriteKind c.kind then v.modCmd id (fun x => { x with intakeEnd := v.intakeBooked id }) else v).sendClaims id
        if w.claimsOpen id then w else w.issueReads id
      | .inr _ => t.faultAbort id)

/-- Bookings that satisfy a test are lost in a fault that has been marked, and their commands are drafted again. No draft books the current
beat, so the capacity that a fault changes is first seen in the beat that starts at the next boundary (R159, log entry 120). -/
def redraft (s : State) (gone : Booking → Bool) : State :=
  let ids := (s.nv.cmds.filter (fun e => s.loom.book.any (fun b => b.who == .cmd e.1 && gone b && decide (s.beat < b.beat)))).map
    (fun e => e.1)
  ids.foldl redraftOne { s with loom.book := s.loom.book.filter (fun b => !gone b) }

end State

end Sys2Proof.Machine
end

