-- ==== Sys2Proof/Machine/Fabric.lean ====
section
/-!
DEFINITION. Sys2Proof/Machine/Fabric.lean: the front-end ports, the classification of frames, the Heddle table, and the
transports (R72 to R95).
-/

namespace Sys2Proof.Machine

/-! ## Connection entries (R84) -/

/-- The entry that four words spell; `gen` is the AZ7240's. -/
def entryOf (w0 w1 w2 w3 : Word) (gen : Nat) : ConnEntry :=
  { valid := bitsOf w0 63 1 == 1, typ := bitsOf w0 60 3, st := bitsOf w0 58 2, prot := bitsOf w0 56 2, lc := bitsOf w0 54 2,
    subsys := bitsOf w0 53 1 == 1, keySel := bitsOf w0 52 1 == 1, tenant := bitsOf w0 40 12, keySlot := bitsOf w0 26 14,
    reuse := bitsOf w0 16 10, gen := gen, addrIdx := bitsOf w1 56 8, port := bitsOf w1 50 6, remoteId := bitsOf w1 24 24,
    localId := bitsOf w1 0 24, remoteIp := w2.setWidth 128 ||| (w3.setWidth 128 <<< 64) }

/-- Word 0 of an entry. -/
def entryWord0 (e : ConnEntry) : Word :=
  BitVec.ofNat 64 (e.valid.toNat * 2 ^ 63 + e.typ * 2 ^ 60 + e.st * 2 ^ 58 + e.prot * 2 ^ 56 + e.lc * 2 ^ 54
    + e.subsys.toNat * 2 ^ 53 + e.keySel.toNat * 2 ^ 52 + e.tenant * 2 ^ 40 + e.keySlot * 2 ^ 26 + e.reuse * 2 ^ 16 + e.gen)

/-- Word 1 of an entry. -/
def entryWord1 (e : ConnEntry) : Word :=
  BitVec.ofNat 64 (e.addrIdx * 2 ^ 56 + e.port * 2 ^ 50 + e.remoteId * 2 ^ 24 + e.localId)

/-- What the `XPT` keeps of a connection that has just been created. -/
def freshRt : ConnRt :=
  { err := false, retries := 0, rnr := 0, unacked := 0, reads := 0, granted := 0, cnps := 0, ic := none, tls := false,
    ctrl := none, qid := 0, qsize := 0, joined := false }

/-- An inbound ESP sequence number under a set's anti-replay window of 1,024 packets (R80): taken when it is ahead of the window, or inside
it and not taken yet; none for a replay. -/
def windowTake (c : ConnSet) (seq : Nat) : Option ConnSet :=
  if c.rxTop < seq then some { c with rxTop := seq, rxSeen := seq :: c.rxSeen.filter (fun x => decide (seq < x + 1024)) }
  else if c.rxTop < seq + 1024 && seq != 0 && !c.rxSeen.contains seq then some { c with rxSeen := seq :: c.rxSeen }
  else none

/-- The generation after one (R87). -/
def nextGen (g : Nat) : Nat := if g = 0xFFFF then 1 else g + 1

namespace State

/-- Whether the head serves its hosts: booted, not fatal, and not in hold-up. -/
def serving (s : State) : Bool := s.chip.cond == .serving && !s.chip.holdup

/-- An entry's stored words, valid or not. -/
def entryAt (s : State) (i : Nat) : Option ConnEntry := tGet? s.fab.conns i

/-- The key-store slot of a connection's keys (R394). -/
def connSlot (e : ConnEntry) : Nat := 4096 + e.keySlot

/-- Valid connections, in all or of one `XPT`. -/
def connCount (s : State) (x : Option Nat) : Nat :=
  (s.fab.conns.filter (fun e => e.2.valid && (match x with | some k => e.2.port / 8 == k | none => true))).length

/-- Whether another connection may be set up on a port (R79). -/
def connRoom (s : State) (port : Nat) : Bool := s.connCount none < 16384 && s.connCount (some (port / 8)) < 4096

/-! ## The address table -/

/-- Whether an address entry answers: `VALID` and `ACTIVE`. -/
def addrLive (s : State) (i : Nat) : Bool := s.act (Reg.HEDDLE_ADDR_ATTR_VALID i) == 1 && s.act (Reg.HEDDLE_ADDR_ATTR_ACTIVE i) == 1

/-- The IP address of an address entry, laid out as `REMOTE_IP`. -/
def addrIp (s : State) (i : Nat) : BitVec 128 :=
  (s.reg (Reg.HEDDLE_ADDR_IP_HI i + 0x8000)).setWidth 128 ||| ((s.reg (Reg.HEDDLE_ADDR_IP_LO i + 0x8000)).setWidth 128 <<< 64)

/-- The live address entry of a destination under a VLAN (R83). -/
def addrFor (s : State) (dst : BitVec 128) (tags vlan : Nat) : Option Nat :=
  (List.range 256).find? (fun i => s.addrLive i && s.addrIp i == dst
    && s.act (Reg.HEDDLE_ADDR_ATTR_VLAN i) == (if tags = 0 then 0 else vlan))

/-- Address entries announced by this head for its partner (R93). A repeat that is pending when ADDRESS_RETURN clears `ACTIVE` still
announces every valid entry with `HOME` = 1: DESIGN CHOICE, R93 and R94 do not say which entries a repeat names then (log entry 71). -/
def announceEntries (s : State) : List Nat :=
  (List.range 256).filter (fun i => s.act (Reg.HEDDLE_ADDR_ATTR_VALID i) == 1 && s.act (Reg.HEDDLE_ADDR_ATTR_HOME i) == 1)

/-- An address announced on every port of its mask with the port's MAC address: for IPv4 a gratuitous ARP request, for IPv6 an unsolicited
Neighbor Advertisement with the Override flag (R93). -/
def announceEntry (s : State) (i : Nat) : State :=
  let mask := s.reg (Reg.HEDDLE_ADDR_PORT_MASK i + 0x8000)
  ((List.range 64).filter (fun p => mask.getLsbD p)).foldl (fun t p =>
    t.emit (.announce i p (s.act (Reg.HEDDLE_ADDR_ATTR_IPV6 i) == 1) (s.addrIp i) (Config.portMac p))) s

/-- One announcement of every such entry (R93). -/
def announceOnce (s : State) : State := s.announceEntries.foldl announceEntry s

/-! ## Classification (R83) -/

/-- A frame dropped under a cause (R90). -/
def dropFrame (s : State) (cause : Nat) : State := s.bump (Reg.HEDDLE_DROP_CNT cause) 1

/-- A frame tagged at match, with the key set that decrypts it (R82, R85). -/
def matchFrame (s : State) (i : Nat) (e : ConnEntry) (set : Option Bool := none) : State :=
  { s with fab.frames := s.fab.frames ++ [FrameTag.mk i e.gen s.fab.addrGen s.now set] }

/-- A control frame passed to the service cores, at most 10,000 a second and port (R83, order 2). The limit is counted in whole seconds
of the time base: DESIGN CHOICE, the rule names no window (log entry 73). -/
def controlFrame (s : State) (port : Nat) : State :=
  let sec := s.now / 10 ^ 9
  match s.fab.ctlSeen.find? (fun x => x.1 == port) with
  | some x =>
    if x.2.1 = sec then
      if 10000 ≤ x.2.2 then s
      else { s with fab.ctlSeen := s.fab.ctlSeen.map (fun (y : Nat × Nat × Nat) => if y.1 = port then (port, sec, y.2.2 + 1) else y) }.handOff .exception
    else { s with fab.ctlSeen := s.fab.ctlSeen.map (fun (y : Nat × Nat × Nat) => if y.1 = port then (port, sec, 1) else y) }.handOff .exception
  | none => { s with fab.ctlSeen := s.fab.ctlSeen ++ [(port, sec, 1)] }.handOff .exception

/-- A TCP SYN for a port: passed to the service cores when an address offers it, refused beyond the limits of R79, else a stray
segment (R83, order 6). -/
def synIn (s : State) (port addr lport : Nat) : State :=
  let offered := lport != 0 && (s.act (Reg.HEDDLE_ADDR_ATTR_TCP_PORT addr) == lport || s.act (Reg.HEDDLE_ADDR_ATTR_DISC_PORT addr) == lport)
  if !offered then (s.emit (.tcpRst port)).dropFrame 5
  else if s.connRoom port then s.handOff .exception
  else s.emit (.tcpRst port)

/-- The connection that a RoCEv2 packet's destination QP names, if it matches (R83, order 5). A QP that names the index of an NVMe/TCP entry
is a mismatch too: DESIGN CHOICE, the rule lists `REUSE`, the source IP and `VALID` (log entry 72). -/
def roceConn (s : State) (src : BitVec 128) (qpn : BitVec 24) : Option (Nat × ConnEntry) :=
  let i := qpn.toNat % 16384
  match s.conn? i with
  | some e => if e.reuse = qpn.toNat / 16384 ∧ e.remoteIp = src ∧ e.typ ≠ 2 ∧ ¬ s.fab.forced.contains i then some (i, e) else none
  | none => none

/-- The connection of a TCP five-tuple (R83, order 6). -/
def tcpConn (s : State) (addr : Nat) (src : BitVec 128) (rport lport : Nat) : Option (Nat × ConnEntry) :=
  s.fab.conns.find? (fun e => e.2.valid && !s.fab.forced.contains e.1 && e.2.typ == 2 && s.addrIp e.2.addrIdx == s.addrIp addr && e.2.remoteIp == src
    && e.2.remoteId % 65536 == rport && e.2.localId % 65536 == lport)

/-- A RoCEv2 packet of a connection: matched, and answered with a CNP when it is CE-marked (R73, R76). A command whose host asks for SEND with
Invalidate is noted for its completion (R76). -/
def roceMatch (s : State) (i : Nat) (e : ConnEntry) (ce : Bool) (inval : Option (BitVec 16 × BitVec 32)) (set : Option Bool) : State :=
  let s1 := match inval with
    | some x => { s.matchFrame i e set with fab.invals := tPut s.fab.invals (65536 * i + x.1.toNat) x.2.toNat }
    | none => s.matchFrame i e set
  if ce then s1.transmit i (.cnp i) else s1

/-- The commands in flight on a connection have met a host that stalls its own intake (R75, R164). -/
def hostStall (s : State) (p : Nat → Bool) : State := s.markHurt 3 (fun c => c.fwdFrom.isNone && p c.conn)

/-- The set of a slot that holds the keys of a TLS epoch: B when true (R82). -/
def epochSet (s : State) (slot epoch : Nat) : Option Bool :=
  let k := s.keySlot slot
  if (k.setA.map (fun c => !c.ipsec && c.epoch == epoch)).getD false then some false
  else if (k.setB.map (fun c => !c.ipsec && c.epoch == epoch)).getD false then some true
  else none

/-- The set of a slot that holds an SPI: B when true (R82). -/
def spiSet (s : State) (slot : Nat) (spi : BitVec 32) : Option Bool :=
  let k := s.keySlot slot
  if (k.setA.map (fun c => c.ipsec && c.rxSpi == spi)).getD false then some false
  else if (k.setB.map (fun c => c.ipsec && c.rxSpi == spi)).getD false then some true
  else none

/-- A TCP segment of a connection: matched, with the receive window it advertises (R75). A TLS record is decrypted with the set of its
epoch (R82); once a set is loaded, a record of an epoch that no set holds cannot be decrypted and is discarded: DEDUCED (log entry
136). -/
def tcpMatch (s : State) (i : Nat) (e : ConnEntry) (window epoch : Nat) (esp : Option Bool) : State :=
  let k := s.keySlot (connSlot e)
  let tls := e.prot = 2 && (k.setA.isSome || k.setB.isSome)
  let set := if tls then s.epochSet (connSlot e) epoch else esp
  if tls && set.isNone then s
  else
    let s1 := (s.matchFrame i e set).modRt i (fun r => { r with zeroWin := window == 0 })
    if window = 0 then s1.hostStall (fun c => c == i) else s1.txDrain

/-- Whether a TCP segment is of a connection that a forced teardown has deleted (R89). -/
def tcpForced (s : State) (addr : Nat) (src : BitVec 128) (rport lport : Nat) : Bool :=
  s.fab.conns.any (fun e => s.fab.forced.contains e.1 && e.2.typ == 2 && s.addrIp e.2.addrIdx == s.addrIp addr && e.2.remoteIp == src
    && e.2.remoteId % 65536 == rport && e.2.localId % 65536 == lport)

/-- Orders 5 to 7 for a packet at a live address. UD, UC and XRC packets of a connection are discarded by the `XPT` (R76). -/
def classify (s : State) (f : Frame) (addr : Nat) (src : BitVec 128) (p : Packet) : State :=
  let port := f.port.val
  match p with
  | .roce q =>
    if q.toNat = 1 then s.handOff .exception
    else match s.roceConn src q with
      | some (i, e) => s.roceMatch i e f.ce f.inval none
      | none => s.dropFrame 4
  | .roceOther q => if (s.roceConn src q).isSome then s else s.dropFrame 4
  | .tcp r l syn w =>
    match s.tcpConn addr src r.toNat l.toNat with
    | some (i, e) => s.tcpMatch i e w f.epoch none
    | none =>
      if syn then s.synIn port addr l.toNat
      else if s.tcpForced addr src r.toNat l.toNat then s.dropFrame 4
      else (s.emit (.tcpRst port)).dropFrame 5
  | .ptpUdp _ | .icmp => s.handOff .exception
  | .other => s.dropFrame 6

/-- Whether a slot holds an inbound ESP set with an SPI (R82). -/
def slotSpi (s : State) (slot : Nat) (spi : BitVec 32) : Bool :=
  let k := s.keySlot slot
  ((k.setA.map (fun c => c.ipsec && c.rxSpi == spi)).getD false) || ((k.setB.map (fun c => c.ipsec && c.rxSpi == spi)).getD false)

/-- An inbound ESP packet of a slot under its anti-replay window (R80): none when it is a replay. -/
def espTake (s : State) (slot : Nat) (spi : BitVec 32) (seq : Nat) : Option State :=
  let k := s.keySlot slot
  let mine := fun (c : ConnSet) => c.ipsec && c.rxSpi == spi
  match k.setA, k.setB with
  | some c, b =>
    if mine c then (windowTake c seq).map (fun d => s.setKeySlot slot { k with setA := some d })
    else match b with
      | some d => if mine d then (windowTake d seq).map (fun x => s.setKeySlot slot { k with setB := some x }) else some s
      | none => some s
  | none, some d => if mine d then (windowTake d seq).map (fun x => s.setKeySlot slot { k with setB := some x }) else some s
  | none, none => some s

/-- Order 4: an ESP packet's connection by SPI, its place in the anti-replay window, and its inner packet, which must match the same
connection. A replay is discarded, and a frame of a connection that a forced teardown has deleted is dropped with cause 4 (R89). -/
def classifyEsp (s0 : State) (f : Frame) (addr : Nat) (src : BitVec 128) (spi : BitVec 32) (seq : Nat) (inner : Packet) : State :=
  match s0.fab.conns.find? (fun e => (e.2.valid || s0.fab.forced.contains e.1) && e.2.prot == 1 && s0.slotSpi (connSlot e.2) spi) with
  | none => s0.dropFrame 2
  | some x =>
    if s0.fab.forced.contains x.1 then s0.dropFrame 4
    else
    match s0.espTake (connSlot x.2) spi seq with
    | none => s0
    | some s =>
      match inner with
      | .roce q =>
        match s.roceConn src q with
        | some (i, e) => if i = x.1 then s.roceMatch i e f.ce f.inval (s.spiSet (connSlot x.2) spi) else s.dropFrame 3
        | none => s.dropFrame 3
      | .tcp r l _ w =>
        match s.tcpConn addr src r.toNat l.toNat with
        | some (i, e) => if i = x.1 then s.tcpMatch i e w f.epoch (s.spiSet (connSlot x.2) spi) else s.dropFrame 3
        | none => s.dropFrame 3
      | _ => s.dropFrame 3

/-- Whether a frame uses an option that is not supported (R73). -/
def unsupportedFrame (s : State) (f : Frame) : Bool :=
  2 ≤ f.tags || f.unsupported || s.act (Reg.ETHP_MODE_MTU (f.port.val / 4)) < f.ipBytes

/-- PFC pause and its release as a priority's share of the quad's 2 MiB buffer fills and empties (R75). -/
def pfc (s0 : State) (quad prio fill : Nat) : State :=
  let k := 8 * quad + prio
  let s := { s0 with fab.fill := tPut s0.fab.fill k fill }
  if s.fab.paused.contains k then
    if fill < 50 then { s with fab.paused := s.fab.paused.filter (fun x => x != k) }.emit (.pfcPause quad prio false) else s
  else if 75 < fill && s.act (Reg.ETHP_MODE_PFC_EN quad) / 2 ^ prio % 2 == 1 then
    { s with fab.paused := s.fab.paused ++ [k] }.emit (.pfcPause quad prio true)
  else s

/-- A received PFC frame is honoured on the priorities that `PFC_EN` enables (R73, R75). -/
def pfcIn (s : State) (port : Nat) (prios : BitVec 8) (pause : Bool) : State :=
  let en := s.act (Reg.ETHP_MODE_PFC_EN (port / 4))
  let keys := ((List.range 8).filter (fun p => prios.getLsbD p && en / 2 ^ p % 2 == 1)).map (fun p => 8 * port + p)
  if pause then
    { s with fab.rxPaused := s.fab.rxPaused ++ keys.filter (fun k => !s.fab.rxPaused.contains k) }.hostStall
      (fun (c : Nat) => !keys.isEmpty && ((s.conn? c).map (fun (e : ConnEntry) => e.port == port)).getD false)
  else { s with fab.rxPaused := s.fab.rxPaused.filter (fun k => !keys.contains k) }.txDrain

/-- A time within ±8 ns of now, the error a free value (R95). -/
def ptpTime (s : State) : Nat × State := let n := s.draw; (s.now + (Config.openWord n.1).toNat % 17 - 8, n.2)

/-- A PTP message (R83, R95): event messages are time-stamped at the PCS boundary to ±8 ns, then every message but those of the peer-delay
mechanism is passed to the service cores. A Sync of the configured clock is followed by a Delay_Req, stamped as it leaves, and by work for
the servo; when the Delay_Req leaves is open: DESIGN CHOICE (log entry 137). -/
def ptpIn (s : State) (port : Nat) (m : PtpMsg) : State :=
  if m.kind = .peerDelay then s
  else
    let clock : Bool := port == s.fab.ptpPort && m.domain == s.fab.ptpDomain && m.transport == s.fab.ptpTransport && decide (m.domain ≤ 127)
    let n := s.ptpTime
    let s1 := (if m.kind = .sync || m.kind = .delayReq then n.2.emit (.ptpStamp port m n.1 clock) else s).handOff .exception
    if m.kind = .sync && clock then
      let q := { m with kind := .delayReq }
      let r := s1.ptpTime
      ((r.2.emit (.ptpDelayReq port q)).emit (.ptpStamp port q r.1 true)).handOff .clockServo
    else s1

/-- A received frame checked and classified (R73, R83). -/
def frameIn (s : State) (f : Frame) : State :=
  if s.unsupportedFrame f then s.dropFrame 0
  else
    match f.body with
    | .ptp m => s.ptpIn f.port.val { m with transport := 0 }
    | .pfc prios pause => s.pfcIn f.port.val prios pause
    | .control => s.controlFrame f.port.val
    | .other => s.dropFrame 6
    | .ip dst src p =>
      match p with
      | .ptpUdp m => s.ptpIn f.port.val m
      | .icmp => s.controlFrame f.port.val
      | _ =>
        match s.addrFor dst f.tags f.vlan.toNat with
        | none => s.dropFrame 1
        | some a => s.classify f a src p
    | .esp dst src spi seq inner =>
      match s.addrFor dst f.tags f.vlan.toNat with
      | none => s.dropFrame 1
      | some a => s.classifyEsp f a src spi seq.toNat inner

/-! ## Connection-entry updates (R87 to R89) -/

/-- `HEDDLE.UPD_STATUS.OLD_HELD` brought up to date. -/
def heldShow (s : State) : State := s.setFld Reg.HEDDLE_UPD_STATUS_OLD_HELD s.fab.old.length

/-- The words of an update in the `UPD` registers. -/
def updData (s : State) (w0 w1 w2 w3 : Word) : State :=
  (((s.setReg Reg.HEDDLE_UPD_DATA0 w0).setReg Reg.HEDDLE_UPD_DATA1 w1).setReg Reg.HEDDLE_UPD_DATA2 w2).setReg
    Reg.HEDDLE_UPD_DATA3 w3

/-- `UPD_CMD` written with an operation. -/
def updCmd (s : State) (op index : Nat) : State :=
  (s.setFld Reg.HEDDLE_UPD_CMD_OP op).setFld Reg.HEDDLE_UPD_CMD_INDEX index

/-- An update waits for its frame boundary, behind those the service cores have already to make. -/
def updWait (s : State) (i : Nat) (e : Option ConnEntry) : State :=
  { (s.setFld Reg.HEDDLE_UPD_RESULT_RESULT 0).setBit Reg.HEDDLE_UPD_RESULT_BUSY true with fab.upd := s.fab.upd ++ [(i, e)] }

/-- An update refused with a result. -/
def updRefuse (s : State) (r : Nat) : State := s.setFld Reg.HEDDLE_UPD_RESULT_RESULT r

/-- A WRITE of an entry under `GO` (R87): the result when it is refused, else it waits. A `REUSE` equal to the one deleted is
refused for an index that holds no connection, and a protected entry needs a key set in its slot. -/
def entryWrite (s : State) (i : Nat) (w0 w1 w2 w3 : Word) : State :=
  if s.bit Reg.HEDDLE_UPD_RESULT_BUSY then s
  else
    let e := entryOf w0 w1 w2 w3 0
    let s1 := (s.updData w0 w1 w2 w3).updCmd 1 i
    if e.valid && (s.conn? i).isNone && tGet? s.fab.deleted i == some e.reuse then s1.updRefuse 1
    else if e.prot != 0 && (s.keySlot (connSlot e)).setA.isNone && (s.keySlot (connSlot e)).setB.isNone then s1.updRefuse 2
    else s1.updWait i (some e)

/-- A DELETE under `GO` (R89): a connection that is not CLOSING is torn down at once. -/
def entryDelete (s : State) (i : Nat) : State :=
  if s.bit Reg.HEDDLE_UPD_RESULT_BUSY then s
  else
    let s1 := s.updCmd 2 i
    match s.conn? i with
    | none => ((s1.updRefuse 0).setFld Reg.HEDDLE_UPD_STATUS_ENT_GEN (((s.entryAt i).map (fun e => e.gen)).getD 0))
    | some e => (if e.st = 2 then s1 else { s1.teardown i with fab.forced := i :: s1.fab.forced }).updWait i none

/-- A READ under `GO` (R84). -/
def entryRead (s : State) (i : Nat) : State :=
  if s.bit Reg.HEDDLE_UPD_RESULT_BUSY then s
  else
    let s1 := (s.updCmd 3 i).updRefuse 0
    match s.entryAt i with
    | none => (s1.updData 0 0 0 0).setFld Reg.HEDDLE_UPD_STATUS_ENT_GEN 0
    | some e =>
      (s1.updData (entryWord0 e) (entryWord1 e) (e.remoteIp.setWidth 64) ((e.remoteIp >>> 64).setWidth 64)).setFld
        Reg.HEDDLE_UPD_STATUS_ENT_GEN e.gen

/-- Whether the old version of an entry must be kept: a frame tagged with it remains (R87). -/
def taggedWith (s : State) (i gen : Nat) : Bool := s.fab.frames.any (fun f => f.conn == i && f.gen == gen)

/-- The key set that a connection's entry does not name for sending is retired (R82). -/
def retireSet (s : State) (e : ConnEntry) : State :=
  let k := s.keySlot (connSlot e)
  s.setKeySlot (connSlot e) (if e.keySel then { k with setA := none } else { k with setB := none })

/-- The pending update takes effect at a frame boundary, unless the store of old versions is full or holds one of the same
entry (R87). An update that switches `KEY_SEL` leaves the old key set accepted on receive, and the next update retires it (R82). -/
def updApply (s : State) : State :=
  match s.fab.upd with
  | [] => s
  | (i, e) :: rest =>
    let old := s.entryAt i
    let gen := (old.map (fun x => x.gen)).getD 0
    let keep := (s.conn? i).isSome && s.taggedWith i gen
    if 512 ≤ s.fab.old.length || s.fab.old.any (fun x => x.1 == i) then s
    else
      let s1 := match s.conn? i with
        | some x => if keep then { s with fab.old := s.fab.old ++ [(i, x)] } else s
        | none => s
      let s2 := { s1.setBit Reg.HEDDLE_UPD_RESULT_BUSY (!rest.isEmpty) with fab.upd := rest }
      match e with
      | none =>
        let s3 := (s2.deleteEntry i)
        ({ s3.rplLost i with fab.rt := tDel s3.fab.rt i, fab.hs := s3.fab.hs.filter (fun x => x != i) }.setFld
          Reg.HEDDLE_UPD_STATUS_ENT_GEN gen).heldShow
      | some x =>
        let y := { x with gen := nextGen gen }
        let switched := (s.conn? i).isSome && y.valid && (s.conn? i).map (fun z => z.keySel) != some y.keySel
        let r := tGet s2.fab.rt i freshRt
        let s2 := if y.valid && !switched && r.oldSet then s2.retireSet y else s2
        let rt := if y.valid then tPut s2.fab.rt i { r with oldSet := switched } else s2.fab.rt
        let s3 := ({ s2 with
            fab.conns := tPut s2.fab.conns i y
            fab.forced := s2.fab.forced.filter (fun x => x != i)
            fab.rt := rt
            fab.hs := if y.st = 0 then s2.fab.hs else s2.fab.hs.filter (fun x => x != i) }.setFld
          Reg.HEDDLE_UPD_STATUS_ENT_GEN y.gen).heldShow
        if y.valid && y.typ == 3 && y.st == 1 then s3.rplUp i y else s3.rplLost i

/-- An old version is released once no frame tagged with it remains (R87). -/
def oldRelease (s : State) (i : Nat) : State :=
  { s with fab.old := s.fab.old.filter (fun x => !(x.1 == i && !s.taggedWith i x.2.gen)) }.heldShow

/-- The previous address table is released once no frame tagged with it remains (R88). -/
def addrRelease (s : State) : State :=
  if s.fab.frames.any (fun f => f.addrGen != s.fab.addrGen) then s else { s with fab.addrOld := false }

/-! ## Transports -/

/-- The oldest frame of a live connection of a type is consumed and the rest of an event's meaning follows; a connection in
error takes nothing. -/
def onConn (s : State) (i : Nat) (f : ConnEntry → ConnRt → State → State) : State :=
  if !s.serving then s
  else
    match s.takeFrame i with
    | (some e, t) =>
      match t.connRt? i with
      | some r => if r.err then t else f e r t
      | none => t
    | (none, t) => t

/-- A connection goes to the error state (R92): its commands are terminated without completions, and the host is sent a CM
DREQ. -/
def connError (s : State) (i : Nat) : State :=
  let ids := (s.nv.cmds.filter (fun e => e.2.fwdFrom.isNone && !e.2.mute && e.2.conn == i)).map (fun e => e.1)
  (ids.foldl (fun t id => t.terminate id false) (s.modRt i (fun r => { r with err := true }))).emit (.cmDreq i) |>.rplLost i |>.settle

/-- A retry of the outstanding packets, or the error state after the seventh (R76, R92). -/
def retryOr (s : State) (i : Nat) (r : ConnRt) : State :=
  if 7 ≤ r.retries then s.connError i
  else (s.modRt i (fun x => { x with retries := x.retries + 1 })).emit (.retransmit i)

/-- Write data that has arrived joins its command; at a head that forwards, it goes to the owner (R173). -/
def dataIn (s : State) (id off : Nat) (data : Bytes) : State :=
  match s.cmd? id with
  | none => s
  | some c =>
    let s1 := s.modCmd id (fun x => { x with data := x.data ++ [(off, data)] })
    if c.fwdTo then s1.sendMsg 0x0201 ([id, off] ++ data.map BitVec.toNat) else s1

/-- The `MTU` of the quad of a connection's port. -/
def quadMtu (s : State) (i : Nat) : Nat := ((s.conn? i).map (fun e => s.act (Reg.ETHP_MODE_MTU (e.port / 4)))).getD 1500

/-- The path MTU of a connection: the greatest of 1,024, 2,048 and 4,096 that is no larger than what is asked for and than the quad's `MTU`
allows (R76). -/
def pathMtu (s : State) (i asked : Nat) : Nat :=
  let mtu := s.quadMtu i
  ([4096, 2048].find? (fun m => decide (m ≤ asked) && decide (m ≤ mtu))).getD 1024

/-- A fatal transport error: a C2HTermReq is sent and the connection ends. -/
def tcpFatal (s : State) (i : Nat) : State := (s.emit (.c2hTerm i)).teardown i

end State

/-- FRAME_RECEIVE (R73, R75, R83). -/
def execFrameReceive (frame : Frame) (prio : Fin 8) (fill : Fin 101) (s : State) : Out :=
  .next (
    if s.serving && s.fab.up.contains frame.port.val then
      (s.pfc (frame.port.val / 4) prio.val fill.val).frameIn frame
    else s)

/-- FRAME_RESIDENCE_TIMEOUT (R85). -/
def execFrameResidenceTimeout (conn : Fin 16384) (s : State) : Out :=
  .next (
    if s.fab.frames.any (fun f => f.conn == conn.val) then
      { s with fab.frames := State.dropFirst (fun (x : FrameTag) => x.conn == conn.val) s.fab.frames }.dropFrame 7
    else s)

/-- CONN_ENTRY_WRITE (R87). -/
def execConnEntryWrite (index : Fin 16384) (w0 w1 w2 w3 : Word) (s : State) : Out :=
  .next (if s.chip.cond == .reset then s else s.entryWrite index.val w0 w1 w2 w3)

/-- CONN_ENTRY_DELETE (R89). -/
def execConnEntryDelete (index : Fin 16384) (s : State) : Out :=
  .next (if s.chip.cond == .reset then s else s.entryDelete index.val)

/-- CONN_ENTRY_READ (R84). -/
def execConnEntryRead (index : Fin 16384) (s : State) : Out :=
  .next (if s.chip.cond == .reset then s else s.entryRead index.val)

/-- CONN_ENTRY_UPDATE_APPLY (R87). -/
def execConnEntryUpdateApply (s : State) : Out := .next s.updApply

/-- OLD_VERSION_RELEASE (R87). -/
def execOldVersionRelease (index : Fin 16384) (s : State) : Out := .next (s.oldRelease index.val)

/-- ADDRESS_VERSION_RELEASE (R88). -/
def execAddressVersionRelease (s : State) : Out := .next s.addrRelease

/-- INTAKE_TERMINATION (R91): only a write whose data is not complete is terminated. -/
def execIntakeTermination (cmd : CmdFrom) (s : State) : Out :=
  .next (
    match s.cmdAt cmd.conn.val cmd.cid.toNat with
    | some (id, c) => if c.kind = .write && c.phase = .run && State.arrivedBytes c < c.bytes && c.intakeEnd + classAllowance c.cls ≤ s.now then s.terminate id true else s
    | none => s)

/-- RDMA_READ_RESPONSE (R76, R91): data of a command that is gone is consumed and discarded. -/
def execRdmaReadResponse (cmd : CmdFrom) (off : Nat) (data : Bytes) (last : Bool) (s : State) : Out :=
  .next (s.onConn cmd.conn.val (fun _ r t =>
    if r.reads = 0 then t
    else
      let t1 := match t.cmdAt cmd.conn.val cmd.cid.toNat with
        | some (id, c) => if c.phase = .run && c.pulled then t.dataIn id off data else t
        | none => t
      if last then (t1.modRt cmd.conn.val (fun x => { x with reads := x.reads - 1 })).pullNext cmd.conn.val else t1))

/-- ROCE_ACK (R76, R92). -/
def execRoceAck (conn : Fin 16384) (reply : RoceAck) (count rtt : Nat) (s : State) : Out :=
  .next (s.onConn conn.val (fun _ r t =>
    match reply with
    | .ack => ((t.modRt conn.val (fun x => { x with unacked := x.unacked - count, retries := 0, rnr := 0 })).rttSet conn.val rtt).settle
    | .nakSequence => t.retryOr conn.val r
    | .rnrNak =>
      let t := if (tGet? t.repl.conns conn.val).isSome then t.bump (Reg.REPL_CNT 9) 1 else t
      if 7 ≤ r.rnr then t.connError conn.val
      else (t.modRt conn.val (fun x => { x with rnr := x.rnr + 1 })).emit (.retransmit conn.val)
    | .nakFatal => t.connError conn.val))

/-- CNP_RECEIVE (R76): the reaction point lowers the connection's rate; which rate it sets is a free value. -/
def execCnpReceive (conn : Fin 16384) (s : State) : Out :=
  .next (s.onConn conn.val (fun _ _ t => t.draw.2.modRt conn.val (fun x => { x with
    cnps := x.cnps + 1, rate := some (Config.openWord t.freeCtr) })))

/-- REMOTE_ACCESS_REQUEST (R76). -/
def execRemoteAccessRequest (conn : Fin 16384) (s : State) : Out :=
  .next (s.onConn conn.val (fun _ _ t => t.emit (.nakRemoteAccess conn.val)))

/-- ROCE_CONN_MANAGEMENT (R76, R79, R83): requests beyond the limits, and those on a quad whose `MTU` allows no path MTU, are refused with a
CM REJ. -/
def execRoceConnManagement (msg : CmMsg) (s : State) : Out :=
  .next (
    if !s.serving then s
    else
      match msg with
      | .request p => if s.connRoom p.val && 1024 ≤ s.act (Reg.ETHP_MODE_MTU (p.val / 4)) then s.handOff .exception else s.emit (.cmRej p.val)
      | .established c g p =>
        (s.modRt c.val (fun x => { x with granted := min 16 g, pmtu := s.pathMtu c.val p })).handOff .exception
      | .disconnect _ => s.handOff .exception)

/-- TCP_SYN (R79, R83). -/
def execTcpSyn (port : Fin 64) (addr : Fin 256) (localPort : BitVec 16) (s : State) : Out :=
  .next (
    if !s.serving then s
    else if s.addrLive addr.val then s.synIn port.val addr.val localPort.toNat
    else s.dropFrame 1)

/-- ICREQ (R78): another PDU format version, or an HPDA beyond 31, ends the connection. -/
def execIcreq (conn : Fin 16384) (req : IcReq) (s : State) : Out :=
  .next (s.onConn conn.val (fun e _ t =>
    if e.typ != 2 then t
    else if req.pfv != 0 || 31 < req.hpda.toNat then t.tcpFatal conn.val
    else (t.modRt conn.val (fun x => { x with ic := some req })).sendOn conn.val (.icResp conn.val 0 req.hpda.toNat req.hdgst req.ddgst 131072)))

/-- H2C_DATA (R91): a tag that its command has left, or whose generation is one behind, is discarded; any other unknown tag ends
the connection. -/
def execH2cData (conn : Fin 16384) (ttag : BitVec 16) (off : Nat) (data : Bytes) (s : State) : Out :=
  .next (s.onConn conn.val (fun e _ t =>
    if e.typ != 2 then t
    else
      let g := ttag.toNat / 4096
      match tGet? t.fab.ttags (4096 * conn.val + ttag.toNat % 4096) with
      | none => t.tcpFatal conn.val
      | some (gen, id) =>
        if g = gen then match id with | some k => t.dataIn k off data | none => t
        else if (g + 1) % 16 = gen then t
        else t.tcpFatal conn.val))

/-- H2C_TERM_REQ (R78). -/
def execH2cTermReq (conn : Fin 16384) (s : State) : Out :=
  .next (s.onConn conn.val (fun e _ t => if e.typ != 2 then t else t.teardown conn.val))

/-- ACK_TIMEOUT (R76, R92). -/
def execAckTimeout (conn : Fin 16384) (s : State) : Out :=
  .next (
    match s.conn? conn.val, s.connRt? conn.val with
    | some e, some r => if s.serving && e.typ != 2 && !r.err then s.retryOr conn.val r else s
    | _, _ => s)

/-- TLS alert descriptions of RFC 8446: protocol_version, which R81 names, and handshake_failure for the refusals it leaves open. -/
def protocolVersionAlert : Nat := 70
def handshakeAlert : Nat := 40

/-- TLS_CLIENT_HELLO (R81, R403): a handshake of TLS 1.3 with a known PSK starts on the service cores; anything else is refused
with an alert. Early data is not accepted. At most 512 handshakes run at once. -/
def execTlsClientHello (conn : Fin 16384) (hello : Hello) (s : State) : Out :=
  .next (s.onConn conn.val (fun e _ t =>
    if e.typ != 2 then t
    else if !hello.tls13 then t.emit (.tlsAlert conn.val protocolVersionAlert)
    else if !(hello.suite128 || hello.suite256) || !(hello.pskKe || hello.dheGroup) then t.emit (.tlsAlert conn.val handshakeAlert)
    else
      match hello.psk with
      | none => t.emit (.tlsAlert conn.val handshakeAlert)
      | some x =>
        let k := ((t.nv.psks.find? (fun y => y.1 == x)).map (fun y => y.2)).getD 0
        if slotType k != .psk || !slotFull (t.keySlot k) then t.emit (.tlsAlert conn.val handshakeAlert)
        else if 512 ≤ t.fab.hs.length && !t.fab.hs.contains conn.val then t
        else
          ({ t with fab.hs := if t.fab.hs.contains conn.val then t.fab.hs else t.fab.hs ++ [conn.val] }.modRt conn.val
            (fun x => { x with tls := true })).handOff .tlsHandshake |>.sendOn conn.val (.tlsServerHello conn.val)))

/-- A key set expanded from the next traffic secrets (R403). -/
def nextTlsSet (tx rx : Bytes) : ConnSet :=
  let n := if tx.length = 48 then 32 else 16
  let k := fun (x : Bytes) => Config.hkdfExpandLabel x (asciiBytes [0x6B, 0x65, 0x79]) []
  let v := fun (x : Bytes) => Config.hkdfExpandLabel x (asciiBytes [0x69, 0x76]) []
  { ipsec := false, key256 := n == 32, txKey := (k tx).take n, txSalt := (v tx).take 12, txSpi := 0, rxKey := (k rx).take n,
    rxSalt := (v rx).take 12, rxSpi := 0, sent := 0 }

/-- KEY_UPDATE (R81, R82): the unused set is loaded, then an entry update switches to it. -/
def execKeyUpdate (conn : Fin 16384) (txSecret rxSecret : BitVec 15) (s : State) : Out :=
  .next (s.onConn conn.val (fun e _ t =>
    if e.typ != 2 || e.prot != 2 then t
    else
      match t.scheduleIn txSecret.toNat with
      | (none, u) => u
      | (some a, u) =>
        match u.scheduleIn rxSecret.toNat with
        | (none, v) => v
        | (some b, v) =>
          let k := v.keySlot (State.connSlot e)
          let held := if e.keySel then k.setB else k.setA
          let n := { nextTlsSet a b with epoch := (held.map (fun c => c.epoch)).getD 0 + 1 }
          let s1 := v.setKeySlot (State.connSlot e) (if e.keySel then { k with setA := some n } else { k with setB := some n })
          s1.updWait conn.val (some { e with keySel := !e.keySel })))

/-- ANNOUNCE_REPEAT (R93). -/
def execAnnounceRepeat (s : State) : Out :=
  .next (if s.fab.announce = 0 || !s.serving then s else { s with fab.announce := s.fab.announce - 1 }.announceOnce)

/-- PTP_ANNOUNCE_TIMEOUT (R95): a head whose source is PTP goes to HOLDOVER. -/
def execPtpAnnounceTimeout (s : State) : Out :=
  .next (if s.ptpSource && s.fld Reg.TIME_STATUS_STATE == 3 then s.setFld Reg.TIME_STATUS_STATE 4 else s)

/-- ETHP_LINK_UP (R72, R73): a port of an ACTIVE quad in a good mode. -/
def execEthpLinkUp (port : Fin 64) (s : State) : Out :=
  let q := port.val / 4
  let quads := if s.act (Reg.ETHP_MODE_MODE q) = 3 then [q, q + 1] else [q]
  .next (
    if s.serving && s.portLanes port.val != 0 && quads.all (fun x => s.active (Reg.ETHP_PAGE x)) && !s.fab.up.contains port.val then
      { s with fab.up := s.fab.up ++ [port.val] }
    else s)

/-- TCP_RETRANSMIT_TIMEOUT (R78). -/
def execTcpRetransmitTimeout (conn : Fin 16384) (s : State) : Out :=
  .next (
    match s.conn? conn.val, s.connRt? conn.val with
    | some e, some r => if s.serving && e.typ == 2 && r.unacked != 0 then s.emit (.retransmit conn.val) else s
    | _, _ => s)

end Sys2Proof.Machine
end

