-- ==== Sys2Proof/Machine/Nvme.lean ====
section
/-!
DEFINITION. Sys2Proof/Machine/Nvme.lean: controllers, admin and fabrics commands, the checks that precede admission, I/O
commands on their way to the Loom, and reservations (R96 to R124).
-/

namespace Sys2Proof.Machine

namespace State

/-! ## Who answers -/

/-- A completion to whom it is due. -/
def reply (s : State) (o : Origin) (sct sc : Nat) (res : Nat) : State :=
  match o with
  | .host conn cid => s.nvmeOut conn cid sct sc false 0 res
  | .fwd tag => s.sendMsg 0x0202 [tag, sct, sc, 0]

/-- A reservation command as the numbers of a forwarded command. -/
def resvBody (c : ResvCmd) : List Nat :=
  match c with
  | .register a i p c n => [0, match a with | .register => 0 | .unregister => 1 | .replace => 2, i.toNat,
      match p with | none => 0 | some false => 2 | some true => 3, c.toNat, n.toNat]
  | .acquire a i t c p => [1, match a with | .acquire => 0 | .preempt => 1 | .preemptAbort => 2, i.toNat, t.toNat, c.toNat, p.toNat]
  | .release cl i t c => [2, cl.toNat, i.toNat, t.toNat, c.toNat]
  | .persist p => [3, p.toNat]

/-- The numbers of a forwarded command that is neither a read nor a write: its opcode first. -/
def otherBody (b : FwdBody) : List Nat :=
  match b with
  | .resv vol h c => [0x0D, vol, h.toNat] ++ resvBody c
  | .format vol lbaf => [0x80, vol, lbaf]
  | .sanitize action => [0x84, action]
  | .io op _ _ _ _ _ _ _ => [op]

/-- A command that is not a read or write goes to the other head (R355): its numbers follow its tag. -/
def forwardOther (s : State) (conn cid tenant : Nat) (b : FwdBody) : State :=
  let tag := s.nv.next
  let s1 := { s with nv.next := tag + 1, nv.fwdOther := s.nv.fwdOther ++ [FwdOther.mk tag conn cid tenant b] }
  (s1.bump (Reg.OWN_CNT 8) 1).sendMsg 0x0200 ([tag, conn, tenant] ++ otherBody b)

/-! ## Controllers (R97) -/

/-- The key of a controller. -/
def ctrlKey (tenant cntlid : Nat) : Nat := 65536 * tenant + cntlid

/-- A controller changed. -/
def modCtrl (s : State) (k : Nat) (f : Ctrl → Ctrl) : State := { s with nv.ctrls := tMod s.nv.ctrls k f }

/-- Controllers of a tenant at this head. -/
def ctrlsOf (s : State) (t : Nat) : List (Nat × Ctrl) := s.nv.ctrls.filter (fun e => e.2.tenant == t)

/-- A controller id for a tenant: the lowest that is not in use and was not deleted in the last 10 s. -/
def newCntlid (s : State) (t : Nat) : Option Nat :=
  let base := 16384 * (s.headIndex % 2)
  let used := (s.ctrlsOf t).map (fun e => e.2.cntlid % 16384)
    ++ (s.nv.gone.filter (fun e => e.1 / 65536 == t && decide (s.now < e.2 + 10 ^ 10))).map (fun e => e.1 % 16384)
  let n := firstFree used 16384 1
  if n ≤ 0x3FEF then some (base + n) else none

/-- A forced teardown of a connection (R89, R100): it stops at once and its entry is deleted at the next frame boundary. -/
def forceTeardown (s : State) (i : Nat) : State :=
  match s.conn? i with
  | none => s.teardown i
  | some _ => { s.teardown i with fab.forced := i :: s.fab.forced }.updWait i none

/-- A controller is deleted: its admin connection and queues end with it, as forced teardowns (R100). -/
def deleteCtrl (s : State) (k : Nat) : State :=
  match tGet? s.nv.ctrls k with
  | none => s
  | some c =>
    let conns := c.adminConn :: c.queues.map (fun q => q.2)
    let s1 := conns.foldl forceTeardown s
    { s1 with nv.ctrls := tDel s1.nv.ctrls k, nv.gone := tPut s1.nv.gone k s1.now }

/-! ## Asynchronous events -/

/-- An asynchronous event for a controller: it completes the oldest outstanding request, or waits for one. -/
def postAer (s : State) (k typ info page : Nat) : State :=
  match tGet? s.nv.ctrls k with
  | none => s
  | some c =>
    match c.aers with
    | cid :: rest => (s.modCtrl k (fun x => { x with aers := rest })).nvmeOut c.adminConn cid 0 0 false 0 (typ + 256 * info + 65536 * page)
    | [] => if c.events.contains (typ, info, page) then s else s.modCtrl k (fun x => { x with events := x.events ++ [(typ, info, page)] })

/-- A namespace of a tenant has been added or removed: every controller's log, and its event where enabled (R99). -/
def nsChanged (s : State) (tenant nsid : Nat) : State :=
  (s.ctrlsOf tenant).foldl (fun t e =>
    let u := t.modCtrl e.1 (fun c => { c with changed := if c.changed.contains nsid then c.changed else c.changed ++ [nsid] })
    if bitsOf (e.2.aec.setWidth 64) 8 1 = 1 then u.postAer e.1 2 0 4 else u) s

/-- The reported state of a group has changed: every controller of an affected subsystem that has enabled the event hears of it
(R116). -/
def anaChanged (s : State) (group : Nat) : State :=
  let tenants := ((s.nv.volumes.filter (fun v => v.2.group == group)).map (fun v => v.2.tenant)).dedup
  (s.nv.ctrls.filter (fun e => tenants.contains e.2.tenant && bitsOf (e.2.aec.setWidth 64) 11 1 == 1)).foldl
    (fun t e => t.postAer e.1 2 3 0x0C) s

/-- The event of R116 where the state that a group is reported in differs from an earlier one. -/
def anaMoved (s : State) (before : State) (group : Nat) : State :=
  if before.groupState group = s.groupState group then s else s.anaChanged group

/-- A Sanitize has ended: every controller of the subsystem hears of it. R117 lists the event under feature 0x0B and names no bit that
enables it, so no bit holds it back: DESIGN CHOICE (log entry 81). -/
def sanitizeDone (s : State) (tenant : Nat) : State := (s.ctrlsOf tenant).foldl (fun t e => t.postAer e.1 6 1 0x81) s

/-! ## Capsules -/

/-- A capsule of a connection: its frame is consumed; a connection in error, or one that is not there, takes nothing. The
meaning gets the entry version that the frame matched (R86). In `STATE` 0 SETUP only Connect capsules are passed (R84). -/
def capsule (s : State) (cmd : CmdFrom) (f : ConnEntry → ConnRt → State → State) : State :=
  s.onConn cmd.conn.val (fun e r t => if e.st = 0 then t else f e r t)

/-- An admin command: on the admin queue of a controller, else its opcode is not one of the queue's. -/
def adminCmd (s : State) (cmd : CmdFrom) (f : ConnEntry → Nat → Ctrl → State → State) : State :=
  s.capsule cmd (fun e r t =>
    match t.ctrlAt cmd.conn.val with
    | some k => if r.qid = 0 then f e k.1 k.2 t else t.nvmeOut cmd.conn.val cmd.cid.toNat 0 0x01 false 0 0
    | none => t)

/-- A success or error completion of a command on its own connection. -/
def done (s : State) (cmd : CmdFrom) (sct sc res : Nat) : State := s.nvmeOut cmd.conn.val cmd.cid.toNat sct sc false 0 res

/-- The namespaces of a tenant: its volumes with an id, but for replica volumes, which are attached to no controller (R99, R380). -/
def namespaces (s : State) (tenant : Nat) : List (Nat × Volume) :=
  s.nv.volumes.filter (fun v => v.2.tenant == tenant && v.2.nsid != 0 && !s.repl.rels.any (fun e => !e.2.source && e.2.volume == v.1))

/-- The volume behind a namespace id of a tenant. -/
def nsOf (s : State) (tenant nsid : Nat) : Option (Nat × Volume) := (s.namespaces tenant).find? (fun v => v.2.nsid == nsid)

/-- A tenant. -/
def tenant? (s : State) (t : Nat) : Option Tenant := tGet? s.nv.tenants t

/-- A tenant changed. -/
def modTenant (s : State) (t : Nat) (f : Tenant → Tenant) : State := { s with nv.tenants := tMod s.nv.tenants t f }

/-! ## Connect (R96 to R98) -/

/-- The well-known discovery NQN. -/
def discoveryNqn : Bytes :=
  asciiBytes [0x6E, 0x71, 0x6E, 0x2E, 0x32, 0x30, 0x31, 0x34, 0x2D, 0x30, 0x38, 0x2E, 0x6F, 0x72, 0x67, 0x2E, 0x6E, 0x76, 0x6D, 0x65,
    0x78, 0x70, 0x72, 0x65, 0x73, 0x73, 0x2E, 0x64, 0x69, 0x73, 0x63, 0x6F, 0x76, 0x65, 0x72, 0x79]

/-- A keep-alive timeout in 100 ms steps: 0, or 1 s to 3,600 s. -/
def katoOk (ms : Nat) : Bool := ms == 0 || (1000 ≤ ms && ms ≤ 3600000)

/-- A keep-alive timeout rounded up to its granularity. -/
def katoRound (ms : Nat) : Nat := 100 * ceilDiv ms 100

/-- The class a tenant's contract gives a host; none for a host it does not allow. -/
def hostClass (s : State) (e : ConnEntry) (nqn : Bytes) : Option Nat :=
  if e.subsys then some e.lc
  else match s.tenant? e.tenant with
    | some t => (t.hosts.find? (fun h => h.1 == nqn)).map (fun h => h.2)
    | none => none

/-- A Connect refused for its parameters. -/
def connectBad (s : State) (cmd : CmdFrom) : State := s.done cmd 1 0x82 0

/-- The connection joins a controller: its entry takes the class and the CONNECTED state by an entry update. -/
def joinQueue (s : State) (i : Nat) (e : ConnEntry) (k qid qsize cls : Nat) : State :=
  (s.modRt i (fun r => { r with ctrl := some k, qid := qid, qsize := qsize, joined := true })).updWait i
    (some { e with lc := cls, st := 1 })

/-- A Connect on a connection that has not joined a queue. -/
def connect (s : State) (cmd : CmdFrom) (e : ConnEntry) (d : ConnectData) : State :=
  let i := cmd.conn.val
  let nqn := if e.subsys then discoveryNqn else ((s.tenant? e.tenant).map (fun t => t.nqn)).getD []
  if d.subNqn != nqn || nqn.isEmpty then s.connectBad cmd
  else
    match s.hostClass e d.hostNqn with
    | none => s.done cmd 1 0x84 0
    | some cls =>
      if d.hostId = 0 then s.done cmd 1 0x84 0
      else if d.qid = 0 then
        if 1024 ≤ (s.ctrlsOf e.tenant).length || 32 < d.sqsize || !katoOk d.kato.toNat then s.connectBad cmd
        else
          match s.newCntlid e.tenant with
          | none => s.connectBad cmd
          | some n =>
            let c : Ctrl := {
              tenant := e.tenant, cntlid := n, discovery := e.subsys, hostNqn := d.hostNqn, hostId := d.hostId,
              cls := cls, adminConn := i, queues := [], cc := 0, csts := 0, kato := katoRound d.kato.toNat, acre := false, aec := 0,
              arb := 0, tempTh := 0, tempLow := 0, warned := false, resMask := [], aers := [], events := [], changed := [], resLog := [], errors := [] }
            let s1 := { s with nv.ctrls := tPut s.nv.ctrls (ctrlKey e.tenant n) c }
            (s1.joinQueue i e (ctrlKey e.tenant n) 0 d.sqsize cls).done cmd 0 0 n
      else
        match tGet? s.nv.ctrls (ctrlKey e.tenant d.cntlid.toNat) with
        | none => s.connectBad cmd
        | some c =>
          if c.hostNqn != d.hostNqn || c.hostId != d.hostId || 64 ≤ c.queues.length || c.queues.any (fun q => q.1 == d.qid.toNat)
              || 1024 < d.sqsize || c.discovery then s.connectBad cmd
          else
            let s1 := s.modCtrl (ctrlKey e.tenant d.cntlid.toNat) (fun x => { x with queues := x.queues ++ [(d.qid.toNat, i)] })
            (s1.joinQueue i e (ctrlKey e.tenant d.cntlid.toNat) d.qid.toNat d.sqsize c.cls).done cmd 0 0 c.cntlid

/-! ## Log pages and Identify (R118, R119) -/

/-- Bytes as numbers. -/
def nums (b : Bytes) : List Nat := b.map BitVec.toNat

/-- The hottest of the 64 sensors, K: a sensor's value is signed Q8.8 °C (R118, R431). -/
def composite (s : State) : Int := (List.range 64).foldl (fun m n => max m (s.temp n)) (-32768) / 256 + 273

/-- Whether a controller's SMART temperature warning holds at a temperature in K: at or above the over temperature threshold, or at or
below the under temperature threshold; a threshold of 0 warns of nothing (R117). -/
def tempWarn (c : Ctrl) (k : Int) : Bool :=
  let high := c.tempTh.toNat % 65536
  let low := c.tempLow.toNat % 65536
  (high != 0 && decide ((high : Int) ≤ k)) || (low != 0 && decide (k ≤ (low : Int)))

/-- The temperature events of a sample (R117, R118): a controller that has enabled temperature warnings gets one event, and another
only after its SMART page has been read or the warning has ended. -/
def tempEvents (s : State) : State :=
  s.nv.ctrls.foldl (fun t e =>
    let warn := tempWarn e.2 s.composite
    let t1 := if warn && !e.2.warned && bitsOf (e.2.aec.setWidth 64) 1 1 == 1 then t.postAer e.1 1 1 2 else t
    t1.modCtrl e.1 (fun c => { c with warned := warn && (c.warned || bitsOf (c.aec.setWidth 64) 1 1 == 1) })) s

/-- The highest module wear. -/
def wearMax (s : State) : Nat := s.modulesIn.foldl (fun n k => max n (s.module k).wear) 0

/-- A log page's content; none for a page that is not supported. Page 0x0C shows for a group the state of its first namespace, though a
pinned one may be loading while another is ready: DESIGN CHOICE, R115 gives a group one state (log entry 74). -/
def logPage (s : State) (k : Nat) (c : Ctrl) (lid : Nat) : Option (List Nat × State) :=
  let t := c.tenant
  match lid with
  | 0x01 => some (c.errors, s)
  | 0x02 => some ([2 * (tempWarn c s.composite).toNat, s.composite.toNat, s.wearMax, s.tcnt t 3 / 512000, s.tcnt t 4 / 512000, s.tcnt t 0,
      s.tcnt t 1], s.modCtrl k (fun x => { x with warned := false }))
  | 0x03 => some ([1, s.svc.rev], s)
  | 0x04 => some (c.changed, s.modCtrl k (fun x => { x with changed := [] }))
  | 0x05 => some ([0x02, 0x06, 0x08, 0x09, 0x0A, 0x0C, 0x18, 0x80, 0x84, 0x00, 0x01, 0x02, 0x05, 0x08, 0x09, 0x0D, 0x0E, 0x11, 0x15, 0x19], s)
  | 0x0C =>
    let vols := s.namespaces t
    some (((vols.map (fun v => v.2.group)).dedup).flatMap (fun g =>
      let vs := vols.filter (fun v => v.2.group == g)
      [g + 1, match vs.head? with | some v => s.anaState v.2 | none => 2, vs.length] ++ vs.map (fun v => v.2.nsid)), s)
  | 0x70 =>
    if c.discovery then
      some ((s.nv.tenants.filter (fun x => x.2.hosts.any (fun h => h.1 == c.hostNqn))).flatMap (fun x =>
        ((List.range 256).filter (fun i => s.act (Reg.HEDDLE_ADDR_ATTR_VALID i) == 1)).flatMap (fun i =>
          [x.1, i, s.act (Reg.HEDDLE_ADDR_ATTR_TCP_PORT i), s.act (Reg.HEDDLE_ADDR_ATTR_ROCE i)] ++ nums x.2.nqn)), s)
    else none
  | 0x80 =>
    match c.resLog with
    | [] => some ([0, 0, 0], s)
    | x :: rest => some ([x.2, x.1, rest.length], s.modCtrl k (fun y => { y with resLog := rest }))
  | 0x81 =>
    match s.tenant? t with
    | some x => some ([x.san.prog, x.san.stat, x.san.erased.toNat], s)
    | none => some ([0, 0, 0], s)
  | _ => none

/-- Blocks of a volume mapped and not deallocated (`NUSE`, R119). -/
def nuse (s : State) (v : Volume) : Nat := (s.treeGrains v.root).length * (if v.lbaf = 2 then 8 else 1)

/-- `SGLS`: SGLs and offset SGLs for in-capsule data, with keyed data blocks on RoCEv2 and transport data blocks on TCP (R119), in the bits
that the NVMe Base Specification gives them. -/
def sgls (s : State) (c : Ctrl) : Nat :=
  match s.conn? c.adminConn with
  | some e => if e.typ = 2 then 0x00300001 else 0x00100005
  | none => 0

/-- Identify Controller, in the order of R119, then `CNTRLTYPE`, `AERL`, `FUSES`, `ANATT`, `ANAGRPMAX` and `NANAGRPID` (R97, R102, R115).
`ANACAP` shows Optimized, Non-Optimized, Inaccessible, and a group id that does not change while attached. -/
def identifyCtrl (s : State) (c : Ctrl) : List Nat :=
  match s.tenant? c.tenant with
  | none => [0x00020000, c.cntlid]
  | some t =>
    [0x00020000, c.cntlid, 9, t.crdt1, t.crdt2, t.crdt3, 0x0002, 0x012D, 3, 0, 0x47, 1024, 1024, 1, 516, 1, s.sgls c, s.svc.rev,
      1, 7, 0, 1, 256, 256]
      ++ nums t.sn ++ nums t.mn ++ nums t.nqn

/-- The three LBA formats as Identify Namespace lists them (R113): the data size as a power of two, and the metadata size. -/
def lbaFormats : List Nat := [12, 0, 12, 16, 9, 0]

/-- The protection information formats of the three LBA formats (R113): `PIF` and `STS` of each. -/
def piFormats : List Nat := [0, 0, 2, 0, 0, 0]

/-- Identify Namespace, in the order of R119, then the LBA formats. While a format runs `FPI` reports the percentage that remains (R124), a
free value of at most 100. -/
def identifyNs (s : State) (v : Volume) : List Nat :=
  let fpi := if v.formatting.isSome then 128 + (Config.formatLeft s.now v.nsid).toNat % 101 else 128
  [v.blocks, v.blocks, s.nuse v, 0x03, 2, v.lbaf, 0x09, 0x01, 0xFF, if v.lbaf = 2 then 32768 else 4096,
    if v.lbaf = 2 then 32768 else 4096, 0, fpi, if v.lbaf = 2 then 7 else 0, if v.lbaf = 2 then 1023 else 127, if v.lbaf = 2 then 7 else 0,
    if v.lbaf = 2 then 1023 else 127, 0, if v.lbaf = 2 then 1024 else 128, 0x01, 0x11, if v.lbaf = 1 then 1 else 0, v.group + 1,
    v.nguid.toNat, v.eui64.toNat] ++ lbaFormats

/-- Identify's content for a CNS; none when the CNS, or the namespace it names, is not one of the supported. -/
def identifyOf (s : State) (c : Ctrl) (cns nsid : Nat) : (List Nat) ⊕ (Nat × Nat) :=
  let vols := s.namespaces c.tenant
  match cns with
  | 0x00 => match s.nsOf c.tenant nsid with | some v => .inl (s.identifyNs v.2) | none => .inr (0, 0x0B)
  | 0x01 => .inl (s.identifyCtrl c)
  | 0x02 => .inl (((List.range 1025).filter (fun n => decide (nsid < n) && vols.any (fun v => v.2.nsid == n))))
  | 0x03 => match s.nsOf c.tenant nsid with | some v => .inl [v.2.nguid.toNat, v.2.eui64.toNat] | none => .inr (0, 0x0B)
  | 0x05 => match s.nsOf c.tenant nsid with | some _ => .inl piFormats | none => .inr (0, 0x0B)
  | 0x06 => .inl [0]
  | 0x08 => match s.nsOf c.tenant nsid with | some v => .inl [v.2.blocks, s.nuse v.2, v.2.group + 1] | none => .inr (0, 0x0B)
  | _ => .inr (0, 0x02)

/-! ## Reservations (R112) -/

/-- The registrant's key. -/
def resKey (r : Resv) (h : BitVec 128) : Option Word := (r.regs.find? (fun x => x.1 == h)).map (fun x => x.2)

/-- Whether every registrant holds the reservation (types 5 and 6). -/
def allRegs (r : Resv) : Bool := r.rtype == 5 || r.rtype == 6

/-- Whether a host holds the reservation. -/
def isHolder (r : Resv) (h : BitVec 128) : Bool :=
  if r.rtype = 0 then false else if allRegs r then (resKey r h).isSome else r.holder == some h

/-- Whether a reservation keeps a host from a command: writes under every type, reads under the exclusive-access types. -/
def resConflict (r : Resv) (h : BitVec 128) (write : Bool) : Bool :=
  let member := (resKey r h).isSome
  match r.rtype with
  | 0 => false
  | 1 => write && !isHolder r h
  | 2 => !isHolder r h
  | 3 | 5 => write && !member
  | _ => !member

/-- The reservation with nobody holding it. -/
def freeResv (r : Resv) : Resv := { r with holder := none, rtype := 0 }

/-- The result of one reservation command: the status, the new state, and the hosts to be told with the kind of notification
(1 registration preempted, 2 reservation released, 3 reservation preempted). -/
def resRun (r : Resv) (h : BitVec 128) (c : ResvCmd) : (Nat × Nat) × Resv × List (BitVec 128 × Nat) :=
  let conflict := ((0, 0x83), r, [])
  let others := fun (k : Nat) => ((r.regs.filter (fun x => x.1 != h)).map (fun x => (x.1, k)))
  let pt := fun (p : Option Bool) (x : Resv) => match p with | some b => { x with ptpl := b } | none => x
  match c with
  | .persist b => ((0, 0), { r with ptpl := b }, [])
  | .register act iekey ptpl crkey nrkey =>
    match act with
    | .register =>
      match resKey r h with
      | some k => if k = nrkey then ((0, 0), pt ptpl r, []) else conflict
      | none =>
        if 128 ≤ r.regs.length then ((0, 0x02), r, [])
        else ((0, 0), pt ptpl { r with regs := r.regs ++ [(h, nrkey)], gen := r.gen + 1 }, [])
    | .replace =>
      match resKey r h with
      | none => conflict
      | some k =>
        if !iekey && k != crkey then conflict
        else ((0, 0), pt ptpl { r with regs := r.regs.map (fun x => if x.1 = h then (h, nrkey) else x), gen := r.gen + 1 }, [])
    | .unregister =>
      match resKey r h with
      | none => conflict
      | some k =>
        if !iekey && k != crkey then conflict
        else
          let r1 := { r with regs := r.regs.filter (fun x => x.1 != h), gen := r.gen + 1 }
          let lose := if allRegs r then r1.regs.isEmpty else isHolder r h
          if lose then
            ((0, 0), pt ptpl (freeResv r1), if r.rtype = 3 || r.rtype = 4 then others 2 else [])
          else ((0, 0), pt ptpl r1, [])
  | .acquire act iekey rtype crkey prkey =>
    match resKey r h with
    | none => conflict
    | some k =>
      if !iekey && k != crkey then conflict
      else if rtype = 0 || 6 < rtype.toNat then ((0, 0x02), r, [])
      else
        match act with
        | .acquire =>
          if r.rtype = 0 then ((0, 0), { r with holder := some h, rtype := rtype.toNat }, [])
          else if isHolder r h && r.rtype = rtype.toNat then ((0, 0), r, [])
          else conflict
        | .preempt | .preemptAbort =>
          let held : Bool := if allRegs r then prkey == 0 else match r.holder with | some x => resKey r x == some prkey | none => false
          let victims := r.regs.filter (fun x => x.1 != h && (x.2 == prkey || (allRegs r && prkey == 0)))
          if r.rtype != 0 && held then
            ((0, 0), { r with
              regs := r.regs.filter (fun x => x.1 == h || !victims.contains x), gen := r.gen + 1, holder := some h
              rtype := rtype.toNat }, victims.map (fun x => (x.1, 1)) ++ (if r.rtype = rtype.toNat then [] else
                (others 2).filter (fun x => !victims.any (fun v => v.1 == x.1))))
          else if victims.isEmpty then conflict
          else
            ((0, 0), { r with regs := r.regs.filter (fun x => !victims.contains x), gen := r.gen + 1 }, victims.map (fun x => (x.1, 1)))
  | .release clear iekey rtype crkey =>
    match resKey r h with
    | none => conflict
    | some k =>
      if !iekey && k != crkey then conflict
      else if clear then
        ((0, 0), { freeResv r with regs := [], gen := r.gen + 1 }, others 3)
      else if !isHolder r h then ((0, 0), r, [])
      else if rtype.toNat != r.rtype then ((0, 0x02), r, [])
      else ((0, 0), freeResv r, if 3 ≤ r.rtype then others 2 else [])

/-- A reservation's state as an entry of the model's own subtype 0x11. -/
def resvCtl (vol : Nat) (r : Resv) : Ctl :=
  ⟨0x11, [vol, r.rtype, r.gen, r.ptpl.toNat, match r.holder with | some h => h.toNat + 1 | none => 0]
    ++ r.regs.flatMap (fun x => [x.1.toNat, x.2.toNat])⟩

/-- A host is told of a change to a reservation, unless the namespace's mask of its controller stops it: feature 0x82 is what enables these
events, and R117 names no bit of feature 0x0B for them (log entry 81). -/
def resNotify (s : State) (tenant nsid : Nat) (h : BitVec 128) (kind : Nat) : State :=
  (s.ctrlsOf tenant).foldl (fun t e =>
    if e.2.hostId = h && tGet e.2.resMask nsid 0 / 2 ^ kind % 2 = 0 then
      (t.modCtrl e.1 (fun c => { c with resLog := c.resLog ++ [(nsid, kind)] })).postAer e.1 6 0 0x80
    else t) s

/-- A reservation command at the owner: the change is journaled and mirrored, the completion given, and others told, those with a
controller of the other head by an entry of the model's own subtype 0x17: tenant, NSID, host identifier and kind (R112). -/
def resvDo (s : State) (o : Origin) (vol : Nat) (v : Volume) (h : BitVec 128) (c : ResvCmd) : State :=
  let x := resRun v.resv h c
  let s1 := if x.2.1 = v.resv then s else (s.modVol vol (fun y => { y with resv := x.2.1 })).journalCtl [resvCtl vol x.2.1]
  x.2.2.foldl (fun t n =>
    (t.resNotify v.tenant v.nsid n.1 n.2).journalCtl [⟨0x17, [v.tenant, v.nsid, n.1.toNat, n.2]⟩]) (s1.reply o x.1.1 x.1.2 0)

/-! ## The checks that precede admission -/

/-- An I/O command: on an I/O queue of an enabled controller, for a namespace of the tenant that is attached and neither
sanitized, formatted nor Inaccessible (R115, R120, R124). -/
def ioCmd (s : State) (cmd : CmdFrom) (nsid : Nat) (f : ConnEntry → Ctrl → Nat → Volume → State → State) : State :=
  s.capsule cmd (fun e r t =>
    match t.ctrlAt cmd.conn.val with
    | none => t
    | some k =>
      if r.qid = 0 then t.done cmd 0 0x01 0
      else
        match t.nsOf e.tenant nsid with
        | none => t.done cmd 0 0x0B 0
        | some v =>
          if ((t.tenant? e.tenant).map (fun x => x.quiesced)).getD false then t.done cmd 0 0x1D 0
          else if v.2.formatting.isSome then t.done cmd 0 0x84 0
          else if t.anaState v.2 = 2 then t.done cmd 3 0x02 0
          else f e k.2 v.1 v.2 t)

/-- Whether block ranges lie in a volume. -/
def inVolume (v : Volume) (rs : List (Nat × Nat)) : Bool := rs.all (fun r => r.1 + r.2 ≤ v.blocks)

/-- A tenant's write-class commands get the busy status: its slot is empty, or differs between the heads (R502). -/
def busyWrite (s : State) (tenant : Nat) : Bool := s.keyEmptyOf tenant || s.sec.mismatch.contains tenant

/-- A command as it arrives. -/
def newCmd (conn cid tenant vol : Nat) (kind : CmdKind) (ranges : List (Nat × Nat)) (src bytes connCls cls : Nat) (fua : Bool)
    (pi : PiReq) (arrived : Nat) (data : Bytes) (red : Nat) : HCmd :=
  { conn := conn, cid := cid, tenant := tenant, volume := vol, kind := kind, ranges := ranges, src := src, bytes := bytes,
    connCls := connCls, cls := cls, fua := fua, pi := pi, arrived := arrived,
    deadline := arrived + cmdDeadline cls (isWriteKind kind) bytes, window := arrived + classWindow cls, phase := .reed, mute := false,
    fwdFrom := none, fwdTo := false, pulled := false, data := if data.isEmpty then [] else [(0, data)], tokens := 0, byteTokens := 0,
    est := 0, f := 0, red := red, ext := none, intakeEnd := 0, outs := [], lookups := [], todo := [], got := [],
    plan := [], differs := false, seq := none, accepted := 0, snapGen := 0 }

/-- No protection information asked for. -/
def noPi : PiReq := ⟨false, 0, 0, 0, 0⟩

/-- The numbers by which an I/O command is forwarded (R355). -/
def fwdBody (s : State) (c : HCmd) (group : Nat) : List Nat :=
  [match c.kind with | .write => 1 | .read => 2 | .compare => 5 | .writeZeroes => 8 | .dsm => 9 | .copy => 0x19, c.volume, c.cls,
    tGet s.nv.groupGens group 0, c.arrived, c.fua.toNat, c.bytes, c.src, c.ranges.length] ++ c.ranges.flatMap (fun r => [r.1, r.2])
    ++ [c.pi.pract.toNat, c.pi.prchk.toNat, c.pi.lbat.toNat, c.pi.lbatm.toNat, c.pi.ilbrt.toNat]
    ++ c.data.flatMap (fun d => d.1 :: nums d.2)

/-- A command that has passed its checks: kept and forwarded to the owner, or checked against Reed here (R133, R355); in a thermal emergency it
is refused here (R166). -/
def submit (s : State) (v : Volume) (c : HCmd) (raise : Nat) (st : Standby) : State :=
  let id := s.nv.next
  let own := s.ownsGroup v.group
  let s1 := ({ s with nv.next := id + 1, nv.cmds := tPut s.nv.cmds id { c with fwdTo := !own, lbaf := v.lbaf } }).raiseCount raise
  if own || s.suspended then s1.reedCheck id st
  else (s1.bump (Reg.OWN_CNT 8) 1).sendMsg 0x0200 ([id, c.conn, c.tenant] ++ s.fwdBody c v.group)

/-- Whether a command id is in use on a connection. -/
def cidInUse (s : State) (cmd : CmdFrom) : Bool := (s.cmdAt cmd.conn.val cmd.cid.toNat).isSome

/-- The checks of an I/O command that the Loom admits, then its submission. A Compare whose data does not come with its capsule is refused like a
write on a RoCEv2 connection without responder resources: DESIGN CHOICE, R77 speaks of writes (log entry 145). -/
def ioSubmit (s : State) (cmd : CmdFrom) (nsid : Nat) (kind : CmdKind) (ranges : List (Nat × Nat)) (src : Nat) (extra : List (Nat × Nat))
    (fua : Bool) (pi : PiReq) (data : Bytes) (bad : Volume → Bool) (st : Standby) : State :=
  s.ioCmd cmd nsid (fun e c vol v t =>
    let write := isWriteKind kind
    let blocks := ranges.foldl (fun n r => n + r.2) 0
    let moves := kind == .write || kind == .read || kind == .compare
    let bytes := if moves then blocks * wireBlock v pi.pract else 0
    let host := kind == .write || kind == .compare
    if t.cidInUse cmd then t.done cmd 0 0x03 0
    else if bad v || (moves && (2097152 < bytes || blocks = 0)) || 8192 < data.length then t.done cmd 0 0x02 0
    else if !inVolume v (ranges ++ extra) then t.done cmd 0 0x80 0
    else if v.lbaf = 1 && moves && pi.prchk.toNat % 2 = 1 && pi.ilbrt.toNat != ((ranges.headD (0, 0)).1) % 2 ^ 48 then
      t.done cmd 1 0x81 0
    else if resConflict v.resv c.hostId write then t.done cmd 0 0x83 0
    else if host && e.typ = 1 && data.length < bytes && ((t.connRt? cmd.conn.val).map (fun r => r.granted)).getD 0 = 0 then
      t.done cmd 0 0x02 0
    else if write && t.busyWrite e.tenant then t.busyOut cmd.conn.val cmd.cid.toNat e.tenant
    else if !write && t.keyEmptyOf e.tenant
        && (ranges.flatMap (fun r => spanGrains (grainSpan v.lbaf r.1 r.2))).any (fun g => (t.lookup vol g).isSome) then
      t.busyOut cmd.conn.val cmd.cid.toNat e.tenant
    else
      let cl := t.effClass e.lc (t.syncFloor vol write) v bytes write fua
      let x := newCmd cmd.conn.val cmd.cid.toNat e.tenant vol kind ranges src bytes e.lc cl.1 fua pi t.now data (t.redOf e.tenant)
      t.submit v x cl.2 st)

/-! ## Format and Sanitize (R120 to R124) -/

/-- A Format NVM at the owner begins and is journaled. -/
def formatStart (s : State) (o : Origin) (vol lbaf : Nat) : State :=
  (s.modVol vol (fun v => { v with formatting := some lbaf, formatHost := some o })).journalCtl [⟨0x12, [vol, lbaf, 1]⟩]

/-- A tenant's Sanitize changed. -/
def modSan (s : State) (t : Nat) (f : Sanitize → Sanitize) : State := s.modTenant t (fun x => { x with san := f x.san })

/-- A progress record of a Sanitize: tenant, phase, `SSTAT`, segments listed and done, and the segments that remain (R121). -/
def sanCtl (t : Nat) (x : Sanitize) : Ctl :=
  ⟨0x10, [t, x.phase, x.stat, x.list.length + x.done + x.listOther.length, x.done, x.doneOther] ++ x.list ++ x.listOther⟩

/-- The sequence of a Sanitize begins at the configuration head (R120): new I/O is turned away, and the phase is journaled. -/
def sanitizeBegin (s : State) (t : Nat) : State :=
  let san : Sanitize := {
    stat := 2, prog := 0, phase := 1, erased := false, list := [], listOther := [], done := 0, doneOther := 0,
    covered := 0, held := [], otherDone := false, host := none }
  let s1 := (s.modTenant t (fun y => { y with san := san, quiesced := true })).journalCtl [sanCtl t san]
  if s1.paired then s1.sendMsg 0x020B [t, 1, 1, 0, (s1.reg Reg.SELV_OWN_NEXT_SEQ).toNat - 1] else s1

/-- A host's Sanitize begins, or is turned away while one is in progress. -/
def sanitizeStart (s : State) (o : Origin) (t : Nat) : State :=
  match s.tenant? t with
  | none => s.reply o 0 0x02 0
  | some x => if x.san.stat = 2 then s.reply o 0 0x1D 0 else (s.sanitizeBegin t).reply o 0 0 0

/-- Exit Failure Mode: a failure is cleared, and the tenant stays quiesced (R121). -/
def sanitizeExit (s : State) (o : Origin) (t : Nat) : State :=
  match s.tenant? t with
  | none => s.reply o 0 0x02 0
  | some x =>
    if x.san.stat = 2 then s.reply o 0 0x1D 0
    else if x.san.stat = 3 then
      let s1 := s.modSan t (fun y => { y with stat := 0 })
      (s1.journalCtl [sanCtl t { x.san with stat := 0 }]).reply o 0 0 0
    else s.reply o 0 0 0

/-- A command that is neither a read nor a write, at the head that is to do it: the owner of its group, or the configuration head. -/
def otherDo (s : State) (o : Origin) (tenant : Nat) (b : FwdBody) : State :=
  match b with
  | .resv vol h c => match s.vol? vol with | some v => s.resvDo o vol v h c | none => s.reply o 0 0x0B 0
  | .format vol lbaf =>
    match s.vol? vol with
    | some v => if v.formatting.isSome then s.reply o 0 0x84 0 else s.formatStart o vol lbaf
    | none => s.reply o 0 0x0B 0
  | .sanitize action => if action = 1 then s.sanitizeExit o tenant else s.sanitizeStart o tenant
  | .io _ _ _ _ _ _ _ _ => s

/-- A Sanitize command: refused with `NDAS`, else done at the configuration head, or sent there. -/
def sanitizeCmd (s : State) (cmd : CmdFrom) (action : Nat) (ndas : Bool) (f : State → Origin → Nat → State) : State :=
  s.adminCmd cmd (fun e _ c t =>
    if c.discovery then t.done cmd 0 0x01 0
    else if ndas then t.done cmd 0 0x02 0
    else if t.configHead then f t (.host cmd.conn.val cmd.cid.toNat) e.tenant
    else t.forwardOther cmd.conn.val cmd.cid.toNat e.tenant (.sanitize action))

end State

open State

/-! ## Fabrics commands -/

/-- CONNECT (R96 to R98). -/
def execConnect (cmd : CmdFrom) (data : ConnectData) (s : State) : Out :=
  .next (s.onConn cmd.conn.val (fun e r t => if r.joined then t.done cmd 0 0x0C 0 else t.connect cmd e data))

/-- PROPERTY_GET (R102): `CAP` shows the largest I/O queue and otherwise an open value; `VS`, `CC` and `CSTS`. -/
def execPropertyGet (cmd : CmdFrom) (off : BitVec 32) (s : State) : Out :=
  .next (s.adminCmd cmd (fun _ _ c t =>
    match off.toNat with
    | 0x00 => let d := t.draw; d.2.done cmd 0 0 (setBits (Config.openWord d.1) 0 16 1023).toNat
    | 0x08 => t.done cmd 0 0 0x00020000
    | 0x14 => t.done cmd 0 0 c.cc.toNat
    | 0x1C => t.done cmd 0 0 c.csts.toNat
    | _ => t.done cmd 0 0x02 0))

/-- PROPERTY_SET (R102): enabling makes the controller ready; disabling ends its I/O queues; a shutdown notice is complete at
once. -/
def execPropertySet (cmd : CmdFrom) (off : BitVec 32) (value : Word) (s : State) : Out :=
  .next (s.adminCmd cmd (fun _ k c t =>
    if off.toNat != 0x14 then t.done cmd 0 0x02 0
    else
      let v := value.setWidth 32
      let en := bitsOf value 0 1 = 1
      let csts : BitVec 32 := (if en then 1 else 0) ||| (if bitsOf value 14 2 = 0 then 0 else 8)
      let t1 := if c.cc.getLsbD 0 && !en then c.queues.foldl (fun u q => u.teardown q.2) t else t
      (t1.modCtrl k (fun x => { x with cc := v, csts := csts, aers := if en then x.aers else [] })).done cmd 0 0 0))

/-- DISCONNECT (R102): the queue's connection ends; on the admin queue the controller ends with it. -/
def execDisconnect (cmd : CmdFrom) (s : State) : Out :=
  .next (s.capsule cmd (fun _ r t =>
    match t.ctrlAt cmd.conn.val with
    | none => t
    | some k =>
      let t1 := t.done cmd 0 0 0
      if r.qid = 0 then t1.deleteCtrl k.1 else t1.teardown cmd.conn.val))

/-! ## Admin commands -/

/-- GET_LOG_PAGE (R118). -/
def execGetLogPage (cmd : CmdFrom) (lid : BitVec 8) (s : State) : Out :=
  .next (s.adminCmd cmd (fun _ k c t =>
    match t.logPage k c lid.toNat with
    | none => t.done cmd 1 0x09 0
    | some (fields, u) =>
      (u.sendOn cmd.conn.val (.hostInfo cmd.conn.val cmd.cid.toNat (0x200 + lid.toNat) fields)).done cmd 0 0 0))

/-- NVME_IDENTIFY (R119). -/
def execNvmeIdentify (cmd : CmdFrom) (cns : BitVec 8) (nsid : Nat) (s : State) : Out :=
  .next (s.adminCmd cmd (fun _ _ c t =>
    match t.identifyOf c cns.toNat nsid with
    | .inr st => t.done cmd st.1 st.2 0
    | .inl fields =>
      (t.sendOn cmd.conn.val (.hostInfo cmd.conn.val cmd.cid.toNat (0x600 + cns.toNat) fields)).done cmd 0 0 0))

/-- ABORT (R102). -/
def execAbort (cmd : CmdFrom) (s : State) : Out := .next (s.adminCmd cmd (fun _ _ _ t => t.done cmd 0 0 1))

/-- SET_FEATURES (R117). -/
def execSetFeatures (cmd : CmdFrom) (fid : BitVec 8) (nsid : Nat) (save : Bool) (value : BitVec 32) (s : State) : Out :=
  .next (s.adminCmd cmd (fun e k c t =>
    let ok := fun (u : State) => u.done cmd 0 0 0
    let bad := t.done cmd 0 0x02 0
    let v := value.toNat
    if save then t.done cmd 1 0x0D 0
    else
      match fid.toNat with
      | 0x01 => ok (t.modCtrl k (fun x => { x with arb := value }))
      | 0x02 => if v % 32 = 0 then ok t else bad
      | 0x04 =>
        if v / 65536 % 16 != 0 || 1 < v / 1048576 % 4 then bad
        else ok (t.modCtrl k (fun x => if v / 1048576 % 4 = 0 then { x with tempTh := value } else { x with tempLow := value }))
      | 0x07 =>
        if v % 65536 = 65535 || v / 65536 = 65535 then bad
        else t.done cmd 0 0 (min 63 (v % 65536) + 65536 * min 63 (v / 65536))
      | 0x0B => ok (t.modCtrl k (fun x => { x with aec := value }))
      | 0x0F => if katoOk v then ok (t.modCtrl k (fun x => { x with kato := katoRound v })) else bad
      | 0x16 => ok (t.modCtrl k (fun x => { x with acre := v % 2 == 1 }))
      | 0x82 =>
        match t.nsOf e.tenant nsid with
        | some _ => ok (t.modCtrl k (fun x => { x with resMask := tPut x.resMask nsid v }))
        | none => t.done cmd 0 0x0B 0
      | 0x83 =>
        match t.nsOf e.tenant nsid with
        | none => t.done cmd 0 0x0B 0
        | some w =>
          if t.ownsGroup w.2.group then
            t.resvDo (.host cmd.conn.val cmd.cid.toNat) w.1 w.2 c.hostId (.persist (v % 2 == 1))
          else t.forwardOther cmd.conn.val cmd.cid.toNat e.tenant (.resv w.1 c.hostId (.persist (v % 2 == 1)))
      | _ => bad))

/-- GET_FEATURES (R117); dword 11 selects the composite temperature's over or under threshold as in Set Features. -/
def execGetFeatures (cmd : CmdFrom) (fid : BitVec 8) (nsid : Nat) (sel : FeatureSel) (s : State) : Out :=
  .next (s.adminCmd cmd (fun e _ c t =>
    let ok := fun (n : Nat) => t.done cmd 0 0 n
    if sel.sel != 0 then t.done cmd 0 0x02 0
    else
      match fid.toNat with
      | 0x01 => ok c.arb.toNat
      | 0x02 => ok 0
      | 0x04 =>
        let v := sel.dw11.toNat
        if v / 65536 % 16 != 0 || 1 < v / 1048576 % 4 then t.done cmd 0 0x02 0
        else ok (if v / 1048576 % 4 = 0 then c.tempTh.toNat % 65536 else c.tempLow.toNat % 65536)
      | 0x07 => ok (63 + 65536 * 63)
      | 0x0B => ok c.aec.toNat
      | 0x0F => ok c.kato
      | 0x16 => (t.sendOn cmd.conn.val (.hostInfo cmd.conn.val cmd.cid.toNat 0x0A16 [c.acre.toNat])).done cmd 0 0 0
      | 0x81 => (t.sendOn cmd.conn.val (.hostInfo cmd.conn.val cmd.cid.toNat 0x0A81 [c.hostId.toNat])).done cmd 0 0 0
      | 0x82 => match t.nsOf e.tenant nsid with | some _ => ok (tGet c.resMask nsid 0) | none => t.done cmd 0 0x0B 0
      | 0x83 => match t.nsOf e.tenant nsid with | some v => ok v.2.resv.ptpl.toNat | none => t.done cmd 0 0x0B 0
      | _ => t.done cmd 0 0x02 0))

/-- ASYNC_EVENT_REQUEST (R102): answered at once when an event waits; at most eight are outstanding. -/
def execAsyncEventRequest (cmd : CmdFrom) (s : State) : Out :=
  .next (s.adminCmd cmd (fun _ k c t =>
    match c.events with
    | x :: rest => (t.modCtrl k (fun y => { y with events := rest })).done cmd 0 0 (x.1 + 256 * x.2.1 + 65536 * x.2.2)
    | [] =>
      if 8 ≤ c.aers.length then t.done cmd 1 0x05 0
      else t.modCtrl k (fun y => { y with aers := y.aers ++ [cmd.cid.toNat] })))

/-- KEEP_ALIVE (R100). -/
def execKeepAlive (cmd : CmdFrom) (s : State) : Out := .next (s.adminCmd cmd (fun _ _ _ t => t.done cmd 0 0 0))

/-- KEEP_ALIVE_EXPIRY (R100): accepted commands whose data has arrived finish inside the array without a completion. -/
def execKeepAliveExpiry (tenant : BitVec 12) (cntlid : BitVec 16) (s : State) : Out :=
  let k := ctrlKey tenant.toNat cntlid.toNat
  .next (
    match tGet? s.nv.ctrls k with
    | none => s
    | some c =>
      if c.kato = 0 then s
      else
        let conns := c.adminConn :: c.queues.map (fun q => q.2)
        let s1 := { s with nv.cmds := s.nv.cmds.map (fun (x : Nat × HCmd) =>
          if conns.contains x.2.conn && x.2.fwdFrom.isNone && (x.2.phase == Phase.headed || ((x.2.phase == Phase.run || x.2.fwdTo)
              && (x.2.kind == CmdKind.read || decide (x.2.bytes ≤ arrivedBytes x.2)))) then (x.1, { x.2 with mute := true }) else x) }
        s1.deleteCtrl k)

/-- FORMAT_NVM (R123): secure erase 2 is refused, and the protection type must be the one the format permits. -/
def execFormatNvm (cmd : CmdFrom) (nsid lbaf : Nat) (pi : BitVec 3) (ses : BitVec 3) (s : State) : Out :=
  .next (s.adminCmd cmd (fun e _ _ t =>
    if nsid = 0xFFFFFFFF then t.done cmd 0 0x0B 0
    else
      match t.nsOf e.tenant nsid with
      | none => t.done cmd 0 0x0B 0
      | some v =>
        if 2 < lbaf || pi.toNat != (if lbaf = 1 then 1 else 0) || 1 < ses.toNat then t.done cmd 0 0x02 0
        else if v.2.formatting.isSome then t.done cmd 0 0x84 0
        else if ((t.tenant? e.tenant).map (fun x => x.quiesced)).getD false then t.done cmd 0 0x1D 0
        else if t.anaState v.2 = 2 then t.done cmd 3 0x02 0
        else if t.ownsGroup v.2.group then t.formatStart (.host cmd.conn.val cmd.cid.toNat) v.1 lbaf
        else t.forwardOther cmd.conn.val cmd.cid.toNat e.tenant (.format v.1 lbaf)))

/-- SANITIZE_CRYPTO_ERASE (R120). -/
def execSanitizeCryptoErase (cmd : CmdFrom) (ndas : Bool) (s : State) : Out :=
  .next (s.sanitizeCmd cmd 4 ndas sanitizeStart)

/-- SANITIZE_BLOCK_ERASE (R120). -/
def execSanitizeBlockErase (cmd : CmdFrom) (ndas : Bool) (s : State) : Out :=
  .next (s.sanitizeCmd cmd 2 ndas sanitizeStart)

/-- SANITIZE_OVERWRITE (R120). -/
def execSanitizeOverwrite (cmd : CmdFrom) (s : State) : Out := .next (s.adminCmd cmd (fun _ _ _ t => t.done cmd 0 0x02 0))

/-- SANITIZE_EXIT_FAILURE (R121). -/
def execSanitizeExitFailure (cmd : CmdFrom) (s : State) : Out := .next (s.sanitizeCmd cmd 1 false sanitizeExit)

/-! ## I/O commands -/

/-- FLUSH (R108). -/
def execFlush (cmd : CmdFrom) (nsid : Nat) (s : State) : Out :=
  .next (s.ioCmd cmd nsid (fun e _ _ _ t => (t.tcntAdd e.tenant 2 1).done cmd 0 0 0))

/-- An LBA range as numbers. -/
def rangeOf (r : LbaRange) : Nat × Nat := (r.slba.toNat, r.nlb)

/-- WRITE (R101, R109, R169). -/
def execWrite (cmd : CmdFrom) (nsid : Nat) (range : LbaRange) (fua : Bool) (pi : PiReq) (data : Bytes) (standby : Standby)
    (s : State) : Out :=
  .next (s.ioSubmit cmd nsid .write [rangeOf range] 0 [] fua pi data (fun _ => false) standby)

/-- READ (R17, R101). -/
def execRead (cmd : CmdFrom) (nsid : Nat) (range : LbaRange) (pi : PiReq) (standby : Standby) (s : State) : Out :=
  .next (s.ioSubmit cmd nsid .read [rangeOf range] 0 [] false pi [] (fun _ => false) standby)

/-- COMPARE (R102): booked as a read. -/
def execCompare (cmd : CmdFrom) (nsid : Nat) (range : LbaRange) (pi : PiReq) (data : Bytes) (standby : Standby) (s : State) : Out :=
  .next (s.ioSubmit cmd nsid .compare [rangeOf range] 0 [] false pi data (fun _ => false) standby)

/-- WRITE_ZEROES (R103). -/
def execWriteZeroes (cmd : CmdFrom) (nsid : Nat) (range : LbaRange) (fua : Bool) (standby : Standby) (s : State) : Out :=
  .next (s.ioSubmit cmd nsid .writeZeroes [rangeOf range] 0 [] fua noPi [] (fun _ => false) standby)

/-- DATASET_MANAGEMENT (R103): without Deallocate its attributes are ignored and it completes. -/
def execDatasetManagement (cmd : CmdFrom) (nsid : Nat) (ranges : List LbaRange) (deallocate : Bool) (standby : Standby) (s : State) : Out :=
  .next (
    if deallocate then
      s.ioSubmit cmd nsid .dsm (ranges.map rangeOf) 0 [] false noPi [] (fun _ => 256 < ranges.length || ranges.isEmpty) standby
    else s.ioCmd cmd nsid (fun e _ _ _ t => (t.tcntAdd e.tenant 2 1).done cmd 0 0 0))

/-- COPY (R104): refused when the ranges overlap, protection is asked for, or the length is beyond `MSSRL`. -/
def execCopy (cmd : CmdFrom) (nsid : Nat) (source : LbaRange) (dest : BitVec 64) (simple : Bool) (prinfo fua : Bool) (standby : Standby)
    (s : State) : Out :=
  let a := source.slba.toNat
  let b := dest.toNat
  let n := source.nlb
  .next (s.ioSubmit cmd nsid .copy [(b, n)] a [(a, n)] fua noPi []
    (fun v => !simple || prinfo || decide ((if v.lbaf = 2 then 32768 else 4096) < n) || n == 0 || (decide (a < b + n) && decide (b < a + n)))
    standby)

/-- UNSUPPORTED_COMMAND (R102). -/
def execUnsupportedCommand (cmd : CmdFrom) (fused : Bool) (s : State) : Out :=
  .next (s.capsule cmd (fun _ _ t => t.done cmd 0 (if fused then 0x02 else 0x01) 0))

/-! ## Reservation commands -/

/-- A reservation command of a host: at the owner, or forwarded to it. -/
def State.resvHost (s : State) (cmd : CmdFrom) (nsid : Nat) (c : ResvCmd) : State :=
  s.ioCmd cmd nsid (fun e k vol v t =>
    let t1 := t.tcntAdd e.tenant 2 1
    if t1.ownsGroup v.group then t1.resvDo (.host cmd.conn.val cmd.cid.toNat) vol v k.hostId c
    else t1.forwardOther cmd.conn.val cmd.cid.toNat e.tenant (.resv vol k.hostId c))

/-- RESERVATION_REGISTER (R112). -/
def execReservationRegister (cmd : CmdFrom) (nsid : Nat) (act : RegAct) (iekey : Bool) (ptpl : Option Bool) (crkey nrkey : Word)
    (s : State) : Out := .next (s.resvHost cmd nsid (.register act iekey ptpl crkey nrkey))

/-- RESERVATION_REPORT (R112): a report for 64-bit host identifiers is refused. -/
def execReservationReport (cmd : CmdFrom) (nsid : Nat) (extended : Bool) (s : State) : Out :=
  .next (s.ioCmd cmd nsid (fun e _ _ v t =>
    let t1 := t.tcntAdd e.tenant 2 1
    if !extended then t1.done cmd 0 0x02 0
    else
      (t1.sendOn cmd.conn.val (.hostInfo cmd.conn.val cmd.cid.toNat 0x0E
        ([v.resv.gen, v.resv.rtype, v.resv.regs.length, v.resv.ptpl.toNat]
          ++ v.resv.regs.flatMap (fun x => [x.1.toNat, x.2.toNat, (isHolder v.resv x.1).toNat])))).done cmd 0 0 0))

/-- RESERVATION_ACQUIRE (R112). -/
def execReservationAcquire (cmd : CmdFrom) (nsid : Nat) (act : AcqAct) (iekey : Bool) (rtype : BitVec 8) (crkey prkey : Word)
    (s : State) : Out := .next (s.resvHost cmd nsid (.acquire act iekey rtype crkey prkey))

/-- RESERVATION_RELEASE (R112). -/
def execReservationRelease (cmd : CmdFrom) (nsid : Nat) (clear iekey : Bool) (rtype : BitVec 8) (crkey : Word) (s : State) : Out :=
  .next (s.resvHost cmd nsid (.release clear iekey rtype crkey))

end Sys2Proof.Machine
end

