-- ==== Sys2Proof/Machine/Admission.lean ====
section
/-!
DEFINITION. Sys2Proof/Machine/Admission.lean: decisions that wait, claims between the heads, the Reed table, and the periodic work
of the Loom (R126, R127, R137, R138, R147 to R158, R168).
-/

namespace Sys2Proof.Machine

namespace State

/-! ## Claims (R137) -/

/-- A claimed resource. -/
def claimRes : ClaimRes → Res
  | .die m d => .die m.val d.val
  | .portIn p => .portIn p.val
  | .portOut p => .portOut p.val

/-- A granted claim serves a command this head has forwarded: the owner has accepted it, its data may be pulled, and its intake ends with the
last beat granted at its port (R91). -/
def claimServes (s : State) (id : Nat) (dems : List Dem) : State :=
  match s.cmd? id with
  | some c =>
    if !c.fwdTo || c.phase = .headed then s
    else
      let l := dems.filter (fun d => kindOf d.res == 7)
      let s1 := s.modCmd id (fun x => { x with phase := .run, intakeEnd := if l.isEmpty then x.intakeEnd else 10000 * (lastDem l + 1) })
      if c.phase = .reed then s1.pullData id else s1
  | none => s

/-- A claim from the partner, checked on this head's calendar and answered; a FENCED head books nothing (R48). -/
def claim (s : State) (tag tenant : Nat) (items : List ClaimItem) (cmd : Option Nat) : State :=
  let dems := items.map (fun i => Dem.mk i.beat (claimRes i.res) i.amt)
  if s.fld Reg.OWN_STATUS_ROLE != 5 && dems.all (fun (d : Dem) => s.books d.res) && (s.fits tenant true dems).isNone then
    let s1 := { s with loom.book := s.loom.book ++ (demSum dems).map (fun (d : Dem) =>
      Booking.mk d.beat d.res d.amt tenant (.claim tag) (1 - s.headIndex % 2)) }
    let s2 := s1.sendMsg 0x0002 [tag, 1]
    match cmd with
    | some id => s2.claimServes id dems
    | none => s2
  else s.sendMsg 0x0002 [tag, 0]

/-- What a draft that has not been accepted holds is given back: its bookings, its debt estimate and its debt units. -/
def undoDraft (s : State) (id : Nat) : State :=
  match s.cmd? id with
  | none => s
  | some c =>
    ((((s.release id (s.beat + 1)).ledgerAdd c.tenant (-(c.est : Int))).undoDebt id c.tenant)).modCmd id (fun x => { x with est := 0 })

/-- A command is drafted again after a rejected claim: one that has been accepted is placed anew or ends with FAULT_ABORT (R162), any other is
decided anew. -/
def draftAgain (s : State) (id : Nat) : State :=
  match s.cmd? id with
  | none => s
  | some c =>
    if c.phase = .run then s.redraftOne id
    else if isWriteKind c.kind then (s.undoDraft id).decideWrite id
    else if (s.missingLeaves c).isEmpty then (s.undoDraft id).decideRead id
    else (s.undoDraft id).resolveMap id .same

/-- Every claim of a command is granted: it is accepted, the reads of one drafted again are issued, or a read whose map lines are sought waits for
them (R145). -/
def claimsGranted (s : State) (id : Nat) : State :=
  match s.cmd? id with
  | none => s
  | some c =>
    if c.phase = .run then s.issueReads id
    else if c.phase = .map && c.todo.isEmpty && !isWriteKind c.kind then s
    else s.underTerms c (fun t => t.acceptDraft id)

/-- A command that has not been accepted gives back what its draft holds and its charges, and waits for Reed and for a decision of both instances
anew (R125, R147). -/
def requeue (s : State) (id : Nat) : State :=
  match s.cmd? id with
  | none => s
  | some c =>
    let s1 := s.undoDraft id
    let s2 := if c.tokens = 0 then s1 else s1.returnCharges c.tenant (takenCharges c)
    let s3 := s2.modCmd id (fun x => { x with phase := .reed, tokens := 0, byteTokens := 0, plan := [], todo := [] })
    { s3 with loom.queue := s3.loom.queue.filter (fun x => x != id) ++ [id] }

/-- With the partner gone no claim is waited for (R163): an accepted command goes on, one whose map lines are sought waits for them, and any
other is decided anew. -/
def claimsAlone (s : State) : State :=
  ((s.loom.claims.map (fun c => c.2.1)).dedup).foldl (fun t id =>
    match t.cmd? id with
    | some c => if c.phase = .run then t.claimsGranted id else if c.phase = .map && c.todo.isEmpty then t else t.requeue id
    | none => t) { s with loom.claims := [] }

/-- The partner's answer to a claim: a grant counts toward acceptance, a reject makes the placement infeasible at its start. What follows is a
decision under the gating of R125. -/
def claimAnswer (s : State) (tag : Nat) (a : ClaimReply) : State :=
  match s.loom.claims.find? (fun c => c.1 == tag) with
  | none => s
  | some (_, id, l) =>
    let s1 := { s with loom.claims := s.loom.claims.filter (fun c => c.1 != tag) }
    if a.grant then
      let s2 := { s1 with loom.granted := s1.loom.granted ++ l }
      if s2.claimsOpen id then s2 else s2.gated id a.standby (fun t => t.claimsGranted id)
    else (s1.barClaim id l).gated id a.standby (fun t => t.draftAgain id)

/-- A shadow booking. -/
def shadowOf (i : ShadowItem) : Booking := ⟨i.beat, .die i.module.val i.die.val, i.amt, i.tenant, .background 0, i.head⟩

/-! ## The Reed table (R168) -/

/-- `TBL_DATA0` to `TBL_DATA3` written. -/
def tblData (s : State) (w : List Word) : State :=
  (((s.setReg Reg.REED_TBL_DATA0 (w.getD 0 0)).setReg Reg.REED_TBL_DATA1 (w.getD 1 0)).setReg Reg.REED_TBL_DATA2
    (w.getD 2 0)).setReg Reg.REED_TBL_DATA3 (w.getD 3 0)

/-- A write of `TBL_CMD` with `GO`. -/
def tblGo (s : State) (op tenant : Nat) (f : State → State) : State :=
  s.barWrite Reg.REED_TBL_CMD (fun t => f ((t.setFld Reg.REED_TBL_CMD_OP op).setFld Reg.REED_TBL_CMD_TENANT tenant))

/-- A contract's words with their zero fields zero. -/
def contractWords (w0 w1 w2 w3 : Word) : List Word := [w0, w1, w2 &&& 0xFF, w3 &&& 0x8000000000000000]

/-! ## The collection floor and the cards -/

/-- The floor of a free space in permille (R154). -/
def floorOf (pm : Nat) : Nat := if 200 ≤ pm then 0 else if 150 ≤ pm then 5 else if 100 ≤ pm then 10 else if 50 ≤ pm then 20
  else if 20 ≤ pm then 35 else 50

/-- A coefficient moved toward its fitted value by at most 12.5% (R158). -/
def cardStep (old new : Nat) : Nat := clampNat (old - old / 8) (old + old / 8) new

/-- One card's fitted coefficients staged in both instances. -/
def stageCard (s : State) (c : CardFit) : State :=
  (List.range 2).foldl (fun t i =>
    let k := c.op.val
    let put := fun (u : State) (f : Fld) (x : Nat) => u.setFld f (cardStep (s.act f) x)
    put (put (put (put (put t (Reg.LOOM_CARD0_MEDIA_FIX i k) c.mediaFix) (Reg.LOOM_CARD0_CHIP_KIB i k) c.chipKib)
      (Reg.LOOM_CARD0_CHIP_FIX i k) c.chipFix) (Reg.LOOM_CARD1_DIE_TIME i k) c.dieTime) (Reg.LOOM_CARD1_MEDIA_KIB i k) c.mediaKib) s

/-- One tenant's overwrite ratio after 1 ms in which it wrote (R150): weight 1/16, rounded down. -/
def ratioStep (old written replaced : Nat) : Nat :=
  if written = 0 then old else min 65535 ((15 * old + min 65536 (replaced * 65536 / written)) / 16)

end State

open State

/-- REED_TOKENS_AVAILABLE (R147). -/
def execReedTokensAvailable (id : Nat) (standby : Standby) (s : State) : Out :=
  .next (if s.serving then s.reedPass id standby else s)

/-- MAP_RESOLVED (R131): every leaf that the read touches is resident. -/
def execMapResolved (id : Nat) (standby : Standby) (s : State) : Out :=
  .next (
    match s.cmd? id with
    | some c =>
      if s.serving && c.phase = .map && (s.missingLeaves c).isEmpty && !s.claimsOpen id then
        s.gated id standby (fun t => t.decideRead id)
      else s
    | none => s)

/-- LOOM_SWAP_DUE (R127): the swap takes place at the next boundary that permits it; unequal digests are handled under R126. Digests that are
equal when the swap falls due stay so until they are named unequal again (log entry 91). -/
def execLoomSwapDue (digests : Standby) (s : State) : Out :=
  .next (
    if s.loomAct Reg.LOOM_CFG_SWAP_EN = 0 || s.simplex then s
    else
      match digests with
      | .same => { s with loom.swapDue := true }
      | .differ a b => s.decisionMismatch a b)

/-- REED_TBL_READ_STATE (R168). The spec names what `TBL_DATA0` [15:0], `TBL_DATA1` and `TBL_DATA2` return; the rest of `TBL_DATA0` and
`TBL_DATA3` read 0, DESIGN CHOICE (log entry 78). -/
def execReedTblReadState (tenant : BitVec 12) (s : State) : Out :=
  .next (s.tblGo 0 tenant.toNat (fun t =>
    t.tblData [BitVec.ofNat 64 (t.ovrOf tenant.toNat), BitVec.ofInt 64 (t.ledgerOf tenant.toNat),
      BitVec.ofNat 64 ((t.levelsNow tenant.toNat).getD 3 0 / 10 ^ 9), 0]))

/-- REED_TBL_WRITE_STAGED (R149, R168). -/
def execReedTblWriteStaged (tenant : BitVec 12) (w0 w1 w2 w3 : Word) (s : State) : Out :=
  .next (s.tblGo 1 tenant.toNat (fun t =>
    { t.tblData [w0, w1, w2, w3] with loom.staged := tPut t.loom.staged tenant.toNat (contractWords w0 w1 w2 w3) }.shareSum))

/-- REED_TBL_READ_STAGED (R168). -/
def execReedTblReadStaged (tenant : BitVec 12) (s : State) : Out :=
  .next (s.tblGo 2 tenant.toNat (fun t => t.tblData (tGet t.loom.staged tenant.toNat [0, 0, 0, 0])))

/-- REED_TBL_READ_ACTIVE (R168). -/
def execReedTblReadActive (tenant : BitVec 12) (s : State) : Out :=
  .next (s.tblGo 3 tenant.toNat (fun t => t.tblData (t.contract tenant.toNat)))

/-- COLLECTION_FLOOR_RECOMPUTE (R154, R159): raised at the next beat boundary, lowered only 1 s after it was raised. -/
def execCollectionFloorRecompute (s : State) : Out :=
  let old := s.floorPct
  let new := floorOf (s.fld (Reg.LOOM_GC_STATE_FREE_PM s.loomActive))
  .next (
    if old < new then { s with loom.floorNext := some new, loom.floorAt := s.now }
    else if new < old && s.loom.floorAt + 10 ^ 9 ≤ s.now then { s with loom.floorNext := some new }
    else { s with loom.floorNext := none })

/-- ENERGY_CARD_FIT (R158): the cards are staged in both instances and committed at the next boundary in each that can commit (R41). -/
def execEnergyCardFit (cards : List CardFit) (s : State) : Out :=
  let pages := [Reg.LOOM_PAGE 0, Reg.LOOM_PAGE 1].filter (fun p => s.blk p != FAILED && s.blk p != RETIRED)
  .next (
    if !s.serving || pages.any (fun p => s.bit (Reg.BLK_STATE_COMMIT_PENDING p)) then s
    else pages.foldl (fun t p => t.setBit (Reg.BLK_STATE_COMMIT_PENDING p) true) (cards.foldl stageCard s))

/-- ENERGY_OVERRUN (R158): after 100 beats in a row. -/
def execEnergyOverrun (s : State) : Out :=
  .next (
    if s.loom.overBeats < 100 then s
    else ({ s with loom.overBeats := 0 }.unnamedEvent 158 (Reg.LOOM_PAGE s.loomActive) 0).handOff .fitting)

/-- OVERWRITE_RATIO_UPDATE (R150). -/
def execOverwriteRatioUpdate (s : State) : Out :=
  .next (s.loom.ovrAcc.foldl (fun t e =>
    { t with loom.ovr := tPut t.loom.ovr e.1 (ratioStep (t.ovrOf e.1) e.2.1 e.2.2) }) { s with loom.ovrAcc := [] })

/-- CLAIM (R137). -/
def execClaim (tag tenant : Nat) (items : List ClaimItem) (cmd : Option Nat) (s : State) : Out :=
  .next (if s.linkUp then s.claim tag tenant items cmd else s)

/-- CLAIM_ANSWER (R137, R140). -/
def execClaimAnswer (tag : Nat) (grant : ClaimReply) (s : State) : Out :=
  .next (if s.linkUp then s.claimAnswer tag grant else s)

/-- SHADOW (R138). -/
def execShadow (added removed : List ShadowItem) (s : State) : Out :=
  .next (
    if s.linkUp then
      { s with loom.shadow := s.loom.shadow.filter (fun b => !(removed.map shadowOf).contains b) ++ added.map shadowOf }
    else s)

end Sys2Proof.Machine
end

