-- ==== Sys2Proof/Machine/Aperture.lean ====
section
/-!
DEFINITION. Sys2Proof/Machine/Aperture.lean: the DRAM aperture of BAR2/3 (R494).
-/

namespace Sys2Proof.Machine

/-- The block types of the data path. -/
def dataPathType (t : BlockType) : Bool :=
  match t with
  | .ethp | .xpt | .heddle | .nvmf | .loom | .reed | .dpc | .selv | .segw | .media | .mapx | .modp => true
  | _ => false

namespace State

/-- Bytes of DRAM behind trained channels. -/
def dramBytes (s : State) : Nat :=
  (List.range 16).foldl (fun n i =>
    if s.fld (Reg.DRAMC_STATUS_TRAIN i) = 2 then n + s.fld (Reg.DRAMC_STATUS_SIZE_GIB i) * 2 ^ 30 else n) 0

/-- Whether the aperture reaches all of the DRAM: RECOVERY or TEST with every data-path block OFF. -/
def apertureOpen (s : State) : Bool :=
  s.bootMode != 0 && (List.range (blockCount + 1)).all (fun p =>
    match blockAt p with
    | some (b, _) => !dataPathType b.type || s.blk p == OFF
    | none => true)

/-- Whether a DRAM byte address lies in the trace ring. -/
def inTraceRing (s : State) (a : Nat) : Bool :=
  let base := s.act Reg.TRACE_DRAM_BASE_BASE * 2 ^ 26
  decide (base ≤ a) && decide (a < base + s.traceRing)

/-- The word of a trace record that the ring holds at a DRAM word index. -/
def traceWord? (s : State) (w : Nat) : Option Word :=
  let i := w - s.act Reg.TRACE_DRAM_BASE_BASE * 2 ^ 23
  (tGet? s.trc.ring (i / 2)).map (fun r =>
    if i % 2 = 0 then BitVec.ofNat 64 (r.src + r.type * 2 ^ 8 + r.time * 2 ^ 16) else r.payload)

/-- A DRAM word as it reads: what was written there, or a free value that stays from its first read on. -/
def dramWord (s : State) (w : Nat) : Word × State :=
  match tGet? s.up.dram w with
  | some v => (v, s)
  | none =>
    let n := s.draw
    (Config.openWord n.1, { n.2 with up.dram := tPut n.2.up.dram w (Config.openWord n.1) })

/-- An access through the aperture at a 64-bit word (R494). -/
def aperture (s : State) (write : Bool) (addr : Nat) (data : Word) : State :=
  if !s.barReachable then s
  else
    let a := s.fld Reg.UPEP_APERTURE_BASE_GIB * 2 ^ 30 + addr
    let w := a / 8
    if s.apertureOpen && decide (a < s.dramBytes) then
      if write then { s with up.dram := tPut s.up.dram w data }
      else
        let r := s.dramWord w
        r.2.emit (.apertureData r.1)
    else if !s.apertureOpen && !write && s.inTraceRing a then
      match s.traceWord? w with
      | some v => s.emit (.apertureData v)
      | none =>
        let r := s.dramWord w
        r.2.emit (.apertureData r.1)
    else
      let s1 := s.bump (Reg.UPEP_CNT 0) 1
      if write then s1 else s1.emit (.apertureData 0)

end State

open State

/-- APERTURE_ACCESS (R494). -/
def execApertureAccess (write : Bool) (addr : BitVec 36) (data : Word) (s : State) : Out := .next (s.aperture write addr.toNat data)

end Sys2Proof.Machine
end

