-- ==== Sys2Proof/Machine/WritePath.lean ====
section
/-!
DEFINITION. Sys2Proof/Machine/WritePath.lean: the grain pipeline, dedup lookups, the journal record of a command, mirroring, rows
and DRAM channels (R169 to R200, R206 to R212).
-/

namespace Sys2Proof.Machine

/-- Pipeline results in grain order (R175). -/
def sortOuts (l : List (Nat × Delta × Option Form)) : List (Nat × Delta × Option Form) :=
  l.foldl (fun acc o => acc.filter (fun x => decide (x.1 ≤ o.1)) ++ o :: acc.filter (fun x => !decide (x.1 ≤ o.1))) []

/-- Whether a pipeline result is a range delta. -/
def isRange (d : Delta) : Bool := match d with | .deallocRange _ _ | .copyRange _ _ _ => true | _ => false

/-- Whether a command holds a grain's pipeline result. -/
def hasOut (c : HCmd) (g : Nat) : Bool := c.outs.any (fun o => o.1 == g && !isRange o.2.1)

/-- Deltas with their forms numbered in record order, and the forms (R177, R178). -/
def layOut (l : List (Nat × Delta × Option Form)) : List Delta × List Form :=
  l.foldl (fun a o => match o.2.1, o.2.2 with
    | .store c g _ old, some f => (a.1 ++ [Delta.store c g a.2.length old], a.2 ++ [f])
    | d, _ => (a.1 ++ [d], a.2)) ([], [])

namespace State

/-! ## Failures of a write before its header -/

/-- A write-class command that fails before its header completes with an error, and no grain changes (R109, R114). -/
def failWrite (s : State) (id sct sc : Nat) : State :=
  match s.cmd? id with
  | none => s
  | some c =>
    let s1 := (s.abandon id).answer c sct sc 0
    if c.fwdFrom.isSome then s1
    else
      let s2 := (s1.countDone c).missCheck c
      if sct = 2 && sc = 0x81 then s2.tcntAdd c.tenant 10 1 else s2

/-- A write whose tenant's slot is empty receives the busy status (R401, R502). -/
def busyAbandon (s : State) (id : Nat) : State :=
  match s.cmd? id with
  | none => s
  | some c =>
    let s1 := s.abandon id
    let s2 := if s1.up.busyTenants.contains c.tenant then s1 else { s1 with up.busyTenants := s1.up.busyTenants ++ [c.tenant] }
    (s2.answer c 0 0x82 3).upRefresh

/-! ## Lookups (R206 to R211) -/

/-- A grain's offset within its record. -/
def goffOf (s : State) (c : HCmd) (g : Nat) : Nat :=
  match s.vol? c.volume, c.ranges.head? with
  | some _, some r => g - (grainSpan c.lbaf r.1 r.2).1
  | _, _ => 0

/-- A grain that is not recognised is stored under its reserved id. -/
def lookupStore (s : State) (id : Nat) (l : Lookup) : State :=
  s.grainStore id l.grain l.chunk l.dpc (digestNumber l.fp) l.plain l.ok

/-- A miss, counted. -/
def lookupMiss (s : State) (id : Nat) (l : Lookup) : State := (s.bump Reg.MAPX_MISS_CNT 1).lookupStore id l

/-- A lookup whose answer has not come in time (R208): a miss, stored under an id of its own, because the partner's shard may still insert
an entry for the id that was reserved; that id is the next to be used. -/
def lookupLapse (s : State) (id : Nat) (l : Lookup) : State :=
  match s.poolClaim.reserveId with
  | some (k, t) => (t.returnId l.chunk).lookupMiss id { l with chunk := k }
  | none => s.lookupMiss id l

/-- A hit is used: the reserved id goes back, the keeper's count rises here when this head keeps the pool (R207, R212, R235). -/
def lookupUse (s : State) (id : Nat) (c : HCmd) (l : Lookup) (k : Nat) (pending : Bool) : State :=
  let s2 := if s.keepsPool (poolOf k) then s.countUp k 1 else s
  let own := c.outs.any (fun o => match o.2.1 with | .store x _ _ _ => x == k | _ => false)
  ((s2.bump Reg.MAPX_HIT_CNT 1).returnId l.chunk).putOut id l.grain
    (if pending && !own then .pending k (s.goffOf c l.grain) none else .dedup k (s.goffOf c l.grain) none) none

/-- A hit whose chunk the other head keeps waits for its confirmation (R236). -/
def lookupConfirm (s : State) (id : Nat) (c : HCmd) (l : Lookup) (k : Nat) : State :=
  if s.keepsPool (poolOf k) then s.lookupUse id c l k false
  else
    (s.modCmd id (fun x => { x with lookups := x.lookups.filter (fun y => y.grain != l.grain) ++ [{ l with confirm := some k }] })).sendMsg
      0x0205 [id, l.grain, k, c.tenant, digestNumber l.fp / 2 ^ 160 % 2 ^ 32]

/-- A stale entry is deleted in its shard (R206, R210). -/
def staleDelete (s : State) (fp k : Nat) : State :=
  if s.holdsShard fp then
    (s.setBucketOf fp ((s.bucketOf fp).filter (fun e => !(e.fp == fp % 2 ^ 160 && e.chunk == k)))).indexShow.bump Reg.MAPX_STALE_CNT 1
  else s.sendMsg 0x0207 [k, 2]

/-- The hit's stored form, where VERIFY may take it: the own region or the read cache (R211). A line of the read cache may have been
replaced, because the spec states no replacement: the command's operand says whether it stands. -/
def verifyForm (s : State) (k : Nat) (cached : Bool) : Option Form :=
  match s.chunk? (s.resolve k) with
  | some e => if (e.state == .journaled && e.segment == 0) || (cached && s.mp.cache.contains (s.resolve k)) then s.formOf k else none
  | none => none

/-- What a grain does with the result of its lookup (R209 to R211). -/
def lookupDone (s : State) (id : Nat) (c : HCmd) (l : Lookup) (hit : Option IdxHit) : State :=
  let fp := digestNumber l.fp
  match hit with
  | none => s.lookupMiss id l
  | some h =>
    if h.pending then
      if c.red % 4 = 1 && h.pendHead = s.headIndex then
        if s.chunkTests c.tenant fp h.chunk then s.lookupUse id c l h.chunk true else (s.staleDelete fp h.chunk).lookupMiss id l
      else s.lookupMiss id l
    else if c.red % 4 = 1 then s.lookupConfirm id c l h.chunk
    else
      match s.verifyForm h.chunk l.cached with
      | none =>
        let s1 := (s.bump Reg.MAPX_VERIFY_DEFER_CNT 1).lookupStore id l
        { s1 with mp.reweave := s1.mp.reweave ++ [(h.chunk, l.chunk)] }
      | some f =>
        if f.plain = l.plain then s.lookupConfirm id c l h.chunk
        else
          ((s.bump Reg.MAPX_VERIFY_MISMATCH_CNT 1).event 0x0301 Reg.MAPX_PAGE
            (argWord [(0, c.tenant), (2, h.chunk % 2 ^ 40)]) (BitVec.ofNat 64 l.chunk)).lookupStore id l

/-- A found entry as an answer. -/
def hitOf (h : Option (Nat × Bool × Nat)) : Option IdxHit := h.map (fun x => ⟨x.1, x.2.1, x.2.2⟩)

/-- A grain's lookup: an id is reserved before it; the partner's shard is asked on class C2 (R207, R208). -/
def grainLookup (s : State) (id : Nat) (c : HCmd) (g dpc : Nat) (plain : Bytes) (ok cached : Bool) : State :=
  match s.poolClaim.reserveId with
  | none => s
  | some (k, s1) =>
    let d := Config.sha256 (s.saltOf c.tenant ++ plain)
    let fp := digestNumber d
    let l : Lookup := ⟨g, k, d, plain, none, dpc, ok, cached⟩
    if c.red % 4 = 0 || c.red % 4 = 3 then s1.lookupStore id l
    else if s1.holdsShard fp then
      let f := s1.shardLookup c.tenant fp k s1.headIndex
      f.st.lookupDone id c l (hitOf f.hit)
    else
      (s1.modCmd id (fun x => { x with lookups := x.lookups ++ [l] })).sendMsg 0x0203 [id, g, c.tenant, k, fp]

/-- One grain of a command through the pipeline (R174). -/
def grainRun (s : State) (id g dpc : Nat) (ok cached : Bool) : State :=
  match s.cmd? id with
  | none => s
  | some c =>
    match s.vol? c.volume with
    | none => s
    | some _ =>
      if !s.serving || c.phase != .run || c.fwdTo || !(s.pipeGrains c).contains g || hasOut c g || c.lookups.any (fun l => l.grain == g)
          || s.grainWaits id c g then s
      else if s.keyEmptyOf c.tenant then s.busyAbandon id
      else
        let n := s.goffOf c g
        let pi := if c.lbaf = 1 && c.kind == .write && !c.pi.pract && c.pi.prchk != 0 then piAt c n else .good
        match pi with
        | .missing => s
        | .bad _ => match piFirst c n with | .bad sc => s.failWrite id 2 sc | _ => s
        | .good =>
          if !s.oldReadable c g then (s.danglingSeen c.volume g).failWrite id 2 0x81
          else
            match s.grainPlain c g with
            | none => s
            | some p => s.grainLookup id c g dpc p ok cached

/-! ## The record (R176 to R179) -/

/-- Whether an unheaded command is to store a chunk. -/
def storingWaits (s : State) (id k : Nat) : Bool :=
  s.nv.cmds.any (fun e => e.1 != id && e.2.phase != .headed
    && e.2.outs.any (fun o => match o.2.1 with | .store x _ _ _ => x == k | _ => false))

/-- Whether a command's record can be headed: every grain is out, and every chunk it references as PENDING is stored by a headed
record (R179). -/
def recordReady (s : State) (id : Nat) (c : HCmd) : Bool :=
  c.phase == .run && !c.fwdTo && isWriteKind c.kind && c.lookups.isEmpty && (s.pipeGrains c).all (hasOut c)
    && c.outs.all (fun o => match o.2.1 with | .pending k _ _ => !s.storingWaits id k | _ => true)

/-- The old chunk of a grain written into a delta (R178). -/
def fillOld (s : State) (vol first : Nat) (d : Delta) : Delta :=
  match d with
  | .store c g f _ => .store c g f (s.lookup vol (first + g))
  | .dedup c g _ => .dedup c g (s.lookup vol (first + g))
  | .pending c g _ => .pending c g (s.lookup vol (first + g))
  | x => x

/-- The record of a command, its deltas laid out in grain order. -/
def recordOf (s : State) (c : HCmd) (v : Volume) : JRec :=
  let x := layOut (sortOuts c.outs)
  let first := match c.ranges.head? with | some r => (grainSpan c.lbaf r.1 r.2).1 | none => 0
  let deltas := x.1.map (s.fillOld c.volume first)
  { blankRec with
    type := match c.kind with | .write => 1 | .copy => 3 | _ => 2
    fua := c.fua
    fwd := c.fwdFrom.isSome
    pi := c.lbaf == 1
    rmw := c.lbaf == 2 && c.ranges.any (fun r => r.1 % 8 != 0 || (r.1 + r.2) % 8 != 0)
    bytes := recordSize deltas x.2
    volume := c.volume
    group := v.group
    cls := c.cls + 4 * (s.headIndex % 2)
    tenant := c.tenant
    first := first
    time := c.accepted
    snapGen := c.snapGen
    deltas := deltas
    forms := x.2 }

/-- Stored bytes that the loss of a list of references releases: those of chunks no other reference holds. -/
def releasedBy (s : State) (olds : List Nat) : Nat :=
  olds.dedup.foldl (fun n k => match s.chunk? k with
    | some e => if e.count ≤ (olds.filter (fun x => x == k)).length then n + 32 * e.len32 else n
    | none => n) 0

/-- The index entry of a stored chunk loses `PENDING`, in the shard that holds it (R210). -/
def pendingDone (s : State) (tenant : Nat) (f : Form) : State :=
  if s.holdsShard (fingerprint (s.saltOf tenant) f.plain) then s.clearPending f.chunk else s.sendMsg 0x0207 [f.chunk, 0]

/-- Grains of a volume with `COMP_MODE` 2 that count toward the training sample (R224). -/
def sampleCount (s : State) (c : HCmd) (n : Nat) : State :=
  if c.red / 16 % 4 = 2 then { s with mp.training := tPut s.mp.training c.volume (tGet s.mp.training c.volume 0 + n) } else s

/-- What the header of a command's record does beside the map (R151, R210, R212, R478): counts of hits kept by the other head,
tenant counters, pending entries, the debt ledger's true-up, the overwrite ratio's and the compression ratio's figures. -/
def headerSide (s : State) (id : Nat) (c : HCmd) (r : JRec) (olds : List Nat) : State :=
  let hits := r.deltas.filterMap (fun d => match d with | .dedup k _ _ | .pending k _ _ => some k | _ => none)
  let s1 := hits.foldl (fun t k => if t.keepsPool (poolOf k) then t else t.countUp k 1) s
  let s2 := s1.tcntAdd c.tenant 13 hits.length
  let s3 := r.forms.foldl (fun t f => t.pendingDone c.tenant f) s2
  let due : Int := (ceilDiv (c.f * s.releasedBy olds) 4096 : Nat)
  let s4 := (s3.ledgerAdd c.tenant (due - (c.est : Int))).modCmd id (fun x => { x with est := 0 })
  let written := (r.deltas.filter (fun d => !isRange d)).length
    + r.deltas.foldl (fun n d => match d with | .copyRange _ _ k => n + k | _ => n) 0
  let replaced := if written = 0 then 0 else olds.length
  let acc := tGet s4.loom.ovrAcc c.tenant (0, 0)
  let s5 := { s4 with loom.ovrAcc := if written = 0 then s4.loom.ovrAcc else tPut s4.loom.ovrAcc c.tenant (acc.1 + written, acc.2 + replaced) }
  let s6 := if c.kind = .write then
      s5.ratioNote c.tenant c.bytes (r.forms.foldl (fun n f => n + formBytes f) 0)
    else s5
  s6.sampleCount c written

/-- The leaves that a record has left wholly deallocated are removed, in a CONTROL record after it (R245). -/
def dropLeaves (s : State) (r : JRec) (leaves : List Nat) : State :=
  let x := leaves.foldl (fun (a : State × List Ctl) li =>
    let y := a.1.dropLeaf r.volume li
    (y.1, a.2 ++ y.2)) (s, [])
  let gone := x.2.filterMap (fun c => match c.body with | id :: _ :: _ :: 3 :: _ => (s.page? id).map (fun p => (id, p)) | _ => none)
  (gone.foldl (fun t e => t.imageDies e.1 e.2) x.1).journalCtl x.2

/-- The record header of a command is written (R179): leaves older than the live generation are copied first (R252), the record takes
its `SEQ`, its deltas change the maps, and its forms go to be packed. -/
def recordHead (s : State) (id : Nat) : State :=
  match s.cmd? id with
  | none => s
  | some c =>
    match s.vol? c.volume, c.ext with
    | some v, some (off, blks) =>
      let r0 := s.recordOf c v
      let s1 := s.readyLeaves r0
      let x := s1.headAt r0 off blks c.tee
      let r := { r0 with seq := x.1 }
      let y := x.2.applyDeltas r
      let s2 := { y.1 with jr.own := y.1.jr.own.map (fun (q : JRec) => if q.seq = x.1 then { q with olds := y.2 } else q) }
      let s3 := (s2.headerSide id c r y.2).modCmd id (fun z => { z with
        phase := .headed
        seq := some x.1
        outs := []
        rule := s.ruleNow c
        refs := y.1.recordRefs r })
      ((s3.dropLeaves r (s.deltaLeaves r0)).syncHead id r).packWaiting.settle
    | _, _ => s

/-! ## Acknowledgements (R185, R235) -/

/-- The partner's acknowledgements: own records become MIRRORED, and records of the partner's that are FLASHED let their old chunks
go here too and retire from the mirror. -/
def mirrorAck (s : State) (acked flashed : List Nat) : State :=
  let s1 := s.markMirrored (fun r => acked.contains r.seq)
  let ready := s1.jr.mir.filter (fun r => flashed.contains r.seq && !r.flashed)
  let s2 := { s1 with jr.mir := s1.jr.mir.map (fun (r : JRec) => if flashed.contains r.seq then { r with flashed := true } else r) }
  let s3 := ready.foldl (fun t r => t.lower r.olds) s2
  ({ s3 with jr.mir := s3.jr.mir.dropWhile (fun r => r.flashed) }).selvShow.settle

/-- A record is sent again from the own region (R185). -/
def mirrorResend (s : State) (seq : Nat) : State :=
  match s.jr.own.find? (fun r => r.seq == seq) with
  | some r =>
    if s.linkUp && !s.solo && !s.chip.holdup && !r.mirrored then (s.sendRecord r).bump Reg.SELV_RESEND_CNT 1 else s
  | none => s

/-! ## Rows -/

/-- A row is closed, and forms that wait go on into the next (R187, R188). -/
def rowClose (s : State) (seg : Nat) : State :=
  match s.seg? seg with
  | some g => match g.row with
    | some r => if r.st = .filling && !(r.forms.isEmpty && r.pages.isEmpty) && s.ownSeg seg then (s.closeRow seg).packWaiting else s
    | none => s
  | none => s

/-! ## DRAM channels (R20, R184, R199) -/

/-- A clean map page that DRAM has lost is no longer resident; it is re-paged from flash. -/
def pageLost (s : State) (id : Nat) : State :=
  match s.page? id with
  | some p => if p.flash.isSome then (s.setPage id { p with resident := false }).residentShow else s
  | none => s

/-- Channels in service: those trained that have neither failed nor been retired. -/
def channelsIn (s : State) : Nat :=
  16 - ((List.range 16).filter (fun i => s.jr.lostCh.contains i || s.blk (Reg.DRAMC_PAGE i) == RETIRED)).length

/-- Lines of the read cache in lost DRAM are discarded (R20, R199): which lines lay there is open (log entry 87). -/
def cacheLoss (s : State) : State :=
  let d := s.draw
  { d.2 with mp.cache := d.2.mp.cache.filter (Config.cacheKeeps d.1) }

/-- An index entry of a lost channel is re-loaded from the runs on flash; one that no run holds yet is dropped (R20). -/
def reloadIndex (s : State) (k : Nat) : State :=
  let s1 := s.withdrawIndex k
  match ((s.mp.runs.flatMap (fun r => r.2)).filter (fun (x : IdxEntry) => x.chunk == k && !x.pending && s.holdsShard x.fp && s.chunkUsable k)).getLast? with
  | some x =>
    let b := s1.bucketOf x.fp
    (s1.setBucketOf x.fp ((if 8 ≤ b.length then evictOne b else b) ++ [x])).indexShow
  | none => s1

/-- A channel fails: both regions are served through parity, what two lost channels have hidden is unreadable, and re-striping starts
(R20, R184). -/
def dramFail (s : State) (i : Nat) (pages chunks : List Nat) : State :=
  if s.jr.lostCh.contains i || s.chip.cond = .reset then s
  else
    let s1 := { s with jr.lostCh := s.jr.lostCh ++ [i], jr.restriping := true }.toState (Reg.DRAMC_PAGE i) FAILED
    let s2 := ((s1.setFld Reg.SELV_STATUS_CHANNELS s1.channelsIn).setBit Reg.SELV_STATUS_DEGRADED true).regionsHurt i
    (chunks.foldl reloadIndex (pages.foldl pageLost s2)).cacheLoss

end State

open State

/-- GRAIN_PIPELINE (R174). -/
def execGrainPipeline (cmd grain : Nat) (dpc : Fin 18) (verified cached : Bool) (s : State) : Out :=
  .next (s.grainRun cmd grain dpc.val verified cached)

/-- IDX_LOOKUP (R207, R208). -/
def execIdxLookup (tag grain tenant chunk : Nat) (fp : Word256) (s : State) : Out :=
  .next (
    if s.linkUp && s.holdsShard (digestNumber fp) then
      let f := s.shardLookup tenant (digestNumber fp) chunk (1 - s.headIndex % 2)
      match f.hit with
      | some h => f.st.sendMsg 0x0204 [tag, grain, 1, h.1, h.2.1.toNat, h.2.2]
      | none => f.st.sendMsg 0x0204 [tag, grain, 0, 0, 0, 0]
    else s)

/-- The waiting lookup of a grain. -/
def lookupAt? (s : State) (id g : Nat) : Option (HCmd × Lookup) :=
  match s.cmd? id with
  | some c => (c.lookups.find? (fun l => l.grain == g)).map (fun l => (c, l))
  | none => none

/-- IDX_ANSWER (R208, R210). -/
def execIdxAnswer (cmd grain : Nat) (hit : Option IdxHit) (s : State) : Out :=
  .next (
    match lookupAt? s cmd grain with
    | some (c, l) => if l.confirm.isNone then s.lookupDone cmd c l hit else s
    | none => s)

/-- INDEX_LOOKUP_TIMEOUT (R208, R236). -/
def execIndexLookupTimeout (cmd grain : Nat) (s : State) : Out :=
  .next (
    match lookupAt? s cmd grain with
    | some (_, l) =>
      let s1 := s.bump (if l.confirm.isNone then Reg.MAPX_REMOTE_TO_CNT else Reg.MAPX_CONFIRM_FAIL_CNT) 1
      if l.confirm.isSome then s1.lookupMiss cmd l else s1.lookupLapse cmd l
    | none => s)

/-- RECORD_HEADER_WRITE (R179). -/
def execRecordHeaderWrite (cmd : Nat) (s : State) : Out :=
  .next (
    match s.cmd? cmd with
    | some c => if s.serving && s.recordReady cmd c then s.recordHead cmd else s
    | none => s)

/-- MIRROR_ACK (R185, R235). -/
def execMirrorAck (acked flashed : List Nat) (s : State) : Out :=
  .next (if s.linkUp && !s.chip.holdup then s.mirrorAck acked flashed else s)

/-- MIRROR_RESEND (R185). -/
def execMirrorResend (seq : Nat) (s : State) : Out := .next (s.mirrorResend seq)

/-- ROW_CLOSE (R188). -/
def execRowClose (segment : Nat) (s : State) : Out := .next (s.rowClose segment)

/-- ROW_CLOSE_TIMEOUT (R188). -/
def execRowCloseTimeout (segment : Nat) (s : State) : Out := .next (s.rowClose segment)

/-- STALL (R191): the owner releases the command as a stall of its own. -/
def execStall (tag : Nat) (s : State) : Out :=
  .next (
    if s.linkUp then
      match s.nv.cmds.find? (fun e => e.2.fwdFrom == some tag) with
      | some e => if e.2.phase = .headed then s else s.abandon e.1
      | none => s
    else s)

/-- RESTRIPE_COMPLETE (R184): the regions lie on the channels that remain. -/
def execRestripeComplete (s : State) : Out :=
  .next (
    if s.jr.restriping then
      ({ s with jr.restriping := false }.restripe s.stripeChannels).setBit Reg.SELV_STATUS_DEGRADED false
    else s)

/-- DRAM_UNCORRECTABLE_ERROR (R194, R199): a protected region is repaired from channel parity, where the stripe's other blocks and its parity
can be read (R183) and no further error (`rebuilt`) prevents it; what parity cannot rebuild is dumped as read in hold-up mode. -/
def execDramUncorrectableError (channel : Fin 16) (address : Word) (data : DramData) (s : State) : Out :=
  let s1 := (s.bump (Reg.DRAMC_ECC_UE channel.val) 1).setReg (Reg.DRAMC_UE_ADDR channel.val) address
  .next (
    match data with
    | .record own seq rebuilt =>
      let region := if own then 0 else 1
      match (if own then s1.jr.own else s1.jr.mir).find? (fun r => r.seq == seq) with
      | none => s1
      | some r =>
        if rebuilt && s1.recordRebuilt region r channel.val then s1
        else if own then { s1 with jr.badOwn := (s1.jr.badOwn ++ [seq]).dedup } else { s1 with jr.badMir := (s1.jr.badMir ++ [seq]).dedup }
    | .cacheLine => s1.cacheLoss
    | .page id => s1.pageLost id
    | .index chunk => s1.reloadIndex chunk)

end Sys2Proof.Machine
end

