-- ==== Sys2Proof/Machine/Reduction.lean ====
section
/-!
DEFINITION. Sys2Proof/Machine/Reduction.lean: the tally audit, the flash-resident index, re-weave, dictionaries, the reduction
settings and the index shards (R206 to R216, R223, R224, R228).
-/

namespace Sys2Proof.Machine

namespace State

/-! ## Rows written in bulk -/

/-- Data units in a row of full width. -/
def rowData (s : State) : Nat := max 1 (s.mediaWidth - 2)

/-- Rows of a type queued to be written whole, one after another (R266). -/
def bulkRows (s : State) (t : Nat) (rows : List (List Bytes × List (Nat × Nat))) : State :=
  { s with md.bulk := s.md.bulk ++ rows.map (fun (d : List Bytes × List (Nat × Nat)) => BulkRow.mk t d.1 d.2) }.bulkNext t

/-- An index run written in rows of an INDEX segment (R215): its entries, 32 bytes each (R205), one after another over the data units. -/
def bulkRun (s : State) (entries : List IdxEntry) : State :=
  let units := (List.range (ceilDiv entries.length 2048)).map (fun i => ((entries.drop (2048 * i)).take 2048).flatMap idxBytes)
  s.bulkRows 5 ((List.range (ceilDiv units.length s.rowData)).map (fun i => ((units.drop (s.rowData * i)).take s.rowData, [])))

/-! ## The tally audit (R214) -/

/-- References that map pages, dictionaries, aliases, records that are not FLASHED and commands without a header hold on a
chunk. -/
def tallyOf (s : State) (c : Nat) : Nat :=
  let leaf := s.mp.pages.foldl (fun n p => if p.2.level = 0 then n + (p.2.ents.filter (fun e => e.2 == c)).length else n) 0
  let dict := s.mp.dicts.foldl (fun n d => n + (d.2.pieces.filter (fun p => p == c)).length) 0
  let alias_ := (s.mp.chunks.filter (fun e => e.2.state == .alias_ && e.2.target == c)).length
  let olds := ((s.jr.own ++ s.jr.mir).filter (fun r => !r.flashed)).foldl (fun n r => n + (r.olds.filter (fun o => o == c)).length) 0
  let waits := s.nv.cmds.foldl (fun n e => if e.2.phase = .headed then n
    else n + (e.2.outs.filter (fun o => match o.2.1 with
      | .store k _ _ _ | .dedup k _ _ | .pending k _ _ => k == c
      | _ => false)).length) 0
  leaf + dict + alias_ + olds + waits + (if s.solo then 0 else (s.mp.confirmed.filter (fun x => x == c)).length)

/-- The rotating sweep: the tenant's chunks after an id, in pools this head keeps, then those before it. -/
def sweepIds (s : State) (tenant : Nat) : List Nat :=
  let l := (s.mp.chunks.filter (fun e => e.2.tenant == tenant && s.keepsPool (poolOf e.1))).map (fun e => e.1)
  l.filter (fun c => decide (s.mp.sweep < c)) ++ l.filter (fun c => decide (c ≤ s.mp.sweep))

/-- An audit begins: the ids handed over come first, and the sweep fills the set. -/
def auditStart (s : State) (tenant : Nat) : State :=
  if s.mp.audit.isSome || !s.serving then s
  else
    let given := s.mp.auditSet.filter (fun c => ((s.chunk? c).map (fun e => e.tenant == tenant)).getD false && s.keepsPool (poolOf c))
    let ids := (given ++ (s.sweepIds tenant).filter (fun c => !given.contains c)).take 16777216
    { s with
      mp.audit := some ⟨tenant, ids.map (fun c => (c, 0))⟩
      mp.auditSet := s.mp.auditSet.filter (fun c => !ids.contains c)
      mp.sweep := ids.getLastD s.mp.sweep }

/-- One id of an audit: its stored count lowered, kept or raised to its tally. -/
def auditOne (s : State) (c : Nat) : State :=
  match s.chunk? c with
  | none => s
  | some e =>
    let n := s.tallyOf c
    if n = e.count then s
    else if n < e.count then
      let s1 := s.bump Reg.MAPX_AUDIT_LOWER_CNT 1
      if n = 0 && e.state != .freeing then (s1.setChunk c { e with count := 1 }).countDown c else s1.setChunk c { e with count := n }
    else
      ((s.setChunk c { e with count := min n 0xFFFFF }).bump Reg.MAPX_AUDIT_UNDER_CNT 1).event 0x0302 Reg.MAPX_PAGE
        (argWord [(0, e.tenant)]) (BitVec.ofNat 64 c)

/-- The cursor of the audit ends. -/
def auditFinish (s : State) : State :=
  match s.mp.audit with
  | none => s
  | some a => a.tally.foldl (fun t x => t.auditOne x.1) { s with mp.audit := none }

/-! ## The flash-resident index (R215, R216) -/

/-- Index entries ordered by fingerprint, the newer of two with one fingerprint kept. -/
def sortEntries (l : List IdxEntry) : List IdxEntry :=
  l.foldl (fun acc e =>
    let a := acc.filter (fun x => decide (x.fp < e.fp) || (x.fp == e.fp && decide (x.tenant ≤ e.tenant)))
    let b := acc.filter (fun x => decide (e.fp < x.fp) || (x.fp == e.fp && decide (e.tenant < x.tenant)))
    a ++ e :: b) []

/-- The newest of the entries that name one chunk for one fingerprint of one tenant, the older of them first in the list. -/
def newestEntries : List IdxEntry → List IdxEntry
  | [] => []
  | e :: l => if l.any (fun x => x.fp == e.fp && x.tenant == e.tenant && x.chunk == e.chunk) then newestEntries l else e :: newestEntries l

/-- Index entries of 32 bytes in 64 MiB. -/
def runMax : Nat := 2097152

/-- A run with the highest `AGE` of its entries (R215). -/
def runOf (l : List IdxEntry) : Nat × List IdxEntry := (l.foldl (fun n e => max n e.age) 0, l)

/-- The oldest part of the index log is written as a run. -/
def runWrite (s : State) : State :=
  if s.mp.idxLog.isEmpty then s
  else
    let n := min runMax s.mp.idxLog.length
    let run := sortEntries (s.mp.idxLog.take n)
    { s with mp.idxLog := s.mp.idxLog.drop n, mp.runs := s.mp.runs ++ [runOf run] }.bulkRun run

/-- Whether an entry of a run still passes the tests of R206 that it carries. -/
def entryLive (s : State) (e : IdxEntry) : Bool :=
  match s.chunk? e.chunk with
  | some c => s.chunkUsable e.chunk && c.tenant == e.tenant
  | none => false

/-- Runs merged by fingerprint. -/
def mergeRuns (s : State) : State :=
  if s.mp.runs.length < 2 then s
  else
    let l := (newestEntries (sortEntries (s.mp.runs.flatMap (fun r => r.2)))).filter s.entryLive
    let dead := s.md.segs.map (fun (e : Nat × Seg) => if e.2.type = 5 then (e.1, { e.2 with live := 0 }) else e)
    { s with
      mp.runs := if l.isEmpty then [] else [runOf l]
      md.segs := dead
      md.bulk := s.md.bulk.filter (fun (b : BulkRow) => b.type != 5) }.bulkRun l

/-- Whether two chunks of a tenant hold equal content: the bytes under VERIFY, 192 bits of the fingerprint under TRUST (R211,
R216). -/
def equalContent (s : State) (tenant a b : Nat) : Bool :=
  match tGet? s.mp.forms a, tGet? s.mp.forms b with
  | some f, some g =>
    if s.redOf tenant % 4 = 2 then f.plain == g.plain
    else fingerprint (s.saltOf tenant) f.plain % 2 ^ 192 == fingerprint (s.saltOf tenant) g.plain % 2 ^ 192
  | _, _ => false

/-- A stored form becomes dead space while its chunk stays: its bytes leave the segment and the tenant, its dictionary loses a
name. -/
def formDies (s : State) (c : Nat) (e : Chunk) : State :=
  let s1 := (s.liveDies c e).tcntSub e.tenant 12 (physBytes e)
  let s2 := match tGet? s1.mp.forms c with | some f => if f.kind = 2 then s1.dictRef f.dictId false else s1 | none => s1
  { s2 with mp.forms := tDel s2.mp.forms c }

/-- An alias of B named anew as one of A, so that no alias names an alias (R216); B's count falls when the record is FLASHED. -/
def retarget (s : State) (x a b : Nat) : State :=
  let s1 := { s with mp.chunks := tMod s.mp.chunks x (fun (e : Chunk) => { e with target := a }) }.countUp a 1
  (s1.appendRec { blankRec with ctl := [⟨0x04, [x, a, 1]⟩], bytes := 128, olds := [b] }).2

/-- Of two chunks, B becomes an alias of A, the older (R216); aliases that name B come to name A. Which chunk is older the model knows by the
time of its allocation, the lower id on a tie: DESIGN CHOICE (log entry 140). -/
def makeAlias (s : State) (p q : Nat) : State :=
  let older := fun (c : Nat) => (s.chunk? c).map (fun e => e.born)
  let a := if (older q).getD 0 < (older p).getD 0 || ((older q).getD 0 = (older p).getD 0 && q < p) then q else p
  let b := if a = q then p else q
  match s.chunk? a, s.chunk? b with
  | some x, some y =>
    let inPlace := fun (e : Chunk) => e.state == .journaled || e.state == .located
    if a != b && x.tenant == y.tenant && inPlace x && inPlace y && s.equalContent x.tenant a b then
      let s0 := (s.mp.chunks.filter (fun e => e.2.state == .alias_ && e.2.target == b)).foldl (fun (t : State) e => t.retarget e.1 a b) s
      let y1 := (s0.chunk? b).getD y
      if y1.state = .freeing then s0
      else
        let s1 := (s0.formDies b y1).setChunk b { y1 with state := .alias_, len32 := 0, segment := 0, row := 0, member := 0, off := 0, target := a }
        ((s1.countUp a 1).journalCtl [⟨0x04, [b, a, 1]⟩]).bump Reg.MAPX_ALIAS_CNT 1
    else s
  | _, _ => s

/-! ## Dictionaries (R223, R224) -/

/-- The lowest dictionary slot that may be filled: empty, or named by no chunk and current for no volume. -/
def dictSlot (s : State) : Option Nat :=
  (List.range 4096).find? (fun k =>
    match tGet? s.mp.dicts k with
    | none => true
    | some d => d.refs == 0 && !s.nv.volumes.any (fun v => v.2.dict % 2 ^ 30 / 256 == k && v.2.dict != 0))

/-- A content cut into 4 KiB pieces, the last filled with zeros. -/
def cutPieces : Nat → Bytes → List Bytes
  | 0, _ => []
  | n + 1, b => if b.isEmpty then [] else ((b.take 4096) ++ List.replicate (4096 - (b.take 4096).length) 0) :: cutPieces n (b.drop 4096)

/-- One piece of a dictionary stored, or recognised in this head's shard: its chunk, and its form when it is new. -/
def pieceStore (s : State) (tenant red : Nat) (plain : Bytes) : Option (Nat × Option Form × State) :=
  let fp := fingerprint (s.saltOf tenant) plain
  match s.poolClaim.reserveId with
  | none => none
  | some (k, s1) =>
    let found : Option Nat × State :=
      if red % 4 = 1 && s1.holdsShard fp then
        let f := s1.shardLookup tenant fp k s1.headIndex
        match f.hit with
        | some (c, false, _) => if f.st.keepsPool (poolOf c) then (some c, f.st) else (none, f.st)
        | _ => (none, f.st)
      else (none, s1)
    match found.1 with
    | some c => some (c, none, (found.2.countUp c 1).returnId k)
    | none =>
      let x := found.2.storeGrain tenant 0 red k (found.2.activeDpcs.headD 0) fp plain true
      let f := { x.1 with dictPiece := true }
      some (k, some f, { x.2 with mp.forms := tPut x.2.mp.forms k f })

/-- The pieces of a dictionary stored in order. -/
def piecesStore (tenant red : Nat) : List Bytes → State → Option (List Nat × List Form × State)
  | [], s => some ([], [], s)
  | b :: t, s =>
    match s.pieceStore tenant red b with
    | none => none
    | some (c, f, s1) => (piecesStore tenant red t s1).map (fun r => (c :: r.1, f.toList ++ r.2.1, r.2.2))

/-- A dictionary is installed as a volume's current dictionary, in one CONTROL record (R224). -/
def dictInstall (s : State) (volume : Nat) (content : Bytes) : State :=
  match s.vol? volume, s.dictSlot with
  | some v, some slot =>
    match piecesStore v.tenant (s.redOf v.tenant) (cutPieces 16 content) s with
    | none => s
    | some (pieces, forms, s1) =>
      let old := tGet? s1.mp.dicts slot
      let ver := (old.map (fun d => d.version)).getD 0 % 255 + 1
      let d : Dict := ⟨v.tenant, ver, pieces, content.length, Config.sha256 content, 0⟩
      let s2 := { s1 with mp.dicts := tPut s1.mp.dicts slot d }.modVol volume (fun x => { x with dict := 2 ^ 30 + 256 * slot + ver })
      let c : Ctl := ⟨0x30, [slot, ver, v.tenant, volume, content.length] ++ pieces⟩
      let n := 64 + 32 + ctlBytes c + forms.foldl (fun m f => m + formBytes f) 0
      let s3 := (s2.appendRec { blankRec with tenant := v.tenant, ctl := [c], forms := forms, bytes := ceilDiv n 32 * 32, olds := (old.map (fun o => o.pieces)).getD [] }).2
      (forms.foldl (fun t f => t.pendingDone v.tenant f) s3).packWaiting.settle
  | _, _ => s

/-- Training ends with a candidate (R224): installed when it saves at least 3% of the held-back bytes. -/
def dictTrain (s : State) (volume : Nat) (content : Bytes) (candidate current : Nat) : State :=
  match s.vol? volume with
  | none => s
  | some v =>
    if !s.serving || !s.ownsGroup v.group || v.dictMode != 0 || s.redOf v.tenant / 16 % 4 != 2 || tGet s.mp.training volume 0 < 262144
        || !dictForm content then s
    else
      let s1 := { s with mp.training := tDel s.mp.training volume }
      if candidate * 100 ≤ current * 97 then s1.dictInstall volume content else s1

/-! ## Reduction settings -/

/-- A write of `RED_CMD` with `GO`. -/
def redGo (s : State) (op tenant : Nat) (f : State → State) : State :=
  s.barWrite Reg.MAPX_RED_CMD (fun t => f ((t.setFld Reg.MAPX_RED_CMD_OP op).setFld Reg.MAPX_RED_CMD_TENANT tenant))

/-! ## Index shards (R208, R228) -/

/-- Index entries placed again in the buckets of the table in use; a full bucket keeps what R207 keeps. -/
def rehash (s : State) : State :=
  let all := s.mp.index.flatMap (fun b => b.2.map (fun e => (b.1 / 2 ^ 34, e)))
  (all.foldl (fun (t : State) (x : Nat × IdxEntry) =>
    let k := x.1 * 2 ^ 34 + x.2.fp / 2 % 2 ^ t.bucketLog
    let b := tGet t.mp.index k []
    { t with mp.index := tPut t.mp.index k ((if 8 ≤ b.length then evictOne b else b) ++ [x.2]) })
    { s with mp.index := [] }).indexShow

/-- A shard rebuild ends: lookups switch to the new table at the next beat boundary (R228). -/
def rebuildDone (s : State) : State := if s.mp.rebuild.isSome then { s with mp.rebuilt := true } else s

/-- The new table: what the old one holds, and the inserts of the rebuild that the old one has evicted (R228). -/
def newTable (s : State) : State :=
  let held := s.mp.index.flatMap (fun b => b.2)
  let more := s.mp.newIns.filter (fun e => !held.any (fun x => x.fp == e.fp && x.tenant == e.tenant && x.chunk == e.chunk))
  { s with
    mp.index := more.foldl (fun m (e : IdxEntry) =>
      let k := shardOf e.fp * 2 ^ 34 + 2 ^ 33
      tPut m k (tGet m k [] ++ [e])) s.mp.index
    mp.newIns := [] }.rehash

/-- The beat boundary at which lookups switch to the new table; a second change waits no longer (R228). -/
def rebuildTake (s : State) : State :=
  match s.mp.rebuild, s.mp.rebuilt with
  | some n, true => { s with mp.tableLog := n, mp.rebuild := s.mp.rebuildNext, mp.rebuildNext := none, mp.rebuilt := false }.newTable
  | _, _ => s

/-- Entries of the partner's shard, held here in solo mode. -/
def partnerEntries (s : State) : List IdxEntry :=
  (s.mp.index.filter (fun b => b.1 / 2 ^ 34 != s.headIndex % 2)).flatMap (fun b => b.2)

/-- An index entry as the numbers of a message. -/
def entryBody (e : IdxEntry) : List Nat := [e.fp, e.chunk, e.pending.toNat, e.pendHead, e.tenant, e.hint, e.age]

/-- The partner's shard is handed back whole (R208). -/
def handBack (s : State) : State :=
  if s.mp.solo && !s.solo && s.linkUp then
    let es := s.partnerEntries
    let s1 := s.sendMsg 0x0300 (es.length :: es.flatMap entryBody)
    { s1 with mp.index := s1.mp.index.filter (fun b => b.1 / 2 ^ 34 == s1.headIndex % 2), mp.solo := false }.rehash
  else s

/-- A shard's entries taken in at the head they are handed to; the last of them end the hand-over (R208). -/
def takeShard (s0 : State) (es : List IdxEntry) (last : Bool) : State :=
  let s := if last then { s0 with mp.away := false } else s0
  (es.foldl (fun (t : State) e =>
    let k := t.bucketKey e.fp
    let b := tGet t.mp.index k []
    { t with mp.index := tPut t.mp.index k ((if 8 ≤ b.length then evictOne b else b) ++ [e]) }) s).indexShow

end State

open State

/-- PENDING_CLEAR (R210): what the other head asks of an entry of this head's shard. -/
def execPendingClear (chunk : Nat) (op : Fin 3) (s : State) : Out :=
  .next (
    if s.linkUp then
      match op.val with
      | 0 => s.clearPending chunk
      | 1 => s.withdrawPending chunk
      | _ => (s.withdrawPending chunk).bump Reg.MAPX_STALE_CNT 1
    else s)

/-- TALLY_AUDIT_START (R214). -/
def execTallyAuditStart (tenant : BitVec 12) (s : State) : Out := .next (s.auditStart tenant.toNat)

/-- TALLY_AUDIT_FINISH (R214). -/
def execTallyAuditFinish (s : State) : Out := .next s.auditFinish

/-- INDEX_RUN_WRITE (R215): 64 MiB have collected. -/
def execIndexRunWrite (s : State) : Out := .next (if runMax ≤ s.mp.idxLog.length then s.runWrite else s)

/-- INDEX_RUN_FLUSH_TIMER (R215): 1 s has passed. -/
def execIndexRunFlushTimer (s : State) : Out := .next s.runWrite

/-- REWEAVE (R216). -/
def execReweave (pair : Option (Nat × Nat)) (s : State) : Out :=
  .next (
    if !s.serving then s
    else
      match pair with
      | none => s.mergeRuns
      | some p => { s with mp.reweave := s.mp.reweave.filter (fun x => x != p) }.makeAlias p.1 p.2)

/-- DICT_TRAINING (R224). -/
def execDictTraining (volume : BitVec 16) (content : Bytes) (candidate current : Nat) (s : State) : Out :=
  .next (s.dictTrain volume.toNat content candidate current)

/-- RED_WRITE_STAGED (R209). -/
def execRedWriteStaged (tenant : BitVec 12) (data : Word) (s : State) : Out :=
  .next (s.redGo 1 tenant.toNat (fun t =>
    { t.setReg Reg.MAPX_RED_DATA (data &&& 0xB3) with mp.redS := tPut t.mp.redS tenant.toNat (data &&& 0xB3).toNat }))

/-- RED_READ_STAGED (R209). -/
def execRedReadStaged (tenant : BitVec 12) (s : State) : Out :=
  .next (s.redGo 2 tenant.toNat (fun t => t.setReg Reg.MAPX_RED_DATA (BitVec.ofNat 64 (tGet t.mp.redS tenant.toNat 0xA1))))

/-- RED_READ_ACTIVE (R209). -/
def execRedReadActive (tenant : BitVec 12) (s : State) : Out :=
  .next (s.redGo 3 tenant.toNat (fun t => t.setReg Reg.MAPX_RED_DATA (BitVec.ofNat 64 (t.redOf tenant.toNat))))

/-- INDEX_REBUILD_DONE (R228). -/
def execIndexRebuildDone (s : State) : Out := .next s.rebuildDone

/-- SHARD_HANDBACK (R208). -/
def execShardHandback (entries : List IdxEntry) (last : Bool) (s : State) : Out :=
  .next (if s.mp.solo then (if last then s.handBack else s) else s.takeShard entries last)

end Sys2Proof.Machine
end

