-- ==== Sys2Proof/Machine/Stripes.lean ====
section
/-!
DEFINITION. Sys2Proof/Machine/Stripes.lean: suspect units, lost members, stripe states, the victim queue, rows that fail, and chunks
set LOST (R264, R271, R275, R276, R293, R295, R296, R300, R302).
-/

namespace Sys2Proof.Machine

namespace State

/-! ## Stripe states (R295, R300) -/

/-- Whether a segment has a stripe state. -/
def hasStripeState (g : Seg) : Bool := g.st == .closed || g.st == .victim || g.st == .drained

/-- Lost or suspect members of a segment's worst row. -/
def worstRow (s : State) (id : Nat) (g : Seg) : Nat :=
  (s.md.suspect.filter (fun x => x.1 == id)).foldl (fun n x => max n (s.lostIn id x.2.2).length) g.lost.length

/-- This head's segments with their stripe damage. -/
def stripes (s : State) : List (Nat × Seg × Nat) :=
  (s.md.segs.filter (fun e => s.ownSeg e.1 && hasStripeState e.2)).map (fun e => (e.1, e.2, s.worstRow e.1 e.2))

/-- One segment's first move into DEGRADED or CRITICAL recorded. -/
def stripeNote (s : State) (x : Nat × Seg × Nat) : State :=
  if x.2.2 = 1 && !x.2.1.degradedSeen then
    (s.modSeg x.1 (fun g => { g with degradedSeen := true })).event 0x0603 Reg.SEGW_PAGE (BitVec.ofNat 64 x.1) 0
  else if x.2.2 = 2 && !x.2.1.criticalSeen then
    (s.modSeg x.1 (fun g => { g with criticalSeen := true })).event 0x0604 Reg.SEGW_PAGE (BitVec.ofNat 64 x.1) 0
  else s

/-- Whether the recovery window of a loss stays open: a segment that holds a member lost in it is DEGRADED or CRITICAL (R300). -/
def windowOpen (l : List (Nat × Seg × Nat)) (hits : List (Nat × Nat)) : Bool :=
  l.any (fun x => (x.2.2 == 1 || x.2.2 == 2) && hits.any (fun h => h.1 == x.1 && x.2.1.lost.contains h.2))

/-- `SEGW`'s stripe registers and the recovery windows brought up to date; a further broken stripe breaks a guarantee condition (R164). -/
def stripeEval (s : State) : State :=
  let l := s.stripes
  let s1 := l.foldl stripeNote s
  let n := fun (f : Nat → Bool) => (l.filter (fun x => f x.2.2)).length
  let w := s1.md.windows.filter (windowOpen l)
  let worse := decide (s1.fld Reg.SEGW_BROKEN_COUNT < n (fun k => decide (3 ≤ k)))
  let s2 := { (if worse then s1.markHurt 2 (fun _ => true) else s1) with md.windows := w }
  let s3 := (s2.setFld Reg.SEGW_STRIPE_STATUS_DEGRADED (n (fun k => k == 1))).setFld Reg.SEGW_STRIPE_STATUS_CRITICAL (n (fun k => k == 2))
  ((s3.setBit Reg.SEGW_STRIPE_STATUS_REBUILD (l.any (fun x => x.2.2 != 0 && x.2.1.st != .drained))).setBit Reg.SEGW_STRIPE_STATUS_WINDOW
    (!w.isEmpty)).setFld Reg.SEGW_BROKEN_COUNT (n (fun k => decide (3 ≤ k)))

/-- Members are lost in one loss: its recovery window opens when a segment of this head holds one of them (R300). -/
def windowBegin (s : State) (hits : List (Nat × Nat)) : State :=
  let own := hits.filter (fun x => s.ownSeg x.1)
  if own.isEmpty then s else { s with md.windows := s.md.windows ++ [own] }

/-- A suspect unit entered in the table (R293); a member all of whose units are suspect is lost (R295), and its recovery window opens. -/
def suspectAdd (s : State) (seg member row : Nat) : State :=
  if s.md.suspect.contains (seg, member, row) then s
  else if 4096 ≤ s.md.suspect.length then s.bump (Reg.SEGW_CNT 7) 1
  else
    let s1 := { s with md.suspect := s.md.suspect ++ [(seg, member, row)] }
    let s2 := s1.setFld Reg.SEGW_SUSPECT_USED_COUNT s1.md.suspect.length
    let n := (s2.md.suspect.filter (fun x => x.1 == seg && x.2.1 == member)).length
    match s2.seg? seg with
    | some g =>
      if n = g.rows && !g.lost.contains member then
        ((s2.setSeg seg { g with lost := g.lost ++ [member] }).windowBegin [(seg, member)]).stripeEval
      else s2.stripeEval
    | none => s2.stripeEval

/-! ## The victim queue (R271, R276) -/

/-- A victim placed behind those of its order and the orders before it. -/
def addVictim (s : State) (v : Victim) : State :=
  { s with md.victims := s.md.victims.filter (fun (x : Victim) => decide (x.order ≤ v.order)) ++ v
      :: s.md.victims.filter (fun (x : Victim) => decide (v.order < x.order)) }.mediaShow

/-- A member scheduled for relocation (R276): counted by its cause, and the lowest corrected-bit ratio dropped from a full queue. -/
def relocate (s : State) (seg member ratio : Nat) (cause : Option Nat) : State :=
  if s.md.victims.any (fun v => v.seg == seg && v.member == some member) || !s.ownSeg seg then s
  else
    let s1 := match cause with | some k => s.mediaCnt k 1 | none => s
    let q := s1.md.victims.filter (fun v => v.member.isSome)
    let v : Victim := ⟨2, seg, some member, ratio⟩
    if q.length < 4096 then s1.addVictim v
    else
      match bestBy (fun (a b : Victim) => a.ratio < b.ratio) (q ++ [v]) with
      | some w => ({ s1.addVictim v with md.victims := dropFirst (fun (x : Victim) => x == w) (s1.addVictim v).md.victims }.mediaCnt 5 1).mediaShow
      | none => s1

/-! ## Rows that fail (R189, R275, R296) -/

/-- A segment closes early at its last durable row and enters order 3 of the victim queue. -/
def earlyClose (s : State) (seg : Nat) : State :=
  match s.seg? seg with
  | none => s
  | some g =>
    if g.st != .opened then s
    else
      (s.setSeg seg { g with st := .closed, early := true, closedAt := s.now, row := none }).addVictim ⟨3, seg, none, 0⟩

/-- What a row that will not become durable held goes back: map pages are dirty again, journal records wait again, and moved forms
are packed anew; a row written whole waits in front of the others of its type. -/
def repack (s0 : State) (t : Nat) (r : Row) : State :=
  let s := match r.raw with | some d => { s0 with md.bulk := ⟨t, d, r.tables⟩ :: s0.md.bulk }.bulkNext t | none => s0
  let s1 := r.pages.foldl (fun t p => match t.page? p.1 with
    | some x => t.setPage p.1 { x with dirty := true, dirtyAt := p.2 }
    | none => t) s
  let s2 := { s1 with jr.jwait := r.recs ++ s1.jr.jwait }
  ((r.forms.filter (fun f => f.moved)).foldl (fun t f => (t.packForm 2 f.chunk f.len32 true 3).getD t) s2).packWaiting

/-- The row of an open segment fails. -/
def rowFail (s : State) (seg : Nat) : State :=
  match s.seg? seg with
  | some g =>
    match g.row with
    | some r => (s.earlyClose seg).repack g.type r
    | none => s.earlyClose seg
  | none => s

/-! ## Lost members (R295, R296) -/

/-- A member of a segment is lost. -/
def memberLost (s : State) (seg member : Nat) : State :=
  match s.seg? seg with
  | none => s
  | some g =>
    if g.lost.contains member then s
    else
      let s1 := s.setSeg seg { g with lost := g.lost ++ [member] }
      if g.st = .opened then s1.rowFail seg
      else if g.row.isNone then s1
      else if g.type = 7 then s1.rootFail seg
      else if g.type = 6 then s1.vaultDone seg member false
      else s1

/-- Every member block that lies where `p` says is lost, in one loss (R295, R300). -/
def blocksLost (s : State) (p : Nat × Nat × Nat → Bool) : State :=
  let hits := s.md.segs.flatMap (fun e => (List.range e.2.members.length).filterMap (fun m =>
    if p (e.2.members.getD m (64, 0, 0)) && !e.2.lost.contains m then some (e.1, m) else none))
  ((hits.foldl (fun t x => t.memberLost x.1 x.2) s).windowBegin hits).stripeEval

/-! ## LOST chunks (R302) -/

/-- A chunk with no readable copy is set LOST, for a cause of R303: journaled, recorded, counted, and its extents searched. -/
def chunkLost (s : State) (c cause : Nat) : State :=
  match s.chunk? c with
  | none => s
  | some e =>
    if e.state = .lost || e.state = .freeing then s
    else
      let s1 := (s.formDies c e).setChunk c { e with state := .lost, len32 := 0, segment := 0, row := 0, member := 0, off := 0 }
      let s2 := (s1.journalCtl [⟨0x03, [c, 5, 0]⟩]).bump (Reg.SEGW_CNT 5) 1
      { s2.event 0x0601 Reg.SEGW_PAGE (argWord [(0, e.tenant), (2, cause)]) (BitVec.ofNat 64 c) with
        md.lostChunks := s2.md.lostChunks ++ [(c, cause, s.now)] }

/-! ## Thresholds (R276) -/

/-- The correction capability of a member's module. -/
def cbCapOf (s : State) (k : Nat) : Nat := ((s.module k).geom.map (fun g => g.cbCap)).getD 0

/-- A read completion of a member is held against the thresholds of relocation (R276). Which counter takes one that exceeds both the rule does not
say: that of the corrected bits, DESIGN CHOICE (log entry 127). -/
def readMarginal (s : State) (seg member corrected retry : Nat) : State :=
  match s.seg? seg with
  | none => s
  | some g =>
    let k := (g.members.getD member (0, 0, 0)).1
    let cap := max 1 (s.cbCapOf k)
    if s.act (Reg.MEDIA_CFG_RELOC_CB_PCT s.mediaActive) * cap < corrected * 100 then
      s.relocate seg member (corrected * 1000 / cap) (some 3)
    else if s.act (Reg.MEDIA_CFG_RELOC_RETRY s.mediaActive) ≤ retry then s.relocate seg member (corrected * 1000 / cap) (some 4)
    else s

end State

end Sys2Proof.Machine
end

