-- ==== Sys2Proof/Machine/ReadStage.lean ====
section
/-!
DEFINITION. Sys2Proof/Machine/ReadStage.lean: the DPC stage of a read and the reconstruction of a grain that fails its checks (R103,
R114, R139, R220, R221, R227, R288 to R292, R401).
-/

namespace Sys2Proof.Machine

/-- Big-endian bytes of a number. -/
def beBytes (x n : Nat) : Bytes := (List.range n).map (fun i => BitVec.ofNat 8 (x / 256 ^ (n - 1 - i)))

/-- The protection information a read sends with a block (R114): guard, application tag, reference tag, big-endian. -/
def piBytes (plain : Bytes) (lbat lba : Nat) : Bytes := beBytes (guardOf plain).toNat 8 ++ beBytes lbat 2 ++ beBytes lba 6

/-- The `DPC.RED_ERR_CNT` that a decompressor's error advances (R221). -/
def redErr : ReadCheck → Option Nat
  | .expansion => some 0
  | .short => some 1
  | .format => some 2
  | .dict => some 3
  | .good | .crc | .chunk | .domain | .guard | .bytes _ => none

/-- Whether a stripe read of a plan uses parity (R143). -/
def isRebuild (p : Plan) : Bool := p.members != [p.member]

namespace State

/-- Whether a dictionary named by a header is installed and its content has the digest of its table entry (R221, R223). -/
def dictStands (s : State) (id : Nat) : Bool :=
  match tGet? s.mp.dicts (id % 2 ^ 30 / 256) with
  | some d => d.version == id % 256 && Config.sha256 (s.dictContent id) == d.digest
  | none => false

/-- The checks of a stored form's bytes in the order of R227: `CRC`, `CHUNK` against the resolved id, `DOMAIN` against the command's tenant,
decryption, decompression under R221, `GUARD`. The plain grain where every check is met. -/
def storedCheck (s : State) (dpc k tenant : Nat) (b : Bytes) : ReadCheck × Bytes :=
  let field := fun (o n : Nat) => leNumber ((b.drop o).take n)
  let len := field 14 2
  let p := (b.drop 32).take len
  if crc32c (byteNats p) != field 24 4 then (.crc, [])
  else if field 8 5 != k then (.chunk, [])
  else if field 16 2 % 4096 != tenant then (.domain, [])
  else
    let key := match tGet? s.sec.slots tenant with | some x => x.material.take 64 | none => []
    let q := Config.xts false key (BitVec.ofNat 128 (k % 2 ^ 40)) p
    let id := field 18 4
    let limit := min 4096 (s.act (Reg.DPC_DECOMP_CFG_OUT_LIMIT dpc))
    let u : ReadCheck × Bytes :=
      match field 13 1 with
      | 0 => if len = 4096 then (.good, q) else (.format, [])
      | n =>
        if 2 < n then (.format, [])
        else if n = 2 && !s.dictStands id then (.dict, [])
        else
          match unframe (if n = 2 then s.dictContent id else []) id limit q with
          | .plain x => (.good, x)
          | .expansion => (.expansion, [])
          | .short => (.short, [])
          | .format => (.format, [])
    if u.1 = .good && (guardOf u.2).toNat != field 0 8 then (.guard, []) else u

/-- The first check that fails in the order of R227, given what is read, what this DPC is set to, the resolved chunk and the command's tenant,
and the plain grain where none fails. -/
def readCheck (s : State) (dpc k tenant : Nat) (f : Form) (c : ReadCheck) : ReadCheck × Bytes :=
  match c with
  | .crc => (.crc, [])
  | .bytes b => s.storedCheck dpc k tenant b
  | _ =>
    if c = .chunk || f.chunk != k then (.chunk, [])
    else if c = .domain || f.tenant != tenant then (.domain, [])
    else if f.kind = 2 && !s.dictStands f.dictId then (.dict, [])
    else if f.kind = 0 && (redErr c).isSome then (.good, f.plain)
    else if f.kind != 0 && s.act (Reg.DPC_DECOMP_CFG_OUT_LIMIT dpc) < 4096 && (redErr c).isNone then (.expansion, [])
    else (c, if c = .good then f.plain else [])

/-- Whether a stripe read's media commands have all completed. -/
def readsIn (s : State) (id : Nat) (p : Plan) : Bool :=
  s.mo.mods.all (fun m => m.2.cmds.all (fun c => c.use != .hostRead id (p.grains.headD 0)))

/-- Where a grain lies in the command's data, its length there, and the bytes sent for it. -/
def grainSlice (s : State) (c : HCmd) (g : Nat) (plain : Bytes) : Option (Nat × Bytes) :=
  match s.vol? c.volume, c.ranges.head? with
  | some _, some r =>
    if c.lbaf = 2 then
      let lo := max r.1 (8 * g)
      let hi := min (r.1 + r.2) (8 * g + 8)
      some (512 * (lo - r.1), (plain.drop (512 * (lo - 8 * g))).take (512 * (hi - lo)))
    else if c.lbaf = 1 && !c.pi.pract then
      some (4112 * (g - r.1), plain ++ piBytes plain c.pi.lbat.toNat g)
    else some (4096 * (g - r.1), plain)
  | _, _ => none

/-- A read whose grains have all been sent, or a Compare whose grains have all been compared, completes (R107). -/
def readEnd (s : State) (id : Nat) : State :=
  match s.cmd? id with
  | some c => if c.todo.isEmpty then (if c.differs then s.finish id 2 0x85 else s.finish id 0 0) else s
  | none => s

/-- One grain's plain content goes to the host, to the head that forwarded the read, or to the comparison. -/
def grainOut (s : State) (id g : Nat) (c : HCmd) (plain : Bytes) : State :=
  match s.grainSlice c g plain with
  | none => s
  | some (off, bytes) =>
    let next := fun (u : State) (d : Bool) =>
      (u.modCmd id (fun x => { x with todo := x.todo.filter (fun y => y != g), differs := x.differs || d })).readEnd id
    if c.kind = .compare then
      match intake c off bytes.length with
      | none => s
      | some h => next s (h.take 4096 != bytes.take 4096)
    else
      match c.fwdFrom with
      | some tag => next (s.sendMsg 0x0201 ([tag, off] ++ bytes.map BitVec.toNat)) false
      | none => next (if c.mute then s else s.sendData c.conn c.cid off bytes) false

/-- The chunk of a grain is beyond repair (R291 step 3): it is set LOST and the command fails. -/
def readLost (s : State) (id k cause : Nat) : State := (((s.bump (Reg.SEGW_CNT 4) 1).chunkLost k cause).finish id 2 0x81).settle

/-- The media reads of one stripe read are issued. -/
def issuePlan (s : State) (id : Nat) (p : Plan) : State :=
  match s.seg? p.seg with
  | none => s
  | some g => p.members.foldl (fun u m =>
      let d := g.members.getD m (0, 0, 0)
      u.mqpIssue d.1 0x01 d.2.1 d.2.2 p.row (BitVec.ofNat 64 (p.pages.headD 0)) (BitVec.ofNat 64 p.pages.length) m
        (.hostRead id (p.grains.headD 0))) s

/-- A stripe read placed again for one grain against the command's unchanged deadline; without a place the command ends with
FAULT_ABORT, and the member is relocated (R291). `more` are further members treated as erased. -/
def redraftGrain (s : State) (id g : Nat) (c : HCmd) (p : Plan) (more : List Nat) (alts : List Nat) : State :=
  let with_ := { s with md.suspect := s.md.suspect ++ more.map (fun m => (p.seg, m, p.row)) }
  match placeStripe c.tenant (.cmd id) p (s.lastBeat c) alts ⟨with_, s.beat, 99⟩ with
  | .inr _ => (s.faultAbort id).relocate p.seg p.member 1000 none
  | .inl (d, q) =>
    let s2 := { d.st with md.suspect := s.md.suspect }.modCmd id (fun x => { x with
      plan := (x.plan.map (fun (y : Plan) => { y with grains := y.grains.filter (fun z => z != g) })).filter (fun (y : Plan) => !y.grains.isEmpty) ++ [q] })
    s2.issuePlan id q

/-- A grain whose form on flash fails its checks (R291, R292). -/
def reconstruct (s : State) (id g k : Nat) (c : HCmd) (e : Chunk) : State :=
  let pages := beatsFrom (e.off * 32 / 16384) ((e.off * 32 + e.len32 * 32 - 1) / 16384)
  match c.plan.find? (fun p => p.grains.contains g) with
  | none =>
    s.redraftGrain id g c { seg := e.segment, row := e.row, member := e.member, pages := pages, members := [], grains := [g], tries := 0 } []
      (s.altsOf e.segment e.row e.member)
  | some p =>
    let width := ((s.seg? p.seg).map (fun x => x.width)).getD 2
    let q : Plan := { p with members := [], grains := [g], pages := pages, tries := p.tries + 1 }
    if p.tries = 0 && !isRebuild p then
      let s1 := (s.suspectAdd p.seg p.member p.row).relocate p.seg p.member 1000 none
      match s1.altsOf p.seg p.row p.member with
      | [] => s1.readLost id k 1
      | a => s1.redraftGrain id g c q [] a
    else if p.tries = 1 && 3 ≤ width then
      if s.lostIn p.seg p.row = [p.member] then
        s.redraftGrain id g c q [width - 2] [2]
      else s.readLost id k 2
    else if p.tries = 0 then
      match (s.altsOf p.seg p.row p.member).filter (fun n => n == 2 && !p.members.contains (width - 1)) with
      | [] => s.readLost id k 2
      | a => s.redraftGrain id g c { q with tries := 2 } [] a
    else s.readLost id k 2

/-- The read cache after a read of a chunk from flash: which lines it holds then is open (R16, log entry 87). -/
def cacheFill (s : State) (k : Nat) : State :=
  let d := s.draw
  { d.2 with mp.cache := (k :: d.2.mp.cache).dedup.filter (Config.cacheKeeps d.1) }

/-- Whether channel parity covers the blocks of the record that holds a chunk's form in a region (R183). -/
def formCovered (s : State) (k : Nat) : Bool :=
  let at_ := fun (region : Nat) (l : List JRec) => (l.find? (fun r => r.forms.any (fun f => f.chunk == k))).map (fun r =>
    (s.ringSpan region r.off (ceilDiv r.bytes 4096)).all (s.rebuildable region))
  ((at_ 0 s.jr.own).or (at_ 1 s.jr.mir)).getD false

/-- A form in a Selvedge region fails its checks (R290): it is re-read through channel parity, which is the grain's next read, and then asked of
the partner's mirror; with no copy there the chunk is lost. -/
def journalBad (s : State) (id k : Nat) : State :=
  if !s.jr.reread.contains k && s.formCovered k then { s with jr.reread := s.jr.reread ++ [k] }
  else
    let s1 := { s with jr.reread := s.jr.reread.filter (fun x => x != k) }
    if s1.linkUp && !s1.solo then { s1 with jr.asked := tPut s1.jr.asked k false }.sendMsg 0x0208 [1, k] else s1.readLost id k 4

/-- A stored form that has been read meets its checks (R227). -/
def formCheck (s : State) (id g k dpc : Nat) (c : HCmd) (f : Form) (flash : Option Chunk) (check : ReadCheck) : State :=
  let r := s.readCheck dpc k c.tenant f check
  if r.1 = .good then
    let s0 := { s with jr.reread := s.jr.reread.filter (fun x => x != k) }
    let s1 := if c.plan.any (fun p => p.grains.contains g && decide (0 < p.tries)) then s0.bump (Reg.SEGW_CNT 3) 1 else s0
    (if flash.isSome then s1.cacheFill k else s1).grainOut id g c r.2
  else
    let s1 := match redErr r.1 with | some n => s.bump (Reg.DPC_RED_ERR_CNT dpc n) 1 | none => s
    match flash with
    | some e => s1.reconstruct id g k c e
    | none => s1.journalBad id k

/-- A read-cache hit meets its checks (R290): a line that fails them is dropped, and the grain is drafted again from flash. -/
def cacheCheck (s : State) (id g k dpc : Nat) (c : HCmd) (f : Form) (check : ReadCheck) : State :=
  let r := (s.readCheck dpc k c.tenant f check).1
  if r = .good then s.formCheck id g k dpc c f none check
  else
    let s0 := match redErr r with | some n => s.bump (Reg.DPC_RED_ERR_CNT dpc n) 1 | none => s
    let s1 := { s0 with mp.cache := s0.mp.cache.filter (fun x => x != k) }
    match s1.chunkSource k with
    | .stripe _ e =>
      let pages := beatsFrom (e.off * 32 / 16384) ((e.off * 32 + e.len32 * 32 - 1) / 16384)
      s1.redraftGrain id g c { seg := e.segment, row := e.row, member := e.member, pages := pages, members := [], grains := [g], tries := 0 } []
        (s1.altsOf e.segment e.row e.member)
    | _ => s1

/-- One grain of a read in its DPC beat. -/
def grainRead (s : State) (id g dpc : Nat) (check : ReadCheck) : State :=
  match s.cmd? id with
  | none => s
  | some c =>
    if !s.serving || c.phase != .run || isWriteKind c.kind || c.fwdTo || !c.todo.contains g then s
    else
      match s.grainSource c.volume g with
      | .zero => s.grainOut id g c zeroGrain
      | .lost => s.finish id 2 0x81
      | .dangling => (s.danglingSeen c.volume g).finish id 2 0x81
      | .journal f =>
        if s.keyEmptyOf c.tenant then s.busyFinish id else s.formCheck id g f.chunk dpc c f none check
      | .cache k f => if s.keyEmptyOf c.tenant then s.busyFinish id else s.cacheCheck id g k dpc c f check
      | .stripe k e =>
        if s.keyEmptyOf c.tenant then s.busyFinish id
        else if c.plan.any (fun p => p.grains.contains g && !s.readsIn id p) then s
        else
          match tGet? s.mp.forms k with
          | some f => s.formCheck id g k dpc c f (some e) check
          | none => s.readLost id k 2

end State

open State

/-- GRAIN_READ_STAGE (R227). -/
def execGrainReadStage (cmd grain : Nat) (dpc : Fin 18) (check : ReadCheck) (s : State) : Out :=
  .next (s.grainRead cmd grain dpc.val check)

end Sys2Proof.Machine
end

