-- ==== Sys2Proof/Machine/Maps.lean ====
section
/-!
DEFINITION. Sys2Proof/Machine/Maps.lean: paging and write-back of map pages, the map journal, checkpoints, pinned volumes, snapshots,
the Bobbin cache's commands and the keeper's confirmation (R232, R236, R239 to R258), and what a durable row of any type lets happen.
-/

namespace Sys2Proof.Machine

namespace State

/-! ## Pages (R239, R240, R245) -/

/-- Whether this head owns the group of a volume. -/
def ownsVol (s : State) (v : Nat) : Bool := ((s.vol? v).map (fun x => s.ownsGroup x.group)).getD false

/-- Whether a command that has not completed holds a leaf (R239). -/
def heldLeaf (s : State) (p : Page) : Bool :=
  s.nv.cmds.any (fun e => e.2.volume == p.volume && (s.touchGrains e.2).any (fun g => leafOf g == p.key))

/-- Page slots of a MAP row. -/
def mapSlots (g : Seg) : Nat := 120 * dataMembers g

/-- A page image packed into the row of the open MAP segment; a row that it fills closes. -/
def mapPlace (s : State) (id applied : Nat) : Option State :=
  match s.rowFor 3 with
  | none => none
  | some (seg, s1) =>
    match s1.seg? seg with
    | none => none
    | some g =>
      match g.row with
      | none => none
      | some r =>
        let r' := { r with pages := r.pages ++ [(id, applied)], since := if r.pages.isEmpty then s.now else r.since }
        let s2 := ((s1.setSeg seg { g with row := some r' }).bump Reg.MAPX_WRITEBACK_CNT 1).emit (.mapIo id true)
        some (if mapSlots g ≤ r'.pages.length then s2.closeRow seg else s2)

/-- A dirty page of a group this head owns is written back (R245). -/
def writeBack (s : State) (id : Nat) : State :=
  match s.page? id with
  | some p =>
    if p.dirty && s.ownsVol p.volume then
      match s.mapPlace id p.applied with
      | some t => t.setPage id { p with dirty := false }
      | none => s
    else s
  | none => s

/-- Whether a page's latest image lies in a row that is not durable yet. -/
def inOpenRow (s : State) (id : Nat) : Bool :=
  s.md.segs.any (fun e => match e.2.row with | some r => r.pages.any (fun x => x.1 == id) | none => false)

/-- Unpinned leaves that are resident here. -/
def looseLeaves (s : State) : List (Nat × Page) :=
  s.mp.pages.filter (fun e => e.2.level == 0 && e.2.resident && s.ownsVol e.2.volume && !s.pinnedPage e.1 e.2)

/-- The least recently used leaf leaves DRAM while the space for unpinned leaves is exceeded (R239): a clean one goes, a dirty one is
written back first. -/
def evictN : Nat → State → State
  | 0, s => s
  | n + 1, s =>
    let l := s.looseLeaves
    if l.length * 512 ≤ s.act Reg.MAPX_MAP_CFG_LEAF_GIB * 2 ^ 30 then s
    else
      match bestBy (fun (a b : Nat × Page) => a.2.used < b.2.used)
          (l.filter (fun e => !s.heldLeaf e.2 && !s.inOpenRow e.1)) with
      | none => s
      | some (id, p) =>
        if p.dirty || p.flash.isNone then (evictN n (s.writeBack id)) else evictN n (s.setPage id { p with resident := false })

/-- Evictions, and the residency counts. -/
def evict (s : State) : State := (evictN (2 * s.mp.pages.length) s).residentShow

/-- `MAPX.MAP_STATUS.OVERLAY_PCT`. -/
def overlayShow (s : State) : State := s.setFld Reg.MAPX_MAP_STATUS_OVERLAY_PCT (s.mp.overlay.length * 100 / 2 ^ 28)

/-- A page is resident; the overlay entries above its image's `APPLIED_SEQ` are applied to it and go (R239, R241). -/
def loadPage (s : State) (id : Nat) : State :=
  match s.page? id with
  | none => s
  | some p =>
    if p.resident then s
    else
      let mine := (s.mp.overlay.filter (fun o => o.1 == id && decide (p.applied < o.2.1))).map (fun o => o.2.1)
      let q := { p with
        resident := true
        used := s.now
        dirty := p.dirty || !mine.isEmpty
        dirtyAt := if p.dirty then p.dirtyAt else mine.foldl min (mine.headD 0)
        applied := mine.foldl max p.applied }
      ({ s.setPage id q with mp.overlay := s.mp.overlay.filter (fun o => o.1 != id) }.bump Reg.MAPX_PAGEIN_CNT 1).overlayShow

/-- A page-in completes: with both CRC values good the page is resident; otherwise its unit is suspect and is read again through parity
(R239, R293). -/
def pageIn (s : State) (id : Nat) (good : Bool) : State :=
  match s.page? id with
  | none => s
  | some p =>
    if p.resident then s
    else if good then (s.loadPage id).evict
    else
      match p.flash with
      | some (seg, row, member, _) => ((s.suspectAdd seg member row).relocate seg member 1000 none).emit (.mapIo id false)
      | none => s

/-! ## Pages and records freed -/

/-- MAP_IMAGE FREE entries of pages, in as few CONTROL records as `ENTRIES` allows; each record's FLASHED point lets the chunks of its leaves
go (R243, R253). -/
def freeRecs : Nat → State → List (Nat × Page) → State
  | 0, s, _ => s
  | _, s, [] => s
  | n + 1, s, pages =>
    let part := pages.take 65535
    let ctl := part.map (fun e => mapImage e.1 e.2 3 0)
    let olds := part.flatMap (fun e => if e.2.level = 0 then e.2.ents.map (fun x => x.2) else [])
    freeRecs n (s.appendRec { blankRec with ctl := ctl, bytes := ctlSize ctl, olds := olds }).2 (pages.drop 65535)

/-- Pages are freed: a MAP_IMAGE FREE entry each, in CONTROL records whose FLASHED point lets each freed leaf's chunks go (R253). -/
def freePages (s : State) (ids : List Nat) : State :=
  let pages := ids.filterMap (fun i => (s.page? i).map (fun p => (i, p)))
  pages.foldl (fun t e =>
    { t.imageDies e.1 e.2 with
      mp.pages := tDel t.mp.pages e.1
      mp.overlay := t.mp.overlay.filter (fun o => o.1 != e.1) }) (freeRecs pages.length s pages)

/-! ## Durable rows (R189, R242, R245, R264) -/

/-- A page's image in a durable MAP row: its flash address and the MAP_ADDR entry. -/
def pageDurable (seg row : Nat) (a : State × List Ctl) (x : Nat × Nat × Nat) : State × List Ctl :=
  match a.1.page? x.2.1 with
  | none => a
  | some p =>
    let at_ := (seg, row, x.1 / 120, x.1 % 120)
    let s1 := ((a.1.imageDies x.2.1 p).liveAdd seg 512).setPage x.2.1 { p with flash := some at_ }
    let ck := s1.mp.ckpt.map (fun (r : Root) => { r with
      copy := { r.copy with pages := tMod r.copy.pages x.2.1 (fun (q : Page) => { q with flash := some at_ }) } })
    ({ s1 with mp.ckpt := ck }, a.2 ++ [⟨0x02, [x.2.1, p.volume, seg, row, x.1 / 120, x.1 % 120, x.2.2]⟩])

/-- A MAP row is durable. -/
def mapRowDurable (s : State) (seg row : Nat) (pages : List (Nat × Nat)) : State :=
  let x := (List.zip (List.range pages.length) pages).foldl (pageDurable seg row) (s, [])
  x.1.journalCtl x.2

/-- Bytes of a record in the map journal (R242). -/
def logBytes (r : JRec) : Nat := if r.type ≤ 3 then 64 + 32 * ceilDiv r.deltas.length 2 else r.bytes

/-- A record that waits for a map-journal row. -/
def waiting? (s : State) (q : Nat) : Option JRec :=
  if adoptMark ≤ q then s.jr.mir.find? (fun r => r.seq + adoptMark == q) else s.jr.own.find? (fun r => r.seq == q)

/-- A JOURNAL row is durable: the segment is live until a checkpoint covers it. -/
def logRowDurable (s : State) (seg : Nat) (recs : List Nat) : State :=
  let top := (recs.filter (fun q => decide (q < adoptMark))).foldl max 0
  let time := (recs.filter (fun q => decide (adoptMark ≤ q))).foldl (fun n q => max n (((s.waiting? q).map (fun r => r.time)).getD 0)) 0
  (s.modSeg seg (fun g => { g with
    live := g.live + 65536 * dataMembers g, area := max g.area top, logTime := max g.logTime time })).journalDurable recs

/-- Pages of the running checkpoint's cut that have not been placed go into MAP rows; a page that has not changed since the cut is clean
by it (R246). -/
def ckptPlace (s : State) : State :=
  match s.mp.ckpt with
  | none => s
  | some r0 =>
    let todo := r0.copy.pages.filter (fun e => e.2.dirty && s.ownsVol e.2.volume)
    (todo.foldl (fun (a : State × Bool) e =>
      if a.2 then a
      else
        match a.1.mapPlace e.1 e.2.applied with
        | none => (a.1, true)
        | some t =>
          let ck := t.mp.ckpt.map (fun (r : Root) => { r with
            copy := { r.copy with pages := tMod r.copy.pages e.1 (fun (q : Page) => { q with dirty := false }) } })
          let t1 := { t with mp.ckpt := ck }
          (match t1.page? e.1 with
            | some p => if p.ents = e.2.ents && p.slots = e.2.slots then t1.setPage e.1 { p with dirty := false } else t1
            | none => t1, false)) (s, false)).1

/-- A row written whole is durable: one of an INDEX segment is live while its run is in the run list; a row of checkpoint tables is live while a
root names its pages, and the running checkpoint's root names them from here on (R246). -/
def rawDurable (s : State) (seg row : Nat) (g : Seg) (r : Row) : State :=
  if g.type = 5 then s.modSeg seg (fun x => { x with live := x.live + 65536 * dataMembers g })
  else
    let new := (List.zip (List.range r.tables.length) r.tables).map (fun x => TableLoc.mk x.2.1 x.2.2 seg row x.1)
    let ck := s.mp.ckpt.map (fun (c : Root) => { c with
      tables := c.tables.filter (fun l => !r.tables.contains (l.table, l.page)) ++ new })
    { s.liveAdd seg (4096 * r.tables.length) with mp.ckpt := ck }

/-- A row whose every member has been programmed is durable: its segment goes on, or closes with its last row (R264), and what the row
holds is durable with it. -/
def rowMade (s : State) (seg : Nat) : State :=
  match s.seg? seg with
  | none => s
  | some g =>
    match g.row with
    | none => s
    | some r =>
      if g.type = 7 then s.rootDurable seg else
      let row := g.nextRow - 1
      let last := g.nextRow = g.rows
      let s1 := s.setSeg seg { g with
        row := none, durable := max g.durable g.nextRow, st := if last then .closed else g.st, closedAt := if last then s.now else g.closedAt }
      let s2 := if r.raw.isSome then s1.rawDurable seg row g r else match g.type with
        | 3 => s1.mapRowDurable seg row r.pages
        | 4 => s1.logRowDurable seg r.recs
        | _ => s1.rowDurable seg row r.forms
      ((s2.bulkNext g.type).ckptPlace.packWaiting.stripeEval).mediaShow.settle

/-! ## The map journal (R242) -/

/-- The longest prefix of the waiting records that fits a row. -/
def fitRecs (s : State) : List Nat → Nat → List Nat
  | [], _ => []
  | q :: t, room =>
    match s.waiting? q with
    | none => q :: fitRecs s t room
    | some r => if logBytes r ≤ room then q :: fitRecs s t (room - logBytes r) else []

/-- A map-journal row is closed with the records that wait, and written. -/
def journalRow (s : State) : State :=
  if s.jr.jwait.isEmpty then s
  else
    match s.rowFor 4 with
    | none => s
    | some (seg, s1) =>
      match s1.seg? seg with
      | none => s
      | some g =>
        match g.row with
        | none => s
        | some r =>
          let recs := s1.fitRecs s1.jr.jwait (65536 * dataMembers g)
          let n := recs.foldl (fun k q => k + ((s1.waiting? q).map logBytes).getD 0) 0
          { s1.setSeg seg { g with row := some { r with recs := recs } } with
            jr.jwait := s1.jr.jwait.drop recs.length, jr.jkib := s1.jr.jkib + ceilDiv n 1024 }.closeRow seg

/-- Whether a map-journal row closes for its volume or for a draft (R146, R242): `FLUSH_KIB` have collected or a row is full, or a command
that completes on flash waits. -/
def journalDue (s : State) : Bool :=
  let n := s.jr.jwait.foldl (fun k q => k + ((s.waiting? q).map logBytes).getD 0) 0
  decide (min (s.act Reg.MAPX_FLUSH_CFG_FLUSH_KIB * 1024) (65536 * (s.mediaWidth - 2)) ≤ n)
    || s.nv.cmds.any (fun e => e.2.phase == .headed && e.2.rule == 2)

/-! ## Checkpoints (R246) -/

/-- A chunk-table entry as it goes to flash: the location of a JOURNALED chunk is never written (R233). -/
def chunkWritten (e : Chunk) : Chunk :=
  if e.state = .journaled then { e with segment := 0, row := 0, member := 0, off := 0 } else e

/-- What a checkpoint writes of the maps. -/
def mapCopy (s : State) : MapCopy :=
  ⟨s.mp.chunks.map (fun e => (e.1, chunkWritten e.2)), s.mp.pools, s.mp.dicts, s.mp.pages, s.mp.nextPage, s.mp.snaps, s.mp.nextSnap, s.nv.volumes, s.nv.tenants,
    s.nv.groups, s.nv.groupGens, s.nv.psks, s.loom.active, s.mp.redA, s.own.members, s.repl.rels, s.md.blocks⟩

/-- The newer of two roots. -/
def newerOf (a b : Option Root) : Option Root :=
  match a, b with
  | some x, some y => if x.num < y.num then some y else some x
  | some x, none => some x
  | none, y => y

/-- Pages of a table, of so many entries each, in which an entry has come, gone or changed. -/
def changedPages {α : Type} [DecidableEq α] (per : Nat) (new was : List (Nat × α)) : List Nat :=
  ((new.filter (fun e => !was.contains e) ++ was.filter (fun e => !new.contains e)).map (fun e => e.1 / per)).dedup

/-- A chunk-table entry as its 16 bytes (R233). -/
def chunkBytes (e : Chunk) : Bytes := leField (chunkWords e).1 8 ++ leField (chunkWords e).2 8

/-- The code of a block state, in the order of R264's table. -/
def blkCode : BlkState → Nat
  | .erased => 0
  | .dirty => 1
  | .inSegment => 2
  | .reserved => 3
  | .bad => 4

/-- One 4 KiB page of entries of a size, each from what stands under its number. -/
def entryPage {α : Type} (l : List (Nat × α)) (size n : Nat) (bytes : Nat → α → Bytes) : Bytes :=
  (List.range (4096 / size)).flatMap (fun i =>
    let k := 4096 / size * n + i
    match tGet? l k with | some e => zeroFill (bytes k e) size | none => List.replicate size 0)

/-- A page of a checkpoint table: 0 chunks, 1 pages, 2 pools, 3 snapshots, 4 blocks. Of these the spec gives the chunk table's layout (R233); the
others' are the model's: DESIGN CHOICE (log entry 131). -/
def tablePage (c : MapCopy) (table n : Nat) : Bytes :=
  match table with
  | 0 => entryPage c.chunks 16 n (fun _ e => chunkBytes e)
  | 1 => entryPage c.pages 16 n (fun _ p =>
      match p.flash with | some a => layout 16 [(0, 6, flashAddress a.1 a.2.1 a.2.2.1 a.2.2.2), (6, 1, 1)] | none => layout 16 [(6, 1, 2)])
  | 2 => entryPage c.pools 16 n (fun _ p => layout 16 [(0, 1, 1), (1, 1, p.keeper)])
  | 3 => entryPage c.snaps 64 n (fun k x => ctlEntryBytes ⟨0x06, [1, k, x.volume, 0, x.gen, x.root, 0, x.beat]⟩)
  | _ => entryPage c.blocks 16 n (fun _ b => layout 16 [(0, 1, blkCode b.st), (1, 2, b.erases), (4, 3, b.seg)])

/-- The newest root. -/
def newestOf (s : State) : Option Root := newerOf s.mp.rootA s.mp.rootB

/-- The number of the newest root. -/
def newestRoot (s : State) : Nat := (s.newestOf.map (fun r => r.num)).getD 0

/-- The table pages that a checkpoint writes (R246, R268): those that have changed since the newest root's image, all where there is none, and
those that lie in a segment under collection. -/
def tablePages (s : State) (c : MapCopy) : List (Nat × Nat) :=
  let old := s.newestOf.map (fun r => r.copy)
  let flash := fun (m : MapCopy) => m.pages.map (fun (e : Nat × Page) => (e.1, e.2.flash))
  let pages := fun (t : Nat) (l : List Nat) => l.map (fun n => (t, n))
  let moved := match s.newestOf with
    | some r => (r.tables.filter (fun l => ((s.seg? l.seg).map (fun g => g.st == .victim)).getD false)).map (fun l => (l.table, l.page))
    | none => []
  (pages 0 (changedPages 256 c.chunks ((old.map (fun m => m.chunks)).getD []))
    ++ pages 1 (changedPages 256 (flash c) ((old.map flash).getD []))
    ++ pages 2 (changedPages 256 c.pools ((old.map (fun m => m.pools)).getD []))
    ++ pages 3 (changedPages 64 c.snaps ((old.map (fun m => m.snaps)).getD []))
    ++ pages 4 (changedPages 256 c.blocks ((old.map (fun m => m.blocks)).getD [])) ++ moved).dedup

/-- Table pages as the rows that hold them: sixteen pages a unit. -/
def tableRows (s : State) (c : MapCopy) (l : List (Nat × Nat)) : List (List Bytes × List (Nat × Nat)) :=
  (List.range (ceilDiv l.length (16 * s.rowData))).map (fun i =>
    let x := (l.drop (16 * s.rowData * i)).take (16 * s.rowData)
    ((List.range (ceilDiv x.length 16)).map (fun k => ((x.drop (16 * k)).take 16).flatMap (fun p => tablePage c p.1 p.2)), x))

/-- A checkpoint's tables are queued for their rows once its map pages are durable, so that the page table names them there (R246). -/
def ckptTables (s : State) : State :=
  match s.mp.ckpt with
  | none => s
  | some r =>
    if r.tabled || r.copy.pages.any (fun e => s.ownsVol e.2.volume && (e.2.dirty || s.inOpenRow e.1)) then s
    else { s with mp.ckpt := some { r with tabled := true } }.bulkRows 3 (s.tableRows r.copy (s.tablePages r.copy))

/-- A checkpoint cuts: everything headed so far is in its image, and its dirty pages go into MAP rows. -/
def ckptCut (s : State) : State :=
  let r : Root := { num := s.newestRoot + 1, cut := s.now, seq := (s.reg Reg.SELV_OWN_NEXT_SEQ).toNat
                    groups := (s.nv.groups.filter (fun e => e.2 == s.headIndex)).map (fun e => e.1)
                    copy := s.mapCopy, tables := (s.newestOf.map (fun x => x.tables)).getD [] }
  ({ s with mp.ckpt := some r, mp.ckptDue := false, mp.lastCut := s.now, jr.jkib := 0 }.setBit Reg.MAPX_MAP_STATUS_CKPT true).ckptPlace.ckptTables

/-- The 4 KiB root of a checkpoint (R246): number, cut, cut `SEQ`, the groups owned at the cut, the table addresses, and a CRC-32C. Their order
and widths, and how many addresses the root itself carries, are the model's: DESIGN CHOICE (log entry 131). -/
def rootImage (r : Root) : Bytes :=
  let groups := r.groups.foldl (fun n g => n + 2 ^ g) 0
  let b := layout 4092 ([(0, 8, r.num), (8, 8, r.cut), (16, 8, r.seq), (24, 32, groups), (56, 4, r.tables.length)]
    ++ (List.zip (List.range 250) r.tables).map (fun x => (64 + 16 * x.1, 6, flashAddress x.2.seg x.2.row (x.2.pos / 16) (x.2.pos % 16)))
)
  b ++ leField (crc32c (byteNats b)) 4

/-- A checkpoint is due: it cuts at the next beat boundary, or waits for the one that runs and is counted. -/
def ckptStart (s : State) : State :=
  if !s.serving then s
  else if s.mp.ckpt.isSome then { s with mp.ckptDue := true }.bump Reg.MAPX_CKPT_LATE_CNT 1
  else { s with mp.ckptDue := true }

/-- The beat boundary at which a checkpoint that is due cuts (R246). -/
def ckptBoundary (s : State) : State := if s.mp.ckptDue && s.mp.ckpt.isNone && s.serving then s.ckptCut else s

/-- Whether `CKPT_MIN` minutes have passed, or `CKPT_GIB` GiB of map journal have been written, since the last cut. -/
def ckptNeeded (s : State) : Bool :=
  decide (s.mp.lastCut + s.act Reg.MAPX_MAP_CFG_CKPT_MIN * 60000000000 ≤ s.now)
    || decide (s.act Reg.MAPX_MAP_CFG_CKPT_GIB * 2 ^ 20 ≤ s.jr.jkib)

/-! ## Pinned volumes (R240) -/

/-- Every leaf of a pinned volume is resident at this head: its class floor is LC0 from here on, and a volume that was loading serves
again (R60), which is a change of its reported state at this head (R116), whichever head owns its group (log entry 134). -/
def pinResident (s : State) (v : Nat) : State :=
  match s.vol? v with
  | none => s
  | some x =>
    if !x.pinned then s
    else
      let s1 := (s.treePages x.root).foldl (fun t id => t.loadPage id) s
      let s2 := (s1.modVol v (fun y => { y with pinReady := true, loading := false })).residentShow
      if x.loading then s2.anaChanged x.group else s2

/-! ## Snapshots (R250 to R254) -/

/-- A creation is aborted: no snapshot exists, and the control plane is told. -/
def snapAbort (s : State) (tag : Nat) : State :=
  match tGet? s.mp.snapOps tag with
  | none => s
  | some o =>
    let s1 := { s with mp.snapOps := tDel s.mp.snapOps tag }.pauseShow
    let s2 := match o.rel with
      | some r => s1.modRel r (fun x => { x with snapping := false, basing := none })
      | none => s1
    (if o.partner then s2.sendMsg 0x0008 [tag, o.start] else s2).ctlAnswer o.tag .fault 0 0

/-- Whether snapshots of volumes may be created now (R13, R250); those under way count. One creation a second is measured in whole seconds of
the time base: DESIGN CHOICE, R250 names no window (log entry 79). -/
def snapMay (s : State) (vols : List Nat) : Bool :=
  s.mp.snaps.length + s.mp.snapOps.foldl (fun n o => n + o.2.volumes.length) 0 + vols.length ≤ 1048576 && vols.all (fun v => match s.vol? v with
    | some x => decide ((s.mp.snaps.filter (fun e => e.2.volume == v)).length < 16384) && x.lastSnap != some (s.now / 1000000000)
        && !s.mp.snapOps.any (fun o => o.2.volumes.contains v) && (s.ownsGroup x.group || s.paired)
    | none => false)

/-- A notice from the partner (R251 step 2): received in time it is recorded and the pause is announced; one without members takes the
creation back. One that would break a limit of R250 is not confirmed, so that the creation is aborted. -/
def snapNotice (s : State) (tag start : Nat) (members : List (Nat × Nat)) : State :=
  if !s.linkUp then s
  else if members.isEmpty then { s with mp.snapOps := tDel s.mp.snapOps tag }.pauseShow
  else
    let s1 := s.sendMsg 0x0009 [tag, s.beat]
    if !s.snapMay (members.map (fun (m : Nat × Nat) => m.1)) then s
    else if start + 1 < s.beat then s1
    else
      { s1 with
        mp.snapOps := tPut s1.mp.snapOps tag ⟨members.map (fun (m : Nat × Nat) => m.1), members.map (fun (m : Nat × Nat) => m.2), start + 66, start, false, true, false,
          none, none⟩ }.pauseShow

/-- One member is cut: its root is frozen under its live generation, which advances. -/
def snapCut (cut : Nat) (s : State) (m : Nat × Nat) : State :=
  match s.vol? m.1 with
  | none => s
  | some v =>
    if !s.ownsGroup v.group then s
    else
      let s1 := { s with mp.snaps := tPut s.mp.snaps m.2 ⟨m.1, v.gen, v.root, cut, false, false⟩ }.journalCtl
        [⟨0x06, [1, m.2, m.1, 0, v.gen, v.root, 0, cut]⟩]
      s1.modVol m.1 (fun x => { x with gen := x.gen + 1, lastSnap := some (s.now / 1000000000) })

/-- The next snapshot ids of this head. -/
def snapIds (s : State) (n : Nat) : List Nat × State :=
  ((List.range n).map (fun i => 2 * (s.mp.nextSnap + i) + s.headIndex % 2), { s with mp.nextSnap := s.mp.nextSnap + n })

/-- A creation begins in this beat (R251 step 1): the cut is 66 beats ahead, and the partner has notice when it owns a member. -/
def snapBegin (s : State) (vols : List Nat) (tag rel : Option Nat) : Option State :=
  if !s.snapMay vols then none
  else
    let x := s.snapIds vols.length
    let key := 2 * x.2.mp.nextOp + s.headIndex % 2
    let far := vols.any (fun v => ((s.vol? v).map (fun y => !s.ownsGroup y.group)).getD false)
    let s1 := { x.2 with
      mp.nextOp := x.2.mp.nextOp + 1
      mp.snapOps := tPut x.2.mp.snapOps key ⟨vols, x.1, s.beat + 66, s.beat, far, false, false, tag, rel⟩ }.pauseShow
    some (if far then s1.sendMsg 0x0008 ([key, s.beat] ++ (List.zip vols x.1).flatMap (fun m => [m.1, m.2])) else s1)

/-- A snapshot's deletion is asked for: it is hidden, and goes when its deletion runs (R253). -/
def snapDrop (s : State) (id : Nat) : State :=
  match tGet? s.mp.snaps id with
  | some x =>
    if x.deleting then s
    else { s with mp.snaps := tPut s.mp.snaps id { x with hidden := true, deleting := true } }.journalCtl
      [⟨0x06, [3, id, x.volume, 0, x.gen, x.root, 0, x.beat]⟩]
  | none => s

/-- A relationship's snapshot is cut: no write headed after it has been left unsent yet (R389); a base is sent in stream order (R392). -/
def relCut (s : State) (k id : Nat) : State :=
  match s.rel? k with
  | none => s
  | some r =>
    if r.mode = 2 && r.st = 3 then
      (s.modRel k (fun x => { x with basing := some (r.cycle + 1, id) })).relSend r (r.cycle + 1)
        (.base ((s.reg Reg.SELV_OWN_NEXT_SEQ).toNat - 1))
    else s.modRel k (fun x => { x with unsent := false })

/-- Beat *B*s: each owner cuts its members. -/
def snapshotCut (s : State) (tag : Nat) : State :=
  match tGet? s.mp.snapOps tag with
  | none => s
  | some o =>
    if o.done || (o.partner && !o.confirmed) || s.beat < o.cut then s
    else
      let s1 := (List.zip o.volumes o.ids).foldl (snapCut o.cut) s
      let s2 := match o.rel with | some k => s1.relCut k (o.ids.headD 0) | none => s1
      { s2 with mp.snapOps := tPut s2.mp.snapOps tag { o with done := true } }.settle

/-- The pause of a creation ends. -/
def pauseEnd (s : State) (tag : Nat) : State :=
  match tGet? s.mp.snapOps tag with
  | none => s
  | some o =>
    if !o.done || s.beat < o.cut + s.act Reg.MAPX_MAP_CFG_SNAP_PAUSE then s
    else { s with mp.snapOps := tPut s.mp.snapOps tag { o with volumes := [] } }.snapEval

/-- Snapshots of a volume other than one. -/
def otherSnaps (s : State) (id v : Nat) : List (Nat × Snapshot) := s.mp.snaps.filter (fun e => e.1 != id && e.2.volume == v)

/-- The root of the next newer tree of a volume than a generation. -/
def newerRoot (s : State) (id v gen : Nat) : Nat :=
  match bestBy (fun (a b : Nat × Snapshot) => a.2.gen < b.2.gen) ((s.otherSnaps id v).filter (fun e => decide (gen < e.2.gen))) with
  | some n => n.2.root
  | none => ((s.vol? v).map (fun x => x.root)).getD 0

/-- The generation of the next older retained tree: a snapshot, or the snapshot that a clone came from. -/
def olderGen (s : State) (id v gen : Nat) : Nat :=
  let base := match (s.vol? v).bind (fun x => x.origin) with
    | some o => ((tGet? s.mp.snaps o).map (fun x => x.gen)).getD 0
    | none => 0
  ((s.otherSnaps id v).filter (fun e => decide (e.2.gen < gen))).foldl (fun n e => max n e.2.gen) base

/-- Whether a live clone came from a snapshot. -/
def hasClone (s : State) (id : Nat) : Bool := s.nv.volumes.any (fun e => e.2.origin == some id)

/-- A snapshot's deletion runs (R253): its pages above *P* that *N* does not reach are freed. -/
def snapDelete (s : State) (id : Nat) : State :=
  match tGet? s.mp.snaps id with
  | none => s
  | some x =>
    if !x.deleting || s.hasClone id || !s.ownsVol x.volume then s
    else
      let p := s.olderGen id x.volume x.gen
      let keep := s.treePages (s.newerRoot id x.volume x.gen)
      let gone := (s.treePages x.root).filter (fun k => ((s.page? k).map (fun y => decide (p < y.birth))).getD false && !keep.contains k)
      let s1 := { s with mp.snaps := tDel s.mp.snaps id }.journalCtl [⟨0x06, [2, id, x.volume, 0, x.gen, x.root, 0, x.beat]⟩]
      (s1.freePages gone).settle

/-! ## Commands of the Bobbin cache (R256, R257) -/

/-- A lookup of a grain's sector in the home engine of its leaf (R238, R256): the leaf directory is probed first, and names every resident leaf;
any other leaf is found by the tree. -/
def lineLookup (s : State) (v g : Nat) : State :=
  match s.vol? v, s.homeOf v (leafOf g) with
  | some x, some n =>
    match s.leafDir v (leafOf g) with
    | some l => s.bobLookup n v l (g % 64 / 8) true
    | none =>
      match s.findLeaf (leafOf g) 10 x.root with
      | some l => s.bobLookup n v l (g % 64 / 8) false
      | none => s
  | _, _ => s

/-! ## Remote hits (R236) -/

/-- The keeper's check of a remote hit: it confirms once it has applied the increment. -/
def keeperConfirm (s : State) (tag grain chunk tenant fpCheck : Nat) : State :=
  let good := s.chunkUsable chunk && s.keepsPool (poolOf chunk)
    && ((s.chunk? chunk).map (fun e => e.tenant == tenant && e.fpCheck == fpCheck)).getD false
  (if good then { s.countUp chunk 1 with mp.confirmed := s.mp.confirmed ++ [chunk] } else s).sendMsg 0x0206 [tag, grain, good.toNat]

end State

open State

/-- PAGEIN_COMPLETE (R239). -/
def execPageinComplete (page : Nat) (good : Bool) (s : State) : Out := .next (s.pageIn page good)

/-- PAGE_WRITEBACK (R245). -/
def execPageWriteback (page : Nat) (s : State) : Out := .next (s.writeBack page)

/-- OVERLAY_FILL (R241): the owner writes back its dirty leaves in the order in which they became dirty. -/
def execOverlayFill (count : Nat) (s : State) : Out :=
  .next (
    if !s.linkUp then s
    else
      let l := s.mp.pages.filter (fun e => e.2.level == 0 && e.2.dirty && s.ownsVol e.2.volume)
      let order := l.foldl (fun (acc : List (Nat × Page)) e =>
        acc.filter (fun x => decide (x.2.dirtyAt ≤ e.2.dirtyAt)) ++ e :: acc.filter (fun x => decide (e.2.dirtyAt < x.2.dirtyAt))) []
      (order.take count).foldl (fun t e => t.writeBack e.1) s)

/-- MAP_JOURNAL_ROW_CLOSE (R242). -/
def execMapJournalRowClose (s : State) : Out := .next (if s.journalDue then s.journalRow else s)

/-- MAP_JOURNAL_FLUSH_TIMER (R242). -/
def execMapJournalFlushTimer (s : State) : Out := .next s.journalRow

/-- CHECKPOINT_DUE (R246). -/
def execCheckpointDue (s : State) : Out := .next (if s.ckptNeeded then s.ckptStart else s)

/-- PIN_RESIDENT (R240). -/
def execPinResident (volume : BitVec 16) (s : State) : Out := .next (s.pinResident volume.toNat)

/-- SNAP_NOTICE (R251). -/
def execSnapNotice (tag start : Nat) (members : List (Nat × Nat)) (s : State) : Out := .next (s.snapNotice tag start members)

/-- SNAP_CONFIRM (R251). -/
def execSnapConfirm (tag receipt : Nat) (s : State) : Out :=
  .next (
    match tGet? s.mp.snapOps tag with
    | some o =>
      if !s.linkUp || !o.partner || o.confirmed || o.done then s
      else if receipt ≤ o.start + 1 && s.beat ≤ o.start + 32 then { s with mp.snapOps := tPut s.mp.snapOps tag { o with confirmed := true } }
      else s.snapAbort tag
    | none => s)

/-- SNAP_CONFIRM_TIMEOUT (R251). -/
def execSnapConfirmTimeout (tag : Nat) (s : State) : Out :=
  .next (
    match tGet? s.mp.snapOps tag with
    | some o => if o.partner && !o.confirmed && !o.done then s.snapAbort tag else s
    | none => s)

/-- SNAPSHOT_CUT (R251). -/
def execSnapshotCut (tag : Nat) (s : State) : Out := .next (s.snapshotCut tag)

/-- SNAP_PAUSE_END (R251). -/
def execSnapPauseEnd (tag : Nat) (s : State) : Out := .next (s.pauseEnd tag)

/-- SNAPSHOT_DELETE_RUN (R253). -/
def execSnapshotDeleteRun (snapshot : Nat) (s : State) : Out := .next (s.snapDelete snapshot)

/-- BOBBIN_LOOKUP (R256). -/
def execBobbinLookup (volume : BitVec 16) (grain : BitVec 36) (s : State) : Out := .next (s.lineLookup volume.toNat grain.toNat)

/-- BOBBIN_FILL_LAND (R256). -/
def execBobbinFillLand (dpc : Fin 18) (volume : BitVec 16) (page : Nat) (sector : Fin 8) (s : State) : Out :=
  .next (s.bobFill dpc.val volume.toNat page sector.val)

/-- MERGE_BUFFER_DRAIN (R257). -/
def execMergeBufferDrain (dpc : Fin 18) (s : State) : Out :=
  .next (if s.act (Reg.DPC_BOBBIN_CFG_DRAIN_AT dpc.val) ≤ (s.bob dpc.val).merge.length then s.bobDrain dpc.val else s)

/-- MERGE_DRAIN_TIMEOUT (R257): the oldest entry has waited `DRAIN_NS`. -/
def execMergeDrainTimeout (dpc : Fin 18) (s : State) : Out :=
  .next (
    match (s.bob dpc.val).merge.head? with
    | some e => if e.since + s.act (Reg.DPC_BOBBIN_CFG_DRAIN_NS dpc.val) ≤ s.now then s.bobDrain dpc.val else s
    | none => s)

/-- KEEPER_CONFIRM_REQ (R236). -/
def execKeeperConfirmReq (tag grain chunk tenant fpCheck : Nat) (s : State) : Out :=
  .next (if s.linkUp then s.keeperConfirm tag grain chunk tenant fpCheck else s)

/-- KEEPER_CONFIRM (R236). -/
def execKeeperConfirm (cmd grain : Nat) (good : Bool) (s : State) : Out :=
  .next (
    match lookupAt? s cmd grain with
    | some (c, l) =>
      match l.confirm with
      | some k => if good then s.lookupUse cmd c l k false else (s.bump Reg.MAPX_CONFIRM_FAIL_CNT 1).lookupMiss cmd l
      | none => s
    | none => s)

end Sys2Proof.Machine
end

