-- ==== Sys2Proof/Machine/Media.lean ====
section
/-!
DEFINITION. Sys2Proof/Machine/Media.lean: victims and collection, erases, capacity, patrol, reserved segments and the media manager's
registers (R262 to R283, R289, R298 to R304), and the parity engines' faults.
-/

namespace Sys2Proof.Machine

namespace State

/-! ## Collection (R271 to R273, R289) -/

/-- LOCATED chunks of a segment, or of one member of it, whose forms are in no row that is being filled or programmed. -/
def liveForms (s : State) (seg : Nat) (member : Option Nat) : List (Nat × Chunk) :=
  s.mp.chunks.filter (fun e => e.2.state == .located && e.2.segment == seg && (member.map (fun m => m == e.2.member)).getD true
    && !s.placedNow e.1)

/-- A form on flash that fails its checks is rebuilt before it is placed (R289, R291). -/
def formRepair (s : State) (seg : Nat) (e : Chunk) : State :=
  let s1 := ((s.suspectAdd seg e.member e.row).relocate seg e.member 1000 none).bump (Reg.SEGW_CNT 6) 1
  match rebuildCard (((s1.seg? seg).map dataMembers).getD 0) ((s1.lostIn seg e.row ++ [e.member]).dedup) with
  | 1 => s1.bump (Reg.SEGW_CNT 1) 1
  | 2 => s1.bump (Reg.SEGW_CNT 2) 1
  | _ => s1

/-- One live form is moved into a COLLECT row, or its chunk is set LOST when no copy can be read; none when no row has room. -/
def moveForm (s : State) (seg : Nat) (damaged lost : List Nat) (x : Nat × Chunk) : Option State :=
  let gone := s.lostIn seg x.2.row
  if gone.contains x.2.member && 3 ≤ gone.length then some (s.chunkLost x.1 1)
  else if lost.contains x.1 then some (s.chunkLost x.1 2)
  else
    let s1 := if damaged.contains x.1 then s.formRepair seg x.2 else s
    (s1.packForm 2 x.1 x.2.len32 true 3).map (fun t => t.mediaCnt 2 1)

/-- The content of a lost member's unit rebuilt from what the others deliver (R286): none where that row was not read, or more than two
members are erased. -/
def unitRebuilt (s : State) (seg row member : Nat) (rows : List RowRead) : Option Bytes :=
  match s.seg? seg, rows.find? (fun x => x.row == row) with
  | some g, some x =>
    let erased := (List.range g.width).filter (fun m => (s.lostIn seg row).contains m || !x.units.any (fun u => u.1 == m))
    ((rebuildRow (dataMembers g) (fun m => ((x.units.find? (fun u => u.1 == m)).map (fun u => u.2)).getD []) erased).find?
      (fun u => u.1 == member)).map (fun u => u.2)
  | _, _ => none

/-- Whether the walk of a rebuilt unit finds a chunk's form where the chunk table has it, and its payload checks (R289, R294). -/
def formFound (c : Nat) (e : Chunk) (unit : Bytes) : Bool :=
  (walkUnit unit).any (fun x => x.off == e.off && x.chunk == c && x.len32 == e.len32 && x.good)

/-- Live forms of a segment of which a rebuild finds no good copy: those named, and those on a lost member whose rebuilt unit does not hold
them. -/
def unreadForms (s : State) (seg : Nat) (r : RebuildRead) : List Nat :=
  r.chunks ++ ((s.liveForms seg none).filter (fun e =>
    (s.lostIn seg e.2.row).contains e.2.member && r.rows.any (fun x => x.row == e.2.row)
      && !((s.unitRebuilt seg e.2.row e.2.member r.rows).map (formFound e.1 e.2)).getD false)).map (fun e => e.1)

/-- Units of lost members that hold live forms are rebuilt whole (R286, R294): each is one operation of its card. -/
def unitRebuilds (s : State) (seg : Nat) (l : List (Nat × Chunk)) : State :=
  let units := ((l.filter (fun e => (s.lostIn seg e.2.row).contains e.2.member)).map (fun e => (e.2.row, e.2.member))).dedup
  units.foldl (fun t u =>
    match rebuildCard (((s.seg? seg).map dataMembers).getD 0) (s.lostIn seg u.1) with
    | 1 => t.bump (Reg.SEGW_CNT 1) 1
    | 2 => t.bump (Reg.SEGW_CNT 2) 1
    | _ => t) s

/-- Live forms moved in turn until none is left, which the second part says, or no row has room. -/
def moveForms (seg : Nat) (damaged lost : List Nat) : List (Nat × Chunk) → State → State × Bool
  | [], s => (s, true)
  | x :: t, s =>
    match s.moveForm seg damaged lost x with
    | some u => moveForms seg damaged lost t u
    | none => (s, false)

/-- Live pages of a MAP segment. -/
def livePages (s : State) (seg : Nat) : List (Nat × Page) :=
  s.mp.pages.filter (fun e => (e.2.flash.map (fun a => a.1 == seg)).getD false && !s.inOpenRow e.1)

/-- Live pages written back in turn. -/
def movePages : List (Nat × Page) → State → State × Bool
  | [], s => (s, true)
  | e :: t, s =>
    match s.mapPlace e.1 e.2.applied with
    | some u => movePages t (u.setPage e.1 { e.2 with dirty := false })
    | none => (s, false)

/-- The runs of the index written anew (R299). -/
def rewriteRuns (s : State) : State :=
  if 2 ≤ s.mp.runs.length then s.mergeRuns
  else
    let dead := s.md.segs.map (fun (e : Nat × Seg) => if e.2.type = 5 then (e.1, { e.2 with live := 0 }) else e)
    { s with md.segs := dead, md.bulk := s.md.bulk.filter (fun (b : BulkRow) => b.type != 5) }.bulkRun (s.mp.runs.flatMap (fun (r : Nat × List IdxEntry) => r.2))

/-- What a segment still holds live is moved, by its type (R273, R299); the second part says that nothing is left to place. -/
def emptySegment (s : State) (id : Nat) (g : Seg) (member : Option Nat) (damaged lost : List Nat) : State × Bool :=
  match g.type with
  | 3 =>
    let named := (s.newestOf.map (fun r => r.tables.any (fun l => l.seg == id))).getD false
    let s1 := if named && s.mp.ckpt.isNone then s.ckptStart else s
    movePages (s1.livePages id) s1
  | 4 => ((if s.mp.ckpt.isSome || g.live = 0 then s else s.ckptStart), true)
  | 5 => (s.rewriteRuns, true)
  | _ =>
    let l := s.liveForms id member
    moveForms id damaged lost l (s.unitRebuilds id l)

/-- A victim leaves the queue. -/
def dropVictim (s : State) (v : Victim) : State := { s with md.victims := dropFirst (fun (x : Victim) => x == v) s.md.victims }.mediaShow

/-- A victim of orders 3 to 6 is taken (R264, R271): counted, entered in the figures of *L* (R150), and VICTIM from here on. -/
def victimTaken (s : State) (v : Victim) (g : Seg) : State :=
  if v.member.isSome || g.st != .closed then s
  else
    let s1 := (s.modSeg v.seg (fun x => { x with st := .victim })).mediaCnt 0 1
    { s1 with
      loom.victims := s1.loom.victims.filter (fun x => decide (s1.now < x.1 + 100000000)) ++ [(s1.now, g.live, segBytes g)]
      md.wearMix := if v.order = 5 then 0 else if v.order = 6 then s1.md.wearMix + 1 else s1.md.wearMix }

/-- The head of the victim queue: a static-wear victim waits until fifteen of order 6 have been taken since the last (R271). -/
def headVictim (s : State) : Option Victim := s.md.victims.find? (fun v => v.order != 5 || decide (15 ≤ s.md.wearMix))

/-- The reads of a segment, or of one member, whose live forms are to be moved (R273, R298): the page tag of each data unit, and the units that
hold live forms. The forms they deliver come with the command that moves them (log entry 101); their completions are held against R276. -/
def readLive (s : State) (seg : Nat) (member : Option Nat) : State :=
  match s.seg? seg with
  | none => s
  | some g =>
    let mine := fun (m : Nat) => (member.map (fun x => x == m)).getD true && !g.lost.contains m && decide (m < dataMembers g)
    let tags := (List.range g.durable).flatMap (fun r => ((List.range g.width).filter mine).map (fun m => (r, m)))
    let units := (((s.liveForms seg member).filter (fun e => mine e.2.member)).map (fun e => (e.2.row, e.2.member))).dedup
    let at_ := fun (m : Nat) => g.members.getD m (0, 0, 0)
    let s1 := tags.foldl (fun t x => t.mqpIssue (at_ x.2).1 0x02 (at_ x.2).2.1 (at_ x.2).2.2 x.1 0 0 x.2 (.collect seg x.2)) s
    units.foldl (fun t x => t.mqpIssue (at_ x.2).1 0x01 (at_ x.2).2.1 (at_ x.2).2.2 x.1 0 4 x.2 (.collect seg x.2)) s1

/-- Whether collection has its reads of a segment or member in flight, or has had them. -/
def readsOut (s : State) (seg : Nat) (member : Option Nat) : Bool :=
  s.mo.mods.any (fun m => m.2.cmds.any (fun c => match c.use with
    | .collect g x => g == seg && (member.map (fun y => y == x)).getD true
    | _ => false))

/-- Debt units are spent before the floor (R152): one for each 64 KiB that collection has moved. -/
def spendDebts (s : State) (bytes : Nat) : State := { s with loom.debts := s.loom.debts.drop (ceilDiv bytes 65536) }

/-- Bytes of live forms. -/
def formsBytes (l : List (Nat × Chunk)) : Nat := l.foldl (fun n e => n + 32 * e.2.len32) 0

/-- The victim at the head of the queue is collected; a member of an OPEN segment may be relocated too (R276). -/
def collect (s : State) (damaged lost : List Nat) : State :=
  if !s.serving then s
  else
    match s.headVictim with
    | none => s
    | some v =>
      match s.seg? v.seg with
      | none => s.dropVictim v
      | some g =>
        if g.st != .closed && g.st != .victim && !(v.member.isSome && g.st == .opened) then s.dropVictim v
        else
          let s1 := s.victimTaken v g
          let s2 := if s1.readsOut v.seg v.member then s1 else s1.readLive v.seg v.member
          let r := s2.emptySegment v.seg g v.member damaged lost
          let s3 := r.1.spendDebts (formsBytes (s.liveForms v.seg v.member) - formsBytes (r.1.liveForms v.seg v.member))
          (if r.2 then s3.dropVictim v else s3).settle

/-! ## Scoring (R271, R272) -/

/-- A segment's score as a fraction: (1 − u) A over 1 + u, with u in bytes of its capacity; none at u ≥ 0.97. -/
def scoreOf (s : State) (g : Seg) : Option (Nat × Nat) :=
  let c := segBytes g
  if 97 * c ≤ 100 * g.live then none
  else some ((c - g.live) * min ((s.now - g.closedAt) / 1000000000) (2 ^ 20), c + g.live)

/-- Segments in descending score; ties go to the lower id. -/
def sortScores (l : List (Nat × Nat × Nat)) : List Nat :=
  (l.foldl (fun acc x =>
    acc.filter (fun y => decide (x.2.1 * y.2.2 ≤ y.2.1 * x.2.2)) ++ x :: acc.filter (fun y => !decide (x.2.1 * y.2.2 ≤ y.2.1 * x.2.2))) []).map
    (fun x => x.1)

/-- Whether nothing live is left in a segment: its live bytes are 0, and a MAP segment holds no checkpoint table. -/
def emptySeg (g : Seg) : Bool := g.live == 0 && (g.type != 3 || g.area == 0)

/-- Segments without live bytes go to DRAINED (R264): those still CLOSED are order 1. -/
def drain (s : State) : State :=
  let l := s.md.segs.filter (fun e => (e.2.st == .closed || e.2.st == .victim) && emptySeg e.2 && s.ownSeg e.1)
  l.foldl (fun t e =>
    let t1 := t.modSeg e.1 (fun g => { g with st := .drained })
    let t2 := { t1 with md.victims := t1.md.victims.filter (fun (v : Victim) => v.seg != e.1) }
    if e.2.st = .closed then t2.mediaCnt 1 1 else if s.worstRow e.1 e.2 != 0 then t2.bump (Reg.SEGW_CNT 11) 1 else t2) s

/-- The scoring of every 100 ms. -/
def score (s : State) : State :=
  let s1 := s.drain
  let l := s1.md.segs.filterMap (fun e =>
    if e.2.st == .closed && s1.ownSeg e.1 then (s1.scoreOf e.2).map (fun x => (e.1, x)) else none)
  let order6 := (sortScores l).map (fun id => (⟨6, id, none, 0⟩ : Victim))
  let kept := s1.md.victims.filter (fun (v : Victim) => v.order != 6
    || (match s1.seg? v.seg with | some g => g.st == .victim | none => false))
  ({ s1 with md.victims := kept ++ order6 }.mediaShow).stripeEval

/-! ## Erases (R247, R274) -/

/-- Whether a ROW_DURABLE record of this head or of the adopted region that moved a form out of a segment lies in no durable journal row yet
(R247). -/
def movesPending (s : State) (g : Seg) : Bool :=
  (s.jr.own ++ s.jr.mir.filter (fun (r : JRec) => decide (r.seq < s.own.adopted))).any (fun r => !r.journaled && (match r.row with
    | some d => d.entries.any (fun p => p.moved && g.dir.any (fun q => q.2.chunk == p.chunk))
    | none => false))

/-- Whether a read booked here names a segment. -/
def readsBooked (s : State) (seg : Nat) : Bool := s.nv.cmds.any (fun e => e.2.plan.any (fun p => p.seg == seg))

/-- An area's dump. -/
def dumpOf (s : State) (area : Nat) : Option Dump := if area = 0 then s.jr.dumpA else s.jr.dumpB

/-- Whether an area holds a dump that has not been consumed. -/
def dumpHeld (s : State) (area : Nat) : Bool := ((s.dumpOf area).map (fun d => !d.consumed)).getD false

/-- Bytes that a dump area must hold (R279). -/
def areaBytes (s : State) : Nat :=
  (s.ringBlocks (s.act Reg.SELV_CFG_OWN_GIB) + s.ringBlocks (s.act Reg.SELV_CFG_MIRROR_GIB)) * 4096 + 67108864

/-- Whether an area is large enough and lies on enough dies (R279). -/
def areaFull (s : State) (area : Nat) : Bool :=
  let l := s.areaSegs area
  s.areaBytes ≤ l.foldl (fun n e => n + segBytes e.2) 0
    && 768 ≤ ((l.flatMap (fun e => e.2.members)).map (fun m => (m.1, m.2.1))).dedup.length

/-- Whether a member block of a segment is BAD. -/
def hasBad (s : State) (g : Seg) : Bool := g.members.any (fun m => (s.blkOf (blkKey m.1 m.2.1 m.2.2)).st == .bad)

/-- Whether an area is armed (R279): no unconsumed dump, and every block ERASED. -/
def areaArmed (s : State) (area : Nat) : Bool :=
  s.areaFull area && !s.dumpHeld area && (s.areaSegs area).all (fun e => e.2.nextRow == 0 && e.2.erasing.isEmpty && !s.hasBad e.2)

/-- `MEDIA.STATUS.ARMED_A` and `ARMED_B` on both instances. -/
def armShow (s : State) : State :=
  (List.range 2).foldl (fun t i =>
    (t.setBit (Reg.MEDIA_STATUS_ARMED_A i) (t.areaArmed 0)).setBit (Reg.MEDIA_STATUS_ARMED_B i) (t.areaArmed 1)) s

/-- Segments reserved for an area until it is full, or no segment can be had. -/
def reserveN (area : Nat) : Nat → State → State
  | 0, s => s
  | n + 1, s =>
    if s.areaFull area then s
    else
      match s.openSegment 6 s.mediaWidth 8 with
      | some (id, t) => reserveN area n (t.modSeg id (fun g => { g with area := area }))
      | none => s

/-- Both areas reserved in full. -/
def reserveAreas (s : State) : State := (reserveN 1 4096 (reserveN 0 4096 s)).armShow

/-- Segments of an area that it does not need to be full: from the last on, each without which the rest suffice. -/
def surplus (s : State) (area : Nat) : List Nat :=
  let rest := (s.areaSegs area).reverse.foldl (fun (a : State × List Nat) e =>
    let t := a.1.modSeg e.1 (fun g => { g with st := .drained })
    if t.areaFull area then (t, e.1 :: a.2) else a) (s, [])
  rest.2

/-- An area that holds no unconsumed dump is resized after a region size has changed, or restored after a loss (R264, R279, R299): segments with
a lost or BAD member and those it no longer needs go to DRAINED, and what it lacks is reserved. -/
def resizeArea (s : State) (area : Nat) : State :=
  if s.dumpHeld area then s
  else
    let hurt := ((s.areaSegs area).filter (fun e => !e.2.lost.isEmpty || s.hasBad e.2)).map (fun e => e.1)
    let s1 := hurt.foldl unreserve s
    reserveN area 4096 ((s1.surplus area).foldl unreserve s1)

/-- Dump areas that have lost a member, or hold a BAD block, are restored on modules in service (R299). -/
def restoreAreas (s : State) : State :=
  [0, 1].foldl (fun t a => if (t.areaSegs a).any (fun e => !e.2.lost.isEmpty || t.hasBad e.2) then t.resizeArea a else t) s |>.armShow

/-- Every member of a segment is ERASED or BAD: its id is FREE again (R264, R274), its suspect units leave the table (R293), and a block
on a module out of service becomes DIRTY (R297). -/
def segRelease (s : State) (id : Nat) : State :=
  match s.seg? id with
  | none => s
  | some g =>
    let s1 := g.members.foldl (fun t m =>
      let k := blkKey m.1 m.2.1 m.2.2
      let b := t.blkOf k
      if b.st = .bad then t.setBlkOf k { b with seg := 0 }
      else t.setBlkOf k { b with st := if b.st = .erased then .erased else .dirty, seg := 0 }) s
    let s2 := { s1 with
      md.segs := tDel s1.md.segs id
      md.suspect := s1.md.suspect.filter (fun x => x.1 != id)
      md.victims := s1.md.victims.filter (fun (v : Victim) => v.seg != id) }
    (((s2.setFld Reg.SEGW_SUSPECT_USED_COUNT s2.md.suspect.length).stripeEval).mediaShow).armShow

/-- `SPROG` of phase 4 (R120). -/
def sanProg (x : Sanitize) : Nat :=
  4096 + 61439 * (x.done + x.doneOther) / max 1 (x.list.length + x.done + x.listOther.length)

/-- Segments of a Sanitize that a progress record covers return to the free pool (R121): so many of those this head has erased. -/
def sanRelease (s : State) (t n : Nat) : State :=
  match s.tenant? t with
  | none => s
  | some x =>
    let l := x.san.held.take n
    l.foldl segRelease (s.modSan t (fun y => { y with held := y.held.drop n }))

/-- A progress record of phase 4 at the configuration head: due every 64 segments and at the end; it covers what both heads have
erased. -/
def sanProgress (s : State) (t : Nat) : State :=
  match s.tenant? t with
  | none => s
  | some x =>
    let all := x.san.list.isEmpty && decide (x.san.listOther.length ≤ x.san.doneOther)
    if s.configHead && x.san.stat = 2 && x.san.phase = 4
        && (decide (x.san.covered + 64 ≤ x.san.done + x.san.doneOther) || (all && decide (x.san.covered < x.san.done + x.san.doneOther))) then
      let s1 := s.modSan t (fun y => { y with covered := y.done + y.doneOther, prog := sanProg y })
      ((s1.journalCtl [sanCtl t { x.san with covered := x.san.done + x.san.doneOther }])).sanRelease t x.san.held.length
    else s

/-- A listed segment has been erased (R120, R121): it stays out of the free pool until a record covers it, and is counted and reported. -/
def sanErased (s : State) (seg t : Nat) : State :=
  let s1 := s.modSan t (fun y => { y with
    list := y.list.filter (fun x => x != seg)
    held := y.held ++ [seg]
    done := y.done + 1 })
  match s1.tenant? t with
  | none => s1
  | some x =>
    if s1.configHead then s1.sanProgress t
    else if x.san.done % 64 = 0 || x.san.list.isEmpty then
      let s2 := s1.sendMsg 0x020B [t, 4, 3, x.san.done, 0]
      if x.san.list.isEmpty then s2.sendMsg 0x020B [t, 4, 2, x.san.done, 0] else s2
    else s1

/-- The tenant whose Sanitize lists a segment. -/
def sanOf (s : State) (seg : Nat) : Option Nat :=
  (s.nv.tenants.find? (fun e => e.2.san.phase == 4 && (e.2.san.list.contains seg || e.2.san.held.contains seg))).map (fun e => e.1)

/-- A segment's erase has ended: it is free, or held for the Sanitize that lists it. A reserved segment stays, empty; a dump area of which a block
has gone BAD is restored. -/
def segFreed (s : State) (id : Nat) (g : Seg) : State :=
  if g.st = .reserved then
    ((s.setSeg id { g with nextRow := 0, durable := 0, erasing := [], dir := [] }).restoreAreas).armShow
  else
    match s.sanOf id with
    | some t => (s.setSeg id { g with erasing := [] }).sanErased id t
    | none => (s.setSeg id { g with erasing := [] }).segRelease id

/-- Members of a segment that can be erased: on a module in service, not BAD, not lost. -/
def erasable (s : State) (g : Seg) : List Nat :=
  (List.range g.members.length).filter (fun i =>
    let m := g.members.getD i (64, 0, 0)
    s.inServiceM m.1 && (s.blkOf (blkKey m.1 m.2.1 m.2.2)).st != .bad && !g.lost.contains i)

/-- A segment's members become DIRTY, and their erases wait for the slices that a boundary books them in rank 3 (R144, R153, R274). A ROOT slot
that has lost a member is released first (R264, R299). -/
def eraseMembers (s : State) (id : Nat) (g : Seg) : State :=
  let l := s.erasable g
  let st := if g.type == 7 && !g.lost.isEmpty then .drained else g.st
  let s1 := l.foldl (fun t i =>
    let m := g.members.getD i (64, 0, 0)
    let k := blkKey m.1 m.2.1 m.2.2
    t.setBlkOf k { t.blkOf k with st := if st = .reserved then .reserved else .dirty }) (s.setSeg id { g with st := st, erasing := l })
  if l.isEmpty then s1.segFreed id { g with st := st, erasing := [] } else s1

/-- A DRAINED segment, or a segment of an area whose dump has been consumed, is erased when the conditions of R274 hold; in paired
operation the partner is asked first. -/
def eraseSegment (s : State) (id : Nat) : State :=
  match s.seg? id with
  | none => s
  | some g =>
    let vault := g.type == 6 && g.st == .reserved && !s.dumpHeld g.area && g.nextRow != 0
    if !s.ownSeg id || s.nv.tenants.any (fun e => e.2.san.held.contains id) || !g.erasing.isEmpty || !(g.st == .drained || vault) then s
    else if s.movesPending g then s
    else if s.readsBooked id then s.mediaCnt 13 1
    else if s.paired && !g.clear && !vault then (s.sendMsg 0x0006 [id]).mediaCnt 13 1
    else s.eraseMembers id g

/-! ## Checkpoint roots (R246, R280) -/

/-- The ROOT segment of a root slot, reserved when there is none; none while its rows are used up or it is being erased. -/
def rootSlot (s : State) (slot : Nat) : Option (Nat × State) :=
  match s.md.segs.find? (fun e => e.2.type == 7 && e.2.area == slot && e.2.st == .reserved && s.ownSeg e.1) with
  | some (id, g) => if g.nextRow < g.rows && g.erasing.isEmpty && g.row.isNone then some (id, s) else none
  | none =>
    match s.openSegment 7 8 8 with
    | some (id, t) => some (id, t.modSeg id (fun g => { g with area := slot }))
    | none => none

/-- A root is written in the next row of its slot: the same 4 KiB, followed by zeros, in all members, without parity (R280). -/
def rootWrite (s : State) (id : Nat) (r : Root) : State :=
  (s.modSeg id (fun g => { g with row := some { newRow s.now with raw := some [rootImage r] } })).closeRow id

/-- The slot whose last row has been used is erased before its next root is written (R280). -/
def rootErase (s : State) (slot : Nat) : State :=
  match s.md.segs.find? (fun e => e.2.type == 7 && e.2.area == slot && e.2.st == .reserved && s.ownSeg e.1) with
  | some (id, g) => if g.rows ≤ g.nextRow && g.erasing.isEmpty && g.row.isNone then s.eraseMembers id g else s
  | none => s

/-- Whether part of the running checkpoint's image is not durable yet: a page of the cut, or a row of its tables. -/
def ckptOpen (s : State) (r : Root) : Bool :=
  r.copy.pages.any (fun e => s.ownsVol e.2.volume && (e.2.dirty || s.inOpenRow e.1))
    || !r.tabled || s.md.bulk.any (fun b => b.type == 3)
    || s.md.segs.any (fun e => e.2.type == 3 && ((e.2.row.bind (fun x => x.raw)).isSome))

/-- The slot of the next root: A and B alternate (R246). -/
def nextRootSlot (s : State) : Nat :=
  if ((s.mp.rootA.map (fun x => x.num)).getD 0) ≤ ((s.mp.rootB.map (fun x => x.num)).getD 0) then 0 else 1

/-- The running checkpoint goes on: its tables are queued once its pages are durable; once they are durable too, the CKPT entry is journaled and
the root written into its slot, which is erased first where its rows are used up (R246, R280). -/
def rootStep (s0 : State) : State :=
  let s := s0.ckptTables
  match s.mp.ckpt with
  | none => s
  | some r =>
    if s.ckptOpen r || s.mp.ckptRoot.isSome then s
    else
      let slot := s.nextRootSlot
      match s.rootSlot slot with
      | none => s.rootErase slot
      | some (id, s1) =>
        { s1.journalCtl [⟨0x08, [r.num, r.cut / 10000, r.seq, slot]⟩] with mp.ckptRoot := some (slot, id, false) }.rootWrite id r

/-- Table pages of the root that a slot gives up, and that no other root names, are dead space (R270). -/
def tablesDie (s : State) (old : Option Root) (keep : List TableLoc) : State :=
  (((old.map (fun r => r.tables)).getD []).filter (fun l => !keep.contains l)).foldl (fun t l => t.liveSub l.seg 4096) s

/-- The checkpoint is complete: its root takes its slot's place, and what it covers of the map journal is released (R246). -/
def ckptComplete (s : State) (r : Root) (slot : Nat) : State :=
  let old := if slot = 0 then s.mp.rootA else s.mp.rootB
  let other := if slot = 0 then s.mp.rootB else s.mp.rootA
  let s1 := s.tablesDie old (r.tables ++ (other.map (fun x => x.tables)).getD [])
  let s2 := { s1 with
    mp.rootA := if slot = 0 then some r else s.mp.rootA
    mp.rootB := if slot = 1 then some r else s.mp.rootB
    mp.ckpt := none
    mp.ckptRoot := none
    mp.jlog := s.mp.jlog.filter (fun (x : JRec) => decide (r.seq ≤ x.seq))
    mp.jlogP := s.mp.jlogP.filter (fun (x : JRec) => decide (r.cut ≤ x.time))
    md.segs := s1.md.segs.map (fun (e : Nat × Seg) =>
      if e.2.type = 4 && e.2.st != SegState.opened && e.2.area < r.seq && e.2.logTime < r.cut && s.ownSeg e.1 then (e.1, { e.2 with live := 0 }) else e) }
  ((s2.setReg Reg.MAPX_CKPT_CUT (BitVec.ofNat 64 r.cut)).setReg Reg.MAPX_CKPT_NUM (BitVec.ofNat 64 r.num)).setBit Reg.MAPX_MAP_STATUS_CKPT false

/-- The root is durable in its slot: the checkpoint is complete. Before that nothing completes. -/
def ckptDone (s : State) : State :=
  match s.mp.ckpt, s.mp.ckptRoot with
  | some r, some (slot, _, true) => s.ckptComplete r slot
  | _, _ => s

/-- Erase-clear requests whose segment no read booked here names are answered (R274). -/
def clearEval (s : State) : State :=
  let l := s.md.clearReqs.filter (fun id => !s.readsBooked id)
  l.foldl (fun t id => t.sendMsg 0x0007 [id]) { s with md.clearReqs := s.md.clearReqs.filter (fun id => s.readsBooked id) }

/-! ## Capacity (R281, R282) -/

/-- Raw bytes of a module in service: every block of every die, less the BAD ones. -/
def rawOf (s : State) (k : Nat) : Nat :=
  match (s.module k).geom with
  | none => 0
  | some g =>
    let good := (List.range g.dies).filter (fun d => !(s.module k).failedDies.getLsbD d)
    let bad := (s.md.blocks.filter (fun e => e.1 / 2 ^ 22 == k && e.2.st == .bad && good.contains (e.1 / 2 ^ 16 % 64))).length
    (good.length * g.blocks - bad) * g.units * 65536

/-- Raw bytes of ERASED and DIRTY blocks on the dies of a module that this head masters. -/
def freeOf (s : State) (k : Nat) : Nat :=
  match (s.module k).geom with
  | none => 0
  | some g =>
    let mine := (s.diesOf k).filter s.dieUsable
    let used := (s.md.blocks.filter (fun e => e.1 / 2 ^ 22 == k && mine.contains (e.1 / 2 ^ 16 % 64)
      && (e.2.st == .inSegment || e.2.st == .reserved || e.2.st == .bad))).length
    (mine.length * g.blocks - used) * g.units * 65536

/-- This head's live bytes, metadata capacity, free bytes and reserved bytes (R281). -/
def capOwn (s : State) : Nat × Nat × Nat × Nat :=
  let own := s.md.segs.filter (fun e => s.ownSeg e.1)
  let live := (own.filter (fun e => (e.2.type == 1 || e.2.type == 2) && hasStripeState e.2)).foldl (fun n e => n + e.2.live) 0
  let mt := (own.filter (fun e => e.2.type == 3 || e.2.type == 4 || e.2.type == 5)).foldl (fun n e => n + segBytes e.2) 0
  let free := s.modulesIn.foldl (fun n k => n + s.freeOf k) 0
  let res := (own.filter (fun e => e.2.st == .reserved)).foldl (fun n e =>
    n + (e.2.members.filter (fun m => (s.blkOf (blkKey m.1 m.2.1 m.2.2)).st == .reserved)).length * e.2.rows * 65536) 0
  (live, mt, free, res)

/-- A capacity register on both instances. -/
def capSet (s : State) (r : Nat → Nat) (bytes : Nat) : State :=
  let v := BitVec.ofNat 64 (bytes / 2 ^ 20)
  (s.setReg (r 0) v).setReg (r 1) v

/-- The capacities and the free space computed anew (R281): every 100 ms, and at once when a commit changes `WIDTH` or `OP_PCT` (R282). -/
def capacityShow (s : State) : State :=
  let o := s.capOwn
  let p := if s.solo then (0, 0, 0, 0) else s.md.partner
  let w := s.mediaWidth
  let raw := s.modulesIn.foldl (fun n k => n + s.rawOf k) 0
  let res := o.2.2.2 + p.2.2.2
  let data := (raw - res) * (w - 2) / w
  let usable := data * (100 - s.act (Reg.MEDIA_CFG_OP_PCT s.mediaActive)) / 100
  let free := (o.2.2.1 + p.2.2.1) * (w - 2) / w
  let live := o.1 + p.1
  let mt := o.2.1 + p.2.1
  let s1 := ((((((s.capSet Reg.MEDIA_CAP_RAW raw).capSet Reg.MEDIA_CAP_RES res).capSet Reg.MEDIA_CAP_DATA data).capSet
    Reg.MEDIA_CAP_USABLE usable).capSet Reg.MEDIA_CAP_FREE free).capSet Reg.MEDIA_CAP_LIVE live).capSet Reg.MEDIA_CAP_META mt
  let s2 := s1.loomSet Reg.LOOM_GC_STATE_FREE_PM (if data = 0 then 0 else 1000 * free / data)
  let note := fun (t : State) => t.event 0x0501 (Reg.MEDIA_PAGE t.mediaActive) 0 0
  let at90 := decide (90 * usable < 100 * (live + mt))
  let at100 := decide (usable < live + mt)
  let s3 := if at90 && !s2.md.cap90 then note s2 else s2
  let s4 := if at100 && !s3.md.cap100 then note s3 else s3
  { s4 with md.cap90 := at90, md.cap100 := at100 }

/-- The recomputation of every 100 ms, and the report to the partner. -/
def capacity (s : State) : State :=
  let s1 := s.capacityShow
  let o := s.capOwn
  if s1.paired then s1.sendMsg 0x000C [o.1, o.2.1, o.2.2.1, o.2.2.2] else s1

/-! ## Patrol (R268, R277, R278, R304) -/

/-- The closed segments that a patrol pass reads. -/
def patrolSegs (s : State) : List (Nat × Seg) := s.md.segs.filter (fun e => e.2.st == .closed && s.ownSeg e.1)

/-- Whether a member is queued for relocation. -/
def queuedMember (s : State) (seg m : Nat) : Bool := s.md.victims.any (fun v => v.seg == seg && v.member == some m)

/-- The next unit of the pass: segment, row and member. -/
def patrolNext (s : State) : Option (Nat × Nat × Nat) :=
  (s.patrolSegs.filter (fun e => decide (s.md.patrolAt.1 ≤ e.1))).findSome? (fun e =>
    let w := e.2.width
    let lo := if e.1 = s.md.patrolAt.1 then s.md.patrolAt.2.1 * w + s.md.patrolAt.2.2 else 0
    ((List.range (e.2.durable * w)).find? (fun i => decide (lo ≤ i) && !s.queuedMember e.1 (i % w) && !e.2.lost.contains (i % w))).map
      (fun i => (e.1, i / w, i % w)))

/-- A pass begins. -/
def passBegin (s : State) : State :=
  let n := s.fld (Reg.MEDIA_PATROL_STATUS_PASS 0) + 1
  (List.range 2).foldl (fun t i => t.setFld (Reg.MEDIA_PATROL_STATUS_PASS i) n)
    { s with
      md.patrolAt := (0, 0, 0), md.patrolPos := 0, md.patrolStart := s.now, md.patrolLate := false
      md.patrolDays := s.act (Reg.MEDIA_CFG_PATROL_DAYS s.mediaActive) }

/-- Mean erase count of the ERASED and DIRTY blocks of this head, over the blocks the table lists. -/
def meanErases (s : State) : Nat :=
  let l := s.md.blocks.filter (fun e => (e.2.st == .erased || e.2.st == .dirty) && s.dieUsable (e.1 / 2 ^ 16 % 64))
  l.foldl (fun n e => n + e.2.erases) 0 / max 1 l.length

/-- The static wear test of a segment (R268). -/
def wearTest (s : State) (id : Nat) (g : Seg) : State :=
  let low := (g.members.map (fun m => (s.blkOf (blkKey m.1 m.2.1 m.2.2)).erases)).foldl min 65535
  if low + s.act (Reg.MEDIA_CFG_WEAR_DELTA s.mediaActive) < s.meanErases && !s.md.victims.any (fun v => v.seg == id && v.order == 5) then
    (s.addVictim ⟨5, id, none, 0⟩).mediaCnt 6 1
  else s

/-- The syndromes of the row that patrol checks: computed from the units that it read, where they are given (R304). -/
def patrolSyndrome (s : State) (id row : Nat) (g : Seg) (r : PatrolRead) : Syndrome :=
  if r.units.isEmpty then r.syndrome
  else
    syndromeOf (dataMembers g) (fun m => r.units.getD m []) (fun m =>
      r.crcBad.any (fun c => match s.chunk? c with | some e => e.segment == id && e.row == row && e.member == m | none => false)
        || !(walkUnit (r.units.getD m [])).all (fun x => x.good))

/-- The members of a row that a parity mismatch enters as suspect, and the counter it advances (R304). -/
def mismatchOf (g : Seg) (x : Syndrome) : Option (List Nat × Nat) :=
  match x with
  | .consistent => none
  | .pWrong => some ([g.width - 2], 8)
  | .qWrong => some ([g.width - 1], 8)
  | .dataWrong m => some ([m.val], 9)
  | .notLocatable => some (List.range g.width, 10)

/-- The parity check of a row (R304), acted on once. -/
def parityCheck (s : State) (id row : Nat) (g : Seg) (x : Syndrome) : State :=
  match mismatchOf g x with
  | none => s
  | some (ms, k) =>
    if s.md.suspect.any (fun y => y.1 == id && y.2.2 == row) then s
    else
      let s1 := ((ms.foldl (fun t m => t.suspectAdd id m row) s).bump (Reg.SEGW_CNT k) 1).event 0x0602 Reg.SEGW_PAGE
        (argWord [(0, id), (4, row)]) 0
      (List.range (dataMembers g)).foldl (fun t m => t.relocate id m 0 none) s1

/-- `MEDIA.PATROL_STATUS` brought up to date, and a lag beyond 10% recorded once a pass. -/
def patrolShow (s : State) : State :=
  let total := max 1 (s.patrolSegs.foldl (fun n e => n + e.2.durable * e.2.width) 0)
  let period := s.md.patrolDays * 86400 * 1000000000
  let gone := (s.now - s.md.patrolStart) * 1000 / max 1 period
  let pos := min 1000 (s.md.patrolPos * 1000 / total)
  let lag := min 65535 (gone - pos)
  let s1 := (List.range 2).foldl (fun t i =>
    (t.setFld (Reg.MEDIA_PATROL_STATUS_LAG_PM i) lag).setFld (Reg.MEDIA_PATROL_STATUS_POS_PM i) pos) s
  if 100 < lag && !s1.md.patrolLate then
    { s1 with md.patrolLate := true }.event 0x0503 (Reg.MEDIA_PAGE s1.mediaActive) 0 0
  else s1

/-- Whether this pass gives a chunk's form the full read check: one in `GUARD_SAMPLE`, by the chunk id's low bits, a residue that advances by
one each pass: DESIGN CHOICE, R277 says only that it is rotated (log entry 100). -/
def guardSampled (s : State) (c : Nat) : Bool :=
  let n := max 1 (s.act (Reg.MEDIA_CFG_GUARD_SAMPLE s.mediaActive))
  c % n == s.fld (Reg.MEDIA_PATROL_STATUS_PASS 0) % n

/-- Patrol's lag of every 100 ms, once its first pass has begun. -/
def patrolCheck (s : State) : State := if s.serving && s.fld (Reg.MEDIA_PATROL_STATUS_PASS 0) != 0 then s.patrolShow else s

/-- What patrol finds in one unit. -/
def patrolFind (s : State) (id row m : Nat) (g : Seg) (r : PatrolRead) : State :=
  let mend := fun (t : State) => (t.suspectAdd id m row).relocate id m 1000 none
  let s1 := if r.tagOk then s else mend s
  let s2 := r.crcBad.foldl (fun t _ => (mend (t.mediaCnt 11 1)).bump (Reg.SEGW_CNT 3) 1) s1
  let s3 := (r.guardBad.filter s.guardSampled).foldl (fun t _ => (mend (t.mediaCnt 12 1)).bump (Reg.SEGW_CNT 3) 1) s2
  let s4 := s3.readMarginal id m r.corrected.toNat r.retry.toNat
  if s4.fld (Reg.MEDIA_PATROL_STATUS_PASS 0) % 4 = 0 then s4.parityCheck id row g (s.patrolSyndrome id row g r) else s4

/-- Whether the days of the pass are over (R277): the next one begins then. -/
def passOver (s : State) : Bool := decide (s.md.patrolStart + s.md.patrolDays * 86400 * 1000000000 ≤ s.now)

/-- Patrol reads one unit, or begins the next pass. -/
def patrol (s : State) (r : PatrolRead) : State :=
  if !s.serving then s
  else
    let s0 := if s.fld (Reg.MEDIA_PATROL_STATUS_PASS 0) = 0 then s.passBegin else s
    match s0.patrolNext with
    | none => (if s0.passOver then s0.passBegin else s0).patrolShow
    | some (id, row, m) =>
      match s0.seg? id with
      | none => s0
      | some g =>
        let first := s0.md.patrolAt.1 != id
        let s1 := (if first then s0.wearTest id g else s0).mediaCnt 10 1
        let s2 := s1.patrolFind id row m g r
        ({ s2 with md.patrolAt := (id, row, m + 1), md.patrolPos := s2.md.patrolPos + 1 }).patrolShow

/-! ## The segment query -/

/-- The code of a segment state. -/
def segCode : SegState → Nat
  | .opened => 1
  | .closed => 2
  | .victim => 3
  | .drained => 4
  | .reserved => 5

/-- A segment's entry read into `SEG_DATA0` to `SEG_DATA2`. -/
def segQuery (s : State) (i seg member : Nat) : State :=
  let s0 := (s.setFld (Reg.MEDIA_SEG_CMD_SEGMENT i) seg).setFld (Reg.MEDIA_SEG_CMD_MEMBER i) member
  match s.seg? seg with
  | none => ((s0.setReg (Reg.MEDIA_SEG_DATA0 i) 0).setReg (Reg.MEDIA_SEG_DATA1 i) 0).setReg (Reg.MEDIA_SEG_DATA2 i) 0
  | some g =>
    let s1 := ((((s0.setFld (Reg.MEDIA_SEG_DATA0_LIVE32 i) (g.live / 32)).setFld (Reg.MEDIA_SEG_DATA0_LAST_ROW i) (g.durable - 1)).setFld
      (Reg.MEDIA_SEG_DATA0_WIDTH i) g.width).setFld (Reg.MEDIA_SEG_DATA0_TYPE i) g.type).setFld (Reg.MEDIA_SEG_DATA0_STATE i) (segCode g.st)
    let s2 := s1.setReg (Reg.MEDIA_SEG_DATA1 i) (BitVec.ofNat 64 g.seq)
    match g.members[member]? with
    | none => s2.setReg (Reg.MEDIA_SEG_DATA2 i) 0
    | some m =>
      let b := s.blkOf (blkKey m.1 m.2.1 m.2.2)
      ((((s2.setFld (Reg.MEDIA_SEG_DATA2_BLK_STATE i) (blkCode b.st)).setFld (Reg.MEDIA_SEG_DATA2_ERASES i) b.erases).setFld
        (Reg.MEDIA_SEG_DATA2_BLOCK i) m.2.2).setFld (Reg.MEDIA_SEG_DATA2_DIE i) m.2.1).setFld (Reg.MEDIA_SEG_DATA2_MODULE i) m.1

/-! ## Rebuild (R298 to R303) -/

/-- Rank of a type in rebuild (R298). -/
def rebuildRank (t : Nat) : Nat := if t = 4 then 0 else if t = 3 then 1 else if t = 5 then 3 else 2

/-- The order in which the segments of a rank are rebuilt: one already taken first, then by type, live bytes and id. -/
def rebuildKey (x : Nat × Seg × Nat) : List Nat :=
  [if x.2.1.st = .victim then 0 else 1, rebuildRank x.2.1.type, x.2.1.live, x.1]

/-- Whether a segment has a member on a module that is evacuated (R324). -/
def leaving (s : State) (g : Seg) : Bool := g.members.any (fun m => s.svcState m.1 == 5)

/-- The segment that rebuild takes next in a rank (R298): the CRITICAL ones, with those a third loss has broken, or the DEGRADED ones and those
of a module that is evacuated (R324). -/
def rebuildNext (s : State) (critical : Bool) : Option (Nat × Seg × Nat) :=
  bestBy (fun (a b : Nat × Seg × Nat) => decide (rebuildKey a < rebuildKey b))
    (s.stripes.filter (fun x => x.2.1.st != .drained && (if critical then decide (2 ≤ x.2.2)
      else x.2.2 == 1 || (x.2.2 == 0 && s.leaving x.2.1))))

/-- Whether rebuild carries on a segment: it is the next one of its rank. -/
def rebuildTurn (s : State) (id : Nat) : Option (Nat × Seg × Nat) :=
  ([true, false].filterMap s.rebuildNext).find? (fun x => x.1 == id)

/-- The runs of the index that lie in a segment that is rebuilt and that cannot be read are dropped (R299). -/
def runsDrop (s : State) (g : Seg) (lost : List Nat) : State :=
  if g.type = 5 then { s with mp.runs := (s.mp.runs.mapIdx (fun i r => (i, r))).filterMap (fun x => if lost.contains x.1 then none else some x.2) }
  else s

/-- A segment is rebuilt: everything live is moved out of it, forms on lost members among it. -/
def rebuild (s : State) (id : Nat) (lost : RebuildRead) : State :=
  if !s.serving then s
  else
    match s.rebuildTurn id with
    | none => s
    | some (_, g, _) =>
      let s0 := ((if g.st = .victim then s else s.readLive id none).runsDrop g lost.runs).modSeg id (fun x => { x with st := .victim })
      let r := s0.emptySegment id g none lost.damaged (s.unreadForms id lost)
      (r.1.settle).stripeEval

/-- The figures of R301: what is left, and the time it takes at the mean rate of the last 10 s. -/
def rebuildPublish (s : State) : State :=
  let n := (s.stripes.filter (fun x => x.2.2 == 1 || x.2.2 == 2)).foldl (fun k x => k + x.2.1.live) 0
  let eta := if n = 0 then 0
    else match s.md.lastRemain with
      | some r => if n < r then min 0xFFFFFFFF (ceilDiv (n * 10) (r - n)) else 0xFFFFFFFF
      | none => 0xFFFFFFFF
  ({ s with md.lastRemain := if n = 0 then none else some n }.setFld Reg.SEGW_REBUILD_STATUS_REMAIN_GIB (n / 2 ^ 30)).setFld
    Reg.SEGW_REBUILD_STATUS_ETA_S eta

/-- Runs of consecutive grains: first and length. -/
def runsOf : List Nat → List (Nat × Nat)
  | [] => []
  | g :: t =>
    match runsOf t with
    | [] => [(g, 1)]
    | (a, n) :: r => if a = g + 1 then (g, n + 1) :: r else (g, 1) :: (a, n) :: r

/-- Numbers in ascending order. -/
def ascending (l : List Nat) : List Nat :=
  l.foldl (fun acc x => acc.filter (fun y => decide (y ≤ x)) ++ x :: acc.filter (fun y => decide (x < y))) []

/-- One tree's runs that reference a LOST chunk are posted (R303). -/
def postRuns (tenant volume snap cause time chunk : Nat) (root : Nat) (s : State) : State :=
  (runsOf (ascending (((s.treeGrains root).filter (fun e => e.2 == chunk || s.resolve e.2 == chunk)).map (fun e => e.1)))).foldl
    (fun t r => (t.evQueueExtent ⟨tenant, volume, snap, r.1, r.2, cause, time⟩).bump (Reg.SEGW_CNT 12) 1) s

/-- The trees that reference one LOST chunk are searched. -/
def searchLost (s : State) (x : Nat × Nat × Nat) : State :=
  let tn := ((s.chunk? x.1).map (fun e => e.tenant)).getD 0
  let s1 := s.nv.volumes.foldl (fun t v => postRuns tn v.1 0 x.2.1 x.2.2 x.1 v.2.root t) s
  s.mp.snaps.foldl (fun t n => postRuns tn n.2.volume n.1 x.2.1 x.2.2 x.1 n.2.root t) s1

/-- The extents of the chunks set LOST are searched while the event queue has room. -/
def searchAll : List (Nat × Nat × Nat) → State → State
  | [], s => s
  | x :: t, s =>
    if s.extentRoom then searchAll t { s.searchLost x with md.lostChunks := s.md.lostChunks.tail } else s

end State

open State

/-- CHECKPOINT_COMPLETE (R246). -/
def execCheckpointComplete (s : State) : Out := .next s.ckptDone

/-- VICTIM_SCORING (R272): every 100 ms; patrol's lag is held against its schedule at the same time (R277, log entry 100). -/
def execVictimScoring (s : State) : Out := .next s.score.patrolCheck

/-- COLLECT_VICTIM (R273). -/
def execCollectVictim (damaged lost : List Nat) (s : State) : Out := .next (s.collect damaged lost)

/-- SEGMENT_ERASE (R274). -/
def execSegmentErase (segment : Nat) (s : State) : Out := .next (s.eraseSegment segment)

/-- ERASE_CLEAR_REQ (R274). -/
def execEraseClearReq (segment : Nat) (s : State) : Out :=
  .next (if s.linkUp then { s with md.clearReqs := s.md.clearReqs ++ [segment] }.clearEval else s)

/-- ERASE_CLEAR_ANS (R274). -/
def execEraseClearAns (segment : Nat) (s : State) : Out :=
  .next (if s.linkUp then s.modSeg segment (fun g => { g with clear := true }) else s)

/-- CAP_REPORT (R281). -/
def execCapReport (live metadata free reserved : Nat) (s : State) : Out :=
  .next (if s.linkUp then { s with md.partner := (live, metadata, free, reserved) } else s)

/-- CAPACITY_RECOMPUTE (R281). -/
def execCapacityRecompute (s : State) : Out := .next s.capacity

/-- LIVE_DELTA (R270). -/
def execLiveDelta (segment _chunk bytes : Nat) (s : State) : Out :=
  .next (if s.linkUp && s.ownSeg segment then s.liveSub segment bytes else s)

/-- SEGMENT_QUERY (R264). -/
def execSegmentQuery (media : Fin 2) (segment : BitVec 24) (member : BitVec 5) (s : State) : Out :=
  .next (s.barWrite (Reg.MEDIA_SEG_CMD media.val) (fun t => t.segQuery media.val segment.toNat member.toNat))

/-- REBUILD_SEGMENT (R298). -/
def execRebuildSegment (segment : Nat) (lost : RebuildRead) (s : State) : Out := .next (s.rebuild segment lost)

/-- REBUILD_STATUS_PUBLISH (R301). -/
def execRebuildStatusPublish (s : State) : Out := .next s.rebuildPublish

/-- LOST_EXTENT_SEARCH (R303). -/
def execLostExtentSearch (s : State) : Out := .next (searchAll s.md.lostChunks s)

end Sys2Proof.Machine
end

