-- ==== Sys2Proof/Machine/SanWork.lean ====
section
/-!
DEFINITION. Sys2Proof/Machine/SanWork.lean: the work that each phase of a Sanitize asks of a head (R120, R121, R416), and its start at the
head that is not the configuration head.
-/

namespace Sys2Proof.Machine

namespace State

/-! ## The work of a phase -/

/-- Crypto erase at this head (R416): the tenant's slot is zeroized and its ledger entry removed. -/
def cryptoErase (s : State) (t : Nat) : State :=
  if !slotFull (s.keySlot t) then s
  else
    let s1 := (s.zeroizeSlot t).bump (Reg.KEYS_CNT 3) 1
    { s1 with sec.ledger := ledgerPut s1.sec.ledger (s1.slotEntry t) }.ledgerReclaim

/-- Segments that hold a chunk of a tenant, as this head's chunk table shows them. -/
def segsOfTenant (s : State) (t : Nat) : List Nat :=
  ((s.mp.chunks.filter (fun e => e.2.tenant == t && (e.2.state == .located || (e.2.state == .freeing && e.2.segment != 0)))).map
    (fun e => e.2.segment)).dedup.filter (fun id => match s.seg? id with | some g => g.type == 1 || g.type == 2 | none => false)

/-- A tree and every snapshot of a volume emptied: their pages are freed, and the roots are 0. -/
def emptyVolume (s : State) (v : Nat) : State :=
  match s.vol? v with
  | none => s
  | some x =>
    let snaps := s.mp.snaps.filter (fun e => e.2.volume == v)
    let pages := (s.treePages x.root ++ snaps.flatMap (fun e => s.treePages e.2.root)).dedup
    let s1 := s.tcntSub x.tenant 11 (4096 * (s.treeGrains x.root).length)
    { (s1.freePages pages).modVol v (fun y => { y with root := 0, dict := 0 }) with
      mp.snaps := s1.mp.snaps.map (fun (e : Nat × Snapshot) => (e.1, if e.2.volume = v then { e.2 with root := 0 } else e.2)) }

/-- A tenant's dictionaries and index entries released. -/
def dropReduction (s : State) (t : Nat) : State :=
  let mine := s.mp.dicts.filter (fun e => e.2.tenant == t)
  let s1 := { s with
    mp.dicts := s.mp.dicts.filter (fun e => e.2.tenant != t)
    mp.index := (s.mp.index.map (fun (e : Nat × List IdxEntry) => (e.1, e.2.filter (fun (x : IdxEntry) => x.tenant != t)))).filter (fun e => !e.2.isEmpty)
    mp.idxLog := s.mp.idxLog.filter (fun x => x.tenant != t)
    mp.runs := s.mp.runs.map (fun (l : Nat × List IdxEntry) => (l.1, l.2.filter (fun x => x.tenant != t))) }
  s1.lower (mine.flatMap (fun e => e.2.pieces))

/-- Map drop at this head: the namespaces and snapshots of the groups it owns, and both heads' segment lists are fixed. -/
def mapDrop (s : State) (t : Nat) : State :=
  let all := s.segsOfTenant t
  let own := all.filter (fun id => s.ownSeg id || s.solo)
  let s1 := s.modSan t (fun y => { y with
    list := (y.list ++ own).dedup
    listOther := (y.listOther ++ all.filter (fun id => !own.contains id)).dedup })
  let vols := (s1.nv.volumes.filter (fun e => e.2.tenant == t && s1.ownsGroup e.2.group)).map (fun e => e.1)
  ((vols.foldl emptyVolume s1).dropReduction t).settle

/-- Block erase begins at this head: each listed segment is closed and becomes a victim of order 4; one that is gone already counts as
erased. -/
def blockErase (s : State) (t : Nat) : State :=
  match s.tenant? t with
  | none => s
  | some x =>
    x.san.list.foldl (fun u id =>
      match u.seg? id with
      | some _ => if u.md.victims.any (fun v => v.seg == id && v.order == 4) then u else (u.earlyClose id).addVictim ⟨4, id, none, 0⟩
      | none => (u.modSan t (fun y => { y with list := y.list.filter (fun k => k != id), done := y.done + 1 }))) s

/-- The work that a phase asks of this head. -/
def sanWork (s : State) (t phase : Nat) : State :=
  match phase with
  | 2 => s.cryptoErase t
  | 3 => s.mapDrop t
  | 4 => s.blockErase t
  | _ => s

/-- Whether the work of a phase is done at this head. -/
def sanReady (s : State) (t : Nat) (x : Sanitize) : Bool :=
  if x.phase = 1 then !s.nv.cmds.any (fun e => e.2.tenant == t) else if x.phase = 4 then x.list.isEmpty else true

/-- Whether a record of the other head is, or has been, in this head's mirror. -/
def mirrorHas (s : State) (seq : Nat) : Bool :=
  s.jr.mir.any (fun r => r.seq == seq) || decide (seq < (s.reg Reg.SELV_MIR_TAIL_SEQ).toNat)

/-- A phase that the configuration head has started begins here (R120): the tenant is quiesced, the work is done, and a phase that is
finished at once is reported. -/
def sanBegin (s : State) (t phase : Nat) : State :=
  let s1 := s.modTenant t (fun y => { y with quiesced := true, san := { y.san with stat := 2, phase := phase, awaits := none } })
  let s2 := s1.sanWork t phase
  match s2.tenant? t with
  | some y => if s2.sanReady t y.san && phase != 1 then s2.sendMsg 0x020B [t, phase, 2, y.san.done, 0] else s2
  | none => s2

/-- Phases whose record has come into the mirror begin (R120). -/
def sanAwaited (s : State) : State :=
  s.nv.tenants.foldl (fun u e =>
    match e.2.san.awaits with
    | some (phase, seq) => if u.mirrorHas seq then u.sanBegin e.1 phase else u
    | none => u) s

end State

end Sys2Proof.Machine
end

