-- ==== Sys2Proof/Machine/Standby.lean ====
section
/-!
DEFINITION. Sys2Proof/Machine/Standby.lean: the ownership table, what a journaled entry does to the state when the other head applies
it (R235, R241, R243, R378), and the standby state that mirrored records keep current.
-/

namespace Sys2Proof.Machine

namespace State

/-! ## The ownership table (R354) -/

/-- Groups that this head owns. -/
def ownedGroups (s : State) : List Nat := (s.nv.groups.filter (fun e => e.2 == s.headIndex)).map (fun e => e.1)

/-- Whether a group is reported ANA Inaccessible at this head: no serving head owns it (R115). -/
def groupInaccessible (s : State) (g : Nat) : Bool :=
  (tGet? s.nv.groups g).isSome && s.groupState g == 2

/-- `OWN.GRP` of one group. -/
def groupShow (s : State) (g : Nat) : State :=
  let s1 := (s.setFld (Reg.OWN_GRP_GEN g) (tGet s.nv.groupGens g 0)).setFld (Reg.OWN_GRP_OWNER g) (tGet s.nv.groups g 3)
  let sw := match tGet? s.own.swaps g with | some x => if x.giving then 1 else 2 | none => 0
  (s1.setFld (Reg.OWN_GRP_SWAP g) sw).setBit (Reg.OWN_GRP_INACCESSIBLE g) (s.groupInaccessible g)

/-- `OWN`'s registers brought up to date. -/
def ownShow (s : State) : State :=
  let s1 := (List.range 256).foldl groupShow s
  let s2 := (s1.setFld Reg.OWN_STATUS_OWNED s.ownedGroups.length).setBit Reg.OWN_STATUS_SWAP_BUSY (!s.own.swaps.isEmpty)
  let s3 := s2.setBit Reg.OWN_STATUS_JOIN_BUSY (s.own.join.isSome || s.fld Reg.OWN_STATUS_ROLE == 4)
  (s3.setBit Reg.OWN_STATUS_TAKEOVER_BUSY ((s.own.move.map (fun m => decide (m.cause ≤ 2))).getD false)).setFld
    Reg.OWN_ARRAY_MODULES s.own.members.length

/-- A group's owner and generation written. -/
def putOwner (s : State) (g owner gen : Nat) : State :=
  { s with nv.groups := tPut s.nv.groups g owner, nv.groupGens := tPut s.nv.groupGens g gen }

/-- An OWNERSHIP entry (R378). -/
def ownCtl (s : State) (g owner op : Nat) : Ctl := ⟨0x20, [g, owner, op, tGet s.nv.groupGens g 0 + 1, s.beat]⟩

/-- Groups change their owner by OWNERSHIP entries of one operation, in one CONTROL record (R354). -/
def setOwners (s : State) (l : List Nat) (owner op : Nat) : State :=
  let s1 := s.journalCtl (l.map (fun g => s.ownCtl g owner op))
  l.foldl (fun t g => t.putOwner g owner (tGet t.nv.groupGens g 0 + 1)) s1

/-! ## Member count (R357) -/

/-- A module enters M or leaves it, by a MEMBERS entry. -/
def memberCtl (s : State) (adds drops : List Nat) : State :=
  let adds' := adds.filter (fun k => !s.own.members.contains k)
  let drops' := drops.filter (fun k => s.own.members.contains k)
  let ms := s.own.members.filter (fun k => !drops'.contains k) ++ adds'
  if adds'.isEmpty && drops'.isEmpty then s
  else ({ s with own.members := ms }.journalCtl (adds'.map (fun k => Ctl.mk 0x23 [k, 1, ms.length])
    ++ drops'.map (fun k => Ctl.mk 0x23 [k, 2, ms.length]))).ownShow

end State

/-! ## Entries read back -/

/-- Numbers taken two at a time. -/
def pairsOf : List Nat → List (Nat × Nat)
  | a :: b :: t => (a, b) :: pairsOf t
  | _ => []

/-- Numbers taken three at a time. -/
def triplesOf : List Nat → List (Nat × Nat × Nat)
  | a :: b :: c :: t => (a, b, c) :: triplesOf t
  | _ => []

/-- The page that a MAP_IMAGE entry shows: its id, its operation and source, and the page. -/
def imageOf (l : List Nat) (now : Nat) : Option (Nat × Nat × Nat × Page) :=
  match l with
  | id :: vol :: level :: op :: birth :: key :: src :: n :: rest =>
    some (id, op, src, ⟨vol, level, birth, key, pairsOf (rest.take (2 * n)), triplesOf (rest.drop (2 * n)), true, false, none, 0, 0, now⟩)
  | _ => none

/-- Bytes of a list of numbers. -/
def bytesOf (l : List Nat) : Bytes := l.map (fun n => BitVec.ofNat 8 n)

namespace State

/-- A page that becomes the root of its volume's live tree: a copy of the root, a page above it, or the first page of an empty tree. -/
def isNewRoot (s : State) (op src : Nat) (p : Page) : Bool :=
  match s.vol? p.volume with
  | none => false
  | some v => p.level != 0 && (v.root == 0 || (op == 1 && src == v.root) || p.slots.any (fun e => e.2.2 == v.root))

/-- A MAP_IMAGE entry applied (R241, R252, R253): the chunks of a freed leaf are what the record lets go. An id of this head's own that it
names is not allocated again (R231). -/
def applyImage (s : State) (l : List Nat) : State × List Nat :=
  match imageOf l s.now with
  | none => (s, [])
  | some (id, op, src, p) =>
    if op = 3 then
      ({ s with mp.pages := tDel s.mp.pages id, mp.overlay := s.mp.overlay.filter (fun o => o.1 != id)
                nv.volumes := s.nv.volumes.map (fun (e : Nat × Volume) => (e.1, if e.2.root = id then { e.2 with root := 0 } else e.2))
                mp.snaps := s.mp.snaps.map (fun (e : Nat × Snapshot) => (e.1, if e.2.root = id then { e.2 with root := 0 } else e.2)) },
        match s.page? id with | some q => if q.level = 0 then q.ents.map (fun e => e.2) else [] | none => [])
    else
      let s1 := if op = 1 then p.ents.foldl (fun (t : State) (e : Nat × Nat) => t.countUp e.2 1) s else s
      let q : Page := match s.page? id with
        | some o => { o with volume := p.volume, level := p.level, birth := p.birth, key := p.key, ents := p.ents, slots := p.slots }
        | none => { p with resident := p.level != 0 || ((s.vol? p.volume).map (fun v => v.pinned)).getD false, applied := if op = 1 then 0 else src }
      let root := s.isNewRoot op src p
      let s2 := { s1.setPage id q with mp.nextPage := if id % 2 = s.headIndex % 2 then max s.mp.nextPage (id / 2 + 1) else s.mp.nextPage }
      (if root then s2.modVol p.volume (fun v => { v with root := id }) else s2, [])

/-- A MAP_ADDR entry applied (R241, R245): the page has a new flash address, and its overlay entries up to `APPLIED_SEQ` go. -/
def applyAddr (s : State) (id seg row member pos applied : Nat) : State :=
  match s.page? id with
  | none => s
  | some p =>
    let keep := s.mp.overlay.filter (fun o => o.1 != id || decide (applied < o.2.1))
    { s.setPage id { p with flash := some (seg, row, member, pos), dirty := p.dirty && decide (applied < p.applied) } with
      mp.overlay := keep }.overlayShow

/-- A CHUNK_STATE entry applied (R235): only the keeper moves a chunk to FREEING and to FREE, and this head follows. -/
def applyChunk (s : State) (c st : Nat) : State :=
  match s.chunk? c with
  | none => s
  | some e =>
    match st with
    | 0 => (s.dropChunk c).freeId c
    | 4 => s.setChunk c { e with state := .freeing, count := 0 }
    | 5 => s.setChunk c { e with state := .lost, len32 := 0, segment := 0, row := 0, member := 0, off := 0 }
    | _ => s

/-- An ALIAS entry applied (R216, R235): a removed alias lets its target go. -/
def applyAlias (s : State) (a t op : Nat) : State × List Nat :=
  match s.chunk? a with
  | none => (s, [])
  | some e =>
    if op = 1 then
      ((s.setChunk a { e with state := .alias_, target := t, len32 := 0 }).countUp t 1, if e.state = .alias_ then [e.target] else [])
    else (s, [t])

/-- A SNAP entry applied (R243, R251, R253, R254). -/
def applySnap (s : State) (op id vol clone gen root cut : Nat) : State :=
  match op with
  | 1 => { s with mp.snaps := tPut s.mp.snaps id ⟨vol, gen, root, cut, false, false⟩, mp.nextSnap := max s.mp.nextSnap (id / 2 + 1) }.modVol
      vol (fun v => { v with gen := gen + 1, lastSnap := some (cut * 10000 / 1000000000) })
  | 2 => { s with mp.snaps := tDel s.mp.snaps id }
  | 3 => { s with mp.snaps := tMod s.mp.snaps id (fun x => { x with hidden := true, deleting := true }) }
  | 4 => s.modVol clone (fun v => { v with root := root, gen := gen + 1, origin := some id })
  | _ => s

/-- A reservation entry applied. -/
def applyResv (s : State) (vol rtype gen ptpl holder : Nat) (regs : List Nat) : State :=
  s.modVol vol (fun v => { v with resv := {
    regs := (pairsOf regs).map (fun x => (BitVec.ofNat 128 x.1, BitVec.ofNat 64 x.2))
    holder := if holder = 0 then none else some (BitVec.ofNat 128 (holder - 1)), rtype := rtype, gen := gen, ptpl := ptpl == 1 } })

/-- A volume with nothing in it. -/
def newVolume (tenant nsid group lbaf blocks : Nat) (nguid : BitVec 128) (eui64 : Word) : Volume :=
  { tenant := tenant, nsid := nsid, group := group, lbaf := lbaf, blocks := blocks, nguid := nguid, eui64 := eui64, root := 0, gen := 1,
    pinned := false, pinReady := false, loading := false, formatting := none, formatHost := none,
    resv := { regs := [], holder := none, rtype := 0, gen := 0, ptpl := false }, dict := 0, dictMode := 0, origin := none,
    lastSnap := none }

/-- A Sanitize that has not been asked for. -/
def noSanitize : Sanitize :=
  { stat := 0, prog := 0, phase := 0, erased := false, list := [], listOther := [], done := 0, doneOther := 0, covered := 0, held := [],
    otherDone := false, host := none }

/-- A tenant as it is created. -/
def newTenant (crdt1 crdt2 crdt3 : Nat) (nqn sn mn : Bytes) : Tenant :=
  { nqn := nqn, sn := sn, mn := mn, hosts := [], crdt1 := crdt1, crdt2 := crdt2, crdt3 := crdt3, san := noSanitize, quiesced := false,
    written := 0, stored := 0, recent := [], deleting := none }

/-- A tenant's subsystem is removed: its controllers end, and their connections with them (R96, R507). -/
def dropSubsystem (s : State) (t : Nat) : State :=
  let s1 := (s.ctrlsOf t).foldl (fun (u : State) e => u.deleteCtrl e.1) s
  { s1 with nv.tenants := tDel s1.nv.tenants t }

/-- A tenant entry (the model's own subtype 0x13): 1 create, 2 delete, 3 and 4 a host added and removed, 5 contract, 6 reduction
settings, 7 and 8 a PSK identity mapped and unmapped. -/
def applyTenant (s : State) (l : List Nat) : State :=
  match l with
  | 1 :: t :: c1 :: c2 :: c3 :: n :: rest =>
    let x := newTenant c1 c2 c3 (bytesOf (rest.take n)) (bytesOf ((rest.drop n).take 20)) (bytesOf ((rest.drop (n + 20)).take 40))
    { s with nv.tenants := tPut s.nv.tenants t x }
  | [2, t] => s.dropSubsystem t
  | 3 :: t :: cls :: nqn => s.modTenant t (fun x => { x with
      hosts := x.hosts.filter (fun h => h.1 != bytesOf nqn) ++ [(bytesOf nqn, cls)] })
  | 4 :: t :: nqn => s.modTenant t (fun x => { x with hosts := x.hosts.filter (fun h => h.1 != bytesOf nqn) })
  | [5, t, a, b, c, d] =>
    let w := [a, b, c, d].map (BitVec.ofNat 64)
    { s with loom.staged := tPut s.loom.staged t w, loom.contractNext := tPut s.loom.contractNext t w }.shareSum
  | [6, t, r] => { s with mp.redS := tPut s.mp.redS t r, mp.redA := tPut s.mp.redA t r }.genNext Reg.MAPX_PAGE
  | 7 :: slot :: id => { s with nv.psks := s.nv.psks.filter (fun x => x.1 != bytesOf id) ++ [(bytesOf id, slot)] }
  | 8 :: id => { s with nv.psks := s.nv.psks.filter (fun x => x.1 != bytesOf id) }
  | _ => s

/-- A staging volume's tree becomes a replica's content (R387 step 7). -/
def rehome (s : State) (v st root : Nat) : State :=
  { s with
    mp.pages := s.mp.pages.map (fun (e : Nat × Page) => (e.1, if e.2.volume = st then { e.2 with volume := v } else e.2))
    nv.volumes := tDel s.nv.volumes st }.modVol v (fun x => { x with root := root })

/-- A volume entry (the model's own subtype 0x14): 1 create, 2 resize, 3 delete, 4 dictionary mode. -/
def applyVolume (s : State) (l : List Nat) : State :=
  match l with
  | [1, v, t, nsid, g, lbaf, blocks, nguid, eui] =>
    { s with nv.volumes := tPut s.nv.volumes v (newVolume t nsid g lbaf blocks (BitVec.ofNat 128 nguid) (BitVec.ofNat 64 eui)) }.nsChanged t nsid
  | [2, v, n] => s.modVol v (fun x => { x with blocks := n })
  | [3, v] =>
    match s.vol? v with
    | some x => { s with nv.volumes := tDel s.nv.volumes v }.nsChanged x.tenant x.nsid
    | none => s
  | [4, v, m] => s.modVol v (fun x => { x with dictMode := m })
  | [5, v, st, root] => s.rehome v st root
  | _ => s

/-- A relationship at its start. -/
def newRel (rid : Nat) (source : Bool) (mode volume : Nat) (peer : BitVec 48) (entry : Nat) (ip : BitVec 128) (remote interval : Nat) : Rel :=
  { rid := rid, source := source, mode := mode, volume := volume, peer := peer, entry := entry, ip := ip, remote := remote,
    interval := interval, st := if mode = 2 then 5 else 1, conn := none, hello := false, cycle := 0, base := none, next := none, snapping := false, todo := [],
    ranges := [], offers := [], nextOffer := 0, entries := [], rangeCount := 0, begun := false, committing := false, staging := none, needed := [],
    dicts := [], dictParts := [], committed := 0, bases := [], basing := none, waits := [], unsent := false, syncing := [], held := [] }

/-- A volume becomes a replica or ceases to be one: its namespace leaves or enters every controller (R99, R380). -/
def attachChanged (s : State) (v : Nat) : State :=
  match s.vol? v with
  | some x => s.nsChanged x.tenant x.nsid
  | none => s

/-- A relationship entry (the model's own subtype 0x16): 1 create, 2 modify, 3 delete, 4 the base of a completed cycle, 5 the snapshot
of the cycle that begins, 6 whether it is IN_SYNC. -/
def applyRel (s : State) (l : List Nat) : State :=
  match l with
  | [1, k, rid, src, mode, vol, peer, entry, ip, remote, iv] =>
    let s1 := { s with repl.rels := tPut s.repl.rels k (newRel rid (src == 1) mode vol (BitVec.ofNat 48 peer) entry (BitVec.ofNat 128 ip) remote iv) }
    if src = 1 then s1 else s1.attachChanged vol
  | [2, k, entry, ip, remote, iv] =>
    { s with repl.rels := tMod s.repl.rels k (fun r => { r with entry := entry, ip := BitVec.ofNat 128 ip, remote := remote, interval := iv }) }
  | [3, k] =>
    let s1 := { s with repl.rels := tDel s.repl.rels k }
    match tGet? s.repl.rels k with
    | some r => if r.source then s1 else s1.attachChanged r.volume
    | none => s1
  | [4, k, cycle, base, at_] =>
    { s with repl.rels := tMod s.repl.rels k (fun r => { r with
      cycle := cycle, base := if base = 0 then none else some base, next := none, committed := at_
      bases := if base = 0 then r.bases else ((cycle, base) :: r.bases.filter (fun x => x.1 != cycle)).take 2 }) }
  | [5, k, next] => { s with repl.rels := tMod s.repl.rels k (fun r => { r with next := some next }) }
  | [6, k, sync] => { s with repl.rels := tMod s.repl.rels k (fun r => { r with synced := sync == 1 }) }
  | _ => s

/-- A Sanitize progress entry applied (R120, R121). A head that boots takes the segments that remain from it; a serving head has its own list. -/
def applySan (s : State) (t phase stat listed done doneOther : Nat) (segs : List Nat) : State :=
  let s1 := s.modTenant t (fun x => { x with
    quiesced := x.quiesced || stat == 2
    san := { x.san with phase := phase, stat := stat, done := max x.san.done doneOther, doneOther := done, covered := done + doneOther,
                        prog := if stat = 1 then 65535 else if phase = 4 then 4096 + 61439 * (done + doneOther) / max 1 listed
                          else if phase = 3 then 2048 else 0
                        erased := x.san.erased || stat == 1 } })
  let s1 := if phase = 4 && stat == 2 && !s.serving then
      s1.modTenant t (fun x => { x with san := { x.san with list := segs.filter s.ownSeg, listOther := segs.filter (fun k => !s.ownSeg k) } })
    else s1
  let s2 := match s.tenant? t with
    | some x => s1.sanRelease t (doneOther - (x.san.done - x.san.held.length))
    | none => s1
  if stat = 1 then (s2.modTenant t (fun x => { x with quiesced := false })).sanitizeDone t else s2

/-- A dictionary entry applied (R223). -/
def applyDict (s : State) (slot ver tenant vol len : Nat) (pieces : List Nat) : State :=
  let s1 := { s with mp.dicts := tPut s.mp.dicts slot ⟨tenant, ver, pieces, len, Config.sha256 [], 0⟩ }
  let d := s1.dictContent (2 ^ 30 + 256 * slot + ver)
  { s1 with mp.dicts := tMod s1.mp.dicts slot (fun x => { x with digest := Config.sha256 d }) }.modVol vol
    (fun x => { x with dict := 2 ^ 30 + 256 * slot + ver })

/-- A PIN entry applied (R240, R241): from here on every leaf of the volume is kept resident, and its overlay entries go into the leaves;
at a head that is not serving yet its maps are still to be loaded (R60), and a volume that is unpinned is not loading any more. -/
def applyPin (s : State) (v : Nat) (pinned : Bool) : State :=
  let s1 := s.modVol v (fun x => { x with pinned := pinned, pinReady := false, loading := pinned && (x.loading || !s.serving) })
  match s.vol? v with
  | some x => if pinned && !s.ownsGroup x.group then (s.treePages x.root).foldl (fun t id => t.loadPage id) s1 else s1
  | none => s1

/-- One entry of the other head's CONTROL record applied: the state, and the chunks that the record lets go when it is FLASHED. -/
def applyCtl (s : State) (c : Ctl) : State × List Nat :=
  match c.sub, c.body with
  | 0x01, l => s.applyImage l
  | 0x02, [id, _, seg, row, member, pos, applied] => (s.applyAddr id seg row member pos applied, [])
  | 0x03, [k, st, _] => (s.applyChunk k st, [])
  | 0x04, [a, t, op] => s.applyAlias a t op
  | 0x05, [p, h, op] =>
    ({ s with mp.pools := if op = 1 then tPut s.mp.pools p ⟨h, [], 0, []⟩ else tDel s.mp.pools p }, [])
  | 0x06, [op, id, vol, clone, gen, root, _, cut] => (s.applySnap op id vol clone gen root cut, [])
  | 0x07, [v, p] => (s.applyPin v (p == 1), [])
  | 0x10, t :: phase :: stat :: listed :: done :: other :: segs => (s.applySan t phase stat listed done other segs, [])
  | 0x11, vol :: rtype :: gen :: ptpl :: holder :: regs => (s.applyResv vol rtype gen ptpl holder regs, [])
  | 0x12, [vol, lbaf, stage] =>
    (s.modVol vol (fun v => if stage = 1 then { v with formatting := some lbaf }
      else { v with formatting := none, lbaf := lbaf, root := 0, pinned := v.pinned && lbaf != 2 }), [])
  | 0x13, l => (s.applyTenant l, [])
  | 0x14, l => (s.applyVolume l, [])
  | 0x15, [g] => ({ s with nv.groups := tDel s.nv.groups g }, [])
  | 0x16, l => (s.applyRel l, [])
  | 0x17, [t, nsid, h, kind] => (s.resNotify t nsid (BitVec.ofNat 128 h) kind, [])
  | 0x20, [g, owner, _, gen, _] => ((s.putOwner g owner gen).anaMoved s g, [])
  | 0x21, [epoch, st, _, _, _] =>
    ({ s with
      own.epoch := max s.own.epoch epoch
      own.join := if st = 1 then s.own.join.map (fun (j : Join) => { j with paired := true }) else s.own.join }, [])
  | 0x23, [k, op, _] =>
    ({ s with own.members := if op = 1 then (if s.own.members.contains k then s.own.members else s.own.members ++ [k])
        else s.own.members.filter (fun x => x != k) }, [])
  | 0x30, slot :: ver :: tenant :: vol :: len :: pieces => (s.applyDict slot ver tenant vol len pieces, [])
  | _, _ => (s, [])

/-- The entries of a CONTROL record applied in order. -/
def applyCtls (s : State) (l : List Ctl) : State × List Nat :=
  l.foldl (fun (a : State × List Nat) c =>
    let x := a.1.applyCtl c
    (x.1, a.2 ++ x.2)) (s, [])

/-! ## Segments of the other head -/

/-- A segment of the other head becomes known, or takes the place of one with its id, from a record that names one of its rows. -/
def segSeen (s : State) (seg row type seq : Nat) (members : List (Nat × Nat × Nat)) : State :=
  if s.ownSeg seg && !s.solo then s
  else
    let fresh : Bool := match s.seg? seg with | none => true | some g => type != 3 && g.seq != seq
    if !fresh || members.isEmpty then
      s.modSeg seg (fun g => { g with durable := max g.durable (row + 1), nextRow := max g.nextRow (row + 1),
                                      st := if g.st == .opened && g.rows ≤ row + 1 then .closed else g.st })
    else
      let n := s.unitsOf (members.headD (0, 0, 0)).1
      let g : Seg :=
        { type := type, st := if n ≤ row + 1 then .closed else .opened, width := members.length, rows := n, seq := seq, members := members,
          nextRow := row + 1, durable := row + 1, closedAt := s.now, early := false, live := 0, dir := [], row := none, lost := [],
          degradedSeen := false, criticalSeen := false, clear := false, erasing := [], area := 0 }
      members.foldl (fun t m =>
        let k := blkKey m.1 m.2.1 m.2.2
        t.setBlkOf k { t.blkOf k with st := .inSegment, seg := seg }) (s.setSeg seg g)

/-- The segments that a record's row body or MAP_ADDR entries name. -/
def recordSegs (s : State) (r : JRec) (members : List (Nat × Nat × Nat)) : State :=
  let s1 := match r.row with
    | some d => s.segSeen d.segment d.row (if d.entries.any (fun e => e.moved) then 2 else 1) d.segSeq members
    | none => s
  r.ctl.foldl (fun t c => match c.sub, c.body with
    | 0x02, [_, _, seg, row, _, _, _] => t.segSeen seg row 3 0 members
    | _, _ => t) s1

/-! ## Mirrored records (R171, R185, R235, R241) -/

/-- A stored form that arrives with a record: its chunk is JOURNALED in the mirror region. -/
def takeForm (region : Nat) (r : JRec) (s : State) (f : Form) : State :=
  match s.chunk? f.chunk with
  | some e => if e.state = .journaled then { s with mp.forms := tPut s.mp.forms f.chunk f } else s
  | none =>
    let s1 := s.newChunk f.chunk r.tenant (fingerprint (s.saltOf r.tenant) f.plain)
    let s2 := { s1 with
      mp.chunks := tMod s1.mp.chunks f.chunk (fun e => { e with segment := region, off := r.off, count := 0, len32 := len32Of f.len })
      mp.forms := tPut s1.mp.forms f.chunk f }
    if f.kind = 2 then s2.dictRef f.dictId true else s2

/-- The increments of a record's deltas at the other head (R235): a hit on a chunk that this head keeps was counted at the hit. -/
def takeCount (all : Bool) (s : State) (d : Delta) : State :=
  match d with
  | .store c _ _ _ => s.countUp c 1
  | .dedup c _ _ | .pending c _ _ =>
    if !all && s.keepsPool (poolOf c) then { s with mp.confirmed := dropFirst (fun x => x == c) s.mp.confirmed } else s.countUp c 1
  | _ => s

/-- The overlay entries of a record's deltas on a volume that is not pinned (R241): one for each grain, one a leaf for a range. -/
def overlayNew (s : State) (r : JRec) : List (Nat × Nat × Nat) :=
  match s.vol? r.volume with
  | none => []
  | some v =>
    if v.pinned then []
    else
      let leaf := fun (li mask : Nat) => (s.findLeaf li 10 v.root).toList.map (fun p => (p, r.seq, mask))
      r.deltas.flatMap (fun d => match d with
        | .store _ g _ _ | .dedup _ g _ | .pending _ g _ => leaf (leafOf (r.first + g)) (2 ^ ((r.first + g) % 64))
        | .deallocRange f n | .copyRange _ f n =>
          (List.range (leafOf (f + n - 1) + 1 - leafOf f)).flatMap (fun i =>
            let li := leafOf f + i
            leaf li ((List.range 64).foldl (fun m k => if f ≤ 64 * li + k && 64 * li + k < f + n then m + 2 ^ k else m) 0)))

/-- Overlay entries of a record's deltas added. -/
def overlayAdd (s : State) (r : JRec) : State := { s with mp.overlay := s.mp.overlay ++ s.overlayNew r }.overlayShow

/-- What a record of the other head does to this head's maps (R235, R241); the chunks that it lets go when it is FLASHED. -/
def applyMirror (s : State) (r : JRec) : State × List Nat :=
  let s1 := r.forms.foldl (takeForm 1 r) s
  match r.type with
  | 4 => s1.applyCtls r.ctl
  | 5 => (match r.row with | some d => s1.applyRow d | none => s1, [])
  | _ =>
    let s2 := r.deltas.foldl (takeCount false) s1
    let x := s2.applyDeltas r
    (x.1.overlayAdd r, x.2)

/-- A record put into a region in `SEQ` order. -/
def putRec (l : List JRec) (r : JRec) : List JRec :=
  l.filter (fun x => decide (x.seq < r.seq)) ++ r :: l.filter (fun x => decide (r.seq < x.seq))

/-- The owner is told of a full overlay (R241): how many leaves it must write back to bring it under 50%. -/
def overlaySignal (s : State) : State :=
  let n := s.mp.overlay.length
  if 3 * 2 ^ 26 ≤ n then
    s.sendMsg 0x000A [((s.mp.overlay.map (fun o => o.1)).dedup.length * (n - 2 ^ 27)) / n + 1]
  else s

/-- A record held in the mirror region and applied; one that is held already changes nothing. -/
def mirrorTake (s : State) (r : JRec) (members : List (Nat × Nat × Nat)) : State :=
  if s.jr.mir.any (fun x => x.seq == r.seq) || r.seq < (s.reg Reg.SELV_MIR_TAIL_SEQ).toNat then s
  else
    let x := (s.recordSegs r members).applyMirror r
    let r' := { r with mirrored := true, flashed := false, olds := x.2 }
    let next := max (s.reg Reg.SELV_MIR_NEXT_SEQ).toNat (r.seq + 1)
    ((({ x.1.mirrorLap r.off r.blks with jr.mir := putRec x.1.jr.mir r' }.blocksWrite 1 r.off (ceilDiv r.bytes 4096)).setReg Reg.SELV_MIR_NEXT_SEQ
      (BitVec.ofNat 64 next)).selvShow).ownShow

/-- Whether this head can take one more record: the mirror region's record index has room (R180), and the overlay, which holds at most
2^28 entries (R241). What becomes of a record that would overfill the overlay the rule does not say; it is not taken: DESIGN CHOICE (log
entry 129). -/
def mirrorRoom (s : State) (r : JRec) : Bool :=
  decide (s.jr.mir.length < 1048576) && decide (s.mp.overlay.length + (s.overlayNew r).length ≤ 2 ^ 28)

/-- Whether this head takes the partner's records: it serves beside it, or joins it, and does not mirror to a region of another size. -/
def mirrors (s : State) : Bool :=
  s.linkUp && !s.chip.holdup && !s.dk.sizesDiffer && (s.paired || s.fld Reg.OWN_STATUS_ROLE == 4 || s.fld Reg.OWN_STATUS_ROLE == 1
    || s.fld Reg.OWN_STATUS_ROLE == 0) && s.chip.cond != .reset && s.chip.cond != .fatal

/-- JOIN_READY is sent once every copied and every teed record is held and the maps are loaded (R371 J3); in a cold pairing, once this
head has replayed (R372). -/
def joinEval (s : State) : State :=
  match s.own.join with
  | some j =>
    if j.takes && j.began && !j.ready && s.chip.steps.contains (if j.gives then 13 else 12) && decide (j.s0 ≤ max j.tail j.got) then
      { s with own.join := some { j with ready := true } }.sendMsg 0x0016 [(s.reg Reg.SELV_MIR_NEXT_SEQ).toNat - 1]
    else s
  | none => s

/-- MIRROR_DATA (R171, R185): a record whose `CRC` checks is held, applied and acknowledged; of a PAD record only the block is written. -/
def mirrorData (s : State) (r : JRec) (members : List (Nat × Nat × Nat)) (good : Bool) : State :=
  if !s.mirrors || !good then s
  else if r.type = 6 then (s.mirrorLap r.off r.blks).stripeWrite 1 r.off
  else if !s.mirrorRoom r then s
  else (((s.mirrorTake r members).sanAwaited.sendMsg 0x0101 [1, r.seq]).overlaySignal).joinEval.settle

end State

open State

/-- MIRROR_DATA (R185). -/
def execMirrorData (record : JRec) (members : List (Nat × Nat × Nat)) (good : Bool) (s : State) : Out :=
  .next (s.mirrorData record members good)

end Sys2Proof.Machine
end

