-- ==== Sys2Proof/Machine/Lease.lean ====
section
/-!
DEFINITION. Sys2Proof/Machine/Lease.lean: the module lease and its moves (R356 to R360, R366), what a head that fences itself gives
up (R359), and the takeover that follows a move that has won (R362 to R365, R370).
-/

namespace Sys2Proof.Machine

/-! ## Word 0 (R321) -/

/-- A word-0 value: `STATE` 0 FREE, 1 PAIRED, 2 SOLO; `HOLDER`; `EPOCH`. -/
def leaseWord (st holder epoch : Nat) : Word := BitVec.ofNat 64 (st * 2 ^ 62 + holder * 2 ^ 61 + epoch % 2 ^ 48)

/-- `STATE` of a word-0 value. -/
def leaseState (w : Word) : Nat := bitsOf w 62 2

/-- `HOLDER` of a word-0 value. -/
def leaseHolder (w : Word) : Nat := bitsOf w 61 1

/-- `EPOCH` of a word-0 value. -/
def leaseEpoch (w : Word) : Nat := bitsOf w 0 48

namespace State

/-- This head's module port (R349). -/
def myPort (s : State) : Nat := s.headIndex % 2

/-- Whether a word-0 value names the other head. -/
def namesOther (s : State) (w : Word) : Bool := leaseState w == 2 && leaseHolder w != s.myPort

/-- This head's quorum of M modules (R357). -/
def quorum (s : State) : Nat :=
  let m := s.own.members.length
  if s.myPort = 0 then ceilDiv m 2 else m / 2 + 1

/-- Whether so many modules make a quorum; with M = 0 none does. -/
def quorate (s : State) (n : Nat) : Bool := !s.own.members.isEmpty && decide (s.quorum ≤ n)

/-- `OWN.STATUS.ROLE` written, and with it which head leads the time base (R350): a head that serves alone, and head 0 of two that serve. -/
def setRole (s : State) (r : Nat) : State :=
  let s1 := { s with own.sanAgain := s.own.sanAgain || r == 2 || r == 3 }.setFld Reg.OWN_STATUS_ROLE r
  if r = 2 then s1.setBit Reg.DIKOR_STATUS_LEADER (s1.headIndex == 0) else if r = 3 then s1.setBit Reg.DIKOR_STATUS_LEADER true else s1

/-- `OWN.STATUS.ROLE`. -/
def role (s : State) : Nat := s.fld Reg.OWN_STATUS_ROLE

/-- The media power of this head, mW for each module in service (R322). -/
def budgetMw (s : State) : Nat :=
  let w := if s.role == 3 then s.loomAct Reg.LOOM_ENERGY_CFG_MEDIA_W_SOLO else s.loomAct Reg.LOOM_ENERGY_CFG_MEDIA_W
  w * 1000 / max 1 s.modulesIn.length

/-- `SET_POWER_BUDGET` to every module in service (R322). -/
def sendBudgets (s : State) : State :=
  s.modulesIn.foldl (fun t k => t.mqpIssue k 0x30 0 0 0 (BitVec.ofNat 64 t.budgetMw) 0 0 .lease) s

/-! ## Fencing (R359) -/

/-- Every host command ends without a completion: the ports' transmitters are idle. -/
def dropHosts (s : State) : State :=
  let s1 := s.nv.cmds.foldl (fun t e => t.tcntAdd e.2.tenant 8 1) s
  let gone := s1.nv.ctrls.foldl (fun g e => tPut g e.1 s1.now) s1.nv.gone
  { s1 with
    nv.cmds := []
    nv.ctrls := []
    nv.gone := gone
    nv.fwdOther := []
    fab.rt := []
    fab.frames := []
    fab.ttags := []
    fab.txq := []
    fab.hs := []
    fab.up := []
    loom.queue := []
    loom.claims := []
    loom.book := []
    loom.shadow := [] }

/-- The control commands of swaps and joins under way are answered, and nothing of those remains. -/
def dropPlans (s : State) (st : CtlStatus) : State :=
  let tags := s.own.swaps.filterMap (fun e => e.2.tag) ++ s.own.planned.filterMap (fun e => e.2) ++ s.own.joinTags
  { tags.foldl (fun t g => t.ctlFinish g st 0 0) s with
    own.swaps := []
    own.planned := []
    own.joinTags := []
    own.join := none }

/-- Control commands that wait for a join are answered. -/
def joinTagsDone (s : State) (st : CtlStatus) : State :=
  { s.own.joinTags.foldl (fun t g => t.ctlFinish g st 0 0) s with own.joinTags := [] }

/-- Both regions discarded; their numbers go on from where they were. -/
def dropRegions (s : State) : State :=
  { s with
    jr.own := []
    jr.mir := []
    jr.exts := []
    jr.waits := []
    jr.jwait := []
    jr.badOwn := []
    jr.badMir := []
    own.adopted := 0 }.selvShow

/-- A snapshot creation that a fault ends is withdrawn. -/
def dropSnapOps (s : State) : State := { s.mp.snapOps.foldl (fun (t : State) (e : Nat × SnapOp) => t.ctlAnswer e.2.tag .fault 0 0) s with mp.snapOps := [] }.pauseShow

/-- This head answers to no address any more: `ACTIVE` clears in every entry, a generation commit of its own, and the partner's
announcement stands (R93, R94). -/
def dropAddresses (s : State) : State :=
  let l := (List.range 256).filter (fun i => s.act (Reg.HEDDLE_ADDR_ATTR_ACTIVE i) == 1)
  let s1 := l.foldl (fun t i => (t.setFld (Reg.HEDDLE_ADDR_ATTR_ACTIVE i) 0).setAct (Reg.HEDDLE_ADDR_ATTR_ACTIVE i) 0) s
  let s2 := { s1 with
    fab.answersHome := false
    fab.answersPartner := false
    fab.announce := 0 }
  if l.isEmpty then s2
  else { s2.genNext Reg.HEDDLE_PAGE with
    fab.addrGen := s2.fab.addrGen + 1
    fab.addrOld := !s2.fab.frames.isEmpty }

/-- Programs and erases without `FLAGS.VAULT` that have not been submitted yet are aborted (R359). -/
def dropPrograms (s : State) : State :=
  { s with mo.mods := s.mo.mods.map (fun (e : Nat × Module) => (e.1, { e.2 with
      cmds := e.2.cmds.filter (fun c => !(c.queue == waitQueue && (c.op == 0x10 || c.op == 0x11) && c.arg0 != 1)) })) }

/-- The head fences itself. -/
def fenceSelf (s : State) : State :=
  if s.role = 5 then s
  else
    let s1 := (((s.dropPrograms.dropHosts.dropPlans .fault).dropSnapOps).dropRegions).setRole 5
    let s2 := s1.openSegs 1 ++ s1.openSegs 2 ++ s1.openSegs 3 ++ s1.openSegs 4 ++ s1.openSegs 5
    let s3 := s2.foldl (fun t e => t.modSeg e.1 (fun g => { g with st := .closed, early := true, closedAt := t.now, row := none })) s1
    let s4 := { s3 with
      own.move := none
      own.noQuorum := false
      own.rejoin := false
      chip.cond := if s3.chip.cond = Cond.serving then Cond.booting else s3.chip.cond }
    let s5 := ((s4.rplClear.setFld Reg.TIME_STATUS_STATE 0).setBit Reg.OWN_STATUS_MIRROR_READY false).setBit Reg.OWN_STATUS_TAKEOVER_BUSY false
    ((s5.dropAddresses.event 0x0902 Reg.OWN_PAGE 0 0).bump (Reg.OWN_CNT 2) 1).ownShow

/-! ## Lease moves -/

/-- Modules in service whose word 0 names the other head are moved by a second swap (R360). -/
def moveHeld (s : State) : State :=
  let ks := s.modulesIn.filter (fun k => s.namesOther (s.reg (Reg.MODP_LEASE k)))
  let v := leaseWord 2 s.myPort (s.own.epoch + 1)
  ks.foldl (fun t k => t.mqpIssue k 0x40 0 0 0 (t.reg (Reg.MODP_LEASE k)) v 0 .lease) s

/-! ## Adopting the mirror (R363) -/

/-- Bytes of live forms and pages that lie in a segment. -/
def recount (s : State) (id : Nat) : Nat :=
  (s.mp.chunks.filter (fun e => e.2.state == .located && e.2.segment == id)).foldl (fun n e => n + 32 * e.2.len32) 0
    + (s.mp.pages.filter (fun e => (e.2.flash.map (fun f => f.1)) == some id)).length * 512
    + (((s.mp.rootA.toList ++ s.mp.rootB.toList).flatMap (fun r => r.tables)).dedup.filter (fun l => l.seg == id)).length * 4096

/-- A segment of the failed head becomes this head's: an OPEN one closes early at the last row a ROW_DURABLE record names, and one
without a live form is DRAINED. -/
def adoptSegment (s : State) (id : Nat) (g : Seg) : State :=
  let live := s.recount id
  let st := if g.durable = 0 && g.st = .opened then .drained else if g.st = .opened then .closed else g.st
  s.setSeg id { g with
    live := live
    early := g.early || g.st == .opened
    closedAt := if g.st = .opened then s.now else g.closedAt
    row := none
    st := st }

/-- Step 2 of R362: the mirror region becomes the adopted region, its maps and counts become live, both shards and every pool and
segment are this head's, and new records carry `FLAGS.SOLO`. -/
def adopt (s : State) : State :=
  let other := s.md.segs.filter (fun e => !s.ownSeg e.1 && e.2.type != 6)
  let s1 := ((s.setBit Reg.NVMF_STATUS_SOLO true).setBit Reg.SELV_STATUS_SOLO true).setBit Reg.OWN_STATUS_MIRROR_READY false
  let s2 := { s1 with
    own.adopted := max s1.own.adopted (s1.reg Reg.SELV_MIR_NEXT_SEQ).toNat
    own.noQuorum := false
    jr.jwait := s1.jr.jwait ++ (s1.jr.mir.filter (fun (r : JRec) => !r.journaled)).map (fun (r : JRec) => adoptMark + r.seq)
    mp.solo := true
    mp.away := false
    loom.shadow := []
    loom.faultBeat := some s1.beat }
  let s3 := (((s2.setRole 3).rebuildPools (fun p => p.keeper != s.headIndex)).soloRules.markMirrored (fun _ => true)).rehash
  let s4 := other.foldl (fun t e => t.adoptSegment e.1 e.2) s3
  let s5 := { s4 with
    loom.book := s4.loom.book.filter (fun (b : Booking) => b.res != Res.dikor && (b.head == s4.myPort || decide (b.beat ≤ s4.beat))) }
  (s5.claimsAlone).packWaiting.stripeEval.selvShow

/-! ## Groups and queued work (R362 steps 3 and 4, R364, R374) -/

/-- Every group that this head does not own, or was handing over or taking over, is given to this head. -/
def flipGroups (s : State) : State :=
  let l := (s.nv.groups.filter (fun e => e.2 != s.headIndex)).map (fun e => e.1)
  let s1 := s.dropPlans .state
  if l.isEmpty then s1 else s1.setOwners l s1.headIndex 4

/-- The adopted record of a write that this head forwarded. -/
def adoptedFor (s : State) (c : HCmd) : Option JRec :=
  s.jr.mir.find? (fun r => decide (r.type ≤ 3) && r.volume == c.volume && r.fwd && decide (c.arrived ≤ r.time)
    && some r.first == (s.cmdGrains c).head?)

/-- One command that the failed owner had not answered: a write in the adopted region completes; one that the owner had accepted is drafted here
and not refused any more (R163); any other waits for the decision of both `LOOM` instances (R125). -/
def resumeOne (s : State) (id : Nat) : State :=
  match s.cmd? id with
  | none => s
  | some c =>
    match (if isWriteKind c.kind then s.adoptedFor c else none) with
    | some r => s.modCmd id (fun x => { x with
        fwdTo := false, phase := .headed, seq := some (adoptMark + r.seq), rule := s.ruleNow c, refs := s.recordRefs r })
    | none =>
      if c.phase = .run then
        let s1 := s.modCmd id (fun x => { x with fwdTo := false, phase := .map, sure := true })
        if isWriteKind c.kind then s1.decideWrite id else s1.resolveMap id .same
      else (s.modCmd id (fun x => { x with fwdTo := false })).requeue id

/-- Commands that were forwarded and have no answer are resumed here; those that are neither reads nor writes are done here. -/
def resumeForwarded (s : State) : State :=
  let ids := (s.nv.cmds.filter (fun e => e.2.fwdTo)).map (fun e => e.1)
  let s1 := ids.foldl resumeOne s
  s1.nv.fwdOther.foldl (fun t (f : FwdOther) => t.otherDo (.host f.conn f.cid) f.tenant f.body) { s1 with nv.fwdOther := [] }

/-- A forwarded command that the failed head had sent here is dropped with its connection. -/
def dropForeign (s : State) : State :=
  ((s.nv.cmds.filter (fun e => e.2.fwdFrom.isSome)).map (fun e => e.1)).foldl (fun t id =>
    match t.cmd? id with
    | some c => if c.phase = .headed then t.modCmd id (fun x => { x with fwdFrom := none, mute := true }) else t.abandon id
    | none => t) s

/-! ## Addresses (R93) -/

/-- `ACTIVE` is set in every valid entry with `HOME` = 1, a generation commit of its own, and the addresses are announced. -/
def takeAddresses (s : State) : State :=
  let l := s.announceEntries
  let s1 := l.foldl (fun t i => (t.setFld (Reg.HEDDLE_ADDR_ATTR_ACTIVE i) 1).setAct (Reg.HEDDLE_ADDR_ATTR_ACTIVE i) 1) s
  { s1.genNext Reg.HEDDLE_PAGE with
    fab.addrGen := s1.fab.addrGen + 1
    fab.addrOld := s1.fab.frames.any (fun _ => true)
    fab.answersPartner := true
    fab.announce := 3 }.announceOnce

/-! ## The end of a move -/

/-- The entry to SOLO after a move has won (R362, R363, R370): `cause` 1 takeover, 2 split brain, 3 boot. -/
def takeover (s : State) (m : LeaseMove) (won : Nat) : State :=
  let s0 := (s.adopt).dropForeign
  let old := s0.nv.groups.filter (fun e => e.2 != s0.headIndex)
  let s1 := s0.journalCtl [⟨0x21, [leaseEpoch m.value, leaseState m.value, leaseHolder m.value, s0.own.members.length, won]⟩]
  let s2 := (s1.journalCtl [⟨0x22, [1, m.cause, s1.beat]⟩]).flipGroups
  let by_ := min 32000 (s2.now - m.since)
  let s3 := if m.cause ≤ 2 then ({ s2.extendAll by_ with loom.faultEnd := s2.now }).resumeForwarded else s2
  let s4 := (s3.setReg Reg.OWN_LAST_TAKEOVER (BitVec.ofNat 64 m.start)).setFld Reg.OWN_LAST_INTERRUPT_NS
    (if m.cause ≤ 2 then min (2 ^ 32 - 1) (s3.now - m.since) else s3.fld Reg.OWN_LAST_INTERRUPT_NS)
  let s5 := old.foldl (fun t e => t.anaChanged e.1) s4
  let s6 := if m.cause ≤ 2 then s5.takeAddresses else s5
  let s7 := if m.cause = 1 then s6.bump (Reg.OWN_CNT 0) 1 else if m.cause = 2 then s6.bump (Reg.OWN_CNT 1) 1 else s6
  let s8 := (s7.event 0x0907 Reg.OWN_PAGE (argWord [(0, m.cause)]) 0).sendBudgets
  ({ s8 with pick.partnerDue := s8.pick.partner.isSome }.rplTake (old.map (fun (e : Nat × Nat) => e.1))).ownShow.settle

/-- A join ends unfinished at the server, which stays in SOLO (R372); a joiner that the link still reaches is told to fence itself. -/
def joinEnd (s : State) : State :=
  match s.own.join with
  | none => s
  | some _ =>
    if s.role != 3 then { s with own.join := none }.ownShow
    else
      let s1 := ((s.setBit Reg.NVMF_STATUS_SOLO true).setBit Reg.SELV_STATUS_SOLO true).setBit Reg.OWN_STATUS_MIRROR_READY false
      let s2 := { s1 with
        own.join := none
        own.move := match s1.own.move with | some m => if m.cause = 4 then none else some m | none => none }
      let s3 := (s2.soloRules.markMirrored (fun _ => true)).sendMsg 0x0010 [(s2.reg Reg.OWN_LEASE).toNat]
      (s3.joinTagsDone .fault).ownShow.settle

/-- A move has won (R357): its value is this head's lease. A head that has won at boot replays first and takes over then (R370). -/
def leaseWon (s : State) (m : LeaseMove) : State :=
  let s1 := ({ s with own.move := none }.setReg Reg.OWN_LEASE m.value)
  match m.cause with
  | 4 =>
    let s2 := s1.journalCtl [⟨0x21, [leaseEpoch m.value, leaseState m.value, leaseHolder m.value, s1.own.members.length, m.won.length]⟩]
    let s3 := s2.journalCtl [⟨0x22, [2, 4, s2.beat]⟩]
    { s3 with own.join := s3.own.join.map (fun (j : Join) => { j with paired := true }) }.ownShow
  | 5 =>
    let s2 := s1.journalCtl [⟨0x21, [leaseEpoch m.value, leaseState m.value, leaseHolder m.value, s1.own.members.length, m.won.length]⟩]
    { s2 with own.join := s2.own.join.map (fun (j : Join) => { j with paired := true }) }.ownShow
  | 3 =>
    let s2 := ((s1.moveHeld.setRole 3).setBit Reg.NVMF_STATUS_SOLO true).setBit Reg.SELV_STATUS_SOLO true
    ({ s2 with own.move := some { m with asked := [] } }.sendMsg 0x0010 [m.value.toNat]).ownShow
  | _ => (s1.moveHeld.takeover m m.won.length).sendMsg 0x0010 [m.value.toNat]

/-- A move has not won: a race that the other head has won, or a boot, fences this head (R359, R370); else no head has quorum, and the
move is tried again (R366). A join's move that fails leaves the server in SOLO (R372). -/
def leaseLost (s : State) (m : LeaseMove) : State :=
  let other := s.modulesIn.any (fun k => s.namesOther (s.reg (Reg.MODP_LEASE k)))
  if m.cause = 4 then
    { s with own.move := none }.joinEnd.ownShow
  else if m.cause = 3 || (m.cause ≤ 2 && other) then { s with own.move := none }.fenceSelf
  else
    let s1 := { s with own.move := some { m with waits := true }, own.noQuorum := m.cause ≤ 2 }
    let s2 := s.nv.groups.foldl (fun t e => t.anaMoved s e.1) s1
    (((s2.event 0x0903 Reg.OWN_PAGE (argWord [(0, m.won.length), (1, s2.quorum)]) 0).bump (Reg.OWN_CNT 11) 1).ownShow).settle

/-- The move under way decided, once a quorum has answered in its favour or every module has answered. -/
def leaseEval (s : State) : State :=
  match s.own.move with
  | none => s
  | some m =>
    if m.waits || (m.cause = 3 && s.role = 3) then s
    else if s.quorate m.won.length then s.leaseWon m
    else if m.asked.isEmpty then s.leaseLost m
    else s

/-- A move begins (R356, R362 step 1): `ARB_CAS` on word 0 of every module in service, from the value last read, at the next array
epoch. -/
def leaseIssue (s : State) (cause st td since : Nat) : State :=
  let v := leaseWord st (if st = 2 then s.myPort else 0) (s.own.epoch + 1)
  let ks := s.modulesIn
  let s1 := ks.foldl (fun t k => t.mqpIssue k 0x40 0 0 0 (t.reg (Reg.MODP_LEASE k)) v 0 .lease) s
  ({ s1 with own.move := some ⟨cause, v, td, since, ks, [], false⟩ }.ownShow).leaseEval

/-- A takeover or race begins unless one is under way (R361, R367). It is a second fault inside any recovery window but a narrowing's, which
R377 lets have no effect. -/
def partnerLost (s : State) (cause since : Nat) : State :=
  let s0 := if s.faultWindow then s.markHurt 1 (fun _ => true) else s
  match s.own.move with
  | some m => if m.cause ≤ 2 then s0 else s0.leaseIssue cause 2 s.now since
  | none => s0.leaseIssue cause 2 s.now since

/-- A move that found no quorum is tried again (R366). -/
def leaseRetry (s : State) : State :=
  match s.own.move with
  | some m =>
    if m.waits then s.leaseIssue m.cause (leaseState m.value) m.start m.since else s
  | none => s

/-- The answer of an `ARB_CAS` on word 0: the value the module holds now is taken, the move under way counts it, and a head that holds
the lease moves a module that names the other (R357, R360). `ok` is `SUCCESS`, `none` no answer. -/
def wordZero (s : State) (k : Nat) (c : MqpCmd) (r : Option (Bool × Word)) : State :=
  let s1 := match r with
    | some (ok, prior) =>
      let v := if ok then c.arg1 else prior
      (({ s with own.epoch := max s.own.epoch (leaseEpoch v) }).setReg (Reg.MODP_LEASE k) v).mqpNext k
    | none => s
  match s1.own.move with
  | some m =>
    if c.arg1 = m.value && !m.waits then
      let fav := match r with | some (ok, prior) => ok || (prior == m.value) | none => false
      { s1 with own.move := some { m with
          asked := m.asked.filter (fun x => x != k)
          won := if fav then m.won ++ [k] else m.won } }.leaseEval
    else s1
  | none =>
    let v := s1.reg (Reg.MODP_LEASE k)
    let mine := s1.reg Reg.OWN_LEASE
    if s1.role = 3 && leaseState mine == 2 && leaseHolder mine == s1.myPort && s1.namesOther v then
      s1.mqpIssue k 0x40 0 0 0 v (leaseWord 2 s1.myPort (s1.own.epoch + 1)) 0 .lease
    else s1

end State

end Sys2Proof.Machine
end

