-- ==== Sys2Proof/Machine/Holdup.lean ====
section
/-!
DEFINITION. Sys2Proof/Machine/Holdup.lean: hold-up mode and the journal dump (R63, R70, R192 to R195).
-/

namespace Sys2Proof.Machine

namespace State

/-- Step 7 of R59 has completed: DRAM is trained. -/
def dramTrained (s : State) : Bool := s.chip.steps.contains 7

/-- The dump area that a dump is written to: one without an unconsumed dump, an armed one first (R195, R279). -/
def dumpArea (s : State) : Option Nat :=
  match [0, 1].find? s.areaArmed with
  | some a => some a
  | none => [0, 1].find? (fun a => !s.dumpHeld a)

/-- A dump area's dump written. -/
def setDump (s : State) (area : Nat) (d : Option Dump) : State :=
  if area = 0 then { s with jr.dumpA := d } else { s with jr.dumpB := d }

/-- The domains that stay on in hold-up mode (R192 step 3). -/
def holdDomains (s : State) : List Nat :=
  let pages := [Reg.SELV_PAGE, Reg.SEGW_PAGE, Reg.MEDIA_PAGE s.mediaActive, Reg.KEYS_PAGE] ++ (List.range 64).map Reg.MODP_PAGE
    ++ (List.range 16).map Reg.DRAMC_PAGE
  let dpcs := (s.activeDpcs.take 2).map (fun n => (domainsOf (Reg.DPC_PAGE n)).getD 3 182)
  pages.flatMap domainsOf ++ dpcs ++ (List.range 9).map (fun i => 174 + i)

/-- Every other domain is gated. -/
def gateForDump (s : State) : State :=
  let keep := s.holdDomains
  let off := (List.range 183).filter (fun d => !keep.contains d && s.domState d != PWR_GATED)
  { off.foldl (fun t d => t.setDom d PWR_GATED) s with pw.upQueue := [], pw.downTo := [] }

/-- Host commands end without a completion, and extents without headers are abandoned (R192 step 2). -/
def stopIntake (s : State) : State :=
  let s1 := s.nv.cmds.foldl (fun t e => t.abandon e.1) s
  { s1 with nv.cmds := [], nv.fwdOther := [], fab.frames := [], fab.up := [], loom.queue := [], loom.claims := [] }

/-- Record bytes of both regions. -/
def regionBytes (own mir : List JRec) : Nat := (own ++ mir).foldl (fun n r => n + r.bytes) 0

/-- The first and last `SEQ` of a region's records. -/
def seqSpan (l : List JRec) : Nat × Nat := ((l.head?.map (fun r => r.seq)).getD 0, (l.getLast?.map (fun r => r.seq)).getD 0)

/-- The dump ends with a result: its records, and the counts of `SELV.DUMP_STATUS` (R192 step 7, R195). -/
def dumpEnd (s : State) (area : Nat) (d : Dump) (result : Nat) (own mir : List JRec) : State :=
  let s1 := s.setDump area (some { d with
    result := result, own := own, mirror := mir, ownSeqs := seqSpan own, mirSeqs := seqSpan mir
    ownBytes := regionBytes own [], mirBytes := regionBytes [] mir
    ownWhole := decide (own.length = d.own.length), mirWhole := decide (mir.length = d.mirror.length) })
  let s2 := ((s1.setFld Reg.SELV_DUMP_STATUS_RESULT result).setFld Reg.SELV_DUMP_STATUS_AREA area).setFld Reg.SELV_DUMP_STATUS_MIB
    (regionBytes own mir / 2 ^ 20)
  s2.armShow

/-- The dump stops where it stands (R194): it holds the records that lie whole in its durable rows. -/
def dumpStop (s : State) (result : Nat) : State :=
  match s.dumpOpen with
  | none => s
  | some (a, d) =>
    let x := recordsIn d (s.writtenBytes a)
    s.dumpEnd a d result x.1 x.2

/-- A dump stripe that has lost a member beyond the third ends the dump (R194). -/
def dumpMedia (s : State) : State :=
  match s.dumpOpen with
  | some (a, _) => if s.chip.holdup && (s.areaSegs a).any (fun e => 3 < e.2.lost.length) then s.dumpStop 4 else s
  | none => s

/-- The dump as its header opens it (R192 step 4, R195): every valid record of both regions, from the tail, PAD records left out. -/
def dumpHeader (s : State) : Dump :=
  { number := s.jr.dumpNext, result := 0, own := s.jr.own, mirror := s.jr.mir, consumed := false, uid := s.life.uid
    array := (s.fld Reg.OWN_ARRAY_ARRAY_ID), tpf := s.now, ownSeqs := seqSpan s.jr.own, mirSeqs := seqSpan s.jr.mir
    ownBytes := regionBytes s.jr.own [], mirBytes := regionBytes [] s.jr.mir }

/-- Hold-up mode begins (R192). -/
def holdupBegin (s : State) : State :=
  let s1 := (s.setBit Reg.DIKOR_STATUS_HB_OUT_ON false).sendMsg 0x0004 [s.now]
  let s2 := (if 7 ≤ s1.fld Reg.DIKOR_STATUS_LSTATE && s1.fld Reg.DIKOR_STATUS_LSTATE ≤ 8 then s1.setFld Reg.DIKOR_STATUS_LSTATE 9 else s1)
  let s3 := { { s2 with chip.holdup := true }.stopIntake with chip.holdupActive := true, chip.holdupDone := false, chip.hbOut := false }
  let s4 := (s3.flushStart.gateForDump).setFld Reg.SELV_STATUS_HOLDUP 1
  match s4.dumpArea with
  | some a =>
    ({ s4.setDump a (some s4.dumpHeader) with jr.dumpNext := s4.jr.dumpNext + 1 }.vaultStart a).armShow
  | none =>
    { (s4.setFld Reg.SELV_DUMP_STATUS_RESULT 5).setFld Reg.SELV_STATUS_HOLDUP 5 with chip.holdupDone := true }

/-- `PWR_FAIL_N` falls (R49, R63, R70, R192): ignored while `MAIN_PWR_OK` is low; life-cycle work stops, a cell that is being blown
completes and is the last. -/
def pwrFail (s : State) : State :=
  let s1 := { s with chip.pwrFailN := false }
  if !s1.chip.mainPwrOk then s1
  else
  let s2 := match s1.life.phase with
    | .work => s1.lifeStop
    | .idle => s1
    | _ => { s1 with life.stopping := true }
  if s2.chip.cond = .reset || s2.chip.cond = .fatal || s2.chip.holdup then s2
  else if s2.dramTrained then s2.holdupBegin
  else
    { s2.setFld Reg.SELV_DUMP_STATUS_RESULT 5 with chip.holdup := true, chip.holdupActive := true, chip.holdupDone := true }

/-- The dump's trailer is written as COMPLETE, once every row of the dump is durable. -/
def dumpDone (s : State) : State :=
  match s.dumpOpen with
  | some (a, d) =>
    if s.chip.holdup && s.dumpWritten a d then
      { (s.dumpEnd a d 1 d.own d.mirror).setFld Reg.SELV_STATUS_HOLDUP 5 with chip.holdupDone := true }
    else s
  | none => s

end State

open State

/-- PWR_FAIL_ASSERT (R192, R63). -/
def execPwrFailAssert (s : State) : Out := .next (if s.chip.pwrFailN then s.pwrFail else s)

/-- PWR_FAIL_GLITCH (R450): recorded, and no hold-up starts. -/
def execPwrFailGlitch (s : State) : Out :=
  .next (if s.chip.cond = .reset then s else s.event 0x0D06 Reg.MGMT_PAGE (argWord [(0, 3)]) 0)

/-- HOLDUP_DUMP_COMPLETE (R192 step 7). -/
def execHoldupDumpComplete (s : State) : Out := .next s.dumpDone

/-- PWR_FAIL_RELEASE (R194): the dump runs on. -/
def execPwrFailRelease (s : State) : Out := .next { s with chip.pwrFailN := true }

end Sys2Proof.Machine
end

