-- ==== Sys2Proof/Machine/Serve.lean ====
section
/-!
DEFINITION. Sys2Proof/Machine/Serve.lean: the steps of R59 as they complete, the blocks that the boot firmware enables, and step 14, at
which the head serves.
-/

namespace Sys2Proof.Machine

namespace State

/-- A step of R59 has completed: `STEP` shows the last of the completed steps, and 14 while the head serves (R63). -/
def stepDone (s : State) (n : Nat) : State :=
  { s with chip.steps := if s.chip.steps.contains n then s.chip.steps else s.chip.steps ++ [n] }.setFld Reg.MGMT_BOOT_STATUS_STEP
    (s.chip.steps.foldl max n)

/-- Whether the boot brings up the data path: NORMAL mode in a life-cycle state before RETURN. -/
def dataPath (s : State) : Bool := s.bootMode == 0 && decide (s.lifeState < 3)

/-- A block that a boot step enables: its domains are powered, `ENABLE` is written 1 and it initialises (R35, R59). -/
def bootEnable (s : State) (page : Nat) : State :=
  if s.blk page != OFF then s
  else
    let s1 := (domainsOf page).foldl (fun t d => if t.domState d = PWR_ON then t else t.setDom d PWR_ON) (s.setBit (Reg.BLK_CTRL_ENABLE page) true)
    let spare := s1.fld (Reg.BLK_CTRL_ROLE page) = 0xE && ((blockAt page).map (fun b => b.1.spare)).getD false
    s1.toState page (if spare then SPARE else ACTIVE)

/-- Pages of the blocks that step 14 enables: the front-end ports and the transport engines. -/
def frontPages : List Nat := (List.range 16).map Reg.ETHP_PAGE ++ (List.range 8).map Reg.XPT_PAGE

/-- Step 14 (R59, R279, R370, R372): the head serves once its role lets it, the service cores run, replay has ended and a dump area is
armed, while a parity engine remains (R287). -/
def serveEval (s : State) : State :=
  if s.chip.cond = Cond.booting && s.dataPath && s.fld Reg.SEGW_ENGINES_ACTIVE != 0 && !s.chip.holdup
      && s.chip.steps.contains 9 && s.chip.steps.contains 13 && (s.role = 2 || s.role = 3)
      && (s.areaArmed 0 || s.areaArmed 1) then
    let s1 := (frontPages.foldl bootEnable { s with chip.cond := .serving }).stepDone 14
    (s1.nv.groups.foldl (fun t e => t.anaChanged e.1) s1).ownShow
  else s

end State

end Sys2Proof.Machine
end

