-- ==== Sys2Proof/Machine/Own.lean ====
section
/-!
DEFINITION. Sys2Proof/Machine/Own.lean: joining and cold pairing (R371, R372), what the link's indications start (R361), renewal of the
lease and the boot into solo mode (R358, R370), the mirror audit (R369), role swaps (R373 to R376), and forwarded commands (R355).
-/

namespace Sys2Proof.Machine

namespace State

/-! ## Joins (R371, R372) -/

/-- A valid record copied to the joiner on class C3. -/
def sendBulk (s : State) (r : JRec) : State := (s.dkHand 3 (32 + r.bytes)).emit (.bulk r)

/-- Step J2 at the head that gives: JOIN_START names the next `SEQ` and the tail, every later record is teed, and each valid record is
copied. -/
def joinSend (s : State) : State :=
  let s0 := (s.reg Reg.SELV_OWN_NEXT_SEQ).toNat
  let tail := ((s.jr.own.head?).map (fun (r : JRec) => r.seq)).getD s0
  let s1 := { s with own.join := s.own.join.map (fun (j : Join) => { j with sent := true }) }.sendMsg 0x0015 [s0, tail]
  (s1.jr.own.foldl sendBulk s1).ownShow

/-- A serving solo head begins to serve a join. -/
def joinServe (s : State) : State :=
  if s.dk.sizesDiffer || s.own.join.isSome then s
  else { s with own.join := some ⟨true, false, false, 0, 0, false, 0, false, false⟩ }.joinSend

/-- The dumps of this head are marked consumed. -/
def dropDumps (s : State) : State :=
  { s with
    jr.dumpA := s.jr.dumpA.map (fun (d : Dump) => { d with consumed := true })
    jr.dumpB := s.jr.dumpB.map (fun (d : Dump) => { d with consumed := true }) }.armShow

/-- Step J1 at the joiner: its dumps and both regions are dropped, and the checkpoint and map journals are loaded again. -/
def joinBegin (s : State) : State :=
  if s.dk.sizesDiffer then s
  else
    let s1 := (s.dropRegions.dropDumps.dropAddresses).setRole 4
    { s1 with
      own.join := some ⟨false, true, false, 0, 0, false, 0, false, false⟩
      mp.away := true
      own.rejoin := false
      own.recover := false
      own.move := none
      chip.steps := s1.chip.steps.filter (fun n => decide (n < 12)) }.ownShow

/-- Both heads boot cold: each gives its replayed records to the other (R372). -/
def coldBegin (s : State) : State :=
  if s.dk.sizesDiffer || s.own.join.isSome then s
  else
    let s1 := { s with own.join := some ⟨true, true, false, 0, 0, false, 0, false, false⟩ }
    if s1.chip.steps.contains 13 then s1.joinSend else s1.ownShow

/-- Once both directions of a cold pairing are held, head 0 moves the lease to PAIRED. -/
def coldEval (s : State) : State :=
  match s.own.join with
  | some j =>
    if j.gives && j.takes && j.ready && s.bit Reg.OWN_STATUS_MIRROR_READY && s.headIndex = 0 && s.own.move.isNone && !j.paired then
      s.leaseIssue 5 1 s.now s.now
    else s
  | none => s

/-- Steps J5 and J6, or the end of a cold pairing: the heads are PAIRED. -/
def joinDone (s : State) : State :=
  match s.own.join with
  | none => s
  | some j =>
    if !j.paired then s
    else
      let s1 := ({ s with own.join := none, own.noQuorum := false }.setRole 2).setBit Reg.OWN_STATUS_MIRROR_READY true
      let s2 := if j.gives && j.takes then s1 else (s1.event 0x0908 Reg.OWN_PAGE 0 0).bump (Reg.OWN_CNT 10) 1
      let s3 := if j.gives then s2.handBack else s2.stepDone 13
      (((s3.joinTagsDone .ok).sendBudgets).ownShow).serveEval

/-- The server is lost during a join (R361, R377): before JOIN_READY this head recovers every group from flash and takes over; after it,
it fences itself (R372). -/
def joinOrphan (s : State) : State :=
  match s.own.join with
  | some j =>
    if j.ready then s.fenceSelf
    else
      let s1 := s.dropRegions
      { s1 with
        own.join := none
        own.recover := true
        chip.steps := s1.chip.steps.filter (fun n => decide (n < 12)) }.ownShow
  | none => { s with own.recover := true }

/-! ## Indications (R353, R361) -/

/-- Word 0 of every module in service is read, by a swap that cannot change it (R321). -/
def readWords (s : State) (word : Nat) : State := s.modulesIn.foldl (fun t k => t.mqpIssue k 0x40 0 0 0 0 0 word .lease) s

/-- `PAIRED`: the link carries traffic and the heartbeat is present. A survivor fences a partner that still serves as one of a pair (R362). -/
def indPaired (s : State) : State :=
  let partner := s.fld Reg.DIKOR_STATUS_PARTNER_ROLE
  match s.role with
  | 3 =>
    if partner = 2 then s.readWords 0
    else if partner = 1 then s.sendMsg 0x0010 [(s.reg Reg.OWN_LEASE).toNat]
    else if partner = 0 || partner = 3 then s.joinServe
    else s
  | 0 | 1 => if partner = 1 || partner = 2 then s.joinBegin else if partner = 0 then s.coldBegin else s
  | 5 =>
    if (partner = 1 || partner = 2) && (s.act Reg.OWN_CFG_AUTO_REJOIN = 1 || s.own.rejoin) then s.joinBegin else s
  | _ => s

/-- `PARTNER_DEAD` or `PARTNER_HOLDUP`; the interruption runs from `since` (R365). -/
def indDead (s : State) (since : Nat) : State :=
  match s.role with
  | 2 => s.partnerLost 1 since
  | 3 =>
    let won := (s.own.join.map (fun (j : Join) => j.paired)).getD false
    if won then s.joinEnd.partnerLost 1 since else s.joinEnd
  | 4 => s.joinOrphan
  | _ => { s with own.join := none }.ownShow

/-- `LINK_LOST`: the link is DOWN and the heartbeat is present. -/
def indLink (s : State) : State :=
  match s.role with
  | 2 => s.partnerLost 2 s.now
  | 3 => s.joinEnd
  | 4 => s.fenceSelf
  | _ => { s with own.join := none }.ownShow

/-- The indication that the link and the heartbeat give now (R353); a head in hold-up mode acts on none. -/
def indicate (s : State) (since : Nat) : State :=
  if s.chip.holdup then s
  else if s.linkUp then
    if s.bit Reg.DIKOR_STATUS_HB_IN_OK then s.indPaired else s.indDead since
  else if s.bit Reg.DIKOR_STATUS_HB_IN_OK then (if s.fld Reg.DIKOR_STATUS_LSTATE = 9 then s.indLink else s)
  else s.indDead since

/-! ## Renewal and solo boot (R358, R370) -/

/-- The word that this head renews, and the other head's. -/
def myWord (s : State) : Nat := 1 + s.myPort

/-- The other head's renewal word. -/
def otherWord (s : State) : Nat := 2 - s.myPort

/-- One module's renewal: this head's count plus 1; the other's count and word 0 are read. -/
def renewAt (s : State) (k : Nat) : State :=
  let n := tGet s.own.renewed k 0
  let s1 := s.mqpIssue k 0x40 0 0 0 (BitVec.ofNat 64 (n * 2 ^ 32)) (BitVec.ofNat 64 ((n + 1) % 2 ^ 32 * 2 ^ 32)) s.myWord .lease
  (s1.mqpIssue k 0x40 0 0 0 0 0 s.otherWord .lease).mqpIssue k 0x40 0 0 0 0 0 0 .lease

/-- The lease is stale: the other port's count has stood for `STALE_MS` on a quorum of modules. -/
def leaseStale (s : State) : Bool :=
  let ms := max (s.act Reg.OWN_CFG_STALE_MS) (3 * s.act Reg.OWN_CFG_RENEW_MS)
  s.quorate (s.modulesIn.filter (fun k => decide (ms ≤ (tGet s.own.seen k (0, 0)).2))).length

/-- The lease is free: word 0 reads FREE on a quorum of modules. -/
def leaseFree (s : State) : Bool :=
  s.quorate (s.modulesIn.filter (fun k => leaseState (s.reg (Reg.MODP_LEASE k)) == 0)).length

/-- Whether a head that waits for its partner may boot into SOLO (R370). -/
def soloMay (s : State) : Bool :=
  s.bit Reg.DIKOR_STATUS_ABSENT && s.fld Reg.DIKOR_STATUS_LSTATE != 11 && s.dk.waitExpired && s.act Reg.OWN_CFG_SOLO_BOOT == 1 && s.chip.steps.contains 12
    && (s.role == 0 || s.role == 1) && (s.leaseStale || s.leaseFree) && s.own.move.isNone

/-- The lease is checked once every module has answered: the boot into SOLO begins, or the head waits. -/
def soloDecide (s : State) : State :=
  if s.soloMay then s.leaseIssue 3 2 s.now s.now
  else if s.role = 0 && s.dk.waitExpired && s.bit Reg.DIKOR_STATUS_ABSENT then (s.setRole 1).ownShow
  else s

/-- The check of R370 begins: word 0 and the other port's count are read on every module in service. -/
def soloCheck (s : State) : State :=
  if s.role = 0 || s.role = 1 then
    let ks := s.modulesIn
    let s1 := ({ s with own.asked := ks }.readWords 0).readWords s.otherWord
    if ks.isEmpty then s1.soloDecide else s1
  else s

/-- The answer of a swap on word 1 or 2: this head's count is learnt, or the other's is followed, with the time for which it has
stood. -/
def countWord (s : State) (k : Nat) (c : MqpCmd) (r : Option (Bool × Word)) : State :=
  match r with
  | none => s
  | some (ok, prior) =>
    let v := bitsOf (if ok then c.arg1 else prior) 32 32
    if c.arg2 = s.myWord then { s with own.renewed := tPut s.own.renewed k v }
    else
      let ms := if s.own.asked.contains k then max (s.act Reg.OWN_CFG_STALE_MS) (3 * s.act Reg.OWN_CFG_RENEW_MS)
        else s.act Reg.OWN_CFG_RENEW_MS
      let old := tGet? s.own.seen k
      let n := match old with | some x => if x.1 = v then x.2 + ms else 0 | none => 0
      { s with own.seen := tPut s.own.seen k (v, n) }

/-- A module has answered the check that runs. -/
def askedDone (s : State) (k : Nat) : State :=
  if s.own.asked.contains k then
    let s1 := { s with own.asked := s.own.asked.filter (fun x => x != k) }
    if s1.own.asked.isEmpty then s1.soloDecide else s1
  else s

/-- The answer of a swap on word 0, 1 or 2 of a module in service (R357 to R361). -/
def leaseWordAnswer (s : State) (k : Nat) (c : MqpCmd) (r : Option (Bool × Word)) : State :=
  if c.arg2 = 0 then
    let s1 := s.wordZero k c r
    let other := s1.modulesIn.filter (fun x => s1.namesOther (s1.reg (Reg.MODP_LEASE x)))
    let mine := s1.modulesIn.filter (fun x => leaseState (s1.reg (Reg.MODP_LEASE x)) == 2
      && leaseHolder (s1.reg (Reg.MODP_LEASE x)) == s1.myPort)
    if s1.role = 2 && s1.own.move.isNone && s1.namesOther (s1.reg (Reg.MODP_LEASE k)) then s1.fenceSelf
    else if s1.role = 3 && s1.linkUp && s1.fld Reg.DIKOR_STATUS_PARTNER_ROLE = 2 && mine.length < other.length then s1.fenceSelf
    else s1
  else
    let s1 := s.countWord k c r
    if c.arg2 = s.otherWord then s1.askedDone k else s1

/-! ## The mirror audit (R369) -/

/-- A delta as numbers. -/
def deltaNums : Delta → List Nat
  | .store c g f o => [0, c, g, f, o.getD 0]
  | .dedup c g o => [1, c, g, o.getD 0]
  | .pending c g o => [2, c, g, o.getD 0]
  | .deallocRange a n => [3, a, n]
  | .copyRange a b n => [4, a, b, n]

/-- A record as numbers, without the fields that an audit masks. -/
def recNums (r : JRec) : List Nat :=
  if r.type = 6 then [r.seq, 6]
  else
    [r.seq, r.type, r.fua.toNat, r.solo.toNat, r.fwd.toNat, r.pi.toNat, r.rmw.toNat, r.bytes, r.volume, r.group, r.cls, r.tenant, r.first,
      r.time, r.snapGen] ++ r.deltas.flatMap deltaNums
      ++ r.forms.flatMap (fun f => [f.guard.toNat, f.chunk, f.kind, f.len, f.tenant, f.verified.toNat, f.dictPiece.toNat, f.dictId]
        ++ f.plain.map BitVec.toNat)
      ++ r.ctl.flatMap (fun c => c.sub :: c.body)

/-- The records of a window: so many in `SEQ` order from the first. -/
def window (l : List JRec) (first n : Nat) : List JRec := (l.filter (fun r => decide (first ≤ r.seq))).take n

/-- What an audit digests of a record: its bytes, of a PAD record the header alone; the bytes that R369 masks besides are zero in them. -/
def auditBytes (r : JRec) : Bytes := if r.type = 6 then recordHeader r else Sys2Proof.Machine.recordBytes r

/-- The digest of a window: SHA-256 over its records. -/
def windowDigest (l : List JRec) : Word256 := Config.sha256 (l.flatMap auditBytes)

/-- An audit of a window of own records is sent. -/
def auditSend (s : State) (first n : Nat) : State :=
  s.sendMsg 0x0017 [first, n, (windowDigest (window s.jr.own first n)).toNat]

/-- A window of at most 4,096 records that both heads hold, from where the last ended. -/
def audit (s : State) : State :=
  if !s.paired || !s.linkUp || !s.bit Reg.OWN_STATUS_MIRROR_READY then s
  else
    let held := s.jr.own.filter (fun (r : JRec) => r.mirrored)
    let from_ := if (window held s.own.auditNext 1).isEmpty then 0 else s.own.auditNext
    match window held from_ 4096 with
    | [] => s
    | r :: rest =>
      let last := ((r :: rest).getLast?).getD r
      ({ s with own.auditNext := last.seq + 1 }.bump (Reg.OWN_CNT 5) 1).auditSend r.seq (rest.length + 1)

/-- A record found to differ (R369). -/
def auditRepair (s : State) (seq : Nat) (ownGood mirrorGood : Bool) : State :=
  match s.jr.own.find? (fun (r : JRec) => r.seq == seq) with
  | none => s
  | some r =>
    if ownGood then
      (((s.sendRecord r).bump Reg.SELV_RESEND_CNT 1).bump (Reg.OWN_CNT 6) 1).event 0x0904 Reg.OWN_PAGE (BitVec.ofNat 64 seq) 0
    else if mirrorGood then
      ((s.sendMsg 0x0208 [0, seq]).bump (Reg.OWN_CNT 6) 1).event 0x0904 Reg.OWN_PAGE (BitVec.ofNat 64 seq) 0
    else
      let s1 := (s.bump (Reg.OWN_CNT 7) 1).event 0x0905 Reg.OWN_PAGE (BitVec.ofNat 64 seq) 0
      r.forms.foldl (fun t f => t.sendMsg 0x0208 [1, f.chunk]) s1

/-- A digest of the partner's: its own window is answered with this head's; an answer that differs halves the window until one record is
left. -/
def auditDigest (s : State) (first n : Nat) (digest : Word256) (answer ownGood mirrorGood : Bool) : State :=
  if !s.linkUp then s
  else if !answer then s.sendMsg 0x0017 [first, n, (windowDigest (window s.jr.mir first n)).toNat]
  else
    let l := window s.jr.own first n
    if windowDigest l = digest then s
    else
      match l with
      | [] => s
      | [r] => s.auditRepair r.seq ownGood mirrorGood
      | _ =>
        let h := l.length / 2
        (s.auditSend first h).auditSend (((l.drop h).head?.map (fun (r : JRec) => r.seq)).getD first) (l.length - h)

/-- The other head asks for a mirror copy (R289, R369). -/
def mirrorFetch (s : State) (i : FetchItem) : State :=
  if !s.linkUp then s
  else
    match i with
    | .record seq =>
      match s.jr.mir.find? (fun (r : JRec) => r.seq == seq) with
      | some r => s.sendMsg 0x0209 ([0, 1] ++ recNums r)
      | none => s.sendMsg 0x0209 [0, 0, seq]
    | .form k =>
      match (s.jr.mir.flatMap (fun (r : JRec) => r.forms)).find? (fun f => f.chunk == k) with
      | some f => s.sendMsg 0x0209 ([1, 1, k, f.guard.toNat, f.kind, f.len] ++ f.plain.map BitVec.toNat)
      | none => s.sendMsg 0x0209 [1, 0, k]

/-- Reads that wait for a form which no copy holds end, and its chunk is LOST (R289, R302). -/
def formGone (s : State) (k : Nat) : State :=
  let ids := (s.nv.cmds.filter (fun e => e.2.phase == .run && e.2.todo.any (fun g => match s.grainSource e.2.volume g with
    | .journal f => f.chunk == k | _ => false))).map (fun e => e.1)
  let s1 := s.chunkLost k 4
  (ids.foldl (fun t id => t.finish id 2 0x81) s1).settle

/-- A form of a record that channel parity cannot rebuild is asked of the partner's mirror before it is packed, once; with no partner to ask the
chunk is LOST (R289). -/
def damageAsk (s : State) (k : Nat) : State :=
  if (tGet? s.jr.asked k).isSome then s
  else if s.linkUp && !s.solo then { s with jr.asked := tPut s.jr.asked k false }.sendMsg 0x0208 [1, k]
  else s.formGone k

/-- The forms that wait to be packed and fail their checks (R289). -/
def damageStep (s : State) : State :=
  let s1 := { s with jr.asked := s.jr.asked.filter (fun x => !x.2 || s.unplaced.any (fun y => y.1 == x.1)) }
  ((s.unplaced.map (fun x => x.1)).filter (fun k => s.damagedForms.contains k)).foldl damageAsk s1

/-- A mirror copy takes the place of the damaged own copy. -/
def mirrorCopy (s : State) (i : CopyItem) : State :=
  if !s.linkUp then s
  else
    match i with
    | .record seq (some r) =>
      { s with
        jr.own := s.jr.own.map (fun (x : JRec) => if x.seq = seq then
          { r with off := x.off, blks := x.blks, mirrored := x.mirrored, journaled := x.journaled, flashed := x.flashed, olds := x.olds }
          else x)
        jr.badOwn := s.jr.badOwn.filter (fun x => x != seq)
        mp.forms := r.forms.foldl (fun m f => if (tGet? m f.chunk).isSome then tPut m f.chunk f else m) s.mp.forms }
    | .record seq none =>
      match s.jr.own.find? (fun (r : JRec) => r.seq == seq) with
      | some r => r.forms.foldl (fun t f => t.sendMsg 0x0208 [1, f.chunk]) s
      | none => s
    | .form k (some f) =>
      State.settle <| State.packWaiting { s with
        jr.own := s.jr.own.map (fun (x : JRec) => { x with forms := x.forms.map (fun (y : Form) => if y.chunk = k then f else y) })
        mp.forms := if (tGet? s.mp.forms k).isSome then tPut s.mp.forms k f else s.mp.forms
        jr.asked := tPut s.jr.asked k true }
    | .form k none => { s with jr.asked := tDel s.jr.asked k }.formGone k

/-! ## Role swaps (R373 to R376) -/

/-- A swap of this head ends without a change of owner (R374). -/
def swapAbort (s : State) (g cause : Nat) (tell : Bool) : State :=
  match tGet? s.own.swaps g with
  | none => s
  | some x =>
    let s1 := { s with own.swaps := tDel s.own.swaps g }
    let s2 := if tell then s1.sendMsg 0x0013 [g, cause] else s1
    (((s2.event 0x0906 Reg.OWN_PAGE (argWord [(0, g), (1, cause)]) 0).bump (Reg.OWN_CNT 4) 1).ctlAnswer x.tag .fault 0 0).ownShow

/-- A return of quads that is in progress is aborted by a fault, logged, and retried when a planned change may start again (R21, R344). -/
def quadAbort (s : State) : State :=
  match s.dk.named with
  | some m =>
    if s.fld Reg.DIKOR_STATUS_LSTATE != 7 then s
    else
      let qs := (List.range 6).filter (fun q => m / 2 ^ q % 2 == 1 && s.fld Reg.DIKOR_STATUS_QUAD_MASK / 2 ^ q % 2 == 0)
      { s with
        dk.named := none
        dk.returned := s.dk.returned.filter (fun r => !qs.contains r.1)
        dk.back := s.dk.back ++ qs }.unnamedEvent 21 Reg.DIKOR_PAGE 0
  | none => s

/-- A fault aborts every swap whose group has not been released; this head's own are retried once the recovery window has closed, and a drain
that the fault interrupts is logged (R21, R374). -/
def swapFault (s : State) : State :=
  let s1 := (s.own.swaps.filter (fun e => tGet? s.nv.groups e.1 != some 3)).foldl (fun t e =>
    let u := t.swapAbort e.1 4 true
    if e.2.giving then { u with own.planned := u.own.planned ++ [(e.1, none)] } else u) s.reloadAbort.quadAbort
  match s.draining with
  | [] => s1
  | p :: _ => s1.unnamedEvent 21 p 0

/-- A swap begins (R373 step 1): this head offers the group. -/
def swapStart (s : State) (g : Nat) (tag : Option Nat) : State :=
  if !s.paired || !s.bit Reg.OWN_STATUS_MIRROR_READY || !s.ownsGroup g || (tGet? s.own.swaps g).isSome then s.ctlAnswer tag .state 0 0
  else
    let b := s.beat
    let s1 := { s with own.swaps := tPut s.own.swaps g ⟨true, b, b + 66, false, tag⟩, own.lastSwap := s.now }
    (s1.sendMsg 0x0011 [g, tGet s1.nv.groupGens g 0, b + 66]).ownShow

/-- Planned swaps start one at a time, outside of recovery windows and of other planned changes, 100 ms apart (R21, R375). -/
def swapNext (s : State) : State :=
  match s.own.planned with
  | [] => s
  | p :: rest =>
    if s.changeFree && (s.own.lastSwap = 0 || decide (s.own.lastSwap + 100000000 ≤ s.now)) then
      { s with own.planned := rest }.swapStart p.1 p.2
    else s

/-- The periodic swaps (R375): pairs of a group of each head, in ascending order; this head offers its own group of each pair, head 1
100 ms after head 0. -/
def swapPeriod (s : State) : State :=
  if s.act Reg.OWN_CFG_SWAP_PERIOD_H = 0 || !s.paired then s
  else
    let of := fun (h : Nat) => ((s.nv.groups.filter (fun e => e.2 == h)).map (fun e => e.1))
    let n := min (of 0).length (of 1).length
    if n = 0 then s.unnamedEvent 375 Reg.OWN_PAGE 0
    else
      { s with
        own.planned := s.own.planned ++ ((of s.headIndex).take n).map (fun g => (g, none))
        own.lastSwap := if s.headIndex = 1 then s.now else s.own.lastSwap }.swapNext

/-- An offer is accepted or aborted (R373 step 2). -/
def batonOffer (s : State) (g gen bh : Nat) : State :=
  if !s.linkUp then s
  else
    let no := fun (c : Nat) => s.sendMsg 0x0013 [g, c]
    if s.windowsOpen || s.own.move.isSome then no 1
    else if 3 * 2 ^ 26 ≤ s.mp.overlay.length then no 2
    else if !s.changeFree || s.own.join.isSome then no 3
    else if !s.paired || !s.bit Reg.OWN_STATUS_MIRROR_READY || s.ownsGroup g || tGet s.nv.groupGens g 0 != gen then no 4
    else
      let s1 := { s with own.swaps := tPut s.own.swaps g ⟨false, s.beat, bh, true, none⟩, own.lastSwap := s.now }
      (s1.sendMsg 0x0012 [g, bh]).ownShow

/-- An acceptance (R373 step 3). -/
def batonAccept (s : State) (g bh : Nat) : State :=
  match tGet? s.own.swaps g with
  | some x =>
    if x.giving && x.bh = bh && decide (s.beat ≤ x.bo + 32) then { s with own.swaps := tPut s.own.swaps g { x with accepted := true } } else s
  | none => s

/-- The handover beat (R373 steps 4 to 6): the giver heads RELEASE; the taker, once the release has reached it, heads the baton commit. -/
def batonHandover (s : State) (g : Nat) : State :=
  match tGet? s.own.swaps g with
  | none => s
  | some x =>
    if x.giving then
      if x.accepted && s.ownsGroup g then ((s.setOwners [g] 3 2).anaMoved s g).ownShow else s
    else if tGet? s.nv.groups g = some 3 then
      let s1 := { s.setOwners [g] s.headIndex 3 with own.swaps := tDel s.own.swaps g }
      let s2 := s1.sendMsg 0x0014 [g, tGet s1.nv.groupGens g 0, x.bh]
      ((s2.bump (Reg.OWN_CNT 3) 1).anaMoved s g).ownShow
    else s

/-- The baton commit reaches the giver (R374). -/
def batonCommit (s : State) (g gen bh : Nat) : State :=
  match tGet? s.own.swaps g with
  | some x =>
    if x.giving && x.bh = bh then
      let s1 := { s.putOwner g (1 - s.headIndex % 2) gen with own.swaps := tDel s.own.swaps g }
      ((((s1.bump (Reg.OWN_CNT 3) 1).anaMoved s g).ctlAnswer x.tag .ok 0 0)).ownShow
    else s
  | none => s

/-! ## Forwarded commands (R355) -/

/-- The command kind of an opcode. -/
def kindOfOp (op : Nat) : Option CmdKind :=
  match op with
  | 1 => some .write
  | 2 => some .read
  | 5 => some .compare
  | 8 => some .writeZeroes
  | 9 => some .dsm
  | 0x19 => some .copy
  | _ => none

/-- The group of a forwarded command's volume; none for one that names no volume. -/
def fwdGroup (s : State) (b : FwdBody) : Option Nat :=
  match b with
  | .io _ v _ _ _ _ _ _ | .resv v _ _ | .format v _ => (s.vol? v).map (fun x => x.group)
  | .sanitize _ => none

/-- A forwarded command at the owner: drafted here, or redirected when the group has moved (R355). -/
def fwdCmd (s : State) (c : FwdCmd) (st : Standby) : State :=
  if !s.linkUp || !s.serving then s
  else if ((s.fwdGroup c.body).map (fun g => !s.ownsGroup g)).getD false then s.sendMsg 0x0202 [c.tag, 0, 0, 0, 1]
  else
    match c.body with
    | .io op vol src bytes fua ranges pi data =>
      match kindOfOp op, s.vol? vol with
      | some k, some v =>
        let x := newCmd c.conn 0 c.tenant vol k ranges src bytes c.cls (max c.cls (s.syncFloor vol (isWriteKind k))) fua pi c.arrived data (s.redOf c.tenant)
        let id := s.nv.next
        ({ s with nv.next := id + 1, nv.cmds := tPut s.nv.cmds id { x with fwdFrom := some c.tag, lbaf := v.lbaf } }.raiseCount
          (if c.cls < x.cls then 1 else 0)).reedCheck id st
      | none, _ => s.sendMsg 0x0202 [c.tag, 0, 0x01, 0]
      | _, none => s.sendMsg 0x0202 [c.tag, 0, 0x0B, 0]
    | b => s.otherDo (.fwd c.tag) c.tenant b

/-- Data of a forwarded command: a write's at the owner, a read's at the head that the host reaches. -/
def fwdData (s : State) (tag off : Nat) (data : Bytes) (toOwner : Bool) : State :=
  if !s.linkUp then s
  else if toOwner then
    match s.nv.cmds.find? (fun e => e.2.fwdFrom == some tag) with
    | some e => s.dataIn e.1 off data
    | none => s
  else
    match s.cmd? tag with
    | some c => if c.fwdTo && !c.mute then s.sendData c.conn c.cid off data else s
    | none => s

/-- A command whose group has moved arrives again for the owner of now, its deadline and window running on. -/
def reSubmit (s : State) (id : Nat) (st : Standby) : State :=
  match s.cmd? id with
  | none => s
  | some c =>
    match s.vol? c.volume with
    | none => s.finish id 0 0x0B
    | some v =>
      if s.ownsGroup v.group then (s.modCmd id (fun x => { x with fwdTo := false })).reedCheck id st
      else (s.bump (Reg.OWN_CNT 8) 1).sendMsg 0x0200 ([id, c.conn, c.tenant] ++ s.fwdBody c v.group)

/-- The owner's completion, or a redirect, at the head that the host reaches. -/
def fwdCpl (s : State) (tag sct sc delay : Nat) (redirect : Bool) (st : Standby) : State :=
  if !s.linkUp then s
  else
    match s.cmd? tag with
    | some c =>
      if !c.fwdTo then s
      else if redirect then (s.bump (Reg.OWN_CNT 9) 1).reSubmit tag st
      else if delay != 0 then
        let s1 := (s.dropCmd tag).tcntAdd c.tenant 6 1
        s1.answer c sct sc delay
      else s.finish tag sct sc
    | none =>
      match s.nv.fwdOther.find? (fun (f : FwdOther) => f.tag == tag) with
      | none => s
      | some f =>
        let s1 := { s with nv.fwdOther := s.nv.fwdOther.filter (fun (x : FwdOther) => x.tag != tag) }
        if redirect then
          let s2 := s1.bump (Reg.OWN_CNT 9) 1
          if ((s2.fwdGroup f.body).map s2.ownsGroup).getD true then s2.otherDo (.host f.conn f.cid) f.tenant f.body
          else s2.forwardOther f.conn f.cid f.tenant f.body
        else s1.nvmeOut f.conn f.cid sct sc false delay 0

/-- The ownership table as numbers (R379). -/
def ownTable (s : State) : List Nat := (List.range 256).flatMap (fun g => [tGet s.nv.groups g 3, tGet s.nv.groupGens g 0])

end State

open State

/-- FENCE (R359). -/
def execFence (_word : Word) (s : State) : Out := .next (if s.linkUp then s.fenceSelf else s)

/-- LEASE_RENEWAL (R358, R366). -/
def execLeaseRenewal (s : State) : Out :=
  .next (if (s.role = 2 || s.role = 3) && !s.chip.holdup then (s.modulesIn.foldl renewAt s).leaseRetry else s)

/-- JOIN_START (R371 J2). -/
def execJoinStart (s0 tail : Nat) (s : State) : Out :=
  .next (
    match s.own.join with
    | some j =>
      if j.takes && s.linkUp then
        let s1 := { s with own.join := some { j with began := true, s0 := s0, tail := tail, got := tail } }
        let s2 := s1.setReg Reg.SELV_MIR_TAIL_SEQ (BitVec.ofNat 64 tail)
        ((s2.setReg Reg.SELV_MIR_NEXT_SEQ (BitVec.ofNat 64 (max tail (s2.reg Reg.SELV_MIR_NEXT_SEQ).toNat))).joinEval).coldEval
      else s
    | none => s)

/-- BULK (R371 J2). -/
def execBulk (record : JRec) (members : List (Nat × Nat × Nat)) (s : State) : Out :=
  .next (
    match s.own.join with
    | some j =>
      if j.takes && j.began && s.linkUp then
        let s1 := if record.type = 6 then s else s.mirrorTake record members
        ({ s1 with own.join := some { j with got := max j.got (record.seq + 1) } }.joinEval).coldEval
      else s
    | none => s)

/-- JOIN_READY (R371 J3, R372). -/
def execJoinReady (held : Nat) (s : State) : Out :=
  .next (
    match s.own.join with
    | some j =>
      if j.gives && j.sent && s.linkUp then
        let s1 := (s.markMirrored (fun (r : JRec) => decide (r.seq ≤ held))).setBit Reg.OWN_STATUS_MIRROR_READY true
        if j.takes then s1.coldEval
        else ((s1.setBit Reg.NVMF_STATUS_SOLO false).setBit Reg.SELV_STATUS_SOLO false).leaseIssue 4 1 s1.now s1.now
      else s
    | none => s)

/-- MIRROR_AUDIT (R369). -/
def execMirrorAudit (s : State) : Out := .next s.audit

/-- AUDIT_DIGEST (R369). -/
def execAuditDigest (first records : Nat) (digest : Word256) (answer ownGood mirrorGood : Bool) (s : State) : Out :=
  .next (s.auditDigest first records digest answer ownGood mirrorGood)

/-- MIRROR_FETCH (R289). -/
def execMirrorFetch (item : FetchItem) (s : State) : Out := .next (s.mirrorFetch item)

/-- MIRROR_COPY (R289). -/
def execMirrorCopy (item : CopyItem) (s : State) : Out := .next (s.mirrorCopy item)

/-- OWN_DIGEST (R379): a mismatch that lasts ten beats is logged. -/
def execOwnDigest (crc : BitVec 32) (s : State) : Out :=
  .next (
    if !s.paired || !s.linkUp then s
    else if crc = Config.ownCrc s.ownTable then { s with own.digestBad := 0 }
    else
      let s1 := { s with own.digestBad := s.own.digestBad + 1 }
      if s1.own.digestBad = 10 then s1.unnamedEvent 379 Reg.OWN_PAGE 0 else s1)

/-- GROUP_SWAP_PERIOD (R375). -/
def execGroupSwapPeriod (s : State) : Out := .next s.swapPeriod

/-- BATON_OFFER (R373). -/
def execBatonOffer (group : BitVec 8) (gen : BitVec 32) (handover : Nat) (s : State) : Out :=
  .next (s.batonOffer group.toNat gen.toNat handover)

/-- BATON_ACCEPT (R373). -/
def execBatonAccept (group : BitVec 8) (handover : Nat) (s : State) : Out := .next (s.batonAccept group.toNat handover)

/-- BATON_ABORT (R374). -/
def execBatonAbort (group : BitVec 8) (cause : BitVec 8) (s : State) : Out := .next (s.swapAbort group.toNat cause.toNat false)

/-- BATON_ANSWER_TIMEOUT (R373): the offer of a group has had no answer. -/
def execBatonAnswerTimeout (group : BitVec 8) (s : State) : Out :=
  .next (
    match tGet? s.own.swaps group.toNat with
    | some x => if x.giving && !x.accepted then s.swapAbort group.toNat 5 true else s
    | none => s)

/-- BATON_HANDOVER (R373). -/
def execBatonHandover (group : BitVec 8) (s : State) : Out := .next (s.batonHandover group.toNat)

/-- BATON_COMMIT (R374). -/
def execBatonCommit (group : BitVec 8) (gen : BitVec 32) (handover : Nat) (s : State) : Out :=
  .next (s.batonCommit group.toNat gen.toNat handover)

/-- FWD_CMD (R355). -/
def execFwdCmd (cmd : FwdCmd) (standby : Standby) (s : State) : Out := .next (s.fwdCmd cmd standby)

/-- FWD_DATA (R355). -/
def execFwdData (tag off : Nat) (data : Bytes) (toOwner : Bool) (s : State) : Out := .next (s.fwdData tag off data toOwner)

/-- FWD_CPL (R355). -/
def execFwdCpl (tag sct sc delay : Nat) (redirect : Bool) (standby : Standby) (s : State) : Out :=
  .next (s.fwdCpl tag sct sc delay redirect standby)

end Sys2Proof.Machine
end

