-- ==== Sys2Proof/Machine/Dikor.lean ====
section
/-!
DEFINITION. Sys2Proof/Machine/Dikor.lean: the Dikor link (R328 to R353): flits, replay, narrowing and widening, training, identity and
the heartbeat.
-/

namespace Sys2Proof.Machine

/-- The message types of R334. -/
def knownMsg (m : Nat) : Bool :=
  (1 ≤ m && m ≤ 0xC) || m == 0xF || (0x10 ≤ m && m ≤ 0x18) || m == 0x100 || m == 0x101 || (0x200 ≤ m && m ≤ 0x20C)
    || (0x300 ≤ m && m ≤ 0x302)

namespace State

/-! ## Retry (R340 to R342) -/

/-- Every flit of the replay buffer is sent again; while the link narrows, once its new mask stands (R343). -/
def dkReplay (s : State) : State :=
  match s.dk.unacked with
  | [] => s
  | f :: rest =>
    if s.fld Reg.DIKOR_STATUS_LSTATE = 8 then s
    else ({ s with dk.replays := s.dk.replays + 1 }.bump (Reg.DIKOR_CNT 4) (rest.length + 1)).emit (.dkReplay f.1 (rest.length + 1))

/-- `ACK_SEQ` taken: the flits before it leave the replay buffer. -/
def dkAck (s : State) (ack : Nat) : State :=
  match s.dk.unacked with
  | [] => s
  | f :: rest =>
    let n := (ack + 4096 - f.1) % 4096
    if n = 0 || rest.length + 1 < n then s else { s with dk.unacked := s.dk.unacked.drop n, dk.replays := 0 }

/-- Credits taken for a class. -/
def dkCredit (s : State) (c total : Nat) : State :=
  let d := (total + 4096 - s.dk.freed.getD c 0) % 4096
  { s with dk.credits := s.dk.credits.set c (s.dk.credits.getD c 0 + d), dk.freed := s.dk.freed.set c total }

/-- The expected flit has not arrived: `NAK` is set. -/
def dkNakSet (s : State) : State := if s.dk.nak then s else { s with dk.nak := true }.emit (.dkNak s.dk.rxNext)

/-- A DATA flit accepted: its message's reassembly context (R333, R337). The context of a message to be discarded keeps no length. -/
def dkData (s : State) (f : Flit) : State :=
  let c := f.cls.val
  let s1 := { s with
    dk.rxNext := (s.dk.rxNext + 1) % 4096
    dk.nak := false
    dk.rxFreed := s.dk.rxFreed.set c ((s.dk.rxFreed.getD c 0 + 1) % 4096) }.bump (Reg.DIKOR_CNT 1) 1
  let s2 := if f.som && s1.dk.parts.any (fun p => decide (c < p.1)) then s1.bump (Reg.DIKOR_CNT 5) 1 else s1
  let part : Nat × Nat × Nat :=
    if f.som then
      match f.head with
      | some (m, l) => (c, f.len, if knownMsg m && msgClass m == c && 16 ≤ l && l ≤ 16777216 then l else 0)
      | none => (c, f.len, 0)
    else
      match s2.dk.parts.find? (fun p => p.1 == c) with
      | some p => (c, p.2.1 + f.len, p.2.2)
      | none => (c, f.len, 0)
  let rest := s2.dk.parts.filter (fun p => p.1 != c)
  if f.eom then
    let s3 := { s2 with dk.parts := rest }
    if part.2.2 = part.2.1 then s3 else s3.bump (Reg.DIKOR_CNT 6) 1
  else { s2 with dk.parts := rest ++ [part] }

/-- A flit received. -/
def flitIn (s : State) (f : Flit) : State :=
  if !s.linkUp then s
  else if !f.crcOk then
    let s1 := s.bump (Reg.DIKOR_CNT 2) 1
    if f.kind = 1 then s1.dkNakSet else s1
  else
    let s1 := (s.dkAck f.ack.toNat).dkCredit f.crClass.val f.crTotal.toNat
    let s2 := if f.nak then (s1.bump (Reg.DIKOR_CNT 3) 1).dkReplay else s1
    let s3 := if f.kind = 1 then (if f.seq.toNat = s2.dk.rxNext then s2.dkData f else s2.dkNakSet) else s2
    dkPump 512 s3

/-! ## States -/

/-- `DIKOR.STATUS.LSTATE`. -/
def lstate (s : State) : Nat := s.fld Reg.DIKOR_STATUS_LSTATE

/-- A link state entered; the quads' power follows. When the link reaches UP the partner's capacities are 0 until its first report
(R281). -/
def setLink (s : State) (st : Nat) : State :=
  let s1 := if st = 7 && !s.linkUp then { s with md.partner := (0, 0, 0, 0) } else s
  (s1.setFld Reg.DIKOR_STATUS_LSTATE st).powerEval Reg.DIKOR_PAGE

/-- The quad mask and the width it gives. -/
def setMask (s : State) (m : Nat) : State := (s.setFld Reg.DIKOR_STATUS_QUAD_MASK m).setFld Reg.DIKOR_STATUS_WIDTH (4 * popcount m)

/-- The index that this head's modules in service report (R349), and whether they disagree. -/
def moduleIndex (s : State) : Option Nat × Bool :=
  match (s.modulesIn.map (fun k => s.fld (Reg.MODP_STATUS_PORT_ID k))).dedup with
  | [i] => (some i, false)
  | [] => (none, false)
  | _ => (none, true)

/-- `PARTNER_HB_OUT` follows R351: no toggling without an ACTIVE Loom or a parity engine (R287), with a segment fault, fatal or in
hold-up mode. -/
def hbEval (s : State) : State :=
  let on := s.dk.passed && s.fld Reg.SEGW_ENGINES_ACTIVE != 0 && s.chip.cond != .fatal && s.chip.cond != .reset && !s.chip.holdup
    && !(s.blk (Reg.LOOM_PAGE 0) == FAILED && s.blk (Reg.LOOM_PAGE 1) == FAILED)
  { s with chip.hbOut := on }.setBit Reg.DIKOR_STATUS_HB_OUT_ON on

/-- Whether the link may train: step 11 has been reached, and the head is neither fatal nor in hold-up mode. -/
def mayTrain (s : State) : Bool :=
  s.chip.steps.contains 10 && !s.chip.holdup && (s.chip.cond == .booting || s.chip.cond == .serving) && s.active Reg.DIKOR_PAGE

/-- An attempt starts at DETECT (R345); with `PARTNER_PRSNT_N` high it has failed already. -/
def trainStart (s : State) : State :=
  if s.mayTrain && (s.lstate = 0 || s.lstate = 9 || s.lstate = 10) then
    { s with dk.cand := 0, dk.failed := !s.dk.prsnt }.setLink 1
  else s

/-- The link goes DOWN (R346). -/
def linkDown (s : State) : State :=
  let s1 := { (if s.linkUp then s.secondFault else s) with
    dk.back := []
    dk.waiting := [0, 0, 0, 0]
    dk.msgs := [[], [], [], []]
    dk.unacked := []
    dk.parts := []
    dk.nak := false
    dk.named := none
    dk.stopped := s.now }
  let s2 := (s1.setMask 0).setLink 9
  let st := s2.fld Reg.TIME_STATUS_STATE
  let s3 := if !s2.bit Reg.DIKOR_STATUS_LEADER && (st = 2 || st = 3) then s2.setFld Reg.TIME_STATUS_STATE 4 else s2
  s3.indicate s3.now

/-- A quad is lost (R343): a single fault, which aborts a return that was in progress (R21). -/
def quadLost (s : State) (q : Nat) : State :=
  if !s.linkUp || (s.dk.named.getD (s.fld Reg.DIKOR_STATUS_QUAD_MASK)) / 2 ^ q % 2 = 0 then s
  else
    let again := s.dk.returned.any (fun r => r.1 == q && decide (s.now ≤ r.2 + 10000000000))
    let s0 := s.secondFault.swapFault
    let s1 := { s0 with
      dk.back := s0.dk.back.filter (fun x => x != q)
      dk.returned := s0.dk.returned.filter (fun r => r.1 != q)
      dk.leftOut := if again && s.dk.leftOut / 2 ^ q % 2 = 0 then s.dk.leftOut + 2 ^ q else s.dk.leftOut }
    let mask := s1.dk.named.getD (s1.fld Reg.DIKOR_STATUS_QUAD_MASK)
    let good := mask - (mask / 2 ^ q % 2) * 2 ^ q
    if good = mask then s1
    else if popcount good < 3 then s1.linkDown
    else
      ({ s1 with dk.named := some good, dk.stopped := if s1.lstate = 8 then s1.dk.stopped else s1.now }.setLink 8).emit (.dkWidth good)

/-- The partner's WIDTH sets: both ends take the AND of the masks (R343, R344). -/
def widthSet (s : State) (mask : Nat) : State :=
  if !s.linkUp then s
  else
    let cur := s.fld Reg.DIKOR_STATUS_QUAD_MASK
    let mine := s.dk.named.getD cur
    let new := mine &&& mask
    if popcount new < 3 then s.linkDown
    else
      let s1 := if s.dk.named.isNone && new != cur then s.emit (.dkWidth mine) else s
      let by_ := if s1.lstate = 8 then min 32000 (s1.now - s1.dk.stopped) else 0
      let s2 := if popcount new < popcount cur then { s1 with loom.faultBeat := some s1.beat }.bump (Reg.DIKOR_CNT 9) 1
        else if popcount cur < popcount new then s1.bump (Reg.DIKOR_CNT 10) 1 else s1
      let s3 := (({ s2 with dk.named := none, dk.asked := s2.dk.asked &&& (63 - new) }.setMask new).setLink 7).dkReplay
      dkPump 512 (s3.extendAll by_)

/-- Whether a quad may come back into the mask (R344). -/
def quadMay (s : State) (q : Nat) : Bool :=
  s.lstate == 7 && s.fld Reg.DIKOR_STATUS_QUAD_MASK / 2 ^ q % 2 == 0 && s.act Reg.DIKOR_CFG_QUAD_EN / 2 ^ q % 2 == 1
    && s.dk.leftOut / 2 ^ q % 2 == 0 && (s.act Reg.DIKOR_CFG_WIDEN_AUTO == 1 || s.dk.asked / 2 ^ q % 2 == 1)

/-- A quad that is out of the mask has trained alone (R344): WIDTH sets name the larger mask. It waits while no planned change may start
(R21). -/
def quadReturn (s : State) (q : Nat) : State :=
  if !s.quadMay q then s
  else if s.changeFree && s.own.move.isNone then
    let m := s.fld Reg.DIKOR_STATUS_QUAD_MASK ||| 2 ^ q
    { s with dk.named := some m, dk.returned := s.dk.returned ++ [(q, s.now)] }.emit (.dkWidth m)
  else { s with dk.back := s.dk.back.filter (fun x => x != q) ++ [q] }

/-- The mask without the quads that `QUAD_EN` no longer permits is named in WIDTH sets: a planned change, which waits its turn (R21, R343). -/
def quadDrop (s : State) : State :=
  let mask := s.fld Reg.DIKOR_STATUS_QUAD_MASK
  let good := mask &&& s.act Reg.DIKOR_CFG_QUAD_EN
  if s.lstate = 7 && good != mask && 3 ≤ popcount good && s.changeFree && s.own.move.isNone then
    ({ s with dk.named := some good, dk.stopped := s.now }.setLink 8).emit (.dkWidth good)
  else s

/-- The planned changes of the Dikor mask that wait for their turn (R21): a quad that `QUAD_EN` has dropped leaves, else the first quad that has
trained alone returns. -/
def quadTurn (s : State) : State :=
  if !s.changeFree || s.own.move.isSome then s
  else
    let t := s.quadDrop
    if t.dk.named.isSome then t
    else
      match s.dk.back with
      | q :: r => { s with dk.back := r }.quadReturn q
      | [] => s

/-- The quad with the most uncorrectable codewords of the mask, the highest-numbered of equals (R342). -/
def worstQuad (s : State) (errors : List Nat) : Option Nat :=
  let mask := s.dk.named.getD (s.fld Reg.DIKOR_STATUS_QUAD_MASK)
  ((List.range 6).filter (fun q => mask / 2 ^ q % 2 = 1)).foldl
    (fun b q => match b with | some x => if errors.getD x 0 ≤ errors.getD q 0 then some q else b | none => some q) none

/-! ## Training (R345 to R347) -/

/-- The identity message (R348): its header and its fields, little-endian. -/
def identityImage (s : State) (role index : Nat) : List Nat :=
  leBytes 0x000F 2 ++ [0, 0] ++ leBytes 64 4 ++ leBytes 0 8 ++ leBytes (s.reg Reg.CHIP_CHIP_IDENT).toNat 8
    ++ leBytes (s.reg Reg.CHIP_UID_LO).toNat 8 ++ leBytes (s.reg Reg.CHIP_UID_HI).toNat 8 ++ leBytes (s.fld Reg.OWN_ARRAY_ARRAY_ID) 6
    ++ [index, role, s.act Reg.SELV_CFG_OWN_GIB, s.act Reg.SELV_CFG_MIRROR_GIB, s.fld Reg.TIME_STATUS_STATE, s.dk.cand, 0, 0, 0, 0]
    ++ leBytes s.now 8

/-- Identity as this head sends it (R348). -/
def sendIdentity (s : State) : State :=
  let i := s.moduleIndex
  let s1 := if i.2 then s.event 0x0803 Reg.DIKOR_PAGE 0 0 else s
  let role := match s.role with | 2 => 1 | 3 => 2 | 5 => 3 | _ => 0
  s1.emit (.dkIdentity (s1.identityImage role (i.1.getD 0xFF)))

/-- The link reaches UP. -/
def linkIsUp (s : State) : State :=
  let s1 := (s.setMask s.dk.cand).setLink 7
  let s2 := ((s1.setFld Reg.DIKOR_STATUS_ATTEMPTS 0).setBit Reg.DIKOR_STATUS_ABSENT false).setFld Reg.DIKOR_WAIT_LEFT_MS 0
  let s3 := { s2 with dk.credits := [64, 2048, 2048, 1024], dk.freed := [0, 0, 0, 0], dk.rxFreed := [0, 0, 0, 0], dk.c0gap := 31, dk.waitRunning := false }
  if s3.bit Reg.DIKOR_STATUS_HB_IN_OK then s3.indicate s3.now else s3

/-- A training state completes with so many candidate quads. -/
def trainDone (s : State) (quads : Nat) : State :=
  if s.dk.failed then s
  else
    match s.lstate with
    | 1 =>
      let c := quads &&& s.act Reg.DIKOR_CFG_QUAD_EN
      if s.dk.prsnt && 3 ≤ popcount c then { s with dk.cand := c }.setLink 2 else s
    | 2 => s.setLink 3
    | 3 =>
      let c := s.dk.cand &&& quads
      if 3 ≤ popcount c then { s with dk.cand := c }.setLink 4 else { s with dk.cand := c, dk.failed := true }
    | 4 =>
      let c := s.dk.cand &&& quads
      if 3 ≤ popcount c then
        ({ s with dk.cand := c, dk.txNext := 0, dk.rxNext := 0, dk.unacked := [], dk.replays := 0, dk.nak := false
                  dk.parts := [] }.setLink 5).sendIdentity
      else { s with dk.cand := c, dk.failed := true }
    | 6 => s.linkIsUp
    | _ => s

/-- ABSENT is entered (R347). -/
def enterAbsent (s : State) : State :=
  let first := !s.bit Reg.DIKOR_STATUS_ABSENT
  let s1 := (s.setBit Reg.DIKOR_STATUS_ABSENT true).setLink 10
  let s2 := if first then s1.event 0x0801 Reg.DIKOR_PAGE 0 0 else s1
  if s2.dk.waitStarted then s2
  else
    { s2 with dk.waitStarted := true, dk.waitRunning := true }.setFld Reg.DIKOR_WAIT_LEFT_MS (1000 * s2.act Reg.DIKOR_CFG_PARTNER_WAIT_S)

/-- An attempt has taken 100 ms without reaching UP. -/
def trainFail (s : State) : State :=
  if 1 ≤ s.lstate && s.lstate ≤ 6 then
    let s1 := (s.bump (Reg.DIKOR_CNT 11) 1).bumpFld Reg.DIKOR_STATUS_ATTEMPTS 1
    if 3 ≤ s1.fld Reg.DIKOR_STATUS_ATTEMPTS then s1.enterAbsent else (s1.setLink 0).trainStart
  else s

/-! ## Identity (R348 to R350) -/

/-- Why an identity message is refused; 0 when it is not. -/
def refuseCause (s : State) (d : DkIdentity) : Nat :=
  let mine := s.moduleIndex.1
  let array := s.fld Reg.OWN_ARRAY_ARRAY_ID
  if bitsOf d.ident 32 32 != bitsOf (s.reg Reg.CHIP_CHIP_IDENT) 32 32 then 1
  else if array != 0 && d.array != 0 && array != d.array.toNat then 2
  else if mine.isSome && mine == some d.index.toNat then 3
  else 0

/-- This head's index after the exchange (R349). -/
def indexAfter (s : State) (d : DkIdentity) : Nat :=
  let uid := (s.reg Reg.CHIP_UID_HI).toNat * 2 ^ 64 + (s.reg Reg.CHIP_UID_LO).toNat
  match s.moduleIndex.1 with
  | some i => i
  | none => if d.index = 0 then 1 else if d.index = 1 then 0 else if uid < d.uid.toNat then 0 else 1

/-- Whether this head leads the time base (R350). -/
def leads (s : State) (partner idx : Nat) : Bool :=
  let mine := s.role == 2 || s.role == 3
  let other := partner == 1 || partner == 2
  if mine && !other then true else if other && !mine then false else idx == 0

/-- The following head's time base is stepped to the leader's, corrected by a flight time of at most 10 ns, while it is UNSYNCED. -/
def timeStep (s : State) (t : Nat) : State :=
  if s.fld Reg.TIME_STATUS_STATE = 0 && !s.bit Reg.DIKOR_STATUS_LEADER then
    let d := s.draw
    d.2.stepTo (t + (Config.openWord d.1).toNat % 11)
  else s

/-- The partner's identity message. -/
def identity (s : State) (d : DkIdentity) : State :=
  if s.lstate != 5 || s.dk.failed then s
  else
    let s1 := ((s.setReg Reg.DIKOR_PARTNER_UID_LO (d.uid.setWidth 64)).setReg Reg.DIKOR_PARTNER_UID_HI ((d.uid >>> 64).setWidth 64)).setFld
      Reg.DIKOR_PARTNER_ARRAY_ARRAY d.array.toNat
    let pidx := if d.index.toNat < 2 then d.index.toNat else 3
    let s2 := (s1.setFld Reg.DIKOR_STATUS_PARTNER_ROLE d.role.toNat).setFld Reg.DIKOR_STATUS_PARTNER_INDEX pidx
    match s2.refuseCause d with
    | 0 =>
      let idx := s2.indexAfter d
      let s3 := (s2.setFld Reg.DIKOR_STATUS_HEAD_INDEX idx).setFld Reg.DIKOR_STATUS_PARTNER_INDEX (1 - idx % 2)
      let s4 := s3.setBit Reg.DIKOR_STATUS_LEADER (s3.leads d.role.toNat idx)
      let own := s4.act Reg.SELV_CFG_OWN_GIB
      let mir := s4.act Reg.SELV_CFG_MIRROR_GIB
      let differ := own != d.mirrorGib.toNat || mir != d.ownGib.toNat
      let s5 := { (if differ then s4.stick Reg.SELV_PAGE 1 else s4) with dk.sizesDiffer := differ }.timeStep d.now
      let first := !s5.dk.passed
      let s6 := { s5 with dk.passed := true }.setLink 6
      if first then (s6.hbEval).stepDone 11 else s6
    | c =>
      ((s2.setFld Reg.DIKOR_STATUS_REFUSE_CAUSE c).setBit Reg.DIKOR_STATUS_ABSENT true).setLink 11 |>.event 0x0802 Reg.DIKOR_PAGE
        (argWord [(0, c)]) 0

/-- A module has come into service or gone: an index that the modules now contradict resets the link (R349). -/
def indexCheck (s : State) : State :=
  match s.moduleIndex with
  | (some i, _) =>
    if s.headIndex = i then s
    else if s.dk.passed && s.headIndex < 2 then
      let s1 := if s.linkUp then s.linkDown else s
      ({ s1 with dk.failed := false }.setFld Reg.DIKOR_STATUS_HEAD_INDEX i).setLink 0 |>.trainStart
    else s.setFld Reg.DIKOR_STATUS_HEAD_INDEX i
  | (none, true) => if s.linkUp || s.headIndex = 3 then s else s.setFld Reg.DIKOR_STATUS_HEAD_INDEX 3
  | (none, false) => s

/-! ## The servo (R332, R47) -/

/-- The SYNC flit of each beat (R332). -/
def syncSend (s : State) : State :=
  if s.linkUp then { s.emit (.dkSync (s.headerNow 2 0 false false 0 0) s.now s.dk.lastSync) with dk.crNext := (s.dk.crNext + 1) % 4 } else s

/-- A SYNC flit: the skew is written, and on the following head whose source is the partner the servo sets a rate, whose value the spec
leaves open. -/
def syncFlit (s : State) (sent : Nat) (skew : BitVec 32) : State :=
  if !s.linkUp then s
  else
    let s1 := { s with dk.lastSync := sent }.setReg Reg.TIME_PARTNER_SKEW (skew.signExtend 64)
    let src := s1.fld Reg.TIME_CTRL_SRC
    if !s1.bit Reg.DIKOR_STATUS_LEADER && 2 ≤ src then
      s1.rateServo
    else s1

end State

open State

/-- FLIT_RECEIVE (R340). -/
def execFlitReceive (flit : Flit) (s : State) : Out := .next (s.flitIn flit)

/-- SYNC_FLIT (R332). -/
def execSyncFlit (sent : Nat) (skew : BitVec 32) (s : State) : Out := .next (s.syncFlit sent skew)

/-- NAK_REPEAT (R340). -/
def execNakRepeat (s : State) : Out := .next (if s.linkUp && s.dk.nak then s.emit (.dkNak s.dk.rxNext) else s)

/-- REPLAY_TIMEOUT (R340). -/
def execReplayTimeout (s : State) : Out := .next (if s.linkUp then s.dkReplay else s)

/-- REPLAY_LIMIT_QUAD_DROP (R342). -/
def execReplayLimitQuadDrop (errors : List Nat) (s : State) : Out :=
  .next (
    if s.linkUp && 4 ≤ s.dk.replays then
      match s.worstQuad errors with
      | some q => s.quadLost q
      | none => s
    else s)

/-- QUAD_LOSS (R343). -/
def execQuadLoss (quad : Fin 6) (s : State) : Out := .next (s.quadLost quad.val)

/-- WIDTH_ORDERED_SET (R343). -/
def execWidthOrderedSet (mask : BitVec 6) (s : State) : Out := .next (s.widthSet mask.toNat)

/-- QUAD_RETURN (R344). -/
def execQuadReturn (quad : Fin 6) (s : State) : Out := .next (s.quadReturn quad.val)

/-- TRAINING_ATTEMPT (R345). -/
def execTrainingAttempt (s : State) : Out := .next s.trainStart

/-- TRAINING_STATE_COMPLETE (R345). -/
def execTrainingStateComplete (quads : BitVec 6) (s : State) : Out := .next (s.trainDone quads.toNat)

/-- TRAINING_ATTEMPT_TIMEOUT (R345). -/
def execTrainingAttemptTimeout (s : State) : Out := .next s.trainFail

/-- PARTNER_PRESENT_CHANGE (R345, R347). -/
def execPartnerPresentChange (present : Bool) (s : State) : Out :=
  let s1 := { s with dk.prsnt := present }
  .next (
    if present && !s.dk.prsnt && s1.lstate = 10 then s1.trainStart
    else if !present && 1 ≤ s1.lstate && s1.lstate ≤ 6 then { s1 with dk.failed := true }
    else s1)

/-- PARTNER_ABSENT_TIMEOUT (R346). -/
def execPartnerAbsentTimeout (s : State) : Out := .next (if !s.dk.prsnt && s.linkUp then s.linkDown else s)

/-- LINK_RETRY_TIMER (R346). -/
def execLinkRetryTimer (s : State) : Out := .next (if s.lstate = 9 then s.trainStart else s)

/-- ABSENT_RETRY_TIMER (R347). -/
def execAbsentRetryTimer (s : State) : Out := .next (if s.lstate = 10 then s.trainStart else s)

/-- PARTNER_WAIT_EXPIRY (R347, R370). -/
def execPartnerWaitExpiry (s : State) : Out :=
  .next (
    if s.dk.waitRunning then
      ({ s with dk.waitRunning := false, dk.waitExpired := true }.setFld Reg.DIKOR_WAIT_LEFT_MS 0).soloCheck
    else s)

/-- SOLO_BOOT_RECHECK (R370). -/
def execSoloBootRecheck (s : State) : Out := .next (if s.dk.waitExpired then s.soloCheck else s)

/-- IDENTITY (R348). -/
def execIdentity (id : DkIdentity) (s : State) : Out := .next (s.identity id)

/-- HEARTBEAT_LOSS (R352, R353). -/
def execHeartbeatLoss (edge : Nat) (flits : Bool) (s : State) : Out :=
  .next (
    if s.bit Reg.DIKOR_STATUS_HB_IN_OK || s.linkUp then
      let s1 := (s.setBit Reg.DIKOR_STATUS_HB_IN_OK false).bump (Reg.DIKOR_CNT 12) 1
      let s2 := if flits then s1.event 0x0804 Reg.DIKOR_PAGE 0 0 else s1
      s2.indicate (s2.now - edge)
    else s)

/-- HEARTBEAT_RESTORED (R352). -/
def execHeartbeatRestored (s : State) : Out :=
  .next (
    if s.chip.cond = .reset || s.bit Reg.DIKOR_STATUS_HB_IN_OK then s
    else
      let s1 := s.setBit Reg.DIKOR_STATUS_HB_IN_OK true
      if s1.linkUp then s1.indicate s1.now else s1)

/-- HOLDUP (R192, R353): the partner is in hold-up mode. -/
def execHoldup (s : State) : Out := .next (if s.linkUp && !s.chip.holdup then s.indDead s.now else s)

end Sys2Proof.Machine
end

