-- ==== Sys2Proof/Machine/Modules.lean ====
section
/-!
DEFINITION. Sys2Proof/Machine/Modules.lean: the slot chain (R306 to R309), the service states of a module (R310), its insertion (R325),
conformance and removal (R323, R326), and MQP completions (R317 to R320).
-/

namespace Sys2Proof.Machine

namespace State

/-! ## Service states (R310) -/

/-- Slot Control. -/
def slotCtrl (s : State) (k : Nat) : Nat := s.fld (Reg.MODP_SLOT_CTRL_STS_CTRL k)

/-- Slot Control with Power Controller Control, bit 10, off or on. -/
def withPower (ctl : Nat) (off : Bool) : Nat := ctl % 1024 + (if off then 1024 else 0) + ctl / 2048 * 2048

/-- Slot Control with the two indicator fields, bits 7:6 and 9:8. -/
def withLamps (ctl attention power : Nat) : Nat := ctl % 64 + attention * 64 + power * 256 + ctl / 1024 * 1024

/-- `PWREN` follows Slot Control, but is 0 in EMPTY, LOST and POWER_FAULT. -/
def pwrenEval (s : State) (k : Nat) : State :=
  let st := s.svcState k
  s.modModule k (fun m => { m with pwren := st != 0 && st != 7 && st != 10 && s.slotCtrl k / 1024 % 2 == 0 })

/-- A service state entered: from LOST to POWER_FAULT `PERST_REL` falls and the attention indicator blinks. -/
def svcEnter (s : State) (k st : Nat) : State :=
  let s1 := s.setFld (Reg.MODP_STATUS_SVC k) st
  let fault := 7 ≤ st && st ≤ 10
  let s2 := if fault then s1.setFld (Reg.MODP_SLOT_CTRL_STS_CTRL k) (withLamps (s1.slotCtrl k) 2 (s1.slotCtrl k / 256 % 4)) else s1
  (if fault || st = 0 then s2.modModule k (fun m => { m with perstRel := false }) else s2).pwrenEval k

/-- Both rates of a link that is down. -/
def linkOff (s : State) (k : Nat) : State := (s.setFld (Reg.MODP_STATUS_RATE k) 0).setFld (Reg.MODP_STATUS_WIDTH k) 0

/-- Reads in flight on a module that ended without data. -/
def hostReads (l : List MqpCmd) : List Nat := (l.filterMap (fun c => match c.use with | .hostRead id _ => some id | _ => none)).dedup

/-- A module leaves service or never reaches it (R295, R323): its commands end, its members are lost, and the commands that waited on
it are drafted again. The fault itself has been marked. -/
def moduleGone (s : State) (k st : Nat) : State :=
  let ids := hostReads (s.module k).cmds
  let was := s.inServiceM k
  let s1 := (s.modModule k (fun m => { m with cmds := [], redo := none, tagsLeft := 0 })).svcEnter k st
  let s2 := if was then s1.blocksLost (fun m => m.1 == k) |>.restoreAreas else s1
  let s3 := { s2 with
    md.segs := s2.md.segs.map (fun (e : Nat × Seg) =>
      (e.1, { e.2 with erasing := e.2.erasing.filter (fun i => (e.2.members.getD i (64, 0, 0)).1 != k) })) }
  let idle := s3.md.segs.filter (fun e => e.2.erasing.isEmpty && !((tGet? s2.md.segs e.1).map (fun g => g.erasing.isEmpty)).getD true)
  let s4 := idle.foldl (fun t e => t.segFreed e.1 e.2) s3
  let gone := fun (b : Booking) => match b.res with | .die m _ | .moduleIn m | .moduleOut m => m == k | _ => false
  let s5 := if was then ids.foldl redraftOne (s4.redraft gone) else s4
  let s6 := match s5.own.move with
    | some m => { s5 with own.move := some { m with asked := m.asked.filter (fun x => x != k) } }.leaseEval
    | none => s5
  let s7 := s6.askedDone k
  if was then ((s7.swapFault.sendBudgets).mediaShow).dumpMedia else s7

/-- The loss of one module: a single fault when it was in service (R20, R162). -/
def moduleOut (s : State) (k st : Nat) : State := (if s.inServiceM k then s.faultMark else s).moduleGone k st

/-- A module is non-conforming (R326). -/
def nonConform (s : State) (k cause : Nat) : State :=
  if 3 ≤ s.svcState k && s.svcState k ≤ 5 then
    (s.moduleOut k 8).event 0x0702 (Reg.MODP_PAGE k) (argWord [(0, k), (1, cause)]) 0
  else s

/-- A port is lost (R323) in a fault that has been marked. -/
def portGone (s : State) (k : Nat) : State :=
  if 3 ≤ s.svcState k && s.svcState k ≤ 5 then
    ((s.bump (Reg.MODP_CNT k 5) 1).linkOff k).setBit (Reg.MODP_SLOT_CTRL_STS_DLL_CHANGED k) true |>.moduleGone k 7
  else s

/-- A port is lost (R323): a single fault when its module was in service. -/
def portLost (s : State) (k : Nat) : State := (if s.inServiceM k then s.faultMark else s).portGone k

/-- A slot is EMPTY: nothing of the module that was seated remains. An emptied one has left M by then (R357). -/
def slotEmpty (s : State) (k : Nat) : State :=
  let m := s.module k
  let s1 := if s.svcState k = 6 && s.chip.steps.contains 12 then s.memberCtl [] [k] else s
  let s2 := s1.setModule k { emptyModule with present := m.present, pwrGood := m.pwrGood, pwrFault := m.pwrFault
                                              seenPresent := m.seenPresent, seenGood := m.seenGood, seenFault := m.seenFault }
  ((s2.linkOff k).setReg (Reg.MODP_LEASE k) 0).svcEnter k 0

/-- POWERING is entered; power that is good already leads on to LINK. -/
def powerSlot (s : State) (k : Nat) : State :=
  let s1 := s.svcEnter k 1
  if (s1.module k).pwrGood then s1.svcEnter k 2 else s1

/-- Slot Control has been written (R310): Power Controller Control at 0 takes a seated module from EMPTY to POWERING; in every other service
state only `PWREN` follows it. -/
def slotCtlEval (s : State) (k : Nat) : State :=
  if (s.slotCtrl k) / 1024 % 2 = 0 && s.svcState k = 0 && (s.module k).present then s.powerSlot k else s.pwrenEval k

/-! ## The slot chain (R306 to R308) -/

/-- A filtered rise or fall of `PRESENT` (R309, R310). -/
def presenceSet (s : State) (k : Nat) (here : Bool) : State :=
  let s1 := (s.modModule k (fun m => { m with present := here })).setBit (Reg.MODP_SLOT_CTRL_STS_PRESENT k) here
  let s2 := s1.setBit (Reg.MODP_SLOT_CTRL_STS_PRESENT_CHANGED k) true
  if here then
    if s2.svcState k = 0 && s2.act (Reg.MODP_CFG_AUTO_POWER k) = 1 then
      (s2.setFld (Reg.MODP_SLOT_CTRL_STS_CTRL k) (withPower (s2.slotCtrl k) false)).powerSlot k
    else s2
  else if s2.svcState k = 0 then s2
  else ((if s2.inServiceM k then s2.portLost k else s2).slotEmpty k)

/-- A filtered change of `PWR_GOOD`. -/
def goodSet (s : State) (k : Nat) (good : Bool) : State :=
  let s1 := s.modModule k (fun m => { m with pwrGood := good })
  if good && s1.svcState k = 1 then s1.svcEnter k 2 else s1

/-- A filtered change of `PWR_FAULT`. -/
def faultSet (s : State) (k : Nat) (bad : Bool) : State :=
  let s1 := s.modModule k (fun m => { m with pwrFault := bad })
  if bad then s1.setBit (Reg.MODP_SLOT_CTRL_STS_POWER_FAULT k) true else s1

/-- Odd parity of an input byte. -/
def oddParity (b : BitVec 8) : Bool := popcount b.toNat % 2 == 1

/-- Frames that have shown a value other than the one in effect. -/
def seen (n : Nat) (now was : Bool) : Nat := if now = was then 0 else n + 1

/-- One slot's input byte: one whose parity fails is discarded and counted; a value takes effect in its third frame. -/
def slotIn (s : State) (k : Nat) (b : BitVec 8) : State :=
  if !oddParity b then
    (s.bumpFld Reg.SLOT_STATUS_PARITY_ERR 1).modModule k (fun m => { m with seenPresent := 0, seenGood := 0, seenFault := 0 })
  else
    let s1 := s.modModule k (fun m => { m with
      seenPresent := seen m.seenPresent (b.getLsbD 0) m.present
      seenGood := seen m.seenGood (b.getLsbD 2) m.pwrGood
      seenFault := seen m.seenFault (b.getLsbD 3) m.pwrFault })
    let m := s1.module k
    let s2 := if 3 ≤ m.seenPresent then (s1.modModule k (fun x => { x with seenPresent := 0 })).presenceSet k (b.getLsbD 0) else s1
    let s3 := if 3 ≤ m.seenGood then (s2.modModule k (fun x => { x with seenGood := 0 })).goodSet k (b.getLsbD 2) else s2
    if 3 ≤ m.seenFault then (s3.modModule k (fun x => { x with seenFault := 0 })).faultSet k (b.getLsbD 3) else s3

/-- An indicator's output bit: on, off, or blinking at 1 Hz. -/
def lampOn (s : State) (field : Nat) : Bool := field == 1 || (field == 2 && s.now / 500000000 % 2 == 0)

/-- A slot's output byte. -/
def slotOut (s : State) (k : Nat) : Nat :=
  let m := s.module k
  let c := s.slotCtrl k
  let b := m.pwren.toNat + 2 * m.perstRel.toNat + 4 * (s.lampOn (c / 64 % 4)).toNat + 8 * (s.lampOn (c / 256 % 4)).toNat
  b + (if popcount b % 2 = 0 then 128 else 0)

/-- The marker byte: three bad frames in a row put the chain in fault, three good ones clear it (R308). -/
def chainMark (s : State) (marker : BitVec 8) : State :=
  if marker = 0x5A then
    let s1 := { s with mo.badMarkers := 0, mo.goodMarkers := if s.bit Reg.SLOT_STATUS_CHAIN_FAULT then s.mo.goodMarkers + 1 else 0 }
    if 3 ≤ s1.mo.goodMarkers then { s1 with mo.goodMarkers := 0 }.setBit Reg.SLOT_STATUS_CHAIN_FAULT false else s1
  else
    let s1 := { s with mo.badMarkers := s.mo.badMarkers + 1, mo.goodMarkers := 0 }
    if 3 ≤ s1.mo.badMarkers && !s1.bit Reg.SLOT_STATUS_CHAIN_FAULT then
      (s1.setBit Reg.SLOT_STATUS_CHAIN_FAULT true).event 0x0701 Reg.SLOT_PAGE 0 0
    else s1

/-- One frame of the chain: in a chain fault no change of input is acted on, and no frame of it counts as one of three (R307, R308). -/
def chainFrame (s : State) (inputs : List (BitVec 8)) (marker : BitVec 8) : State :=
  if s.chip.cond = .reset || !s.chip.mainPwrOk then s
  else
    let s1 := s.chainMark marker
    let s2 := if s1.bit Reg.SLOT_STATUS_CHAIN_FAULT then
        (List.range 64).foldl (fun t k => t.modModule k (fun m => { m with seenPresent := 0, seenGood := 0, seenFault := 0 })) s1
      else (List.zip (List.range 64) inputs).foldl (fun t x => t.slotIn x.1 x.2) s1
    (List.range 64).foldl (fun t k => t.emit (.slotByte k (t.slotOut k))) s2

/-! ## Insertion (R325) -/

/-- Step 6: `GET_GEOMETRY`. -/
def geomAsk (s : State) (k : Nat) : State := s.mqpIssue k 0x20 0 0 0 0 0 0 .init

/-- This array's word 3 for a module. -/
def arrayWord (s : State) (k : Nat) : Word := BitVec.ofNat 64 (s.fld Reg.OWN_ARRAY_ARRAY_ID * 2 ^ 16 + k * 256 + 1)

/-- Step 7 begins: the claim, or a read while no array is named. -/
def claimAsk (s : State) (k : Nat) : State :=
  let v := if s.fld Reg.OWN_ARRAY_ARRAY_ID = 0 then 0 else s.arrayWord k
  s.mqpIssue k 0x40 0 0 0 0 v 3 .init

/-- Step 8 begins: word 0 is read. -/
def leaseAsk (s : State) (k : Nat) : State := s.mqpIssue k 0x40 0 0 0 0 0 0 .init

/-- Step 9 begins. -/
def stepNine (s : State) (k : Nat) : State :=
  let dies := (((s.module k).geom).map (fun g => g.dies)).getD 0
  let s1 := (List.range dies).foldl (fun t d => t.mqpIssue k 0x21 d 0 0 0 0 0 .init) s
  let slice := s1.act (Reg.LOOM_CARD1_DIE_SLICE s1.loomActive 8)
  let s2 := (s1.mqpIssue k 0x22 0 0 0 0 0 0 .init).mqpIssue k 0x31 0 0 0 (BitVec.ofNat 64 (1 + slice % 65536 * 65536)) 0 0 .init
  s2.mqpIssue k 0x30 0 0 0 (BitVec.ofNat 64 s2.budgetMw) 0 0 .init

/-- Good blocks of a module whose row 0 is read: those that no segment names as a lost member (R297). -/
def tagBlocks (s : State) (k : Nat) : List (Nat × Nat) :=
  match (s.module k).geom with
  | none => []
  | some g =>
    (List.range g.dies).flatMap (fun d => (List.range g.blocks).filterMap (fun b =>
      if (s.blkOf (blkKey k d b)).st = .bad then none
      else if s.md.segs.any (fun e => e.2.lost.any (fun i => e.2.members.getD i (64, 0, 0) == (k, d, b))) then none
      else some (d, b)))

/-- A module enters service. -/
def enterService (s : State) (k : Nat) : State :=
  let s1 := s.svcEnter k 4
  let s2 := if (s1.module k).claimed && s1.chip.steps.contains 12 then s1.memberCtl [k] [] else s1
  (((s2.sendBudgets).indexCheck).stripeEval).mediaShow.armShow

/-- Row 0 of the next blocks is read, at most 256 commands at a time; after the last the module is in service. -/
def tagIssue : Nat → Nat → State → State
  | _, 0, s => s
  | k, n + 1, s =>
    let m := s.module k
    if m.tagsLeft = 0 then s
    else
      match (s.tagBlocks k).drop ((s.tagBlocks k).length - m.tagsLeft) with
      | [] => s
      | x :: _ => tagIssue k n ((s.mqpIssue k 0x02 x.1 x.2 0 0 0 0 .tag).modModule k (fun y => { y with tagsLeft := y.tagsLeft - 1 }))

/-- Step 10 begins. -/
def stepTen (s : State) (k : Nat) : State :=
  let n := (s.tagBlocks k).length
  if n = 0 then s.enterService k else tagIssue k 256 (s.modModule k (fun m => { m with tagsLeft := n }))

/-- Step 9 is over once every die's defects, the health page, the policy and the budget are done. -/
def nineEval (s : State) (k : Nat) : State :=
  let m := s.module k
  let dies := (m.geom.map (fun g => g.dies)).getD 0
  if s.svcState k = 3 && dies ≤ m.defects.length && m.health && m.suspend && m.budget && m.tagsLeft = 0
      && m.cmds.all (fun c => c.use != .tag) then s.stepTen k
  else s

/-- Step 7 is over: the module names this array, or is left unclaimed while no array exists. -/
def claimed (s : State) (k : Nat) (yes : Bool) : State :=
  let s1 := s.modModule k (fun m => { m with claimed := yes })
  if yes then s1.leaseAsk k else s1.stepNine k

/-- A module that named slot `m` of this array now names `k` (R325 step 7): `m` leaves M unless slot `m` holds a module of that name. -/
def memberMove (s : State) (k m : Nat) : State :=
  let keep := s.inServiceM m && bitsOf (s.module m).array 8 8 == m && (s.module m).claimed
  if s.chip.steps.contains 12 then s.memberCtl [k] (if keep || m = k then [] else [m]) else s

/-- What word 3 is found to hold decides step 7. -/
def wordThree (s : State) (k : Nat) (prior : Word) : State :=
  let id := bitsOf prior 16 48
  let m := bitsOf prior 8 8
  let s0 := s.modModule k (fun x => { x with array := prior })
  if prior = 0 then (if s0.fld Reg.OWN_ARRAY_ARRAY_ID = 0 then s0.claimed k false else s0.claimAsk k)
  else
    let s1 := if s0.fld Reg.OWN_ARRAY_ARRAY_ID = 0 then s0.setFld Reg.OWN_ARRAY_ARRAY_ID id else s0
    if id = s1.fld Reg.OWN_ARRAY_ARRAY_ID then
      if m = k then s1.claimed k true else s1.mqpIssue k 0x40 0 0 0 prior (s1.arrayWord k) 3 .init
    else if s1.act (Reg.MODP_CFG_ADOPT k) = 1 then s1.mqpIssue k 0x40 0 0 0 prior (s1.arrayWord k) 3 .init
    else s1.moduleOut k 9

/-- The answer of a swap on word 3. -/
def arrayAnswer (s : State) (k : Nat) (c : MqpCmd) (ok : Bool) (prior : Word) : State :=
  if ok && c.arg1 != 0 then
    let s1 := s.modModule k (fun x => { x with array := c.arg1 })
    let s2 := if c.arg0 != 0 && bitsOf c.arg0 16 48 = s.fld Reg.OWN_ARRAY_ARRAY_ID then s1.memberMove k (bitsOf c.arg0 8 8) else s1
    s2.claimed k true
  else if ok then s.wordThree k 0
  else s.wordThree k prior

/-- `STATE` and `HOLDER` that the other modules hold, and the value that brings a module to them (R356, R358). -/
def leaseTarget (s : State) (k : Nat) : Option Word :=
  match s.modulesIn.filter (fun x => x != k) with
  | [] => none
  | x :: _ =>
    let w := s.reg (Reg.MODP_LEASE x)
    some (leaseWord (leaseState w) (leaseHolder w) s.own.epoch)

/-- Whether this head makes the move of step 8: head 0 while paired, the serving head while solo. -/
def leaseMover (s : State) : Bool := (s.role == 2 && s.headIndex == 0) || s.role == 3

/-- The answer of a swap on word 0 in step 8. -/
def leaseAnswer (s : State) (k : Nat) (c : MqpCmd) (ok : Bool) (prior : Word) : State :=
  let v := if ok then c.arg1 else prior
  let s1 := { s with own.epoch := max s.own.epoch (leaseEpoch v) }.setReg (Reg.MODP_LEASE k) v
  let done := fun (t : State) => t.stepNine k
  match s1.leaseTarget k with
  | some w =>
    if s1.leaseMover && (leaseState v != leaseState w || leaseHolder v != leaseHolder w) && c.arg0 != v && leaseEpoch v < leaseEpoch w then
      s1.mqpIssue k 0x40 0 0 0 v w 0 .init
    else done s1
  | none => done s1

/-- A segment that a row-0 tag names at boot and no table holds (R269): CLOSED early, with the tag's width, rows and sequence. -/
def tagSegment (s : State) (k d b : Nat) (t : TagInfo) : State :=
  match s.seg? t.segment with
  | some g =>
    if g.seq < t.segSeq then
      let old := g.members.foldl (fun u m => u.setBlkOf (blkKey m.1 m.2.1 m.2.2) { u.blkOf (blkKey m.1 m.2.1 m.2.2) with st := .dirty }) s
      (old.setSeg t.segment { g with seq := t.segSeq, type := t.type, width := t.width, rows := t.rows
                                     members := (List.replicate t.width (64, 0, 0)).set t.member (k, d, b), row := none, dir := []
                                     st := if 6 ≤ t.type then .reserved else .closed, early := true, live := 0, lost := [] })
    else s.setSeg t.segment { g with members := g.members.set t.member (k, d, b) }
  | none =>
    let g : Seg :=
      { type := t.type, st := if 6 ≤ t.type then .reserved else .closed, width := t.width, rows := t.rows, seq := t.segSeq,
        members := (List.replicate t.width (64, 0, 0)).set t.member (k, d, b), nextRow := if t.type = 7 then 1 else t.rows,
        durable := if t.type = 7 then 1 else t.rows, closedAt := s.now,
        early := true, live := 0, dir := [], row := none, lost := [], degradedSeen := false, criticalSeen := false, clear := false,
        erasing := [], area := 0 }
    s.setSeg t.segment g

/-- What a row-0 tag makes of its block: at boot it rebuilds the tables (R269), at an insertion only an erased unit counts (R325). -/
def tagResult (s : State) (k d b : Nat) (erased : Bool) (tag : Option TagInfo) : State :=
  let key := blkKey k d b
  let blk := s.blkOf key
  if erased then s.setBlkOf key { blk with st := .erased, seg := 0 }
  else
    match tag with
    | some t =>
      let stale := match s.seg? t.segment with | some g => decide (t.segSeq < g.seq) | none => false
      if s.chip.steps.contains 12 || stale then s.setBlkOf key { blk with st := .dirty, seg := 0 }
      else (s.tagSegment k d b t).setBlkOf key { blk with st := if 6 ≤ t.type then .reserved else .inSegment, seg := t.segment }
    | none => s.setBlkOf key { blk with st := .dirty, seg := 0 }

/-- A further row of a ROOT segment is read at boot (R269), each after the one before it, up to the last row that holds a root. -/
def rootRow (s : State) (k : Nat) (c : MqpCmd) (tag : Option TagInfo) : State :=
  match tag with
  | some t =>
    if t.type != 7 || s.chip.steps.contains 12 then s
    else
      let s1 := s.modSeg t.segment (fun g => if g.type = 7 && g.seq = t.segSeq then
        { g with nextRow := max g.nextRow (c.unit + 1), durable := max g.durable (c.unit + 1) } else g)
      if c.unit + 1 < t.rows then s1.mqpIssue k 0x02 c.die c.block (c.unit + 1) 0 0 0 .tag else s1
  | none => s

/-- A READ_TAG has ended: at boot row 0 decides its block, and rows of ROOT segments are read on; in collection a tag that does not check is a
check failure of its unit (R288). -/
def tagDone (s : State) (k : Nat) (c : MqpCmd) (erased : Bool) (tag : Option TagInfo) : State :=
  match c.use with
  | .collect seg m => if tag.isNone && !erased then (s.suspectAdd seg m c.unit).relocate seg m 1000 none else s
  | .tag => (if c.unit = 0 then s.tagResult k c.die c.block erased tag else s).rootRow k c tag
  | _ => s

/-- Step 10 goes on: the next reads, or service. -/
def tagNext (s : State) (k : Nat) : State :=
  if s.svcState k != 3 then s
  else
    let s1 := tagIssue k 1 s
    if (s1.module k).tagsLeft = 0 && (s1.module k).cmds.all (fun c => c.use != .tag) then s1.enterService k else s1

/-! ## Completions (R317 to R320) -/

/-- Statuses of R318. -/
def knownStatus (n : Nat) : Bool :=
  n ≤ 6 || n == 0x10 || n == 0x11 || n == 0x12 || n == 0x13 || n == 0x20 || n == 0x21 || n == 0x30 || n == 0x31

/-- A completion meets its command: an unknown `CID` or a reserved status makes the module non-conforming; a command that had timed out
has ended already. -/
def withCmd (s : State) (done : MqpDone) (f : MqpCmd → State → State) : State :=
  let k := done.port.val
  if s.svcState k < 3 || 5 < s.svcState k then s
  else
    match (s.module k).cmds.find? (fun c => c.queue == done.queue.val && c.cid == done.cid.toNat) with
    | none => s.nonConform k 3
    | some c =>
      if !knownStatus done.status.toNat then s.nonConform k 3
      else
        let s1 := (s.modModule k (fun m => { m with cmds := m.cmds.filter (fun x => x != c) })).mqpNext k
        if c.op = 0 then s1 else f c s1

/-- A media operation's measured duration against the module's maximum, both in 0.1 µs: 16 overruns in 1 s are non-conforming. -/
def overrun (s : State) (k duration limit : Nat) : State :=
  if duration ≤ limit then s
  else
    let s1 := (s.bump (Reg.MODP_CNT k 4) 1).modModule k (fun m => { m with
      overruns := m.overruns.filter (fun t => decide (s.now ≤ t + 1000000000)) ++ [s.now] })
    if 16 ≤ (s1.module k).overruns.length then s1.nonConform k 5 else s1

/-- The member a command addresses. -/
def memberAt (s : State) (k : Nat) (c : MqpCmd) (m : Nat) : List (Nat × Nat) :=
  (s.md.segs.filter (fun e => e.2.members.getD m (64, 0, 0) == (k, c.die, c.block))).map (fun e => (e.1, m))

/-- A host read's member has failed: each grain of its stripe read is reconstructed (R291). -/
def readFailed (s : State) (k : Nat) (c : MqpCmd) : State :=
  match c.use with
  | .hostRead id _ =>
    match s.cmd? id with
    | none => s
    | some h =>
      match h.plan.find? (fun p => p.row == c.unit && p.members.contains c.arg2
          && ((s.seg? p.seg).map (fun g => g.members.getD c.arg2 (64, 0, 0) == (k, c.die, c.block))).getD false) with
      | none => s
      | some p =>
        let s1 := if isRebuild p then (s.suspectAdd p.seg c.arg2 p.row).relocate p.seg c.arg2 1000 none else s
        p.grains.foldl (fun t g =>
          match t.cmd? id with
          | none => t
          | some x =>
            match t.grainSource x.volume g with
            | .stripe ch e => t.reconstruct id g ch x e
            | _ => t) s1
  | .collect seg m => if c.op = 0x01 then (s.suspectAdd seg m c.unit).relocate seg m 1000 none else s
  | _ => s

/-- A read whose stripe read rebuilt members and has them all counts what it rebuilt (R291). -/
def readGood (s : State) (c : MqpCmd) : State :=
  match c.use with
  | .hostRead id _ =>
    match s.cmd? id with
    | some h =>
      match h.plan.find? (fun p => p.row == c.unit && isRebuild p && s.readsIn id p) with
      | some p =>
        let w := ((s.seg? p.seg).map (fun g => g.width)).getD 2
        (match rebuildCard (w - 2) ((List.range w).filter (fun m => !p.members.contains m)) with
          | 1 => s.bump (Reg.SEGW_CNT 1) 1
          | 2 => s.bump (Reg.SEGW_CNT 2) 1
          | _ => s)
      | none => s
    | none => s
  | _ => s

/-- A read has ended. -/
def readDone (s : State) (done : MqpDone) (duration : Nat) : State :=
  s.withCmd done (fun c t =>
    let k := done.port.val
    let lim := (((t.module k).geom).map (fun g => g.maxRead)).getD 0
    if done.status = 0 then
      let t1 := (t.memberAt k c c.arg2).foldl (fun u x => u.readMarginal x.1 x.2 done.corrected.toNat done.retry.toNat) t
      (t1.readGood c).overrun k duration lim
    else
      let t1 := if done.status = 0x10 then t.bump (Reg.MODP_CNT k 7) 1 else if done.status = 0x30 then t.bump (Reg.MODP_CNT k 6) 1 else t
      (t1.readFailed k c).overrun k duration lim)

/-- A block is retired (R275). -/
def retireBlock (s : State) (k d b : Nat) : State :=
  let key := blkKey k d b
  (s.setBlkOf key { s.blkOf key with st := .bad }).event 0x0502 (Reg.MEDIA_PAGE s.mediaActive) (argWord [(0, k), (1, d), (2, b)]) 0

/-- A `FENCED` completion: this head fences itself, unless it moves the lease or has won it and the module has still to be moved (R359, R360). -/
def fencedBy (s : State) (k : Nat) : State :=
  let w := s.reg (Reg.MODP_LEASE k)
  if (s.role = 3 || s.own.move.isSome) && !(leaseState w == 2 && leaseHolder w == s.myPort) then s else s.fenceSelf

/-- A unit's program has ended: the row is durable when every member's has; a failure ends the row and closes the segment early. -/
def programEnd (s : State) (k : Nat) (c : MqpCmd) (ok retire : Bool) : State :=
  match c.use with
  | .program seg row m =>
    let s1 := if retire then ((s.retireBlock k c.die c.block).bump (Reg.MODP_CNT k 8) 1).mediaCnt 8 1 else s
    match s1.seg? seg with
    | none => s1
    | some g =>
      match g.row with
      | none => s1
      | some r =>
        match r.st with
        | .filling => s1
        | .program left failed =>
          if g.nextRow != row + 1 then s1
          else if g.type = 6 then (s1.vaultDone seg m ok).dumpMedia
          else if !ok && g.type = 7 then s1.rootFail seg
          else if !ok then (s1.rowFail seg).settle
          else
            let rest := left.filter (fun x => x != m)
            let s2 := s1.setSeg seg { g with row := some { r with st := .program rest failed } }
            if rest.isEmpty then s2.rowMade seg else s2
  | _ => s

/-- PROGRAM_UNIT's completion. -/
def programDone (s : State) (done : MqpDone) (duration : Nat) : State :=
  s.withCmd done (fun c t =>
    let k := done.port.val
    let lim := (((t.module k).geom).map (fun g => g.maxProgram)).getD 0
    match done.status.toNat with
    | 0 => (t.programEnd k c true false).overrun k duration lim
    | 0x20 => ((t.bump (Reg.MODP_CNT k 2) 1).programEnd k c false false).fencedBy k
    | 0x30 => (t.bump (Reg.MODP_CNT k 6) 1).programEnd k c false false
    | 0x31 => t.programEnd k c false false
    | _ => (t.programEnd k c false true).overrun k duration lim)

/-- A block's erase has ended. -/
def eraseEnd (s : State) (k : Nat) (c : MqpCmd) (ok : Bool) : State :=
  let key := blkKey k c.die c.block
  let b := s.blkOf key
  let s1 := if ok then (s.setBlkOf key { b with st := if b.st = .reserved then .reserved else .erased, erases := min 65535 (b.erases + 1) }).mediaCnt 7 1
    else ((s.retireBlock k c.die c.block).bump (Reg.MODP_CNT k 9) 1).mediaCnt 9 1
  match c.use with
  | .erase seg m =>
    match s1.seg? seg with
    | none => s1
    | some g =>
      let g1 := { g with erasing := g.erasing.filter (fun x => x != m) }
      let s2 := s1.setSeg seg g1
      if g1.erasing.isEmpty && !g.erasing.isEmpty then (s2.segFreed seg g1).serveEval else s2
  | _ => s1

/-- ERASE_BLOCK's completion; one that did not run leaves its block as it was, and a boundary books and issues it again (R275). -/
def eraseDone (s : State) (done : MqpDone) (duration : Nat) : State :=
  s.withCmd done (fun c t =>
    let k := done.port.val
    let lim := (((t.module k).geom).map (fun g => g.maxErase)).getD 0
    match done.status.toNat with
    | 0 => (t.eraseEnd k c true).overrun k duration lim
    | 0x20 => (t.bump (Reg.MODP_CNT k 2) 1).fencedBy k
    | 0x30 => t.bump (Reg.MODP_CNT k 6) 1
    | 0x31 => t
    | _ => (t.eraseEnd k c false).overrun k duration lim)

/-- Whether a geometry is one that R259 and R326 admit; else the cause. -/
def geomBad (g : Geometry) : Option Nat :=
  if g.major != 1 then some 1
  else if !g.crcOk || g.pageKib != 16 || g.unitKib != 64 || g.tagBytes != 8192 || g.dies = 0 || 64 < g.dies || g.units < 64 || 4096 < g.units then
    some 2
  else none

/-- `GET_GEOMETRY` has ended without a page: it is issued once more (R325 step 6). -/
def geomFailed (s : State) (k : Nat) : State :=
  let s1 := s.modModule k (fun m => { m with geomTries := m.geomTries + 1 })
  if 2 ≤ (s1.module k).geomTries then s1.nonConform k 8 else s1.geomAsk k

/-- GET_GEOMETRY's completion. -/
def geomDone (s : State) (done : MqpDone) (g : Geometry) : State :=
  s.withCmd done (fun _ t =>
    let k := done.port.val
    if done.status != 0 then t.geomFailed k
    else
      match geomBad g with
      | some cause => t.nonConform k cause
      | none =>
        let t1 := t.modModule k (fun m => { m with geom := some g })
        ((t1.setFld (Reg.MODP_STATUS_DIES k) g.dies).setFld (Reg.MODP_STATUS_PORT_ID k) (g.portId % 2)).claimAsk k)

/-- GET_DEFECTS's completion: the blocks named are BAD. -/
def defectsDone (s : State) (done : MqpDone) (bad : List (BitVec 16)) : State :=
  s.withCmd done (fun c t =>
    let k := done.port.val
    if done.status != 0 then t
    else
      let t1 := bad.foldl (fun u b => let key := blkKey k c.die b.toNat; u.setBlkOf key { u.blkOf key with st := .bad }) t
      (t1.modModule k (fun m => { m with defects := if m.defects.contains c.die then m.defects else m.defects ++ [c.die] })).nineEval k)

/-- GET_HEALTH's completion: the members on a die newly reported failed are lost (R295). -/
def healthDone (s : State) (done : MqpDone) (h : Health) : State :=
  s.withCmd done (fun _ t =>
    let k := done.port.val
    if done.status != 0 || !h.crcOk then t
    else
      let old := (t.module k).failedDies
      let t1 := t.modModule k (fun m => { m with health := true, failedDies := h.failedDies, temp := h.temp, wear := h.wear })
      let lost := (List.range 64).any (fun d => h.failedDies.getLsbD d && !old.getLsbD d)
      let t2 := if t1.inServiceM k && lost then
          (t1.faultMark.blocksLost (fun m => m.1 == k && h.failedDies.getLsbD m.2.1 && !old.getLsbD m.2.1)).restoreAreas
        else t1
      t2.nineEval k)

/-- The command that creates the array completes once every claim has been answered (R507). -/
def claimEval (s : State) : State :=
  match s.own.arrayTag with
  | some tag =>
    if (List.range 64).any (fun k => (s.module k).cmds.any (fun c => c.use == .claim)
      || ((s.module k).redo.map (fun c => c.use == .claim)).getD false) then s
    else { s with own.arrayTag := none }.ctlFinish tag .ok 0 0
  | none => s

/-- A module in service answers its claim as in step 7 of R325: it is this array's, or FOREIGN. -/
def claimAnswer7 (s : State) (k : Nat) (c : MqpCmd) (ok : Bool) (prior : Word) : State :=
  let s1 := s.modModule k (fun m => { m with array := if ok then c.arg1 else prior })
  (if ok || prior = c.arg1 then
    let s2 := s1.modModule k (fun m => { m with claimed := true })
    (if s2.chip.steps.contains 12 then s2.memberCtl [k] [] else s2).mediaShow
  else s1.moduleOut k 9).claimEval

/-- ARB_CAS's answer, to the step that waits for it. -/
def casAnswer (s : State) (k : Nat) (c : MqpCmd) (ok : Bool) (prior : Word) : State :=
  match c.use with
  | .init => if s.svcState k != 3 then s else if c.arg2 = 3 then s.arrayAnswer k c ok prior else s.leaseAnswer k c ok prior
  | .claim => s.claimAnswer7 k c ok prior
  | _ => s.leaseWordAnswer k c (some (ok, prior))

/-- ARB_CAS's completion. -/
def casDone (s : State) (done : MqpDone) (prior : Word) : State :=
  s.withCmd done (fun c t =>
    let k := done.port.val
    let t1 := if done.status = 0x21 then t.bump (Reg.MODP_CNT k 3) 1 else t
    t1.casAnswer k c (done.status == 0) prior)

/-- A command that times out (R320): counted; the third in 1 s takes the port to LOST; else it ends as its kind fails. -/
def timeout (s : State) (k q cid : Nat) : State :=
  if s.svcState k < 3 || 5 < s.svcState k then s
  else
    match (s.module k).cmds.find? (fun c => c.queue == q && c.cid == cid && c.op != 0) with
    | none => s
    | some c =>
      let s1 := (s.bump (Reg.MODP_CNT k 1) 1).modModule k (fun m => { m with
        cmds := m.cmds.map (fun x => if x = c then { x with op := 0, use := .lease } else x)
        timeouts := m.timeouts.filter (fun t => decide (s.now ≤ t + 1000000000)) ++ [s.now] })
      if 3 ≤ (s1.module k).timeouts.length then s1.portLost k
      else
        match c.op with
        | 0x01 => s1.readFailed k c
        | 0x02 => (s1.tagDone k c false none).tagNext k
        | 0x10 => s1.programEnd k c false true
        | 0x11 => s1.eraseEnd k c false
        | 0x20 => s1.geomFailed k
        | 0x40 =>
          match c.use with
          | .init | .claim => s1.modModule k (fun m => { m with redo := some c })
          | _ => s1.leaseWordAnswer k c none
        | _ => s1

/-! ## Commits of MODP.CFG (R310, R324) -/

/-- The module whose page tag patrol finds bad in a segment that this head has programmed (R326). -/
def badTagOf (s : State) (r : PatrolRead) : Option Nat :=
  if r.tagOk || !s.serving then none
  else
    match (if s.fld (Reg.MEDIA_PATROL_STATUS_PASS 0) = 0 then s.passBegin else s).patrolNext with
    | some (id, _, m) =>
      if id % 2 = s.headIndex % 2 then (s.seg? id).map (fun g => (g.members.getD m (64, 0, 0)).1) else none
    | none => none

/-- `EVACUATE` = 1 committed (R310, R324): no segment is opened on the module from here on, and its open ones close early; every segment with a
member on it is collected with the DEGRADED ones, in rank 4. -/
def evacuate (s : State) (k : Nat) : State :=
  if s.svcState k = 4 && s.act (Reg.MODP_CFG_EVACUATE k) = 1 then
    let on := fun (g : Seg) => g.members.any (fun m => m.1 == k)
    let s1 := s.svcEnter k 5
    (s1.md.segs.filter (fun e => e.2.st == .opened && s1.ownSeg e.1 && on e.2)).foldl (fun t e => t.rowFail e.1) s1
  else s

/-- `ADOPT` = 1 committed: a FOREIGN module is initialised again. -/
def adoptModule (s : State) (k : Nat) : State :=
  if s.svcState k = 9 && s.act (Reg.MODP_CFG_ADOPT k) = 1 then
    (s.modModule k (fun m => { m with perstRel := true, geom := none, geomTries := 0, defects := [], health := false,
                                      suspend := false, budget := false, claimed := false, tagsLeft := 0 })).svcEnter k 3
  else s

end State

open State

/-- SLOT_CHAIN_FRAME (R306 to R308). -/
def execSlotChainFrame (inputs : List (BitVec 8)) (marker : BitVec 8) (s : State) : Out := .next (s.chainFrame inputs marker)

/-- ATTENTION_BUTTON (R307, R309): pressed for 20 ms. -/
def execAttentionButton (slot : Fin 64) (s : State) : Out :=
  .next (if s.bit Reg.SLOT_STATUS_CHAIN_FAULT then s else s.setBit (Reg.MODP_SLOT_CTRL_STS_ATTN_PRESSED slot.val) true)

/-- POWER_CONTROLLER_CONTROL (R309, R310). -/
def execPowerControllerControl (port : Fin 64) (off : Bool) (s : State) : Out :=
  .next (s.barWrite (Reg.MODP_SLOT_CTRL_STS port.val) (fun t =>
    let t1 := t.setFld (Reg.MODP_SLOT_CTRL_STS_CTRL port.val) (withPower (t.slotCtrl port.val) off)
    if !off && t1.svcState port.val = 0 && (t1.module port.val).present then t1.powerSlot port.val else t1.pwrenEval port.val))

/-- INDICATOR_CONTROL (R309). -/
def execIndicatorControl (port : Fin 64) (attention power : BitVec 2) (s : State) : Out :=
  .next (s.barWrite (Reg.MODP_SLOT_CTRL_STS port.val) (fun t =>
    t.setFld (Reg.MODP_SLOT_CTRL_STS_CTRL port.val) (withLamps (t.slotCtrl port.val) attention.toNat power.toNat)))

/-- POWERING_TIMEOUT (R309, R310): 100 ms after `PWREN` rose, or after entry to POWERING; without `PWR_GOOD` the slot shows a power fault, and
POWERING ends in POWER_FAULT. -/
def execPoweringTimeout (port : Fin 64) (s : State) : Out :=
  .next (
    let m := s.module port.val
    let s1 := if m.pwren && !m.pwrGood then s.setBit (Reg.MODP_SLOT_CTRL_STS_POWER_FAULT port.val) true else s
    if s.svcState port.val = 1 then s1.svcEnter port.val 10 else s1)

/-- PERST_RELEASE_DELAY (R310): at boot no slot's PERST# is released before step 10 of R59. -/
def execPerstReleaseDelay (port : Fin 64) (s : State) : Out :=
  .next (
    if s.svcState port.val = 2 && s.chip.steps.contains 8 then s.modModule port.val (fun m => { m with perstRel := true }) else s)

/-- MODULE_LINK_TRAINED (R305, R310): a link in non-flit mode is taken down. -/
def execModuleLinkTrained (port : Fin 64) (rate64 wide flit : Bool) (s : State) : Out :=
  let k := port.val
  let up := fun (t : State) =>
    (t.setFld (Reg.MODP_STATUS_RATE k) (if rate64 then 6 else 5)).setFld (Reg.MODP_STATUS_WIDTH k) (if wide then 2 else 1)
  .next (
    if s.svcState k = 2 && (s.module k).perstRel && flit then
      ((up s).setBit (Reg.MODP_SLOT_CTRL_STS_DLL_CHANGED k) true).svcEnter k 3
    else if s.inServiceM k then (if flit then up s else s.portLost k)
    else s)

/-- MODULE_LINK_TIMEOUT (R310): three tries. -/
def execModuleLinkTimeout (port : Fin 64) (s : State) : Out :=
  let k := port.val
  .next (
    if s.svcState k = 2 && (s.module k).perstRel then
      let s1 := s.modModule k (fun m => { m with linkTries := m.linkTries + 1 })
      if 3 ≤ (s1.module k).linkTries then s1.svcEnter k 10 else s1
    else s)

/-- MQP_READY (R325 step 5). -/
def execMqpReady (port : Fin 64) (s : State) : Out :=
  .next (if s.svcState port.val = 3 && (s.module port.val).geom.isNone then s.geomAsk port.val else s)

/-- MODULE_INIT_TIMEOUT (R310, R326). -/
def execModuleInitTimeout (port : Fin 64) (s : State) : Out := .next (if s.svcState port.val = 3 then s.nonConform port.val 9 else s)

/-- MODULE_EVACUATED (R310, R324, R357). -/
def execModuleEvacuated (port : Fin 64) (s : State) : Out :=
  let k := port.val
  .next (
    if s.svcState k = 5 && !s.md.segs.any (fun e => s.ownSeg e.1 && e.2.members.any (fun m => m.1 == k)) then
      let s1 := (s.svcEnter k 6).sendBudgets
      if s1.role = 3 then s1.memberCtl [] [k] else s1
    else s)

/-- MODULE_PORT_LOSS (R323): a fall of PRESENT takes a module that is being initialised to EMPTY instead (R310). -/
def execModulePortLoss (port : Fin 64) (cause : PortLoss) (s : State) : Out :=
  .next (if cause = .absent && s.svcState port.val = 3 then s.slotEmpty port.val else s.portLost port.val)

/-- READ_UNIT_COMPLETE (R276, R291). -/
def execReadUnitComplete (done : MqpDone) (duration : Nat) (s : State) : Out := .next (s.readDone done duration)

/-- READ_TAG_COMPLETE (R269, R325 step 10). -/
def execReadTagComplete (done : MqpDone) (duration : Nat) (tag : Option TagInfo) (s : State) : Out :=
  .next (s.withCmd done (fun c t =>
    let k := done.port.val
    ((t.tagDone k c (done.status == 6) (if done.status = 0 then tag else none)).overrun k duration
      ((((t.module k).geom).map (fun g => g.maxRead)).getD 0)).tagNext k))

/-- PATROL_UNIT (R277): a tag of a unit that this head programmed must hold (R326). -/
def execPatrolUnit (result : PatrolRead) (s : State) : Out :=
  .next (match s.badTagOf result with | some k => (s.patrol result).nonConform k 6 | none => s.patrol result)

/-- PROGRAM_UNIT_COMPLETE (R189, R275). -/
def execProgramUnitComplete (done : MqpDone) (duration : Nat) (s : State) : Out := .next (s.programDone done duration)

/-- ERASE_BLOCK_COMPLETE (R274, R275). -/
def execEraseBlockComplete (done : MqpDone) (duration : Nat) (s : State) : Out := .next (s.eraseDone done duration)

/-- GET_GEOMETRY_COMPLETE (R325 step 6, R326). -/
def execGetGeometryComplete (done : MqpDone) (geometry : Geometry) (s : State) : Out := .next (s.geomDone done geometry)

/-- GET_DEFECTS_COMPLETE (R325 step 9). -/
def execGetDefectsComplete (done : MqpDone) (bad : List (BitVec 16)) (s : State) : Out := .next (s.defectsDone done bad)

/-- GET_HEALTH_COMPLETE (R325 step 9, R295). -/
def execGetHealthComplete (done : MqpDone) (health : Health) (s : State) : Out := .next (s.healthDone done health)

/-- SET_POWER_BUDGET_COMPLETE (R322, R325 step 9). -/
def execSetPowerBudgetComplete (done : MqpDone) (s : State) : Out :=
  .next (s.withCmd done (fun _ t =>
    if done.status = 0 then (t.modModule done.port.val (fun m => { m with budget := true })).nineEval done.port.val else t))

/-- SUSPEND_POLICY_COMPLETE (R319, R325 step 9). -/
def execSuspendPolicyComplete (done : MqpDone) (s : State) : Out :=
  .next (s.withCmd done (fun _ t =>
    if done.status = 0 then (t.modModule done.port.val (fun m => { m with suspend := true })).nineEval done.port.val else t))

/-- ARB_CAS_COMPLETE (R321, R325, R357 to R361). -/
def execArbCasComplete (done : MqpDone) (prior : Word) (s : State) : Out := .next (s.casDone done prior)

/-- MQP_COMMAND_TIMEOUT (R320). -/
def execMqpCommandTimeout (port : Fin 64) (queue : Fin 16) (cid : BitVec 16) (s : State) : Out :=
  .next (s.timeout port.val queue.val cid.toNat)

/-- LATE_READ (R320): a check failure of the member for the command; the MQP command runs on. -/
def execLateRead (port : Fin 64) (queue : Fin 16) (cid : BitVec 16) (s : State) : Out :=
  let k := port.val
  .next (
    match (s.module k).cmds.find? (fun c => c.queue == queue.val && c.cid == cid.toNat && c.op == 0x01) with
    | some c =>
      let s1 := (s.bump (Reg.MODP_CNT k 10) 1).modModule k (fun m => { m with
        cmds := m.cmds.map (fun x => if x = c then { x with use := .lease } else x) })
      s1.readFailed k c
    | none => s)

/-- ARB_CAS_REISSUE (R325): 1 ms after its timeout. -/
def execArbCasReissue (port : Fin 64) (s : State) : Out :=
  let k := port.val
  .next (
    match (s.module k).redo with
    | some c =>
      if s.svcState k = 3 || c.use == .claim && s.inServiceM k then
        (s.modModule k (fun m => { m with redo := none })).mqpIssue k 0x40 0 0 0 c.arg0 c.arg1 c.arg2 c.use
      else s
    | none => s)

/-- PARITY_ENGINE_FAULT (R287): with no engine left the head stops serving. -/
def execParityEngineFault (engine : Fin 4) (s : State) : Out :=
  let mask := s.fld Reg.SEGW_ENGINES_ACTIVE
  .next (
    if mask / 2 ^ engine.val % 2 = 0 then s
    else
      let s1 := (s.setFld Reg.SEGW_ENGINES_ACTIVE (mask - 2 ^ engine.val)).event 0x0605 Reg.SEGW_PAGE (argWord [(0, engine.val)]) 0
      let s2 := (s1.faultMark.redraft (fun b => b.res == .parity engine.val)).swapFault
      if mask = 2 ^ engine.val then
        { s2.dropHosts with
          chip.cond := if s2.chip.cond = Cond.serving then Cond.booting else s2.chip.cond
          chip.hbOut := false }.setBit Reg.DIKOR_STATUS_HB_OUT_ON false
      else s2)

end Sys2Proof.Machine
end

