-- ==== Sys2Proof/Machine/Sanitize.lean ====
section
/-!
DEFINITION. Sys2Proof/Machine/Sanitize.lean: the sequence of a Sanitize at both heads (R120, R121), the end of a Format NVM (R124),
and the exchange of key check values (R397).
-/

namespace Sys2Proof.Machine

namespace State

/-! ## The sequence (R120, R121) -/

/-- `SPROG` at the end of a phase. -/
def sprogAt (phase : Nat) : Nat :=
  match phase with | 2 => 2048 | 3 => 4096 | _ => 0

/-- A phase begins at the configuration head: its record, the START message, and this head's work. -/
def sanPhase (s : State) (t phase : Nat) : State :=
  let s1 := s.modSan t (fun y => { y with phase := phase, otherDone := false, prog := max y.prog (sprogAt (phase - 1)) })
  match s1.tenant? t with
  | none => s1
  | some x =>
    let s2 := s1.journalCtl [sanCtl t x.san]
    let s3 := if s2.paired then s2.sendMsg 0x020B [t, phase, 1, x.san.done, (s2.reg Reg.SELV_OWN_NEXT_SEQ).toNat - 1] else s2
    s3.sanWork t phase

/-- A tenant that is being deleted goes once its Sanitize has completed (R507). -/
def tenantGone (s : State) (t : Nat) : State :=
  match s.tenant? t with
  | none => s
  | some x =>
    match x.deleting with
    | none => s
    | some tag => ((s.dropSubsystem t).journalCtl [⟨0x13, [2, t]⟩]).ctlFinish tag .ok 0 0

/-- The sequence is complete: phase 5. -/
def sanComplete (s : State) (t : Nat) : State :=
  let s1 := s.modTenant t (fun y => { y with
    quiesced := false
    san := { y.san with stat := 1, phase := 5, prog := 65535, erased := true, covered := y.san.done + y.san.doneOther } })
  match s1.tenant? t with
  | none => s1
  | some x => ((((s1.journalCtl [sanCtl t x.san]).sanRelease t x.san.held.length).sanitizeDone t).tenantGone t)

/-- A failure stops the sequence. -/
def sanFail (s : State) (t : Nat) : State :=
  let s1 := s.modSan t (fun y => { y with stat := 3 })
  match s1.tenant? t with
  | none => s1
  | some x =>
    let s2 := s1.journalCtl [sanCtl t x.san]
    match x.deleting with
    | some tag => (s2.modTenant t (fun y => { y with deleting := none })).ctlFinish tag .fault 0 0
    | none => s2

/-- A phase has ended at this head. The configuration head goes on once the other head has reported its part done, or alone in solo
mode; the other head reports. -/
def sanPhaseDone (s : State) (t : Nat) (failed : Bool) : State :=
  match s.tenant? t with
  | none => s
  | some x =>
    if x.san.stat != 2 then s
    else if !s.configHead then (if s.sanReady t x.san then s.sendMsg 0x020B [t, x.san.phase, 2, x.san.done, 0] else s)
    else if failed then s.sanFail t
    else if !s.sanReady t x.san || (s.paired && !x.san.otherDone) then s
    else if x.san.phase < 4 then ((if s.solo then s.sanWork t x.san.phase else s).sanPhase t (x.san.phase + 1))
    else s.sanComplete t

/-- A SANITIZE_STEP message of the other head: a phase is started (once its record is in the mirror), a phase's work is done there, or
segments have been erased there. -/
def sanStep (s : State) (t phase op erased seq : Nat) : State :=
  match (if s.linkUp then s.tenant? t else none) with
  | none => if s.linkUp then s.bump (Reg.DIKOR_CNT 6) 1 else s
  | some x =>
    if x.san.stat != 2 && op != 1 then s.bump (Reg.DIKOR_CNT 6) 1
    else
      match op with
      | 1 => (s.modSan t (fun y => { y with awaits := some (phase, seq) })).sanAwaited
      | 2 =>
        if x.san.phase = phase then (s.modSan t (fun y => { y with otherDone := true, doneOther := max y.doneOther erased })).sanProgress t else s
      | 3 => (s.modSan t (fun y => { y with doneOther := max y.doneOther erased })).sanProgress t
      | _ => s

/-- A Sanitize in progress is resumed at its last progress record by the head that is now the configuration head (R121): the work of
that phase is repeated, the other head is sent the START of the phase again where there is one, and its segments join this head's list
when this head is alone. -/
def sanResume (s : State) : State :=
  (s.nv.tenants.filter (fun e => e.2.san.stat == 2)).foldl (fun u e =>
    let u1 := if u.solo then
        u.modSan e.1 (fun y => { y with
          list := y.list ++ y.listOther.filter (fun id => (u.seg? id).isSome)
          done := y.done + (y.listOther.filter (fun id => (u.seg? id).isNone)).length
          listOther := []
          doneOther := 0 })
      else u
    if !u1.configHead then u1
    else
      let u2 := if u1.paired then
          (u1.modSan e.1 (fun y => { y with otherDone := false })).sendMsg 0x020B
            [e.1, e.2.san.phase, 1, e.2.san.done, (u1.reg Reg.SELV_OWN_NEXT_SEQ).toNat - 1]
        else u1
      u2.sanWork e.1 e.2.san.phase) { s with own.sanAgain := false }

/-! ## Format NVM (R124) -/

/-- The new map root of a format is committed. -/
def formatDone (s : State) (v : Nat) : State :=
  match s.vol? v with
  | none => s
  | some x =>
    match x.formatting with
    | none => s
    | some lbaf =>
      if !s.ownsGroup x.group then s
      else
        let keep := (s.mp.snaps.filter (fun e => e.2.volume == v || s.nv.volumes.any (fun w => w.2.origin == some e.1))).flatMap
          (fun e => s.treePages e.2.root)
        let s1 := s.freePages ((s.treePages x.root).filter (fun id => !keep.contains id))
        let s2 := s1.modVol v (fun y => { y with
          root := 0, lbaf := lbaf, formatting := none, formatHost := none, pinned := y.pinned && lbaf != 2, pinReady := false, dict := 0 })
        let s3 := (s2.journalCtl (⟨0x12, [v, lbaf, 2]⟩ :: (if x.pinned && lbaf = 2 then [⟨0x07, [v, 0]⟩] else []))).nsChanged x.tenant x.nsid
        (match x.formatHost with | some o => s3.reply o 0 0 0 | none => s3).settle

/-! ## Key check values (R397) -/

/-- Slots that an exchange covers. -/
def kcvSlots : List Nat := (List.range 4095).map (· + 1) ++ [32740, 32741]

/-- This head's entry for a slot. -/
def kcvEntry (s : State) (n : Nat) : KcvEntry :=
  let k := s.keySlot n
  ⟨n, slotFull k, k.epoch, if slotFull k then kcvOf k else 0⟩

/-- The five messages of one exchange. -/
def kcvSend (s : State) : State :=
  if !s.linkUp then s
  else
    (List.range 5).foldl (fun t i =>
      let l := (kcvSlots.drop (1024 * i)).take 1024
      t.sendMsg 0x020A ([l.headD 0, l.length, if i = 4 then 1 else 0] ++ l.flatMap (fun n =>
        let e := t.kcvEntry n
        [n, e.full.toNat, e.epoch.toNat, e.kcv.toNat]))) { s with sec.kcvOut := true }

/-- What a whole exchange shows: a TENANT slot that differs, or that is empty on one head only, is held as mismatched, and each new one
is recorded. -/
def kcvCompare (s : State) : State :=
  let differs := fun (e : KcvEntry) =>
    let m := s.kcvEntry e.slot
    slotType e.slot == .tenant && (m.full != e.full || m.kcv != e.kcv)
  let diff := (s.sec.kcvIn.filter differs).map (fun e => e.slot)
  let new := diff.filter (fun n => !s.sec.mismatch.contains n)
  { new.foldl (fun t n => t.event 0x0B04 Reg.KEYS_PAGE (argWord [(0, n)]) 0) s with sec.mismatch := diff, sec.kcvIn := [] }

/-- A KCV_LIST message: entries of other slots are discarded and counted (R335); the last message of an exchange that this head has not begun is answered
with its own. -/
def kcvList (s : State) (l : List KcvEntry) (last : Bool) : State :=
  if !s.linkUp then s
  else
    let s0 := s.bump (Reg.DIKOR_CNT 6) (l.filter (fun e => !kcvSlots.contains e.slot)).length
    let s1 := { s0 with sec.kcvIn := s.sec.kcvIn ++ l.filter (fun e => kcvSlots.contains e.slot) }
    if !last then s1
    else
      let s2 := if s1.sec.kcvOut then s1 else s1.kcvSend
      { s2 with sec.kcvOut := false }.kcvCompare

end State

open State

/-- FORMAT_MAP_ROOT_COMMIT (R124). -/
def execFormatMapRootCommit (volume : BitVec 16) (s : State) : Out := .next (s.formatDone volume.toNat)

/-- SANITIZE_PHASE_COMPLETE (R120, R416). -/
def execSanitizePhaseComplete (tenant : BitVec 12) (failed : Bool) (s : State) : Out := .next (s.sanPhaseDone tenant.toNat failed)

/-- SANITIZE_STEP (R335). -/
def execSanitizeStep (tenant : BitVec 12) (phase : Fin 8) (op : Fin 4) (erased seq : Nat) (s : State) : Out :=
  .next (s.sanStep tenant.toNat phase.val op.val erased seq)

/-- KCV_LIST (R335, R397). -/
def execKcvList (entries : List KcvEntry) (last : Bool) (s : State) : Out := .next (s.kcvList entries last)

/-- KCV_EXCHANGE_TIMER (R397). -/
def execKcvExchangeTimer (s : State) : Out := .next (if s.paired then s.kcvSend else s)

end Sys2Proof.Machine
end

