-- ==== Sys2Proof/Machine/Replay.lean ====
section
/-!
DEFINITION. Sys2Proof/Machine/Replay.lean: what a head rebuilds at boot: the maps from its newest checkpoint root and the map journals
(R248, R269), the replay of dumps (R61, R196 to R198), and the page-tag scan (R249).
-/

namespace Sys2Proof.Machine

/-- A record of a head, put into a list ordered by `TIME`, ties by head index (R248). -/
def putTime (x : Nat × JRec) : List (Nat × JRec) → List (Nat × JRec)
  | [] => [x]
  | y :: t => if x.2.time < y.2.time || (x.2.time = y.2.time && x.1 < y.1) then x :: y :: t else y :: putTime x t

/-- The numbers below a bound, ascending, that a test accepts. -/
def upTo (n : Nat) (p : Nat → Bool) : List Nat := (List.range n).filter p

namespace State

/-! ## Roots and map journals (R248 steps 1 and 2) -/

/-- What a root names is loaded: the tables, and the interior pages of the trees. A pinned volume is loading until its leaves are
resident (R60). -/
def loadCopy (s : State) (c : MapCopy) : State :=
  { s with
    mp.chunks := c.chunks
    mp.pools := c.pools
    mp.dicts := c.dicts
    mp.pages := c.pages.map (fun (e : Nat × Page) => (e.1, { e.2 with resident := e.2.level != 0, dirty := false }))
    mp.nextPage := c.nextPage
    mp.snaps := c.snaps
    mp.nextSnap := c.nextSnap
    nv.volumes := c.volumes.map (fun (e : Nat × Volume) => (e.1, { e.2 with pinReady := false, loading := e.2.pinned, formatHost := none }))
    nv.tenants := c.tenants.map (fun (e : Nat × Tenant) => (e.1, { e.2 with deleting := e.2.deleting.map (fun _ => 2 ^ 64) }))
    nv.groups := c.groups
    nv.groupGens := c.groupGens
    nv.psks := c.psks
    loom.staged := c.contracts
    loom.active := c.contracts
    mp.redS := c.red
    mp.redA := c.red
    own.members := c.members
    repl.rels := c.rels.map (fun (e : Nat × Rel) =>
      (e.1, { newRel e.2.rid e.2.source e.2.mode e.2.volume e.2.peer e.2.entry e.2.ip e.2.remote e.2.interval with
        cycle := e.2.cycle, base := e.2.base, committed := e.2.committed, bases := e.2.bases, st := if e.2.mode = 2 then 4 else 6 })) }

/-- A chunk that a STORE delta of the map journal names: JOURNALED in the region of its head, until a ROW_DURABLE entry locates it. -/
def loadChunk (region : Nat) (r : JRec) (s : State) (d : Delta) : State :=
  match d with
  | .store c _ _ _ =>
    match s.chunk? c with
    | some _ => s
    | none =>
      let f := tGet? s.mp.forms c
      let s1 := s.newChunk c r.tenant ((f.map (fun f => fingerprint (s.saltOf r.tenant) f.plain)).getD 0)
      { s1 with mp.chunks := tMod s1.mp.chunks c (fun e => { e with
          count := 0, segment := region, len32 := (f.map (fun f => len32Of f.len)).getD 0 }) }
  | _ => s

/-- One record of a map journal applied as it was first applied; the chunks that lose a reference once it is FLASHED. `counts` is false for one
whose increments the chunk table that was loaded holds already. -/
def loadRec (s : State) (region : Nat) (counts : Bool) (r : JRec) : State × List Nat :=
  match r.type with
  | 4 => s.applyCtls r.ctl
  | 5 => (match r.row with | some d => s.applyRow d | none => s, [])
  | _ =>
    let s1 := r.deltas.foldl (loadChunk region r) s
    if counts then (r.deltas.foldl (takeCount true) s1).applyDeltas r
    else ((r.deltas.foldl (applyDelta r false) (s1, [])).1, [])

/-- The new chunks of a record. -/
def storesOf (r : JRec) : List Nat := r.deltas.filterMap (fun d => match d with | .store c _ _ _ => some c | _ => none)

/-- A count falls without anything journaled: the CHUNK_STATE entries of the journal carry what followed. -/
def lowerOnce (s : State) (c : Nat) : State :=
  match s.chunk? c with
  | some e => if e.count = 0 || e.count = 0xFFFFF then s else s.setChunk c { e with count := e.count - 1 }
  | none => s

/-- Both map journals applied in order of `TIME`, each record with its head and whether its increments count; then the decrements of the records
that are FLASHED. The chunks that the others let go are handed to the tally audit (R197). -/
def loadJournals (s : State) (l : List (Nat × JRec)) (counts : Nat → JRec → Bool) : State :=
  let x := l.foldl (fun (a : State × List (JRec × List Nat)) r =>
    let y := a.1.loadRec (if r.1 = a.1.headIndex % 2 then 0 else 1) (counts r.1 r.2) r.2
    (y.1, a.2 ++ [(r.2, y.2)])) (s, [])
  let done := fun (t : State) (r : JRec) => (storesOf r).all (fun c => match t.chunk? c with | some e => e.state != .journaled | none => true)
  x.2.foldl (fun t p =>
    if done x.1 p.1 then p.2.foldl lowerOnce t else { t with mp.auditSet := (t.mp.auditSet ++ p.2).dedup }) x.1

/-! ## Which root a group is loaded from (R248 step 1) -/

/-- Whether a root slot of this head has a copy that reads with a valid CRC-32C (R280). -/
def rootReads (s : State) (slot : Nat) (bad : List (Nat × Nat)) : Bool :=
  s.md.segs.any (fun e => e.2.type == 7 && e.2.area == slot && e.2.st == .reserved && s.ownSeg e.1
    && (List.range e.2.members.length).any (fun i =>
      let m := e.2.members.getD i (64, 0, 0)
      s.inServiceM m.1 && (s.blkOf (blkKey m.1 m.2.1 m.2.2)).st != .bad && !bad.contains (slot, i)))

/-- The partner's root of the latest cut, of those that satisfy a test. -/
def laterRoot (l : List PartnerRoot) (p : PartnerRoot → Bool) : Option PartnerRoot :=
  bestBy (fun (a b : PartnerRoot) => b.cut < a.cut) (l.filter p)

/-- Volumes of a group, with their trees and snapshots, taken from what an image holds (R248 step 1). -/
def takeGroup (c : MapCopy) (s : State) (g : Nat) : State :=
  let mine := fun (v : Nat) (l : List (Nat × Volume)) => ((tGet? l v).map (fun x => x.group == g)).getD false
  { s with
    nv.volumes := s.nv.volumes.filter (fun e => e.2.group != g) ++ c.volumes.filter (fun e => e.2.group == g)
    mp.pages := s.mp.pages.filter (fun e => !mine e.2.volume s.nv.volumes) ++ c.pages.filter (fun e => mine e.2.volume c.volumes)
    mp.snaps := s.mp.snaps.filter (fun e => !mine e.2.volume s.nv.volumes) ++ c.snaps.filter (fun e => mine e.2.volume c.volumes) }

/-- A group's trees are dropped before those of another root take their place. -/
def dropGroup (s : State) (g : Nat) : State :=
  let mine := fun (v : Nat) => ((tGet? s.nv.volumes v).map (fun x => x.group == g)).getD false
  { s with
    mp.pages := s.mp.pages.filter (fun e => !mine e.2.volume)
    mp.snaps := s.mp.snaps.filter (fun e => !mine e.2.volume) }

/-- One entry of what a partner's root holds. -/
def rootEntry (s : State) (c : Ctl) : State :=
  match c.sub, c.body with
  | 0x1F, [k, st, len, seg, row, member, off, fp, count, tenant, target] =>
    let state : ChunkState := if st = 2 then .located else if st = 3 then .alias_ else if st = 4 then .freeing else if st = 5 then .lost else .journaled
    s.setChunk k ⟨state, len, seg, row, member, off, fp, count, tenant, target, 0⟩
  | _, _ => (s.applyCtl c).1

/-- The roots loaded (R248 step 1): the tables of the latest cut, and for each group the trees of the valid root with the latest cut that lists
it. -/
def loadImages (s : State) (x : RootsRead) : State :=
  let roots := s.mp.rootA.toList ++ s.mp.rootB.toList
  let s1 := match s.newestOf with | some r => s.loadCopy r.copy | none => s
  let groups := (roots.flatMap (fun r => r.groups) ++ x.roots.flatMap (fun r => r.groups)).dedup
  groups.foldl (fun t g =>
    let own := bestBy (fun (a b : Root) => b.cut < a.cut) (roots.filter (fun r => r.groups.contains g))
    match laterRoot x.roots (fun r => r.groups.contains g), own with
    | some p, some r =>
      if r.cut < p.cut then p.tables.foldl rootEntry (t.dropGroup g)
      else if some r = s.newestOf then t else takeGroup r.copy t g
    | some p, none => p.tables.foldl rootEntry (t.dropGroup g)
    | none, some r => if some r = s.newestOf then t else takeGroup r.copy t g
    | none, none => t) s1

/-- The `SEQ` and the time of the cut behind which the records of a head are to be applied to a group, or to the tables where none is named
(R248 step 2): a record of the head that wrote the root counts by `SEQ`, one of the other by `TIME`. -/
def behindCut (s : State) (x : RootsRead) (group : Option Nat) (head : Nat) (r : JRec) : Bool :=
  let lists := fun (l : List Nat) => match group with | some g => l.contains g | none => true
  let own := bestBy (fun (a b : Root) => b.cut < a.cut) ((s.mp.rootA.toList ++ s.mp.rootB.toList).filter (fun r => lists r.groups))
  let mine := head == s.headIndex % 2
  match laterRoot x.roots (fun p => lists p.groups), own with
  | some p, some o =>
    if o.cut < p.cut then (if mine then decide (p.cut ≤ r.time) else decide (p.seq ≤ r.seq))
    else if mine then decide (o.seq ≤ r.seq) else decide (o.cut ≤ r.time)
  | some p, none => if mine then decide (p.cut ≤ r.time) else decide (p.seq ≤ r.seq)
  | none, some o => if mine then decide (o.seq ≤ r.seq) else decide (o.cut ≤ r.time)
  | none, none => true

/-- The records of both map journals that are applied, by `TIME` (R248 step 2): those of this head's journal, among them adopted records of the
partner's region (R242), and those of the partner's. -/
def journalsRead (s : State) (x : RootsRead) : List (Nat × JRec) :=
  let h := s.headIndex % 2
  let other := x.journal ++ s.mp.jlogP.filter (fun r => !x.journal.any (fun y => y.seq == r.seq))
  let l := s.mp.jlog.map (fun r => (h, r)) ++ other.map (fun r => (1 - h, r))
  (l.filter (fun e => s.behindCut x (if e.2.type = 4 || e.2.type = 5 then none else some e.2.group) e.1 e.2)).foldl (fun a e => putTime e a) []

/-- Live bytes recomputed from the chunk table; an OPEN segment is closed early, a victim is CLOSED again, and one without live bytes is DRAINED
(R269). -/
def recountSegs (s : State) : State :=
  { s with
    md.segs := s.md.segs.map (fun (e : Nat × Seg) =>
      let g := e.2
      let st := if g.st = .opened || g.st = .victim then .closed else g.st
      if g.type = 1 || g.type = 2 || g.type = 3 then
        let live := s.recount e.1
        (e.1, { g with live := live, row := none, early := g.early || g.st == .opened
                       st := if live = 0 && g.st != .reserved then .drained else st })
      else (e.1, { g with row := none, early := g.early || g.st == .opened, st := st })) }

/-- Index entries of the runs on flash, newest last, for the shard of this head (R215). -/
def loadIndex (s : State) : State :=
  let l := (s.mp.runs.flatMap (fun r => r.2)).filter (fun (x : IdxEntry) => !x.pending && s.holdsShard x.fp && s.chunkUsable x.chunk)
  (l.reverse.foldl (fun (t : State) x =>
    let b := t.bucketOf x.fp
    if 8 ≤ b.length || b.any (fun y => y.fp == x.fp && y.tenant == x.tenant && y.chunk == x.chunk) then t
    else t.setBucketOf x.fp (b ++ [x])) { s with mp.index := [], mp.idxLog := [] }).indexShow

/-- Tenants' logical and physical byte gauges (R478). -/
def gaugesShow (s : State) : State :=
  s.nv.tenants.foldl (fun t e =>
    let vols := t.nv.volumes.filter (fun v => v.2.tenant == e.1 && t.ownsGroup v.2.group)
    let grains := vols.foldl (fun n v => n + (t.treeGrains v.2.root).length) 0
    let phys := (t.mp.chunks.filter (fun c => c.2.tenant == e.1 && t.keepsPool (poolOf c.1))).foldl (fun n c => n + physBytes c.2) 0
    (t.tcntSet e.1 11 (4096 * grains)).tcntSet e.1 12 phys) s

/-! ## Dumps (R61, R196 to R198) -/

/-- Bytes of an area's stream before the first stripe that cannot be read: one with more than two members on modules out of service. None
where every stripe can. -/
def areaCut (s : State) (area : Nat) : Option Nat :=
  let good := fun (e : Nat × Seg) => decide ((e.2.members.filter (fun m => !s.inServiceM m.1)).length ≤ 2)
  let l := s.areaSegs area
  if l.all good then none else some ((l.takeWhile good).foldl (fun n e => n + segBytes e.2) 0)

/-- A dump as far as it can be read: the load stops at the last complete record before the first unreadable unit (R196). -/
def dumpRead (s : State) (area : Nat) (d : Dump) : Dump :=
  match s.areaCut area with
  | none => d
  | some n =>
    { d with
      result := if d.result = 1 then 4 else d.result
      own := (recordsIn d n).1
      mirror := (recordsIn d n).2
      ownWhole := d.ownWhole && decide ((recordsIn d n).1.length = d.own.length)
      mirWhole := d.mirWhole && decide ((recordsIn d n).2.length = d.mirror.length) }

/-- The dumps that have not been consumed and that the device's dump key decrypts (R195, R393), in dump-number order, as far as they can be
read. -/
def dumps (s : State) : List Dump :=
  let l := ((s.jr.dumpA.map (s.dumpRead 0)).toList ++ (s.jr.dumpB.map (s.dumpRead 1)).toList).filter (fun d => !d.consumed && d.result != 0 && s.sec.dumpKey && d.uid == s.life.uid)
  match l with
  | [a, b] => if b.number < a.number then [b, a] else [a, b]
  | l => l

/-- Records of one region in the dumps, each `SEQ` once, in `SEQ` order. -/
def dumped (s : State) (region : Nat) : List JRec :=
  (s.dumps.flatMap (fun d => if region = 0 then d.own else d.mirror)).foldl putRec []

/-- Whether a good dump holds a region whole (R248 step 4): a complete one, or a partial one that ended behind the region. -/
def dumpWhole (s : State) (region : Nat) : Bool := s.dumps.any (fun d => if region = 0 then d.ownWhole else d.mirWhole)

/-- Sequence numbers go on behind everything that flash names, and the own ring behind the last dumped record. -/
def seqBase (s : State) : State :=
  let root := (s.newestOf.map (fun r => r.seq)).getD 0
  let own := (s.mp.jlog ++ s.dumped 0).foldl (fun n (r : JRec) => max n (r.seq + 1)) (max root (s.reg Reg.SELV_OWN_NEXT_SEQ).toNat)
  let mir := (s.dumped 1).foldl (fun n (r : JRec) => max n (r.seq + 1)) (s.reg Reg.SELV_MIR_NEXT_SEQ).toNat
  let s1 := (s.setReg Reg.SELV_OWN_NEXT_SEQ (BitVec.ofNat 64 own)).setReg Reg.SELV_MIR_NEXT_SEQ (BitVec.ofNat 64 mir)
  match (s.dumped 0).getLast? with
  | some r => { s1 with jr.next := max s1.jr.next (r.off + r.blks) }.selvShow
  | none => s1.selvShow

/-- Step 12 (R59, R248 steps 1 and 2): the roots that read, both map journals, the tables, and the members of the modules in service. -/
def loadRoots (s0 : State) (x : RootsRead) : State :=
  let top := fun (l : List JRec) => l.foldl (fun n r => max n r.time) 0
  let s := { s0 with
    mp.rootA := if s0.rootReads 0 x.bad then s0.mp.rootA else none
    mp.rootB := if s0.rootReads 1 x.bad then s0.mp.rootB else none
    mp.lastLogged := (top s0.mp.jlog, top (x.journal ++ s0.mp.jlogP)) }
  let s1 := (s.loadImages x).loadJournals (s.journalsRead x) (fun h r => s.behindCut x none h r)
  let s2 := (s1.rebuildPools (fun _ => true)).recountSegs.loadIndex.gaugesShow
  (((s2.seqBase).stepDone 12).residentShow).ownShow

/-- An extent of a replayed record, in ring order with those of later records. -/
def putExt (l : List Ext) (x : Ext) : List Ext :=
  let earlier := fun (e : Ext) => match e.seq, x.seq with | some a, some b => decide (a < b) | _, _ => false
  l.filter earlier ++ x :: l.filter (fun e => !earlier e)

/-- A stored form of a dumped record: its chunk, when it is not LOCATED, is JOURNALED in that region. -/
def replayForm (region : Nat) (r : JRec) (s : State) (f : Form) : State :=
  match s.chunk? f.chunk with
  | some e =>
    if e.state = .journaled then
      { s.setChunk f.chunk { e with segment := region, off := r.off, len32 := len32Of f.len, fpCheck := fingerprint (s.saltOf r.tenant) f.plain / 2 ^ 160 % 2 ^ 32 } with mp.forms := tPut s.mp.forms f.chunk f }
    else s
  | none => takeForm region r s f

/-- One dumped record replayed: the first number counts the records replayed, the second those skipped. A record that the map journal
has applied already changes no map. -/
def replayRec (region : Nat) (a : State × Nat × Nat) (r : JRec) : State × Nat × Nat :=
  let s := a.1
  let held := if region = 0 then s.jr.own else s.jr.mir
  let bad := if region = 0 then s.jr.badOwn else s.jr.badMir
  if bad.contains r.seq then (s, a.2.1, a.2.2 + 1)
  else if held.any (fun (x : JRec) => x.seq == r.seq) then a
  else
    let logged := (if region = 0 then s.mp.jlog else s.mp.jlogP).any (fun (x : JRec) => x.seq == r.seq)
    let s1 := r.forms.foldl (replayForm region r) s
    let y : State × List Nat :=
      if logged then (s1, r.deltas.filterMap (fun d => match d with | .store _ _ _ o | .dedup _ _ o | .pending _ _ o => o | _ => none))
      else
        match r.type with
        | 4 => s1.applyCtls r.ctl
        | 5 => (match r.row with | some d => s1.applyRow d | none => s1, [])
        | _ => (r.deltas.foldl (takeCount true) s1).applyDeltas r
    let x : JRec := { r with mirrored := s.solo || region == 1, journaled := logged, flashed := false, olds := [] }
    let t := y.1.blocksWrite region r.off (ceilDiv r.bytes 4096)
    let audit := (t.mp.auditSet ++ y.2).dedup
    let wait := if logged then t.jr.jwait else t.jr.jwait ++ [if region = 0 then r.seq else adoptMark + r.seq]
    let t1 := if region = 0 then
        { t with jr.own := putRec t.jr.own x, jr.exts := putExt t.jr.exts ⟨r.off, r.blks, none, some r.seq⟩ }
      else { t with jr.mir := putRec t.jr.mir x }
    ({ t1 with mp.auditSet := audit, jr.jwait := wait }, a.2.1 + 1, a.2.2)

/-- A region's dumps replayed, and `SELV.REPLAY_CNT` of the whole replay. -/
def replayRegion (region : Nat) (a : State × Nat × Nat) : State × Nat × Nat := (a.1.dumped region).foldl (replayRec region) a

/-- Whether a scanned row is accepted (R190): all of its units read back with valid tags of the same segment sequence. -/
def scanWhole (x : ScanRow) : Bool := x.tags.length == x.row.width && x.tags.all (fun t => t == some x.row.segSeq)

/-- Whether the scan reads a segment (R249, R269): its `SEG_SEQ` is above the `TIME` of the newest record in a durable map-journal row of the head
that opened it. -/
def scanTakes (s : State) (d : RowDur) : Bool :=
  decide ((if d.segSeq % 2 = s.headIndex % 2 then s.mp.lastLogged.1 else s.mp.lastLogged.2) < d.segSeq)

/-- A row of the page-tag scan (R190, R249), accepted only whole and in a segment that the scan reads: each chunk whose grain header names it is located there
unless it already lies in a newer segment. -/
def scanRow (s : State) (x : ScanRow) : State :=
  let d := x.row
  if !scanWhole x || !s.scanTakes d then s else
  (d.entries.filter (fun p => x.heads.contains (p.member, p.off, p.chunk))).foldl (fun t (p : Placed) =>
    match t.chunk? p.chunk with
    | none => t
    | some e =>
      let older := match t.seg? e.segment with | some g => decide (g.seq < d.segSeq) | none => true
      if e.state = .journaled || (e.state = .located && older) then
        let t1 := if e.state = .located then t.liveSub e.segment (32 * e.len32) else t
        (t1.setChunk p.chunk { e with
          state := .located, segment := d.segment, row := d.row, member := p.member, off := p.off, len32 := p.len32 }).liveAdd
            d.segment (32 * p.len32)
      else t) (s.modSeg d.segment (fun g =>
        { g with dir := g.dir ++ d.entries.map (fun p => (d.row, p)), durable := max g.durable (d.row + 1), st := if g.st == .drained then .closed else g.st }))

/-- Regions without a good dump (R249, R377), which `MAPX.MAP_STATUS.RECOVERY` shows as 2: the scan, within its command, then every chunk of such
a region without a form is LOST, and the loss is recorded with the last durable `SEQ`. -/
def journalLost (s : State) (regions : List Nat) (scan : List ScanRow) : State :=
  let s1 := scan.foldl scanRow s
  let ids := (s1.mp.chunks.filter (fun e => e.2.state == .journaled && regions.contains e.2.segment && (tGet? s1.mp.forms e.1).isNone)).map (fun e => e.1)
  let s2 := (ids.foldl (fun t c => (t.chunkLost c 4).bump Reg.MAPX_LOST_CNT 1) s1).setFld Reg.MAPX_MAP_STATUS_RECOVERY 2
  s2.event 0x0909 Reg.OWN_PAGE (BitVec.ofNat 64 ((s.mp.jlog.foldl (fun n (r : JRec) => max n r.seq) 0))) 0

/-- Replay (R61, R370): the partner's region first where this head replays it, as an adopted region; then the own region, but for a head
whose own dump is not whole and whose partner's is: there the partner replays its mirror dump of the region. -/
def replay (s : State) (mirror lost : Bool) (scan : List ScanRow) : State :=
  let whole := s.dumpWhole 0
  let without := [0, 1].filter (fun r => !s.dumpWhole r)
  let s1 := if mirror && !s.dumps.isEmpty then
      { s with own.adopted := max s.own.adopted (s.reg Reg.SELV_MIR_NEXT_SEQ).toNat }.setBit Reg.MGMT_BOOT_STATUS_REPLAY_SRC true
    else s
  let m := if mirror then replayRegion 1 (s1, 0, 0) else (s1, 0, 0)
  let a := if mirror || whole then replayRegion 0 m else m
  let known := s.newestOf.isSome || !s.mp.jlog.isEmpty || !s.dumps.isEmpty
  let s2 := (a.1.setFld Reg.MAPX_MAP_STATUS_RECOVERY (if known then 1 else 0)).setReg Reg.SELV_REPLAY_CNT (BitVec.ofNat 64 (a.2.2 * 2 ^ 32 + a.2.1))
  let s3 := if lost && !without.isEmpty && (s.newestOf.isSome || !s.mp.jlog.isEmpty) then s2.journalLost without scan else s2
  (((s3.rebuildPools (fun _ => true)).recountSegs.gaugesShow).selvShow).packWaiting.journalStep

/-- The area's segments are erased in slack. -/
def eraseArea (s : State) (area : Nat) : State := (s.areaSegs area).foldl (fun t e => t.eraseSegment e.1) s

/-- A dump whose replayed records are all FLASHED is marked consumed (R62). -/
def dumpConsume (s : State) (area : Nat) : State :=
  match (if area = 0 then s.jr.dumpA else s.jr.dumpB) with
  | none => s
  | some d =>
    let left := s.jr.own.any (fun (r : JRec) => !r.flashed && d.own.any (fun x => x.seq == r.seq))
      || s.jr.mir.any (fun (r : JRec) => !r.flashed && decide (r.seq < s.own.adopted) && d.mirror.any (fun x => x.seq == r.seq))
    if d.consumed || d.result = 0 || !s.chip.steps.contains 13 || left then s
    else ((({ s.setDump area (some { d with consumed := true }) with jr.badOwn := [], jr.badMir := [] }).resizeArea area).eraseArea area).armShow

end State

open State

/-- DUMP_CONSUMED (R62). -/
def execDumpConsumed (area : Fin 2) (s : State) : Out := .next (s.dumpConsume area.val)

end Sys2Proof.Machine
end

