-- ==== Sys2Proof/Machine/Boot.lean ====
section
/-!
DEFINITION. Sys2Proof/Machine/Boot.lean: the resets of R49 and R52 and what outlives them, and the boot sequence of R59.
-/

namespace Sys2Proof.Machine

namespace State

/-! ## What outlives a reset (R52) -/

/-- What the modules' flash holds: segments and blocks, without what a head keeps of them in its own memory; of the erase counts, those of
the newest complete checkpoint (R268). -/
def flashKept (s : State) : Media :=
  { Media.reset with
    segs := s.md.segs.map (fun (e : Nat × Seg) =>
      (e.1, { e.2 with row := none, erasing := [], clear := false, lost := [], degradedSeen := false, criticalSeen := false }))
    nextSeq := s.md.nextSeq
    blocks := s.md.blocks.map (fun e => (e.1, { e.2 with
      erases := (s.newestOf.map (fun r => (tGet? r.copy.blocks e.1).elim 0 (fun b => b.erases))).getD 0 })) }

/-- What flash holds of the maps: the root slots, the durable map journal, the index runs, and the stored forms in rows. -/
def mapsKept (s : State) : Maps :=
  { Maps.reset with
    rootA := s.mp.rootA
    rootB := s.mp.rootB
    jlog := s.mp.jlog
    jlogP := s.mp.jlogP
    runs := s.mp.runs
    forms := s.mp.forms.filter (fun e => match s.chunk? e.1 with | some c => c.state == .located || c.state == .freeing | none => false) }

/-- The dumps in the vault segments. -/
def dumpsKept (s : State) : Jrn :=
  { Jrn.reset with
    dumpA := s.jr.dumpA
    dumpB := s.jr.dumpB
    dumpNext := s.jr.dumpNext
    badOwn := s.jr.badOwn
    badMir := s.jr.badMir }

/-- The event ring in NOR: what the buffer held is lost. -/
def ringKept (s : State) : Evrec :=
  { Evrec.reset with
    ring := s.evrec.ring
    sectors := s.evrec.sectors
    nextSeq := s.evrec.nextSeq
    head := s.evrec.head
    erased := s.evrec.erased
    erasing := s.evrec.erasing }

/-- The image slots and the directory in NOR. -/
def imagesKept (s : State) : Mgmt :=
  { Mgmt.reset with
    dirSeq := s.mgmt.dirSeq
    dirActive := s.mgmt.dirActive
    dirTrial := s.mgmt.dirTrial
    dirCopy := s.mgmt.dirCopy
    slotA := s.mgmt.slotA
    slotB := s.mgmt.slotB }

/-- The vault and the key ledger: after a boot, appends go on in the next erased sector (R447). -/
def vaultKept (s : State) : Sec :=
  { Sec.reset with
    ledger := { s.sec.ledger with used := 65536 }
    latch := s.sec.latch
    sources := s.sec.sources
    alarms := s.sec.alarms
    tamperTime := s.sec.tamperTime
    vault := s.sec.vault
    historyKey := s.sec.historyKey }

/-- Reset of everything except the vault (R49, R52): the pins, the fuses, the NOR and the flash keep what they hold. A dump that runs
stops as PARTIAL_POWER (R194). -/
def chipReset (s0 : State) : State :=
  let s := s0.dumpStop 3
  { State.reset with
    pending := s.pending
    freeCtr := s.freeCtr
    out := s.out
    now := s.now
    chip := { Chip.reset with
      stbyPwrOk := s.chip.stbyPwrOk
      mainPwrOk := s.chip.mainPwrOk
      chipResetN := s.chip.chipResetN
      perstN := s.chip.perstN
      pwrFailN := s.chip.pwrFailN
      bootPins := s.chip.bootPins
      rtc := s.chip.rtc }
    life := { s.life with phase := .idle, stopping := false }
    mgmt := s.imagesKept
    evrec := s.ringKept
    sec := s.vaultKept
    jr := s.dumpsKept
    mp := s.mapsKept
    md := s.flashKept
    dk := { Dik.reset with prsnt := s.dk.prsnt } }

/-! ## Steps 1 to 4 -/

/-- Steps 1 and 2 (R45, R59, R66, R67): the pins are latched, the time base is loaded, the ROM starts and the fuses are sensed. -/
def romStart (s : State) (pins : BitVec 2) (rtc : Nat) : State :=
  let s1 := { s with
    now := rtc * 1000000000
    chip.cond := .booting
    chip.bootPins := pins
    chip.rtc := rtc
    pick.since := rtc * 1000000000
    pick.wrote := false }
  let s2 := ((s1.setFld Reg.CHIP_STRAPS_BOOT_MODE pins.toNat).stepDone 1).senseFuses
  let s3 := (s2.setFld Reg.MGMT_BOOT_STATUS_MODE (s2.modeOf pins.toNat)).tamperRegs.norRegs.acceptableRegs.evrecStatus
  let s4 := (s3.measExtend 0 (bytesBE (Config.measured 0
    [Config.romVersion, s3.life.uid.toNat, s3.lifeState, s3.life.rollback, pins.toNat]))).stepDone 2
  if senseError s4.life.cells then s4.fatalEnter 3 2
  else if s4.lifeState = 4 then s4.fatalEnter 7 2
  else s4

/-- The whole seconds of the vault RTC at a moment that no operand gives: a free value. -/
def rtcNow (s : State) : Nat × State :=
  let n := s.draw
  ((Config.openWord n.1).toNat % 2 ^ 33, n.2)

/-- The image in a slot. -/
def slotImage (s : State) (toB : Bool) : Option Image := if toB then s.mgmt.slotB else s.mgmt.slotA

/-- The slot that the ROM reads next (R65, R446): the directory's; the other after a failure, and after a watchdog restart of a trial. -/
def nextSlot (s : State) : Bool :=
  let first := if s.mgmt.afterWatchdog && s.mgmt.dirTrial then !s.mgmt.dirActive else s.mgmt.dirActive
  if s.mgmt.tried.isEmpty then first else !first

/-- Whether an image is accepted (R65): only `MATCH` = 1 with `MATCH_N` = 0 counts as an equal digest. -/
def imageAccept (s : State) (i : Image) (flipM flipN : Bool) : Bool :=
  let r := s.imageResult i
  let same := r == 1
  (r == 1 || r == 7) && (same != flipM) && !(!same != flipN)

/-- An incomplete life-cycle transition is finished (R69). -/
def lifeResume (s : State) : State :=
  match incompleteTarget s.life.cells with
  | none => s
  | some t =>
    let lo := intentLo t
    let full := (List.range 3).all (fun i => s.life.cells.getLsbD (lo + i))
    { s.setBit Reg.LIFE_STATUS_BUSY true with life.phase := if full then .work else .intent (firstUnblown s.life.cells lo) }

/-! ## Steps 5 and 6 -/

/-- Pages of the management-domain blocks, and of those that the main domain's Warp fabric segments host. -/
def mgmtPages : List Nat := [Reg.LIFE_PAGE, Reg.MEAS_PAGE, Reg.SESS_PAGE, Reg.PWR_PAGE, Reg.TEMPLE_PAGE, Reg.THERM_PAGE, Reg.EVREC_PAGE, Reg.MGMT_PAGE]

/-- Blocks that step 6 enables beside them for a data path. -/
def hostedPages : List Nat := [Reg.CHIP_PAGE, Reg.TIME_PAGE, Reg.HEDDLE_PAGE, Reg.NVMF_PAGE, Reg.REED_PAGE, Reg.SELV_PAGE, Reg.SEGW_PAGE,
  Reg.MAPX_PAGE, Reg.SLOT_PAGE, Reg.OWN_PAGE, Reg.REPL_PAGE, Reg.KEYS_PAGE, Reg.INTC_PAGE, Reg.PICK_PAGE, Reg.TRACE_PAGE, Reg.UPEP_PAGE,
  Reg.CTLCH_PAGE]

/-- Domains powered on if they are not. -/
def domainsOn (s : State) (l : List Nat) : State := l.foldl (fun t d => if t.domState d = PWR_ON then t else t.setDom d PWR_ON) s

/-- Loops 0 to 6 are enabled from their disabled state, before any `LOOM` instance enters ACTIVE (R438). -/
def loopsOn (s : State) : State :=
  (List.range 7).foldl (fun t l => ((t.loopSafe l).setBit (Reg.TEMPLE_CTRL_ENABLE l) true).loopDrive l) s

/-- Steps 5 and 6 (R32, R59, R399, R495): the segments and management power up, the deck is checked, and the hosted blocks are enabled. -/
def mainStart (s : State) (deckOk : Bool) : State :=
  let s1 := ((s.domainsOn ((List.range 9).map (fun i => 174 + i))).domainsOn (if s.chip.perstN then domainsOf Reg.UPEP_PAGE else [])).stepDone 5
  if !deckOk then s1.fatalEnter 1 6
  else
    let s2 := { s1 with
      chip.faultN := true
      up.cfgReady := true
      sec.dumpKey := decide (s1.lifeState < 3) && !s1.life.fuseRootDisable }
    let s3 := (((mgmtPages.foldl bootEnable s2).loopsOn).ledgerLoad []).idPubShow
    let s4 := if s3.dataPath then
        let t := hostedPages.foldl bootEnable s3
        (List.range 16).foldl (fun u i => u.setFld (Reg.DRAMC_STATUS_TRAIN i) 1) t
      else s3
    (s4.stepDone 6).upRefresh

/-- Step 5 begins once `MAIN_PWR_OK` is good and steps 1 to 4 are done (R59, R69), unless the head holds its state (R63). -/
def mainEval (s : State) : State :=
  if s.chip.mainPwrOk && s.chip.cond = .booting && s.chip.steps.contains 4 && !s.chip.steps.contains 5 && !s.chip.holdup then
    match s.chip.deck with
    | some ok => { s with chip.deck := none }.mainStart ok
    | none => s
  else s

/-- `MAIN_PWR_OK` is good (R49). A `PWR_FAIL_N` that is low acts from now on (R63; log entry 69). -/
def mainGood (s : State) (deckOk : Bool) : State :=
  let s1 := { s with chip.mainPwrOk := true, chip.deck := some deckOk }
  (if s1.chip.pwrFailN then s1 else s1.pwrFail).mainEval

/-! ## Steps 3 and 4 -/

/-- The last completed step shows again after a management restart. -/
def stepShow (s : State) : State :=
  (s.setFld Reg.MGMT_BOOT_STATUS_STEP (s.chip.steps.foldl max 0)).setFld Reg.MGMT_BOOT_STATUS_MODE (s.modeOf s.chip.bootPins.toNat)

/-- The new image of a live update runs (R461 step 5): the service cores are to be reloaded one at a time, then its other components applied. -/
def updateGoesOn (s : State) (i : Image) : State :=
  if s.mgmt.updated.isNone then s
  else
    { s with
      mgmt.reload := if s.chip.steps.contains 9 then List.range 16 else []
      mgmt.compsDue := ((imageComponents i).map Prod.fst).filter (fun n => decide (3 ≤ n) && decide (n ≤ 6)) }.setFld Reg.MGMT_UPD_STATUS_STEP 5

/-- An accepted image runs: it is measured, and a fallback is written to the directory (R66, R446). -/
def imageRuns (s : State) (toB : Bool) (i : Image) : State :=
  let fallback := s.mgmt.afterWatchdog && s.mgmt.dirTrial && toB != s.mgmt.dirActive
  let body := (((imageComponents i).find? (fun c => c.1 == 1)).map (fun c => c.2.2)).getD []
  let s1 := { s with mgmt.running := true, mgmt.bootedB := toB, mgmt.tried := [], mgmt.afterWatchdog := false }
  let s2 := ((s1.setBit Reg.MGMT_BOOT_STATUS_IMAGE toB).measExtend 1 (bytesBE (Config.sha384 body))).measExtend 2
    (bytesBE (Config.sha384 (imageSigned i)))
  let s3 := if fallback then
      (({ s2 with mgmt.updated := none }.dirWrite toB false).event 0x0D05 Reg.MGMT_PAGE (argWord [(0, toB.toNat)]) 0)
    else s2.updateGoesOn i
  let s4 := s3.norRegs.acceptableRegs
  if s4.chip.steps.contains 3 then s4.stepShow
  else
    let s5 := s4.stepDone 3
    if (incompleteTarget s5.life.cells).isSome then s5.lifeResume else (s5.stepDone 4).mainEval

/-- Step 3 (R65, R446): the image is accepted, or the other is tried; with neither the head is fatal at boot. -/
def imageLoaded (s : State) (flipM flipN : Bool) : State :=
  if s.mgmt.running || s.chip.cond = .reset || s.chip.cond = .fatal || (s.chip.holdup && !s.dramTrained) then s
  else
    let slot := s.nextSlot
    let ok := match s.slotImage slot with | some i => s.imageAccept i flipM flipN | none => false
    match s.slotImage slot with
    | some i =>
      if ok then s.imageRuns slot i
      else if s.mgmt.tried.isEmpty then { s with mgmt.tried := [slot] }
      else s.fatalEnter 2 3
    | none => if s.mgmt.tried.isEmpty then { s with mgmt.tried := [slot] } else s.fatalEnter 2 3

/-! ## Steps 7 to 11 -/

/-- Step 7: channels trained; more than one that fails is fatal (R58), one that fails is lost (R20). -/
def dramTrain (s : State) (failed : List Nat) (size rate : Nat) : State :=
  if s.chip.cond != .booting || s.chip.holdup || !s.chip.steps.contains 6 || s.chip.steps.contains 7 || !s.dataPath then s
  else
    let bad := failed.dedup
    let s1 := (List.range 16).foldl (fun t i =>
      let ok := !bad.contains i
      let t1 := t.setFld (Reg.DRAMC_STATUS_TRAIN i) (if ok then 2 else 3)
      if ok then ((t1.setFld (Reg.DRAMC_STATUS_SIZE_GIB i) size).setFld (Reg.DRAMC_STATUS_RATE_MTS i) rate).bootEnable (Reg.DRAMC_PAGE i)
      else t1.toState (Reg.DRAMC_PAGE i) FAILED) s
    if 1 < bad.length then s1.fatalEnter 9 7
    else ({ s1 with jr.lostCh := bad, jr.striped := upTo 16 (fun i => !bad.contains i), jr.openStripes := [], jr.laps := [] }.setFld Reg.SELV_STATUS_CHANNELS (16 - bad.length)).stepDone 7

/-- Step 8: DRAM is initialised; the module ports are enabled and the chain releases `PERST#` of the modules that are powered. -/
def dramInit (s : State) : State :=
  if s.chip.cond != .booting || s.chip.holdup || !s.chip.steps.contains 7 || s.chip.steps.contains 8 then s
  else
    let s1 := (List.range 64).foldl (fun t k => t.bootEnable (Reg.MODP_PAGE k)) (s.stepDone 8)
    (List.range 64).foldl (fun t k =>
      if t.svcState k = 2 then t.modModule k (fun m => { m with perstRel := true }) else t) s1

/-- Step 9: the service-core image is measured, and the service cores start when it is accepted. -/
def svcImage (s : State) (flipM flipN : Bool) : State :=
  if s.chip.cond != .booting || s.chip.holdup || !s.chip.steps.contains 6 || s.chip.steps.contains 9 || !s.dataPath then s
  else
    match s.slotImage s.mgmt.bootedB with
    | none => s
    | some i =>
      let body := (((imageComponents i).find? (fun c => c.1 == 2)).map (fun c => c.2.2)).getD []
      let s1 := (s.measExtend 3 (bytesBE (Config.sha384 body))).measExtend 3 (bytesBE (Config.sha384 (imageSigned i)))
      if s1.imageAccept i flipM flipN then
        let s2 := (List.range 16).foldl (fun t c => (t.bootEnable (Reg.SVC_PAGE c)).setFld (Reg.SVC_STATUS_FW_VERSION c) (imageVersion i).toNat) s1
        (({ s2 with svc.rev := (imageVersion i).toNat }.rebalanceQueues).stepDone 9).serveEval
      else s1

/-- Step 10: the modules' geometry, arbitration words and dump headers have been read; the Dikor Link trains. -/
def portsReady (s : State) : State :=
  if s.chip.cond != .booting || s.chip.holdup || !s.chip.steps.contains 8 || s.chip.steps.contains 10 then s
  else
    let s1 := s.stepDone 10
    let s2 := ([Reg.MEDIA_PAGE 0, Reg.MEDIA_PAGE 1, Reg.DIKOR_PAGE]).foldl bootEnable s1
    s2.trainStart

/-! ## Steps 12 and 13 -/

/-- The `LOOM` instances are enabled once step 12 is past and the link has passed IDENTITY or is ABSENT or REFUSED (R48). -/
def loomEval (s : State) : State :=
  if s.chip.cond = .booting && s.chip.steps.contains 12
      && (s.dk.passed || s.bit Reg.DIKOR_STATUS_ABSENT || s.fld Reg.DIKOR_STATUS_LSTATE = 11) then
    ([Reg.LOOM_PAGE 0, Reg.LOOM_PAGE 1]).foldl bootEnable s
  else s

/-- The DPCs: sixteen ACTIVE, and two SPARE (R20). -/
def dpcStart (s : State) : State :=
  let s1 := (s.setFld (Reg.BLK_CTRL_ROLE (Reg.DPC_PAGE 16)) 0xE).setFld (Reg.BLK_CTRL_ROLE (Reg.DPC_PAGE 17)) 0xE
  let s2 := (List.range 18).foldl (fun t i => t.bootEnable (Reg.DPC_PAGE i)) s1
  { s2 with loom.dpcs := s2.activeDpcs }

/-- Claimed modules in service that count in no MEMBERS entry yet. -/
def membersNow (s : State) : State := s.memberCtl (s.modulesIn.filter (fun k => (s.module k).claimed)) []

/-- Step 12: the maps are rebuilt. A joiner goes on with its join; a head that lost its server takes over (R377); any other head has its
dumps to replay. -/
def rootsLoaded (s : State) (partner : RootsRead) : State :=
  let again := s.role = 4 || s.own.recover
  if (s.chip.cond != .booting && !again) || s.chip.cond = .reset || s.chip.cond = .fatal || s.chip.holdup || !s.chip.steps.contains 10
      || s.chip.steps.contains 12
      || !s.dataPath then s
  else
    let s1 := ((s.loadRoots partner).dpcStart).loomEval.mediaShow.armShow
    if s1.role = 4 then s1.joinEval
    else if s1.own.recover then ({ s1 with own.recover := false }.stepDone 13).leaseIssue 1 2 s1.now s1.now
    else ((s1.membersNow.poolClaim).reserveAreas).soloDecide

/-- Reservations without Persist Through Power Loss do not survive a power loss of both heads (R112): a head that replays its dumps boots
after one. -/
def dropUnkept (s : State) : State :=
  { s with nv.volumes := s.nv.volumes.map (fun (e : Nat × Volume) =>
      if e.2.resv.ptpl then e else (e.1, { e.2 with resv := { (freeResv e.2.resv) with regs := [] } })) }

/-- Whether replay may end: a head that has won its lease at boot, or one that boots cold beside its partner (R61, R370, R372). -/
def replayMay (s : State) : Bool :=
  s.chip.steps.contains 12 && !s.chip.steps.contains 13 && s.chip.cond == .booting && !s.chip.holdup && s.dataPath
    && (s.role == 3 || ((s.role == 0 || s.role == 1) && s.linkUp && (s.own.join.map (fun (j : Join) => j.gives && j.takes)).getD false))

/-- Step 13 (R59, R61, R249, R370): the dumps are replayed, the groups are taken where the partner is absent, and the head serves when
step 14 lets it. -/
def replayDone (s : State) (partnerMissing : Bool) (scan : List ScanRow) : State :=
  if !s.replayMay then s
  else
    let alone := s.role = 3
    let s1 := ((s.replay (alone || partnerMissing) (alone || partnerMissing) scan).dropUnkept).stepDone 13
    let s2 := match s1.own.move with
      | some m => if m.cause = 3 && alone then { s1 with own.move := none }.takeover m m.won.length else s1
      | none => s1
    let s3 := if !alone && !((s2.own.join.map (fun (j : Join) => j.sent)).getD true) then s2.joinSend else s2
    (s3.joinEval.coldEval.loomEval.serveEval.sanResume).ownShow

/-! ## Power -/

/-- A main-domain page. -/
def mainPage (page : Nat) : Bool := match blockAt page with | some (b, _) => !b.mgmt | none => false

/-- `BLK_STATE` of a main-domain block in the main reset: FAILED and RETIRED stay (R36). -/
def stateKept (s : State) (key : Nat) : Word :=
  let f := Reg.BLK_STATE_STATE (key / 0x10000)
  if s.fld f = FAILED || s.fld f = RETIRED then setBits (regReset key) f.lo f.w (s.fld f) else regReset key

/-- The roles that a failed instance has left to the other (R20, R126), which last until `CHIP_RESET_N`. -/
def rolesKept (s t : State) : State :=
  let out := fun (p : Nat) => s.blk p == FAILED || s.blk p == RETIRED
  (List.range 2).foldl (fun u i =>
    let u1 := if out (Reg.LOOM_PAGE i) then
        ((u.setFld (Reg.LOOM_STATUS_ROLE i) 1).setFld (Reg.LOOM_STATUS_ROLE (1 - i)) 0).setBit (Reg.LOOM_STATUS_SIMPLEX (1 - i)) true
      else u
    if out (Reg.MEDIA_PAGE i) then (u1.setFld (Reg.MEDIA_STATUS_ROLE i) 1).setFld (Reg.MEDIA_STATUS_ROLE (1 - i)) 0 else u1) t

/-- The registers when the main domain is reset: those of management pages stay, FAILED and RETIRED blocks stay so, and so do the ROS fields of every page, `BLK_ERR_STICKY`
among them, which only `CHIP_RESET_N` clears (R28). -/
def mainRegs (s : State) : List (Nat × Word) :=
  (s.regs.map (fun e =>
    if !mainPage (e.1 / 0x10000) then e
    else if e.1 % 0x10000 = 0x38 then e
    else if e.1 % 0x10000 = 0x18 then (e.1, s.stateKept e.1)
    else if e.1 % 0x10000 < 0x100 then (e.1, regReset e.1)
    else (e.1, rosKept e.1 e.2))).filter (fun e => e.2 != regReset e.1)

/-- MAIN_PWR_OK falls (R28, R49, R50, R194): a dump that runs stops, and every main-domain block is reset and gated. Management, with its
regulators, temperature loops and fans, runs on. -/
def mainLoss (s0 : State) : State :=
  let s := s0.dumpStop 3
  let r := s.chipReset
  let s1 := { r with
    regs := s.mainRegs
    held := s.held.filter (fun e => !mainPage e.1)
    chip := { s.chip with
      mainPwrOk := false
      cond := if s.chip.cond = Cond.serving then Cond.booting else s.chip.cond
      holdup := false
      holdupActive := false
      holdupDone := false
      hbOut := false
      faultN := false
      nowHigh := none
      deck := none
      steps := s.chip.steps.filter (fun n => decide (n < 5)) }
    life := s.life
    mgmt := s.mgmt
    evrec := s.evrec
    pw := { s.pw with upQueue := [], downTo := [], rising := [], settled := [], svcReq := [], excluded := [], pSp := [], pSt := [] }
    sec := { s.sec with slots := [], op := none, dumpKey := false, mismatch := [], kcvIn := [], kcvOut := false } }
  let s2 := (List.range 182).foldl (fun t d => t.setFld (Reg.PWR_DOM_STATE d) PWR_GATED) s1
  (((s.rolesKept s2).uidRegs.setFld Reg.CHIP_STRAPS_BOOT_MODE s.chip.bootPins.toNat).stepShow).evrecStatus

end State

open State

/-- STANDBY_POWER_LOSS (R49, R52). -/
def execStandbyPowerLoss (s : State) : Out :=
  .next (if s.chip.stbyPwrOk then { s.chipReset with chip.stbyPwrOk := false } else s)

/-- STANDBY_POWER_GOOD (R49): with `CHIP_RESET_N` high the standby domain leaves reset and the ROM starts. -/
def execStandbyPowerGood (s : State) : Out :=
  .next (if s.chip.stbyPwrOk then s
    else
      let s1 := { s with chip.stbyPwrOk := true }
      if s1.chip.chipResetN then
        let n := s1.rtcNow
        n.2.romStart s1.chip.bootPins n.1
      else s1)

/-- CHIP_RESET_ASSERT (R52). -/
def execChipResetAssert (s : State) : Out :=
  .next (if s.chip.chipResetN then { s.chipReset with chip.chipResetN := false } else s)

/-- CHIP_RESET_RELEASE (R45, R51, R59). -/
def execChipResetRelease (boot : BitVec 2) (rtc : Nat) (s : State) : Out :=
  .next (if s.chip.chipResetN then s
    else
      let s1 := { s with chip.chipResetN := true, chip.bootPins := boot }
      if s1.chip.stbyPwrOk then s1.romStart boot rtc else s1)

/-- MGMT_IMAGE_LOADED (R65, R446). -/
def execMgmtImageLoaded (flipM flipN : Bool) (s : State) : Out := .next (s.imageLoaded flipM flipN)

/-- MAIN_POWER_GOOD (R32, R59). -/
def execMainPowerGood (deckOk : Bool) (s : State) : Out := .next (s.mainGood deckOk)

/-- DRAM_TRAINING_DONE (R58, R59). -/
def execDramTrainingDone (failed : List (Fin 16)) (sizeGib rateMts : Nat) (s : State) : Out :=
  .next (s.dramTrain (failed.map (fun i => i.val)) sizeGib rateMts)

/-- DRAM_INIT_DONE (R59). -/
def execDramInitDone (s : State) : Out := .next s.dramInit

/-- SVC_IMAGE_LOADED (R59, R65, R66). -/
def execSvcImageLoaded (flipM flipN : Bool) (s : State) : Out := .next (s.svcImage flipM flipN)

/-- MODULE_PORTS_READY (R59). -/
def execModulePortsReady (s : State) : Out := .next s.portsReady

/-- CHECKPOINT_ROOTS_LOADED (R248, R269). -/
def execCheckpointRootsLoaded (partner : RootsRead) (s : State) : Out := .next (s.rootsLoaded partner)

/-- JOURNAL_REPLAY_DONE (R59, R249). -/
def execJournalReplayDone (partnerMissing : Bool) (scan : List ScanRow) (s : State) : Out := .next (s.replayDone partnerMissing scan)

/-- MAIN_POWER_LOSS (R50, R194). -/
def execMainPowerLoss (s : State) : Out := .next (if s.chip.mainPwrOk then s.mainLoss else s)

/-- HOLDUP_SELF_RESET (R194). -/
def execHoldupSelfReset (s : State) : Out :=
  .next (if s.chip.holdup && s.chip.holdupDone && s.chip.pwrFailN then
      let n := s.chipReset.rtcNow
      n.2.romStart s.chip.bootPins n.1
    else s)

end Sys2Proof.Machine
end

