-- ==== Sys2Proof/Machine/Control.lean ====
section
/-!
DEFINITION. Sys2Proof/Machine/Control.lean: accesses to the register file from BAR0 (R25 to R28, R34), `BLK_CTRL` with the block
states (R35, R36), the generation commit and what each block's commit does (R39 to R42), and the time base (R45 to R48).
-/

namespace Sys2Proof.Machine

/-- The header registers of a page that a write can change (R34). -/
def headerWritable (off : Nat) : Bool := [0x10, 0x20, 0x28, 0x38, 0x40].contains off

namespace State

/-! ## The generation commit (R40) -/

/-- Every active copy of a page takes its staging register's value. A staging register that is not listed holds its reset value, and so
does its active copy then. -/
def commitCopy (s : State) (page : Nat) : State :=
  let base := page * 0x10000
  let l := s.regs.filter (fun e => decide (base + 0x100 ≤ e.1) && decide (e.1 < base + 0x8000) && isStaged e.1)
  { s with regs := s.regs.filter (fun e => !(decide (base + 0x8100 ≤ e.1) && decide (e.1 < base + 0x10000))) }.setRegs
    (l.map (fun (e : Nat × Word) => (e.1 + 0x8000, e.2)))

/-- A commit takes effect: the copy, the generation and the pending bit. -/
def commitTake (s : State) (page : Nat) : State :=
  ((s.commitCopy page).genNext page).setBit (Reg.BLK_STATE_COMMIT_PENDING page) false

/-- A commit is discarded, with a sticky error bit. -/
def commitDrop (s : State) (page bit : Nat) : State :=
  (s.setBit (Reg.BLK_STATE_COMMIT_PENDING page) false).stick page bit

/-- The staged registers of a page, offset and value, in address order. -/
def stagedOf (s : State) (page : Nat) : List (Nat × Word) :=
  let base := page * 0x10000
  (s.regs.filter (fun e => decide (base + 0x100 ≤ e.1) && decide (e.1 < base + 0x8000) && isStaged e.1)).map
    (fun e => (e.1 - base, e.2))

/-- Whether an instance can commit: not FAILED or RETIRED (R41). -/
def canCommit (s : State) (page : Nat) : Bool := s.blk page != FAILED && s.blk page != RETIRED

/-- The two instances of a pair (`LOOM`, `MEDIA`) commit together, each from its own staging registers; differing staging digests
discard the commit in both (R128, R283). An instance out of service takes no part. -/
def commitPair (s : State) (p0 p1 : Nat) : State × Bool :=
  if s.canCommit p0 && s.canCommit p1 then
    if s.stagedOf p0 = s.stagedOf p1 then ((s.commitTake p0).commitTake p1, true)
    else ((s.commitDrop p0 0).commitDrop p1 0, false)
  else if s.canCommit p0 then (s.commitTake p0, true)
  else if s.canCommit p1 then (s.commitTake p1, true)
  else (s, false)

/-- The bytes of staged registers, for the measurement of R66. -/
def stagedBytes (l : List (Nat × Word)) : Bytes := l.flatMap (fun e => bytesLE e.1 4 ++ bytesLE e.2.toNat 8)

/-- A `LOOM` commit (R128); the first one is measured (R66). -/
def commitLoom (s : State) : State :=
  let p := s.commitPair (Reg.LOOM_PAGE 0) (Reg.LOOM_PAGE 1)
  if p.2 && (s.mrBytes 4).all (fun b => b == 0) then
    p.1.measExtend 4 (bytesBE (Config.sha384 (stagedBytes (s.stagedOf (Reg.LOOM_PAGE s.loomActive)))))
  else p.1

/-- A `REED` commit (R149, R168): shares above 65,536 in sum discard it; otherwise the staged bank becomes active. -/
def commitReed (s : State) : State :=
  let page := Reg.REED_PAGE
  if 65536 < (s.shareSum).fld Reg.REED_SHARE_SUM_SUM then s.commitDrop page 0
  else
    let s1 := ((s.loom.active ++ s.loom.staged).map (fun e => e.1)).dedup.foldl contractMove s
    { s1 with loom.active := s1.loom.staged }.commitTake page

/-- A region is resized: its ring starts empty, and both dump areas are sized anew (R200, R279). -/
def resizeDump (s : State) : State := ((s.resizeArea 0).resizeArea 1).armShow

/-- Extents of commands whose records have no header yet, taken anew from the start of an empty ring: DESIGN CHOICE, R200 lets the size of a
region without records change whatever is booked in it (log entry 138). -/
def packExtents (s : State) : State :=
  (s.jr.exts.filter (fun (e : Ext) => e.cmd.isSome)).foldl (fun (t : State) (e : Ext) =>
    { (t.modCmd (e.cmd.getD 0) (fun c => { c with ext := some (t.jr.next, e.blks) })) with
      jr.exts := t.jr.exts ++ [{ e with off := t.jr.next }]
      jr.next := t.jr.next + e.blks }) { s with jr.exts := [], jr.next := 0 }

/-- Deferred region sizes that can take effect do so (R200). -/
def sizesApply (s : State) : State :=
  let s1 :=
    match s.jr.ownDefer with
    | some n =>
      if s.jr.own.isEmpty then ({ s.packExtents with jr.ownDefer := none }.ringClear 0).setAct Reg.SELV_CFG_OWN_GIB n |>.resizeDump
      else s
    | none => s
  match s1.jr.mirDefer with
  | some n => if s1.jr.mir.isEmpty then ({ s1 with jr.mirDefer := none }.ringClear 1).setAct Reg.SELV_CFG_MIRROR_GIB n |>.resizeDump else s1
  | none => s1

/-- A `SELV` commit (R200): a region size changes only while its region holds no record. -/
def commitSelv (s : State) : State :=
  let page := Reg.SELV_PAGE
  let o := s.act Reg.SELV_CFG_OWN_GIB
  let m := s.act Reg.SELV_CFG_MIRROR_GIB
  let no := s.fld Reg.SELV_CFG_OWN_GIB
  let nm := s.fld Reg.SELV_CFG_MIRROR_GIB
  let s1 := ((s.commitTake page).setAct Reg.SELV_CFG_OWN_GIB o).setAct Reg.SELV_CFG_MIRROR_GIB m
  let s2 := { s1 with jr.ownDefer := if no = o then none else some no, jr.mirDefer := if nm = m then none else some nm }.sizesApply
  if s2.jr.ownDefer.isSome || s2.jr.mirDefer.isSome then s2.stick page 0 else s2

/-- `MODE_PAIR` set where the modes in effect call for it: in a quad with a reserved mode, and in both quads of an 800GbE pair of which only
one is in mode 3: DESIGN CHOICE, the rule names no quad (R74, log entry 135). -/
def modePair (s : State) (q : Nat) : State :=
  let p := if q % 2 = 0 then q + 1 else q - 1
  let mode := s.act (Reg.ETHP_MODE_MODE q)
  if decide (mode = 3) != decide (s.act (Reg.ETHP_MODE_MODE p) = 3) then (s.stick (Reg.ETHP_PAGE q) 1).stick (Reg.ETHP_PAGE p) 1
  else if 3 < mode then s.stick (Reg.ETHP_PAGE q) 1
  else s

/-- An `ETHP` commit (R74). -/
def commitEthp (s : State) (page : Nat) : State :=
  let q := page - Reg.ETHP_PAGE 0
  let f := Reg.ETHP_MODE_MODE q
  let old := s.act f
  let held := s.blk page != OFF && s.blk page != DRAINED && s.fld f != old
  let s1 := s.commitTake page
  let s2 := if held then (s1.setAct f old).stick page 0 else s1
  s2.modePair q

/-- A `HEDDLE` commit (R88): the previous table is kept while frames tagged with it remain. An entry that becomes valid answers when this
head answers for its kind of address; one that stays keeps `ACTIVE` (R93, R94). -/
def commitHeddle (s : State) : State :=
  let was := fun i => decide (s.act (Reg.HEDDLE_ADDR_ATTR_VALID i) = 1)
  let home := fun i => s.act (Reg.HEDDLE_ADDR_ATTR_HOME i)
  let s1 := s.commitTake Reg.HEDDLE_PAGE
  let s2 := (List.range 256).foldl (fun (t : State) i =>
    let answers := if t.act (Reg.HEDDLE_ADDR_ATTR_HOME i) = 0 then t.fab.answersHome else t.fab.answersPartner
    let a : Bool := t.act (Reg.HEDDLE_ADDR_ATTR_VALID i) = 1
      && (if was i && home i = t.act (Reg.HEDDLE_ADDR_ATTR_HOME i) then s.act (Reg.HEDDLE_ADDR_ATTR_ACTIVE i) = 1 else answers)
    if t.act (Reg.HEDDLE_ADDR_ATTR_ACTIVE i) = a.toNat && t.fld (Reg.HEDDLE_ADDR_ATTR_ACTIVE i) = a.toNat then t
    else (t.setBit (Reg.HEDDLE_ADDR_ATTR_ACTIVE i) a).setAct (Reg.HEDDLE_ADDR_ATTR_ACTIVE i) a.toNat) s1
  { s2 with fab.addrGen := s2.fab.addrGen + 1, fab.addrOld := !s2.fab.frames.isEmpty }

/-- A `MAPX` commit (R209, R228). -/
def commitMapx (s : State) : State :=
  let old := s.act Reg.MAPX_INDEX_CFG_BUCKET_LOG2
  let new := s.fld Reg.MAPX_INDEX_CFG_BUCKET_LOG2
  let s1 := { s with mp.redA := s.mp.redS }.commitTake Reg.MAPX_PAGE
  if old = new then s1
  else
    (if s1.mp.rebuild.isSome then { s1 with mp.rebuildNext := some new } else { s1 with mp.rebuild := some new }).indexShow

/-- A `DIKOR` commit: a quad removed from `QUAD_EN` leaves the mask as R343 says once a planned change may start, unless fewer than three would
remain; a quad enabled out of the mask may return (R344). -/
def commitDikor (s : State) : State :=
  let page := Reg.DIKOR_PAGE
  let old := s.act Reg.DIKOR_CFG_QUAD_EN
  let new := s.fld Reg.DIKOR_CFG_QUAD_EN
  let mask := s.dk.named.getD (s.fld Reg.DIKOR_STATUS_QUAD_MASK)
  let good := mask &&& new
  let removed := old &&& (63 - new) != 0
  if removed && popcount (if s.linkUp then good else new) < 3 then s.commitDrop page 0
  else
    let s1 := s.commitTake page
    { s1 with dk.leftOut := s1.dk.leftOut &&& (63 - new), dk.asked := new &&& (63 - mask) }.quadDrop

/-- A `TRACE` commit: each source that it enables emits a SYNC; the program counters of cores are free values. -/
def commitTrace (s : State) : State :=
  let on := fun (t : State) => (List.range 61).filter t.traceOn
  let s1 := s.commitTake Reg.TRACE_PAGE
  let new := (on s1).filter (fun x => !(on s).contains x)
  { s1 with freeCtr := s1.freeCtr + 17 }.traceSync new ((List.range 17).map (fun i => (Config.openWord (s1.freeCtr + i)).setWidth 48))

/-- A `MEDIA` commit: both instances, and `WIDTH` and `OP_PCT` change the capacities at once (R282, R283). -/
def commitMedia (s : State) : State :=
  let r := s.commitPair (Reg.MEDIA_PAGE 0) (Reg.MEDIA_PAGE 1)
  if r.2 then r.1.capacityShow else r.1

/-- A commit of the block on a page takes effect, with what its chapter says of it. -/
def commitApply (s : State) (page : Nat) : State :=
  match blockAt page with
  | none => s
  | some (b, num) =>
  match b.type with
  | .ethp => s.commitEthp page
  | .heddle => s.commitHeddle
  | .loom => s.commitLoom
  | .reed => s.commitReed
  | .selv => s.commitSelv
  | .media => s.commitMedia
  | .mapx => s.commitMapx
  | .modp => ((s.commitTake page).evacuate num).adoptModule num
  | .dikor => s.commitDikor
  | .pwr => ((List.range (blockCount + 1)).foldl powerEval (s.commitTake page)).avsRefresh
  | .intc => (s.commitTake page).intcEval
  | .trace => s.commitTrace
  | _ => s.commitTake page

/-- The instances that a commit on a page concerns: both of a pair. -/
def commitPages (page : Nat) : List Nat :=
  if page = Reg.LOOM_PAGE 0 || page = Reg.LOOM_PAGE 1 then [Reg.LOOM_PAGE 0, Reg.LOOM_PAGE 1]
  else if page = Reg.MEDIA_PAGE 0 || page = Reg.MEDIA_PAGE 1 then [Reg.MEDIA_PAGE 0, Reg.MEDIA_PAGE 1]
  else [page]

/-- Whether a commit takes effect in the next cycle: OFF, DRAINED and SPARE (R40). The address table waits for its previous version
(R88). -/
def commitNow (s : State) (page : Nat) : Bool :=
  (commitPages page).all (fun p => s.blk p == OFF || s.blk p == DRAINED || s.blk p == SPARE || !s.canCommit p)
    && !(page == Reg.HEDDLE_PAGE && s.fab.addrOld)

/-- A 1 written to `COMMIT` (R40, R41). -/
def commitAsk (s : State) (page : Nat) : State :=
  if !((blockAt page).map (fun b => b.1.staging)).getD false || s.bit (Reg.BLK_STATE_COMMIT_PENDING page) then s
  else if s.commitNow page then s.commitApply page
  else
    ((commitPages page).filter s.canCommit).foldl (fun t p => t.setBit (Reg.BLK_STATE_COMMIT_PENDING p) true) s

/-! ## Block states (R35) -/

/-- The port lanes of a quad, or of its 800GbE pair, leave service. -/
def portsOut (s : State) (page : Nat) : State :=
  let q := page - Reg.ETHP_PAGE 0
  let gone := fun (p : Nat) => p / 4 == q || (s.act (Reg.ETHP_MODE_MODE q) == 3 && p / 8 == q / 2)
  { s with fab.up := s.fab.up.filter (fun p => !gone p) }

/-- A block enters a state by an event of R35, with what hangs on it. -/
def enter (s : State) (page st : Nat) : State :=
  let s1 := s.toState page st
  match blockAt page with
  | some (b, _) =>
    match b.type with
    | .ethp => if st = ACTIVE || st = DRAINING || st = STARTING then s1 else s1.portsOut page
    | .dramc => s1.setFld Reg.SELV_STATUS_CHANNELS s1.channelsIn
    | _ => s1
  | none => s1

/-- The state after DRAINED or SPARE with `ENABLE` = 0. -/
def afterIdle (s : State) (page : Nat) : Nat := if s.fld (Reg.BLK_CTRL_ROLE page) = 0xF then RETIRED else OFF

/-- The rows of R35 that a level decides: a DRAINED block whose `DRAIN` is 0 and `ENABLE` 1 is ACTIVE again; a DRAINED or SPARE one whose
`ENABLE` is 0 goes to OFF or RETIRED. -/
def drainedEval (s : State) (page : Nat) : State :=
  if s.blk page = SPARE then (if s.bit (Reg.BLK_CTRL_ENABLE page) then s else s.enter page (s.afterIdle page))
  else if s.blk page != DRAINED then s
  else if !s.bit (Reg.BLK_CTRL_ENABLE page) then s.enter page (s.afterIdle page)
  else if !s.bit (Reg.BLK_CTRL_DRAIN page) then s.enter page ACTIVE
  else s

/-- The events of R35 that a `BLK_CTRL` write raises. -/
def ctrlEvents (s : State) (page : Nat) : State :=
  let en := s.bit (Reg.BLK_CTRL_ENABLE page)
  let dr := s.bit (Reg.BLK_CTRL_DRAIN page)
  let st := s.blk page
  if st = OFF then (if en && s.pwr page = PWR_ON then s.enter page STARTING else s)
  else if st = ACTIVE then (if dr || !en then s.enter page DRAINING else s)
  else s.drainedEval page

/-- The fields `ROLE`, `DRAIN` and `ENABLE` of a `BLK_CTRL` write; `DRAIN` reads 0 in a block that does not drain (R35). -/
def ctrlFields (s : State) (b : BlockInfo) (page : Nat) (w : Word) : State :=
  ((s.setFld (Reg.BLK_CTRL_ROLE page) (bitsOf w 4 4)).setFld (Reg.BLK_CTRL_DRAIN page) (if b.drainable then bitsOf w 1 1 else 0)).setFld
    (Reg.BLK_CTRL_ENABLE page) (bitsOf w 0 1)

/-- Whether a soft reset is honoured in a block's state (R36). -/
def mayReset (s : State) (page : Nat) : Bool := s.blk page == OFF || s.blk page == DRAINED || s.blk page == SPARE

/-- The effect of a `BLK_CTRL` write that has passed the checks of an access (R35, R36, R41). Of one write that sets `COMMIT` and writes `DRAIN` or
`ENABLE`, the commit is applied first: in ACTIVE it is taken up first, and it takes effect at the block's commit boundary, which `DRAIN` and `ENABLE` do not
wait for: DESIGN CHOICE (log entry 144). -/
def ctrlEffect (s : State) (b : BlockInfo) (page : Nat) (w : Word) : State :=
  let soft := w.getLsbD 2 && b.resettable
  let commit := w.getLsbD 3 && b.staging
  if (soft && !s.mayReset page) || (commit && !s.canCommit page) then s.discard (Reg.BLK_CTRL page) false true .state
  else if soft then
    ((((s.ctrlFields b page w).setBit (Reg.BLK_CTRL_SOFT_RESET page) true).setBit (Reg.BLK_STATE_RESET_BUSY page) true)).setBit
      (Reg.BLK_STATE_COMMIT_PENDING page) false
  else
    let s1 := (if commit then s.commitAsk page else s).ctrlFields b page w
    if s1.bit (Reg.BLK_STATE_RESET_BUSY page) then s1 else s1.ctrlEvents page

/-- A BAR0 write of `BLK_CTRL`. -/
def ctrlWrite (s : State) (page : Nat) (w : Word) : State :=
  let a := Reg.BLK_CTRL page
  if !s.barReachable then s
  else if page = 0 then s.discard a false true .readOnly
  else
    match blockAt page with
    | none => s.discard a false true .unmapped
    | some (b, _) => s.barWrite a (fun t => t.ctrlEffect b page w)

/-- What a soft reset does to the tables of a block that no register holds. -/
def resetTables (s : State) (page : Nat) : State :=
  match blockAt page with
  | none => s
  | some (b, num) =>
  match b.type with
  | .heddle => { s with fab.conns := [], fab.deleted := [], fab.upd := [], fab.old := [], fab.frames := [], fab.addrOld := false }
  | .reed => { s with loom.staged := [], loom.active := [], loom.buckets := [], loom.ledger := [], loom.ovr := [], loom.ovrAcc := [] }
  | .mapx => { s with mp.redS := [], mp.redA := [], mp.rebuild := none, mp.rebuildNext := none }
  | .selv => { s with jr.ownDefer := none, jr.mirDefer := none }
  | .intc => { s with intc.claimed := [], intc.routed := [], intc.lastCore := [], intc.holdEnd := [] }
  | .trace => { s with trc.buf := [], trc.lost := [], trc.rd := 0, trc.put := 0 }
  | .temple => { s with pw.loops := [] }
  | .evrec => { s with evrec.buckets := [] }
  | .ctlch => (List.range 16).foldl (fun t r => t.ringDrop r) s
  | .dpc => { s with mp.bobbins := tDel s.mp.bobbins num, mp.dictCache := tDel s.mp.dictCache num }
  | _ => s

/-- A soft reset completes (R36): every field except ROS fields returns to its reset value, `GEN` is 0 and the block rests in OFF. -/
def softDone (s : State) (page : Nat) : State :=
  if !s.bit (Reg.BLK_STATE_RESET_BUSY page) then s
  else
    let pwr := s.pwr page
    let keep := fun (e : Nat × Word) => e.1 / 0x10000 != page || 0x100 ≤ e.1 % 0x10000 || e.1 % 0x10000 = 0x38
    let s1 := ({ s with regs := s.regs.filter keep }.setFld (Reg.BLK_STATE_PWR page) pwr).resetPage page
    let s2 := (s1.resetTables page).setReg (Reg.BLK_INT_RAW page) (s.heldBits page)
    let s3 := s2.toState page OFF
    (match blockAt page with
      | some (b, q) => if b.type = BlockType.ethp then s3.modePair q else s3
      | none => s3).intcEval

/-! ## Register accesses -/

/-- What the register at a BAR0 address is, for a write: a header register, a reserved header offset, a register of the block, or an
active copy. -/
inductive RegAt where
  | header (page off : Nat)
  | reserved
  | block (page : Nat) (r : RegDesc)
  | activeCopy
  | page0
  | none
  deriving DecidableEq, Repr

/-- The register at an aligned address (R34, R39). -/
def regAt (a : Nat) : RegAt :=
  let page := a / 0x10000
  let off := a % 0x10000
  if page = 0 then .page0
  else
    match blockAt page with
    | .none => .none
    | some (b, _) =>
      if off < 0x60 then .header page off
      else if off < 0x100 then .reserved
      else
        match findReg b.type off with
        | some (r, _) => .block page r
        | .none =>
          if 0x8100 ≤ off && ((findReg b.type (off - 0x8000)).map (fun x => x.1.staged)).getD false then .activeCopy else .none

/-- What an outcome leaves of a state. -/
def after (s : State) : Out → State
  | .next t => t
  | _ => s

/-- A register written with the value its fields give; the size register of a ring enables or disables the ring (R499). -/
def ringSizeWrite (s : State) (a : Nat) (v : Word) : State :=
  match (List.range 17).find? (fun k => a == if k = 16 then Reg.CTLCH_EV_RING_SIZE else Reg.CTLCH_RING_SIZE k) with
  | none => s.setReg a v
  | some k =>
    if v.getLsbD 63 then
      if (s.reg a).getLsbD 63 then s.setReg a v
      else s.after (execRingEnable (Fin.ofNat 17 k) (BitVec.ofNat 40 (bitsOf v 12 40)) (BitVec.ofNat 4 (bitsOf v 0 4)) s)
    else if (s.reg a).getLsbD 63 then (s.after (execRingDisable (Fin.ofNat 17 k) s)).setReg a v
    else s.setReg a v

/-- `I_RESET` bits that a write has set are taken, for the next sample of their loops (R438). -/
def iResetWrites (s : State) : State :=
  (List.range 8).foldl (fun (t : State) l =>
    if (t.reg (Reg.TEMPLE_CTRL l)).getLsbD 3 then
      (t.setReg (Reg.TEMPLE_CTRL l) (t.reg (Reg.TEMPLE_CTRL l) &&& ~~~(8 : Word))).setLoop l { t.loop l with iReset := true }
    else t) s

/-- What follows when a register with an effect of its own has been written. -/
def regHook (s : State) (page a : Nat) : State :=
  match blockAt page with
  | some (b, num) =>
    match b.type with
    | .modp => if a = Reg.MODP_SLOT_CTRL_STS num then s.slotCtlEval num else s
    | .temple => s.iResetWrites |> fun (s : State) => (List.range 8).foldl (fun (t : State) l => if t.bit (Reg.TEMPLE_CTRL_ENABLE l) then t else (t.loopSafe l).loopDrive l) s
    | _ => s
  | none => s

/-- A write of `TIME.STEP` (R46): applied at once until `STATE` first leaves UNSYNCED, and each enabled trace source then emits a SYNC. -/
def timeStepWrite (s : State) (ns : Word) : State :=
  s.barWrite Reg.TIME_STEP (fun t =>
    if t.fld Reg.TIME_STATUS_STATE = 0 && !t.chip.leftUnsynced then t.stepTo ((t.now : Int) + ns.toInt).toNat
    else t.discard Reg.TIME_STEP false true .locked)

/-- Whether an offset of a `LOOM` page lies in the energy cards of the reserved operation types 12 to 15, which read 0 (R167). -/
def reservedCard (page off : Nat) : Bool :=
  (page == Reg.LOOM_PAGE 0 || page == Reg.LOOM_PAGE 1) && decide (0x10C0 ≤ off) && decide (off < 0x1100)

/-- The effect of a 64-bit write on a register of a block, its fields under R28; the causes are taken lowest first (R25). -/
def blockWrite (s : State) (a page : Nat) (r : RegDesc) (w : Word) : State :=
  let pre := if s.pwr page != PWR_ON then some AccessCause.poweredOff
    else if r.staged && s.bit (Reg.BLK_STATE_COMMIT_PENDING page) then some AccessCause.stageBusy else none
  let needs := needsSession a && !s.adminOpen
  match pre, regDescWrite r s.rwlLocked (s.reg a) w with
  | some c, _ => s.discard a false true c
  | none, .inl .locked => s.discard a false true .locked
  | none, .inl c => s.discard a false true (if needs then .session else c)
  | none, .inr v =>
    if needs then s.discard a false true .session
    else if a = Reg.TIME_STEP then s.timeStepWrite w
    else if reservedCard page (a % 0x10000) then s
    else if a = Reg.CHIP_ACCESS_ERR then (if w.getLsbD 0 then s.setReg a 0 else s)
    else if a = Reg.CHIP_ACCESS_ERR_CNT then (if w.setWidth 32 = (0 : BitVec 32) then s else s.setReg a 0)
    else (s.ringSizeWrite a v).regHook page a

/-- The effect of a 64-bit write on a header register (R34). `BLK_INT_RAW`, `BLK_INT_MASK` and `BLK_ERR_STICKY` take writes in every power
state, as `BLK_CTRL` and `BLK_PWR_REQ` do: DESIGN CHOICE, R27 names the last two and is silent on the others (log entry 64). -/
def headerWrite (s : State) (page off : Nat) (w : Word) : State :=
  let a := page * 0x10000 + off
  if off = 0x10 then s.ctrlWrite page w
  else if needsSession a && !s.adminOpen then s.discard a false true .session
  else if off = 0x20 then (s.clearRaw page w).intcEval
  else if off = 0x28 then (s.setReg a w).intcEval
  else if off = 0x38 then s.setReg a (s.reg a &&& ~~~w)
  else if off = 0x40 then (s.setFld (Reg.BLK_PWR_REQ_REQ page) (bitsOf w 0 2)).powerEval page
  else s.discard a false true .readOnly

/-- A BAR0 write (R25 to R28). -/
def regWrite (s : State) (addr bytes : Nat) (w : Word) : State :=
  if !s.barReachable then s
  else
    let size32 : Bool := bytes = 4
    let a := addr / 8 * 8
    match regAt a with
    | .page0 =>
      if bytes != 8 then s.discard addr size32 true .size
      else if addr % 8 != 0 then s.discard addr size32 true .misaligned
      else s.discard addr size32 true .readOnly
    | .none => s.discard addr size32 true .unmapped
    | k =>
      if bytes != 8 then s.discard addr size32 true .size
      else if addr % 8 != 0 then s.discard addr size32 true .misaligned
      else
        match k with
        | .header page off => s.headerWrite page off w
        | .block page r => s.blockWrite a page r w
        | .activeCopy =>
          if s.pwr (a / 0x10000) != PWR_ON then s.discard addr size32 true .poweredOff
          else if needsSession a && !s.adminOpen then s.discard addr size32 true .session
          else s.discard addr size32 true .readOnly
        | _ => s

/-- What an aligned 64-bit read of BAR0 shows: the Pattern Deck and zeros behind it on page 0 (R29), the time base at the moment of the
read (R48), pending interrupts (R37), and elsewhere the register. -/
def regRead (s : State) (a : Nat) : Word :=
  if a < 0x10000 then BitVec.ofNat 64 ((List.range 8).foldl (fun n i => n + deck.getD (a + i) 0 * 256 ^ i) 0)
  else if a = Reg.TIME_NOW then BitVec.ofNat 64 s.now
  else if a % 0x10000 = 0x30 then s.intPend (a / 0x10000)
  else s.reg a

/-- A read that breaks no rule: its completion carries the bytes asked for. The upper half of `TIME.NOW` is the latched one, once (R48). -/
def goodRead (s : State) (addr bytes : Nat) : State :=
  let a := addr / 8 * 8
  let part := BitVec.ofNat 64 (bitsOf (s.regRead a) (8 * (addr % 8)) (8 * bytes))
  if a = Reg.TIME_NOW && bytes = 4 then
    if addr % 8 = 0 then { s with chip.nowHigh := some (BitVec.ofNat 32 (s.now / 2 ^ 32)) }.emit (.barData part)
    else
      match s.chip.nowHigh with
      | some h => { s with chip.nowHigh := none }.emit (.barData (h.setWidth 64))
      | none => s.emit (.barData part)
  else s.emit (.barData part)

/-- A read that breaks an access rule is captured and counted, and completes with zero (R25). -/
def zeroRead (s : State) (addr : Nat) (size32 : Bool) (c : AccessCause) : State := (s.discard addr size32 false c).emit (.barData 0)

/-- A BAR0 read (R25): discarded under the first cause that it meets, else completed with its data. -/
def badRead (s : State) (addr bytes : Nat) : State :=
  if !s.barReachable then s
  else
    let size32 : Bool := bytes = 4
    let page0 : Bool := addr / 0x10000 = 0
    let mapped := regAt (addr / 8 * 8) != .none
    let sizeOk := bytes = 8 || bytes = 4 || (page0 && (bytes = 1 || bytes = 2))
    if !mapped then s.zeroRead addr size32 .unmapped
    else if !sizeOk then s.zeroRead addr size32 .size
    else if addr % bytes != 0 then s.zeroRead addr size32 .misaligned
    else if !page0 && 0x100 ≤ addr % 0x10000 && s.pwr (addr / 0x10000) != PWR_ON then s.zeroRead addr size32 .poweredOff
    else s.goodRead addr bytes

/-- A `BLK_INT_RAW` write that clears bits (R37). -/
def rawWrite (s : State) (page : Nat) (w : Word) : State :=
  let a := Reg.BLK_INT_RAW page
  if !s.barReachable then s
  else if page = 0 then s.discard a false true .readOnly
  else if (blockAt page).isNone then s.discard a false true .unmapped
  else s.barWrite a (fun t => (t.clearRaw page w).intcEval)

/-- A value with a bit set. -/
def withBit (w : Word) (n : Nat) : Word := setBits w n 1 1

/-- `TIME.STATUS.STATE` moves from one value to another. -/
def timeMove (s : State) (old new : Nat) : State :=
  if s.fld Reg.TIME_STATUS_STATE = old then s.setFld Reg.TIME_STATUS_STATE new else s

end State

open State

/-- REGISTER_WRITE (R25 to R28). -/
def execRegisterWrite (addr : BitVec 29) (bytes : Nat) (value : Word) (s : State) : Out := .next (s.regWrite addr.toNat bytes value)

/-- DISCARDED_READ (R25): the read returns zero with successful completion and is captured and counted. -/
def execDiscardedRead (addr : BitVec 29) (bytes : Nat) (s : State) : Out := .next (s.badRead addr.toNat bytes)

/-- BLK_ENABLE (R35): a write of `BLK_CTRL` with `ENABLE` 1. -/
def execBlkEnable (page : BitVec 13) (value : Word) (s : State) : Out := .next (s.ctrlWrite page.toNat (withBit value 0))

/-- BLK_DISABLE (R35): a write of `BLK_CTRL` with `ENABLE` 0. -/
def execBlkDisable (page : BitVec 13) (value : Word) (s : State) : Out := .next (s.ctrlWrite page.toNat (setBits value 0 1 0))

/-- BLK_DRAIN (R35): a write of `BLK_CTRL` with `DRAIN` 1. -/
def execBlkDrain (page : BitVec 13) (value : Word) (s : State) : Out := .next (s.ctrlWrite page.toNat (withBit value 1))

/-- SOFT_RESET (R36): a write of `BLK_CTRL` with `SOFT_RESET` 1. -/
def execSoftReset (page : BitVec 13) (value : Word) (s : State) : Out := .next (s.ctrlWrite page.toNat (withBit value 2))

/-- SOFT_RESET_DONE (R36). -/
def execSoftResetDone (page : BitVec 13) (s : State) : Out := .next (s.softDone page.toNat)

/-- BLK_COMMIT (R40, R41): a write of `BLK_CTRL` with `COMMIT` 1. -/
def execBlkCommit (page : BitVec 13) (value : Word) (s : State) : Out := .next (s.ctrlWrite page.toNat (withBit value 3))

/-- Blocks whose chapter names the beat boundary as their commit boundary: BEAT_BOUNDARY takes their commits. -/
def beatPages : List Nat :=
  [Reg.LOOM_PAGE 0, Reg.LOOM_PAGE 1, Reg.REED_PAGE, Reg.MEDIA_PAGE 0, Reg.MEDIA_PAGE 1, Reg.MAPX_PAGE, Reg.DIKOR_PAGE, Reg.OWN_PAGE, Reg.REPL_PAGE,
    Reg.PWR_PAGE, Reg.THERM_PAGE, Reg.MGMT_PAGE, Reg.EVREC_PAGE, Reg.PICK_PAGE, Reg.TRACE_PAGE, Reg.CTLCH_PAGE]
    ++ (List.range 18).map Reg.DPC_PAGE ++ (List.range 64).map Reg.MODP_PAGE

/-- Whether BLK_COMMIT_APPLY is a block's commit boundary (R40): its chapter names another than the beat boundary, or the block is OFF, DRAINED or
SPARE and commits in the next cycle. -/
def commitsNow (s : State) (page : Nat) : Bool :=
  !beatPages.contains page || s.blk page == OFF || s.blk page == DRAINED || s.blk page == SPARE

/-- BLK_COMMIT_APPLY (R40): the commit boundary of a block with a commit pending; the address table waits for its previous version
(R88). A block that commits at the beat boundary waits for BEAT_BOUNDARY. -/
def execBlkCommitApply (page : BitVec 13) (s : State) : Out :=
  .next (
    if s.bit (Reg.BLK_STATE_COMMIT_PENDING page.toNat) && !(decide (page.toNat = Reg.HEDDLE_PAGE) && s.fab.addrOld)
        && commitsNow s page.toNat then
      s.commitApply page.toNat
    else s)

/-- INIT_COMPLETE (R35, R48): a `LOOM` instance becomes ACTIVE only once step 12 is past and the link has been settled. -/
def execInitComplete (page : BitVec 13) (s : State) : Out :=
  .next (
    let p := page.toNat
    let loom : Bool := p = Reg.LOOM_PAGE 0 || p = Reg.LOOM_PAGE 1
    let settled := s.chip.steps.contains 12 && (s.dk.passed || s.bit Reg.DIKOR_STATUS_ABSENT || s.lstate = 10 || s.lstate = 11)
    if s.blk p != STARTING || (loom && !settled) then s
    else
      let spare := s.fld (Reg.BLK_CTRL_ROLE p) = 0xE && ((blockAt p).map (fun b => b.1.spare)).getD false
      (s.enter p (if spare then SPARE else ACTIVE)).drainedEval p)

/-- Whether a DRAINING block has no work left that the model knows of: a planned change has had its turn (R21), and the regions are
striped away from a DRAM channel (R199). -/
def drainOver (s : State) (page : Nat) : Bool :=
  match blockAt page with
  | some (b, n) =>
    if b.type = .dramc then s.changeTurn page && !s.jr.striped.contains n
    else if b.type = .dpc || b.type = .svc then s.changeTurn page
    else true
  | none => true

/-- DRAIN_COMPLETE (R35): the held power request is granted (R38). -/
def execDrainComplete (page : BitVec 13) (s : State) : Out :=
  .next (
    if s.blk page.toNat = DRAINING && drainOver s page.toNat then (s.enter page.toNat DRAINED).drainedEval page.toNat else s)

/-- INT_RAW_CLEAR (R36, R37). -/
def execIntRawClear (page : BitVec 13) (value : Word) (s : State) : Out := .next (s.rawWrite page.toNat value)

/-- ACCESS_ERR_REARM (R44). -/
def execAccessErrRearm (value : Word) (s : State) : Out := .next (s.regWrite Reg.CHIP_ACCESS_ERR 8 value)

/-- ACCESS_ERR_CNT_CLEAR (R44). -/
def execAccessErrCntClear (value : Word) (s : State) : Out := .next (s.regWrite Reg.CHIP_ACCESS_ERR_CNT 8 value)

/-- TIME_STEP (R46). -/
def execTimeStep (ns : Word) (s : State) : Out := .next (s.timeStepWrite ns)

/-- TIME_NOW_LOW_READ (R48): a 32-bit read of the lower half, which latches the upper half for the next read of it. -/
def execTimeNowLowRead (s : State) : Out :=
  .next (s.badRead Reg.TIME_NOW 4)

/-- TIME_LOCKED (R46, R47). -/
def execTimeLocked (s : State) : Out := .next (s.timeMove 2 3)

/-- TIME_SOURCE_LOST (R46). -/
def execTimeSourceLost (s : State) : Out := .next (s.timeMove 3 4)

/-- TIME_SOURCE_RETURN (R46). -/
def execTimeSourceReturn (s : State) : Out := .next (s.timeMove 4 2)

/-- PPS_IN_EDGE (R48). -/
def execPpsInEdge (s : State) : Out :=
  .next (if s.chip.cond == .reset then s else s.setReg Reg.TIME_PPS_CAPTURE (BitVec.ofNat 64 s.now))

/-- PPS_OUT_PULSE (R48): `PPS_OUT` stays low in reset and in the fatal condition (R55). -/
def execPpsOutPulse (s : State) : Out :=
  .next (
    if s.chip.cond != .reset && s.chip.cond != .fatal && s.bit Reg.TIME_CTRL_PPS_OUT_EN then { s with chip.ppsOut := s.chip.ppsOut + 1 } else s)

end Sys2Proof.Machine
end

