-- ==== Sys2Proof/Machine/Failures.lean ====
section
/-!
DEFINITION. Sys2Proof/Machine/Failures.lean: a single fault of each element of R20 and what remains of the head, clock loss (R429), the
hardware trip (R433), and the idle sub-domains of a DPC (R421).
-/

namespace Sys2Proof.Machine

namespace State

/-- The head stops serving and its heartbeat stops, so that the partner takes over (R20, R351, R466). -/
def headOut (s : State) : State :=
  { s.dropHosts with
    chip.cond := if s.chip.cond = Cond.serving then Cond.booting else s.chip.cond
    chip.hbOut := false }.setBit Reg.DIKOR_STATUS_HB_OUT_ON false

/-- Whether a block can fail: any state but RETIRED, and not FAILED already (R35). -/
def canFail (s : State) (page : Nat) : Bool := s.blk page != RETIRED && s.blk page != FAILED

/-- A `LOOM` instance fails: the other is ACTIVE in simplex (R126); with none left the head is out (R351). -/
def loomFault (s : State) (i : Nat) : State :=
  if !s.canFail (Reg.LOOM_PAGE i) then s
  else
    let s1 := (s.faultMark.loomFail i).swapFault
    if s1.canFail (Reg.LOOM_PAGE (1 - i)) then s1 else s1.headOut

/-- A `MEDIA` instance fails: the other, which shadows its queues, is ACTIVE (R20). -/
def mediaFault (s : State) (i : Nat) : State :=
  if !s.canFail (Reg.MEDIA_PAGE i) then s
  else
    let s1 := (s.faultMark.toState (Reg.MEDIA_PAGE i) FAILED).swapFault
    if s.blk (Reg.MEDIA_PAGE (1 - i)) = FAILED then s1
    else (s1.setFld (Reg.MEDIA_STATUS_ROLE i) 1).setFld (Reg.MEDIA_STATUS_ROLE (1 - i)) 0

/-- The lowest SPARE DPC. -/
def firstSpare (s : State) : Option Nat := (List.range 18).find? (fun n => s.blk (Reg.DPC_PAGE n) == SPARE)

/-- Grains that wait in a DPC for their lookups go back to the intake buffer: their reserved ids return, and the grains run again (R170). -/
def dpcGrainsBack (s : State) (n : Nat) : State :=
  s.nv.cmds.foldl (fun t e =>
    let gone := e.2.lookups.filter (fun l => l.dpc == n)
    (gone.foldl (fun u l => u.returnId l.chunk) t).modCmd e.1 (fun x => { x with lookups := x.lookups.filter (fun l => l.dpc != n) })) s

/-- A DPC fails: a spare takes the place of one that was ACTIVE, and the commands with work booked on it are drafted again (R20, R162). -/
def dpcFault (s : State) (n : Nat) : State :=
  if !s.canFail (Reg.DPC_PAGE n) then s
  else
    let was := s.active (Reg.DPC_PAGE n)
    let s1 := { s.faultMark with mp.dictCache := tDel s.mp.dictCache n, mp.bobbins := tDel s.mp.bobbins n }.enter (Reg.DPC_PAGE n) FAILED
    let s2 := match (if was then s1.firstSpare else none) with
      | some k => s1.enter (Reg.DPC_PAGE k) ACTIVE
      | none => s1
    (s2.dpcGrainsBack n |>.redraft (fun b => dpcOf b.res == some n)).swapFault

/-- A service core fails; with no ACTIVE core left a serving head is out (R466). Sources in service on it stay so, until that core's COMPLETE:
DESIGN CHOICE, R472 speaks of routing alone (log entry 148). -/
def coreFault (s : State) (c : Nat) : State :=
  if !s.canFail (Reg.SVC_PAGE c) then s
  else
    let s1 := (s.faultMark.enter (Reg.SVC_PAGE c) FAILED).swapFault
    if s.chip.cond = Cond.serving && !(List.range 16).any s1.coreActive then s1.headOut else s1

/-- A DRAM channel fails (R20, R184). -/
def dramFault (s : State) (i : Nat) (pages chunks : List Nat) : State :=
  if s.canFail (Reg.DRAMC_PAGE i) then (s.faultMark.dramFail i pages chunks).swapFault else s

/-- A DRAM channel fails and the command names nothing that it held (R20): the resident map pages and the index entries that it held are
free, since the spec does not say which channel a line lies in (log entry 121). -/
def channelFault (s : State) (i : Nat) : State :=
  let d := s.draw
  let held := fun (k : Nat) (x : Nat) => Config.inChannel d.1 (2 * x + k)
  let pages := (d.2.mp.pages.filter (fun e => e.2.resident && held 0 e.1)).map (fun e => e.1)
  let chunks := ((d.2.mp.index.flatMap (fun b => b.2)).map (fun (x : IdxEntry) => x.chunk)).dedup.filter (held 1)
  d.2.dramFault i pages chunks

/-- The loss of a front-end port (R20): its hosts use their other paths, and commands with work booked on it are drafted again (R162). -/
def portFault (s : State) (p : Nat) : State :=
  if s.fab.up.contains p then
    ({ s.faultMark with fab.up := s.fab.up.filter (fun x => x != p) }.redraft
      (fun b => b.res == Res.portIn p || b.res == Res.portOut p)).swapFault
  else s

/-- An uncorrectable internal fault of the block on a page (R20, R35). The loss of `PWR` or `TEMPLE` is a fault of the head. -/
def blockFault (s : State) (page : Nat) : State :=
  match blockAt page with
  | none => s
  | some (b, num) =>
  if !s.canFail page then s
  else
    match b.type with
    | .loom => s.loomFault num
    | .media => s.mediaFault num
    | .dpc => s.dpcFault num
    | .svc => s.coreFault num
    | .dramc => s.channelFault num
    | .modp => ((s.enter page FAILED).portLost num).swapFault
    | .dikor => (if s.linkUp then (s.enter page FAILED).linkDown else s.enter page FAILED).swapFault
    | .pwr | .temple => (s.faultMark.enter page FAILED).swapFault.headOut
    | _ => (s.faultMark.enter page FAILED).swapFault

/-- The clock of a domain is lost (R429). -/
def clockLost (s : State) (d : Nat) : State :=
  if d = 0 || d = 5 || d = 6 then s.fatalEnter 5 0
  else if d = 1 then
    ({ s.faultMark with fab.up := [] }.redraft (fun b => kindOf b.res == 7 || kindOf b.res == 8)).swapFault
  else if d = 2 then (List.range 64).foldl portGone s.faultMark
  else if d = 3 then (if s.linkUp then s.linkDown.swapFault else s)
  else if d = 4 then s.setReg Reg.UPEP_LINK (s.reg Reg.UPEP_LINK &&& ~~~(fieldMask Reg.UPEP_LINK_RATE.lo Reg.UPEP_LINK_RATE.w
    ||| fieldMask Reg.UPEP_LINK_WIDTH.lo Reg.UPEP_LINK_WIDTH.w))
  else if d ≤ 24 then s.dpcFault (d - 7)
  else s.coreFault (d - 25)

/-- Whether the Loom holds a booking on a DPC's sub-domain: 1 compressor pair, 2 decompressor group, 3 cipher and digest group (R11). -/
def subBooked (s : State) (n k : Nat) : Bool :=
  s.loom.book.any (fun b =>
    match b.res with
    | .compressor m => m == n && k == 1
    | .decompressor m => m == n && k == 2
    | .cipher m | .digest m => m == n && k == 3
    | _ => false)

/-- A sub-domain of a DPC other than control and map, in AUTO, on and without a booking, goes to RETENTION (R421). -/
def subIdle (s : State) (d : Nat) : State :=
  let n := (d - 26) / 4
  let k := (d - 26) % 4
  if d < 26 || 97 < d || k = 0 || s.domState d != PWR_ON || s.fld (Reg.BLK_PWR_REQ_REQ (Reg.DPC_PAGE n)) != 0
      || s.act Reg.PWR_CFG_AUTO_GATE != 1 || s.subBooked n k then s
  else s.domDown d PWR_RETENTION

end State

open State

/-- BLOCK_FAULT (R20, R35). -/
def execBlockFault (page : BitVec 13) (s : State) : Out := .next (s.blockFault page.toNat)

/-- FAILED_WORK_MOVED (R35). -/
def execFailedWorkMoved (page : BitVec 13) (s : State) : Out :=
  .next (if s.blk page.toNat = FAILED then s.enter page.toNat RETIRED else s)

/-- DPC_FAILURE (R20). -/
def execDpcFailure (dpc : Fin 18) (s : State) : Out := .next (s.dpcFault dpc.val)

/-- LOOM_SELF_CHECK_FAIL (R126). -/
def execLoomSelfCheckFail (loom : Fin 2) (s : State) : Out :=
  .next (if s.canFail (Reg.LOOM_PAGE loom.val) then (s.loomFault loom.val).unnamedEvent 126 (Reg.LOOM_PAGE loom.val) 0 else s)

/-- MEDIA_FAILOVER (R20). -/
def execMediaFailover (s : State) : Out := .next (s.mediaFault s.mediaActive)

/-- FRONT_END_PORT_LOSS (R20, R162). -/
def execFrontEndPortLoss (port : Fin 64) (s : State) : Out := .next (s.portFault port.val)

/-- DRAM_CHANNEL_FAIL (R20, R184). -/
def execDramChannelFail (channel : Fin 16) (pages chunks : List Nat) (s : State) : Out := .next (s.dramFault channel.val pages chunks)

/-- CORE_WATCHDOG_EXPIRY (R466): an ACTIVE core has not serviced its watchdog. -/
def execCoreWatchdogExpiry (core : Fin 16) (s : State) : Out := .next (if s.coreActive core.val then s.coreFault core.val else s)

/-- CORE_FAULT (R466). -/
def execCoreFault (core : Fin 16) (s : State) : Out := .next (s.coreFault core.val)

/-- CLOCK_LOSS (R429). -/
def execClockLoss (domain : Fin 41) (s : State) : Out := .next (s.clockLost domain.val)

/-- HARDWARE_TRIP (R194, R433): a dump in progress stops, and the head enters fatal cause 8. -/
def execHardwareTrip (s : State) : Out :=
  .next (if s.chip.cond = .reset then s else
    let s1 := s.dumpStop 2
    ({ s1 with chip.thermtripN := false, pw.clocksOff := true }.setBit Reg.THERM_STATUS_TRIPPED true).fatalEnter 8 0)

/-- SUBDOMAIN_IDLE (R421). -/
def execSubdomainIdle (dom : Fin 183) (s : State) : Out := .next (s.subIdle dom.val)

end Sys2Proof.Machine
end

