-- ==== Sys2Proof/Machine/LifeCycle.lean ====
section
/-!
DEFINITION. Sys2Proof/Machine/LifeCycle.lean: how a life-cycle transition goes on, fuse cell by fuse cell, and what entering the new
state does (R51, R67 to R70).
-/

namespace Sys2Proof.Machine

namespace State

/-- Pages of the data path: what RETURN leaves OFF, as the boot in RETURN does (R67). The blocks of the control plane stay. -/
def dataPages : List Nat :=
  frontPages ++ [Reg.HEDDLE_PAGE, Reg.NVMF_PAGE, Reg.LOOM_PAGE 0, Reg.LOOM_PAGE 1, Reg.REED_PAGE] ++ (List.range 18).map Reg.DPC_PAGE
    ++ [Reg.SELV_PAGE, Reg.SEGW_PAGE, Reg.MEDIA_PAGE 0, Reg.MEDIA_PAGE 1, Reg.MAPX_PAGE] ++ (List.range 64).map Reg.MODP_PAGE
    ++ [Reg.SLOT_PAGE, Reg.DIKOR_PAGE, Reg.OWN_PAGE, Reg.REPL_PAGE]

/-- A block of the data path is disabled and goes through the rows of R35: with no work left it is DRAINING, DRAINED and OFF in turn. -/
def pageOff (s : State) (p : Nat) : State :=
  let s1 := s.setBit (Reg.BLK_CTRL_ENABLE p) false
  if s1.blk p = ACTIVE || s1.blk p = DRAINING then (((s1.enter p DRAINING).enter p DRAINED).drainedEval p) else s1.drainedEval p

/-- The data path goes OFF (R67): the head, which owns no group and holds no record (R71), stops serving.
Which blocks that takes off is the model's choice (log entry 67). -/
def dataOff (s : State) : State :=
  let s1 := s.headOut
  dataPages.foldl pageOff (if s1.linkUp then s1.linkDown else s1)

/-- The boot step in which a life-cycle transition runs: step 4 when it is resumed at boot (R69), 0 at run time. -/
def lifeStep (s : State) : Nat := if s.chip.steps.contains 3 && !s.chip.steps.contains 4 then 4 else 0

/-- The commit bit reads blown: the fuses are sensed again and the head continues in the new state (R67, R68), in the boot mode that the
new state gives (R51). RETURN turns the data path off; SCRAP closes the admin session and is fatal cause 7. A transition that step 4
finishes lets the boot go on (R69). -/
def lifeCommitted (s : State) : State :=
  let s1 := { s with life.phase := .idle, life.stopping := false }.senseFuses.setBit Reg.LIFE_STATUS_BUSY false
  let s2 := s1.setFld Reg.MGMT_BOOT_STATUS_MODE (s1.modeOf s1.chip.bootPins.toNat)
  if s2.lifeState = 4 then s2.closeAdmin.fatalEnter 7 s2.lifeStep
  else
    let s3 := if s2.lifeState = 3 && s2.chip.steps.contains 5 then s2.dataOff else s2
    if s3.chip.steps.contains 3 && !s3.chip.steps.contains 4 then (s3.stepDone 4).mainEval else s3

/-- What follows a programmed cell of the intent bit: the next cell in the order 0, 1, 2, and the work once all three have been blown. A
cell that does not read blown is blown again, without a limit: DESIGN CHOICE, R68 gives a retry rule for commit cells alone (log
entry 65). -/
def intentNext (s : State) (cell : Nat) (ok : Bool) : State :=
  if !ok then s
  else if cell < 2 then { s with life.phase := .intent (cell + 1) }
  else { s.setBit Reg.LIFE_STATUS_INCOMPLETE true with life.phase := .work }

/-- What follows a programmed cell of the commit bit (R68): the next cell, the re-sense, or, when the cell does not
read blown, the whole bit again, at most three times before fatal cause 4. -/
def commitNext (s : State) (cell retries : Nat) (ok : Bool) : State :=
  if !ok then
    if retries < 3 then { s with life.phase := .commit 0 (retries + 1) }
    else (s.lifeStop.setFld Reg.LIFE_STATUS_REQ_ERR 5).fatalEnter 4 s.lifeStep
  else if cell < 2 then { s with life.phase := .commit (cell + 1) retries }
  else s.lifeCommitted

/-- A fuse cell has been programmed: it reads blown or not, and the transition proceeds, or stops where `PWR_FAIL_N` has been asserted
meanwhile (R67, R68, R70). -/
def cellDone (s : State) (ok : Bool) : State :=
  let target := s.fld Reg.LIFE_STATUS_TARGET
  match s.life.phase with
  | .intent c =>
    let s1 := (if ok then s.blowCell (intentLo target + c) else s)
    let s2 := s1.setReg Reg.LIFE_FUSE (s1.life.cells.setWidth 64)
    if s.life.stopping then s2.lifeStop.setBit Reg.LIFE_STATUS_INCOMPLETE (incompleteTarget s2.life.cells).isSome
    else s2.intentNext c ok
  | .commit c r =>
    let s1 := (if ok then s.blowCell (commitLo target + c) else s)
    let s2 := s1.setReg Reg.LIFE_FUSE (s1.life.cells.setWidth 64)
    if s.life.stopping then s2.lifeStop else s2.commitNext c r ok
  | _ => s

/-- The target's work is done and the commit bit is begun; a DEPLOYED check that fails leaves the transition
incomplete (R68). -/
def workDone (s : State) : State :=
  if s.life.phase = .work then
    match s.lifeWork (s.fld Reg.LIFE_STATUS_TARGET) with
    | some t => { t with life.phase := .commit 0 0 }
    | none => s.lifeStop.setFld Reg.LIFE_STATUS_REQ_ERR 5
  else s

/-! ## Service cores and further components in a live update (R461, R464, R469) -/

/-- A core that has drained is loaded with component 2 of the running image and enabled; register 5 is extended (R409). -/
def coreReload (s : State) (c : Nat) : State :=
  match s.slotImage s.mgmt.bootedB with
  | none => s
  | some i =>
    let body := (((imageComponents i).find? (fun x => x.1 == 2)).map (fun x => x.2.2)).getD []
    let s1 := (s.measExtend 5 (bytesBE (Config.sha384 body))).setFld (Reg.SVC_STATUS_FW_VERSION c) (imageVersion i).toNat
    (({ s1 with mgmt.reloadCore := none, svc.rev := (imageVersion i).toNat }.setBit (Reg.BLK_CTRL_DRAIN (Reg.SVC_PAGE c)) false).setBit
      (Reg.BLK_CTRL_ENABLE (Reg.SVC_PAGE c)) true).drainedEval (Reg.SVC_PAGE c)

/-- The other components of the running image are applied in order: register 6 takes the manifest digest of each (R409). -/
def compsApply (s : State) : State :=
  match s.slotImage s.mgmt.bootedB with
  | none => { s with mgmt.compsDue := [] }
  | some i =>
    let l := [3, 4, 5, 6].filter s.mgmt.compsDue.contains
    l.foldl (fun t n => match (imageComponents i).find? (fun x => x.1 == n) with | some x => t.measExtend 6 (bytesBE x.2.1) | none => t)
      { s with mgmt.compsDue := [] }

/-- Management firmware brings a live update forward: one core at a time, as a planned change, and the other components after the last core. -/
def reloadStep (s : State) : State :=
  if !s.mgmt.running then s
  else
    match s.mgmt.reloadCore, s.mgmt.reload with
    | some c, _ =>
      if s.blk (Reg.SVC_PAGE c) = DRAINED then s.coreReload c
      else if s.blk (Reg.SVC_PAGE c) = DRAINING then s
      else { s with mgmt.reloadCore := none }
    | none, c :: rest =>
      if s.blk (Reg.SVC_PAGE c) = DRAINED then { s with mgmt.reload := rest }.coreReload c
      else if s.blk (Reg.SVC_PAGE c) != ACTIVE then { s with mgmt.reload := rest }
      else if !s.changeFree then s
      else
        ({ s with mgmt.reload := rest, mgmt.reloadCore := some c }.setBit (Reg.BLK_CTRL_DRAIN (Reg.SVC_PAGE c)) true).enter (Reg.SVC_PAGE c)
          DRAINING
    | none, [] => if s.mgmt.compsDue.isEmpty then s else s.compsApply

end State

open State

/-- FUSE_CELL_BLOWN (R67, R68, R70). -/
def execFuseCellBlown (ok : Bool) (s : State) : Out := .next (s.cellDone ok)

/-- LIFE_WORK_DONE (R68). -/
def execLifeWorkDone (s : State) : Out := .next s.workDone

end Sys2Proof.Machine
end

