-- ==== Sys2Proof/Machine/Repl.lean ====
section
/-!
DEFINITION. Sys2Proof/Machine/Repl.lean: replication between arrays: HELLO, cycles, synchronous writes and bases (R380 to R392).
-/

namespace Sys2Proof.Machine

/-- Grains in rising order as ranges. -/
def toRanges (l : List Nat) : List (Nat × Nat) :=
  l.foldl (fun a g => match a.getLast? with
    | some (f, n) => if f + n = g then a.dropLast ++ [(f, n + 1)] else a ++ [(g, 1)]
    | none => [(g, 1)]) []

/-- Ranges cut into lists that each fit one MAPDELTA. -/
def cutRanges : Nat → List (Nat × Nat) → List (List (Nat × Nat))
  | 0, _ => []
  | n + 1, l => if l.isEmpty then [] else l.take 4094 :: cutRanges n (l.drop 4094)

/-- Entries of a full OFFER: ⌊65,504 / 48⌋. -/
def offerMax : Nat := 1364

namespace State

/-! ## Which relationship a message concerns -/

/-- The relationship of a connection under an id, at its source or its target end. -/
def relOn (s : State) (c rid : Nat) (source : Bool) : Option (Nat × Rel) :=
  s.repl.rels.find? (fun e => e.2.rid == rid && e.2.source == source && e.2.conn == some c)

/-- Whether a message is for the source end. -/
def forSource (m : RplMsg) : Bool := match m with | .need _ _ _ | .syncAck _ _ | .ack _ _ _ _ => true | _ => false

/-- The relationship that a HELLO concerns: the first whose HELLO has not passed, of the peer array, role and mode (R382, R385). -/
def helloPick (s : State) (c : Nat) (h : RplHello) : Option (Nat × Rel) :=
  s.repl.rels.find? (fun e => e.2.source == (h.role == 2) && e.2.peer == h.array && e.2.mode == h.mode && !e.2.hello && e.2.st != 7
    && (!e.2.source || e.2.conn == some c))

/-! ## Cycles at the source (R387) -/

/-- A cycle that is due is skipped (R388). -/
def cycleSkip (s : State) (r : Rel) : State := (s.bump (Reg.REPL_CNT 7) 1).event 0x0A03 Reg.REPL_PAGE (argWord [(0, r.rid)]) 0

/-- A cycle starts with a new snapshot, or again with the pair that an aborted one kept. -/
def cycleStart (s : State) (k : Nat) : State :=
  match s.rel? k with
  | none => s
  | some r =>
    if r.snapping then s
    else
      let st := if r.mode = 2 then 5 else 2
      match r.next with
      | some _ => s.modRel k (fun x => { x with st := st })
      | none =>
        match s.snapBegin [r.volume] none (some k) with
        | some t => t.modRel k (fun x => { x with st := st, snapping := true })
        | none => if r.mode = 2 then s.modRel k (fun x => { x with st := 4 }) else (s.modRel k (fun x => { x with st := 1 })).cycleSkip r

/-- The root of a snapshot. -/
def snapRoot (s : State) (id : Option Nat) : Nat := match id with | some i => ((tGet? s.mp.snaps i).map (fun x => x.root)).getD 0 | none => 0

/-- The delta of a cycle (R387 step 2). -/
def cycleBegin (s : State) (k : Nat) (r : Rel) : State :=
  let new := s.treeGrains (s.snapRoot r.next)
  let old := s.treeGrains (s.snapRoot r.base)
  s.modRel k (fun x => { x with
    todo := (new.filter (fun e => !old.contains e)).map (fun e => e.1)
    ranges := toRanges ((old.filter (fun e => !new.any (fun n => n.1 == e.1))).map (fun e => e.1))
    offers := [], nextOffer := 0, entries := [], rangeCount := 0, begun := true, committing := false
    stage := 1048576 * clampNat 64 4096 (s.act Reg.REPL_CFG_STAGE_MIB) })

/-- The stored form of a grain in the snapshot of the running cycle. -/
def cycleForm (s : State) (r : Rel) (g : Nat) : Option Form := (s.lookupAt (s.snapRoot r.next) g).bind s.formOf

/-- The OFFER entry of a grain: its fingerprint under the source tenant's salt. -/
def offerEnt (s : State) (r : Rel) (tenant g : Nat) : Option OfferEnt :=
  (s.cycleForm r g).map (fun f => ⟨g, fingerprint (s.saltOf tenant) f.plain, if f.kind = 2 then f.dictId else 0, f.kind⟩)

/-- Whether a relationship's connection can take another OFFER. -/
def mayOffer (s : State) (r : Rel) : Bool :=
  match r.conn with
  | some c => match tGet? s.repl.conns c with
    | some x => x.queue.isEmpty && decide (x.unacked.length < x.credits)
    | none => decide (16384 ≤ c)
  | none => false

/-- Bytes of the decrypted forms that unanswered OFFERs hold in DRAM. -/
def staged (s : State) (r : Rel) : Nat :=
  r.offers.foldl (fun n o => o.2.2.foldl (fun m e => m + ((s.cycleForm r e.grain).map formBytes).getD 0) n) 0

/-- OFFERs sent while grains are left, credits stand and the stage has room (R387 step 3). A grain that cannot be read ends the cycle. -/
def offerNext (k : Nat) : Nat → State → State
  | 0, s => s
  | n + 1, s =>
    match s.rel? k with
    | none => s
    | some r =>
      if r.todo.isEmpty || !s.mayOffer r || (r.stage ≤ s.staged r && !r.offers.isEmpty) then s
      else
        let t := ((s.vol? r.volume).map (fun v => v.tenant)).getD 0
        let es := (r.todo.take offerMax).map (s.offerEnt r t)
        if es.any (fun e => e.isNone) then s.cycleAbort k
        else
          let l := es.filterMap id
          let mseq := match r.conn with | some c => ((tGet? s.repl.conns c).map (fun x => x.txNext)).getD 0 | none => 0
          let s1 := (s.relSend r (r.cycle + 1) (.offer l)).bump (Reg.REPL_CNT 2) l.length
          offerNext k n (s1.modRel k (fun x => { x with
            todo := x.todo.drop offerMax, entries := x.entries ++ l, offers := x.offers ++ [(x.nextOffer, mseq, l)], nextOffer := x.nextOffer + 1 }))

/-- MAPDELTA and COMMIT once every needed grain has been sent and taken (R387 step 7). -/
def cycleCommit (s : State) (k : Nat) (r : Rel) : State :=
  let idle := match r.conn with
    | some c => match tGet? s.repl.conns c with | some x => x.unacked.isEmpty && x.queue.isEmpty | none => decide (16384 ≤ c)
    | none => false
  if !r.todo.isEmpty || !r.offers.isEmpty || r.committing || !idle then s
  else
    let s1 := (cutRanges (r.ranges.length / 4094 + 1) r.ranges).foldl (fun t l => t.relSend r (r.cycle + 1) (.mapdelta l)) s
    let s2 := s1.relSend r (r.cycle + 1) (.commit (r.next.getD 0) r.entries.length r.ranges.length (offerDigest r.entries))
    s2.modRel k (fun x => { x with committing := true, rangeCount := x.ranges.length })

/-- A cycle brought forward at its source. -/
def cyclePump (s : State) (k : Nat) (r : Rel) : State :=
  if r.next.isNone || !r.hello || !(r.st = 2 || r.st = 5) || r.snapping then s
  else
    let s1 := if r.begun then s else s.cycleBegin k r
    match s1.rel? k with
    | none => s1
    | some x =>
      let s2 := offerNext k (x.todo.length / offerMax + 1) s1
      match s2.rel? k with | some y => if y.begun then s2.cycleCommit k y else s2 | none => s2

/-- GRAIN messages of entries, each dictionary they need before them when it has been asked for. -/
def grainSend (s : State) (k : Nat) (r : Rel) (dicts : List Nat) (l : List (Nat × Nat × OfferEnt)) : State :=
  let gs := l.map (fun x => (s.cycleForm r x.2.2.grain).map (fun f => GrainEnt.mk x.1 x.2.1 (s.wireForm f) true))
  if gs.any (fun g => g.isNone) then s.cycleAbort k
  else
    let s1 := dicts.foldl (fun t d =>
      let b := t.dictContent d
      (dictCuts 2 b).foldl (fun u p => u.relSend r (r.cycle + 1) (.dict d b.length p)) t) s
    (cutEnts 65504 (gs.filterMap id)).foldl (fun t c => t.relSend r (r.cycle + 1) (.grain c)) s1

/-- NEED (R387 step 5): the needed grains are sent, and the staged forms released. -/
def needIn (s : State) (k : Nat) (r : Rel) (offer : Nat) (needed : List Bool) (dicts : List Nat) : State :=
  match r.offers.find? (fun o => o.2.1 == offer || o.2.1 == 0) with
  | none => s
  | some o =>
    let l := (List.zipIdx o.2.2).filterMap (fun e => if needed.getD e.2 false then some (o.1, e.2, e.1) else none)
    ((s.bump (Reg.REPL_CNT 3) l.length).modRel k (fun x => { x with offers := x.offers.filter (fun y => y.1 != o.1) })).grainSend k r dicts l

/-- A CHECK_FAIL (R386): the entry is sent again, its dictionary before it. -/
def checkFail (s : State) (k : Nat) (r : Rel) (entry : Nat) : State :=
  let o := entry % 2 ^ 32
  let i := entry / 2 ^ 32
  let s1 := s.bump (Reg.REPL_CNT 4) 1
  match r.entries[o * offerMax + i]? with
  | some e => s1.grainSend k r (if e.kind = 2 then [e.dict] else []) [(o, i, e)]
  | none => s1

/-- COMMITTED (R387 step 8, R389): the new snapshot is the base, and the one before it goes; of a synchronous relationship the last two
confirmed bases stay, and it is IN_SYNC when nothing headed since was left unsent. -/
def cycleDone (s : State) (k : Nat) (r : Rel) : State :=
  match r.next with
  | none => s
  | some id =>
    if !(r.st = 2 || r.st = 5) || !r.committing then s
    else
      let num := r.cycle + 1
      let all := (num, id) :: r.bases
      let keep := if r.mode = 2 then all.take 2 else all.take 1
      let inSync := r.mode == 2 && !r.unsent && decide (s.rttbUs r ≤ 2000)
      let st := if r.mode = 1 then 1 else if inSync then 3 else if r.unsent then 5 else 4
      let s1 := (s.bump (Reg.REPL_CNT 5) 1).modRel k (fun x => { x with
        st := st, cycle := num, base := some id, next := none, bases := keep, committed := s.now, begun := false, committing := false
        entries := [], ranges := [], rangeCount := 0, nextOffer := 0, synced := st == 3 })
      let s2 := s1.journalCtl ([⟨0x16, [4, k, num, id, s.now]⟩] ++ (if st = 3 then [⟨0x16, [6, k, 1]⟩] else []))
      let gone := ((all.map (fun x => x.2)) ++ r.base.toList).filter (fun i => !(keep.map (fun x => x.2)).contains i)
      let s3 := gone.dedup.foldl snapDrop s2
      if st = 5 then s3.cycleStart k else s3

/-- The ACK that covers a BASE confirms it (R392); of the confirmed bases the last two stay. -/
def baseConfirm (s : State) (k : Nat) (r : Rel) (cycle : Nat) : State :=
  match r.basing with
  | some (num, id) =>
    if num != cycle then s
    else
      let all := (num, id) :: r.bases
      let s1 := s.modRel k (fun x => { x with cycle := num, base := some id, basing := none, bases := all.take 2 })
      ((all.drop 2).map (fun x => x.2)).foldl snapDrop (s1.journalCtl [⟨0x16, [4, k, num, id, r.committed]⟩])
  | none => s

/-- An ACK's status at a relationship (R385, R388). -/
def ackIn (s : State) (k : Nat) (r : Rel) (cycle status entry : Nat) : State :=
  match status with
  | 0 => if r.source then s.baseConfirm k r cycle else s
  | 1 => if r.source then s.cycleDone k r else s
  | 3 => if r.source then s.checkFail k r entry else s
  | _ => s.cycleAbort k

/-! ## Cycles at the target (R386, R387) -/

/-- The staging tree of a cycle is discarded (R388): its own pages are freed. -/
def stagingDrop (s : State) (k : Nat) : State :=
  match s.rel? k with
  | none => s
  | some r =>
    match r.staging with
    | none => s
    | some st =>
      let ids := (s.mp.pages.filter (fun e => e.2.volume == st)).map (fun e => e.1)
      let x := s.vol? st
      let t := (x.map (fun v => v.tenant)).getD 0
      let n := (s.treeGrains ((x.map (fun v => v.root)).getD 0)).length
      let m := (s.treeGrains (s.snapRoot (x.bind (fun v => v.origin)))).length
      let s1 := if m ≤ n then s.tcntSub t 11 (4096 * (n - m)) else s.tcntAdd t 11 (4096 * (m - n))
      let s2 := s1.freePages ids
      { s2 with nv.volumes := tDel s2.nv.volumes st }.journalCtl [⟨0x14, [3, st]⟩] |>.modRel k (fun y => { y with
        staging := none, needed := [], offers := [], nextOffer := 0, entries := [], rangeCount := 0, dictParts := [] })

/-- The staging tree of a cycle: a clone of the replica's snapshot of the base that the cycle starts from, or an empty tree (R387
step 6). -/
def stagingBegin (s : State) (k : Nat) (cycle : Nat) : State :=
  let s0 := match s.rel? k with | some r => if r.st = 6 then s.stagingDrop k else s | none => s
  match s0.rel? k with
  | none => s0
  | some r =>
    match s0.vol? r.volume with
    | none => s0
    | some v =>
      if r.staging.isSome then s0
      else
        let st := 65536 + k
        let origin := match r.bases.find? (fun b => b.1 + 1 == cycle) with | some b => some b.2 | none => r.base
        let x := newVolume v.tenant 0 v.group v.lbaf v.blocks 0 0
        let s1 := { s0 with nv.volumes := tPut s0.nv.volumes st x }.journalCtl [⟨0x14, [1, st, v.tenant, 0, v.group, v.lbaf, v.blocks, 0, 0]⟩]
        let s2 := match origin.bind (fun i => (tGet? s1.mp.snaps i).map (fun y => (i, y))) with
          | some (i, y) => (s1.modVol st (fun z => { z with root := y.root, gen := y.gen + 1, origin := some i })).journalCtl
              [⟨0x06, [4, i, r.volume, st, y.gen, y.root, 0, y.beat]⟩]
          | none => s1
        s2.modRel k (fun y => { y with
          staging := some st, st := if y.mode = 2 then 5 else 2
          needed := [], offers := [], nextOffer := 0, entries := [], rangeCount := 0 })

/-- Changes of a staging tree journaled as a record of the replica's owner (R387 step 6). -/
def stageWrite (s : State) (st : Nat) (deltas : List Delta) (forms : List Form) : State :=
  match s.vol? st with
  | none => s
  | some v =>
    if deltas.isEmpty then s
    else
      let ds := deltas.map (s.fillOld st 0)
      let r0 : JRec := { blankRec with
        type := if forms.isEmpty && ds.all isRange then 2 else 1
        bytes := recordSize ds forms
        volume := st
        group := v.group
        cls := 1 + 4 * (s.headIndex % 2)
        tenant := v.tenant
        snapGen := v.gen
        time := s.now
        deltas := ds
        forms := forms }
      let x := (s.readyLeaves r0).appendRec r0
      let y := x.2.applyDeltas { r0 with seq := x.1 }
      let s1 := { y.1 with jr.own := y.1.jr.own.map (fun (q : JRec) => if q.seq = x.1 then { q with olds := y.2 } else q) }
      (forms.foldl (fun (t : State) f => t.pendingDone v.tenant f) s1).packWaiting

/-- The local dictionary that a source dictionary is mapped to, while its slot still holds it. -/
def dictMapped (s : State) (r : Rel) (d : Nat) : Option Nat :=
  (tGet? r.dicts d).filter (fun l => ((tGet? s.mp.dicts (l % 2 ^ 30 / 256)).map (fun x => x.version == l % 256)).getD false)

/-- One offered entry looked up in the tenant's index (R206, R387 step 4): the DEDUP delta of a grain that is found. -/
def offerLook (tenant red : Nat) (a : State × List (Option Delta)) (e : OfferEnt) : State × List (Option Delta) :=
  if red % 4 != 1 || !a.1.holdsShard e.fp then (a.1, a.2 ++ [none])
  else
    let f := probe tenant e.fp 9 a.1
    match f.hit with
    | some (c, false, _) => if f.st.keepsPool (poolOf c) then (f.st.countUp c 1, a.2 ++ [some (.dedup c e.grain none)]) else (f.st, a.2 ++ [none])
    | _ => (f.st, a.2 ++ [none])

/-- OFFER at the target. It is answered REFUSED for an unknown relationship, an empty key slot and a full journal: DESIGN CHOICE, R388 names no
cause of REFUSED or ABORT (log entry 147). -/
def offerIn (s : State) (k c mseq cycle : Nat) (ents : List OfferEnt) : State :=
  let s0 := s.stagingBegin k cycle
  match s0.rel? k with
  | none => s0
  | some r =>
    match r.staging, s0.vol? r.volume with
    | some st, some v =>
      if s0.keyEmptyOf v.tenant || !s0.journalRoom (ceilDiv (64 + 16 * ents.length) 4096) then s0.rplAck c r.rid mseq cycle 2 0
      else
        let y := ents.foldl (offerLook v.tenant (s0.redOf v.tenant)) (s0, [])
        let need := y.2.map (fun d => d.isNone)
        let want := (List.zip need ents).filterMap (fun p => if p.1 then some p.2 else none)
        let ds := ((want.filterMap (fun e => if e.kind = 2 then some e.dict else none)).dedup).filter (fun d => (y.1.dictMapped r d).isNone)
        let s1 := y.1.stageWrite st (y.2.filterMap id) []
        let s2 := s1.modRel k (fun x => { x with
          entries := x.entries ++ ents, offers := x.offers ++ [(x.nextOffer, mseq, ents)], nextOffer := x.nextOffer + 1
          needed := x.needed ++ (List.zipIdx need).filterMap (fun p => if p.1 then some (x.nextOffer, p.2) else none) })
        let s3 := (s2.bump (Reg.REPL_CNT 2) ents.length).bump (Reg.REPL_CNT 3) want.length
        ((s3.rplAck c r.rid mseq cycle 0 0).rplSend c r.rid cycle (.need mseq need ds)).settle
    | _, _ => s0.rplAck c r.rid mseq cycle 2 0

/-- One GRAIN entry (R386): checked, and stored under a local chunk id with its fingerprint in the index; the third part names entries
that fail, as OFFER index + 2^32 × entry index: DESIGN CHOICE, R385 does not say how an ACK's `entry concerned` names one (log entry 146). -/
def grainTake (k tenant : Nat) (a : State × List (Delta × Form) × List Nat) (e : GrainEnt) : State × List (Delta × Form) × List Nat :=
  let s := a.1
  match s.rel? k with
  | none => a
  | some r =>
    let bad := (s.bump (Reg.REPL_CNT 4) 1, a.2.1, a.2.2 ++ [e.offer + 2 ^ 32 * e.entry])
    let local_ := if e.form.kind = 2 then s.dictMapped r e.form.dictId else some 0
    match (r.offers.find? (fun o => o.1 == e.offer)).bind (fun o => o.2.2[e.entry]?), local_ with
    | none, _ => a
    | some _, none => bad
    | some o, some d =>
      if !r.needed.contains (e.offer, e.entry) then a
      else if !e.good then bad
      else
        match s.poolClaim.reserveId with
        | none => bad
        | some (c, s1) =>
          let s2 := if s1.holdsShard o.fp then (s1.shardLookup tenant o.fp c s1.headIndex).st
            else s1.sendMsg 0x0203 [2 ^ 40, o.grain, tenant, c, o.fp]
          let f : Form := s2.sealForm { e.form with chunk := c, tenant := tenant, dictId := if e.form.kind = 2 then d else 0 }
          let x : Chunk := ⟨.journaled, len32Of f.len, 0, 0, 0, 0, o.fp / 2 ^ 160 % 2 ^ 32, 1, tenant, 0, s.now⟩
          let s3 := { s2.setChunk c x with mp.forms := tPut s2.mp.forms c f }
          let s4 := if f.kind = 2 then s3.dictRef f.dictId true else s3
          let s5 := (s4.bump (Reg.DPC_FORM_CNT (s4.activeDpcs.headD 0) f.kind) 1).tcntAdd tenant 12 (physBytes x)
          (s5.modRel k (fun y => { y with needed := y.needed.filter (fun n => n != (e.offer, e.entry)) }),
            a.2.1 ++ [(.store c o.grain a.2.1.length none, f)], a.2.2)

/-- GRAIN at the target. -/
def grainIn (s : State) (k c mseq cycle : Nat) (r : Rel) (ents : List GrainEnt) : State :=
  match r.staging, s.vol? r.volume with
  | some st, some v =>
    if s.keyEmptyOf v.tenant || !s.journalRoom (ceilDiv (64 + 4144 * ents.length) 4096) then s.rplAck c r.rid mseq cycle 2 0
    else
      let y := ents.foldl (grainTake k v.tenant) (s, [], [])
      let s1 := y.1.stageWrite st (y.2.1.map (fun d => d.1)) (y.2.1.map (fun d => d.2))
      (if y.2.2.isEmpty then s1.rplAck c r.rid mseq cycle 0 0
        else y.2.2.foldl (fun t n => t.rplAck c r.rid mseq cycle 3 n) s1).settle
  | _, _ => s.rplAck c r.rid mseq cycle 4 0

/-- DICT at the target (R385, R386): the last part installs the dictionary, and the relationship maps it. -/
def dictIn (s : State) (k c mseq cycle : Nat) (r : Rel) (d len : Nat) (part : Bytes) : State :=
  let b := tGet r.dictParts d [] ++ part
  let s1 :=
    if (s.dictMapped r d).isSome then s
    else if b.length < len then s.modRel k (fun x => { x with dictParts := tPut x.dictParts d b })
    else
      let v := r.staging.getD r.volume
      let old := ((s.vol? v).map (fun x => x.dict)).getD 0
      let t := (s.dictInstall v b).modRel k (fun x => { x with dictParts := tDel x.dictParts d })
      let new := ((t.vol? v).map (fun x => x.dict)).getD 0
      if new = old then t else t.modRel k (fun x => { x with dicts := tPut x.dicts d new })
  s1.rplAck c r.rid mseq cycle 0 0

/-- MAPDELTA at the target. -/
def mapdeltaIn (s : State) (k c mseq cycle : Nat) (ranges : List (Nat × Nat)) : State :=
  let s0 := s.stagingBegin k cycle
  match s0.rel? k with
  | none => s0
  | some r =>
    match r.staging with
    | some st =>
      if !s0.journalRoom (ceilDiv (64 + 16 * ranges.length) 4096) then s0.rplAck c r.rid mseq cycle 2 0
      else
        ((((s0.stageWrite st (ranges.map (fun x => .deallocRange x.1 x.2)) []).modRel k
          (fun x => { x with rangeCount := x.rangeCount + ranges.length })).rplAck c r.rid mseq cycle 0 0)).settle
    | none => s0.rplAck c r.rid mseq cycle 2 0

/-- The replica takes the staging tree as its content and snapshots it (R387 step 7). -/
def replicaTake (s : State) (k num : Nat) (r : Rel) (st root : Nat) : State :=
  let keep := s.treePages root ++ (s.mp.snaps.filter (fun e => e.2.volume == r.volume)).flatMap (fun e => s.treePages e.2.root)
  let gone := (s.treePages (((s.vol? r.volume).map (fun v => v.root)).getD 0)).filter (fun p => !keep.contains p)
  let s1 := ((s.freePages gone).rehome r.volume st root).journalCtl [⟨0x14, [5, r.volume, st, root]⟩]
  let x := s1.snapIds 1
  let id := x.1.headD 0
  let s2 := snapCut s1.beat x.2 (r.volume, id)
  (s2.bump (Reg.REPL_CNT 5) 1).modRel k (fun y => { y with
    st := if y.mode = 2 then 3 else 1, cycle := num, base := some id, bases := ((num, id) :: y.bases).take 2, committed := s.now
    staging := none, offers := [], nextOffer := 0, entries := [], rangeCount := 0, needed := [], dictParts := [] }) |>.journalCtl
      [⟨0x16, [4, k, num, id, s.now]⟩]

/-- COMMIT at the target: the entry count, the range count and the SHA-256 are checked. -/
def commitIn (s : State) (k c mseq cycle offered ranges : Nat) (digest : Word256) : State :=
  let s0 := s.stagingBegin k cycle
  match s0.rel? k with
  | none => s0
  | some r =>
    match r.staging with
    | none => s0.rplAck c r.rid mseq cycle 2 0
    | some st =>
      if offered = r.entries.length && ranges = r.rangeCount && digest = offerDigest r.entries && r.needed.isEmpty then
        ((s0.replicaTake k cycle r st (((s0.vol? st).map (fun v => v.root)).getD 0)).rplAck c r.rid mseq cycle 1 0).settle
      else (((s0.rplAck c r.rid mseq cycle 4 0).cycleAbort k).stagingDrop k).settle

/-! ## Synchronous writes and bases at the target (R390, R392) -/

/-- A SYNC_WRITE is drafted as a write-class command of the replica's tenant in class LC1. -/
def syncDraft (s : State) (k c mseq cycle : Nat) (w : SyncWrite) (st : Standby) : State :=
  match s.rel? k with
  | none => s
  | some r =>
    match s.vol? r.volume with
    | none => s.rplAck c r.rid mseq cycle 2 0
    | some v =>
      let bad := w.ents.any (fun e => !e.good || (e.form.kind = 2 && (s.dictMapped r e.form.dictId).isNone))
      let s1 := s.rplAck c r.rid mseq cycle 0 0
      if bad || s.busyWrite v.tenant then s1.rplSend c r.rid cycle (.syncAck w.seq 1)
      else
        let b := if v.lbaf = 2 then 8 else 1
        let kind : CmdKind := if w.dealloc then .dsm else if w.copy.isSome then .copy else .write
        let bytes := if kind = .write then 4096 * w.grains else 0
        let x0 := newCmd (if c < 16384 then c else 16384) 0 v.tenant r.volume kind [(b * w.first, b * w.grains)] (b * w.copy.getD 0) bytes 1 1
          w.fua ⟨true, 0, 0, 0, 0⟩ s.now (w.ents.flatMap (fun e => e.form.plain)) (s.redOf v.tenant)
        let x := { x0 with lbaf := v.lbaf }
        let id := s1.nv.next
        let mark := (0, w.seq)
        let s2 := { s1 with nv.next := id + 1, nv.cmds := tPut s1.nv.cmds id { x with mute := true } }.modRel k (fun y => { y with
          st := 3
          syncing := (if w.last then y.syncing.filter (fun z => z != mark) else if y.syncing.contains mark then y.syncing else y.syncing ++ [mark])
            ++ [(id, w.seq)] })
        s2.toDraft id st

/-- A SYNC_WRITE at the target: behind a BASE that is not taken yet it waits. -/
def syncWriteIn (s : State) (k : Nat) (h : RplHead) (c : Nat) (w : SyncWrite) (st : Standby) : State :=
  match s.rel? k with
  | none => s
  | some r =>
    if r.basing.isSome then s.modRel k (fun x => { x with held := x.held ++ [(h, w, st)] })
    else s.syncDraft k c h.mseq h.cycle w st

/-- A BASE whose earlier writes are all durable is taken: the replica is snapshotted, the BASE acknowledged, and the writes behind it
go on. -/
def baseTake (s : State) (k : Nat) : State :=
  match s.rel? k with
  | none => s
  | some r =>
    match r.basing, r.conn with
    | some (num, mseq), some c =>
      if r.source || !r.syncing.isEmpty then s
      else
        let x := s.snapIds 1
        let id := x.1.headD 0
        let all := (num, id) :: r.bases
        let s1 := (snapCut s.beat x.2 (r.volume, id)).modRel k (fun y => { y with
          cycle := num, base := some id, bases := all.take 2, basing := none, held := [] })
        let s2 := ((all.drop 2).map (fun y => y.2)).foldl snapDrop (s1.journalCtl [⟨0x16, [4, k, num, id, r.committed]⟩])
        (r.held.foldl (fun (t : State) h => t.syncWriteIn k h.1 c h.2.1 h.2.2) (s2.rplAck c r.rid mseq num 0 0)).settle
    | _, _ => s

/-! ## Messages -/

/-- A HELLO that concerns a relationship run here (R382): both ends compare the salt check, and the target answers. -/
def helloDo (s : State) (k c mseq : Nat) (h : RplHello) : State :=
  match s.rel? k with
  | none => s
  | some r =>
    let t := ((s.vol? r.volume).map (fun v => v.tenant)).getD 0
    let s1 := (s.modRel k (fun x => { x with conn := some c })).rplAck c 0 mseq r.cycle 0 0
    let s2 := if r.source then s1 else s1.rplSend c 0 r.cycle (s1.helloOf r)
    if h.salt != s.saltCheck t then
      ((s2.cycleAbort k).modRel k (fun x => { x with st := 7 })).event 0x0A02 Reg.REPL_PAGE (argWord [(0, r.rid)]) 0
    else
      let s3 := s2.modRel k (fun x => { x with
        hello := true
        st := if x.mode = 1 then (if x.next.isSome then 6 else 1) else if x.source then x.st else 5 })
      if syncSource r && r.st = 5 then s3.cycleStart k else s3

/-- What a message does at the relationship it concerns. -/
def rplDo (s : State) (k : Nat) (r : Rel) (h : RplHead) (c : Nat) (st : Standby) (m : RplMsg) : State :=
  match m with
  | .hello x => s.helloDo k c h.mseq x
  | .offer l => if r.hello then s.offerIn k c h.mseq h.cycle l else s
  | .need o n d => ((s.rplAck c r.rid h.mseq h.cycle 0 0).needIn k r o n d).settle
  | .grain l => s.grainIn k c h.mseq h.cycle r l
  | .dict d n p => s.dictIn k c h.mseq h.cycle r d n p
  | .mapdelta l => if r.hello then s.mapdeltaIn k c h.mseq h.cycle l else s
  | .commit _ o n d => s.commitIn k c h.mseq h.cycle o n d
  | .ack _ _ status entry => (s.ackIn k r h.cycle status entry).settle
  | .syncWrite w => s.syncWriteIn k h c w st
  | .syncAck q status =>
    let s1 := s.rplAck c r.rid h.mseq h.cycle 0 0
    (if status = 0 then s1.modRel k (fun x => { x with waits := x.waits.filter (fun w => w.1 != q) }) else s1.fracture k).settle
  | .base _ => (s.modRel k (fun x => { x with basing := some (h.cycle, h.mseq) })).baseTake k

/-- A message passed on to the head that runs its relationship (R381). -/
def rplForward (s : State) (h : RplHead) (rel : Nat) (m : RplMsg) : State :=
  if s.linkUp then s.sendMsg 0x020C (rplFwdBody h.conn.val rel 1 h.mseq h.cycle m) else s

/-- A message that passed the checks of its connection. -/
def rplRoute (s : State) (h : RplHead) (st : Standby) (m : RplMsg) : State :=
  let c := h.conn.val
  match m with
  | .hello x =>
    match s.helloPick c x with
    | none => s.rplAck c 0 h.mseq h.cycle 2 0
    | some (k, r) =>
      if s.runsRel r then s.helloDo k c h.mseq x
      else (s.modRel k (fun y => { y with conn := some c, hello := true })).rplForward h r.rid m
  | m =>
    let found := match s.relOn c h.rel.toNat (forSource m), m with
      | some e, _ => some e
      | none, .ack _ _ _ _ => s.relOn c h.rel.toNat false
      | none, _ => none
    match found with
    | none => if isAck m then s else s.rplAck c h.rel.toNat h.mseq h.cycle 2 0
    | some (k, r) => if s.runsRel r then s.rplDo k r h c st m else s.rplForward h r.rid m

/-- A message received on a connection (R384): in `MSEQ` order, or a protocol error. -/
def rplIn (s : State) (h : RplHead) (st : Standby) (m : RplMsg) : State :=
  let c := h.conn.val
  match tGet? s.repl.conns c with
  | none => s
  | some x =>
    if !s.serving then s
    else if !h.ok || h.mseq != x.rxNext then (s.rplError c).settle
    else ({ s with repl.conns := tPut s.repl.conns c { x with rxNext := x.rxNext + 1 } }.bump (Reg.REPL_CNT 1) 1).rplRoute h st m

/-- The credits and the acknowledged messages of an ACK. -/
def rplCredit (s : State) (c acked credits : Nat) : State :=
  match tGet? s.repl.conns c with
  | none => s
  | some x => rplPump c x.queue.length { s with repl.conns := tPut s.repl.conns c { x with
      credits := credits, unacked := x.unacked.filter (fun n => decide (acked < n)) } }

/-- An ACK, or another message that brings a round trip with it. -/
def rplAckIn (s : State) (h : RplHead) (acked credits rtt : Nat) (m : RplMsg) : State :=
  match tGet? s.repl.conns h.conn.val with
  | none => s
  | some x =>
    let good := s.serving && h.ok && h.mseq == x.rxNext
    let s1 := if good then s.rttSet h.conn.val rtt else s
    (if good && isAck m then s1.rplCredit h.conn.val acked credits else s1).rplIn h .same m

/-- A message that the other head passed on (R381): for a relationship run here, or to be sent on a connection of this head. -/
def rplFwd (s : State) (toOwner : Bool) (h : RplHead) (m : RplMsg) : State :=
  if !s.linkUp then s
  else if !toOwner then
    if (tGet? s.repl.conns h.conn.val).isSome then s.rplPut h.conn.val h.rel.toNat h.cycle m else s.bump (Reg.DIKOR_CNT 6) 1
  else
    let c := h.conn.val + 16384
    match m with
    | .hello x =>
      match s.repl.rels.find? (fun e => e.2.rid == h.rel.toNat && e.2.source == (x.role == 2) && e.2.peer == x.array) with
      | some (k, r) => if s.runsRel r then s.helloDo k c h.mseq x else s
      | none => s.bump (Reg.DIKOR_CNT 6) 1
    | m =>
      let found := match s.relOn c h.rel.toNat (forSource m) with | some e => some e | none => s.relOn c h.rel.toNat false
      match found with
      | some (k, r) =>
        if !s.runsRel r then s
        else match m with
          | .ack 0 0 4 0 => (s.relLost k).settle
          | m => s.rplDo k r h c .same m
      | none => s.bump (Reg.DIKOR_CNT 6) 1

/-! ## Timers -/

/-- Replication brought forward at a beat boundary: cycles, bases that wait for their writes, and staging trees of aborted cycles. -/
def replPump (s : State) : State :=
  s.repl.rels.foldl (fun (t : State) (e : Nat × Rel) =>
    match t.rel? e.1 with
    | none => t
    | some r =>
      if !t.runsRel r then t
      else if r.source then t.cyclePump e.1 r
      else if r.st = 6 && r.staging.isSome then (t.stagingDrop e.1).settle
      else t.baseTake e.1) s

/-- A cycle falls due (R387, R388). -/
def cycleDue (s : State) (k : Nat) : State :=
  match s.rel? k with
  | none => s
  | some r =>
    if !s.serving || !r.source || r.mode != 1 || r.st = 7 || !s.runsRel r then s
    else if r.st = 2 || r.st = 6 || r.snapping then s.cycleSkip r
    else if r.hello then s.cycleStart k
    else (s.modRel k (fun x => { x with st := 6 })).emit (.replConnect r.rid r.entry r.ip)

/-- `RETRY_S` has passed (R388, R389). -/
def retryDue (s : State) (k : Nat) : State :=
  match s.rel? k with
  | none => s
  | some r =>
    if !s.serving || !r.source || !s.runsRel r || !(r.st = 4 || r.st = 6) then s
    else if !r.hello then s.emit (.replConnect r.rid r.entry r.ip)
    else if r.mode = 1 && r.next.isNone then s.modRel k (fun x => { x with st := 1 })
    else s.cycleStart k

/-- `SYNC_BASE_MIN` has passed (R392). -/
def baseDue (s : State) (k : Nat) : State :=
  match s.rel? k with
  | none => s
  | some r =>
    if !s.serving || !syncSource r || r.st != 3 || r.snapping || r.basing.isSome || !s.runsRel r then s
    else match s.snapBegin [r.volume] none (some k) with
      | some t => t.modRel k (fun x => { x with snapping := true })
      | none => s

/-- The relationship that an id names to the control plane: the one this array assigned, else the one of another array. -/
def relNamed (s : State) (rid : Nat) : Option (Nat × Rel) :=
  match s.rel? rid with
  | some r => some (rid, r)
  | none => s.repl.rels.find? (fun e => e.2.rid == rid)

/-- `REL_CMD.GO`. -/
def relRead (s : State) (rid : Nat) : State :=
  let s1 := s.setFld Reg.REPL_REL_CMD_REL rid
  match s1.relNamed rid with
  | none => (s1.setReg Reg.REPL_REL_DATA0 0).setReg Reg.REPL_REL_DATA1 0
  | some (_, r) =>
    (s1.setReg Reg.REPL_REL_DATA0 (BitVec.ofNat 64 (r.interval % 2 ^ 32 * 2 ^ 32 + min 65535 (s1.rttbUs r) * 2 ^ 16 + r.mode % 4 * 16 + r.st % 16))).setReg
      Reg.REPL_REL_DATA1 (BitVec.ofNat 64 r.committed)

end State

open State

/-- REPL_FWD (R381). -/
def execReplFwd (toOwner : Bool) (head : RplHead) (msg : RplMsg) (s : State) : Out := .next (s.rplFwd toOwner head msg)

/-- REPL_HELLO (R382, R385). -/
def execReplHello (head : RplHead) (hello : RplHello) (s : State) : Out := .next (s.rplIn head .same (.hello hello))

/-- REPL_OFFER (R387). -/
def execReplOffer (head : RplHead) (ents : List OfferEnt) (s : State) : Out := .next (s.rplIn head .same (.offer ents))

/-- REPL_NEED (R387). -/
def execReplNeed (head : RplHead) (offer : Nat) (needed : List Bool) (dicts : List Nat) (s : State) : Out :=
  .next (s.rplIn head .same (.need offer needed dicts))

/-- REPL_GRAIN (R386). -/
def execReplGrain (head : RplHead) (ents : List GrainEnt) (s : State) : Out := .next (s.rplIn head .same (.grain ents))

/-- REPL_DICT (R386). -/
def execReplDict (head : RplHead) (id len : Nat) (part : Bytes) (s : State) : Out := .next (s.rplIn head .same (.dict id len part))

/-- REPL_MAPDELTA (R385). -/
def execReplMapdelta (head : RplHead) (ranges : List (Nat × Nat)) (s : State) : Out := .next (s.rplIn head .same (.mapdelta ranges))

/-- REPL_COMMIT (R387). -/
def execReplCommit (head : RplHead) (snap offered ranges : Nat) (digest : Word256) (s : State) : Out :=
  .next (s.rplIn head .same (.commit snap offered ranges digest))

/-- REPL_ACK (R385, R388, R389). -/
def execReplAck (head : RplHead) (acked credits status entry rtt : Nat) (s : State) : Out :=
  .next (s.rplAckIn head acked credits rtt (.ack acked credits status entry))

/-- REPL_SYNC_WRITE (R390). -/
def execReplSyncWrite (head : RplHead) (write : SyncWrite) (standby : Standby) (s : State) : Out :=
  .next (s.rplIn head standby (.syncWrite write))

/-- REPL_SYNC_ACK (R390, R391). -/
def execReplSyncAck (head : RplHead) (seq status rtt : Nat) (s : State) : Out :=
  .next (s.rplAckIn head 0 0 rtt (.syncAck seq status))

/-- REPL_BASE (R392). -/
def execReplBase (head : RplHead) (seq : Nat) (s : State) : Out := .next (s.rplIn head .same (.base seq))

/-- REPL_CYCLE_START (R387, R388). -/
def execReplCycleStart (rel : Nat) (s : State) : Out := .next (s.cycleDue rel)

/-- REPL_RETRY_TIMER (R388, R389). -/
def execReplRetryTimer (rel : Nat) (s : State) : Out := .next (s.retryDue rel)

/-- SYNC_BASE_TIMER (R392). -/
def execSyncBaseTimer (rel : Nat) (s : State) : Out := .next (s.baseDue rel)

/-- SYNC_ACK_TIMEOUT (R391). -/
def execSyncAckTimeout (rel seq : Nat) (s : State) : Out :=
  .next (
    match s.rel? rel with
    | some r => if r.waits.any (fun w => w.1 == seq) then (s.fracture rel).settle else s
    | none => s)

/-- REPL_REL_READ (R389): a write of `REPL.REL_CMD` with `GO`. -/
def execReplRelRead (rel : BitVec 16) (s : State) : Out :=
  .next (s.barWrite Reg.REPL_REL_CMD (fun t => t.relRead rel.toNat))

end Sys2Proof.Machine
end

