-- ==== Sys2Proof/Machine/Beat.lean ====
section
/-!
DEFINITION. Sys2Proof/Machine/Beat.lean: what happens at a beat boundary, in the order of R159: the ended beat is attributed (R479), queues
and homes move (R258, R467), capacities are published (R150, R160, R161, R424), energy is planned (R157, R440), the `LOOM` roles swap
(R127), background work is drafted (R153), and what other chapters do at each beat.
-/

namespace Sys2Proof.Machine

/-- *L* of victims as live bytes and capacity: their live fractions weighted by data capacity (R150, R271). -/
def liveSum (l : List (Nat × Nat × Nat)) : Nat × Nat := l.foldl (fun a v => (a.1 + v.2.1, a.2 + v.2.2)) (0, 0)

/-- F = *L* / (1 − *L*) in Q4.12 of an *L*, at most 15.99 (R150). -/
def collectFactor (x : Nat × Nat) : Nat := min 0xFFD7 (x.1 * 4096 / max 1 (x.2 - x.1))

/-- 0.1 µJ in one beat as raw Q15.16 W. -/
def beatWatts (e : Nat) : Int := (e : Int) * 65536 / 100

namespace State

/-! ## The beat that ended (R479, R158) -/

/-- Energy in 0.1 µJ added to a counter of a tenant in µJ; the remainder is carried under `key`. -/
def energyTo (s : State) (tenant cnt key e : Nat) : State :=
  let sum := tGet s.loom.energy key 0 + e
  let s1 := { s with loom.energy := if sum % 10 = 0 then tDel s.loom.energy key else tPut s.loom.energy key (sum % 10) }
  if sum / 10 = 0 then s1 else s1.tcntAdd tenant cnt (sum / 10)

/-- Energy booked in a beat for a tenant's stages and debt units, or for background work: chip only, or chip and media. -/
def bookedEnergy (s : State) (b : Nat) (chip media : Bool) (f : Booking → Bool) : Nat :=
  s.loom.book.foldl (fun n x =>
    if x.beat = b && ((chip && kindOf x.res == 13) || (media && kindOf x.res == 14)) && f x then n + x.amt else n) 0

/-- Measured chip energy of the ended beat: *pv* of loop 0 × 10 µs, 0.1 µJ (R440). -/
def measuredEnergy (s : State) : Nat := (s.loopPv 0 * 100 / 65536).toNat

/-- Whether a booking is a tenant's: of a command, a claim or a debt unit. -/
def tenantBooking (x : Booking) : Bool :=
  x.tenant != 0 && (match x.who with | .background _ => false | _ => true)

/-- The energy of the ended beat is attributed (R479). -/
def attributeBeat (s : State) (b : Nat) : State :=
  let tenants := ((s.loom.book.filter (fun x => x.beat = b && tenantBooking x)).map (fun x => x.tenant)).dedup
  let s1 := tenants.foldl (fun t n => t.energyTo n 15 n (s.bookedEnergy b true true (fun x => tenantBooking x && x.tenant == n))) s
  let mine := s.bookedEnergy b true false tenantBooking
  let pv := s.measuredEnergy
  let s2 := s1.energyTo 0 15 0 ((pv - mine) + s.bookedEnergy b false true (fun x => !tenantBooking x))
  s2.energyTo 0 14 4096 (mine - pv)

/-- Beats in a row in which measured dynamic power exceeded the booked dynamic energy by more than `E_MARGIN` (R158). -/
def overrunCount (s : State) (b : Nat) : State :=
  let booked := s.bookedEnergy b true false (fun _ => true)
  let st := ((tGet s.pw.pSt b 0) * 100 / 65536).toNat
  let dyn := s.measuredEnergy - st
  { s with loom.overBeats := if booked * (100 + s.eMargin) < dyn * 100 then min 100 (s.loom.overBeats + 1) else 0 }

/-! ## Published capacities -/

/-- Whether a DPC's committed bookings from a beat on fit the capacity of a step (R160). -/
def stepFits (s : State) (n step b : Nat) : Bool :=
  (s.loom.book.filter (fun x => decide (b ≤ x.beat) && dpcOf x.res == some n)).all (fun x =>
    decide (s.bookedOn x.res x.beat false ≤ dpcNominal x.res * ((600 + 200 * step) / 20) / 100))

/-- One DVFS domain at the boundary: a settled rise or a fall whose time has come takes effect (R160, R424). -/
def dvfsApply (s : State) (b n : Nat) : State :=
  let p := s.fld (Reg.PWR_DVFS_PENDING n)
  match tGet? s.pw.settled n with
  | some t =>
    { s with pw.settled := tDel s.pw.settled n, pw.rising := tDel s.pw.rising n }.setFld (Reg.PWR_DVFS_STEP n) t
  | none =>
    if p != 0 && (decide (18 ≤ n) || s.stepFits n p b) then
      (s.setFld (Reg.PWR_DVFS_STEP n) p).setFld (Reg.PWR_DVFS_PENDING n) 0
    else s

/-- `LOOM.DPC_CAP` of a DPC, alike in both instances: the lower of its step and a deferred one, divided while clocks are stretched. -/
def capPublish (s : State) (n : Nat) : State :=
  let p := s.fld (Reg.PWR_DVFS_PENDING n)
  let step := s.fld (Reg.PWR_DVFS_STEP n)
  let eff := if p = 0 then step else min step p
  let div := if s.bit Reg.PWR_STATUS_STRETCH then max 1 (s.fld (Reg.PWR_DVFS_STRETCH_DIV n)) else 1
  let ex := s.pw.excluded.contains n || !s.active (Reg.DPC_PAGE n)
  (s.loomSet (fun i => Reg.LOOM_DPC_CAP_PCT i n) ((600 + 200 * eff) / 20 / div)).loomSet (fun i => Reg.LOOM_DPC_CAP_EXCLUDED i n) ex.toNat

/-- Clock stretching ends at the first boundary after the emergency has cleared, and admission resumes (R166, R425). -/
def stretchEnd (s : State) : State :=
  if s.bit Reg.THERM_STATUS_EMERGENCY then s
  else
    let s1 := if s.bit Reg.PWR_STATUS_STRETCH then s.setStretch 1 else s
    s1.loomSet Reg.LOOM_STATUS_SUSPENDED 0

/-- The collection factor of the beat (R150), of the victims taken in the last 100 ms; with none it keeps its value, DESIGN CHOICE
(log entry 47). -/
def collectPublish (s : State) : State :=
  let l := s.loom.victims.filter (fun x => decide (s.now < x.1 + 100000000))
  let s1 := { s with loom.victims := l }
  let s2 := if l.isEmpty then s1 else { s1 with loom.live := liveSum l }
  if s.floorPct = 0 then s2.loomSet Reg.LOOM_GC_STATE_COLLECT_F 0
  else if l.isEmpty then s2
  else s2.loomSet Reg.LOOM_GC_STATE_COLLECT_F (collectFactor s2.loom.live)

/-- A floor that waited for the boundary takes effect (R154, R159). -/
def floorPublish (s : State) : State :=
  match s.loom.floorNext with
  | some p => { s with loom.floorNext := none }.loomSet Reg.LOOM_GC_STATE_FLOOR_PCT p
  | none => s

/-- Capacities published for the beat (group 2 of R159). -/
def capacities (s : State) (b : Nat) : State :=
  let s1 := ((List.range 34).foldl (fun t n => t.dvfsApply b n) s).avsRefresh
  ((List.range 18).foldl capPublish s1.stretchEnd).floorPublish.collectPublish

/-- Contracts of TENANT_CONTRACT take effect (R168). -/
def contractsTake (s : State) : State :=
  if s.loom.contractNext.isEmpty then s
  else
    { s.loom.contractNext.foldl (fun (t : State) (e : Nat × List Word) =>
        let u := t.contractMoveTo e.1 e.2
        { u with loom.active := tPut u.loom.active e.1 e.2 }) s with loom.contractNext := [] }.genNext Reg.REED_PAGE

/-- Pending commits of the blocks that commit at the beat boundary take effect: those of `LOOM` and `REED` are group 3 of R159. -/
def beatCommits (s : State) : State :=
  beatPages.foldl (fun t p => if t.bit (Reg.BLK_STATE_COMMIT_PENDING p) then t.commitApply p else t) s.contractsTake

/-! ## Energy (R155, R157, R440) -/

/-- Committed chip energy of a beat, 0.1 µJ. -/
def committed (s : State) (b : Nat) : Nat := s.bookedOn .chipEnergy b false

/-- The set-points planned for so many beats from `b`, each raised to its floor, and whether one was. -/
def planFrom (s : State) (target vmax amax jmax : Int) : Nat → Nat → Int → Int → Int → List (Nat × Int) × Bool
  | 0, _, _, _, _ => ([], false)
  | n + 1, b, sp, v, a =>
    let x := profileStep target vmax amax jmax sp v a
    let floor := tGet s.pw.pSt b 0 + beatWatts (s.committed b)
    let rest := planFrom s target vmax amax jmax n (b + 1) x.1 x.2.1 x.2.2.1
    ((b, max x.1 floor) :: rest.1, rest.2 || decide (x.1 < floor))

/-- At the boundary of beat *b*, *P*st of beat *b* + 64 is published, loop 0 receives its target, and *P*sp is planned anew. The static
model is a free value. -/
def energyPlan (s : State) (b : Nat) : State :=
  if !(s.active (Reg.LOOM_PAGE 0) || s.active (Reg.LOOM_PAGE 1)) then s
  else
    let d := s.draw
    let model : Int := (Config.openWord d.1).toNat % 2 ^ 31
    let pst := sat16 (model + q16 (d.2.reg (Reg.TEMPLE_U 0)))
    let s1 := { d.2 with
      pw.pSt := tPut (d.2.pw.pSt.filter (fun e => decide (b ≤ e.1))) (b + 64) pst
      pw.pSp := d.2.pw.pSp.filter (fun e => decide (b ≤ e.1)) }
    let peak := (List.range 8).foldl (fun m i => max m (s1.committed (b + 1 + i))) 0
    let cap : Int := (s1.loomAct Reg.LOOM_ENERGY_CFG_CHIP_CAP_W : Int) * 65536
    let target := min cap (tGet s1.pw.pSt b 0 + beatWatts (peak + s1.loom.refused))
    let x := s1.loop 0
    let q := fun (k : Nat) => q16 (s1.reg k)
    let plan := s1.planFrom target (q (Reg.TEMPLE_VMAX 0)) (q (Reg.TEMPLE_AMAX 0)) (q (Reg.TEMPLE_JMAX 0)) 64 (b + 1) (q (Reg.TEMPLE_SP 0))
      x.v x.a
    let s2 := { s1 with
      loom.refused := 0
      pw.pSp := plan.1.foldl (fun l (e : Nat × Int) => tPut l e.1 e.2) s1.pw.pSp }.setReg (Reg.TEMPLE_SP_TARGET 0) (toQ16 (sat16 target))
    let w := fun (v : Int) => min 65535 (v / 65536).toNat
    ((s2.setBit Reg.PWR_STATUS_FLOOR plan.2).setFld Reg.PWR_STATUS_P_ST_W (w pst)).setFld Reg.PWR_STATUS_P_SP_W (w (tGet s2.pw.pSp b 0))

/-- `LOOM.BUDGET` of the current beat. -/
def budgetShow (s : State) (b : Nat) : State :=
  (s.loomSet Reg.LOOM_BUDGET_MEDIA (min (2 ^ 32 - 1) (s.bookable .mediaEnergy b true))).loomSet Reg.LOOM_BUDGET_CHIP
    (min (2 ^ 32 - 1) (s.bookable .chipEnergy b false))

/-! ## The role swap (R127) -/

/-- The instances exchange roles at this boundary, or the swap is postponed and logged: while a recovery window is open or another planned change
runs (R21), and when a fault of group 1 fell in the beat that has ended (R127). -/
def roleSwap (s : State) : State :=
  if !s.loom.swapDue || s.loomAct Reg.LOOM_CFG_SWAP_EN = 0 then s
  else if s.simplex || !s.canFail (Reg.LOOM_PAGE 0) || !s.canFail (Reg.LOOM_PAGE 1) then { s with loom.swapDue := false }
  else if !s.changeFree || s.loom.faultBeat.any (fun b => decide (s.beat ≤ b + 1)) then s.unnamedEvent 127 (Reg.LOOM_PAGE s.loomActive) 0
  else
    let a := s.loomActive
    let s1 := (s.setFld (Reg.LOOM_STATUS_ROLE a) 1).setFld (Reg.LOOM_STATUS_ROLE (1 - a)) 0
    let s2 := (List.range 2).foldl (fun t i =>
      (t.bumpFld (Reg.LOOM_STATUS_SWAPS i) 1).setReg (Reg.LOOM_LAST_SWAP i) (BitVec.ofNat 64 t.now)) s1
    { s2 with loom.swapDue := false }

/-! ## Homes and sub-domains -/

/-- A DPC that has left ACTIVE by draining counts as lost: a SPARE one is promoted (R463 step 2). -/
def drainPromote (s : State) (n : Nat) : State :=
  if s.blk (Reg.DPC_PAGE n) = FAILED || s.active (Reg.DPC_PAGE n) then s
  else match s.firstSpare with
    | some k => s.enter (Reg.DPC_PAGE k) ACTIVE
    | none => s

/-- A change in the set of ACTIVE DPCs moves homes and invalidates every Bobbin cache (R258); a spare takes the place of a DPC that drains. -/
def homeChange (s0 : State) : State :=
  let s := s0.loom.dpcs.foldl drainPromote s0
  if s.loom.dpcs = s.activeDpcs then s else { s.bobInvalidate with loom.dpcs := s.activeDpcs }

/-- The re-striping away from a draining channel starts when R21 lets it (R199). -/
def drainRestripe (s : State) : State :=
  if s.jr.restriping then s
  else if (List.range 16).any (fun i => s.jr.striped.contains i && s.blk (Reg.DRAMC_PAGE i) == DRAINING && s.changeTurn (Reg.DRAMC_PAGE i)) then
    { s with jr.restriping := true }
  else s

/-- `SELV.STATUS.HOLDUP` while a dump is being written (R192): which step it has reached is reckoned from *tpf* at 150 GB/s, the rate that
step 5 and step 6 have at least (log entry 96). -/
def holdupShow (s : State) : State :=
  match s.dumpOpen with
  | none => s
  | some (_, d) =>
    if !s.chip.holdup then s
    else
      let at_ := d.tpf + 100000
      let meta_ := at_ + ceilDiv (16 * (d.own.length + d.mirror.length)) 150
      let own := meta_ + ceilDiv d.ownBytes 150
      s.setFld Reg.SELV_STATUS_HOLDUP (if s.now < at_ then 1 else if s.now < meta_ then 2 else if s.now < own then 3 else 4)

/-- A booking on a DPC sub-domain in RETENTION wakes it (R422). -/
def wakeSubs (s : State) : State :=
  (List.range 72).foldl (fun t i =>
    let d := 26 + i
    if i % 4 != 0 && t.domState d = PWR_RETENTION && t.subBooked (i / 4) (i % 4) && t.active (Reg.DPC_PAGE (i / 4)) then t.domUp d else t) s

/-! ## Messages to the partner -/

/-- The die bookings of the calendars this head masters (R138). -/
def dieBookings (s : State) : List Booking := s.loom.book.filter (fun x => kindOf x.res == 0 && s.books x.res)

/-- A booking as the numbers of a SHADOW item. -/
def shadowBody (x : Booking) : List Nat :=
  match x.res with
  | .die m d => [m, d, x.beat, x.amt, x.tenant, x.head]
  | _ => []

/-- The changes of the mastered calendars, and the digest of the ownership table, go to the partner (R138, R379). -/
def beatMessages (s : State) : State :=
  if !s.paired || !s.linkUp then { s with loom.sent := [] }
  else
    let now := s.dieBookings
    let added := now.filter (fun x => !s.loom.sent.contains x)
    let gone := s.loom.sent.filter (fun x => decide (s.beat ≤ x.beat) && !now.contains x)
    let s1 := if added.isEmpty && gone.isEmpty then s
      else s.sendMsg 0x0003 ([added.length, gone.length] ++ added.flatMap shadowBody ++ gone.flatMap shadowBody)
    { s1 with loom.sent := now }.sendMsg 0x0018 [(Config.ownCrc s1.ownTable).toNat]

/-! ## Background work (R153) -/

/-- The read of a whole unit, four pages, by the first alternative of its row (R144, R277). -/
def unitRead (s : State) (seg row member : Nat) : List (Nat → Option Cand) :=
  let p : Plan := { seg := seg, row := row, member := member, pages := [0, 1, 2, 3], members := [], grains := [], tries := 0 }
  ((s.altsOf seg row member).take 1).map (fun e => fun (b : Nat) => s.stripeAt p e b)

/-- The rebuild of the segment that is next (R153, R298): each unit that holds live forms is read, and its forms take a unit program on the
collection row; of a segment without forms, the units of its lost member are read. -/
def rebuildWork (s : State) (critical : Bool) : List (Nat → Option Cand) :=
  match s.rebuildNext critical with
  | none => []
  | some (k, g, _) =>
    if g.type = 1 || g.type = 2 then
      (((s.liveForms k none).map (fun e => (e.2.row, e.2.member))).dedup.mapIdx (fun i x => (s.unitRead k x.1 x.2).map (fun f =>
        fun (b : Nat) => (f b).bind (fun c => (s.collectProgram (s.loom.debts.length + i) (lastDem c.dems + 1)).map (fun p =>
          { c with dems := c.dems ++ p }))))).flatten
    else (List.range g.rows).flatMap (fun r => s.unitRead k r (g.lost.headD 0))

/-- Collection in the floor, after the debt units that are held (R152, R153): as many units of its kind as the live pages of the victim queue
need. How much of it one beat drafts the rule does not say: all of it, as far as the slack goes, DESIGN CHOICE (log entry 126). -/
def floorWork (s : State) : List (Nat → Option Cand) :=
  let n := s.debtPages
  if s.headVictim.isNone || n = 0 then []
  else (List.range (ceilDiv s.victimDies.length n - s.loom.debts.length)).map (fun i => fun b => s.debtUnit (s.loom.debts.length + i) b)

/-- The pieces of work of a rank, each as it would lie from a beat. What a piece of index paging, tally audit and dictionary training books is not
in the spec: one page-in's energy and time as map-engine lookups or DRAM reads, DESIGN CHOICE (log entry 92). -/
def rankWork (s : State) (rank : Nat) : List (Nat → Option Cand) :=
  let inProgram := fun (g : Seg) => match g.row with | some r => (match r.st with | .program _ _ => true | .filling => false) | none => false
  let row := fun (types : List Nat) =>
    (s.md.segs.filter (fun e => s.ownSeg e.1 && types.contains e.2.type && inProgram e.2)).map (fun e => fun b => s.rowProgram e.2 b)
  match rank with
  | 1 => row [1]
  | 2 => s.rebuildWork true
  | 3 => s.floorWork
  | 4 => s.rebuildWork false
  | 5 => row [3, 4]
  | 6 =>
    (s.repl.rels.filter (fun (e : Nat × Rel) => s.runsRel e.2 && e.2.source && !e.2.todo.isEmpty)).flatMap (fun e =>
      match e.2.conn with
      | some c => ((s.conn? c).map (fun x => fun b => s.readTail x.port 4096 1 1 4128 false [] 1 b)).toList
      | none => [])
  | _ =>
    let patrol := if (s.seg? s.md.patrolAt.1).isSome then s.unitRead s.md.patrolAt.1 s.md.patrolAt.2.1 s.md.patrolAt.2.2 else []
    let weave := s.mp.reweave.flatMap (fun x => match s.chunkSource x.1 with | .stripe _ e => s.unitRead e.segment e.row e.member | _ => [])
    let lookups := fun (n : Nat) => fun (b : Nat) => some (Cand.mk (s.dpcStage [] b 1 n 0 [(Res.mapEngine, n)]) 0 [])
    let dram := fun (n : Nat) => fun (b : Nat) => some (Cand.mk [Dem.mk b .dram n] 0 [])
    patrol ++ (if s.mp.rebuild.isSome then [dram 4096] else []) ++ weave
      ++ (if s.mp.auditSet.isEmpty then [] else [lookups (min 16 s.mp.auditSet.length)]) ++ s.mp.training.map (fun e => dram (4096 * e.2))

/-- The numbers of the pieces of a rank that are booked in the horizon. -/
def piecesBooked (s : State) (rank : Nat) : List Nat :=
  (s.loom.book.filterMap (fun x => match x.who with
    | .background r => if r % 16 = rank && decide (s.beat < x.beat) then some (r / 16) else none
    | _ => none)).dedup

/-- One piece of background work booked at the earliest start at which it fits. -/
def draftPiece (rank : Nat) (s : State) (f : Nat → Option Cand) : State :=
  match s.firstFit 0 false (s.beat + 64) f (beatsFrom (s.beat + 1) (s.beat + 64)) 99 with
  | (some x, _) => s.hold (.background (rank + 16 * firstFree (s.piecesBooked rank) 4096 0)) 0 x.dems
  | (none, _) => s

/-- Whether an ERASE of a block is in flight. -/
def eraseOut (s : State) (k d b : Nat) : Bool := (s.module k).cmds.any (fun c => c.op == 0x11 && c.die == d && c.block == b)

/-- The area whose erase comes before all other background work while step 14 waits for an armed one (R279): the first that is being erased. -/
def areaFirst (s : State) : Option Nat :=
  if s.chip.steps.contains 14 then none
  else [0, 1].find? (fun a => s.md.segs.any (fun e => e.2.type == 6 && e.2.st == .reserved && e.2.area == a && !e.2.erasing.isEmpty))

/-- The segments whose erases a part of the background work takes: 0 the area that step 14 waits for, 1 the rank 3 of collection, 2 the other dump
areas, in slack (R274, R279). -/
def erasePart (s : State) (part : Nat) (g : Seg) : Bool :=
  let vault := g.type == 6 && g.st == .reserved
  match part with
  | 0 => vault && s.areaFirst == some g.area
  | 1 => !vault
  | _ => vault

/-- The next block of a module to erase: die, block, and the segment and member it stands for; a DIRTY block in no segment stands for none. -/
def eraseNext (s : State) (part k : Nat) : Option (Nat × Nat × Nat × Nat) :=
  let ofSegs := (s.md.segs.filter (fun e => s.ownSeg e.1 && s.erasePart part e.2)).findSome? (fun e =>
    (e.2.erasing.find? (fun i => let m := e.2.members.getD i (64, 0, 0); m.1 == k && !s.eraseOut k m.2.1 m.2.2)).map (fun i =>
      let m := e.2.members.getD i (64, 0, 0); (m.2.1, m.2.2, e.1, i)))
  match ofSegs, (s.module k).geom with
  | some x, _ => some x
  | none, some g =>
    if part != 1 then none
    else
      ((s.diesOf k).filter s.dieUsable).findSome? (fun d =>
        ((List.range g.blocks).find? (fun b =>
          let x := s.blkOf (blkKey k d b)
          x.st == .dirty && x.seg == 0 && !s.eraseOut k d b)).map (fun b => (d, b, 2 ^ 24, 0)))
  | none, none => none

/-- The slices of an erase placed one after another in the slack, each at its earliest start (R144); none when one finds no place. -/
def placeSlices (m d : Nat) : List Nat → Nat → Nat → State → Option State
  | [], _, _, s => some s
  | n :: t, done, lo, s =>
    match s.firstFit 0 false (s.beat + 64) (fun b => some (s.sliceAt 6 m d done n b)) (beatsFrom lo (s.beat + 64)) 99 with
    | (some x, _) => placeSlices m d t (done + n) (lastDem x.dems + 1) (s.hold (.background 3) 0 x.dems)
    | (none, _) => none

/-- The erases of one part of the background work: one at a time on each module, each booked as slices in the slack (R144, R264, R274); one of a
VAULT segment carries `FLAGS.VAULT` (R321). -/
def eraseBook (part : Nat) (s : State) : State :=
  s.modulesIn.foldl (fun (t : State) k =>
    if (t.module k).cmds.any (fun c => c.op == 0x11) then t
    else
      match t.eraseNext part k with
      | none => t
      | some (d, b, seg, i) =>
        match placeSlices k d (t.slicesOf 6) 0 (t.beat + 1) t with
        | some u => u.mqpIssue k 0x11 d b 0 (if ((t.seg? seg).map (fun g => g.type == 6)).getD false then 1 else 0) 0 0 (.erase seg i)
        | none => t) s

/-- Background work of each rank in turn takes the slack that is left: the pieces of the rank that are not booked yet. Collection's erases come
in rank 3, those of a dump area that step 14 waits for before all else, and those of other dump areas last (R153, R274, R279). -/
def draftRanks (s : State) : State :=
  ([1, 2, 3, 4, 5, 6, 7].foldl (fun (t0 : State) rank =>
    let t := if (rank = 3 && t0.headVictim.isSome) || ((rank = 2 || rank = 4) && (t0.rebuildNext (rank == 2)).isSome) then t0.openFor 2 else t0
    let u := ((t.rankWork rank).drop (t.piecesBooked rank).length).foldl (draftPiece rank) t
    if rank = 3 then eraseBook 1 u else u) (eraseBook 0 s)) |> eraseBook 2

/-! ## What follows a boundary in other chapters -/

/-- A join or a cold pairing that has been won takes effect, and the key check values are exchanged (R371, R397). -/
def joinStep (s : State) : State :=
  let s1 := s.joinDone
  if s.role != 2 && s1.role = 2 then s1.kcvSend else s1

/-- The LC0 floor of pinned volumes applies from the first beat after every leaf is resident (R240). -/
def pinShow (s : State) : State :=
  { s with nv.volumes := s.nv.volumes.map (fun (e : Nat × Volume) => (e.1, { e.2 with lc0 := e.2.pinned && e.2.pinReady })) }

/-- After a takeover or a join, a Sanitize in progress is resumed at its last progress record; a head alone takes over the segments that
the record lists for the other head (R121). -/
def sanAlone (s : State) : State :=
  if s.own.sanAgain && s.serving || s.solo && s.nv.tenants.any (fun e => e.2.san.stat == 2 && !e.2.san.listOther.isEmpty) then s.sanResume else s

/-- `DIKOR.WAIT_LEFT` counts down each millisecond (R347). -/
def waitShow (s : State) (b : Nat) : State :=
  if s.dk.waitRunning && b % 100 = 0 then s.setFld Reg.DIKOR_WAIT_LEFT_MS (s.fld Reg.DIKOR_WAIT_LEFT_MS - 1) else s

/-- With both instances FAILED the head is out (R126, R351). -/
def loomGone (s : State) : State :=
  if s.chip.cond = Cond.serving && s.blk (Reg.LOOM_PAGE 0) == FAILED && s.blk (Reg.LOOM_PAGE 1) == FAILED then s.headOut else s

/-- The work of the Loom at a boundary, in the order of R159; a FENCED head makes no decision (R48). -/
def loomBeat (s0 : State) (b : Nat) : State :=
  let s := s0.loomGone
  let s1 := ((s.capacities b).beatCommits.energyPlan b).budgetShow b
  if s1.role = 5 then s1 else s1.roleSwap.wakeSubs.draftRanks

/-- The boundary at the start of a beat. -/
def beatBoundary (s : State) : State :=
  if s.chip.cond = .reset || s.pw.clocksOff then s
  else
    let old := s.beat
    let b := old + 1
    let s1 := ((s.attributeBeat old).overrunCount old)
    let s2 := { s1 with
      now := b * 10000
      loom.book := s1.loom.book.filter (fun x => decide (b ≤ x.beat))
      loom.shadow := s1.loom.shadow.filter (fun x => decide (b ≤ x.beat))
      loom.granted := s1.loom.granted.filter (fun x => decide (b ≤ x.beat))
      loom.rejected := s1.loom.rejected.filter (fun x => decide (b ≤ x.2.2))
      loom.debts := s1.loom.debts.filter (fun x => decide (b ≤ x.2)) }
    let s3 := ((s2.rebalanceQueues).homeChange).joinStep
    let s4 := ((s3.loomBeat b).sizesApply).drainRestripe.holdupShow.pinShow.rebuildTake.ckptBoundary.bulkRetry.rootStep.damageStep.quadTurn
    let s6 := (((s4.holdShow.lockShow.reloadStep).waitShow b).clearEval).claimEval.swapNext
    ((((s6.loomEval.serveEval).hbEval).sanAlone).replPump).beatMessages.syncSend

end State

open State

/-- BEAT_BOUNDARY (R134, R159). -/
def execBeatBoundary (s : State) : Out := .next s.beatBoundary

end Sys2Proof.Machine
end

