-- ==== Sys2Proof/Machine/Cipher.lean ====
section
/-!
DEFINITION. Sys2Proof/Machine/Cipher.lean: operations of the cipher engines (R400, R404).
-/

namespace Sys2Proof.Machine

/-- Least and greatest XTS data unit in bytes (R404). -/
def xtsMin : Nat := 16
def xtsMax : Nat := 16777216

/-- The limits of a GCM request: IV, tag, AAD and message (R404). -/
def gcmWithin (iv aad data mac : Bytes) (encrypt : Bool) : Bool :=
  iv.length == 12 && aad.length ≤ 4096 && data.length ≤ 2 ^ 36 - 32 && (encrypt || mac.length == 16)

/-- Whether an outbound set has reached its limit: sequence number 2^64 − 1 of an ESP set, 2^24 records of a TLS set (R404). -/
def setSpent (c : ConnSet) : Bool := if c.ipsec then 2 ^ 64 - 1 ≤ c.sent else 2 ^ 24 ≤ c.sent

/-- Greatest inner plaintext of a TLS record: 16 KiB and the content type byte (R81). -/
def tlsMax : Nat := 16385

/-- A GCM key of 128 or 256 bits. -/
def gcmKey (c : ConnSet) (key : Bytes) : Bytes := if c.key256 then key.take 32 else key.take 16

namespace State

/-- A request outside the limits: no output, counted (R404). -/
def cipherRefuse (s : State) : State := (s.bump (Reg.KEYS_CNT 5) 1).emit .cipherLimit

/-- A request that needs the key of an empty slot. -/
def cipherEmpty (s : State) (n : Nat) : State := (s.bump (Reg.KEYS_CNT 8) 1).emit (.keyEmpty n)

/-- The connections protected by a CONN slot. -/
def connsOfSlot (s : State) (n : Nat) : List Nat :=
  (s.fab.conns.filter (fun e => e.2.valid && e.2.prot != 0 && connSlot e.2 == n)).map (fun e => e.1)

/-- A TLS connection whose outbound set is spent ends (R404). -/
def tlsSpent (s : State) (n : Nat) : State := (s.connsOfSlot n).foldl (fun t i => t.teardown i) s

/-- An XTS request of a DPC cipher engine. -/
def xtsRun (s : State) (encrypt : Bool) (n : Nat) (tweak : BitVec 128) (data : Bytes) : State :=
  match s.keyFetch .dpcCipher n with
  | (none, t) => t.emit (.keyFail n)
  | (some k, t) =>
    if k.material.isEmpty then t.cipherEmpty n
    else if data.length < xtsMin || xtsMax < data.length || k.material.take 32 = (k.material.drop 32).take 32 then t.cipherRefuse
    else t.emit (.cipher (Config.xts encrypt (k.material.take 64) tweak data))

/-- The service cores send KeyUpdate at 2^23 records, and have the control plane rekey an ESP set at 2^62 (R404). -/
def rekeyDue (s : State) (n : Nat) (c : ConnSet) : State :=
  if c.ipsec then (if c.sent = 2 ^ 62 then s.emit (.rekeyDue n true) else s)
  else if c.sent = 2 ^ 23 then (s.handOff .tlsHandshake).emit (.rekeyDue n false)
  else s

/-- A GCM request for a connection's transport protection; set B when `setB`. An outbound set counts the packet or record. -/
def gcmRun (s : State) (encrypt : Bool) (n : Nat) (setB : Bool) (iv aad data mac : Bytes) : State :=
  match s.keyFetch .transport n with
  | (none, t) => t.emit (.keyFail n)
  | (some k, t) =>
    match (if setB then k.setB else k.setA) with
    | none => t.cipherEmpty n
    | some c =>
      if !gcmWithin iv aad data mac encrypt || (!c.ipsec && tlsMax < data.length) then t.cipherRefuse
      else if encrypt then
        if setSpent c then (if c.ipsec then t.cipherRefuse else t.cipherRefuse.tlsSpent n)
        else
          let c1 := { c with sent := c.sent + 1 }
          let k1 := if setB then { k with setB := some c1 } else { k with setA := some c1 }
          ((t.setKeySlot n k1).rekeyDue n c1).emit (.cipher (Config.gcmSeal (gcmKey c c.txKey) iv aad data))
      else
        match Config.gcmOpen (gcmKey c c.rxKey) iv aad data mac with
        | some p => t.emit (.cipher p)
        | none => (t.bump (Reg.KEYS_CNT 6) 1).emit .cipherTag

end State

open State

/-- XTS_OPERATION (R404). -/
def execXtsOperation (encrypt : Bool) (slot : BitVec 15) (tweak : BitVec 128) (data : Bytes) (s : State) : Out :=
  .next (s.xtsRun encrypt slot.toNat tweak data)

/-- GCM_OPERATION (R404): no plaintext leaves before its tag has verified. -/
def execGcmOperation (encrypt : Bool) (slot : BitVec 15) (setB : Bool) (iv aad data mac : Bytes) (s : State) : Out :=
  .next (s.gcmRun encrypt slot.toNat setB iv aad data mac)

end Sys2Proof.Machine
end

