-- ==== Sys2Proof/Machine/CtlOps.lean ====
section
/-!
DEFINITION. Sys2Proof/Machine/CtlOps.lean: the opcodes of the control channel (R503 to R507), but for an unknown one. A command has its
effect when it runs; one that changes journaled configuration completes once its records are MIRRORED (R504).
-/

namespace Sys2Proof.Machine

/-- What an opcode's effect answers: a status with its results, or none where another step finishes the command. -/
abbrev CtlAnswer := Option (CtlStatus × Word × Word) × State

/-- A command that ends with a status and no results. -/
def fin (st : CtlStatus) (s : State) : CtlAnswer := (some (st, 0, 0), s)

/-- The greatest divisor of 60 that is not above a number (R481); 0 where there is none. -/
def periodOf (n : Nat) : Nat := ([60, 30, 20, 15, 12, 10, 6, 5, 4, 3, 2, 1].find? (fun d => decide (d ≤ n))).getD 0

namespace State

/-! ## Common parts -/

/-- A command of group, volume, snapshot or relationship scope runs at the owner of its group; at the other head it completes with
`NOT_HERE`, which names the owner (R506). -/
def ctlOwned (s : State) (tag opcode : Nat) (buf : CtlBuf) (group : Option Nat) (f : State → CtlAnswer) : State :=
  match group with
  | some g =>
    if s.ctlReady tag opcode && tGet? s.nv.groups g == some (1 - s.headIndex) then
      (s.bump (Reg.CTLCH_CNT 4) 1).ctlFinish tag .notHere (BitVec.ofNat 64 (1 - s.headIndex)) 0
    else
      s.ctlRun tag opcode buf (fun t =>
        if (tGet? t.nv.groups g).isSome && !t.ownsGroup g then fin .state t else f t)
  | none => s.ctlRun tag opcode buf f

/-- An entry of the configuration is applied here and journaled, so that the other head applies it from its mirror (R506). -/
def ctlEntry (s : State) (c : Ctl) : State := ((s.applyCtl c).1).journalCtl [c]

/-- A register that is written outside a commit of its block, with its active copy. -/
def setBoth (s : State) (a : Nat) (w : Word) : State := if isStaged a then (s.setReg a w).setReg (a + 0x8000) w else s.setReg a w

/-- The group of a volume. -/
def volGroup (s : State) (v : Nat) : Option Nat := (s.vol? v).map (fun x => x.group)

/-! ## Head and array -/

/-- What `IDENTIFY` writes: 4,096 bytes, of which the first 64 are named. -/
def identifyBytes (s : State) : Bytes :=
  let words := [s.reg Reg.CHIP_CHIP_IDENT, s.reg Reg.CHIP_UID_LO, s.reg Reg.CHIP_UID_HI, BitVec.ofNat 64 s.headIndex, s.reg Reg.OWN_STATUS,
    s.reg Reg.DIKOR_STATUS, s.reg Reg.LIFE_STATUS, s.reg Reg.OWN_ARRAY]
  words.flatMap (fun w => bytesLE w.toNat 8) ++ List.replicate 4032 0

/-- `ARRAY_CREATE`: the array's id is set, and every unclaimed module in service is claimed (R325 step 7). -/
def arrayCreate (s : State) (tag : Nat) (id : BitVec 48) : CtlAnswer :=
  if id = 0 then fin .invalidField s
  else if s.own.arrayTag.isSome then fin .busy s
  else if s.fld Reg.OWN_ARRAY_ARRAY_ID != 0 || s.modulesIn.any (fun k => (s.module k).array != 0) then fin .state s
  else
    let s1 := s.setFld Reg.OWN_ARRAY_ARRAY_ID id.toNat
    let s2 := (s1.modulesIn.filter (fun k => !(s1.module k).claimed)).foldl
      (fun (t : State) k => t.mqpIssue k 0x40 0 0 0 0 (t.arrayWord k) 3 .claim) s1
    (none, { s2 with own.arrayTag := some tag }.claimEval)

/-- `REJOIN` (R371): a FENCED head joins the serving head, and the command completes when the join has ended. -/
def rejoin (s : State) (tag : Nat) : CtlAnswer :=
  if s.role != 5 || s.dk.sizesDiffer then fin .state s
  else if s.own.rejoin then fin .busy s
  else
    let s1 := { s with own.rejoin := true, own.joinTags := s.own.joinTags ++ [tag] }
    (none, if s1.linkUp then s1.indPaired else s1)

/-- `REBALANCE` (R376): the group goes to the other head by a swap, one at a time; it waits while R21 lets no planned change start. -/
def rebalance (s : State) (tag g target : Nat) : CtlAnswer :=
  if 1 < target then fin .invalidField s
  else if (tGet? s.nv.groups g).isNone then fin .notFound s
  else if !s.paired || !s.bit Reg.OWN_STATUS_MIRROR_READY || target = s.headIndex then fin .state s
  else if !s.own.swaps.isEmpty || !s.own.planned.isEmpty then fin .busy s
  else if s.changeFree then (none, s.swapStart g (some tag))
  else (none, { s with own.planned := [(g, some tag)] })

/-- `TIME_CONFIG` (R95): the PTP port, domain and transport, and the time source. -/
def timeConfig (s : State) (lane domain transport src : Nat) : CtlAnswer :=
  if 63 < lane || 127 < domain || 2 < transport || 3 < src then fin .invalidField s
  else fin .ok ({ s with fab.ptpPort := lane, fab.ptpDomain := domain, fab.ptpTransport := transport }.setFld Reg.TIME_CTRL_SRC src)

/-- `ACTIVE` of an address entry changed outside a commit: a generation commit of its own (R93). -/
def addressSet (s : State) (i : Nat) (on : Bool) : State :=
  let s1 := ((s.setBit (Reg.HEDDLE_ADDR_ATTR_ACTIVE i) on).setAct (Reg.HEDDLE_ADDR_ATTR_ACTIVE i) on.toNat).genNext Reg.HEDDLE_PAGE
  { s1 with fab.addrGen := s1.fab.addrGen + 1, fab.addrOld := !s1.fab.frames.isEmpty }

/-- `ADDRESS_RETURN` (R94): the head that answers for its partner clears `ACTIVE`; at the home head the address is taken and announced. -/
def addressReturn (s : State) (i : Nat) : CtlAnswer :=
  let home := s.act (Reg.HEDDLE_ADDR_ATTR_HOME i) = 0
  let on := s.act (Reg.HEDDLE_ADDR_ATTR_ACTIVE i) = 1
  if s.act (Reg.HEDDLE_ADDR_ATTR_VALID i) != 1 then fin .notFound s
  else if !home && on then
    let s1 := s.addressSet i false
    fin .ok { s1 with fab.answersPartner := s1.announceEntries.any (fun j => s1.act (Reg.HEDDLE_ADDR_ATTR_ACTIVE j) == 1) }
  else if home && !on then
    let s1 := { s.addressSet i true with fab.answersHome := true }
    fin .ok (s1.announceEntry i)
  else fin .state s

/-! ## Tenants -/

/-- `TENANT_CREATE` (R96, R106). -/
def tenantCreate (s : State) (t c1 c2 c3 : Nat) (nqn sn mn : Bytes) : CtlAnswer :=
  if t = 0 || 4095 < t || nqn.isEmpty || 223 < nqn.length || sn.length != 20 || mn.length != 40 then fin .invalidField s
  else if (s.tenant? t).isSome || s.nv.tenants.any (fun x => x.2.nqn == nqn) then fin .exists s
  else fin .ok (s.ctlEntry ⟨0x13, [1, t, c1, c2, c3, nqn.length] ++ (nqn ++ sn ++ mn).map (fun b => b.toNat)⟩)

/-- `TENANT_DELETE`: phases 1 to 4 of a Sanitize run, and then the subsystem goes (R120, R507). -/
def tenantDelete (s : State) (tag t : Nat) : CtlAnswer :=
  match s.tenant? t with
  | none => fin .notFound s
  | some x =>
    if x.san.stat = 2 || x.deleting.isSome then fin .busy s
    else (none, (s.modTenant t (fun (y : Tenant) => { y with deleting := some tag })).sanitizeBegin t)

/-- `TENANT_HOSTS` (R98): a host is added with its connection class, or removed. -/
def tenantHosts (s : State) (t op cls : Nat) (nqn : Bytes) : CtlAnswer :=
  match s.tenant? t with
  | none => fin .notFound s
  | some x =>
    let known := x.hosts.any (fun h => h.1 == nqn)
    if nqn.isEmpty || 223 < nqn.length || 3 < cls then fin .invalidField s
    else if op = 1 then
      if known then fin .exists s else fin .ok (s.ctlEntry ⟨0x13, [3, t, cls] ++ nqn.map (fun b => b.toNat)⟩)
    else if op = 2 then
      if known then fin .ok (s.ctlEntry ⟨0x13, [4, t] ++ nqn.map (fun b => b.toNat)⟩) else fin .notFound s
    else fin .invalidField s

/-- `TENANT_CONTRACT` (R149, R168): it takes effect at the next beat boundary; refused when the shares would exceed 65,536. -/
def tenantContract (s : State) (t : Nat) (w : List Word) : CtlAnswer :=
  if t != 0 && (s.tenant? t).isNone then fin .notFound s
  else if 65536 < ({ s with loom.staged := tPut s.loom.staged t w }.shareSum).fld Reg.REED_SHARE_SUM_SUM then fin .limit s
  else fin .ok (s.ctlEntry ⟨0x13, [5, t] ++ w.map (fun x => x.toNat)⟩)

/-- `TENANT_REDUCTION` (R209, R217, R222). -/
def tenantReduction (s : State) (t dedup comp verify : Nat) : CtlAnswer :=
  if 3 < dedup || 3 < comp || 1 < verify then fin .invalidField s
  else if t != 0 && (s.tenant? t).isNone then fin .notFound s
  else fin .ok (s.ctlEntry ⟨0x13, [6, t, dedup + 16 * comp + 128 * verify]⟩)

/-- `TENANT_PSK_MAP` (R403): an identity is mapped to a PSK slot (1), or unmapped (2). -/
def pskMap (s : State) (slot op : Nat) (id : Bytes) : CtlAnswer :=
  let known := s.nv.psks.find? (fun x => x.1 == id)
  if slotType slot != .psk || id.isEmpty || 256 < id.length then fin .invalidField s
  else if op = 1 then
    if known.isSome then fin .exists s else fin .ok (s.ctlEntry ⟨0x13, [7, slot] ++ id.map (fun b => b.toNat)⟩)
  else if op = 2 then
    if known.map (fun x => x.2) = some slot then fin .ok (s.ctlEntry ⟨0x13, 8 :: id.map (fun b => b.toNat)⟩) else fin .notFound s
  else fin .invalidField s

/-! ## Groups and volumes -/

/-- `GROUP_CREATE` (R354). -/
def groupCreate (s : State) (g owner : Nat) : CtlAnswer :=
  if 1 < owner then fin .invalidField s
  else if (tGet? s.nv.groups g).isSome then fin .exists s
  else if s.solo && owner != s.headIndex then fin .state s
  else fin .ok (s.setOwners [g] owner 1).ownShow

/-- `GROUP_DELETE`: of a group that holds no volume and is not being handed over. -/
def groupDelete (s : State) (g : Nat) : CtlAnswer :=
  if (tGet? s.nv.groups g).isNone then fin .notFound s
  else if s.nv.volumes.any (fun v => v.2.group == g) || (tGet? s.own.swaps g).isSome then fin .state s
  else fin .ok (s.ctlEntry ⟨0x15, [g]⟩).ownShow

/-- Whether a namespace id of a tenant is in use. -/
def nsidUsed (s : State) (t nsid : Nat) : Bool := s.nv.volumes.any (fun v => v.2.tenant == t && v.2.nsid == nsid)

/-- Volumes of a tenant, staging trees apart. -/
def tenantVolumes (s : State) (t : Nat) : Nat := (s.nv.volumes.filter (fun v => v.2.tenant == t && decide (v.1 < 65536))).length

/-- Grains of a size in blocks. -/
def sizeGrains (lbaf blocks : Nat) : Nat := if lbaf = 2 then ceilDiv blocks 8 else blocks

/-- `VOLUME_CREATE` (R99, R113, R231). -/
def volumeCreate (s : State) (v t nsid g lbaf blocks : Nat) (nguid : BitVec 128) (eui : Word) : CtlAnswer :=
  if nsid = 0 || 1024 < nsid || 2 < lbaf then fin .invalidField s
  else
    match s.tenant? t, tGet? s.nv.groups g with
    | some x, some _ =>
      if (s.vol? v).isSome || s.nsidUsed t nsid then fin .exists s
      else if 1024 ≤ s.tenantVolumes t || 2 ^ 36 < sizeGrains lbaf blocks then fin .limit s
      else if x.deleting.isSome || x.san.stat = 2 then fin .state s
      else fin .ok (s.ctlEntry ⟨0x14, [1, v, t, nsid, g, lbaf, blocks, nguid.toNat, eui.toNat]⟩)
    | _, _ => fin .notFound s

/-- `VOLUME_RESIZE`: shrinking deallocates the grains that are cut. -/
def volumeResize (s : State) (v blocks : Nat) : CtlAnswer :=
  match s.vol? v with
  | none => fin .notFound s
  | some x =>
    let old := volGrains x
    let new := sizeGrains x.lbaf blocks
    if x.formatting.isSome then fin .state s
    else if 2 ^ 36 < new then fin .limit s
    else
      let s1 := if new < old then s.stageWrite v [.deallocRange new (old - new)] [] else s
      fin .ok (s1.ctlEntry ⟨0x14, [2, v, blocks]⟩).settle

/-- Whether a clone was made from a snapshot of a volume. -/
def clonedFrom (s : State) (v : Nat) : Bool :=
  s.nv.volumes.any (fun e => (e.2.origin.bind (fun o => tGet? s.mp.snaps o)).map (fun x => x.volume) == some v)

/-- A volume goes with its snapshots: the pages that are its own are freed. -/
def volumeDrop (s : State) (v : Nat) (x : Volume) : State :=
  let s1 := s.tcntSub x.tenant 11 (4096 * (s.treeGrains x.root).length)
  let s2 := s1.freePages ((s1.mp.pages.filter (fun e => e.2.volume == v)).map (fun e => e.1))
  let snaps := s2.mp.snaps.filter (fun e => e.2.volume == v)
  let s3 := { s2 with mp.snaps := s2.mp.snaps.filter (fun e => e.2.volume != v) }.journalCtl
    (snaps.map (fun (e : Nat × Snapshot) => Ctl.mk 0x06 [2, e.1, v, 0, e.2.gen, e.2.root, 0, e.2.beat]))
  (s3.ctlEntry ⟨0x14, [3, v]⟩).settle

/-- `VOLUME_DELETE`. -/
def volumeDelete (s : State) (v : Nat) : CtlAnswer :=
  match s.vol? v with
  | none => fin .notFound s
  | some x =>
    if s.clonedFrom v || s.repl.rels.any (fun e => e.2.volume == v) || x.formatting.isSome then fin .state s
    else if s.mp.snapOps.any (fun o => o.2.volumes.contains v) then fin .busy s
    else fin .ok (s.volumeDrop v x)

/-- Leaf pages of a volume's live tree. -/
def leafPages (s : State) (x : Volume) : Nat :=
  ((s.treePages x.root).filter (fun id => ((s.page? id).map (fun p => p.level == 0)).getD false)).length

/-- `VOLUME_PIN` (R240). -/
def volumePin (s : State) (v pin : Nat) : CtlAnswer :=
  match s.vol? v with
  | none => fin .notFound s
  | some x =>
    let used := (s.nv.volumes.filter (fun e => e.1 != v && e.2.pinned && s.ownsGroup e.2.group)).foldl (fun n e => n + s.leafPages e.2) 0
    if 1 < pin then fin .invalidField s
    else if pin = 1 && x.lbaf = 2 then fin .state s
    else if pin = 1 && s.act Reg.MAPX_MAP_CFG_PIN_GIB * 2 ^ 21 < used + s.leafPages x then fin .limit s
    else if x.pinned = (pin == 1) then fin .ok s
    else fin .ok (s.ctlEntry ⟨0x07, [v, pin]⟩)

/-! ## Snapshots, clones and dictionaries -/

/-- `SNAPSHOT_CREATE` (R250, R251): the creation begins, and its end answers the command. -/
def snapshotCreate (s : State) (tag : Nat) (vols : List Nat) : CtlAnswer :=
  if vols.isEmpty || 256 < vols.length || vols.dedup.length != vols.length then fin .invalidField s
  else if vols.any (fun v => (s.vol? v).isNone) then fin .notFound s
  else if vols.any (fun v => ((s.volGroup v).map (fun g => tGet s.nv.groups g 3 == 3)).getD true) then fin .state s
  else
    match s.snapBegin vols (some tag) none with
    | some t => (none, t)
    | none => fin .limit s

/-- `SNAPSHOT_DELETE` (R253): not of one that a relationship keeps. -/
def snapshotDelete (s : State) (id : Nat) : CtlAnswer :=
  match tGet? s.mp.snaps id with
  | none => fin .notFound s
  | some x =>
    if x.hidden then fin .notFound s
    else if s.repl.rels.any (fun e => e.2.base == some id || e.2.next == some id || e.2.bases.any (fun b => b.2 == id)) then fin .state s
    else fin .ok (s.snapDrop id)

/-- The group of a snapshot's volume. -/
def snapGroup (s : State) (id : Nat) : Option Nat := (tGet? s.mp.snaps id).bind (fun x => s.volGroup x.volume)

/-- `CLONE_CREATE` (R254): a volume in the group of the snapshot's volume, rooted at the snapshot's root. Its identifiers are free
values: the opcode carries none. -/
def cloneCreate (s : State) (id v nsid : Nat) : CtlAnswer :=
  match tGet? s.mp.snaps id with
  | none => fin .notFound s
  | some x =>
    match s.vol? x.volume with
    | none => fin .notFound s
    | some o =>
      if nsid = 0 || 1024 < nsid then fin .invalidField s
      else if x.hidden then fin .notFound s
      else if (s.vol? v).isSome || s.nsidUsed o.tenant nsid then fin .exists s
      else if 1024 ≤ s.tenantVolumes o.tenant then fin .limit s
      else
        let (a, s1) := s.draw
        let (b, s2) := s1.draw
        let (c, s3) := s2.draw
        let guid := (Config.openWord a).toNat * 2 ^ 64 + (Config.openWord b).toNat
        let s4 := s3.ctlEntry ⟨0x14, [1, v, o.tenant, nsid, o.group, o.lbaf, o.blocks, guid, (Config.openWord c).toNat]⟩
        let s5 := s4.ctlEntry ⟨0x06, [4, id, x.volume, v, x.gen, x.root, id, x.beat]⟩
        fin .ok (s5.tcntAdd o.tenant 11 (4096 * (s.treeGrains x.root).length))

/-- `DICT_CONTROL` (R223, R224): 1 and 2 pin and unpin the current dictionary, 3 and 4 forbid and permit training, 5 installs. -/
def dictControl (s : State) (v op : Nat) (content : Bytes) : CtlAnswer :=
  match s.vol? v with
  | none => fin .notFound s
  | some x =>
    let mode (m : Nat) : CtlAnswer := fin .ok (s.ctlEntry ⟨0x14, [4, v, m]⟩)
    match op with
    | 1 => mode (x.dictMode / 2 * 2 + 1)
    | 2 => mode (x.dictMode / 2 * 2)
    | 3 => mode (x.dictMode % 2 + 2)
    | 4 => mode (x.dictMode % 2)
    | 5 =>
      if !dictForm content then fin .invalidField s
      else if s.dictSlot.isNone then fin .limit s
      else
        let t := s.dictInstall v content
        if (t.vol? v).map (fun y => y.dict) = some x.dict then fin .busy s else fin .ok t
    | _ => fin .invalidField s

/-! ## Replication -/

/-- The key of a relationship: the id at the source, which assigned it; with the peer array at the target (R380). -/
def relKey (source : Bool) (rid : Nat) (peer : BitVec 48) : Nat := if source then rid else 65536 * (peer.toNat + 1) + rid

/-- Whether the limits of R380 leave room for one more relationship. -/
def relRoom (s : State) (source : Bool) (v mode : Nat) (peer : BitVec 48) : Bool :=
  let mine := s.repl.rels.filter (fun e => e.2.volume == v)
  let out := mine.filter (fun e => e.2.source)
  let peers := (peer :: s.repl.rels.map (fun e => e.2.peer)).dedup
  decide (s.repl.rels.length < 8192) && decide (peers.length ≤ 7)
    && (if source then decide (out.length < 7) && !(mode == 2 && out.any (fun e => e.2.mode == 2)) else !mine.any (fun e => !e.2.source))

/-- `REPL_CREATE` (R380): `INTERVAL_S` 0 makes this end the target; the source asks for its connection. -/
def replCreate (s : State) (rid v mode iv entry : Nat) (peer : BitVec 48) (ip : BitVec 128) (remote : Nat) : CtlAnswer :=
  let src := iv != 0
  let k := relKey src rid peer
  if rid = 0 || mode = 0 || 2 < mode || peer = 0 || peer = s.arrayId || (src && mode = 1 && (iv < 60 || 86400 < iv)) then
    fin .invalidField s
  else if (s.vol? v).isNone || s.act (Reg.HEDDLE_ADDR_ATTR_VALID entry) != 1 then fin .notFound s
  else if (s.rel? k).isSome then fin .exists s
  else if !s.relRoom src v mode peer then fin .limit s
  else
    let s1 := (s.ctlEntry ⟨0x16, [1, k, rid, src.toNat, mode, v, peer.toNat, entry, ip.toNat, remote, iv]⟩).replShow
    fin .ok (if src then s1.emit (.replConnect rid entry ip) else s1)

/-- `REPL_MODIFY`: the interval and the address of the other end; a change of mode, volume or array is refused. -/
def replModify (s : State) (rid v mode iv entry : Nat) (peer : BitVec 48) (ip : BitVec 128) (remote : Nat) : CtlAnswer :=
  let src := iv != 0
  let k := relKey src rid peer
  match s.rel? k with
  | none => fin .notFound s
  | some r =>
    if src && r.mode = 1 && (iv < 60 || 86400 < iv) then fin .invalidField s
    else if s.act (Reg.HEDDLE_ADDR_ATTR_VALID entry) != 1 then fin .notFound s
    else if r.mode != mode || r.volume != v || r.peer != peer || r.source != src then fin .state s
    else
      let moved := r.source && (r.entry != entry || r.ip != ip)
      let s0 := if moved then s.relLost k else s
      let s1 := s0.ctlEntry ⟨0x16, [2, k, entry, ip.toNat, remote, iv]⟩
      fin .ok (if moved then s1.emit (.replConnect rid entry ip) else s1)

/-- `REPL_DELETE`: the cycle under way ends, and the base snapshots are deleted. -/
def replDelete (s : State) (rid : Nat) : CtlAnswer :=
  match s.relNamed rid with
  | none => fin .notFound s
  | some (k, r) =>
    let s1 := (s.cycleAbort k).stagingDrop k
    let ids := (r.base.toList ++ r.next.toList ++ r.bases.map (fun b => b.2)).dedup
    let s2 := s1.ctlEntry ⟨0x16, [3, k]⟩
    fin .ok (ids.foldl (fun (t : State) i => t.snapDrop i) s2).replShow.settle

/-- The group that a relationship's volume is in. -/
def relGroup (s : State) (rid : Nat) : Option Nat := (s.relNamed rid).bind (fun e => s.volGroup e.2.volume)

/-! ## Keys, sessions and management -/

/-- `KEY_EXPORT` (R398): the blob goes to the buffer. -/
def keyExportTo (s : State) (tag slot peer : Nat) (addr : Word) : CtlAnswer :=
  if 15 < peer || 32767 < slot then fin .invalidField s
  else if s.sec.op.isSome then fin .busy s
  else
    match s.keyExport slot peer with
    | (1, blob) => fin .ok (((s.emit (.dma addr blob)).bump (Reg.KEYS_CNT 2) 1).setKeyResult 1 slot)
    | (r, _) => (none, (s.setKeyResult r slot).ctlFinish tag .key (BitVec.ofNat 64 r) 0)

/-- An SPDM request of the control channel (R410). -/
def spdmDo (s : State) (q : SpdmReq) : State :=
  s.after (match q with
    | .getVersion => execSpdmGetVersion .control s
    | .getCapabilities => execSpdmGetCapabilities .control s
    | .negotiate a b c => execSpdmNegotiateAlgorithms .control a b c s
    | .getDigests => execSpdmGetDigests .control s
    | .getCertificate slot off len => execSpdmGetCertificate .control slot off len s
    | .challenge slot nonce => execSpdmChallenge .control slot nonce s
    | .getMeasurements i signed nonce => execSpdmGetMeasurements .control i signed nonce s
    | .unsupported => execSpdmUnsupported .control s)

/-- `ROLLBACK_COMMIT` (R460): the count goes to the running image's `SVN`, and every lower key index is revoked. -/
def rollbackCommit (s : State) : CtlAnswer :=
  match (if s.mgmt.bootedB then s.mgmt.slotB else s.mgmt.slotA) with
  | none => fin .state s
  | some i =>
    if s.mgmt.dirTrial || !s.mgmt.running then fin .state s
    else
      let n := max s.life.rollback (min 32 (imageSvn i))
      let lower : BitVec 4 := BitVec.ofNat 4 (2 ^ min 4 (imageKeyIndex i) - 1)
      let s1 := { s with life.rollback := n, life.revoked := s.life.revoked ||| lower }
      let s2 := (s1.setFld Reg.MGMT_ROLLBACK_COUNT n).setFld Reg.MGMT_ROLLBACK_REVOKED s1.life.revoked.toNat
      let s3 := s2.measExtend 8 (bytesBE (Config.measured 8 [n, s1.life.revoked.toNat, s.now]))
      fin .ok ((s3.event 0x0D09 Reg.MGMT_PAGE (argWord [(0, n)]) 0).acceptableRegs)

/-- `COUNTER_CONFIG` (R481, R484). -/
def counterConfig (s : State) (period en : Nat) (base bytes : Word) : CtlAnswer :=
  if period = 0 || 63 < period || 1 < en then fin .invalidField s
  else
    let cfg := setBits (setBits (s.reg Reg.PICK_CFG) 0 6 (periodOf period)) 8 1 en
    let s1 := ((s.setBoth Reg.PICK_CFG cfg).setBoth Reg.PICK_RING_BASE (base &&& ~~~0xFFF)).setBoth Reg.PICK_RING_BYTES (bytes &&& ~~~0xFFF)
    fin .ok (s1.genNext Reg.PICK_PAGE)

end State

open State

/-! ## The opcodes (R507) -/

/-- IDENTIFY. -/
def execIdentify (tag : Nat) (buf : CtlBuf) (addr : Word) (s : State) : Out :=
  .next (s.ctlRun tag 0x01 buf (fun t => fin .ok (t.emit (.dma addr t.identifyBytes))))

/-- ARRAY_CREATE. -/
def execArrayCreate (tag : Nat) (buf : CtlBuf) (array : BitVec 48) (s : State) : Out :=
  .next (s.ctlRun tag 0x02 buf (fun t => t.arrayCreate tag array))

/-- REJOIN (R371). -/
def execRejoin (tag : Nat) (buf : CtlBuf) (s : State) : Out := .next (s.ctlRun tag 0x03 buf (fun t => t.rejoin tag))

/-- REBALANCE (R376). -/
def execRebalance (tag : Nat) (buf : CtlBuf) (group target : BitVec 8) (s : State) : Out :=
  .next (s.ctlOwned tag 0x04 buf (some group.toNat) (fun t => t.rebalance tag group.toNat target.toNat))

/-- TIME_CONFIG (R95). -/
def execTimeConfig (tag : Nat) (buf : CtlBuf) (lane : BitVec 16) (domain transport src : BitVec 8) (s : State) : Out :=
  .next (s.ctlRun tag 0x05 buf (fun t => t.timeConfig lane.toNat domain.toNat transport.toNat src.toNat))

/-- ADDRESS_RETURN (R94). -/
def execAddressReturn (tag : Nat) (buf : CtlBuf) (entry : BitVec 8) (s : State) : Out :=
  .next (s.ctlRun tag 0x06 buf (fun t => t.addressReturn entry.toNat))

/-- TENANT_CREATE (R96, R106). -/
def execTenantCreate (tag : Nat) (buf : CtlBuf) (tenant crdt1 crdt2 crdt3 : BitVec 16) (nqn sn mn : Bytes) (s : State) : Out :=
  .next (s.ctlRun tag 0x10 buf (fun t => t.tenantCreate tenant.toNat crdt1.toNat crdt2.toNat crdt3.toNat nqn sn mn))

/-- TENANT_DELETE (R120). -/
def execTenantDelete (tag : Nat) (buf : CtlBuf) (tenant : BitVec 16) (s : State) : Out :=
  .next (s.ctlRun tag 0x11 buf (fun t => t.tenantDelete tag tenant.toNat))

/-- TENANT_HOSTS (R98). -/
def execTenantHosts (tag : Nat) (buf : CtlBuf) (tenant : BitVec 16) (op cls : BitVec 8) (nqn : Bytes) (s : State) : Out :=
  .next (s.ctlRun tag 0x12 buf (fun t => t.tenantHosts tenant.toNat op.toNat cls.toNat nqn))

/-- TENANT_CONTRACT (R149). -/
def execTenantContract (tag : Nat) (buf : CtlBuf) (tenant : BitVec 16) (w0 w1 w2 w3 : Word) (s : State) : Out :=
  .next (s.ctlRun tag 0x13 buf (fun t => t.tenantContract tenant.toNat [w0, w1, w2, w3]))

/-- TENANT_REDUCTION (R209, R217, R222). -/
def execTenantReduction (tag : Nat) (buf : CtlBuf) (tenant : BitVec 16) (dedup comp verify : BitVec 8) (s : State) : Out :=
  .next (s.ctlRun tag 0x14 buf (fun t => t.tenantReduction tenant.toNat dedup.toNat comp.toNat verify.toNat))

/-- TENANT_PSK_MAP (R403). -/
def execTenantPskMap (tag : Nat) (buf : CtlBuf) (slot : BitVec 16) (op : BitVec 8) (identity : Bytes) (s : State) : Out :=
  .next (s.ctlRun tag 0x15 buf (fun t => t.pskMap slot.toNat op.toNat identity))

/-- GROUP_CREATE (R354). -/
def execGroupCreate (tag : Nat) (buf : CtlBuf) (group owner : BitVec 8) (s : State) : Out :=
  .next (s.ctlRun tag 0x20 buf (fun t => t.groupCreate group.toNat owner.toNat))

/-- GROUP_DELETE. -/
def execGroupDelete (tag : Nat) (buf : CtlBuf) (group : BitVec 8) (s : State) : Out :=
  .next (s.ctlOwned tag 0x21 buf (some group.toNat) (fun t => t.groupDelete group.toNat))

/-- VOLUME_CREATE (R99, R113, R231). -/
def execVolumeCreate (tag : Nat) (buf : CtlBuf) (volume tenant : BitVec 16) (nsid : BitVec 32) (group lbaf : BitVec 8) (blocks : Word)
    (nguid : BitVec 128) (eui64 : Word) (s : State) : Out :=
  .next (s.ctlOwned tag 0x22 buf (some group.toNat) (fun t =>
    t.volumeCreate volume.toNat tenant.toNat nsid.toNat group.toNat lbaf.toNat blocks.toNat nguid eui64))

/-- VOLUME_RESIZE. -/
def execVolumeResize (tag : Nat) (buf : CtlBuf) (volume : BitVec 16) (blocks : Word) (s : State) : Out :=
  .next (s.ctlOwned tag 0x23 buf (s.volGroup volume.toNat) (fun t => t.volumeResize volume.toNat blocks.toNat))

/-- VOLUME_DELETE. -/
def execVolumeDelete (tag : Nat) (buf : CtlBuf) (volume : BitVec 16) (s : State) : Out :=
  .next (s.ctlOwned tag 0x24 buf (s.volGroup volume.toNat) (fun t => t.volumeDelete volume.toNat))

/-- VOLUME_PIN (R240). -/
def execVolumePin (tag : Nat) (buf : CtlBuf) (volume : BitVec 16) (pin : BitVec 8) (s : State) : Out :=
  .next (s.ctlOwned tag 0x25 buf (s.volGroup volume.toNat) (fun t => t.volumePin volume.toNat pin.toNat))

/-- SNAPSHOT_CREATE (R251): at the owner of the group's first volume. -/
def execSnapshotCreate (tag : Nat) (buf : CtlBuf) (volumes : List (BitVec 16)) (s : State) : Out :=
  .next (s.ctlOwned tag 0x26 buf (volumes.head?.bind (fun v => s.volGroup v.toNat)) (fun t =>
    t.snapshotCreate tag (volumes.map (fun v => v.toNat))))

/-- SNAPSHOT_DELETE (R253). -/
def execSnapshotDelete (tag : Nat) (buf : CtlBuf) (snapshot : BitVec 32) (s : State) : Out :=
  .next (s.ctlOwned tag 0x27 buf (s.snapGroup snapshot.toNat) (fun t => t.snapshotDelete snapshot.toNat))

/-- CLONE_CREATE (R254). -/
def execCloneCreate (tag : Nat) (buf : CtlBuf) (snapshot : BitVec 32) (volume : BitVec 16) (nsid : BitVec 32) (s : State) : Out :=
  .next (s.ctlOwned tag 0x28 buf (s.snapGroup snapshot.toNat) (fun t => t.cloneCreate snapshot.toNat volume.toNat nsid.toNat))

/-- DICT_CONTROL (R223, R224). -/
def execDictControl (tag : Nat) (buf : CtlBuf) (volume : BitVec 16) (op : BitVec 8) (content : Bytes) (s : State) : Out :=
  .next (s.ctlOwned tag 0x30 buf (s.volGroup volume.toNat) (fun t => t.dictControl volume.toNat op.toNat content))

/-- REPL_CREATE (R380). -/
def execReplCreate (tag : Nat) (buf : CtlBuf) (rel volume : BitVec 16) (mode : BitVec 8) (interval : BitVec 32) (entry : BitVec 8)
    (array : BitVec 48) (ip : BitVec 128) (remote : BitVec 16) (s : State) : Out :=
  .next (s.ctlOwned tag 0x40 buf (s.volGroup volume.toNat) (fun t =>
    t.replCreate rel.toNat volume.toNat mode.toNat interval.toNat entry.toNat array ip remote.toNat))

/-- REPL_MODIFY (R387, R389). -/
def execReplModify (tag : Nat) (buf : CtlBuf) (rel volume : BitVec 16) (mode : BitVec 8) (interval : BitVec 32) (entry : BitVec 8)
    (array : BitVec 48) (ip : BitVec 128) (remote : BitVec 16) (s : State) : Out :=
  .next (s.ctlOwned tag 0x41 buf (s.volGroup volume.toNat) (fun t =>
    t.replModify rel.toNat volume.toNat mode.toNat interval.toNat entry.toNat array ip remote.toNat))

/-- REPL_DELETE. -/
def execReplDelete (tag : Nat) (buf : CtlBuf) (rel : BitVec 16) (s : State) : Out :=
  .next (s.ctlOwned tag 0x42 buf (s.relGroup rel.toNat) (fun t => t.replDelete rel.toNat))

/-- KEY_IMPORT (R395, R396). -/
def execKeyImport (tag : Nat) (buf : CtlBuf) (slot : BitVec 16) (src : BitVec 8) (blob : Bytes) (s : State) : Out :=
  .next (s.ctlRun tag 0x50 buf (fun t =>
    if 32767 < slot.toNat then fin .invalidField t
    else if t.sec.op.isSome then fin .busy t
    else (none, t.keyImport src.toNat slot.toNat blob (some tag))))

/-- KEY_EXPORT (R398). -/
def execKeyExport (tag : Nat) (buf : CtlBuf) (slot : BitVec 16) (peer : BitVec 8) (addr : Word) (s : State) : Out :=
  .next (s.ctlRun tag 0x51 buf (fun t => t.keyExportTo tag slot.toNat peer.toNat addr))

/-- KEY_ZEROIZE (R401). -/
def execKeyZeroize (tag : Nat) (buf : CtlBuf) (slot : BitVec 16) (s : State) : Out :=
  .next (s.ctlRun tag 0x52 buf (fun t =>
    if t.sec.op.isSome then fin .busy t else (none, t.keyZeroize slot.toNat (some tag))))

/-- PEER_SET (R398). -/
def execPeerSet (tag : Nat) (buf : CtlBuf) (peer : BitVec 8) (key : Bytes) (s : State) : Out :=
  .next (s.ctlRun tag 0x53 buf (fun t =>
    if 15 < peer.toNat || key.length != 96 then fin .invalidField t
    else if t.sec.op.isSome then fin .busy t
    else fin .ok (t.peerSet peer.toNat key)))

/-- SPDM (R410): `RESULT1` is the response's length, a free value: the encoding's bytes are not modelled. -/
def execSpdm (tag : Nat) (buf : CtlBuf) (request : SpdmReq) (s : State) : Out :=
  .next (s.ctlRun tag 0x54 buf (fun t =>
    let (n, u) := (t.spdmDo request).draw
    (some (.ok, 0, ((Config.openWord n).setWidth 32).setWidth 64), u)))

/-- MEAS_EXTEND (R409). -/
def execMeasExtend (tag : Nat) (buf : CtlBuf) (reg : BitVec 8) (value : Digest) (s : State) : Out :=
  .next (s.ctlRun tag 0x55 buf (fun t =>
    if reg.toNat < 16 || 23 < reg.toNat then fin .invalidField t else fin .ok (t.measExtend reg.toNat (bytesBE value))))

/-- LIFE_REQUEST (R68, R71): refused with `REQ_ERR`, or begun. -/
def execLifeRequest (tag : Nat) (buf : CtlBuf) (target : BitVec 8) (s : State) : Out :=
  .next (s.ctlRun tag 0x56 buf (fun t =>
    match t.lifeRefusal target.toNat true with
    | some e => (none, (t.setFld Reg.LIFE_STATUS_REQ_ERR e).ctlFinish tag .state (BitVec.ofNat 64 e) 0)
    | none => fin .ok (t.lifeBegin target.toNat)))

/-- TAMPER_CLEAR (R415). -/
def execTamperClear (tag : Nat) (buf : CtlBuf) (confirm : BitVec 8) (bad : List (BitVec 15)) (s : State) : Out :=
  .next (s.ctlRun tag 0x57 buf (fun t =>
    if t.tamperClears (confirm.setWidth 6) then fin .ok (t.tamperClear (confirm.setWidth 6) (bad.map (fun b => b.toNat))) else fin .state t))

/-- UPDATE (R459, R461): the command completes after step 3. -/
def execUpdate (tag : Nat) (buf : CtlBuf) (image : Image) (s : State) : Out :=
  .next (s.ctlRun tag 0x60 buf (fun t =>
    if t.updating then fin .busy t
    else if !t.mgmt.running then fin .state t
    else (none, t.updateBegin .control image (some tag))))

/-- ROLLBACK_COMMIT (R460). -/
def execRollbackCommit (tag : Nat) (buf : CtlBuf) (s : State) : Out := .next (s.ctlRun tag 0x61 buf (fun t => t.rollbackCommit))

/-- COUNTER_CONFIG (R481, R484). -/
def execCounterConfig (tag : Nat) (buf : CtlBuf) (period ringEn : BitVec 8) (base bytes : Word) (s : State) : Out :=
  .next (s.ctlRun tag 0x70 buf (fun t => t.counterConfig period.toNat ringEn.toNat base bytes))

end Sys2Proof.Machine
end

