-- ==== Sys2Proof/Machine/Thermal.lean ====
section
/-!
DEFINITION. Sys2Proof/Machine/Thermal.lean: the temperature sample, with the SMART events it gives the controllers.
-/

namespace Sys2Proof.Machine

open State

/-- THERMAL_SAMPLE (R430 to R432, R161), and the SMART temperature events of R117. -/
def execThermalSample (temps : List (BitVec 16)) (s : State) : Out := .next (s.thermalSample temps).tempEvents

end Sys2Proof.Machine
end

