-- ==== Sys2Proof/Machine/Dispatch.lean ====
section
/-! DEFINITION. Sys2Proof/Machine/Dispatch.lean: which meaning each command has, one arm per constructor. -/

namespace Sys2Proof.Machine

def exec (i : Instr) (s : State) : Host.Outcome State Fault Refusal :=
  match i with
  | .registerWrite addr bytes value => Sys2Proof.Machine.execRegisterWrite addr bytes value s
  | .discardedRead addr bytes => Sys2Proof.Machine.execDiscardedRead addr bytes s
  | .blkEnable page value => Sys2Proof.Machine.execBlkEnable page value s
  | .blkDisable page value => Sys2Proof.Machine.execBlkDisable page value s
  | .blkDrain page value => Sys2Proof.Machine.execBlkDrain page value s
  | .softReset page value => Sys2Proof.Machine.execSoftReset page value s
  | .softResetDone page => Sys2Proof.Machine.execSoftResetDone page s
  | .blkCommit page value => Sys2Proof.Machine.execBlkCommit page value s
  | .blkCommitApply page => Sys2Proof.Machine.execBlkCommitApply page s
  | .initComplete page => Sys2Proof.Machine.execInitComplete page s
  | .drainComplete page => Sys2Proof.Machine.execDrainComplete page s
  | .blockFault page => Sys2Proof.Machine.execBlockFault page s
  | .failedWorkMoved page => Sys2Proof.Machine.execFailedWorkMoved page s
  | .dpcFailure dpc => Sys2Proof.Machine.execDpcFailure dpc s
  | .powerRequest page req => Sys2Proof.Machine.execPowerRequest page req s
  | .intRawClear page value => Sys2Proof.Machine.execIntRawClear page value s
  | .accessErrRearm value => Sys2Proof.Machine.execAccessErrRearm value s
  | .accessErrCntClear value => Sys2Proof.Machine.execAccessErrCntClear value s
  | .timeStep ns => Sys2Proof.Machine.execTimeStep ns s
  | .timeNowLowRead => Sys2Proof.Machine.execTimeNowLowRead s
  | .timeLocked => Sys2Proof.Machine.execTimeLocked s
  | .timeSourceLost => Sys2Proof.Machine.execTimeSourceLost s
  | .timeSourceReturn => Sys2Proof.Machine.execTimeSourceReturn s
  | .ppsInEdge => Sys2Proof.Machine.execPpsInEdge s
  | .ppsOutPulse => Sys2Proof.Machine.execPpsOutPulse s
  | .beatBoundary => Sys2Proof.Machine.execBeatBoundary s
  | .standbyPowerLoss => Sys2Proof.Machine.execStandbyPowerLoss s
  | .standbyPowerGood => Sys2Proof.Machine.execStandbyPowerGood s
  | .chipResetAssert => Sys2Proof.Machine.execChipResetAssert s
  | .chipResetRelease boot rtc => Sys2Proof.Machine.execChipResetRelease boot rtc s
  | .mgmtImageLoaded flipM flipN => Sys2Proof.Machine.execMgmtImageLoaded flipM flipN s
  | .mainPowerGood deckOk => Sys2Proof.Machine.execMainPowerGood deckOk s
  | .dramTrainingDone failed sizeGib rateMts => Sys2Proof.Machine.execDramTrainingDone failed sizeGib rateMts s
  | .dramInitDone => Sys2Proof.Machine.execDramInitDone s
  | .svcImageLoaded flipM flipN => Sys2Proof.Machine.execSvcImageLoaded flipM flipN s
  | .modulePortsReady => Sys2Proof.Machine.execModulePortsReady s
  | .checkpointRootsLoaded partner => Sys2Proof.Machine.execCheckpointRootsLoaded partner s
  | .journalReplayDone partnerMissing scan => Sys2Proof.Machine.execJournalReplayDone partnerMissing scan s
  | .dumpConsumed area => Sys2Proof.Machine.execDumpConsumed area s
  | .mainPowerLoss => Sys2Proof.Machine.execMainPowerLoss s
  | .perstAssert => Sys2Proof.Machine.execPerstAssert s
  | .perstRelease => Sys2Proof.Machine.execPerstRelease s
  | .pwrFailAssert => Sys2Proof.Machine.execPwrFailAssert s
  | .pwrFailGlitch => Sys2Proof.Machine.execPwrFailGlitch s
  | .holdupDumpComplete => Sys2Proof.Machine.execHoldupDumpComplete s
  | .pwrFailRelease => Sys2Proof.Machine.execPwrFailRelease s
  | .holdupSelfReset => Sys2Proof.Machine.execHoldupSelfReset s
  | .mgmtWatchdogExpiry => Sys2Proof.Machine.execMgmtWatchdogExpiry s
  | .lifeReqProvision confirm => Sys2Proof.Machine.execLifeReqProvision confirm s
  | .lifeReqDeployed confirm => Sys2Proof.Machine.execLifeReqDeployed confirm s
  | .lifeReqReturn confirm => Sys2Proof.Machine.execLifeReqReturn confirm s
  | .lifeReqScrap confirm => Sys2Proof.Machine.execLifeReqScrap confirm s
  | .fuseCellBlown ok => Sys2Proof.Machine.execFuseCellBlown ok s
  | .lifeWorkDone => Sys2Proof.Machine.execLifeWorkDone s
  | .frameReceive frame prio fill => Sys2Proof.Machine.execFrameReceive frame prio fill s
  | .frameResidenceTimeout conn => Sys2Proof.Machine.execFrameResidenceTimeout conn s
  | .frontEndPortLoss port => Sys2Proof.Machine.execFrontEndPortLoss port s
  | .connEntryWrite index w0 w1 w2 w3 => Sys2Proof.Machine.execConnEntryWrite index w0 w1 w2 w3 s
  | .connEntryDelete index => Sys2Proof.Machine.execConnEntryDelete index s
  | .connEntryRead index => Sys2Proof.Machine.execConnEntryRead index s
  | .connEntryUpdateApply => Sys2Proof.Machine.execConnEntryUpdateApply s
  | .oldVersionRelease index => Sys2Proof.Machine.execOldVersionRelease index s
  | .addressVersionRelease => Sys2Proof.Machine.execAddressVersionRelease s
  | .intakeTermination cmd => Sys2Proof.Machine.execIntakeTermination cmd s
  | .rdmaReadResponse cmd off data last => Sys2Proof.Machine.execRdmaReadResponse cmd off data last s
  | .roceAck conn reply count rtt => Sys2Proof.Machine.execRoceAck conn reply count rtt s
  | .cnpReceive conn => Sys2Proof.Machine.execCnpReceive conn s
  | .remoteAccessRequest conn => Sys2Proof.Machine.execRemoteAccessRequest conn s
  | .roceConnManagement msg => Sys2Proof.Machine.execRoceConnManagement msg s
  | .tcpSyn port addr localPort => Sys2Proof.Machine.execTcpSyn port addr localPort s
  | .icreq conn req => Sys2Proof.Machine.execIcreq conn req s
  | .h2cData conn ttag off data => Sys2Proof.Machine.execH2cData conn ttag off data s
  | .h2cTermReq conn => Sys2Proof.Machine.execH2cTermReq conn s
  | .ackTimeout conn => Sys2Proof.Machine.execAckTimeout conn s
  | .tlsClientHello conn hello => Sys2Proof.Machine.execTlsClientHello conn hello s
  | .keyUpdate conn txSecret rxSecret => Sys2Proof.Machine.execKeyUpdate conn txSecret rxSecret s
  | .announceRepeat => Sys2Proof.Machine.execAnnounceRepeat s
  | .ptpAnnounceTimeout => Sys2Proof.Machine.execPtpAnnounceTimeout s
  | .connect cmd data => Sys2Proof.Machine.execConnect cmd data s
  | .propertyGet cmd off => Sys2Proof.Machine.execPropertyGet cmd off s
  | .propertySet cmd off value => Sys2Proof.Machine.execPropertySet cmd off value s
  | .disconnect cmd => Sys2Proof.Machine.execDisconnect cmd s
  | .getLogPage cmd lid => Sys2Proof.Machine.execGetLogPage cmd lid s
  | .nvmeIdentify cmd cns nsid => Sys2Proof.Machine.execNvmeIdentify cmd cns nsid s
  | .abort cmd => Sys2Proof.Machine.execAbort cmd s
  | .setFeatures cmd fid nsid save value => Sys2Proof.Machine.execSetFeatures cmd fid nsid save value s
  | .getFeatures cmd fid nsid sel => Sys2Proof.Machine.execGetFeatures cmd fid nsid sel s
  | .asyncEventRequest cmd => Sys2Proof.Machine.execAsyncEventRequest cmd s
  | .keepAlive cmd => Sys2Proof.Machine.execKeepAlive cmd s
  | .keepAliveExpiry tenant cntlid => Sys2Proof.Machine.execKeepAliveExpiry tenant cntlid s
  | .formatNvm cmd nsid lbaf pi ses => Sys2Proof.Machine.execFormatNvm cmd nsid lbaf pi ses s
  | .formatMapRootCommit volume => Sys2Proof.Machine.execFormatMapRootCommit volume s
  | .sanitizeCryptoErase cmd ndas => Sys2Proof.Machine.execSanitizeCryptoErase cmd ndas s
  | .sanitizeBlockErase cmd ndas => Sys2Proof.Machine.execSanitizeBlockErase cmd ndas s
  | .sanitizeOverwrite cmd => Sys2Proof.Machine.execSanitizeOverwrite cmd s
  | .sanitizeExitFailure cmd => Sys2Proof.Machine.execSanitizeExitFailure cmd s
  | .sanitizePhaseComplete tenant failed => Sys2Proof.Machine.execSanitizePhaseComplete tenant failed s
  | .flush cmd nsid => Sys2Proof.Machine.execFlush cmd nsid s
  | .write cmd nsid range fua pi data standby => Sys2Proof.Machine.execWrite cmd nsid range fua pi data standby s
  | .read cmd nsid range pi standby => Sys2Proof.Machine.execRead cmd nsid range pi standby s
  | .compare cmd nsid range pi data standby => Sys2Proof.Machine.execCompare cmd nsid range pi data standby s
  | .writeZeroes cmd nsid range fua standby => Sys2Proof.Machine.execWriteZeroes cmd nsid range fua standby s
  | .datasetManagement cmd nsid ranges deallocate standby => Sys2Proof.Machine.execDatasetManagement cmd nsid ranges deallocate standby s
  | .copy cmd nsid source dest simple prinfo fua standby => Sys2Proof.Machine.execCopy cmd nsid source dest simple prinfo fua standby s
  | .reservationRegister cmd nsid act iekey ptpl crkey nrkey => Sys2Proof.Machine.execReservationRegister cmd nsid act iekey ptpl crkey nrkey s
  | .reservationReport cmd nsid extended => Sys2Proof.Machine.execReservationReport cmd nsid extended s
  | .reservationAcquire cmd nsid act iekey rtype crkey prkey => Sys2Proof.Machine.execReservationAcquire cmd nsid act iekey rtype crkey prkey s
  | .reservationRelease cmd nsid clear iekey rtype crkey => Sys2Proof.Machine.execReservationRelease cmd nsid clear iekey rtype crkey s
  | .unsupportedCommand cmd fused => Sys2Proof.Machine.execUnsupportedCommand cmd fused s
  | .reedTokensAvailable id standby => Sys2Proof.Machine.execReedTokensAvailable id standby s
  | .mapResolved id standby => Sys2Proof.Machine.execMapResolved id standby s
  | .loomSelfCheckFail loom => Sys2Proof.Machine.execLoomSelfCheckFail loom s
  | .loomSwapDue digests => Sys2Proof.Machine.execLoomSwapDue digests s
  | .reedTblReadState tenant => Sys2Proof.Machine.execReedTblReadState tenant s
  | .reedTblWriteStaged tenant w0 w1 w2 w3 => Sys2Proof.Machine.execReedTblWriteStaged tenant w0 w1 w2 w3 s
  | .reedTblReadStaged tenant => Sys2Proof.Machine.execReedTblReadStaged tenant s
  | .reedTblReadActive tenant => Sys2Proof.Machine.execReedTblReadActive tenant s
  | .collectionFloorRecompute => Sys2Proof.Machine.execCollectionFloorRecompute s
  | .energyCardFit cards => Sys2Proof.Machine.execEnergyCardFit cards s
  | .energyOverrun => Sys2Proof.Machine.execEnergyOverrun s
  | .overwriteRatioUpdate => Sys2Proof.Machine.execOverwriteRatioUpdate s
  | .claim tag tenant items cmd => Sys2Proof.Machine.execClaim tag tenant items cmd s
  | .claimAnswer tag grant => Sys2Proof.Machine.execClaimAnswer tag grant s
  | .shadow added removed => Sys2Proof.Machine.execShadow added removed s
  | .grainPipeline cmd grain dpc verified cached => Sys2Proof.Machine.execGrainPipeline cmd grain dpc verified cached s
  | .idxLookup tag grain tenant chunk fp => Sys2Proof.Machine.execIdxLookup tag grain tenant chunk fp s
  | .idxAnswer cmd grain hit => Sys2Proof.Machine.execIdxAnswer cmd grain hit s
  | .indexLookupTimeout cmd grain => Sys2Proof.Machine.execIndexLookupTimeout cmd grain s
  | .recordHeaderWrite cmd => Sys2Proof.Machine.execRecordHeaderWrite cmd s
  | .mirrorData record members good => Sys2Proof.Machine.execMirrorData record members good s
  | .mirrorAck acked flashed => Sys2Proof.Machine.execMirrorAck acked flashed s
  | .mirrorResend seq => Sys2Proof.Machine.execMirrorResend seq s
  | .rowClose segment => Sys2Proof.Machine.execRowClose segment s
  | .rowCloseTimeout segment => Sys2Proof.Machine.execRowCloseTimeout segment s
  | .stall tag => Sys2Proof.Machine.execStall tag s
  | .dramChannelFail channel pages chunks => Sys2Proof.Machine.execDramChannelFail channel pages chunks s
  | .restripeComplete => Sys2Proof.Machine.execRestripeComplete s
  | .dramUncorrectableError channel address data => Sys2Proof.Machine.execDramUncorrectableError channel address data s
  | .pendingClear chunk op => Sys2Proof.Machine.execPendingClear chunk op s
  | .tallyAuditStart tenant => Sys2Proof.Machine.execTallyAuditStart tenant s
  | .tallyAuditFinish => Sys2Proof.Machine.execTallyAuditFinish s
  | .indexRunWrite => Sys2Proof.Machine.execIndexRunWrite s
  | .indexRunFlushTimer => Sys2Proof.Machine.execIndexRunFlushTimer s
  | .reweave pair => Sys2Proof.Machine.execReweave pair s
  | .dictTraining volume content candidate current => Sys2Proof.Machine.execDictTraining volume content candidate current s
  | .redWriteStaged tenant data => Sys2Proof.Machine.execRedWriteStaged tenant data s
  | .redReadStaged tenant => Sys2Proof.Machine.execRedReadStaged tenant s
  | .redReadActive tenant => Sys2Proof.Machine.execRedReadActive tenant s
  | .indexRebuildDone => Sys2Proof.Machine.execIndexRebuildDone s
  | .shardHandback entries last => Sys2Proof.Machine.execShardHandback entries last s
  | .grainReadStage cmd grain dpc check => Sys2Proof.Machine.execGrainReadStage cmd grain dpc check s
  | .pageinComplete page good => Sys2Proof.Machine.execPageinComplete page good s
  | .pageWriteback page => Sys2Proof.Machine.execPageWriteback page s
  | .overlayFill count => Sys2Proof.Machine.execOverlayFill count s
  | .mapJournalRowClose => Sys2Proof.Machine.execMapJournalRowClose s
  | .mapJournalFlushTimer => Sys2Proof.Machine.execMapJournalFlushTimer s
  | .checkpointDue => Sys2Proof.Machine.execCheckpointDue s
  | .checkpointComplete => Sys2Proof.Machine.execCheckpointComplete s
  | .pinResident volume => Sys2Proof.Machine.execPinResident volume s
  | .snapNotice tag start members => Sys2Proof.Machine.execSnapNotice tag start members s
  | .snapConfirm tag receipt => Sys2Proof.Machine.execSnapConfirm tag receipt s
  | .snapConfirmTimeout tag => Sys2Proof.Machine.execSnapConfirmTimeout tag s
  | .snapshotCut tag => Sys2Proof.Machine.execSnapshotCut tag s
  | .snapPauseEnd tag => Sys2Proof.Machine.execSnapPauseEnd tag s
  | .snapshotDeleteRun snapshot => Sys2Proof.Machine.execSnapshotDeleteRun snapshot s
  | .bobbinLookup volume grain => Sys2Proof.Machine.execBobbinLookup volume grain s
  | .bobbinFillLand dpc volume page sector => Sys2Proof.Machine.execBobbinFillLand dpc volume page sector s
  | .mergeBufferDrain dpc => Sys2Proof.Machine.execMergeBufferDrain dpc s
  | .mergeDrainTimeout dpc => Sys2Proof.Machine.execMergeDrainTimeout dpc s
  | .keeperConfirmReq tag grain chunk tenant fpCheck => Sys2Proof.Machine.execKeeperConfirmReq tag grain chunk tenant fpCheck s
  | .keeperConfirm cmd grain good => Sys2Proof.Machine.execKeeperConfirm cmd grain good s
  | .victimScoring => Sys2Proof.Machine.execVictimScoring s
  | .collectVictim damaged lost => Sys2Proof.Machine.execCollectVictim damaged lost s
  | .segmentErase segment => Sys2Proof.Machine.execSegmentErase segment s
  | .eraseClearReq segment => Sys2Proof.Machine.execEraseClearReq segment s
  | .eraseClearAns segment => Sys2Proof.Machine.execEraseClearAns segment s
  | .capReport live metadata free reserved => Sys2Proof.Machine.execCapReport live metadata free reserved s
  | .capacityRecompute => Sys2Proof.Machine.execCapacityRecompute s
  | .liveDelta segment chunk bytes => Sys2Proof.Machine.execLiveDelta segment chunk bytes s
  | .patrolUnit result => Sys2Proof.Machine.execPatrolUnit result s
  | .segmentQuery media segment member => Sys2Proof.Machine.execSegmentQuery media segment member s
  | .mediaFailover => Sys2Proof.Machine.execMediaFailover s
  | .parityEngineFault engine => Sys2Proof.Machine.execParityEngineFault engine s
  | .rebuildSegment segment lost => Sys2Proof.Machine.execRebuildSegment segment lost s
  | .rebuildStatusPublish => Sys2Proof.Machine.execRebuildStatusPublish s
  | .lostExtentSearch => Sys2Proof.Machine.execLostExtentSearch s
  | .slotChainFrame inputs marker => Sys2Proof.Machine.execSlotChainFrame inputs marker s
  | .attentionButton slot => Sys2Proof.Machine.execAttentionButton slot s
  | .powerControllerControl port off => Sys2Proof.Machine.execPowerControllerControl port off s
  | .indicatorControl port attention power => Sys2Proof.Machine.execIndicatorControl port attention power s
  | .poweringTimeout port => Sys2Proof.Machine.execPoweringTimeout port s
  | .perstReleaseDelay port => Sys2Proof.Machine.execPerstReleaseDelay port s
  | .moduleLinkTrained port rate64 wide flit => Sys2Proof.Machine.execModuleLinkTrained port rate64 wide flit s
  | .moduleLinkTimeout port => Sys2Proof.Machine.execModuleLinkTimeout port s
  | .mqpReady port => Sys2Proof.Machine.execMqpReady port s
  | .moduleInitTimeout port => Sys2Proof.Machine.execModuleInitTimeout port s
  | .moduleEvacuated port => Sys2Proof.Machine.execModuleEvacuated port s
  | .modulePortLoss port cause => Sys2Proof.Machine.execModulePortLoss port cause s
  | .readUnitComplete done duration => Sys2Proof.Machine.execReadUnitComplete done duration s
  | .readTagComplete done duration tag => Sys2Proof.Machine.execReadTagComplete done duration tag s
  | .programUnitComplete done duration => Sys2Proof.Machine.execProgramUnitComplete done duration s
  | .eraseBlockComplete done duration => Sys2Proof.Machine.execEraseBlockComplete done duration s
  | .getGeometryComplete done geometry => Sys2Proof.Machine.execGetGeometryComplete done geometry s
  | .getDefectsComplete done bad => Sys2Proof.Machine.execGetDefectsComplete done bad s
  | .getHealthComplete done health => Sys2Proof.Machine.execGetHealthComplete done health s
  | .setPowerBudgetComplete done => Sys2Proof.Machine.execSetPowerBudgetComplete done s
  | .suspendPolicyComplete done => Sys2Proof.Machine.execSuspendPolicyComplete done s
  | .arbCasComplete done prior => Sys2Proof.Machine.execArbCasComplete done prior s
  | .mqpCommandTimeout port queue cid => Sys2Proof.Machine.execMqpCommandTimeout port queue cid s
  | .lateRead port queue cid => Sys2Proof.Machine.execLateRead port queue cid s
  | .flitReceive flit => Sys2Proof.Machine.execFlitReceive flit s
  | .syncFlit sent skew => Sys2Proof.Machine.execSyncFlit sent skew s
  | .nakRepeat => Sys2Proof.Machine.execNakRepeat s
  | .replayTimeout => Sys2Proof.Machine.execReplayTimeout s
  | .replayLimitQuadDrop errors => Sys2Proof.Machine.execReplayLimitQuadDrop errors s
  | .quadLoss quad => Sys2Proof.Machine.execQuadLoss quad s
  | .widthOrderedSet mask => Sys2Proof.Machine.execWidthOrderedSet mask s
  | .quadReturn quad => Sys2Proof.Machine.execQuadReturn quad s
  | .trainingAttempt => Sys2Proof.Machine.execTrainingAttempt s
  | .trainingStateComplete quads => Sys2Proof.Machine.execTrainingStateComplete quads s
  | .trainingAttemptTimeout => Sys2Proof.Machine.execTrainingAttemptTimeout s
  | .partnerPresentChange present => Sys2Proof.Machine.execPartnerPresentChange present s
  | .partnerAbsentTimeout => Sys2Proof.Machine.execPartnerAbsentTimeout s
  | .linkRetryTimer => Sys2Proof.Machine.execLinkRetryTimer s
  | .absentRetryTimer => Sys2Proof.Machine.execAbsentRetryTimer s
  | .partnerWaitExpiry => Sys2Proof.Machine.execPartnerWaitExpiry s
  | .soloBootRecheck => Sys2Proof.Machine.execSoloBootRecheck s
  | .identity id => Sys2Proof.Machine.execIdentity id s
  | .heartbeatLoss edge flits => Sys2Proof.Machine.execHeartbeatLoss edge flits s
  | .heartbeatRestored => Sys2Proof.Machine.execHeartbeatRestored s
  | .holdup => Sys2Proof.Machine.execHoldup s
  | .fence word => Sys2Proof.Machine.execFence word s
  | .leaseRenewal => Sys2Proof.Machine.execLeaseRenewal s
  | .joinStart s0 tail => Sys2Proof.Machine.execJoinStart s0 tail s
  | .bulk record members => Sys2Proof.Machine.execBulk record members s
  | .joinReady held => Sys2Proof.Machine.execJoinReady held s
  | .mirrorAudit => Sys2Proof.Machine.execMirrorAudit s
  | .auditDigest first records digest answer ownGood mirrorGood => Sys2Proof.Machine.execAuditDigest first records digest answer ownGood mirrorGood s
  | .mirrorFetch item => Sys2Proof.Machine.execMirrorFetch item s
  | .mirrorCopy item => Sys2Proof.Machine.execMirrorCopy item s
  | .ownDigest crc => Sys2Proof.Machine.execOwnDigest crc s
  | .groupSwapPeriod => Sys2Proof.Machine.execGroupSwapPeriod s
  | .batonOffer group gen handover => Sys2Proof.Machine.execBatonOffer group gen handover s
  | .batonAccept group handover => Sys2Proof.Machine.execBatonAccept group handover s
  | .batonAbort group cause => Sys2Proof.Machine.execBatonAbort group cause s
  | .batonAnswerTimeout group => Sys2Proof.Machine.execBatonAnswerTimeout group s
  | .batonHandover group => Sys2Proof.Machine.execBatonHandover group s
  | .batonCommit group gen handover => Sys2Proof.Machine.execBatonCommit group gen handover s
  | .fwdCmd cmd standby => Sys2Proof.Machine.execFwdCmd cmd standby s
  | .fwdData tag off data toOwner => Sys2Proof.Machine.execFwdData tag off data toOwner s
  | .fwdCpl tag sct sc delay redirect standby => Sys2Proof.Machine.execFwdCpl tag sct sc delay redirect standby s
  | .kcvList entries last => Sys2Proof.Machine.execKcvList entries last s
  | .sanitizeStep tenant phase op erased seq => Sys2Proof.Machine.execSanitizeStep tenant phase op erased seq s
  | .replFwd toOwner head msg => Sys2Proof.Machine.execReplFwd toOwner head msg s
  | .pickShadow epoch head time counters => Sys2Proof.Machine.execPickShadow epoch head time counters s
  | .replHello head hello => Sys2Proof.Machine.execReplHello head hello s
  | .replOffer head ents => Sys2Proof.Machine.execReplOffer head ents s
  | .replNeed head offer needed dicts => Sys2Proof.Machine.execReplNeed head offer needed dicts s
  | .replGrain head ents => Sys2Proof.Machine.execReplGrain head ents s
  | .replDict head id len part => Sys2Proof.Machine.execReplDict head id len part s
  | .replMapdelta head ranges => Sys2Proof.Machine.execReplMapdelta head ranges s
  | .replCommit head snap offered ranges digest => Sys2Proof.Machine.execReplCommit head snap offered ranges digest s
  | .replAck head acked credits status entry rtt => Sys2Proof.Machine.execReplAck head acked credits status entry rtt s
  | .replSyncWrite head write standby => Sys2Proof.Machine.execReplSyncWrite head write standby s
  | .replSyncAck head seq status rtt => Sys2Proof.Machine.execReplSyncAck head seq status rtt s
  | .replBase head seq => Sys2Proof.Machine.execReplBase head seq s
  | .replCycleStart rel => Sys2Proof.Machine.execReplCycleStart rel s
  | .replRetryTimer rel => Sys2Proof.Machine.execReplRetryTimer rel s
  | .syncBaseTimer rel => Sys2Proof.Machine.execSyncBaseTimer rel s
  | .syncAckTimeout rel seq => Sys2Proof.Machine.execSyncAckTimeout rel seq s
  | .keysImport src slot blob => Sys2Proof.Machine.execKeysImport src slot blob s
  | .keysExport slot peer => Sys2Proof.Machine.execKeysExport slot peer s
  | .keysZeroize slot => Sys2Proof.Machine.execKeysZeroize slot s
  | .keysInfo slot => Sys2Proof.Machine.execKeysInfo slot s
  | .keysPeerSet peer key => Sys2Proof.Machine.execKeysPeerSet peer key s
  | .ledgerAppendDone => Sys2Proof.Machine.execLedgerAppendDone s
  | .keyDropDone => Sys2Proof.Machine.execKeyDropDone s
  | .ecdheGen p384 slot => Sys2Proof.Machine.execEcdheGen p384 slot s
  | .ecdh priv peer dst => Sys2Proof.Machine.execEcdh priv peer dst s
  | .extract salt input dst => Sys2Proof.Machine.execExtract salt input dst s
  | .expandLabel secret label context dst => Sys2Proof.Machine.execExpandLabel secret label context dst s
  | .mac key hash => Sys2Proof.Machine.execMac key hash s
  | .schedZeroize slot => Sys2Proof.Machine.execSchedZeroize slot s
  | .derivedSlotExpiry slot => Sys2Proof.Machine.execDerivedSlotExpiry slot s
  | .trngHealthFail => Sys2Proof.Machine.execTrngHealthFail s
  | .trngRecover => Sys2Proof.Machine.execTrngRecover s
  | .xtsOperation encrypt slot tweak data => Sys2Proof.Machine.execXtsOperation encrypt slot tweak data s
  | .gcmOperation encrypt slot setB iv aad data mac => Sys2Proof.Machine.execGcmOperation encrypt slot setB iv aad data mac s
  | .digestInit ctx alg => Sys2Proof.Machine.execDigestInit ctx alg s
  | .digestKeypadI ctx level => Sys2Proof.Machine.execDigestKeypadI ctx level s
  | .digestKeypadO ctx level inner msg => Sys2Proof.Machine.execDigestKeypadO ctx level inner msg s
  | .digestRestore ctx source seq alg => Sys2Proof.Machine.execDigestRestore ctx source seq alg s
  | .digestFinal ctx msg => Sys2Proof.Machine.execDigestFinal ctx msg s
  | .digestFinalCompare ctx msg value flipM flipN => Sys2Proof.Machine.execDigestFinalCompare ctx msg value flipM flipN s
  | .measExtGo mr => Sys2Proof.Machine.execMeasExtGo mr s
  | .challengeRequest level => Sys2Proof.Machine.execChallengeRequest level s
  | .challengeResponse level answer => Sys2Proof.Machine.execChallengeResponse level answer s
  | .challengeExpiry level => Sys2Proof.Machine.execChallengeExpiry level s
  | .sessionClose level id => Sys2Proof.Machine.execSessionClose level id s
  | .adminIdleTimeout => Sys2Proof.Machine.execAdminIdleTimeout s
  | .sessionLockExpiry level => Sys2Proof.Machine.execSessionLockExpiry level s
  | .kcvExchangeTimer => Sys2Proof.Machine.execKcvExchangeTimer s
  | .tamperAlarm source standby sec frac => Sys2Proof.Machine.execTamperAlarm source standby sec frac s
  | .lifeTamperClear confirm clear bad => Sys2Proof.Machine.execLifeTamperClear confirm clear bad s
  | .spdmGetVersion ch => Sys2Proof.Machine.execSpdmGetVersion ch s
  | .spdmGetCapabilities ch => Sys2Proof.Machine.execSpdmGetCapabilities ch s
  | .spdmNegotiateAlgorithms ch ecdsaP384 sha384 measSha384 => Sys2Proof.Machine.execSpdmNegotiateAlgorithms ch ecdsaP384 sha384 measSha384 s
  | .spdmGetDigests ch => Sys2Proof.Machine.execSpdmGetDigests ch s
  | .spdmGetCertificate ch slot offset length => Sys2Proof.Machine.execSpdmGetCertificate ch slot offset length s
  | .spdmChallenge ch slot nonce => Sys2Proof.Machine.execSpdmChallenge ch slot nonce s
  | .spdmGetMeasurements ch index signed nonce => Sys2Proof.Machine.execSpdmGetMeasurements ch index signed nonce s
  | .spdmUnsupported ch => Sys2Proof.Machine.execSpdmUnsupported ch s
  | .railPoll vout iout status core7 => Sys2Proof.Machine.execRailPoll vout iout status core7 s
  | .pmbAlert rail status warning => Sys2Proof.Machine.execPmbAlert rail status warning s
  | .railStep rail => Sys2Proof.Machine.execRailStep rail s
  | .domainPowerUpDone dom => Sys2Proof.Machine.execDomainPowerUpDone dom s
  | .domainPowerDownDone dom => Sys2Proof.Machine.execDomainPowerDownDone dom s
  | .subdomainIdle dom => Sys2Proof.Machine.execSubdomainIdle dom s
  | .domainVoltageSettled dvfs => Sys2Proof.Machine.execDomainVoltageSettled dvfs s
  | .clockLoss domain => Sys2Proof.Machine.execClockLoss domain s
  | .warpSegmentFault => Sys2Proof.Machine.execWarpSegmentFault s
  | .thermalSample temps => Sys2Proof.Machine.execThermalSample temps s
  | .thermalEmergencyClear => Sys2Proof.Machine.execThermalEmergencyClear s
  | .hardwareTrip => Sys2Proof.Machine.execHardwareTrip s
  | .templeLoopSample loop => Sys2Proof.Machine.execTempleLoopSample loop s
  | .loopEnable loop enable => Sys2Proof.Machine.execLoopEnable loop enable s
  | .loopHold loop hold => Sys2Proof.Machine.execLoopHold loop hold s
  | .loopIReset loop => Sys2Proof.Machine.execLoopIReset loop s
  | .fanStall fan => Sys2Proof.Machine.execFanStall fan s
  | .fanRecover fan => Sys2Proof.Machine.execFanRecover fan s
  | .eventRecord code sev srcType srcInst arg0 arg1 => Sys2Proof.Machine.execEventRecord code sev srcType srcInst arg0 arg1 s
  | .eventSummary code sev => Sys2Proof.Machine.execEventSummary code sev s
  | .eventFlushTimer => Sys2Proof.Machine.execEventFlushTimer s
  | .evrecFlushWrite => Sys2Proof.Machine.execEvrecFlushWrite s
  | .eventFlushDone ok => Sys2Proof.Machine.execEventFlushDone ok s
  | .evrecReadRing index => Sys2Proof.Machine.execEvrecReadRing index s
  | .evrecReadBuffer index => Sys2Proof.Machine.execEvrecReadBuffer index s
  | .evrecRateWrite code => Sys2Proof.Machine.execEvrecRateWrite code s
  | .evrecRateRead code => Sys2Proof.Machine.execEvrecRateRead code s
  | .pldmFirmwareUpdate image => Sys2Proof.Machine.execPldmFirmwareUpdate image s
  | .uartImageReceive image => Sys2Proof.Machine.execUartImageReceive image s
  | .updateSlotProgrammed ok => Sys2Proof.Machine.execUpdateSlotProgrammed ok s
  | .trialConfirm => Sys2Proof.Machine.execTrialConfirm s
  | .sensorSample sample => Sys2Proof.Machine.execSensorSample sample s
  | .glitchDetect detector => Sys2Proof.Machine.execGlitchDetect detector s
  | .pldmBaseCommand cmd => Sys2Proof.Machine.execPldmBaseCommand cmd s
  | .pldmGetPdr handle => Sys2Proof.Machine.execPldmGetPdr handle s
  | .pldmGetSensorReading id => Sys2Proof.Machine.execPldmGetSensorReading id s
  | .pldmGetStateSensorReadings id => Sys2Proof.Machine.execPldmGetStateSensorReadings id s
  | .pldmSetEventReceiver eid => Sys2Proof.Machine.execPldmSetEventReceiver eid s
  | .pldmUnsupported => Sys2Proof.Machine.execPldmUnsupported s
  | .mctpSetEndpointId eid => Sys2Proof.Machine.execMctpSetEndpointId eid s
  | .mctpGetEndpointId => Sys2Proof.Machine.execMctpGetEndpointId s
  | .mctpGetVersionSupport => Sys2Proof.Machine.execMctpGetVersionSupport s
  | .mctpGetMessageTypeSupport => Sys2Proof.Machine.execMctpGetMessageTypeSupport s
  | .mctpOtherType => Sys2Proof.Machine.execMctpOtherType s
  | .oobFrameReceive frame forUs data => Sys2Proof.Machine.execOobFrameReceive frame forUs data s
  | .workItem core queue again reqStep busy => Sys2Proof.Machine.execWorkItem core queue again reqStep busy s
  | .coreWatchdogExpiry core => Sys2Proof.Machine.execCoreWatchdogExpiry core s
  | .coreFault core => Sys2Proof.Machine.execCoreFault core s
  | .interruptRequest src holds => Sys2Proof.Machine.execInterruptRequest src holds s
  | .intcClaim core => Sys2Proof.Machine.execIntcClaim core s
  | .intcComplete core src => Sys2Proof.Machine.execIntcComplete core src s
  | .holdoffExpiry group => Sys2Proof.Machine.execHoldoffExpiry group s
  | .pickEpochAnnounce => Sys2Proof.Machine.execPickEpochAnnounce s
  | .pickEpochLatch => Sys2Proof.Machine.execPickEpochLatch s
  | .tallyRecordWrite => Sys2Proof.Machine.execTallyRecordWrite s
  | .pickCounterRead index => Sys2Proof.Machine.execPickCounterRead index s
  | .traceRecord src item full => Sys2Proof.Machine.execTraceRecord src item full s
  | .traceSyncTimer pcs => Sys2Proof.Machine.execTraceSyncTimer pcs s
  | .traceBufferRead => Sys2Proof.Machine.execTraceBufferRead s
  | .configRequest write reg data => Sys2Proof.Machine.execConfigRequest write reg data s
  | .functionLevelReset => Sys2Proof.Machine.execFunctionLevelReset s
  | .powerStateChange dst => Sys2Proof.Machine.execPowerStateChange dst s
  | .apertureAccess write addr data => Sys2Proof.Machine.execApertureAccess write addr data s
  | .sqTailDoorbell ring value => Sys2Proof.Machine.execSqTailDoorbell ring value s
  | .cqHeadDoorbell ring value => Sys2Proof.Machine.execCqHeadDoorbell ring value s
  | .evConsDoorbell value => Sys2Proof.Machine.execEvConsDoorbell value s
  | .commandFetch ring opcode barrier cmdId token session => Sys2Proof.Machine.execCommandFetch ring opcode barrier cmdId token session s
  | .commandCompletionPost tag => Sys2Proof.Machine.execCommandCompletionPost tag s
  | .aliveBeat => Sys2Proof.Machine.execAliveBeat s
  | .aliveTimeout => Sys2Proof.Machine.execAliveTimeout s
  | .wakeRearm => Sys2Proof.Machine.execWakeRearm s
  | .ringEnable ring cplBase log2 => Sys2Proof.Machine.execRingEnable ring cplBase log2 s
  | .ringDisable ring => Sys2Proof.Machine.execRingDisable ring s
  | .identify tag buf addr => Sys2Proof.Machine.execIdentify tag buf addr s
  | .arrayCreate tag buf array => Sys2Proof.Machine.execArrayCreate tag buf array s
  | .rejoin tag buf => Sys2Proof.Machine.execRejoin tag buf s
  | .rebalance tag buf group target => Sys2Proof.Machine.execRebalance tag buf group target s
  | .timeConfig tag buf lane domain transport src => Sys2Proof.Machine.execTimeConfig tag buf lane domain transport src s
  | .addressReturn tag buf entry => Sys2Proof.Machine.execAddressReturn tag buf entry s
  | .tenantCreate tag buf tenant crdt1 crdt2 crdt3 nqn sn mn => Sys2Proof.Machine.execTenantCreate tag buf tenant crdt1 crdt2 crdt3 nqn sn mn s
  | .tenantDelete tag buf tenant => Sys2Proof.Machine.execTenantDelete tag buf tenant s
  | .tenantHosts tag buf tenant op cls nqn => Sys2Proof.Machine.execTenantHosts tag buf tenant op cls nqn s
  | .tenantContract tag buf tenant w0 w1 w2 w3 => Sys2Proof.Machine.execTenantContract tag buf tenant w0 w1 w2 w3 s
  | .tenantReduction tag buf tenant dedup comp verify => Sys2Proof.Machine.execTenantReduction tag buf tenant dedup comp verify s
  | .tenantPskMap tag buf slot op identity => Sys2Proof.Machine.execTenantPskMap tag buf slot op identity s
  | .groupCreate tag buf group owner => Sys2Proof.Machine.execGroupCreate tag buf group owner s
  | .groupDelete tag buf group => Sys2Proof.Machine.execGroupDelete tag buf group s
  | .volumeCreate tag buf volume tenant nsid group lbaf blocks nguid eui64 => Sys2Proof.Machine.execVolumeCreate tag buf volume tenant nsid group lbaf blocks nguid eui64 s
  | .volumeResize tag buf volume blocks => Sys2Proof.Machine.execVolumeResize tag buf volume blocks s
  | .volumeDelete tag buf volume => Sys2Proof.Machine.execVolumeDelete tag buf volume s
  | .volumePin tag buf volume pin => Sys2Proof.Machine.execVolumePin tag buf volume pin s
  | .snapshotCreate tag buf volumes => Sys2Proof.Machine.execSnapshotCreate tag buf volumes s
  | .snapshotDelete tag buf snapshot => Sys2Proof.Machine.execSnapshotDelete tag buf snapshot s
  | .cloneCreate tag buf snapshot volume nsid => Sys2Proof.Machine.execCloneCreate tag buf snapshot volume nsid s
  | .dictControl tag buf volume op content => Sys2Proof.Machine.execDictControl tag buf volume op content s
  | .replCreate tag buf rel volume mode interval entry array ip remote => Sys2Proof.Machine.execReplCreate tag buf rel volume mode interval entry array ip remote s
  | .replModify tag buf rel volume mode interval entry array ip remote => Sys2Proof.Machine.execReplModify tag buf rel volume mode interval entry array ip remote s
  | .replDelete tag buf rel => Sys2Proof.Machine.execReplDelete tag buf rel s
  | .replRelRead rel => Sys2Proof.Machine.execReplRelRead rel s
  | .keyImport tag buf slot src blob => Sys2Proof.Machine.execKeyImport tag buf slot src blob s
  | .keyExport tag buf slot peer addr => Sys2Proof.Machine.execKeyExport tag buf slot peer addr s
  | .keyZeroize tag buf slot => Sys2Proof.Machine.execKeyZeroize tag buf slot s
  | .peerSet tag buf peer key => Sys2Proof.Machine.execPeerSet tag buf peer key s
  | .spdm tag buf request => Sys2Proof.Machine.execSpdm tag buf request s
  | .measExtend tag buf reg value => Sys2Proof.Machine.execMeasExtend tag buf reg value s
  | .lifeRequest tag buf target => Sys2Proof.Machine.execLifeRequest tag buf target s
  | .tamperClear tag buf confirm bad => Sys2Proof.Machine.execTamperClear tag buf confirm bad s
  | .update tag buf image => Sys2Proof.Machine.execUpdate tag buf image s
  | .rollbackCommit tag buf => Sys2Proof.Machine.execRollbackCommit tag buf s
  | .counterConfig tag buf period ringEn base bytes => Sys2Proof.Machine.execCounterConfig tag buf period ringEn base bytes s
  | .ctlUnknownOpcode tag => Sys2Proof.Machine.execCtlUnknownOpcode tag s
  | .arbCasReissue port => Sys2Proof.Machine.execArbCasReissue port s
  | .norEraseComplete area ok => Sys2Proof.Machine.execNorEraseComplete area ok s
  | .tamperAlarmEnd source => Sys2Proof.Machine.execTamperAlarmEnd source s
  | .ethpLinkUp port => Sys2Proof.Machine.execEthpLinkUp port s
  | .upstreamLinkTrained rate width => Sys2Proof.Machine.execUpstreamLinkTrained rate width s
  | .tcpRetransmitTimeout conn => Sys2Proof.Machine.execTcpRetransmitTimeout conn s

end Sys2Proof.Machine
end

