-- ==== Sys2Proof/Safety.lean ====
section
/-!
DEFINITION. Sys2Proof/Safety.lean: the terms that the statements use: when a BAR0 write takes effect, and the fuses that no
command un-blows.
-/

namespace Sys2Proof.Machine

/-- A BAR0 write of this register arrives and takes effect (R27, R41, R411): nothing discards it. -/
abbrev State.accepts (s : State) (addr : Nat) : Prop := s.barReachable = true ∧ s.writeCause addr = none

/-- The fuses of a head: the life-cycle cells and the unique id (R67), the anti-rollback count and the revoked keys (R460), and the
two disabling fuses (R67, R68). -/
structure Fuses where
  cells : BitVec 24
  uid : BitVec 128
  rollback : Nat
  revoked : BitVec 4
  testDisable : Bool
  fuseRootDisable : Bool
  deriving DecidableEq, Repr

/-- The fuses in the life-cycle record. -/
def Life.fuses (l : Life) : Fuses := ⟨l.cells, l.uid, l.rollback, l.revoked, l.testDisable, l.fuseRootDisable⟩

/-- Every fuse that reads blown in `a` reads blown in `b`. -/
def Fuses.within (a b : Fuses) : Prop :=
  a.cells &&& b.cells = a.cells ∧ a.uid = b.uid ∧ a.rollback ≤ b.rollback ∧ a.revoked &&& b.revoked = a.revoked
    ∧ (a.testDisable = true → b.testDisable = true) ∧ (a.fuseRootDisable = true → b.fuseRootDisable = true)

end Sys2Proof.Machine
end

