-- ==== Sys2Proof/Certificates/Slice0/Obligations.lean ====
section
/-!
DEFINITION. Sys2Proof/Certificates/Slice0/Obligations.lean: the statements for the provers, each in terms of the model.
-/

open Sys2Proof Sys2Proof.Machine Sys2Proof.Machine.State

namespace Sys2Proof.Machine

/-- A serving head takes a frame of connection `i`: the entry version `e` that it matched, what the transport keeps `r` (not in
error), and the state `t` with the frame consumed (R85, R86, R92). -/
abbrev State.takes (s : State) (i : Nat) (e : ConnEntry) (r : ConnRt) (t : State) : Prop :=
  s.serving = true ∧ s.takeFrame i = (some e, t) ∧ t.connRt? i = some r ∧ r.err = false

/-- A frame of `cmd`'s connection, whose entry is past SETUP, reaches controller `c` (key `k`) on its admin queue. -/
abbrev State.adminAt (s : State) (cmd : CmdFrom) (e : ConnEntry) (r : ConnRt) (k : Nat) (c : Ctrl) (t : State) : Prop :=
  s.takes cmd.conn.val e r t ∧ e.st ≠ 0 ∧ t.ctrlAt cmd.conn.val = some (k, c) ∧ r.qid = 0

/-- A frame of `cmd`'s connection, whose entry is past SETUP, reaches controller `c` on an I/O queue, for a namespace that is attached, and neither sanitized,
formatted nor Inaccessible: volume `vol`, which is `v`. -/
abbrev State.ioAt (s : State) (cmd : CmdFrom) (nsid : Nat) (e : ConnEntry) (r : ConnRt) (k : Nat) (c : Ctrl) (vol : Nat) (v : Volume)
    (t : State) : Prop :=
  s.takes cmd.conn.val e r t ∧ e.st ≠ 0 ∧ t.ctrlAt cmd.conn.val = some (k, c) ∧ r.qid ≠ 0 ∧ t.nsOf e.tenant nsid = some (vol, v) ∧
    ((t.tenant? e.tenant).map (fun x => x.quiesced)).getD false = false ∧ v.formatting = none ∧ t.anaState v ≠ 2

/-- Whether a command moves data between host and array. -/
abbrev State.moves (kind : CmdKind) : Bool := kind == .write || kind == .read || kind == .compare

/-- Blocks of ranges. -/
abbrev State.blocksOf (ranges : List (Nat × Nat)) : Nat := ranges.foldl (fun n x => n + x.2) 0

/-- Bytes that a command moves between host and array: whole blocks for Write, Read and Compare, none for the others. -/
abbrev State.moved (kind : CmdKind) (v : Volume) (ranges : List (Nat × Nat)) (pi : PiReq) : Nat :=
  if State.moves kind then State.blocksOf ranges * wireBlock v pi.pract else 0

/-- The checks before admission pass: a fresh command id, a length and a range that the volume has, a reference tag that fits, no
reservation in the way, data that can arrive, and, for a write, a key in the tenant's slot that no mismatch of the heads bars, for a read or compare that
key or no grain that holds data. -/
abbrev State.ioClear (t : State) (cmd : CmdFrom) (e : ConnEntry) (r : ConnRt) (c : Ctrl) (vol : Nat) (v : Volume) (kind : CmdKind)
    (ranges extra : List (Nat × Nat)) (pi : PiReq) (data : Bytes) : Prop :=
  t.cidInUse cmd = false ∧ (State.moves kind = true → 0 < State.blocksOf ranges) ∧ State.moved kind v ranges pi ≤ 2097152 ∧
    data.length ≤ 8192 ∧ inVolume v (ranges ++ extra) = true ∧
    (v.lbaf = 1 → State.moves kind = true → pi.prchk.toNat % 2 = 1 → pi.ilbrt.toNat = (ranges.headD (0, 0)).1 % 2 ^ 48) ∧
    resConflict v.resv c.hostId (isWriteKind kind) = false ∧
    ((kind = .write ∨ kind = .compare) → e.typ = 1 → State.moved kind v ranges pi ≤ data.length ∨ r.granted ≠ 0) ∧
    (isWriteKind kind = true → t.busyWrite e.tenant = false) ∧
    (isWriteKind kind = false → t.keyEmptyOf e.tenant = true →
      (ranges.flatMap (fun x => spanGrains (grainSpan v.lbaf x.1 x.2))).any (fun g => (t.lookup vol g).isSome) = false)

/-- The command that a checked I/O command becomes, in the class that the rules of R110 give it. -/
abbrev State.ioNew (t : State) (cmd : CmdFrom) (e : ConnEntry) (vol : Nat) (v : Volume) (kind : CmdKind) (ranges : List (Nat × Nat))
    (src : Nat) (fua : Bool) (pi : PiReq) (data : Bytes) : HCmd :=
  newCmd cmd.conn.val cmd.cid.toNat e.tenant vol kind ranges src (State.moved kind v ranges pi) e.lc
    (t.effClass e.lc (t.syncFloor vol (isWriteKind kind)) v (State.moved kind v ranges pi) (isWriteKind kind) fua).1 fua pi t.now data
    (t.redOf e.tenant)

/-- What raised the command's class, counted at its submission. -/
abbrev State.ioRaise (t : State) (e : ConnEntry) (vol : Nat) (v : Volume) (kind : CmdKind) (ranges : List (Nat × Nat)) (fua : Bool)
    (pi : PiReq) : Nat :=
  (t.effClass e.lc (t.syncFloor vol (isWriteKind kind)) v (State.moved kind v ranges pi) (isWriteKind kind) fua).2

/-- What control command `tag`, run on `s`, leaves when its effect is `t` and `OK`: it is held until every record that the effect
journaled is MIRRORED (R504). -/
abbrev State.ctlOk (s : State) (tag : Nat) (t : State) : State :=
  t.ctlHold tag ((List.range ((t.reg Reg.SELV_OWN_NEXT_SEQ).toNat - (s.reg Reg.SELV_OWN_NEXT_SEQ).toNat)).map
    (fun i => (s.reg Reg.SELV_OWN_NEXT_SEQ).toNat + i)) 0 0

/-- The command `tag` has been fetched with this opcode and may start, and DMA is possible where the command has a data buffer (R53). -/
abbrev State.ctlGo (s : State) (tag opcode : Nat) : Prop :=
  s.ctlReady tag opcode = true ∧ (bufferOpcodes.contains opcode = true → s.dmaAllowed = true)

/-- The command `tag` may start, and this head owns group `g`. -/
abbrev State.ctlHere (s : State) (tag opcode g : Nat) : Prop :=
  s.ctlGo tag opcode ∧ tGet? s.nv.groups g = some s.headIndex

/-- The completion `done` is of command `c` that the module at a usable port holds, with a status it may have; `t` is the state with the
command gone (R318, R326). -/
abbrev State.mqpDone (s : State) (done : MqpDone) (c : MqpCmd) (t : State) : Prop :=
  3 ≤ s.svcState done.port.val ∧ s.svcState done.port.val ≤ 5 ∧
    (s.module done.port.val).cmds.find? (fun (x : MqpCmd) => x.queue == done.queue.val && x.cid == done.cid.toNat) = some c ∧
    knownStatus done.status.toNat = true ∧ c.op ≠ 0 ∧
    t = (s.modModule done.port.val (fun m => { m with cmds := m.cmds.filter (fun x => x != c) })).mqpNext done.port.val

/-- A serving head takes the next message of a replication connection, in order and well formed; `t` is the state with it counted
(R385). -/
abbrev State.rplTakes (s : State) (h : RplHead) (x : RplConn) (t : State) : Prop :=
  tGet? s.repl.conns h.conn.val = some x ∧ s.serving = true ∧ h.ok = true ∧ h.mseq = x.rxNext ∧
    t = ({ s with repl.conns := tPut s.repl.conns h.conn.val { x with rxNext := x.rxNext + 1 } } : State).bump (Reg.REPL_CNT 1) 1

/-- The message is of relationship `r` (key `k`), which this head runs as its source or its target. -/
abbrev State.rplAt (s : State) (h : RplHead) (source : Bool) (x : RplConn) (k : Nat) (r : Rel) (t : State) : Prop :=
  s.rplTakes h x t ∧ t.relOn h.conn.val h.rel.toNat source = some (k, r) ∧ t.runsRel r = true

end Sys2Proof.Machine

/-- For every command c and state s, step of s with c at the front of its queue is exec of c on s with the queue's
rest. On an empty queue the head idles: step answers the same state (the model's choice, log entry 3). -/
def Obligations.StepRunsTheFrontCommand : Prop :=
  (∀ (c : Instr) (rest : List Instr) (s : State), step (s.withPending (c :: rest)) = exec c (s.withPending rest)) ∧
  (∀ s : State, s.pending = [] → step s = .next s)

/-- Whatever the command and the state, exec answers a next state, never a fault and never a refusal; so does every
step. What the specification discards, refuses or leaves without effect is a next state in this model. -/
def Obligations.EveryCommandAnswersANextState : Prop :=
  (∀ (c : Instr) (s : State), ∃ t, exec c s = .next t) ∧
  (∀ s : State, ∃ t, step s = .next t)

/-- In State.reset the queue and the output log are empty, the head is in reset, the register file lists nothing, so
that every register reads its table's reset value, every measurement register is zero, every pick counter that is
a whole register of the tenant table is zero, TIME.STATUS.STATE is UNSYNCED, no control command waits and no
result is kept. -/
def Obligations.ResetState : Prop :=
  State.reset.pending = [] ∧ State.reset.out = [] ∧ State.reset.chip.cond = .reset ∧ State.reset.regs = [] ∧
    (∀ i, i < 24 → State.reset.mrBytes i = List.replicate 48 0) ∧ State.reset.pick.tenants = [] ∧
    State.reset.fld Reg.TIME_STATUS_STATE = 0 ∧ State.reset.up.cmds = [] ∧ State.reset.up.results = []

/-- For every set of blown fuses m and every state s whose fuses contain m, if a step answers a next state t, the
fuses of t contain m too: every blown cell stays blown, the unique id stays, the anti-rollback count never falls,
a revoked key stays revoked, and the test-disable and fuse-root-disable fuses stay blown. The queue of s is
arbitrary, so this holds of every command, every reset and every loss of power. -/
def Obligations.FusesAreNeverUnblown : Prop :=
  ∀ (m : Fuses) (s t : State), m.within s.life.fuses → step s = .next t → m.within t.life.fuses

/-- State.reset has every fuse unblown (the model's choice, log entry 2: the specification gives the fuses of a
device by its life-cycle state), so the fuse invariant holds there for the empty set of fuses; and every state
contains its own fuses, so the invariant over steps applies to every state. -/
def Obligations.ResetHoldsNoBlownFuse : Prop :=
  ((⟨0, 0, 0, 0, false, false⟩ : Fuses).within State.reset.life.fuses) ∧
  (∀ s : State, s.life.fuses.within s.life.fuses)

/-- BAR0 is 512 MiB, 8,192 pages of 64 KiB. Page 0 is no block page; a page holds a block instance exactly when it is
one of 1 to 169; and two pages never hold the same instance of a block. -/
def Obligations.BlocksOccupyPagesOneToOneSixtyNine : Prop :=
  512 * 2 ^ 20 = 8192 * 65536 ∧ 8192 * 65536 = 2 ^ 29 ∧ blockAt 0 = none ∧
    (∀ p, p < 8192 → ((blockAt p).isSome = true ↔ 1 ≤ p ∧ p ≤ 169)) ∧
    (∀ p q x, blockAt p = some x → blockAt q = some x → p = q)

/-- For every state, block page and bit i below its INT_COUNT, the level request of source INT_BASE + i is bit i of
BLK_INT_PEND of that page, so it stays asserted exactly as long as the bit is 1; and bits of BLK_INT_PEND at or
above INT_COUNT are 0. -/
def Obligations.InterruptRequestsFollowPending : Prop :=
  (∀ (s : State) (page i : Nat), 1 ≤ page → page ≤ 169 → i < intCount page →
     s.intcLevel (intBase page + i) = (s.intPend page).getLsbD i) ∧
  (∀ (s : State) (page i : Nat), intCount page ≤ i → (s.intPend page).getLsbD i = false)

/-- INTC has 1,024 sources, and source INT_BASE + i of a block is bit i of its BLK_INT_PEND. Each source has an
enable of one bit, a priority of at most 15, a core mask of 16 bits and a group of at most 63. A source is
pending exactly when it is enabled, requesting at that level, not claimed and not completed, and its group's
hold-off does not run. -/
def Obligations.InterruptSourcesArePendingWhenTheyRequest : Prop :=
  intcSources = 1024 ∧
    (∀ (s : State) (page i : Nat), 1 ≤ page → page ≤ 169 → i < intCount page →
      s.intcLevel (intBase page + i) = (s.intPend page).getLsbD i) ∧
    (∀ (s : State) (x : Nat), s.act (Reg.INTC_SRC_EN x) ≤ 1 ∧ s.act (Reg.INTC_SRC_PRIO x) ≤ 15 ∧
      s.act (Reg.INTC_SRC_CORE_MASK x) < 2 ^ 16 ∧ s.act (Reg.INTC_SRC_GROUP x) ≤ 63) ∧
    (∀ (s : State) (x : Nat), s.srcPending x = true ↔ s.act (Reg.INTC_SRC_EN x) = 1 ∧ s.intcLevel x = true ∧
      (∀ c stack, (c, stack) ∈ s.intc.claimed → ∀ e ∈ stack, e.1 ≠ x) ∧ s.heldOff (s.act (Reg.INTC_SRC_GROUP x)) = false)

/-- A new command's deadline, measured from the arrival of its capsule, is the class deadline plus 10 µs × max(0, ⌈(T
− 65,536) / 65,536⌉) for its transfer length T, which is 0 for Write Zeroes, Dataset Management and Copy. -/
def Obligations.DeadlineFollowsTransferLength : Prop :=
  (∀ (conn cid tenant vol : Nat) (kind : CmdKind) (ranges : List (Nat × Nat)) (src bytes connCls cls : Nat) (fua : Bool) (pi : PiReq)
     (arrived : Nat) (data : Bytes) (red : Nat),
     ((newCmd conn cid tenant vol kind ranges src bytes connCls cls fua pi arrived data red).deadline : Int) =
       arrived + classDeadline cls (isWriteKind kind) + 10000 * max 0 ⌈((bytes : ℚ) - 65536) / 65536⌉) ∧
  (∀ (v : Volume) (ranges : List (Nat × Nat)) (pi : PiReq), State.moved .writeZeroes v ranges pi = 0 ∧
     State.moved .dsm v ranges pi = 0 ∧ State.moved .copy v ranges pi = 0)

/-- With fewer than two held snapshots an epoch is held last; with both shadows occupied an epoch that is not a whole
minute is skipped, a whole minute replaces the newest held snapshot that is not one, and a whole minute is
skipped when both held ones are whole minutes. Every epoch skipped or replaced is counted, never more than two
are held, the order is kept, and the next written record carries the count of the epochs before it that were not
written. -/
def Obligations.ShadowsKeepWholeMinutes : Prop :=
  (∀ (s : State) (x : Snap), s.pick.held.length < 2 →
     (s.takeSnap x).pick.held = s.pick.held ++ [{ x with gap := s.pick.gap }] ∧ (s.takeSnap x).pick.gap = 0) ∧
  (∀ (s : State) (x a b : Snap), s.pick.held = [a, b] → minuteEpoch x.time = false →
     (s.takeSnap x).pick.held = [a, b] ∧ (s.takeSnap x).pick.gap = s.pick.gap + 1) ∧
  (∀ (s : State) (x a b : Snap), s.pick.held = [a, b] → minuteEpoch x.time = true →
     (minuteEpoch b.time = false → (s.takeSnap x).pick.held = [a, { x with gap := s.pick.gap + (b.gap + 1) }] ∧ (s.takeSnap x).pick.gap = 0) ∧
     (minuteEpoch b.time = true → minuteEpoch a.time = false →
       (s.takeSnap x).pick.held = [{ b with gap := b.gap + a.gap + 1 }, { x with gap := s.pick.gap }] ∧ (s.takeSnap x).pick.gap = 0) ∧
     (minuteEpoch b.time = true → minuteEpoch a.time = true →
       (s.takeSnap x).pick.held = [a, b] ∧ (s.takeSnap x).pick.gap = s.pick.gap + 1)) ∧
  (∀ (s : State) (x : Snap), s.pick.held.length ≤ 2 → (s.takeSnap x).pick.held.length ≤ 2) ∧
  (∀ (s t : State) (x : Snap) (rest : List Snap) (place : Nat × Nat), s.act Reg.PICK_CFG_RING_EN = 1 → s.dmaAllowed = true →
     s.tallyPlace = some place → s.pick.partnerDue = false → s.pick.held = x :: rest → exec .tallyRecordWrite s = .next t →
     ∃ r : TallyRec, r.dropped = x.gap ∧ Emit.tally place.1 r ∈ t.out)

/-- A finished command with a nonzero token puts its results in front of the table, which keeps 1,024. A fetched
command whose token is in the table completes at fetch with REPLAYED and the recorded results, one whose token
matches a command in progress with IN_PROGRESS. PERST_N, Function Level Reset and a management restart leave the
table as it is; CHIP_RESET_N empties it. -/
def Obligations.ResultsOfTokensAreKept : Prop :=
  (∀ (s : State) (opcode : Nat) (token r0 r1 : Word) (session : BitVec 32), token ≠ 0 →
     s.up.results.find? (fun r => r.1 == token) = some (token, r0, r1) → s.fetchCheck opcode token session = some (.replayed, r0, r1)) ∧
  (∀ (s : State) (opcode : Nat) (token : Word) (session : BitVec 32), token ≠ 0 →
     s.up.results.find? (fun r => r.1 == token) = none → s.up.cmds.any (fun c => c.2.token == token && c.2.done.isNone) = true →
     s.fetchCheck opcode token session = some (.inProgress, 0, 0)) ∧
  (∀ (s t : State) (ring : Fin 16) (opcode : BitVec 16) (barrier : Bool) (cmdId : BitVec 32) (token r0 r1 : Word) (session : BitVec 32)
     (st : CtlStatus), st = .replayed ∨ st = .inProgress → s.fetchCheck opcode.toNat token session = some (st, r0, r1) →
     s.bit (Reg.CTLCH_RING_SIZE_EN ring) = true → s.dmaAllowed = true → (s.ring ring).sqHead ≠ (s.ring ring).sqTail →
     (s.up.cmds.filter (fun c => c.2.done.isNone)).length < 256 → tGet? s.up.cmds s.up.nextTag = none →
     exec (.commandFetch ring opcode barrier cmdId token session) s = .next t →
     t.up.cmds = tPut s.up.cmds s.up.nextTag
       { ring := ring, cmdId := cmdId, opcode := opcode.toNat, barrier := barrier, token := token, orphan := false,
         done := some (st, r0, r1), waits := none } ∧ t.up.results = s.up.results) ∧
  (∀ (s : State) (tag : Nat) (st : CtlStatus) (r0 r1 : Word) (c : CtlCmd), tGet? s.up.cmds tag = some c → c.done = none → c.token ≠ 0 →
     st ≠ .replayed → st ≠ .inProgress →
     (s.ctlFinish tag st r0 r1).up.results = ((c.token, r0, r1) :: s.up.results).take 1024) ∧
  (∀ s t : State, exec .perstAssert s = .next t ∨ exec .functionLevelReset s = .next t ∨ t = s.mgmtRestart → t.up.results = s.up.results) ∧
  (∀ s t : State, s.chip.chipResetN = true → exec .chipResetAssert s = .next t → t.up.results = [])

/-- Bin 0 counts latencies below 10 µs, bin j from 1 to 14 counts latencies from 10 × 2^(j−1) µs up to but not
including 10 × 2^j µs, bin 15 counts 163,840 µs and above, and every latency has one bin of the sixteen. -/
def Obligations.LatencyBins : Prop :=
  (∀ ns j : Nat, 1 ≤ j → j ≤ 14 → (latencyBin ns = j ↔ 10000 * 2 ^ (j - 1) ≤ ns ∧ ns < 10000 * 2 ^ j)) ∧
  (∀ ns : Nat, (latencyBin ns = 0 ↔ ns < 10000) ∧ (latencyBin ns = 15 ↔ 163840000 ≤ ns) ∧ latencyBin ns ≤ 15)

/-- With BLK_CTRL accepted and no reset busy: a value whose ENABLE is 1 takes an OFF block whose domain is ON into
STARTING; ENABLE 0 takes an ACTIVE block into DRAINING, as DRAIN 1 does in a block that drains; each writes ROLE,
DRAIN and ENABLE. SOFT_RESET in OFF, DRAINED or SPARE writes them, sets SOFT_RESET and RESET_BUSY and clears
COMMIT_PENDING. Its completion rests the block in OFF, and shows what the modes of a quad and its neighbour call
for. A write of any other value has the effect that its bits have together, COMMIT before DRAIN and ENABLE (the model's choice, log entry 144),
and one of page 0 is discarded as read-only. COMMIT sets COMMIT_PENDING in an ACTIVE block, and the block's own boundary applies it, the address table's
once no frame needs the previous table. A STARTING block enters ACTIVE, a LOOM instance only once step 12 is past
and the link is settled, or SPARE when its ROLE names a spare. A DRAINING block enters DRAINED. A FAILED block
whose work has moved enters RETIRED. -/
def Obligations.BlockStateEventsMoveTheBlock : Prop :=
  (∀ (s : State) (page : BitVec 13) (value : Word) (b : BlockInfo) (n : Nat), page ≠ 0 →
     blockAt page.toNat = some (b, n) → s.accepts (Reg.BLK_CTRL page.toNat) → value.getLsbD 2 = false →
     value.getLsbD 3 = false → s.blk page.toNat = OFF → s.pwr page.toNat = PWR_ON →
     s.bit (Reg.BLK_STATE_RESET_BUSY page.toNat) = false →
     exec (.blkEnable page value) s =
       .next ((s.ctrlFields b page.toNat (withBit value 0)).enter page.toNat STARTING)) ∧
  (∀ (s : State) (page : BitVec 13) (value : Word) (b : BlockInfo) (n : Nat), page ≠ 0 →
     blockAt page.toNat = some (b, n) → s.accepts (Reg.BLK_CTRL page.toNat) → value.getLsbD 2 = false →
     value.getLsbD 3 = false → s.blk page.toNat = ACTIVE → s.bit (Reg.BLK_STATE_RESET_BUSY page.toNat) = false →
     exec (.blkDisable page value) s =
       .next ((s.ctrlFields b page.toNat (setBits value 0 1 0)).enter page.toNat DRAINING)) ∧
  (∀ (s : State) (page : BitVec 13) (value : Word) (b : BlockInfo) (n : Nat), page ≠ 0 →
     blockAt page.toNat = some (b, n) → b.drainable = true → s.accepts (Reg.BLK_CTRL page.toNat) →
     value.getLsbD 2 = false → value.getLsbD 3 = false → s.blk page.toNat = ACTIVE →
     s.bit (Reg.BLK_STATE_RESET_BUSY page.toNat) = false →
     exec (.blkDrain page value) s =
       .next ((s.ctrlFields b page.toNat (withBit value 1)).enter page.toNat DRAINING)) ∧
  (∀ (s : State) (page : BitVec 13) (value : Word) (b : BlockInfo) (n : Nat), page ≠ 0 →
     blockAt page.toNat = some (b, n) → b.resettable = true → s.accepts (Reg.BLK_CTRL page.toNat) →
     value.getLsbD 3 = false → s.mayReset page.toNat = true →
     exec (.softReset page value) s =
       .next ((((s.ctrlFields b page.toNat (withBit value 2)).setBit (Reg.BLK_CTRL_SOFT_RESET page.toNat) true).setBit
         (Reg.BLK_STATE_RESET_BUSY page.toNat) true).setBit (Reg.BLK_STATE_COMMIT_PENDING page.toNat) false)) ∧
  (∀ (s t : State) (page : BitVec 13), s.bit (Reg.BLK_STATE_RESET_BUSY page.toNat) = true →
     t = { s with regs := s.regs.filter (fun e => e.1 / 0x10000 != page.toNat || 0x100 ≤ e.1 % 0x10000 ||
       e.1 % 0x10000 = 0x38) } →
     exec (.softResetDone page) s =
       .next (match (blockAt page.toNat).map (fun (b : BlockInfo × Nat) => (b.1.type, b.2)) with
         | some (.ethp, q) => ((((t.setFld (Reg.BLK_STATE_PWR page.toNat) (s.pwr page.toNat)).resetPage page.toNat).resetTables
             page.toNat).setReg (Reg.BLK_INT_RAW page.toNat) (s.heldBits page.toNat)).toState page.toNat OFF |>.modePair q
         | _ => ((((t.setFld (Reg.BLK_STATE_PWR page.toNat) (s.pwr page.toNat)).resetPage page.toNat).resetTables
             page.toNat).setReg (Reg.BLK_INT_RAW page.toNat) (s.heldBits page.toNat)).toState page.toNat OFF).intcEval) ∧
  (∀ (s : State) (page : BitVec 13) (value : Word) (b : BlockInfo) (n : Nat), page ≠ 0 →
     blockAt page.toNat = some (b, n) → b.staging = true → commitPages page.toNat = [page.toNat] →
     s.accepts (Reg.BLK_CTRL page.toNat) → value.getLsbD 2 = false → bitsOf value 0 1 = 1 → bitsOf value 1 1 = 0 →
     s.blk page.toNat = ACTIVE → s.bit (Reg.BLK_STATE_COMMIT_PENDING page.toNat) = false →
     s.bit (Reg.BLK_STATE_RESET_BUSY page.toNat) = false →
     exec (.blkCommit page value) s =
       .next ((s.setBit (Reg.BLK_STATE_COMMIT_PENDING page.toNat) true).ctrlFields b page.toNat (withBit value 3))) ∧
  (∀ (s : State) (page : BitVec 13), s.bit (Reg.BLK_STATE_COMMIT_PENDING page.toNat) = true →
     (page.toNat = Reg.HEDDLE_PAGE → s.fab.addrOld = false) → commitsNow s page.toNat = true →
     exec (.blkCommitApply page) s = .next (s.commitApply page.toNat)) ∧
  (∀ (s : State) (page : BitVec 13), s.blk page.toNat = STARTING →
     (page.toNat = Reg.LOOM_PAGE 0 ∨ page.toNat = Reg.LOOM_PAGE 1 → s.chip.steps.contains 12 = true ∧
       (s.dk.passed = true ∨ s.bit Reg.DIKOR_STATUS_ABSENT = true ∨ s.lstate = 10 ∨ s.lstate = 11)) →
     s.fld (Reg.BLK_CTRL_ROLE page.toNat) ≠ 0xE →
     exec (.initComplete page) s = .next ((s.enter page.toNat ACTIVE).drainedEval page.toNat)) ∧
  (∀ (s : State) (page : BitVec 13) (b : BlockInfo) (n : Nat), s.blk page.toNat = STARTING →
     blockAt page.toNat = some (b, n) → b.spare = true → page.toNat ≠ Reg.LOOM_PAGE 0 → page.toNat ≠ Reg.LOOM_PAGE 1 →
     s.fld (Reg.BLK_CTRL_ROLE page.toNat) = 0xE →
     exec (.initComplete page) s = .next ((s.enter page.toNat SPARE).drainedEval page.toNat)) ∧
  (∀ (s : State) (page : BitVec 13), s.blk page.toNat = DRAINING → drainOver s page.toNat = true →
     exec (.drainComplete page) s = .next ((s.enter page.toNat DRAINED).drainedEval page.toNat)) ∧
  (∀ (s : State) (page : BitVec 13), s.blk page.toNat = FAILED →
     exec (.failedWorkMoved page) s = .next (s.enter page.toNat RETIRED)) ∧
  (∀ (s : State) (page : BitVec 13) (value : Word) (b : BlockInfo) (n : Nat), page ≠ 0 → blockAt page.toNat = some (b, n) →
     s.accepts (Reg.BLK_CTRL page.toNat) →
     exec (.blkEnable page value) s = .next (s.ctrlEffect b page.toNat (withBit value 0)) ∧
     exec (.blkDisable page value) s = .next (s.ctrlEffect b page.toNat (setBits value 0 1 0)) ∧
     exec (.blkDrain page value) s = .next (s.ctrlEffect b page.toNat (withBit value 1)) ∧
     exec (.softReset page value) s = .next (s.ctrlEffect b page.toNat (withBit value 2)) ∧
     exec (.blkCommit page value) s = .next (s.ctrlEffect b page.toNat (withBit value 3))) ∧
  (∀ (s t : State) (value : Word), s.barReachable = true → t = s.discard (Reg.BLK_CTRL 0) false true .readOnly →
     exec (.blkEnable 0 value) s = .next t ∧ exec (.blkDisable 0 value) s = .next t ∧ exec (.blkDrain 0 value) s = .next t ∧
     exec (.softReset 0 value) s = .next t ∧ exec (.blkCommit 0 value) s = .next t)

/-- An aligned 64-bit write of a block's register whose domain is ON and that no cause discards writes the changeable
fields, with what hangs on the register; a 4-byte read of a mapped register at an offset that 4 does not divide is
discarded as MISALIGNED, and an 8-byte read of nothing mapped as UNMAPPED. A RAW write clears the bits it names but for conditions that hold, and the interrupt
controller is evaluated. VALID written 1 clears the capture, a nonzero count write the count. A step applies
while UNSYNCED. The low read of NOW latches its upper half. LOCKED, HOLDOVER and LOCKING follow their events,
PPS_IN is captured and PPS_OUT driven. -/
def Obligations.RegisterAccessesAndTimeEventsComplete : Prop :=
  (∀ (s : State) (addr : BitVec 29) (value v : Word) (page : Nat) (r : RegDesc), s.barReachable = true →
     addr.toNat % 8 = 0 → regAt addr.toNat = .block page r → s.pwr page = PWR_ON →
     (r.staged && s.bit (Reg.BLK_STATE_COMMIT_PENDING page)) = false → (needsSession addr.toNat && !s.adminOpen) = false →
     regDescWrite r s.rwlLocked (s.reg addr.toNat) value = .inr v → addr.toNat ≠ Reg.TIME_STEP →
     reservedCard page (addr.toNat % 0x10000) = false →
     addr.toNat ≠ Reg.CHIP_ACCESS_ERR → addr.toNat ≠ Reg.CHIP_ACCESS_ERR_CNT →
     exec (.registerWrite addr 8 value) s = .next ((s.ringSizeWrite addr.toNat v).regHook page addr.toNat)) ∧
  (∀ (s : State) (addr : BitVec 29), s.barReachable = true → regAt (addr.toNat / 8 * 8) ≠ .none →
     addr.toNat % 4 ≠ 0 →
     exec (.discardedRead addr 4) s = .next ((s.discard addr.toNat true false .misaligned).emit (.barData 0))) ∧
  (∀ (s : State) (addr : BitVec 29), s.barReachable = true → regAt (addr.toNat / 8 * 8) = .none →
     exec (.discardedRead addr 8) s = .next ((s.discard addr.toNat false false .unmapped).emit (.barData 0))) ∧
  (∀ (s : State) (page : BitVec 13) (value : Word), page ≠ 0 → (blockAt page.toNat).isSome = true →
     s.accepts (Reg.BLK_INT_RAW page.toNat) →
     exec (.intRawClear page value) s =
       .next (s.setReg (Reg.BLK_INT_RAW page.toNat)
         ((s.reg (Reg.BLK_INT_RAW page.toNat) &&& ~~~value) ||| s.heldBits page.toNat)).intcEval) ∧
  (∀ (s : State) (value : Word), s.barReachable = true → s.pwr Reg.CHIP_PAGE = PWR_ON → value.getLsbD 0 = true →
     exec (.accessErrRearm value) s = .next (s.setReg Reg.CHIP_ACCESS_ERR 0)) ∧
  (∀ (s : State) (value : Word), s.barReachable = true → s.pwr Reg.CHIP_PAGE = PWR_ON →
     value.setWidth 32 ≠ (0 : BitVec 32) →
     exec (.accessErrCntClear value) s = .next (s.setReg Reg.CHIP_ACCESS_ERR_CNT 0)) ∧
  (∀ (s t : State) (ns : Word), s.accepts Reg.TIME_STEP → s.fld Reg.TIME_STATUS_STATE = 0 → s.chip.leftUnsynced = false →
     t = { s with now := ((s.now : Int) + ns.toInt).toNat, freeCtr := s.freeCtr + 17 } →
     exec (.timeStep ns) s =
       .next (t.traceSync (List.range 61) ((List.range 17).map (fun i => (Config.openWord (s.freeCtr + i)).setWidth 48)))) ∧
  (∀ s : State, s.barReachable = true → s.pwr Reg.TIME_PAGE = PWR_ON →
     exec .timeNowLowRead s = .next ({ s with chip.nowHigh := some (BitVec.ofNat 32 (s.now / 2 ^ 32)) }.emit
       (.barData (BitVec.ofNat 64 (s.now % 2 ^ 32))))) ∧
  (∀ s : State, s.fld Reg.TIME_STATUS_STATE = 2 → exec .timeLocked s = .next (s.setFld Reg.TIME_STATUS_STATE 3)) ∧
  (∀ s : State, s.fld Reg.TIME_STATUS_STATE = 3 → exec .timeSourceLost s = .next (s.setFld Reg.TIME_STATUS_STATE 4)) ∧
  (∀ s : State, s.fld Reg.TIME_STATUS_STATE = 4 → exec .timeSourceReturn s = .next (s.setFld Reg.TIME_STATUS_STATE 2)) ∧
  (∀ s : State, s.chip.cond ≠ .reset →
     exec .ppsInEdge s = .next (s.setReg Reg.TIME_PPS_CAPTURE (BitVec.ofNat 64 s.now))) ∧
  (∀ s : State, s.chip.cond ≠ .reset → s.chip.cond ≠ .fatal → s.bit Reg.TIME_CTRL_PPS_OUT_EN = true →
     exec .ppsOutPulse s = .next { s with chip.ppsOut := s.chip.ppsOut + 1 })

/-- Step 3 runs the image the ROM reads next when it is accepted, or records the slot as tried, and with none left
the head is fatal. MAIN_PWR_OK goes on with steps 5 and 6 when steps 1 to 4 are done; a failed deck check is
fatal. Step 7 sets each channel's training result, and more than one that fails is fatal. Step 8 enables the
module ports, step 9 measures the service image and starts the cores when it is accepted, step 10 enables MEDIA
and DIKOR and starts the link's training, step 12 rebuilds the maps from the roots and goes on as the head's role asks,
step 13 replays what the dumps and the journal segments hold, then takes over what was won alone or sends a joining
partner its records, and the head may serve. A dump area no record of which is still needed is consumed and erased. -/
def Obligations.BootStepsComplete : Prop :=
  (∀ (s : State) (flipM flipN : Bool) (i : Image), s.mgmt.running = false → s.chip.cond = .booting →
     (s.chip.holdup = true → s.dramTrained = true) → s.slotImage s.nextSlot = some i →
     exec (.mgmtImageLoaded flipM flipN) s =
       .next (if s.imageAccept i flipM flipN then s.imageRuns s.nextSlot i
         else if s.mgmt.tried = [] then { s with mgmt.tried := [s.nextSlot] } else s.fatalEnter 2 3)) ∧
  (∀ (s t : State) (deckOk : Bool), s.chip.cond = .booting → s.chip.steps.contains 4 = true → s.chip.steps.contains 5 = false →
     s.chip.pwrFailN = true → s.chip.holdup = false → t = { s with chip.mainPwrOk := true, chip.deck := none } →
     exec (.mainPowerGood deckOk) s = .next (t.mainStart deckOk)) ∧
  (∀ (s t : State), t = ((s.domainsOn ((List.range 9).map (fun i => 174 + i))).domainsOn (if s.chip.perstN then domainsOf Reg.UPEP_PAGE else [])).stepDone 5 →
     s.mainStart false = t.fatalEnter 1 6) ∧
  (∀ (s t : State) (failed : List (Fin 16)) (bad : List Nat) (size rate : Nat), s.chip.cond = .booting → s.chip.holdup = false →
     s.chip.steps.contains 6 = true → s.chip.steps.contains 7 = false → s.dataPath = true → bad = (failed.map (fun i => i.val)).dedup →
     t = (List.range 16).foldl (fun (t : State) i =>
       if bad.contains i then (t.setFld (Reg.DRAMC_STATUS_TRAIN i) 3).toState (Reg.DRAMC_PAGE i) FAILED
       else ((((t.setFld (Reg.DRAMC_STATUS_TRAIN i) 2).setFld (Reg.DRAMC_STATUS_SIZE_GIB i) size).setFld
         (Reg.DRAMC_STATUS_RATE_MTS i) rate).bootEnable (Reg.DRAMC_PAGE i))) s →
     (bad.length ≤ 1 → exec (.dramTrainingDone failed size rate) s =
       .next (({ t with jr.lostCh := bad, jr.striped := upTo 16 (fun i => !bad.contains i), jr.openStripes := [], jr.laps := [] }.setFld
         Reg.SELV_STATUS_CHANNELS (16 - bad.length)).stepDone 7)) ∧
     (1 < bad.length → exec (.dramTrainingDone failed size rate) s = .next (t.fatalEnter 9 7))) ∧
  (∀ (s t : State), s.chip.cond = .booting → s.chip.holdup = false → s.chip.steps.contains 7 = true → s.chip.steps.contains 8 = false →
     t = (List.range 64).foldl (fun (u : State) k => u.bootEnable (Reg.MODP_PAGE k)) (s.stepDone 8) →
     exec .dramInitDone s =
       .next ((List.range 64).foldl (fun (u : State) k => if u.svcState k = 2 then u.modModule k (fun m => { m with perstRel := true }) else u) t)) ∧
  (∀ (s t : State) (flipM flipN : Bool) (i : Image), s.chip.cond = .booting → s.chip.holdup = false → s.chip.steps.contains 6 = true →
     s.chip.steps.contains 9 = false → s.dataPath = true → s.slotImage s.mgmt.bootedB = some i →
     t = (s.measExtend 3 (bytesBE (Config.sha384 ((((imageComponents i).find? (fun c => c.1 == 2)).map (fun c => c.2.2)).getD [])))).measExtend 3
       (bytesBE (Config.sha384 (imageSigned i))) →
     exec (.svcImageLoaded flipM flipN) s =
       .next (if t.imageAccept i flipM flipN then
         (({ (List.range 16).foldl (fun (t : State) c =>
             (t.bootEnable (Reg.SVC_PAGE c)).setFld (Reg.SVC_STATUS_FW_VERSION c) (imageVersion i).toNat) t with
           svc.rev := (imageVersion i).toNat }.rebalanceQueues).stepDone 9).serveEval
       else t)) ∧
  (∀ s : State, s.chip.cond = .booting → s.chip.holdup = false → s.chip.steps.contains 8 = true → s.chip.steps.contains 10 = false →
     exec .modulePortsReady s =
       .next ((([Reg.MEDIA_PAGE 0, Reg.MEDIA_PAGE 1, Reg.DIKOR_PAGE]).foldl bootEnable (s.stepDone 10)).trainStart)) ∧
  (∀ (s t : State) (partner : RootsRead), s.chip.cond = .booting → s.chip.holdup = false → s.chip.steps.contains 10 = true →
     s.chip.steps.contains 12 = false → s.dataPath = true → t = ((s.loadRoots partner).dpcStart).loomEval.mediaShow.armShow →
     exec (.checkpointRootsLoaded partner) s =
       .next (if t.role = 4 then t.joinEval
         else if t.own.recover = true then ({ t with own.recover := false }.stepDone 13).leaseIssue 1 2 t.now t.now
         else ((t.membersNow.poolClaim).reserveAreas).soloDecide)) ∧
  (∀ (s t u : State) (partnerMissing : Bool) (scan : List ScanRow), s.replayMay = true →
     t = ((s.replay (s.role == 3 || partnerMissing) (s.role == 3 || partnerMissing) scan).dropUnkept).stepDone 13 →
     u = (match t.own.move with
       | some m => if m.cause = 3 ∧ s.role = 3 then { t with own.move := none }.takeover m m.won.length else t
       | none => t) →
     exec (.journalReplayDone partnerMissing scan) s =
       .next (((if s.role ≠ 3 ∧ (u.own.join.map (fun (j : Join) => j.sent)).getD true = false then u.joinSend
         else u).joinEval.coldEval.loomEval.serveEval.sanResume).ownShow)) ∧
  (∀ (s : State) (area : Fin 2), exec (.dumpConsumed area) s = .next (s.dumpConsume area.val) ∧
     (∀ d, (if area.val = 0 then s.jr.dumpA else s.jr.dumpB) = some d → d.consumed = false → d.result ≠ 0 → s.chip.steps.contains 13 = true →
       (∀ r ∈ s.jr.own, r.flashed = true ∨ ∀ x ∈ d.own, x.seq ≠ r.seq) →
       (∀ r ∈ s.jr.mir, r.flashed = true ∨ s.own.adopted ≤ r.seq ∨ ∀ x ∈ d.mirror, x.seq ≠ r.seq) →
       exec (.dumpConsumed area) s =
         .next ((({ s.setDump area.val (some { d with consumed := true }) with jr.badOwn := [], jr.badMir := [] }.resizeArea area.val).eraseArea
           area.val).armShow)))

/-- A block that can fail, that is one neither RETIRED nor FAILED already, goes to FAILED, and the fault is marked for the misses of R164; a
block that cannot, and a page with no block, are left as they are. A failed LOOM leaves the other in charge, or the head out of service
when none is left. A failed DPC loses its caches, gives its waiting grains back, is replaced by the lowest spare when it was ACTIVE, and its
bookings are drafted again. A failed MEDIA instance gives its role to the other, if that has not failed. A failed module port is lost, a
failed DIKOR takes an up link down, and the loss of PWR or TEMPLE takes the head out. The fault of a DPC's, a service core's or a DRAM
channel's block is that element's own fault; which lines the channel held is a free value (log entry 121). -/
def Obligations.FaultsTakeTheirPartOutOfService : Prop :=
  (∀ (s : State) (page : BitVec 13), blockAt page.toNat = none ∨ s.canFail page.toNat = false → exec (.blockFault page) s = .next s) ∧
  (∀ (s : State) (page : BitVec 13) (b : BlockInfo) (n : Nat), blockAt page.toNat = some (b, n) → s.canFail page.toNat = true →
     b.type ≠ .loom → b.type ≠ .media → b.type ≠ .dpc → b.type ≠ .svc → b.type ≠ .dramc → b.type ≠ .modp → b.type ≠ .dikor →
     b.type ≠ .pwr → b.type ≠ .temple →
     exec (.blockFault page) s = .next (s.faultMark.enter page.toNat FAILED).swapFault) ∧
  (∀ (s : State) (page : BitVec 13) (b : BlockInfo) (n : Nat), blockAt page.toNat = some (b, n) → s.canFail page.toNat = true →
     (b.type = .pwr ∨ b.type = .temple → exec (.blockFault page) s = .next (s.faultMark.enter page.toNat FAILED).swapFault.headOut) ∧
     (b.type = .modp → exec (.blockFault page) s = .next ((s.enter page.toNat FAILED).portLost n).swapFault) ∧
     (b.type = .dikor → exec (.blockFault page) s =
       .next (if s.linkUp then (s.enter page.toNat FAILED).linkDown else s.enter page.toNat FAILED).swapFault) ∧
     (b.type = .loom → exec (.blockFault page) s =
       .next (if ((s.faultMark.loomFail n).swapFault).canFail (Reg.LOOM_PAGE (1 - n)) then (s.faultMark.loomFail n).swapFault
         else ((s.faultMark.loomFail n).swapFault).headOut)) ∧
     (b.type = .media → exec (.blockFault page) s =
       .next (if s.blk (Reg.MEDIA_PAGE (1 - n)) = FAILED then (s.faultMark.toState (Reg.MEDIA_PAGE n) FAILED).swapFault
         else (((s.faultMark.toState (Reg.MEDIA_PAGE n) FAILED).swapFault).setFld (Reg.MEDIA_STATUS_ROLE n) 1).setFld
           (Reg.MEDIA_STATUS_ROLE (1 - n)) 0)) ∧
     (∀ dpc : Fin 18, b.type = .dpc → n = dpc.val → exec (.blockFault page) s = exec (.dpcFailure dpc) s) ∧
     (∀ core : Fin 16, b.type = .svc → n = core.val → exec (.blockFault page) s = exec (.coreFault core) s) ∧
     (b.type = .dramc → exec (.blockFault page) s = .next (s.channelFault n))) ∧
  (∀ (s : State) (loom : Fin 2), s.canFail (Reg.LOOM_PAGE loom.val) = true →
     exec (.loomSelfCheckFail loom) s =
       .next ((if ((s.faultMark.loomFail loom.val).swapFault).canFail (Reg.LOOM_PAGE (1 - loom.val)) then (s.faultMark.loomFail loom.val).swapFault
         else ((s.faultMark.loomFail loom.val).swapFault).headOut).unnamedEvent 126 (Reg.LOOM_PAGE loom.val) 0)) ∧
  (∀ (s : State) (dpc : Fin 18) (t : State), s.canFail (Reg.DPC_PAGE dpc.val) = true →
     t = { s.faultMark with mp.dictCache := tDel s.mp.dictCache dpc, mp.bobbins := tDel s.mp.bobbins dpc }.enter
       (Reg.DPC_PAGE dpc.val) FAILED →
     exec (.dpcFailure dpc) s =
       .next (((match (if s.active (Reg.DPC_PAGE dpc.val) then t.firstSpare else none) with
         | some k => t.enter (Reg.DPC_PAGE k) ACTIVE
         | none => t).dpcGrainsBack dpc.val |>.redraft (fun b => dpcOf b.res == some dpc.val)).swapFault)) ∧
  (∀ s : State, s.canFail (Reg.MEDIA_PAGE s.mediaActive) = true →
     exec .mediaFailover s =
       .next (if s.blk (Reg.MEDIA_PAGE (1 - s.mediaActive)) = FAILED then (s.faultMark.toState (Reg.MEDIA_PAGE s.mediaActive) FAILED).swapFault
         else (((s.faultMark.toState (Reg.MEDIA_PAGE s.mediaActive) FAILED).swapFault).setFld (Reg.MEDIA_STATUS_ROLE s.mediaActive) 1).setFld
           (Reg.MEDIA_STATUS_ROLE (1 - s.mediaActive)) 0))

/-- A lost front-end port that was up leaves the set of ports that are up, the fault is marked and the commands with work booked on the port
are drafted again. A failed DRAM channel that was in service leaves both regions, its map pages and its index entries that the command names
are lost, and the head goes on with the others. A service core with a fault, or an ACTIVE one whose watchdog expires, goes to FAILED; with no
ACTIVE core left a serving head is out. A watchdog that expires on a core that is not ACTIVE has no effect. -/
def Obligations.PortChannelAndCoreFaultsComplete : Prop :=
  (∀ (s : State) (port : Fin 64), s.fab.up.contains port.val = true →
     exec (.frontEndPortLoss port) s =
       .next ({ s.faultMark with fab.up := s.fab.up.filter (fun p => p != port.val) }.redraft
         (fun b => b.res == Res.portIn port.val || b.res == Res.portOut port.val)).swapFault) ∧
  (∀ (s : State) (port : Fin 64), s.fab.up.contains port.val = false → exec (.frontEndPortLoss port) s = .next s) ∧
  (∀ (s : State) (channel : Fin 16) (pages chunks : List Nat), s.canFail (Reg.DRAMC_PAGE channel.val) = true →
     exec (.dramChannelFail channel pages chunks) s = .next (s.faultMark.dramFail channel.val pages chunks).swapFault) ∧
  (∀ (s t : State) (core : Fin 16), s.canFail (Reg.SVC_PAGE core.val) = true →
     t = (s.faultMark.enter (Reg.SVC_PAGE core.val) FAILED).swapFault →
     exec (.coreFault core) s =
       .next (if s.chip.cond = Cond.serving && !(List.range 16).any t.coreActive then t.headOut else t)) ∧
  (∀ (s t : State) (core : Fin 16),
     (s.coreActive core.val = true → s.canFail (Reg.SVC_PAGE core.val) = true →
       t = (s.faultMark.enter (Reg.SVC_PAGE core.val) FAILED).swapFault →
       exec (.coreWatchdogExpiry core) s =
         .next (if s.chip.cond = Cond.serving && !(List.range 16).any t.coreActive then t.headOut else t)) ∧
     (s.coreActive core.val = false → exec (.coreWatchdogExpiry core) s = .next s))

/-- The loss of the clock of domain 0, 5 or 6 is fatal cause 5; that of domain 1 loses every front-end port, that of domain 2 every module
port, that of domain 3 takes an up link down, that of domain 4 the upstream link, and that of 7 to 24 or 25 to 40 fails one DPC or one service
core. The hardware trip stops a dump, drives THERMTRIP_N low, stops the clocks and is fatal cause 8. A sub-domain that AUTO may gate, on,
asked for by no request and without a booking, goes to RETENTION; the control and map sub-domain stays on. -/
def Obligations.ClockLossTripAndIdleSubdomainComplete : Prop :=
  (∀ (s : State) (d : Fin 41), d.val = 0 ∨ d.val = 5 ∨ d.val = 6 → exec (.clockLoss d) s = .next (s.fatalEnter 5 0)) ∧
  (∀ s : State, exec (.clockLoss 1) s =
     .next ({ s.faultMark with fab.up := [] }.redraft (fun b => kindOf b.res == 7 || kindOf b.res == 8)).swapFault) ∧
  (∀ s : State, exec (.clockLoss 2) s = .next ((List.range 64).foldl portGone s.faultMark)) ∧
  (∀ s : State, exec (.clockLoss 3) s = .next (if s.linkUp then s.linkDown.swapFault else s)) ∧
  (∀ s : State, exec (.clockLoss 4) s =
     .next (s.setReg Reg.UPEP_LINK (s.reg Reg.UPEP_LINK &&& ~~~(fieldMask Reg.UPEP_LINK_RATE.lo Reg.UPEP_LINK_RATE.w
       ||| fieldMask Reg.UPEP_LINK_WIDTH.lo Reg.UPEP_LINK_WIDTH.w)))) ∧
  (∀ (s : State) (d : Fin 41), 7 ≤ d.val → d.val ≤ 24 → exec (.clockLoss d) s = .next (s.dpcFault (d.val - 7))) ∧
  (∀ (s : State) (d : Fin 41), 25 ≤ d.val → exec (.clockLoss d) s = .next (s.coreFault (d.val - 25))) ∧
  (∀ (s t : State), s.chip.cond ≠ .reset → t = s.dumpStop 2 →
     exec .hardwareTrip s =
       .next (({ t with chip.thermtripN := false, pw.clocksOff := true }.setBit Reg.THERM_STATUS_TRIPPED true).fatalEnter 8 0)) ∧
  (∀ (s : State) (dom : Fin 183), 26 ≤ dom.val → dom.val ≤ 97 → (dom.val - 26) % 4 ≠ 0 → s.domState dom = PWR_ON →
     s.fld (Reg.BLK_PWR_REQ_REQ (Reg.DPC_PAGE ((dom.val - 26) / 4))) = 0 → s.act Reg.PWR_CFG_AUTO_GATE = 1 →
     s.subBooked ((dom.val - 26) / 4) ((dom.val - 26) % 4) = false →
     exec (.subdomainIdle dom) s = .next (s.domDown dom PWR_RETENTION)) ∧
  (∀ (s : State) (dom : Fin 183), (dom.val - 26) % 4 = 0 → exec (.subdomainIdle dom) s = .next s)

/-- A falling STBY_PWR_OK or CHIP_RESET_N takes the head to the state of a chip reset with that pin low, and
CHIP_RESET_N rising with standby power good starts the ROM with the latched pins and the RTC's seconds.
PWR_FAIL_N falling with trained DRAM begins hold-up; a glitch is only recorded; the trailer completes a dump whose
units are programmed, shows it in SELV.STATUS and drives HOLDUP_DONE; PWR_FAIL_N rising changes the pin alone. A completed dump with
power back starts the ROM from a chip reset. A beat boundary moves the time base to the next multiple of 10,000
ns before anything else of the beat is done. -/
def Obligations.ResetAndHoldupCommandsComplete : Prop :=
  (∀ s : State, s.chip.stbyPwrOk = true →
     exec .standbyPowerLoss s = .next { s.chipReset with chip.stbyPwrOk := false }) ∧
  (∀ s : State, s.chip.stbyPwrOk = false → s.chip.chipResetN = false →
     exec .standbyPowerGood s = .next { s with chip.stbyPwrOk := true }) ∧
  (∀ s : State, s.chip.chipResetN = true →
     exec .chipResetAssert s = .next { s.chipReset with chip.chipResetN := false }) ∧
  (∀ (s : State) (boot : BitVec 2) (rtc : Nat), s.chip.chipResetN = false → s.chip.stbyPwrOk = true →
     exec (.chipResetRelease boot rtc) s =
       .next ({ s with chip.chipResetN := true, chip.bootPins := boot }.romStart boot rtc)) ∧
  (∀ s : State, s.chip.mainPwrOk = true → exec .mainPowerLoss s = .next s.mainLoss) ∧
  (∀ s : State, s.chip.pwrFailN = true → s.life.phase = .idle → s.chip.mainPwrOk = true → s.chip.cond = .serving →
     s.chip.holdup = false → s.dramTrained = true →
     exec .pwrFailAssert s = .next { s with chip.pwrFailN := false }.holdupBegin) ∧
  (∀ s : State, s.chip.cond ≠ .reset →
     exec .pwrFailGlitch s = .next (s.event 0x0D06 Reg.MGMT_PAGE (argWord [(0, 3)]) 0)) ∧
  (∀ (s : State) (a : Nat) (d : Dump), s.dumpOpen = some (a, d) → s.chip.holdup = true → s.dumpWritten a d = true →
     exec .holdupDumpComplete s =
       .next { (s.dumpEnd a d 1 d.own d.mirror).setFld Reg.SELV_STATUS_HOLDUP 5 with chip.holdupDone := true }) ∧
  (∀ s : State, exec .pwrFailRelease s = .next { s with chip.pwrFailN := true }) ∧
  (∀ s : State, s.chip.holdup = true → s.chip.holdupDone = true → s.chip.pwrFailN = true →
     exec .holdupSelfReset s = .next (s.chipReset.rtcNow.2.romStart s.chip.bootPins s.chipReset.rtcNow.1)) ∧
  (∀ (s t u v : State) (b : Nat), s.chip.cond ≠ .reset → s.pw.clocksOff = false → b = s.beat + 1 →
     t = { (s.attributeBeat s.beat).overrunCount s.beat with
       now := b * 10000
       loom.book := ((s.attributeBeat s.beat).overrunCount s.beat).loom.book.filter (fun x => decide (b ≤ x.beat))
       loom.shadow := ((s.attributeBeat s.beat).overrunCount s.beat).loom.shadow.filter (fun x => decide (b ≤ x.beat))
       loom.granted := ((s.attributeBeat s.beat).overrunCount s.beat).loom.granted.filter (fun x => decide (b ≤ x.beat))
       loom.rejected := ((s.attributeBeat s.beat).overrunCount s.beat).loom.rejected.filter (fun x => decide (b ≤ x.2.2))
       loom.debts := ((s.attributeBeat s.beat).overrunCount s.beat).loom.debts.filter (fun x => decide (b ≤ x.2)) } →
     u = ((((t.rebalanceQueues).homeChange).joinStep).loomBeat b).sizesApply.drainRestripe.holdupShow.pinShow.rebuildTake.ckptBoundary.bulkRetry.rootStep.damageStep.quadTurn →
     v = (((u.holdShow.lockShow.reloadStep).waitShow b).clearEval).claimEval.swapNext →
     exec .beatBoundary s = .next (((((v.loomEval.serveEval).hbEval).sanAlone).replPump).beatMessages.syncSend))

/-- Under an admin session, with the confirm byte the inverse of the target, no transition running or incomplete, and
a transition that the life-cycle state allows, LIFE.REQ begins the transition; RETURN and SCRAP need a head that
owns no group and holds no record besides. A programmed cell of the intent or commit bit is read as blown, no
other cell changes, and the transition goes on to the next cell. The work of PROVISION disables the test port,
that of SCRAP the fuse root, and the commit bit's first cell comes next. -/
def Obligations.LifeCycleRequestsBeginAndTheirFusesFollow : Prop :=
  (∀ s : State, s.accepts Reg.LIFE_REQ → s.adminOpen = true → s.bit Reg.LIFE_STATUS_BUSY = false →
     s.bit Reg.LIFE_STATUS_INCOMPLETE = false → s.lifeState = 0 →
     exec (.lifeReqProvision 0xFE) s = .next (s.lifeBegin 1)) ∧
  (∀ s : State, s.accepts Reg.LIFE_REQ → s.adminOpen = true → s.bit Reg.LIFE_STATUS_BUSY = false →
     s.bit Reg.LIFE_STATUS_INCOMPLETE = false → s.lifeState = 1 →
     exec (.lifeReqDeployed 0xFD) s = .next (s.lifeBegin 2)) ∧
  (∀ s : State, s.accepts Reg.LIFE_REQ → s.adminOpen = true → s.bit Reg.LIFE_STATUS_BUSY = false →
     s.bit Reg.LIFE_STATUS_INCOMPLETE = false → s.lifeState = 1 ∨ s.lifeState = 2 → s.holdsData = false →
     exec (.lifeReqReturn 0xFC) s = .next (s.lifeBegin 3)) ∧
  (∀ s : State, s.accepts Reg.LIFE_REQ → s.adminOpen = true → s.bit Reg.LIFE_STATUS_BUSY = false →
     s.bit Reg.LIFE_STATUS_INCOMPLETE = false → s.lifeState ≠ 4 → s.holdsData = false →
     exec (.lifeReqScrap 0xFB) s = .next (s.lifeBegin 4)) ∧
  (∀ (s : State) (cell : Nat), s.life.phase = .intent cell → cell < 2 → s.life.stopping = false →
     exec (.fuseCellBlown true) s =
       .next { (s.blowCell (intentLo (s.fld Reg.LIFE_STATUS_TARGET) + cell)).setReg Reg.LIFE_FUSE
           ((s.blowCell (intentLo (s.fld Reg.LIFE_STATUS_TARGET) + cell)).life.cells.setWidth 64) with
         life.phase := .intent (cell + 1) }) ∧
  (∀ (s : State) (cell retries : Nat), s.life.phase = .commit cell retries → cell < 2 → s.life.stopping = false →
     exec (.fuseCellBlown true) s =
       .next { (s.blowCell (commitLo (s.fld Reg.LIFE_STATUS_TARGET) + cell)).setReg Reg.LIFE_FUSE
           ((s.blowCell (commitLo (s.fld Reg.LIFE_STATUS_TARGET) + cell)).life.cells.setWidth 64) with
         life.phase := .commit (cell + 1) retries }) ∧
  (∀ s : State, s.life.phase = .work → s.fld Reg.LIFE_STATUS_TARGET = 1 →
     exec .lifeWorkDone s =
       .next { s with
         life.testDisable := true
         life.phase := .commit 0 0 }) ∧
  (∀ s : State, s.life.phase = .work → s.fld Reg.LIFE_STATUS_TARGET = 4 →
     exec .lifeWorkDone s =
       .next { s.returnWork with
         life.fuseRootDisable := true
         life.phase := .commit 0 0 })

/-- A serving head receives a frame on a port that is up: PFC follows the buffer share and the frame is checked and
classified. A frame too long in the front end is dropped with cause 7. With no update BUSY, a WRITE waits to be applied
unless it reuses a deleted entry's REUSE (result 1) or its key set is empty (result 2), a DELETE of an entry tears the
connection down, unless it is closing, and waits, one of no entry answers at once, and a READ answers with the entry or
with zeros. The first waiting update applies while fewer than 512 old versions are held and none of its entry: the
current version is kept while frames are tagged with it, a deleted entry loses its connection, and a written one
gets the next generation. Old versions and the old address table are released once no frame is tagged with them. -/
def Obligations.FrontEndCommandsComplete : Prop :=
  (∀ (s : State) (frame : Frame) (prio : Fin 8) (fill : Fin 101), s.serving = true →
     s.fab.up.contains frame.port.val = true →
     exec (.frameReceive frame prio fill) s = .next ((s.pfc (frame.port.val / 4) prio.val fill.val).frameIn frame)) ∧
  (∀ (s : State) (conn : Fin 16384), s.fab.frames.any (fun f => f.conn == conn.val) = true →
     exec (.frameResidenceTimeout conn) s =
       .next ({ s with fab.frames := State.dropFirst (fun (x : FrameTag) => x.conn == conn.val) s.fab.frames }.bump
         (Reg.HEDDLE_DROP_CNT 7) 1)) ∧
  (∀ (s t : State) (index : Fin 16384) (w0 w1 w2 w3 : Word) (e : ConnEntry), s.chip.cond ≠ .reset →
     s.bit Reg.HEDDLE_UPD_RESULT_BUSY = false → e = entryOf w0 w1 w2 w3 0 → t = (s.updData w0 w1 w2 w3).updCmd 1 index.val →
     exec (.connEntryWrite index w0 w1 w2 w3) s =
       .next (if e.valid = true ∧ s.conn? index.val = none ∧ tGet? s.fab.deleted index.val = some e.reuse then t.updRefuse 1
         else if e.prot ≠ 0 ∧ (s.keySlot (connSlot e)).setA = none ∧ (s.keySlot (connSlot e)).setB = none then t.updRefuse 2
         else t.updWait index.val (some e))) ∧
  (∀ (s : State) (index : Fin 16384), s.chip.cond ≠ .reset → s.bit Reg.HEDDLE_UPD_RESULT_BUSY = false →
     (∀ e, s.conn? index.val = some e → exec (.connEntryDelete index) s =
       .next ((if e.st = 2 then s.updCmd 2 index.val else
           { (s.updCmd 2 index.val).teardown index.val with
             fab.forced := index.val :: ((s.updCmd 2 index.val)).fab.forced }).updWait index.val none)) ∧
     (s.conn? index.val = none → exec (.connEntryDelete index) s =
       .next (((s.updCmd 2 index.val).updRefuse 0).setFld Reg.HEDDLE_UPD_STATUS_ENT_GEN
         (((s.entryAt index.val).map (fun (x : ConnEntry) => x.gen)).getD 0)))) ∧
  (∀ (s : State) (index : Fin 16384), s.chip.cond ≠ .reset → s.bit Reg.HEDDLE_UPD_RESULT_BUSY = false →
     (∀ e, s.entryAt index.val = some e → exec (.connEntryRead index) s =
       .next ((((s.updCmd 3 index.val).updRefuse 0).updData (entryWord0 e) (entryWord1 e) (e.remoteIp.setWidth 64)
         ((e.remoteIp >>> 64).setWidth 64)).setFld Reg.HEDDLE_UPD_STATUS_ENT_GEN e.gen)) ∧
     (s.entryAt index.val = none → exec (.connEntryRead index) s =
       .next ((((s.updCmd 3 index.val).updRefuse 0).updData 0 0 0 0).setFld Reg.HEDDLE_UPD_STATUS_ENT_GEN 0))) ∧
  (∀ (s t : State) (i gen : Nat) (e : Option ConnEntry) (rest : List (Nat × Option ConnEntry)), s.fab.upd = (i, e) :: rest →
     s.fab.old.length < 512 → s.fab.old.any (fun x => x.1 == i) = false → gen = ((s.entryAt i).map (fun (x : ConnEntry) => x.gen)).getD 0 →
     t = { (match s.conn? i with
         | some x => if s.taggedWith i gen then { s with fab.old := s.fab.old ++ [(i, x)] } else s
         | none => s).setBit Reg.HEDDLE_UPD_RESULT_BUSY (!rest.isEmpty) with fab.upd := rest } →
     (e = none → exec .connEntryUpdateApply s =
       .next (({ (t.deleteEntry i).rplLost i with
         fab.rt := tDel (t.deleteEntry i).fab.rt i
         fab.hs := (t.deleteEntry i).fab.hs.filter (fun x => x != i) }.setFld Reg.HEDDLE_UPD_STATUS_ENT_GEN gen).heldShow)) ∧
     (∀ (x y : ConnEntry) (switched : Bool) (u v : State), e = some x → y = { x with gen := nextGen gen } →
       switched = ((s.conn? i).isSome && y.valid && (s.conn? i).map (fun z => z.keySel) != some y.keySel) →
       u = (if y.valid = true ∧ switched = false ∧ (tGet t.fab.rt i freshRt).oldSet = true then t.retireSet y else t) →
       v = ({ u with
           fab.conns := tPut u.fab.conns i y
           fab.forced := u.fab.forced.filter (fun z => z != i)
           fab.rt := if y.valid then tPut u.fab.rt i { tGet t.fab.rt i freshRt with oldSet := switched } else u.fab.rt
           fab.hs := if y.st = 0 then u.fab.hs else u.fab.hs.filter (fun z => z != i) }.setFld Reg.HEDDLE_UPD_STATUS_ENT_GEN y.gen).heldShow →
       exec .connEntryUpdateApply s =
         .next (if y.valid = true ∧ y.typ = 3 ∧ y.st = 1 then v.rplUp i y else v.rplLost i))) ∧
  (∀ (s : State) (index : Fin 16384),
     exec (.oldVersionRelease index) s =
       .next { s with
         fab.old := s.fab.old.filter (fun x => !(x.1 == index.val && !s.taggedWith index.val x.2.gen)) }.heldShow) ∧
  (∀ s : State, s.fab.frames.any (fun f => f.addrGen != s.fab.addrGen) = false →
     exec .addressVersionRelease s = .next { s with fab.addrOld := false })

/-- A write whose data is late is terminated. While serving, a connection request on a port with room and an MTU of at
least 1,024 and a disconnect are handed to a service core, a request without is rejected, and an established connection
keeps what was granted and its path MTU. A SYN for a live address and an offered port is handed to a service core when
there is room. Announcements repeat; PTP that is silent as the source leads from LOCKED to HOLDOVER; a port that has
trained, with lanes in its mode and its quads ACTIVE, comes up. -/
def Obligations.ConnectionSetupAndPortCommandsComplete : Prop :=
  (∀ (s : State) (cmd : CmdFrom) (id : Nat) (c : HCmd), s.cmdAt cmd.conn.val cmd.cid.toNat = some (id, c) →
     c.kind = .write → c.phase = .run → arrivedBytes c < c.bytes → c.intakeEnd + classAllowance c.cls ≤ s.now →
     exec (.intakeTermination cmd) s = .next (s.terminate id true)) ∧
  (∀ (s : State) (port : Fin 64) (conn : Fin 16384) (granted pmtu : Nat), s.serving = true →
     exec (.roceConnManagement (.request port)) s =
       .next (if s.connRoom port.val = true ∧ 1024 ≤ s.act (Reg.ETHP_MODE_MTU (port.val / 4)) then s.handOff .exception
         else s.emit (.cmRej port.val)) ∧
     exec (.roceConnManagement (.established conn granted pmtu)) s =
       .next ((s.modRt conn.val (fun x => { x with granted := min 16 granted, pmtu := s.pathMtu conn.val pmtu })).handOff .exception) ∧
     exec (.roceConnManagement (.disconnect conn)) s = .next (s.handOff .exception)) ∧
  (∀ (s : State) (port : Fin 64) (addr : Fin 256) (localPort : BitVec 16), s.serving = true →
     (s.addrLive addr.val = false → exec (.tcpSyn port addr localPort) s = .next (s.dropFrame 1)) ∧
     (s.addrLive addr.val = true → localPort ≠ 0 →
       s.act (Reg.HEDDLE_ADDR_ATTR_TCP_PORT addr.val) = localPort.toNat ∨ s.act (Reg.HEDDLE_ADDR_ATTR_DISC_PORT addr.val) = localPort.toNat →
       exec (.tcpSyn port addr localPort) s = .next (if s.connRoom port.val then s.handOff .exception else s.emit (.tcpRst port.val))) ∧
     (s.addrLive addr.val = true → s.act (Reg.HEDDLE_ADDR_ATTR_TCP_PORT addr.val) ≠ localPort.toNat →
       s.act (Reg.HEDDLE_ADDR_ATTR_DISC_PORT addr.val) ≠ localPort.toNat →
       exec (.tcpSyn port addr localPort) s = .next ((s.emit (.tcpRst port.val)).dropFrame 5))) ∧
  (∀ s : State, s.fab.announce ≠ 0 → s.serving = true →
     exec .announceRepeat s = .next { s with fab.announce := s.fab.announce - 1 }.announceOnce) ∧
  (∀ s : State, s.ptpSource = true → s.fld Reg.TIME_STATUS_STATE = 3 →
     exec .ptpAnnounceTimeout s = .next (s.setFld Reg.TIME_STATUS_STATE 4)) ∧
  (∀ (s : State) (port : Fin 64), s.serving = true → s.portLanes port.val ≠ 0 →
     s.active (Reg.ETHP_PAGE (port.val / 4)) = true →
     (s.act (Reg.ETHP_MODE_MODE (port.val / 4)) = 3 → s.active (Reg.ETHP_PAGE (port.val / 4 + 1)) = true) → s.fab.up.contains port.val = false →
     exec (.ethpLinkUp port) s = .next { s with fab.up := s.fab.up ++ [port.val] })

/-- Each of these events of a live connection that is not in error takes the connection's frame. RDMA read data goes to its
command. An acknowledgement resets the retries, a sequence error and an RNR retry until seven have been made, a fatal
NAK ends the connection, a congestion notification leaves the rate a free value, and a remote access is refused. ICReq
is answered with PDA 0 and MAXH2CDATA 131,072, or is fatal when PFV or HPDA is not allowed. H2CData goes to the
command its tag names, a tag of the command before is ignored, and any other is fatal. H2CTermReq tears the connection
down. A timeout retries or retransmits. -/
def Obligations.ConnectionEventsComplete : Prop :=
  (∀ (s t : State) (cmd : CmdFrom) (e : ConnEntry) (r : ConnRt) (off : Nat) (data : Bytes) (id : Nat) (c : HCmd) (last : Bool),
     s.takes cmd.conn.val e r t → r.reads ≠ 0 → t.cmdAt cmd.conn.val cmd.cid.toNat = some (id, c) → c.phase = .run →
     c.pulled = true →
     exec (.rdmaReadResponse cmd off data last) s =
       .next (if last then ((t.dataIn id off data).modRt cmd.conn.val (fun x => { x with reads := x.reads - 1 })).pullNext cmd.conn.val
         else t.dataIn id off data)) ∧
  (∀ (s t : State) (conn : Fin 16384) (e : ConnEntry) (r : ConnRt) (count rtt : Nat), s.takes conn.val e r t →
     exec (.roceAck conn .ack count rtt) s =
       .next ((t.modRt conn.val (fun x => { x with unacked := x.unacked - count, retries := 0, rnr := 0 })).rttSet conn.val
         rtt).settle ∧
     exec (.roceAck conn .nakSequence count rtt) s = .next (t.retryOr conn.val r) ∧
     (tGet? t.repl.conns conn.val = none → exec (.roceAck conn .rnrNak count rtt) s =
       .next (if 7 ≤ r.rnr then t.connError conn.val
         else (t.modRt conn.val (fun x => { x with rnr := x.rnr + 1 })).emit (.retransmit conn.val))) ∧
     (tGet? t.repl.conns conn.val ≠ none → exec (.roceAck conn .rnrNak count rtt) s =
       .next (if 7 ≤ r.rnr then (t.bump (Reg.REPL_CNT 9) 1).connError conn.val
         else ((t.bump (Reg.REPL_CNT 9) 1).modRt conn.val (fun x => { x with rnr := x.rnr + 1 })).emit (.retransmit conn.val))) ∧
     exec (.roceAck conn .nakFatal count rtt) s = .next (t.connError conn.val) ∧
     exec (.cnpReceive conn) s = .next ({ t with freeCtr := t.freeCtr + 1 }.modRt conn.val
       (fun x => { x with cnps := x.cnps + 1, rate := some (Config.openWord t.freeCtr) })) ∧
     exec (.remoteAccessRequest conn) s = .next (t.emit (.nakRemoteAccess conn.val))) ∧
  (∀ (s t : State) (conn : Fin 16384) (e : ConnEntry) (r : ConnRt) (req : IcReq), s.takes conn.val e r t → e.typ = 2 →
     (req.pfv = 0 → req.hpda.toNat ≤ 31 → exec (.icreq conn req) s =
       .next ((t.modRt conn.val (fun x => { x with ic := some req })).sendOn conn.val
         (.icResp conn.val 0 req.hpda.toNat req.hdgst req.ddgst 131072))) ∧
     (req.pfv ≠ 0 ∨ 31 < req.hpda.toNat → exec (.icreq conn req) s = .next (t.tcpFatal conn.val))) ∧
  (∀ (s t : State) (conn : Fin 16384) (e : ConnEntry) (r : ConnRt) (ttag : BitVec 16) (off : Nat) (data : Bytes) (gen : Nat)
     (id : Option Nat), s.takes conn.val e r t → e.typ = 2 →
     (tGet? t.fab.ttags (4096 * conn.val + ttag.toNat % 4096) = some (gen, id) → gen = ttag.toNat / 4096 →
       exec (.h2cData conn ttag off data) s = .next (match id with | some k => t.dataIn k off data | none => t)) ∧
     (tGet? t.fab.ttags (4096 * conn.val + ttag.toNat % 4096) = some (gen, id) → gen ≠ ttag.toNat / 4096 →
       exec (.h2cData conn ttag off data) s = .next (if (ttag.toNat / 4096 + 1) % 16 = gen then t else t.tcpFatal conn.val)) ∧
     (tGet? t.fab.ttags (4096 * conn.val + ttag.toNat % 4096) = none →
       exec (.h2cData conn ttag off data) s = .next (t.tcpFatal conn.val)) ∧
     exec (.h2cTermReq conn) s = .next (t.teardown conn.val)) ∧
  (∀ (s : State) (conn : Fin 16384) (e : ConnEntry) (r : ConnRt), s.conn? conn.val = some e →
     s.connRt? conn.val = some r → s.serving = true →
     (e.typ ≠ 2 → r.err = false → exec (.ackTimeout conn) s = .next (s.retryOr conn.val r)) ∧
     (e.typ = 2 → r.unacked ≠ 0 → exec (.tcpRetransmitTimeout conn) s = .next (s.emit (.retransmit conn.val))))

/-- A ClientHello on a TCP connection takes its frame; one without TLS 1.3, without a suite or a PSK mode that is
supported, or without a PSK that maps to a full PSK slot is answered with an alert; otherwise the connection becomes a
TLS connection, the handshake is handed to a service core and the ServerHello is sent, unless 512 handshakes run. A
KeyUpdate on a TLS connection whose two secrets are in DERIVED slots that can be used loads the set not in use with the
next epoch and has the entry switched to it. -/
def Obligations.TlsEventsComplete : Prop :=
  (∀ (s t : State) (conn : Fin 16384) (e : ConnEntry) (r : ConnRt) (hello : Hello), s.takes conn.val e r t → e.typ = 2 →
     (hello.tls13 = false → exec (.tlsClientHello conn hello) s = .next (t.emit (.tlsAlert conn.val protocolVersionAlert))) ∧
     (hello.tls13 = true → (hello.suite128 = false ∧ hello.suite256 = false) ∨ (hello.pskKe = false ∧ hello.dheGroup = false) ∨ hello.psk = none →
       exec (.tlsClientHello conn hello) s = .next (t.emit (.tlsAlert conn.val handshakeAlert))) ∧
     (∀ (x : Bytes) (k : Nat), hello.tls13 = true → hello.suite128 = true ∨ hello.suite256 = true → hello.pskKe = true ∨ hello.dheGroup = true →
       hello.psk = some x → k = ((t.nv.psks.find? (fun y => y.1 == x)).map (fun y => y.2)).getD 0 →
       (slotType k ≠ .psk ∨ slotFull (t.keySlot k) = false →
         exec (.tlsClientHello conn hello) s = .next (t.emit (.tlsAlert conn.val handshakeAlert))) ∧
       (slotType k = .psk → slotFull (t.keySlot k) = true → t.fab.hs.contains conn.val = false → t.fab.hs.length < 512 →
         exec (.tlsClientHello conn hello) s =
           .next ((({ t with fab.hs := t.fab.hs ++ [conn.val] }.modRt conn.val (fun x => { x with tls := true })).handOff
             .tlsHandshake).sendOn conn.val (.tlsServerHello conn.val))))) ∧
  (∀ (s t : State) (conn : Fin 16384) (e : ConnEntry) (r : ConnRt) (txS rxS : BitVec 15) (k : KeySlot),
     s.takes conn.val e r t → e.typ = 2 → e.prot = 2 → slotType txS.toNat = .derived →
     slotType rxS.toNat = .derived → (t.keySlot txS.toNat).material ≠ [] → (t.keySlot rxS.toNat).material ≠ [] →
     k = t.keySlot (connSlot e) →
     (e.keySel = false → exec (.keyUpdate conn txS rxS) s =
       .next ((t.setKeySlot (connSlot e) { k with
         setB := some { nextTlsSet (t.keySlot txS.toNat).material (t.keySlot rxS.toNat).material with
           epoch := (k.setA.map (fun c => c.epoch)).getD 0 + 1 } }).updWait conn.val (some { e with keySel := true }))) ∧
     (e.keySel = true → exec (.keyUpdate conn txS rxS) s =
       .next ((t.setKeySlot (connSlot e) { k with
         setA := some { nextTlsSet (t.keySlot txS.toNat).material (t.keySlot rxS.toNat).material with
           epoch := (k.setB.map (fun c => c.epoch)).getD 0 + 1 } }).updWait conn.val (some { e with keySel := false }))))

/-- A Connect whose parameters are in order for an admin queue creates a controller with the tenant's next id and
joins the connection to it; for an I/O queue it joins the named controller. Property Get answers CAP, whose fields
beside MQES are free values, VS, CC and CSTS, and Invalid Field for any other offset; Property Set writes CC, with CSTS
after it, and a CC that clears EN ends the I/O queues. Disconnect ends the queue's connection or the controller. A
supported log page and Identify answer with their content, another with its error status. Abort answers that nothing
was aborted, Keep Alive succeeds. Set Features sets the feature that it names, refuses a save, and answers Invalid Field
for a keep-alive that is not allowed; Get Features answers the value in effect. An Asynchronous Event Request completes
with a waiting event, waits, or exceeds the limit of eight. Expiry of a keep-alive timeout, with no command in progress,
deletes the controller. An unsupported opcode, a fused command and Sanitize Overwrite complete with Invalid Opcode,
Invalid Field and Invalid Field. -/
def Obligations.FabricsAndAdminCommandsComplete : Prop :=
  (∀ (s t : State) (cmd : CmdFrom) (d : ConnectData) (e : ConnEntry) (r : ConnRt) (x : Tenant) (cls n : Nat) (c : Ctrl),
     s.takes cmd.conn.val e r t → r.joined = false → e.subsys = false → t.tenant? e.tenant = some x → d.subNqn = x.nqn → x.nqn ≠ [] →
     t.hostClass e d.hostNqn = some cls → d.hostId ≠ 0 → d.qid = 0 → (t.ctrlsOf e.tenant).length < 1024 → d.sqsize ≤ 32 →
     katoOk d.kato.toNat = true → t.newCntlid e.tenant = some n →
     c =
       { tenant := e.tenant, cntlid := n, discovery := false, hostNqn := d.hostNqn, hostId := d.hostId, cls := cls, adminConn := cmd.conn.val,
         queues := [], cc := 0, csts := 0, kato := katoRound d.kato.toNat, acre := false, aec := 0, arb := 0, tempTh := 0,
         tempLow := 0, warned := false, resMask := [], aers := [], events := [], changed := [], resLog := [], errors := [] } →
     exec (.connect cmd d) s =
       .next (({ t with nv.ctrls := tPut t.nv.ctrls (ctrlKey e.tenant n) c }.joinQueue cmd.conn.val e (ctrlKey e.tenant n) 0 d.sqsize cls).done
         cmd 0 0 n)) ∧
  (∀ (s t : State) (cmd : CmdFrom) (d : ConnectData) (e : ConnEntry) (r : ConnRt) (x : Tenant) (cls : Nat) (c : Ctrl) (k : Nat),
     s.takes cmd.conn.val e r t → r.joined = false → e.subsys = false → t.tenant? e.tenant = some x → d.subNqn = x.nqn → x.nqn ≠ [] →
     t.hostClass e d.hostNqn = some cls → d.hostId ≠ 0 → d.qid ≠ 0 → k = ctrlKey e.tenant d.cntlid.toNat → tGet? t.nv.ctrls k = some c →
     c.hostNqn = d.hostNqn → c.hostId = d.hostId → c.queues.length < 64 → c.queues.any (fun q => q.1 == d.qid.toNat) = false →
     d.sqsize ≤ 1024 → c.discovery = false →
     exec (.connect cmd d) s =
       .next (((t.modCtrl k (fun x => { x with queues := x.queues ++ [(d.qid.toNat, cmd.conn.val)] })).joinQueue cmd.conn.val e k d.qid.toNat
         d.sqsize c.cls).done cmd 0 0 c.cntlid)) ∧
  (∀ (s t : State) (cmd : CmdFrom) (e : ConnEntry) (r : ConnRt) (k : Nat) (c : Ctrl), s.adminAt cmd e r k c t →
     exec (.propertyGet cmd 0x08) s = .next (t.done cmd 0 0 0x00020000) ∧
     exec (.propertyGet cmd 0x14) s = .next (t.done cmd 0 0 c.cc.toNat) ∧
     exec (.propertyGet cmd 0x1C) s = .next (t.done cmd 0 0 c.csts.toNat)) ∧
  (∀ (s t : State) (cmd : CmdFrom) (e : ConnEntry) (r : ConnRt) (k : Nat) (c : Ctrl), s.adminAt cmd e r k c t →
     exec (.propertyGet cmd 0x00) s =
       .next ({ t with freeCtr := t.freeCtr + 1 }.done cmd 0 0 (setBits (Config.openWord t.freeCtr) 0 16 1023).toNat) ∧
     (∀ off : BitVec 32, off ≠ 0x00 → off ≠ 0x08 → off ≠ 0x14 → off ≠ 0x1C → exec (.propertyGet cmd off) s = .next (t.done cmd 0 0x02 0))) ∧
  (∀ (s t : State) (cmd : CmdFrom) (e : ConnEntry) (r : ConnRt) (k : Nat) (c : Ctrl) (value : Word) (shn : BitVec 32), s.adminAt cmd e r k c t →
     shn = (if bitsOf value 14 2 = 0 then 0 else 8) →
     (bitsOf value 0 1 = 1 → exec (.propertySet cmd 0x14 value) s =
       .next ((t.modCtrl k (fun x => { x with cc := value.setWidth 32, csts := 1 ||| shn })).done cmd 0 0 0)) ∧
     (bitsOf value 0 1 = 0 → exec (.propertySet cmd 0x14 value) s =
       .next (((if c.cc.getLsbD 0 then c.queues.foldl (fun u q => u.teardown q.2) t else t).modCtrl k
         (fun x => { x with cc := value.setWidth 32, csts := shn, aers := [] })).done cmd 0 0 0)) ∧
     (∀ off : BitVec 32, off ≠ 0x14 → exec (.propertySet cmd off value) s = .next (t.done cmd 0 0x02 0))) ∧
  (∀ (s t : State) (cmd : CmdFrom) (e : ConnEntry) (r : ConnRt) (k : Nat) (c : Ctrl), s.takes cmd.conn.val e r t →
     e.st ≠ 0 → t.ctrlAt cmd.conn.val = some (k, c) →
     exec (.disconnect cmd) s = .next (if r.qid = 0 then (t.done cmd 0 0 0).deleteCtrl k else (t.done cmd 0 0 0).teardown cmd.conn.val)) ∧
  (∀ (s t u : State) (cmd : CmdFrom) (e : ConnEntry) (r : ConnRt) (k : Nat) (c : Ctrl) (lid : BitVec 8) (fields : List Nat),
     s.adminAt cmd e r k c t → t.logPage k c lid.toNat = some (fields, u) →
     exec (.getLogPage cmd lid) s =
       .next ((u.sendOn cmd.conn.val (.hostInfo cmd.conn.val cmd.cid.toNat (0x200 + lid.toNat) fields)).done cmd 0 0 0)) ∧
  (∀ (s t : State) (cmd : CmdFrom) (e : ConnEntry) (r : ConnRt) (k : Nat) (c : Ctrl) (lid : BitVec 8), s.adminAt cmd e r k c t →
     t.logPage k c lid.toNat = none → exec (.getLogPage cmd lid) s = .next (t.done cmd 1 0x09 0)) ∧
  (∀ (s t : State) (cmd : CmdFrom) (e : ConnEntry) (r : ConnRt) (k : Nat) (c : Ctrl) (cns : BitVec 8) (nsid a b : Nat), s.adminAt cmd e r k c t →
     t.identifyOf c cns.toNat nsid = .inr (a, b) → exec (.nvmeIdentify cmd cns nsid) s = .next (t.done cmd a b 0)) ∧
  (∀ (s t : State) (cmd : CmdFrom) (e : ConnEntry) (r : ConnRt) (k : Nat) (c : Ctrl) (cns : BitVec 8) (nsid : Nat) (fields : List Nat),
     s.adminAt cmd e r k c t → t.identifyOf c cns.toNat nsid = .inl fields →
     exec (.nvmeIdentify cmd cns nsid) s =
       .next ((t.sendOn cmd.conn.val (.hostInfo cmd.conn.val cmd.cid.toNat (0x600 + cns.toNat) fields)).done cmd 0 0 0)) ∧
  (∀ (s t : State) (cmd : CmdFrom) (e : ConnEntry) (r : ConnRt) (k : Nat) (c : Ctrl), s.adminAt cmd e r k c t →
     exec (.abort cmd) s = .next (t.done cmd 0 0 1) ∧
     exec (.keepAlive cmd) s = .next (t.done cmd 0 0 0) ∧
     exec (.sanitizeOverwrite cmd) s = .next (t.done cmd 0 0x02 0)) ∧
  (∀ (s t : State) (cmd : CmdFrom) (e : ConnEntry) (r : ConnRt) (k : Nat) (c : Ctrl) (nsid : Nat) (value : BitVec 32), s.adminAt cmd e r k c t →
     exec (.setFeatures cmd 0x01 nsid false value) s = .next ((t.modCtrl k (fun x => { x with arb := value })).done cmd 0 0 0) ∧
     exec (.setFeatures cmd 0x0B nsid false value) s = .next ((t.modCtrl k (fun x => { x with aec := value })).done cmd 0 0 0) ∧
     (katoOk value.toNat = true → exec (.setFeatures cmd 0x0F nsid false value) s =
       .next ((t.modCtrl k (fun x => { x with kato := katoRound value.toNat })).done cmd 0 0 0)) ∧
     (katoOk value.toNat = false → exec (.setFeatures cmd 0x0F nsid false value) s = .next (t.done cmd 0 0x02 0)) ∧
     (value.toNat / 65536 % 16 = 0 → value.toNat / 1048576 % 4 = 0 → exec (.setFeatures cmd 0x04 nsid false value) s =
       .next ((t.modCtrl k (fun x => { x with tempTh := value })).done cmd 0 0 0)) ∧
     (value.toNat / 65536 % 16 = 0 → value.toNat / 1048576 % 4 = 1 → exec (.setFeatures cmd 0x04 nsid false value) s =
       .next ((t.modCtrl k (fun x => { x with tempLow := value })).done cmd 0 0 0)) ∧
     (value.toNat % 32 = 0 → exec (.setFeatures cmd 0x02 nsid false value) s = .next (t.done cmd 0 0 0)) ∧
     (value.toNat % 65536 ≠ 65535 → value.toNat / 65536 ≠ 65535 → exec (.setFeatures cmd 0x07 nsid false value) s =
       .next (t.done cmd 0 0 (min 63 (value.toNat % 65536) + 65536 * min 63 (value.toNat / 65536)))) ∧
     exec (.setFeatures cmd 0x16 nsid false value) s =
       .next ((t.modCtrl k (fun x => { x with acre := value.toNat % 2 == 1 })).done cmd 0 0 0) ∧
     (∀ fid : BitVec 8, exec (.setFeatures cmd fid nsid true value) s = .next (t.done cmd 1 0x0D 0))) ∧
  (∀ (s t : State) (cmd : CmdFrom) (e : ConnEntry) (r : ConnRt) (k : Nat) (c : Ctrl) (nsid : Nat) (value : BitVec 32) (vol : Nat) (v : Volume),
     s.adminAt cmd e r k c t → t.nsOf e.tenant nsid = some (vol, v) →
     exec (.setFeatures cmd 0x82 nsid false value) s =
       .next ((t.modCtrl k (fun x => { x with resMask := tPut x.resMask nsid value.toNat })).done cmd 0 0 0) ∧
     exec (.setFeatures cmd 0x83 nsid false value) s =
       .next (if t.ownsGroup v.group then t.resvDo (.host cmd.conn.val cmd.cid.toNat) vol v c.hostId (.persist (value.toNat % 2 == 1))
         else t.forwardOther cmd.conn.val cmd.cid.toNat e.tenant (.resv vol c.hostId (.persist (value.toNat % 2 == 1)))) ∧
     exec (.getFeatures cmd 0x82 nsid ⟨0, value⟩) s = .next (t.done cmd 0 0 (tGet c.resMask nsid 0)) ∧
     exec (.getFeatures cmd 0x83 nsid ⟨0, value⟩) s = .next (t.done cmd 0 0 v.resv.ptpl.toNat)) ∧
  (∀ (s t : State) (cmd : CmdFrom) (e : ConnEntry) (r : ConnRt) (k : Nat) (c : Ctrl) (nsid : Nat) (dw11 : BitVec 32), s.adminAt cmd e r k c t →
     exec (.getFeatures cmd 0x04 nsid ⟨0, 0⟩) s = .next (t.done cmd 0 0 (c.tempTh.toNat % 65536)) ∧
     exec (.getFeatures cmd 0x0B nsid ⟨0, dw11⟩) s = .next (t.done cmd 0 0 c.aec.toNat) ∧
     exec (.getFeatures cmd 0x0F nsid ⟨0, dw11⟩) s = .next (t.done cmd 0 0 c.kato) ∧
     exec (.getFeatures cmd 0x01 nsid ⟨0, dw11⟩) s = .next (t.done cmd 0 0 c.arb.toNat) ∧
     exec (.getFeatures cmd 0x02 nsid ⟨0, dw11⟩) s = .next (t.done cmd 0 0 0) ∧
     (∀ (fid : BitVec 8) (sel : FeatureSel), sel.sel ≠ 0 → exec (.getFeatures cmd fid nsid sel) s = .next (t.done cmd 0 0x02 0)) ∧
     exec (.getFeatures cmd 0x07 nsid ⟨0, dw11⟩) s = .next (t.done cmd 0 0 (63 + 65536 * 63))) ∧
  (∀ (s t : State) (cmd : CmdFrom) (e : ConnEntry) (r : ConnRt) (k : Nat) (c : Ctrl), s.adminAt cmd e r k c t →
     (c.events = [] → c.aers.length < 8 →
       exec (.asyncEventRequest cmd) s = .next (t.modCtrl k (fun y => { y with aers := y.aers ++ [cmd.cid.toNat] }))) ∧
     (c.events = [] → 8 ≤ c.aers.length → exec (.asyncEventRequest cmd) s = .next (t.done cmd 1 0x05 0)) ∧
     (∀ typ info page rest, c.events = (typ, info, page) :: rest →
       exec (.asyncEventRequest cmd) s =
         .next ((t.modCtrl k (fun y => { y with events := rest })).done cmd 0 0 (typ + 256 * info + 65536 * page)))) ∧
  (∀ (s : State) (tenant : BitVec 12) (cntlid : BitVec 16) (c : Ctrl) (k : Nat) (conns : List Nat) (whole : HCmd → Bool),
     k = ctrlKey tenant.toNat cntlid.toNat → tGet? s.nv.ctrls k = some c → conns = c.adminConn :: c.queues.map (fun q => q.2) →
     whole = (fun (x : HCmd) => conns.contains x.conn && x.fwdFrom.isNone && (x.phase == Phase.headed ||
       ((x.phase == Phase.run || x.fwdTo) && (x.kind == CmdKind.read || decide (x.bytes ≤ arrivedBytes x))))) →
     (c.kato = 0 → exec (.keepAliveExpiry tenant cntlid) s = .next s) ∧
     (c.kato ≠ 0 → exec (.keepAliveExpiry tenant cntlid) s =
       .next ({ s with nv.cmds := s.nv.cmds.map (fun (x : Nat × HCmd) => if whole x.2 then (x.1, { x.2 with mute := true }) else x) }.deleteCtrl
         k))) ∧
  (∀ (s t : State) (cmd : CmdFrom) (e : ConnEntry) (r : ConnRt), s.takes cmd.conn.val e r t → e.st ≠ 0 →
     exec (.unsupportedCommand cmd false) s = .next (t.done cmd 0 0x01 0) ∧
     exec (.unsupportedCommand cmd true) s = .next (t.done cmd 0 0x02 0))

/-- An I/O command on an I/O queue, for a namespace that is attached and neither sanitized, formatted nor
Inaccessible, whose checks before admission pass (a command id not in use, a length in bounds, ranges in the
volume, a reference tag that fits, no reservation conflict, data that can arrive, a key in the tenant's slot),
becomes the command that newCmd builds from its operands, in the class the rules give it, and is submitted: to
Reed where this head owns the group, forwarded to the owner otherwise. Copy passes only in its simple form
without overlap. Flush, and Dataset Management without Deallocate, are counted and complete. -/
def Obligations.IoCommandsAreSubmittedToTheirOwner : Prop :=
  (∀ (s t : State) (cmd : CmdFrom) (nsid : Nat) (range : LbaRange) (fua : Bool) (pi : PiReq) (data : Bytes) (st : Standby) (e : ConnEntry)
     (r : ConnRt) (k : Nat) (c : Ctrl) (vol : Nat) (v : Volume), s.ioAt cmd nsid e r k c vol v t →
     t.ioClear cmd e r c vol v .write [rangeOf range] [] pi data →
     exec (.write cmd nsid range fua pi data st) s =
       .next (t.submit v (t.ioNew cmd e vol v .write [rangeOf range] 0 fua pi data) (t.ioRaise e vol v .write [rangeOf range] fua pi) st)) ∧
  (∀ (s t : State) (cmd : CmdFrom) (nsid : Nat) (range : LbaRange) (pi : PiReq) (st : Standby) (e : ConnEntry)
     (r : ConnRt) (k : Nat) (c : Ctrl) (vol : Nat) (v : Volume), s.ioAt cmd nsid e r k c vol v t →
     t.ioClear cmd e r c vol v .read [rangeOf range] [] pi [] →
     exec (.read cmd nsid range pi st) s =
       .next (t.submit v (t.ioNew cmd e vol v .read [rangeOf range] 0 false pi []) (t.ioRaise e vol v .read [rangeOf range] false pi) st)) ∧
  (∀ (s t : State) (cmd : CmdFrom) (nsid : Nat) (range : LbaRange) (pi : PiReq) (data : Bytes) (st : Standby) (e : ConnEntry)
     (r : ConnRt) (k : Nat) (c : Ctrl) (vol : Nat) (v : Volume), s.ioAt cmd nsid e r k c vol v t →
     t.ioClear cmd e r c vol v .compare [rangeOf range] [] pi data →
     exec (.compare cmd nsid range pi data st) s =
       .next (t.submit v (t.ioNew cmd e vol v .compare [rangeOf range] 0 false pi data) (t.ioRaise e vol v .compare [rangeOf range] false pi) st)) ∧
  (∀ (s t : State) (cmd : CmdFrom) (nsid : Nat) (range : LbaRange) (fua : Bool) (st : Standby) (e : ConnEntry)
     (r : ConnRt) (k : Nat) (c : Ctrl) (vol : Nat) (v : Volume), s.ioAt cmd nsid e r k c vol v t →
     t.ioClear cmd e r c vol v .writeZeroes [rangeOf range] [] noPi [] →
     exec (.writeZeroes cmd nsid range fua st) s =
       .next (t.submit v (t.ioNew cmd e vol v .writeZeroes [rangeOf range] 0 fua noPi []) (t.ioRaise e vol v .writeZeroes [rangeOf range] fua noPi) st)) ∧
  (∀ (s t : State) (cmd : CmdFrom) (nsid : Nat) (ranges : List LbaRange) (st : Standby) (e : ConnEntry)
     (r : ConnRt) (k : Nat) (c : Ctrl) (vol : Nat) (v : Volume), s.ioAt cmd nsid e r k c vol v t →
     (t.ioClear cmd e r c vol v .dsm (ranges.map rangeOf) [] noPi [] → 0 < ranges.length → ranges.length ≤ 256 →
       exec (.datasetManagement cmd nsid ranges true st) s =
         .next (t.submit v (t.ioNew cmd e vol v .dsm (ranges.map rangeOf) 0 false noPi []) (t.ioRaise e vol v .dsm (ranges.map rangeOf) false noPi) st)) ∧
     exec (.datasetManagement cmd nsid ranges false st) s = .next ((t.tcntAdd e.tenant 2 1).done cmd 0 0 0) ∧
     exec (.flush cmd nsid) s = .next ((t.tcntAdd e.tenant 2 1).done cmd 0 0 0)) ∧
  (∀ (s t : State) (cmd : CmdFrom) (nsid : Nat) (source : LbaRange) (dest : BitVec 64) (fua : Bool) (st : Standby) (e : ConnEntry)
     (r : ConnRt) (k : Nat) (c : Ctrl) (vol : Nat) (v : Volume), s.ioAt cmd nsid e r k c vol v t →
     t.ioClear cmd e r c vol v .copy [(dest.toNat, source.nlb)] [(source.slba.toNat, source.nlb)] noPi [] → 0 < source.nlb →
     source.nlb ≤ (if v.lbaf = 2 then 32768 else 4096) →
     (source.slba.toNat + source.nlb ≤ dest.toNat ∨ dest.toNat + source.nlb ≤ source.slba.toNat) →
     exec (.copy cmd nsid source dest true false fua st) s =
       .next (t.submit v (t.ioNew cmd e vol v .copy [(dest.toNat, source.nlb)] source.slba.toNat fua noPi [])
         (t.ioRaise e vol v .copy [(dest.toNat, source.nlb)] fua noPi) st))

/-- A reservation command is counted and done at the owner of its group, or forwarded to it; an extended report
answers the registrants, another is refused with Invalid Field. Format NVM of all namespaces, of one that is not
attached, or with operands out of order is refused; in order, it begins at the owner and is forwarded to it by the other
head. The commit of its map root frees the pages that no snapshot keeps, empties the tree, sets the format, unpins a
volume of 512-byte blocks, journals both and answers. A Crypto or Block Erase at the configuration head answers and
begins the tenant's Sanitize unless one is in progress, and is forwarded to it by the other head; with No-Deallocate it
is refused. Exit Failure clears a failure and journals it. -/
def Obligations.ReservationFormatAndSanitizeCommandsComplete : Prop :=
  (∀ (s t u : State) (cmd : CmdFrom) (nsid : Nat) (act : RegAct) (iekey : Bool) (ptpl : Option Bool) (crkey nrkey : Word) (e : ConnEntry)
     (r : ConnRt) (k : Nat) (c : Ctrl) (vol : Nat) (v : Volume), s.ioAt cmd nsid e r k c vol v t → u = t.tcntAdd e.tenant 2 1 →
     exec (.reservationRegister cmd nsid act iekey ptpl crkey nrkey) s =
       .next (if u.ownsGroup v.group then
         u.resvDo (.host cmd.conn.val cmd.cid.toNat) vol v c.hostId (.register act iekey ptpl crkey nrkey)
       else u.forwardOther cmd.conn.val cmd.cid.toNat e.tenant (.resv vol c.hostId (.register act iekey ptpl crkey nrkey)))) ∧
  (∀ (s t u : State) (cmd : CmdFrom) (nsid : Nat) (act : AcqAct) (iekey : Bool) (rtype : BitVec 8) (crkey prkey : Word) (e : ConnEntry)
     (r : ConnRt) (k : Nat) (c : Ctrl) (vol : Nat) (v : Volume), s.ioAt cmd nsid e r k c vol v t → u = t.tcntAdd e.tenant 2 1 →
     exec (.reservationAcquire cmd nsid act iekey rtype crkey prkey) s =
       .next (if u.ownsGroup v.group then
         u.resvDo (.host cmd.conn.val cmd.cid.toNat) vol v c.hostId (.acquire act iekey rtype crkey prkey)
       else u.forwardOther cmd.conn.val cmd.cid.toNat e.tenant (.resv vol c.hostId (.acquire act iekey rtype crkey prkey)))) ∧
  (∀ (s t u : State) (cmd : CmdFrom) (nsid : Nat) (clear iekey : Bool) (rtype : BitVec 8) (crkey : Word) (e : ConnEntry)
     (r : ConnRt) (k : Nat) (c : Ctrl) (vol : Nat) (v : Volume), s.ioAt cmd nsid e r k c vol v t → u = t.tcntAdd e.tenant 2 1 →
     exec (.reservationRelease cmd nsid clear iekey rtype crkey) s =
       .next (if u.ownsGroup v.group then
         u.resvDo (.host cmd.conn.val cmd.cid.toNat) vol v c.hostId (.release clear iekey rtype crkey)
       else u.forwardOther cmd.conn.val cmd.cid.toNat e.tenant (.resv vol c.hostId (.release clear iekey rtype crkey)))) ∧
  (∀ (s t u : State) (cmd : CmdFrom) (nsid : Nat) (e : ConnEntry) (r : ConnRt) (k : Nat) (c : Ctrl) (vol : Nat) (v : Volume),
     s.ioAt cmd nsid e r k c vol v t → u = t.tcntAdd e.tenant 2 1 →
     exec (.reservationReport cmd nsid true) s =
       .next ((u.sendOn cmd.conn.val (.hostInfo cmd.conn.val cmd.cid.toNat 0x0E
         ([v.resv.gen, v.resv.rtype, v.resv.regs.length, v.resv.ptpl.toNat]
           ++ v.resv.regs.flatMap (fun x => [x.1.toNat, x.2.toNat, (isHolder v.resv x.1).toNat])))).done cmd 0 0 0) ∧
     exec (.reservationReport cmd nsid false) s = .next (u.done cmd 0 0x02 0)) ∧
  (∀ (s t : State) (cmd : CmdFrom) (nsid lbaf : Nat) (pi ses : BitVec 3) (e : ConnEntry) (r : ConnRt) (k : Nat) (c : Ctrl) (vol : Nat)
     (v : Volume), s.adminAt cmd e r k c t → nsid ≠ 0xFFFFFFFF → t.nsOf e.tenant nsid = some (vol, v) → lbaf ≤ 2 →
     pi.toNat = (if lbaf = 1 then 1 else 0) → ses.toNat ≤ 1 → v.formatting = none →
     ((t.tenant? e.tenant).map (fun x => x.quiesced)).getD false = false → t.anaState v ≠ 2 → t.ownsGroup v.group = true →
     exec (.formatNvm cmd nsid lbaf pi ses) s = .next (t.formatStart (.host cmd.conn.val cmd.cid.toNat) vol lbaf)) ∧
  (∀ (s t : State) (cmd : CmdFrom) (nsid lbaf : Nat) (pi ses : BitVec 3) (e : ConnEntry) (r : ConnRt) (k : Nat) (c : Ctrl) (vol : Nat)
     (v : Volume), s.adminAt cmd e r k c t → nsid ≠ 0xFFFFFFFF → t.nsOf e.tenant nsid = some (vol, v) →
     (lbaf ≤ 2 → pi.toNat = (if lbaf = 1 then 1 else 0) → ses.toNat ≤ 1 → v.formatting = none →
       ((t.tenant? e.tenant).map (fun x => x.quiesced)).getD false = false → t.anaState v ≠ 2 → t.ownsGroup v.group = false →
       exec (.formatNvm cmd nsid lbaf pi ses) s = .next (t.forwardOther cmd.conn.val cmd.cid.toNat e.tenant (.format vol lbaf))) ∧
     (2 < lbaf ∨ pi.toNat ≠ (if lbaf = 1 then 1 else 0) ∨ 1 < ses.toNat → exec (.formatNvm cmd nsid lbaf pi ses) s = .next (t.done cmd 0 0x02 0))) ∧
  (∀ (s t : State) (cmd : CmdFrom) (nsid lbaf : Nat) (pi ses : BitVec 3) (e : ConnEntry) (r : ConnRt) (k : Nat) (c : Ctrl),
     s.adminAt cmd e r k c t → nsid = 0xFFFFFFFF ∨ t.nsOf e.tenant nsid = none →
     exec (.formatNvm cmd nsid lbaf pi ses) s = .next (t.done cmd 0 0x0B 0)) ∧
  (∀ (s t u : State) (volume : BitVec 16) (x : Volume) (lbaf : Nat) (keep : List Nat), s.vol? volume.toNat = some x →
     x.formatting = some lbaf → s.ownsGroup x.group = true →
     keep = (s.mp.snaps.filter (fun e => e.2.volume == volume.toNat || s.nv.volumes.any (fun w => w.2.origin == some e.1))).flatMap
       (fun e => s.treePages e.2.root) →
     t = (s.freePages ((s.treePages x.root).filter (fun id => !keep.contains id))).modVol volume.toNat (fun y => { y with
       root := 0, lbaf := lbaf, formatting := none, formatHost := none, pinned := y.pinned && lbaf != 2, pinReady := false, dict := 0 }) →
     u = (t.journalCtl (⟨0x12, [volume.toNat, lbaf, 2]⟩ :: (if x.pinned = true ∧ lbaf = 2 then [⟨0x07, [volume.toNat, 0]⟩] else []))).nsChanged
       x.tenant x.nsid →
     exec (.formatMapRootCommit volume) s = .next ((match x.formatHost with | some o => u.reply o 0 0 0 | none => u).settle)) ∧
  (∀ (s t : State) (cmd : CmdFrom) (e : ConnEntry) (r : ConnRt) (k : Nat) (c : Ctrl), s.adminAt cmd e r k c t → c.discovery = false →
     t.configHead = true →
     (∀ x, t.tenant? e.tenant = some x → x.san.stat ≠ 2 →
       exec (.sanitizeCryptoErase cmd false) s =
         .next ((t.sanitizeBegin e.tenant).reply (.host cmd.conn.val cmd.cid.toNat) 0 0 0) ∧
       exec (.sanitizeBlockErase cmd false) s =
         .next ((t.sanitizeBegin e.tenant).reply (.host cmd.conn.val cmd.cid.toNat) 0 0 0)) ∧
     (∀ x, t.tenant? e.tenant = some x → x.san.stat = 2 →
       exec (.sanitizeCryptoErase cmd false) s = .next (t.reply (.host cmd.conn.val cmd.cid.toNat) 0 0x1D 0) ∧
       exec (.sanitizeBlockErase cmd false) s = .next (t.reply (.host cmd.conn.val cmd.cid.toNat) 0 0x1D 0) ∧
       exec (.sanitizeExitFailure cmd) s = .next (t.reply (.host cmd.conn.val cmd.cid.toNat) 0 0x1D 0)) ∧
     (∀ x, t.tenant? e.tenant = some x → x.san.stat = 3 →
       exec (.sanitizeExitFailure cmd) s =
         .next (((t.modSan e.tenant (fun y => { y with stat := 0 })).journalCtl [sanCtl e.tenant { x.san with stat := 0 }]).reply
           (.host cmd.conn.val cmd.cid.toNat) 0 0 0)) ∧
     (∀ x, t.tenant? e.tenant = some x → x.san.stat ≠ 2 → x.san.stat ≠ 3 →
       exec (.sanitizeExitFailure cmd) s = .next (t.reply (.host cmd.conn.val cmd.cid.toNat) 0 0 0))) ∧
  (∀ (s t : State) (cmd : CmdFrom) (e : ConnEntry) (r : ConnRt) (k : Nat) (c : Ctrl), s.adminAt cmd e r k c t → c.discovery = false →
     (t.configHead = false →
       exec (.sanitizeCryptoErase cmd false) s = .next (t.forwardOther cmd.conn.val cmd.cid.toNat e.tenant (.sanitize 4)) ∧
       exec (.sanitizeBlockErase cmd false) s = .next (t.forwardOther cmd.conn.val cmd.cid.toNat e.tenant (.sanitize 2)) ∧
       exec (.sanitizeExitFailure cmd) s = .next (t.forwardOther cmd.conn.val cmd.cid.toNat e.tenant (.sanitize 1))) ∧
     exec (.sanitizeCryptoErase cmd true) s = .next (t.done cmd 0 0x02 0) ∧
     exec (.sanitizeBlockErase cmd true) s = .next (t.done cmd 0 0x02 0))

/-- A Sanitize phase that is ready at the configuration head, and at the other head while paired, goes on to the next;
after phase 4 the Sanitize is complete, and one that failed ends in failure. At the other head a phase that is ready is
reported DONE. A START step of the configuration head is kept and its phase's work awaited; a DONE of the phase in
progress and a PROGRESS count the segments the other head has erased; a step of a tenant with no Sanitize in progress
is counted as discarded, but for a START. Entries of a KCV list for slots outside those named are counted, the others
kept; with the last message the lists are compared, after this head has sent its own if it had not. -/
def Obligations.SanitizePhasesAndKeyListsComplete : Prop :=
  (∀ (s : State) (tenant : BitVec 12) (x : Tenant), s.tenant? tenant.toNat = some x → x.san.stat = 2 → s.configHead = true →
     s.sanReady tenant.toNat x.san = true → (s.paired = true → x.san.otherDone = true) → x.san.phase < 4 →
     exec (.sanitizePhaseComplete tenant false) s =
       .next ((if s.solo then s.sanWork tenant.toNat x.san.phase else s).sanPhase tenant.toNat (x.san.phase + 1))) ∧
  (∀ (s : State) (tenant : BitVec 12) (x : Tenant), s.tenant? tenant.toNat = some x → x.san.stat = 2 → s.configHead = true →
     exec (.sanitizePhaseComplete tenant true) s = .next (s.sanFail tenant.toNat)) ∧
  (∀ (s : State) (tenant : BitVec 12) (x : Tenant), s.tenant? tenant.toNat = some x → x.san.stat = 2 → s.configHead = true →
     s.sanReady tenant.toNat x.san = true → (s.paired = true → x.san.otherDone = true) → 4 ≤ x.san.phase →
     exec (.sanitizePhaseComplete tenant false) s = .next (s.sanComplete tenant.toNat)) ∧
  (∀ (s : State) (tenant : BitVec 12) (x : Tenant) (failed : Bool), s.tenant? tenant.toNat = some x → x.san.stat = 2 → s.configHead = false →
     s.sanReady tenant.toNat x.san = true →
     exec (.sanitizePhaseComplete tenant failed) s = .next (s.sendMsg 0x020B [tenant.toNat, x.san.phase, 2, x.san.done, 0])) ∧
  (∀ (s : State) (tenant : BitVec 12) (phase : Fin 8) (erased seq : Nat) (x : Tenant), s.tenant? tenant.toNat = some x → s.linkUp = true →
     exec (.sanitizeStep tenant phase 1 erased seq) s =
       .next ((s.modSan tenant.toNat (fun y => { y with awaits := some (phase.val, seq) })).sanAwaited) ∧
     (x.san.stat ≠ 2 → exec (.sanitizeStep tenant phase 2 erased seq) s = .next (s.bump (Reg.DIKOR_CNT 6) 1) ∧
       exec (.sanitizeStep tenant phase 3 erased seq) s = .next (s.bump (Reg.DIKOR_CNT 6) 1))) ∧
  (∀ (s : State) (tenant : BitVec 12) (phase : Fin 8) (erased seq : Nat) (x : Tenant), s.tenant? tenant.toNat = some x → s.linkUp = true →
     x.san.stat = 2 →
     exec (.sanitizeStep tenant phase 3 erased seq) s =
       .next ((s.modSan tenant.toNat (fun y => { y with doneOther := max y.doneOther erased })).sanProgress tenant.toNat) ∧
     (x.san.phase = phase.val → exec (.sanitizeStep tenant phase 2 erased seq) s =
       .next ((s.modSan tenant.toNat (fun y => { y with otherDone := true, doneOther := max y.doneOther erased })).sanProgress tenant.toNat))) ∧
  (∀ (s : State) (entries : List KcvEntry), s.linkUp = true →
     exec (.kcvList entries false) s =
       .next { s.bump (Reg.DIKOR_CNT 6) (entries.filter (fun (e : KcvEntry) => !kcvSlots.contains e.slot)).length with
         sec.kcvIn := s.sec.kcvIn ++ entries.filter (fun (e : KcvEntry) => kcvSlots.contains e.slot) } ∧
     (s.sec.kcvOut = false → exec (.kcvList entries true) s =
       .next ({ ({ s.bump (Reg.DIKOR_CNT 6) (entries.filter (fun (e : KcvEntry) => !kcvSlots.contains e.slot)).length with
         sec.kcvIn := s.sec.kcvIn ++ entries.filter (fun (e : KcvEntry) => kcvSlots.contains e.slot) }.kcvSend) with
           sec.kcvOut := false }.kcvCompare)) ∧
     (s.sec.kcvOut = true → exec (.kcvList entries true) s =
       .next ({ s.bump (Reg.DIKOR_CNT 6) (entries.filter (fun (e : KcvEntry) => !kcvSlots.contains e.slot)).length with
         sec.kcvIn := s.sec.kcvIn ++ entries.filter (fun (e : KcvEntry) => kcvSlots.contains e.slot), sec.kcvOut := false }.kcvCompare)))

/-- A queued command whose tenant has no earlier waiting command on the same buckets takes its charges and goes to
drafting when they fit, waits on when they do not, and is refused once its window is about to close; the terms are
those in effect when it was checked. A read whose leaves are resident is decided, with the outcome dropped when the
instances differ. A due swap is noted when the digests agree and handled as a mismatch when they differ, and with
SWAP_EN 0 or in simplex nothing happens. A claim that fits is booked and granted by a head that is not FENCED, and
what it reserves for a command that it names is served; any other is rejected. An answer of no open claim changes
nothing, a grant of a command's last one lets the command go on, and a rejection bars it and drafts the command again.
A shadow takes the partner's bookings away and adds others. The Reed table's operations read and write the entry they
name when the register accepts the write. The collection floor falls at most once a second, and the overwrite ratios,
the energy cards of the instances in service and an overrun change as their rules say. -/
def Obligations.AdmissionAndClaimCommandsComplete : Prop :=
  (∀ (s : State) (id : Nat) (st : Standby) (c : HCmd) (ch : List Nat), s.serving = true → s.cmd? id = some c →
     s.loom.queue.contains id = true → ch = s.chargesOf c.kind c.tenant c.bytes → c.terms = [] ∨ c.terms = s.contract c.tenant →
     ((s.loom.queue.takeWhile (fun x => x != id)).filterMap s.cmd?).any
       (fun x => x.tenant == c.tenant && chargesMeet (s.chargesOf x.kind x.tenant x.bytes) ch) = false →
     (s.now + 2000 ≤ c.window → s.chargesFit c.tenant ch = true → exec (.reedTokensAvailable id st) s =
       .next (((({ s with loom.queue := s.loom.queue.filter (fun x => x != id) }.takeCharges c.tenant ch).modCmd id (fun c => { c with
         tokens := ch.getD 0 0 + ch.getD 1 0, byteTokens := ch.getD 2 0 + ch.getD 3 0 })).toDraft id st))) ∧
     (s.now + 2000 ≤ c.window → s.chargesFit c.tenant ch = false → exec (.reedTokensAvailable id st) s = .next s) ∧
     (c.window < s.now + 2000 → exec (.reedTokensAvailable id st) s =
       .next ({ s with loom.queue := s.loom.queue.filter (fun x => x != id) }.gated id st (fun u => u.refuse id causeRate)))) ∧
  (∀ (s : State) (id : Nat) (c : HCmd), s.serving = true → s.cmd? id = some c → c.phase = .map → s.missingLeaves c = [] →
     s.claimsOpen id = false →
     exec (.mapResolved id .same) s = .next (s.firstDecision.decideRead id) ∧
     (∀ a b, s.firstDecision.simplex = false →
       exec (.mapResolved id (.differ a b)) s = .next ((s.firstDecision.refuse id causePlacement).decisionMismatch a b))) ∧
  (∀ s : State, s.loomAct Reg.LOOM_CFG_SWAP_EN ≠ 0 → s.simplex = false →
     exec (.loomSwapDue .same) s = .next { s with loom.swapDue := true } ∧
     (∀ a b, exec (.loomSwapDue (.differ a b)) s = .next (s.decisionMismatch a b))) ∧
  (∀ (s : State) (st : Standby), s.loomAct Reg.LOOM_CFG_SWAP_EN = 0 ∨ s.simplex = true → exec (.loomSwapDue st) s = .next s) ∧
  (∀ (s t : State) (tenant : BitVec 12), s.accepts Reg.REED_TBL_CMD →
     t = (s.setFld Reg.REED_TBL_CMD_OP 0).setFld Reg.REED_TBL_CMD_TENANT tenant.toNat →
     exec (.reedTblReadState tenant) s =
       .next (t.tblData [BitVec.ofNat 64 (t.ovrOf tenant.toNat), BitVec.ofInt 64 (t.ledgerOf tenant.toNat),
         BitVec.ofNat 64 ((t.levelsNow tenant.toNat).getD 3 0 / 10 ^ 9), 0])) ∧
  (∀ (s t : State) (tenant : BitVec 12) (w0 w1 w2 w3 : Word), s.accepts Reg.REED_TBL_CMD →
     t = ((s.setFld Reg.REED_TBL_CMD_OP 1).setFld Reg.REED_TBL_CMD_TENANT tenant.toNat).tblData [w0, w1, w2, w3] →
     exec (.reedTblWriteStaged tenant w0 w1 w2 w3) s =
       .next ({ t with loom.staged := tPut t.loom.staged tenant.toNat [w0, w1, w2 &&& 0xFF, w3 &&& 0x8000000000000000] }.shareSum)) ∧
  (∀ (s t : State) (tenant : BitVec 12), s.accepts Reg.REED_TBL_CMD →
     (t = (s.setFld Reg.REED_TBL_CMD_OP 2).setFld Reg.REED_TBL_CMD_TENANT tenant.toNat →
       exec (.reedTblReadStaged tenant) s = .next (t.tblData (tGet t.loom.staged tenant.toNat [0, 0, 0, 0]))) ∧
     (t = (s.setFld Reg.REED_TBL_CMD_OP 3).setFld Reg.REED_TBL_CMD_TENANT tenant.toNat →
       exec (.reedTblReadActive tenant) s = .next (t.tblData (t.contract tenant.toNat)))) ∧
  (∀ (s : State) (new : Nat), new = floorOf (s.fld (Reg.LOOM_GC_STATE_FREE_PM s.loomActive)) →
     (s.floorPct < new → exec .collectionFloorRecompute s =
       .next { s with loom.floorNext := some new, loom.floorAt := s.now }) ∧
     (new < s.floorPct → s.loom.floorAt + 10 ^ 9 ≤ s.now → exec .collectionFloorRecompute s =
       .next { s with loom.floorNext := some new }) ∧
     (new < s.floorPct → s.now < s.loom.floorAt + 10 ^ 9 → exec .collectionFloorRecompute s = .next { s with loom.floorNext := none }) ∧
     (new = s.floorPct → exec .collectionFloorRecompute s = .next { s with loom.floorNext := none }) ∧
     (∀ p, s.loom.floorNext = some p → s.floorPublish = { s with loom.floorNext := none }.loomSet Reg.LOOM_GC_STATE_FLOOR_PCT p)) ∧
  (∀ (s : State) (cards : List CardFit) (pages : List Nat), s.serving = true →
     pages = [Reg.LOOM_PAGE 0, Reg.LOOM_PAGE 1].filter (fun p => s.blk p != FAILED && s.blk p != RETIRED) →
     (∀ p ∈ pages, s.bit (Reg.BLK_STATE_COMMIT_PENDING p) = false) →
     exec (.energyCardFit cards) s =
       .next (pages.foldl (fun (t : State) p => t.setBit (Reg.BLK_STATE_COMMIT_PENDING p) true) (cards.foldl stageCard s))) ∧
  (∀ s : State, 100 ≤ s.loom.overBeats →
     exec .energyOverrun s = .next (({ s with loom.overBeats := 0 }.unnamedEvent 158 (Reg.LOOM_PAGE s.loomActive) 0).handOff .fitting)) ∧
  (∀ s : State, exec .overwriteRatioUpdate s =
     .next (s.loom.ovrAcc.foldl (fun (t : State) e => { t with loom.ovr := tPut t.loom.ovr e.1 (ratioStep (t.ovrOf e.1) e.2.1 e.2.2) })
       { s with loom.ovrAcc := [] })) ∧
  (∀ (s t : State) (tag tenant : Nat) (items : List ClaimItem) (cmd : Option Nat) (dems : List Dem), s.linkUp = true →
     dems = items.map (fun i => Dem.mk i.beat (claimRes i.res) i.amt) →
     t = { s with loom.book := s.loom.book ++ (demSum dems).map (fun (d : Dem) =>
       Booking.mk d.beat d.res d.amt tenant (.claim tag) (1 - s.headIndex % 2)) }.sendMsg 0x0002 [tag, 1] →
     (s.fld Reg.OWN_STATUS_ROLE ≠ 5 → (∀ d ∈ dems, s.books d.res = true) → s.fits tenant true dems = none →
       exec (.claim tag tenant items cmd) s = .next (match cmd with | some id => t.claimServes id dems | none => t)) ∧
     (s.fld Reg.OWN_STATUS_ROLE = 5 ∨ (∃ d ∈ dems, s.books d.res = false) ∨ s.fits tenant true dems ≠ none →
       exec (.claim tag tenant items cmd) s = .next (s.sendMsg 0x0002 [tag, 0]))) ∧
  (∀ (s : State) (tag : Nat) (a : ClaimReply), s.loom.claims.find? (fun c => c.1 == tag) = none → exec (.claimAnswer tag a) s = .next s) ∧
  (∀ (s : State) (tag id : Nat) (st : Standby) (l : List Booking) (t u : State), s.linkUp = true →
     s.loom.claims.find? (fun c => c.1 == tag) = some (tag, id, l) →
     t = { s with loom.claims := s.loom.claims.filter (fun c => c.1 != tag) } →
     u = { t with loom.granted := t.loom.granted ++ l } →
     (u.claimsOpen id = true → exec (.claimAnswer tag ⟨true, st⟩) s = .next u) ∧
     (u.claimsOpen id = false → exec (.claimAnswer tag ⟨true, st⟩) s = .next (u.gated id st (fun x => x.claimsGranted id))) ∧
     exec (.claimAnswer tag ⟨false, st⟩) s = .next ((t.barClaim id l).gated id st (fun x => x.draftAgain id))) ∧
  (∀ (s : State) (added removed : List ShadowItem), s.linkUp = true →
     exec (.shadow added removed) s =
       .next { s with loom.shadow := s.loom.shadow.filter (fun b => !(removed.map shadowOf).contains b) ++ added.map shadowOf }) ∧
  (∀ (s u : State) (id : Nat) (st : Standby) (c : HCmd), s.serving = true → s.cmd? id = some c → c.terms ≠ [] →
     c.terms ≠ s.contract c.tenant →
     exec (.reedTokensAvailable id st) { s with loom.active := tPut s.loom.active c.tenant c.terms } = .next u →
     exec (.reedTokensAvailable id st) s = .next { u with loom.active := s.loom.active })

/-- A grain of a running write goes to its lookup; with an empty key slot the write is given up, a protection information
check that fails ends it with its status, and a grain to be read first that dangles fails it. A lookup of the partner is
answered from the shard; an answer goes on with the grain. A lookup that times out counts as a miss, its form is stored,
and where the partner may still answer PENDING it is stored under another id. A record whose grains are all done is
headed: it takes its place, its map changes apply, and the command is headed. A grain of a read answers zeros, ends the
command when it is lost or dangles, or meets the checks of the form found in the journal, the read cache or its
stripe. -/
def Obligations.WritePathCommandsComplete : Prop :=
  (∀ (s : State) (cmd grain : Nat) (dpc : Fin 18) (ok cached : Bool) (c : HCmd) (v : Volume), s.cmd? cmd = some c → s.vol? c.volume = some v →
     s.serving = true → c.phase = .run → c.fwdTo = false → (s.pipeGrains c).contains grain = true → hasOut c grain = false →
     c.lookups.any (fun (l : Lookup) => l.grain == grain) = false → s.grainWaits cmd c grain = false →
     (s.keyEmptyOf c.tenant = true → exec (.grainPipeline cmd grain dpc ok cached) s = .next (s.busyAbandon cmd)) ∧
     (∀ p, s.keyEmptyOf c.tenant = false → (c.lbaf = 1 && c.kind == .write && !c.pi.pract && c.pi.prchk != 0) = false → s.oldReadable c grain = true →
       s.grainPlain c grain = some p →
       exec (.grainPipeline cmd grain dpc ok cached) s = .next (s.grainLookup cmd c grain dpc.val p ok cached)) ∧
     (s.keyEmptyOf c.tenant = false → (c.lbaf = 1 && c.kind == .write && !c.pi.pract && c.pi.prchk != 0) = false → s.oldReadable c grain = false →
       exec (.grainPipeline cmd grain dpc ok cached) s = .next ((s.danglingSeen c.volume grain).failWrite cmd 2 0x81)) ∧
     (∀ sc, s.keyEmptyOf c.tenant = false → (c.lbaf = 1 && c.kind == .write && !c.pi.pract && c.pi.prchk != 0) = true →
       (∃ y, piAt c (s.goffOf c grain) = .bad y) → piFirst c (s.goffOf c grain) = .bad sc →
       exec (.grainPipeline cmd grain dpc ok cached) s = .next (s.failWrite cmd 2 sc))) ∧
  (∀ (s t : State) (tag grain tenant chunk : Nat) (fp : Word256), s.linkUp = true → s.holdsShard (digestNumber fp) = true →
     ((s.shardLookup tenant (digestNumber fp) chunk (1 - s.headIndex % 2)).hit = none →
       t = (s.shardLookup tenant (digestNumber fp) chunk (1 - s.headIndex % 2)).st →
       exec (.idxLookup tag grain tenant chunk fp) s = .next (t.sendMsg 0x0204 [tag, grain, 0, 0, 0, 0])) ∧
     (∀ k p d, (s.shardLookup tenant (digestNumber fp) chunk (1 - s.headIndex % 2)).hit = some (k, p, d) →
       t = (s.shardLookup tenant (digestNumber fp) chunk (1 - s.headIndex % 2)).st →
       exec (.idxLookup tag grain tenant chunk fp) s = .next (t.sendMsg 0x0204 [tag, grain, 1, k, p.toNat, d]))) ∧
  (∀ (s : State) (cmd grain : Nat) (c : HCmd) (l : Lookup) (hit : Option IdxHit), lookupAt? s cmd grain = some (c, l) → l.confirm = none →
     exec (.idxAnswer cmd grain hit) s = .next (s.lookupDone cmd c l hit) ∧
     exec (.idxAnswer cmd grain none) s = .next ((s.bump Reg.MAPX_MISS_CNT 1).lookupStore cmd l)) ∧
  (∀ (s : State) (cmd grain : Nat) (c : HCmd) (l : Lookup), lookupAt? s cmd grain = some (c, l) →
     (l.confirm ≠ none → exec (.indexLookupTimeout cmd grain) s = .next ((s.bump Reg.MAPX_CONFIRM_FAIL_CNT 1).lookupMiss cmd l)) ∧
     (l.confirm = none → (s.bump Reg.MAPX_REMOTE_TO_CNT 1).poolClaim.reserveId = none →
       exec (.indexLookupTimeout cmd grain) s = .next ((s.bump Reg.MAPX_REMOTE_TO_CNT 1).lookupMiss cmd l)) ∧
     (∀ k t, l.confirm = none → (s.bump Reg.MAPX_REMOTE_TO_CNT 1).poolClaim.reserveId = some (k, t) →
       exec (.indexLookupTimeout cmd grain) s = .next ((t.returnId l.chunk).lookupMiss cmd { l with chunk := k }))) ∧
  (∀ (s t : State) (cmd : Nat) (c : HCmd) (v : Volume) (off blks seq : Nat) (r : JRec) (x : Nat × State) (y : State × List Nat),
     s.cmd? cmd = some c → s.serving = true → s.recordReady cmd c = true → s.vol? c.volume = some v → c.ext = some (off, blks) →
     x = (s.readyLeaves (s.recordOf c v)).headAt (s.recordOf c v) off blks c.tee → seq = x.1 → r = { s.recordOf c v with seq := seq } →
     y = x.2.applyDeltas r →
     t = { y.1 with jr.own := y.1.jr.own.map (fun (q : JRec) => if q.seq = seq then { q with olds := y.2 } else q) } →
     exec (.recordHeaderWrite cmd) s =
       .next ((((((t.headerSide cmd c r y.2).modCmd cmd (fun z => { z with
         phase := .headed
         seq := some seq
         outs := []
         rule := s.ruleNow c
         refs := y.1.recordRefs r })).dropLeaves r (s.deltaLeaves (s.recordOf c v))).syncHead cmd r).packWaiting).settle)) ∧
  (∀ (s : State) (cmd grain : Nat) (dpc : Fin 18) (check : ReadCheck) (c : HCmd), s.cmd? cmd = some c → s.serving = true → c.phase = .run →
     isWriteKind c.kind = false → c.fwdTo = false → c.todo.contains grain = true →
     (s.grainSource c.volume grain = .zero → exec (.grainReadStage cmd grain dpc check) s = .next (s.grainOut cmd grain c zeroGrain)) ∧
     (s.grainSource c.volume grain = .lost → exec (.grainReadStage cmd grain dpc check) s = .next (s.finish cmd 2 0x81)) ∧
     (∀ f, s.grainSource c.volume grain = .journal f → s.keyEmptyOf c.tenant = false →
       exec (.grainReadStage cmd grain dpc check) s = .next (s.formCheck cmd grain f.chunk dpc.val c f none check)) ∧
     (∀ k e f, s.grainSource c.volume grain = .stripe k e → s.keyEmptyOf c.tenant = false →
       c.plan.any (fun p => p.grains.contains grain && !s.readsIn cmd p) = false → tGet? s.mp.forms k = some f →
       exec (.grainReadStage cmd grain dpc check) s = .next (s.formCheck cmd grain k dpc.val c f (some e) check)) ∧
     (s.grainSource c.volume grain = .dangling → exec (.grainReadStage cmd grain dpc check) s =
       .next ((s.danglingSeen c.volume grain).finish cmd 2 0x81)) ∧
     (∀ k f, s.grainSource c.volume grain = .cache k f → s.keyEmptyOf c.tenant = false →
       exec (.grainReadStage cmd grain dpc check) s = .next (s.cacheCheck cmd grain k dpc.val c f check)) ∧
     (∀ f, s.grainSource c.volume grain = .journal f → s.keyEmptyOf c.tenant = true →
       exec (.grainReadStage cmd grain dpc check) s = .next (s.busyFinish cmd)))

/-- A good record from the partner is taken and acknowledged while its mirror has room, a parity write of it counts in the
lap, and nothing else changes on a bad one. An acknowledgement marks records mirrored and flashed, and what is flashed at
the front retires; a record flagged unmirrored is sent again. Timeouts and closes end a row that fills and holds
something. A stalled forwarded write is abandoned unless headed. The end of a restripe clears DEGRADED. A DRAM error is
counted with its address and hits what lay there: read-cache lines, a record that parity rebuilds or that is marked bad, an
index entry, or a clean page. -/
def Obligations.MirrorRowAndChannelCommandsComplete : Prop :=
  (∀ (s : State) (record : JRec) (members : List (Nat × Nat × Nat)), s.mirrors = true →
     (record.type ≠ 6 → s.mirrorRoom record = true → exec (.mirrorData record members true) s =
       .next (((s.mirrorTake record members).sanAwaited.sendMsg 0x0101 [1, record.seq]).overlaySignal.joinEval.settle)) ∧
     (record.type = 6 → exec (.mirrorData record members true) s = .next ((s.mirrorLap record.off record.blks).stripeWrite 1 record.off)) ∧
     (record.type ≠ 6 → s.mirrorRoom record = false → exec (.mirrorData record members true) s = .next s) ∧
     exec (.mirrorData record members false) s = .next s) ∧
  (∀ (s t u : State) (acked flashed : List Nat), s.linkUp = true → s.chip.holdup = false →
     t = s.markMirrored (fun (r : JRec) => acked.contains r.seq) →
     u = (t.jr.mir.filter (fun (r : JRec) => flashed.contains r.seq && !r.flashed)).foldl (fun (x : State) r => x.lower r.olds)
       { t with jr.mir := t.jr.mir.map (fun (r : JRec) => if flashed.contains r.seq then { r with flashed := true } else r) } →
     exec (.mirrorAck acked flashed) s =
       .next ({ u with jr.mir := u.jr.mir.dropWhile (fun (r : JRec) => r.flashed) }.selvShow.settle)) ∧
  (∀ (s : State) (seq : Nat) (r : JRec), s.jr.own.find? (fun (q : JRec) => q.seq == seq) = some r → s.linkUp = true → s.solo = false →
     s.chip.holdup = false → r.mirrored = false →
     exec (.mirrorResend seq) s = .next ((s.sendRecord r).bump Reg.SELV_RESEND_CNT 1)) ∧
  (∀ (s : State) (segment : Nat) (g : Seg) (r : Row), s.seg? segment = some g → g.row = some r → r.st = .filling →
     ¬ (r.forms = [] ∧ r.pages = []) → s.ownSeg segment = true →
     exec (.rowClose segment) s = .next (s.closeRow segment).packWaiting ∧
     exec (.rowCloseTimeout segment) s = .next (s.closeRow segment).packWaiting) ∧
  (∀ (s : State) (tag : Nat) (e : Nat × HCmd), s.linkUp = true → s.nv.cmds.find? (fun (x : Nat × HCmd) => x.2.fwdFrom == some tag) = some e →
     (e.2.phase = .headed → exec (.stall tag) s = .next s) ∧ (e.2.phase ≠ .headed → exec (.stall tag) s = .next (s.abandon e.1))) ∧
  (∀ s : State, s.jr.restriping = true →
     exec .restripeComplete s =
       .next (({ s with jr.restriping := false }.restripe s.stripeChannels).setBit Reg.SELV_STATUS_DEGRADED false)) ∧
  (∀ (s t : State) (channel : Fin 16) (addr : Word) (own : Bool) (seq id chunk : Nat),
     t = (s.bump (Reg.DRAMC_ECC_UE channel.val) 1).setReg (Reg.DRAMC_UE_ADDR channel.val) addr →
     exec (.dramUncorrectableError channel addr .cacheLine) s = .next t.cacheLoss ∧
     (∀ r, (if own then t.jr.own else t.jr.mir).find? (fun (r : JRec) => r.seq == seq) = some r →
       (t.recordRebuilt (if own then 0 else 1) r channel.val = true →
         exec (.dramUncorrectableError channel addr (.record own seq true)) s = .next t) ∧
       exec (.dramUncorrectableError channel addr (.record own seq false)) s =
         .next (if own then { t with jr.badOwn := (t.jr.badOwn ++ [seq]).dedup } else { t with jr.badMir := (t.jr.badMir ++ [seq]).dedup })) ∧
     exec (.dramUncorrectableError channel addr (.index chunk)) s = .next (t.reloadIndex chunk) ∧
     (∀ p, t.page? id = some p → p.flash.isSome = true →
       exec (.dramUncorrectableError channel addr (.page id)) s = .next (t.setPage id { p with resident := false }).residentShow) ∧
     (t.page? id = none → exec (.dramUncorrectableError channel addr (.page id)) s = .next t))

/-- A full index log, or the timer, writes a sorted run; re-weaving merges runs or makes an alias of two equal
chunks. Training of a full sample with content in dictionary form installs the candidate when it saves at least 3
percent, and in each case starts the sample again; content in another form changes nothing. An audit starts over the chunks to be looked at and finishes over
each. A hand-back with the last entry sends the partner's entries back. The partner clears a pending mark, or withdraws
an entry that is pending, counted when it was stale. The end of a rebuild is noted, and the next boundary takes the new
table. The staged and active settings are read, the staged ones written with reserved bits 0. -/
def Obligations.ReductionCommandsComplete : Prop :=
  (∀ (s : State) (n : Nat) (run : List IdxEntry), s.mp.idxLog ≠ [] → n = min runMax s.mp.idxLog.length → run = sortEntries (s.mp.idxLog.take n) →
     exec .indexRunFlushTimer s =
       .next ({ s with mp.idxLog := s.mp.idxLog.drop n, mp.runs := s.mp.runs ++ [runOf run] }.bulkRun run) ∧
     (runMax ≤ s.mp.idxLog.length → exec .indexRunWrite s =
       .next ({ s with mp.idxLog := s.mp.idxLog.drop n, mp.runs := s.mp.runs ++ [runOf run] }.bulkRun run)) ∧
     (s.mp.idxLog.length < runMax → exec .indexRunWrite s = .next s)) ∧
  (∀ (s : State) (tenant : BitVec 12) (data : Word), s.accepts Reg.MAPX_RED_CMD →
     exec (.redWriteStaged tenant data) s =
       .next { ((s.setFld Reg.MAPX_RED_CMD_OP 1).setFld Reg.MAPX_RED_CMD_TENANT tenant.toNat).setReg Reg.MAPX_RED_DATA (data &&& 0xB3) with
         mp.redS := tPut (((s.setFld Reg.MAPX_RED_CMD_OP 1).setFld Reg.MAPX_RED_CMD_TENANT tenant.toNat)).mp.redS tenant.toNat (data &&& 0xB3).toNat }) ∧
  (∀ (s t : State) (tenant : BitVec 12), s.accepts Reg.MAPX_RED_CMD →
     (t = (s.setFld Reg.MAPX_RED_CMD_OP 2).setFld Reg.MAPX_RED_CMD_TENANT tenant.toNat →
       exec (.redReadStaged tenant) s = .next (t.setReg Reg.MAPX_RED_DATA (BitVec.ofNat 64 (tGet t.mp.redS tenant.toNat 0xA1)))) ∧
     (t = (s.setFld Reg.MAPX_RED_CMD_OP 3).setFld Reg.MAPX_RED_CMD_TENANT tenant.toNat →
       exec (.redReadActive tenant) s = .next (t.setReg Reg.MAPX_RED_DATA (BitVec.ofNat 64 (t.redOf tenant.toNat))))) ∧
  (∀ (s : State) (p : Nat × Nat), s.serving = true →
     exec (.reweave (some p)) s =
       .next ({ s with mp.reweave := s.mp.reweave.filter (fun (x : Nat × Nat) => x != p) }.makeAlias p.1 p.2) ∧
     exec (.reweave none) s = .next s.mergeRuns) ∧
  (∀ (s : State) (entries : List IdxEntry) (last : Bool),
     (s.mp.solo = false → exec (.shardHandback entries last) s = .next (s.takeShard entries last)) ∧
     (s.mp.solo = true → exec (.shardHandback entries false) s = .next s) ∧
     (s.mp.solo = true → s.solo = false → s.linkUp = true → exec (.shardHandback entries true) s =
       .next (({ s.sendMsg 0x0300 (s.partnerEntries.length :: s.partnerEntries.flatMap entryBody) with
         mp.index := (s.sendMsg 0x0300 (s.partnerEntries.length :: s.partnerEntries.flatMap entryBody)).mp.index.filter
           (fun (b : Nat × List IdxEntry) => b.1 / 2 ^ 34 == (s.sendMsg 0x0300 (s.partnerEntries.length :: s.partnerEntries.flatMap entryBody)).headIndex % 2)
         mp.solo := false }).rehash))) ∧
  (∀ (s : State) (volume : BitVec 16) (content : Bytes) (candidate current : Nat) (v : Volume), s.vol? volume.toNat = some v →
     s.serving = true → s.ownsGroup v.group = true → v.dictMode = 0 → s.redOf v.tenant / 16 % 4 = 2 →
     262144 ≤ tGet s.mp.training volume.toNat 0 →
     exec (.dictTraining volume content candidate current) s =
       .next (if dictForm content = false then s
         else if candidate * 100 ≤ current * 97 then { s with mp.training := tDel s.mp.training volume.toNat }.dictInstall volume.toNat content
         else { s with mp.training := tDel s.mp.training volume.toNat })) ∧
  (∀ (s : State) (tenant : BitVec 12) (given ids : List Nat), s.mp.audit = none → s.serving = true →
     given = s.mp.auditSet.filter (fun c => ((s.chunk? c).map (fun (e : Chunk) => e.tenant == tenant.toNat)).getD false && s.keepsPool (poolOf c)) →
     ids = (given ++ (s.sweepIds tenant.toNat).filter (fun c => !given.contains c)).take 16777216 →
     exec (.tallyAuditStart tenant) s =
       .next { s with
         mp.audit := some ⟨tenant.toNat, ids.map (fun c => (c, 0))⟩
         mp.auditSet := s.mp.auditSet.filter (fun c => !ids.contains c)
         mp.sweep := ids.getLastD s.mp.sweep }) ∧
  (∀ (s : State) (a : Audit), s.mp.audit = some a →
     exec .tallyAuditFinish s = .next (a.tally.foldl (fun (t : State) (x : Nat × Nat) => t.auditOne x.1) { s with mp.audit := none })) ∧
  (∀ (s : State) (chunk : Nat), s.linkUp = true →
     exec (.pendingClear chunk 0) s = .next { s with
       mp.newIns := s.mp.newIns.map (fun (e : IdxEntry) => if e.chunk = chunk then { e with pending := false } else e)
       mp.index := s.mp.index.map (fun (b : Nat × List IdxEntry) => (b.1, b.2.map (fun (e : IdxEntry) => if e.chunk = chunk then { e with pending := false } else e)))
       mp.idxLog := s.mp.idxLog ++ ((s.mp.index.flatMap (fun (b : Nat × List IdxEntry) => b.2.filter (fun (e : IdxEntry) => e.chunk == chunk))).map
         (fun (e : IdxEntry) => { e with pending := false })) } ∧
     exec (.pendingClear chunk 1) s = .next { s with
       mp.index := (s.mp.index.map (fun (b : Nat × List IdxEntry) => (b.1, b.2.filter (fun (e : IdxEntry) => !(e.chunk == chunk && e.pending))))).filter
         (fun b => !b.2.isEmpty)
       mp.newIns := s.mp.newIns.filter (fun (e : IdxEntry) => !(e.chunk == chunk && e.pending)) }.indexShow ∧
     (∀ t, exec (.pendingClear chunk 1) s = .next t → exec (.pendingClear chunk 2) s = .next (t.bump Reg.MAPX_STALE_CNT 1))) ∧
  (∀ (s : State) (n : Nat), s.mp.rebuild = some n →
     exec .indexRebuildDone s = .next { s with mp.rebuilt := true } ∧
     (s.mp.rebuilt = true → s.rebuildTake =
       { s with mp.tableLog := n, mp.rebuild := s.mp.rebuildNext, mp.rebuildNext := none, mp.rebuilt := false }.newTable))

/-- A page read with both CRC values good becomes resident with its overlay entries applied; one that is bad makes
its unit suspect, relocates the segment member and is read again. A dirty page of an own group is placed in a MAP
row and is clean, or stays dirty while no row can take it. An overlay above its limit writes back the longest dirty
leaves. The map journal's waiting records go to a row that is closed. A due checkpoint is cut at the next boundary
or, with one running, is counted late; once all that it names is on flash, a boundary journals it and writes its root
to the next root slot; a root that is durable completes the checkpoint, which replaces that slot's root, lets go the
tables that no root names and releases the journal before the cut. A pinned volume whose leaves are resident is
ready, and one that was loading becomes accessible. -/
def Obligations.MapPageAndCheckpointCommandsComplete : Prop :=
  (∀ (s : State) (page : Nat) (p : Page), s.page? page = some p → p.resident = false →
     exec (.pageinComplete page true) s = .next (s.loadPage page).evict ∧
     (∀ seg row member pos, p.flash = some (seg, row, member, pos) →
       exec (.pageinComplete page false) s = .next (((s.suspectAdd seg member row).relocate seg member 1000 none).emit (.mapIo page false)))) ∧
  (∀ (s t : State) (page : Nat) (p : Page), s.page? page = some p → p.dirty = true → s.ownsVol p.volume = true →
     (s.mapPlace page p.applied = some t → exec (.pageWriteback page) s = .next (t.setPage page { p with dirty := false })) ∧
     (s.mapPlace page p.applied = none → exec (.pageWriteback page) s = .next s)) ∧
  (∀ (s : State) (count : Nat) (l : List (Nat × Page)), s.linkUp = true →
     l = s.mp.pages.filter (fun (e : Nat × Page) => e.2.level == 0 && e.2.dirty && s.ownsVol e.2.volume) →
     exec (.overlayFill count) s =
       .next (((l.foldl (fun (acc : List (Nat × Page)) e =>
         acc.filter (fun x => decide (x.2.dirtyAt ≤ e.2.dirtyAt)) ++ e :: acc.filter (fun x => decide (e.2.dirtyAt < x.2.dirtyAt))) []).take count).foldl
           (fun (t : State) e => t.writeBack e.1) s)) ∧
  (∀ (s t : State) (seg n : Nat) (g : Seg) (r : Row) (recs : List Nat), s.jr.jwait ≠ [] → s.rowFor 4 = some (seg, t) → t.seg? seg = some g →
     g.row = some r → recs = t.fitRecs t.jr.jwait (65536 * dataMembers g) →
     n = recs.foldl (fun k q => k + ((t.waiting? q).map logBytes).getD 0) 0 →
     (s.journalDue = true → exec .mapJournalRowClose s = .next ({ t.setSeg seg { g with row := some { r with recs := recs } } with
         jr.jwait := t.jr.jwait.drop recs.length, jr.jkib := t.jr.jkib + ceilDiv n 1024 }.closeRow seg)) ∧
     (s.journalDue = false → exec .mapJournalRowClose s = .next s) ∧
     exec .mapJournalFlushTimer s = .next ({ t.setSeg seg { g with row := some { r with recs := recs } } with
         jr.jwait := t.jr.jwait.drop recs.length, jr.jkib := t.jr.jkib + ceilDiv n 1024 }.closeRow seg)) ∧
  (∀ s : State, s.serving = true → s.ckptNeeded = true →
     (s.mp.ckpt = none → exec .checkpointDue s = .next { s with mp.ckptDue := true } ∧
       ({ s with mp.ckptDue := true }.serving = true → { s with mp.ckptDue := true }.ckptBoundary = { s with mp.ckptDue := true }.ckptCut)) ∧
     (s.mp.ckpt.isSome = true → exec .checkpointDue s = .next ({ s with mp.ckptDue := true }.bump Reg.MAPX_CKPT_LATE_CNT 1))) ∧
  (∀ (s t u : State) (r : Root) (slot id : Nat), s.mp.ckpt = some r → s.mp.ckptRoot = some (slot, id, true) →
     t = s.tablesDie (if slot = 0 then s.mp.rootA else s.mp.rootB)
       (r.tables ++ ((if slot = 0 then s.mp.rootB else s.mp.rootA).map (fun (x : Root) => x.tables)).getD []) →
     u = { t with
       mp.rootA := if slot = 0 then some r else s.mp.rootA
       mp.rootB := if slot = 1 then some r else s.mp.rootB
       mp.ckpt := none
       mp.ckptRoot := none
       mp.jlog := s.mp.jlog.filter (fun (x : JRec) => decide (r.seq ≤ x.seq))
       mp.jlogP := s.mp.jlogP.filter (fun (x : JRec) => decide (r.cut ≤ x.time))
       md.segs := t.md.segs.map (fun (e : Nat × Seg) =>
         if e.2.type = 4 && e.2.st != SegState.opened && e.2.area < r.seq && e.2.logTime < r.cut && s.ownSeg e.1 then (e.1, { e.2 with live := 0 })
         else e) } →
     exec .checkpointComplete s =
       .next (((u.setReg Reg.MAPX_CKPT_CUT (BitVec.ofNat 64 r.cut)).setReg Reg.MAPX_CKPT_NUM (BitVec.ofNat 64 r.num)).setBit
         Reg.MAPX_MAP_STATUS_CKPT false)) ∧
  (∀ (s t : State) (r : Root) (id : Nat), s.ckptTables.mp.ckpt = some r → s.ckptTables.ckptOpen r = false → s.ckptTables.mp.ckptRoot = none →
     s.ckptTables.rootSlot s.ckptTables.nextRootSlot = some (id, t) →
     s.rootStep = { t.journalCtl [⟨0x08, [r.num, r.cut / 10000, r.seq, s.ckptTables.nextRootSlot]⟩] with
       mp.ckptRoot := some (s.ckptTables.nextRootSlot, id, false) }.rootWrite id r) ∧
  (∀ (s t : State) (volume : BitVec 16) (x : Volume), s.vol? volume.toNat = some x → x.pinned = true → s.ownsGroup x.group = true →
     t = (((s.treePages x.root).foldl (fun (t : State) id => t.loadPage id) s).modVol volume.toNat
       (fun y => { y with pinReady := true, loading := false })).residentShow →
     exec (.pinResident volume) s = .next (if x.loading then t.anaChanged x.group else t))

/-- A notice from the partner in time is recorded and confirmed with the beat; a late one only confirmed; one whose members
exceed a limit is not answered; one with no members takes the creation back. A confirmation in time is noted, a late one or none aborts. At its cut beat each
owned member's root is frozen; the pause ends SNAP_PAUSE beats later. The deletion of a snapshot with no clone
frees its pages that no neighbour tree reaches. A Bobbin lookup goes to the leaf's home engine; a landed sector of a
resident page is entered, the deltas that waited for it are merged, and lookups that stalled go on; the merge buffer
drains its oldest entry when full or on time. A keeper confirms a usable chunk of that tenant and check by counting one
more reference, which it notes for the audit, and denies any other. A confirmation lets the grain use the chunk, and a
denial counts as a miss. -/
def Obligations.SnapshotAndBobbinCommandsComplete : Prop :=
  (∀ (s t : State) (tag start : Nat) (members : List (Nat × Nat)), s.linkUp = true → t = s.sendMsg 0x0009 [tag, s.beat] →
     exec (.snapNotice tag start []) s = .next ({ s with mp.snapOps := tDel s.mp.snapOps tag }.pauseShow) ∧
     (members ≠ [] → s.snapMay (members.map (fun (m : Nat × Nat) => m.1)) = false → exec (.snapNotice tag start members) s = .next s) ∧
     (members ≠ [] → s.snapMay (members.map (fun (m : Nat × Nat) => m.1)) = true → start + 1 < s.beat →
       exec (.snapNotice tag start members) s = .next t) ∧
     (members ≠ [] → s.snapMay (members.map (fun (m : Nat × Nat) => m.1)) = true → s.beat ≤ start + 1 → exec (.snapNotice tag start members) s =
       .next ({ t with mp.snapOps := tPut t.mp.snapOps tag ⟨members.map (fun (m : Nat × Nat) => m.1), members.map (fun (m : Nat × Nat) => m.2),
         start + 66, start, false, true, false, none, none⟩ }.pauseShow))) ∧
  (∀ (s : State) (tag receipt : Nat) (o : SnapOp), s.linkUp = true → tGet? s.mp.snapOps tag = some o → o.partner = true → o.confirmed = false →
     o.done = false →
     (receipt ≤ o.start + 1 → s.beat ≤ o.start + 32 → exec (.snapConfirm tag receipt) s = .next { s with mp.snapOps := tPut s.mp.snapOps tag { o with confirmed := true } }) ∧
     (o.start + 1 < receipt ∨ o.start + 32 < s.beat → exec (.snapConfirm tag receipt) s = .next (s.snapAbort tag)) ∧
     exec (.snapConfirmTimeout tag) s = .next (s.snapAbort tag)) ∧
  (∀ (s t u : State) (tag : Nat) (o : SnapOp), tGet? s.mp.snapOps tag = some o → o.done = false → (o.partner = true → o.confirmed = true) →
     o.cut ≤ s.beat → t = (List.zip o.volumes o.ids).foldl (snapCut o.cut) s →
     u = (match o.rel with | some k => t.relCut k (o.ids.headD 0) | none => t) →
     exec (.snapshotCut tag) s = .next ({ u with mp.snapOps := tPut u.mp.snapOps tag { o with done := true } }.settle)) ∧
  (∀ (s : State) (tag : Nat) (o : SnapOp), tGet? s.mp.snapOps tag = some o → o.done = true →
     o.cut + s.act Reg.MAPX_MAP_CFG_SNAP_PAUSE ≤ s.beat →
     exec (.snapPauseEnd tag) s = .next ({ s with mp.snapOps := tPut s.mp.snapOps tag { o with volumes := [] } }.snapEval)) ∧
  (∀ (s t : State) (snapshot : Nat) (x : Snapshot), tGet? s.mp.snaps snapshot = some x → x.deleting = true → s.hasClone snapshot = false →
     s.ownsVol x.volume = true →
     t = { s with mp.snaps := tDel s.mp.snaps snapshot }.journalCtl [⟨0x06, [2, snapshot, x.volume, 0, x.gen, x.root, 0, x.beat]⟩] →
     exec (.snapshotDeleteRun snapshot) s =
       .next ((t.freePages ((s.treePages x.root).filter (fun k => ((s.page? k).map (fun (y : Page) => decide (s.olderGen snapshot x.volume x.gen < y.birth))).getD false
         && !(s.treePages (s.newerRoot snapshot x.volume x.gen)).contains k))).settle)) ∧
  (∀ (s : State) (volume : BitVec 16) (grain : BitVec 36) (x : Volume) (n l : Nat), s.vol? volume.toNat = some x →
     s.homeOf volume.toNat (leafOf grain.toNat) = some n →
     (s.leafDir volume.toNat (leafOf grain.toNat) = some l → exec (.bobbinLookup volume grain) s =
       .next (s.bobLookup n volume.toNat l (grain.toNat % 64 / 8) true)) ∧
     (s.leafDir volume.toNat (leafOf grain.toNat) = none → s.findLeaf (leafOf grain.toNat) 10 x.root = some l →
       exec (.bobbinLookup volume grain) s = .next (s.bobLookup n volume.toNat l (grain.toNat % 64 / 8) false))) ∧
  (∀ (s t : State) (dpc : Fin 18) (volume : BitVec 16) (page : Nat) (sector : Fin 8) (b : Bobbin) (m : Nat × Nat × Nat × Nat) (left : Nat)
     (waits : List (Nat × Nat × Nat × Nat)), b = s.bob dpc.val → s.isResident page = true →
     b.miss.find? (fun e => e.1 == volume.toNat && e.2.1 == page && hasSector e.2.2.1 sector.val) = some m → left = dropSector m.2.2.1 sector.val →
     waits = b.late.filter (fun e => e.1 == volume.toNat && e.2.1 == page && e.2.2.1 == sector.val) →
     t = s.setBob dpc.val { s.bobFilled dpc.val volume.toNat page sector.val b with
       miss := if left = 0 then b.miss.filter (fun x => x != m) else b.miss.map (fun x => if x = m then (x.1, x.2.1, left, x.2.2.2) else x)
       late := b.late.filter (fun e => !waits.contains e) } →
     exec (.bobbinFillLand dpc volume page sector) s =
       .next ((waits.foldl (fun (x : State) w => x.bobMerge dpc.val volume.toNat page w.2.2.2) t).bobResume dpc.val)) ∧
  (∀ (s : State) (dpc : Fin 18) (b : Bobbin), b = s.bob dpc.val →
     (∀ e, b.merge.head? = some e → e.since + s.act (Reg.DPC_BOBBIN_CFG_DRAIN_NS dpc.val) ≤ s.now →
       exec (.mergeDrainTimeout dpc) s = .next ((s.setBob dpc.val { b with merge := b.merge.tail }).bobCnt dpc.val 6)) ∧
     (b.merge ≠ [] → s.act (Reg.DPC_BOBBIN_CFG_DRAIN_AT dpc.val) ≤ b.merge.length →
       exec (.mergeBufferDrain dpc) s = .next ((s.setBob dpc.val { b with merge := b.merge.tail }).bobCnt dpc.val 6)) ∧
     (b.merge = [] → exec (.mergeDrainTimeout dpc) s = .next s)) ∧
  (∀ (s : State) (tag grain chunk tenant fpCheck : Nat) (e : Chunk), s.linkUp = true → s.chunk? chunk = some e →
     (s.chunkUsable chunk = true → s.keepsPool (poolOf chunk) = true → e.tenant = tenant → e.fpCheck = fpCheck →
       exec (.keeperConfirmReq tag grain chunk tenant fpCheck) s =
         .next ({ s.countUp chunk 1 with mp.confirmed := s.mp.confirmed ++ [chunk] }.sendMsg 0x0206 [tag, grain, 1])) ∧
     ((s.chunkUsable chunk = false ∨ s.keepsPool (poolOf chunk) = false ∨ e.tenant ≠ tenant ∨ e.fpCheck ≠ fpCheck) →
       exec (.keeperConfirmReq tag grain chunk tenant fpCheck) s = .next (s.sendMsg 0x0206 [tag, grain, 0]))) ∧
  (∀ (s : State) (tag grain chunk tenant fpCheck : Nat), s.linkUp = true → s.chunk? chunk = none →
     exec (.keeperConfirmReq tag grain chunk tenant fpCheck) s = .next (s.sendMsg 0x0206 [tag, grain, 0])) ∧
  (∀ (s : State) (cmd grain k : Nat) (c : HCmd) (l : Lookup), lookupAt? s cmd grain = some (c, l) → l.confirm = some k →
     exec (.keeperConfirm cmd grain true) s = .next (s.lookupUse cmd c l k false) ∧
     exec (.keeperConfirm cmd grain false) s = .next (((s.bump Reg.MAPX_CONFIRM_FAIL_CNT 1).bump Reg.MAPX_MISS_CNT 1).lookupStore cmd l))

/-- Victim scoring drops the drained, keeps the victims of orders 1 to 5 and those of order 6 already taken, and queues every closed
segment of this head that has a score at order 6, best first. Collection takes the head victim: it issues the reads of its live units
if none is out, moves what it can, spends the debt units of the bytes moved and drops the victim when it is empty; a victim whose
segment is gone or in no state to be collected is dropped. A live delta of an own segment is subtracted. The lost extents found are
posted as far as the queue has room. The rebuild of the segment whose turn it is issues its reads, takes it as a victim and moves its
forms. A request to clear a segment is kept until the booked reads are done, and its answer noted. A drained segment, or a VAULT
segment whose dump is consumed, is erased when no reads are booked on it and, where a partner must clear it, has; else the delay is
counted. -/
def Obligations.MediaBackgroundCommandsComplete : Prop :=
  (∀ (s t : State) (l : List (Nat × Nat × Nat)), t = s.drain →
     l = t.md.segs.filterMap (fun (e : Nat × Seg) =>
       if e.2.st == .closed && t.ownSeg e.1 then (t.scoreOf e.2).map (fun x => (e.1, x)) else none) →
     exec .victimScoring s = .next (({ t with
       md.victims := t.md.victims.filter (fun (v : Victim) => v.order != 6 || (match t.seg? v.seg with | some g => g.st == SegState.victim | none => false))
         ++ (sortScores l).map (fun id => (⟨6, id, none, 0⟩ : Victim))
       }.mediaShow).stripeEval.patrolCheck)) ∧
  (∀ (s t u w : State) (damaged lost : List Nat) (v : Victim) (g : Seg) (r : State × Bool), s.serving = true →
     s.headVictim = some v → s.seg? v.seg = some g →
     (g.st = .closed ∨ g.st = .victim ∨ (v.member.isSome = true ∧ g.st = .opened)) → t = s.victimTaken v g →
     u = (if t.readsOut v.seg v.member then t else t.readLive v.seg v.member) →
     r = u.emptySegment v.seg g v.member damaged lost →
     w = r.1.spendDebts (formsBytes (s.liveForms v.seg v.member) - formsBytes (r.1.liveForms v.seg v.member)) →
     exec (.collectVictim damaged lost) s = .next (if r.2 then w.dropVictim v else w).settle) ∧
  (∀ (s : State) (damaged lost : List Nat) (v : Victim) (g : Seg), s.serving = true →
     (s.headVictim = none → exec (.collectVictim damaged lost) s = .next s) ∧
     (s.headVictim = some v → s.seg? v.seg = none → exec (.collectVictim damaged lost) s = .next (s.dropVictim v)) ∧
     (s.headVictim = some v → s.seg? v.seg = some g → g.st ≠ .closed → g.st ≠ .victim → (g.st = .opened → v.member = none) →
       exec (.collectVictim damaged lost) s = .next (s.dropVictim v))) ∧
  (∀ (s : State) (segment chunk bytes : Nat), s.linkUp = true → s.ownSeg segment = true →
     exec (.liveDelta segment chunk bytes) s = .next (s.liveSub segment bytes)) ∧
  (∀ (s : State) (x : Nat × Nat × Nat) (l : List (Nat × Nat × Nat)),
     (s.md.lostChunks = [] → exec .lostExtentSearch s = .next s) ∧
     (s.md.lostChunks = x :: l → s.extentRoom = false → exec .lostExtentSearch s = .next s) ∧
     (s.md.lostChunks = x :: l → s.extentRoom = true →
       exec .lostExtentSearch s = .next (searchAll l { s.searchLost x with md.lostChunks := s.md.lostChunks.tail }))) ∧
  (∀ (s t : State) (segment a : Nat) (g : Seg) (lost : RebuildRead), s.serving = true → s.rebuildTurn segment = some (segment, g, a) →
     t = (if g.st = .victim then s else s.readLive segment none).runsDrop g lost.runs →
     exec (.rebuildSegment segment lost) s =
       .next ((((t.modSeg segment (fun x => { x with st := .victim })).emptySegment segment g none lost.damaged
         (s.unreadForms segment lost)).1.settle).stripeEval)) ∧
  (∀ (s : State) (segment : Nat), s.linkUp = true →
     exec (.eraseClearReq segment) s = .next ({ s with md.clearReqs := s.md.clearReqs ++ [segment] }.clearEval) ∧
     exec (.eraseClearAns segment) s = .next (s.modSeg segment (fun g => { g with clear := true }))) ∧
  (∀ (s : State) (segment : Nat) (g : Seg) (vault : Bool), s.seg? segment = some g → s.ownSeg segment = true →
     s.nv.tenants.any (fun e => e.2.san.held.contains segment) = false → g.erasing = [] →
     vault = (g.type == 6 && g.st == .reserved && !s.dumpHeld g.area && g.nextRow != 0) →
     (g.st = .drained ∨ vault = true) → s.movesPending g = false →
     (s.readsBooked segment = true → exec (.segmentErase segment) s = .next (s.mediaCnt 13 1)) ∧
     (s.readsBooked segment = false → s.paired = true → g.clear = false → vault = false → exec (.segmentErase segment) s =
       .next ((s.sendMsg 0x0006 [segment]).mediaCnt 13 1)) ∧
     (s.readsBooked segment = false → (s.paired = false ∨ g.clear = true ∨ vault = true) →
       exec (.segmentErase segment) s = .next (s.eraseMembers segment g)))

/-- A serving head's patrol reads the next unit: it is counted, what the read showed is acted on and the position moves by one. With
no unit left, the pass is shown; the next begins only when the days that this one took as its own are over. A tag that does not
match makes its module non-conforming. The rebuild status gives the bytes that remain and the time that they take at the pace of the
last figure. Capacity figures of the partner are kept; a recomputation sets the seven capacities from both heads' figures, reports
90% and 100% once, and sends the own figures to a partner. A segment query fills the three data registers, zeros for a segment or a
member that there is not. -/
def Obligations.PatrolCapacityAndQueryCommandsComplete : Prop :=
  (∀ (s : State) (live metadata free reserved : Nat), s.linkUp = true →
     exec (.capReport live metadata free reserved) s = .next { s with md.partner := (live, metadata, free, reserved) }) ∧
  (∀ (s t : State) (result : PatrolRead) (o : State → State), s.serving = true →
     t = (if s.fld (Reg.MEDIA_PATROL_STATUS_PASS 0) = 0 then s.passBegin else s) →
     o = (fun (x : State) => match s.badTagOf result with | some k => x.nonConform k 6 | none => x) →
     (t.patrolNext = none → exec (.patrolUnit result) s = .next (o (if t.passOver then t.passBegin else t).patrolShow)) ∧
     (∀ id row m g u, t.patrolNext = some (id, row, m) → t.seg? id = some g →
       u = ((if t.md.patrolAt.1 != id then t.wearTest id g else t).mediaCnt 10 1).patrolFind id row m g result →
       exec (.patrolUnit result) s =
         .next (o ({ u with md.patrolAt := (id, row, m + 1), md.patrolPos := u.md.patrolPos + 1 }).patrolShow))) ∧
  (∀ (s : State) (n eta : Nat), n = (s.stripes.filter (fun x => x.2.2 == 1 || x.2.2 == 2)).foldl (fun k x => k + x.2.1.live) 0 →
     eta = (if n = 0 then 0
       else match s.md.lastRemain with
         | some r => if n < r then min 0xFFFFFFFF (ceilDiv (n * 10) (r - n)) else 0xFFFFFFFF
         | none => 0xFFFFFFFF) →
     exec .rebuildStatusPublish s =
       .next (({ s with md.lastRemain := if n = 0 then none else some n }.setFld Reg.SEGW_REBUILD_STATUS_REMAIN_GIB (n / 2 ^ 30)).setFld
         Reg.SEGW_REBUILD_STATUS_ETA_S eta)) ∧
  (∀ (s t : State) (media : Fin 2) (segment : BitVec 24) (member : BitVec 5), s.accepts (Reg.MEDIA_SEG_CMD media.val) →
     t = (s.setFld (Reg.MEDIA_SEG_CMD_SEGMENT media.val) segment.toNat).setFld (Reg.MEDIA_SEG_CMD_MEMBER media.val) member.toNat →
     (s.seg? segment.toNat = none → exec (.segmentQuery media segment member) s =
       .next (((t.setReg (Reg.MEDIA_SEG_DATA0 media.val) 0).setReg (Reg.MEDIA_SEG_DATA1 media.val) 0).setReg (Reg.MEDIA_SEG_DATA2 media.val) 0)) ∧
     (∀ g u, s.seg? segment.toNat = some g →
       u = ((((((t.setFld (Reg.MEDIA_SEG_DATA0_LIVE32 media.val) (g.live / 32)).setFld (Reg.MEDIA_SEG_DATA0_LAST_ROW media.val) (g.durable - 1)).setFld
         (Reg.MEDIA_SEG_DATA0_WIDTH media.val) g.width).setFld (Reg.MEDIA_SEG_DATA0_TYPE media.val) g.type).setFld
         (Reg.MEDIA_SEG_DATA0_STATE media.val) (segCode g.st)).setReg (Reg.MEDIA_SEG_DATA1 media.val) (BitVec.ofNat 64 g.seq)) →
       (g.members[member.toNat]? = none → exec (.segmentQuery media segment member) s =
         .next (u.setReg (Reg.MEDIA_SEG_DATA2 media.val) 0)) ∧
       (∀ m, g.members[member.toNat]? = some m → exec (.segmentQuery media segment member) s =
         .next (((((u.setFld (Reg.MEDIA_SEG_DATA2_BLK_STATE media.val) (blkCode (s.blkOf (blkKey m.1 m.2.1 m.2.2)).st)).setFld
           (Reg.MEDIA_SEG_DATA2_ERASES media.val) (s.blkOf (blkKey m.1 m.2.1 m.2.2)).erases).setFld (Reg.MEDIA_SEG_DATA2_BLOCK media.val) m.2.2).setFld
           (Reg.MEDIA_SEG_DATA2_DIE media.val) m.2.1).setFld (Reg.MEDIA_SEG_DATA2_MODULE media.val) m.1)))) ∧
  (∀ (s t u : State) (o p : Nat × Nat × Nat × Nat) (w raw data usable free live mt : Nat) (full past : Bool), o = s.capOwn →
     p = (if s.solo then (0, 0, 0, 0) else s.md.partner) →
     w = s.mediaWidth → raw = s.modulesIn.foldl (fun n k => n + s.rawOf k) 0 →
     data = (raw - (o.2.2.2 + p.2.2.2)) * (w - 2) / w → usable = data * (100 - s.act (Reg.MEDIA_CFG_OP_PCT s.mediaActive)) / 100 →
     free = (o.2.2.1 + p.2.2.1) * (w - 2) / w → live = o.1 + p.1 → mt = o.2.1 + p.2.1 →
     full = decide (90 * usable < 100 * (live + mt)) → past = decide (usable < live + mt) →
     t = ((((((((s.capSet Reg.MEDIA_CAP_RAW raw).capSet Reg.MEDIA_CAP_RES (o.2.2.2 + p.2.2.2)).capSet Reg.MEDIA_CAP_DATA data).capSet
       Reg.MEDIA_CAP_USABLE usable).capSet Reg.MEDIA_CAP_FREE free).capSet Reg.MEDIA_CAP_LIVE live).capSet Reg.MEDIA_CAP_META mt).loomSet
       Reg.LOOM_GC_STATE_FREE_PM (if data = 0 then 0 else 1000 * free / data)) →
     (∀ v, u = (if full && !t.md.cap90 then t.event 0x0501 (Reg.MEDIA_PAGE t.mediaActive) 0 0 else t) →
       v = { (if past && !u.md.cap100 then u.event 0x0501 (Reg.MEDIA_PAGE u.mediaActive) 0 0 else u) with md.cap90 := full, md.cap100 := past } →
       exec .capacityRecompute s = .next (if v.paired then v.sendMsg 0x000C [o.1, o.2.1, o.2.2.1, o.2.2.2] else v)))

/-- A completion takes its command off the port. A good read tests its member for a marginal margin and delivers; a failed one counts
UNCORRECTABLE or DMA_ERROR and goes to the rebuild. A program or erase ends well with OK; FENCED is counted and fences, DMA_ERROR is
counted, ABORTED is not, and none of the three retires the block, which every other status does. A tag answer settles the block or the
unit asked for. Compare-and-swap answers the prior word. A geometry in order is kept and the claim asked; one out of order makes the
module non-conforming, and a failed one is asked again. Defects become bad blocks; a health page whose CRC holds gives its figures, and
dies newly failed lose their blocks; budget and suspend are noted; failed, these four change nothing. An unknown command or status is
non-conforming. A timeout is counted; the third in a second loses the port, else the command ends as its opcode says. A late read is
counted and rebuilt. A held compare-and-swap is issued again. -/
def Obligations.MediaQueueCommandsComplete : Prop :=
  (∀ (s t : State) (done : MqpDone) (c : MqpCmd) (duration lim : Nat), s.mqpDone done c t →
     lim = (((t.module done.port.val).geom).map (fun (g : Geometry) => g.maxRead)).getD 0 →
     (done.status = 0 → exec (.readUnitComplete done duration) s =
       .next ((((t.memberAt done.port.val c c.arg2).foldl
         (fun (u : State) x => u.readMarginal x.1 x.2 done.corrected.toNat done.retry.toNat) t).readGood c).overrun done.port.val duration lim)) ∧
     (done.status = 0x10 → exec (.readUnitComplete done duration) s =
       .next (((t.bump (Reg.MODP_CNT done.port.val 7) 1).readFailed done.port.val c).overrun done.port.val duration lim)) ∧
     (done.status = 0x30 → exec (.readUnitComplete done duration) s =
       .next (((t.bump (Reg.MODP_CNT done.port.val 6) 1).readFailed done.port.val c).overrun done.port.val duration lim)) ∧
     (done.status ≠ 0 → done.status ≠ 0x10 → done.status ≠ 0x30 → exec (.readUnitComplete done duration) s =
       .next ((t.readFailed done.port.val c).overrun done.port.val duration lim))) ∧
  (∀ (s t : State) (done : MqpDone) (c : MqpCmd) (duration lim : Nat), s.mqpDone done c t →
     lim = (((t.module done.port.val).geom).map (fun (g : Geometry) => g.maxProgram)).getD 0 →
     (done.status = 0 → exec (.programUnitComplete done duration) s =
       .next ((t.programEnd done.port.val c true false).overrun done.port.val duration lim)) ∧
     (done.status = 0x20 → exec (.programUnitComplete done duration) s =
       .next (((t.bump (Reg.MODP_CNT done.port.val 2) 1).programEnd done.port.val c false false).fencedBy done.port.val)) ∧
     (done.status = 0x30 → exec (.programUnitComplete done duration) s =
       .next ((t.bump (Reg.MODP_CNT done.port.val 6) 1).programEnd done.port.val c false false)) ∧
     (done.status = 0x31 → exec (.programUnitComplete done duration) s = .next (t.programEnd done.port.val c false false)) ∧
     (done.status ≠ 0 → done.status ≠ 0x20 → done.status ≠ 0x30 → done.status ≠ 0x31 → exec (.programUnitComplete done duration) s =
       .next ((t.programEnd done.port.val c false true).overrun done.port.val duration lim))) ∧
  (∀ (s t : State) (done : MqpDone) (c : MqpCmd) (duration lim : Nat), s.mqpDone done c t →
     lim = (((t.module done.port.val).geom).map (fun (g : Geometry) => g.maxErase)).getD 0 →
     (done.status = 0 → exec (.eraseBlockComplete done duration) s =
       .next ((t.eraseEnd done.port.val c true).overrun done.port.val duration lim)) ∧
     (done.status = 0x20 → exec (.eraseBlockComplete done duration) s =
       .next ((t.bump (Reg.MODP_CNT done.port.val 2) 1).fencedBy done.port.val)) ∧
     (done.status = 0x30 → exec (.eraseBlockComplete done duration) s = .next (t.bump (Reg.MODP_CNT done.port.val 6) 1)) ∧
     (done.status = 0x31 → exec (.eraseBlockComplete done duration) s = .next t) ∧
     (done.status ≠ 0 → done.status ≠ 0x20 → done.status ≠ 0x30 → done.status ≠ 0x31 → exec (.eraseBlockComplete done duration) s =
       .next ((t.eraseEnd done.port.val c false).overrun done.port.val duration lim))) ∧
  (∀ (s t : State) (done : MqpDone) (c : MqpCmd) (duration : Nat) (tag : Option TagInfo), s.mqpDone done c t →
     exec (.readTagComplete done duration tag) s =
       .next (((t.tagDone done.port.val c (done.status == 6) (if done.status = 0 then tag else none)).overrun done.port.val duration
         ((((t.module done.port.val).geom).map (fun (g : Geometry) => g.maxRead)).getD 0)).tagNext done.port.val)) ∧
  (∀ (s t : State) (done : MqpDone) (duration : Nat) (tag : Option TagInfo) (prior : Word) (g : Geometry) (bad : List (BitVec 16))
       (health : Health), t = s.nonConform done.port.val 3 → 3 ≤ s.svcState done.port.val → s.svcState done.port.val ≤ 5 →
     ((s.module done.port.val).cmds.find? (fun (x : MqpCmd) => x.queue == done.queue.val && x.cid == done.cid.toNat) = none ∨
       knownStatus done.status.toNat = false) →
     exec (.readUnitComplete done duration) s = .next t ∧ exec (.programUnitComplete done duration) s = .next t ∧
     exec (.eraseBlockComplete done duration) s = .next t ∧ exec (.readTagComplete done duration tag) s = .next t ∧
     exec (.arbCasComplete done prior) s = .next t ∧ exec (.getGeometryComplete done g) s = .next t ∧
     exec (.getDefectsComplete done bad) s = .next t ∧ exec (.getHealthComplete done health) s = .next t ∧
     exec (.setPowerBudgetComplete done) s = .next t ∧ exec (.suspendPolicyComplete done) s = .next t) ∧
  (∀ (s t : State) (done : MqpDone) (c : MqpCmd) (prior : Word), s.mqpDone done c t →
     exec (.arbCasComplete done prior) s =
       .next ((if done.status = 0x21 then t.bump (Reg.MODP_CNT done.port.val 3) 1 else t).casAnswer done.port.val c (done.status == 0) prior)) ∧
  (∀ (s t : State) (done : MqpDone) (c : MqpCmd) (g : Geometry), s.mqpDone done c t →
     (done.status ≠ 0 → exec (.getGeometryComplete done g) s = .next (t.geomFailed done.port.val)) ∧
     (∀ cause, done.status = 0 → geomBad g = some cause → exec (.getGeometryComplete done g) s = .next (t.nonConform done.port.val cause)) ∧
     (done.status = 0 → geomBad g = none → exec (.getGeometryComplete done g) s =
       .next ((((t.modModule done.port.val (fun m => { m with geom := some g })).setFld (Reg.MODP_STATUS_DIES done.port.val) g.dies).setFld
         (Reg.MODP_STATUS_PORT_ID done.port.val) (g.portId % 2)).claimAsk done.port.val))) ∧
  (∀ (s t : State) (done : MqpDone) (c : MqpCmd) (bad : List (BitVec 16)) (health : Health), s.mqpDone done c t → done.status ≠ 0 →
     exec (.getDefectsComplete done bad) s = .next t ∧ exec (.getHealthComplete done health) s = .next t ∧
     exec (.setPowerBudgetComplete done) s = .next t ∧ exec (.suspendPolicyComplete done) s = .next t) ∧
  (∀ (s t : State) (done : MqpDone) (c : MqpCmd) (bad : List (BitVec 16)), s.mqpDone done c t → done.status = 0 →
     exec (.getDefectsComplete done bad) s =
       .next (((bad.foldl (fun (u : State) b => u.setBlkOf (blkKey done.port.val c.die b.toNat)
           { u.blkOf (blkKey done.port.val c.die b.toNat) with st := .bad }) t).modModule done.port.val
         (fun m => { m with defects := if m.defects.contains c.die then m.defects else m.defects ++ [c.die] })).nineEval done.port.val)) ∧
  (∀ (s t u : State) (done : MqpDone) (c : MqpCmd) (health : Health) (newly : Nat → Bool), s.mqpDone done c t →
     newly = (fun d => health.failedDies.getLsbD d && !(t.module done.port.val).failedDies.getLsbD d) →
     u = t.modModule done.port.val (fun m => { m with health := true, failedDies := health.failedDies, temp := health.temp, wear := health.wear }) →
     (done.status = 0 → health.crcOk = true → exec (.getHealthComplete done health) s =
       .next ((if u.inServiceM done.port.val && (List.range 64).any newly then
         (u.faultMark.blocksLost (fun m => m.1 == done.port.val && newly m.2.1)).restoreAreas else u).nineEval done.port.val)) ∧
     (health.crcOk = false → exec (.getHealthComplete done health) s = .next t)) ∧
  (∀ (s t : State) (done : MqpDone) (c : MqpCmd), s.mqpDone done c t → done.status = 0 →
     exec (.setPowerBudgetComplete done) s =
       .next ((t.modModule done.port.val (fun m => { m with budget := true })).nineEval done.port.val) ∧
     exec (.suspendPolicyComplete done) s =
       .next ((t.modModule done.port.val (fun m => { m with suspend := true })).nineEval done.port.val)) ∧
  (∀ (s t : State) (port : Fin 64) (queue : Fin 16) (cid : BitVec 16) (c : MqpCmd), 3 ≤ s.svcState port.val → s.svcState port.val ≤ 5 →
     (s.module port.val).cmds.find? (fun (x : MqpCmd) => x.queue == queue.val && x.cid == cid.toNat && x.op != 0) = some c →
     t = (s.bump (Reg.MODP_CNT port.val 1) 1).modModule port.val (fun m => { m with
       cmds := m.cmds.map (fun x => if x = c then { x with op := 0, use := .lease } else x)
       timeouts := m.timeouts.filter (fun t => decide (s.now ≤ t + 1000000000)) ++ [s.now] }) →
     (3 ≤ (t.module port.val).timeouts.length → exec (.mqpCommandTimeout port queue cid) s = .next (t.portLost port.val)) ∧
     ((t.module port.val).timeouts.length < 3 → c.op = 0x01 → exec (.mqpCommandTimeout port queue cid) s = .next (t.readFailed port.val c)) ∧
     ((t.module port.val).timeouts.length < 3 → c.op = 0x10 →
       exec (.mqpCommandTimeout port queue cid) s = .next (t.programEnd port.val c false true)) ∧
     ((t.module port.val).timeouts.length < 3 → c.op = 0x11 → exec (.mqpCommandTimeout port queue cid) s = .next (t.eraseEnd port.val c false)) ∧
     ((t.module port.val).timeouts.length < 3 → c.op = 0x02 →
       exec (.mqpCommandTimeout port queue cid) s = .next ((t.tagDone port.val c false none).tagNext port.val)) ∧
     ((t.module port.val).timeouts.length < 3 → c.op = 0x20 → exec (.mqpCommandTimeout port queue cid) s = .next (t.geomFailed port.val)) ∧
     ((t.module port.val).timeouts.length < 3 → c.op = 0x40 → (c.use = .init ∨ c.use = .claim) →
       exec (.mqpCommandTimeout port queue cid) s = .next (t.modModule port.val (fun m => { m with redo := some c }))) ∧
     ((t.module port.val).timeouts.length < 3 → c.op = 0x40 → c.use ≠ .init → c.use ≠ .claim →
       exec (.mqpCommandTimeout port queue cid) s = .next (t.leaseWordAnswer port.val c none)) ∧
     ((t.module port.val).timeouts.length < 3 → c.op ≠ 0x01 → c.op ≠ 0x02 → c.op ≠ 0x10 → c.op ≠ 0x11 → c.op ≠ 0x20 → c.op ≠ 0x40 →
       exec (.mqpCommandTimeout port queue cid) s = .next t)) ∧
  (∀ (s : State) (port : Fin 64) (queue : Fin 16) (cid : BitVec 16) (c : MqpCmd),
     (s.module port.val).cmds.find? (fun (x : MqpCmd) => x.queue == queue.val && x.cid == cid.toNat && x.op == 0x01) = some c →
     exec (.lateRead port queue cid) s =
       .next (((s.bump (Reg.MODP_CNT port.val 10) 1).modModule port.val (fun m => { m with
         cmds := m.cmds.map (fun x => if x = c then { x with use := .lease } else x) })).readFailed port.val c)) ∧
  (∀ (s : State) (port : Fin 64) (c : MqpCmd), (s.module port.val).redo = some c →
     (s.svcState port.val = 3 ∨ (c.use = .claim ∧ s.inServiceM port.val = true)) →
     exec (.arbCasReissue port) s =
       .next ((s.modModule port.val (fun m => { m with redo := none })).mqpIssue port.val 0x40 0 0 0 c.arg0 c.arg1 c.arg2 c.use))

/-- A chain frame samples its inputs behind the marker check, or forgets the samples when the chain is at fault, and drives each slot's
outputs. Power-good missing in time is a power fault, and fails a slot that is powering. PERST is released in the link state. A link that
trains in time takes the port to initialisation with its rate and width, the third timeout fails it, and one that trains again in service
keeps the port unless it has lost Flit mode. A module that is ready is asked for its geometry; its timeout is non-conforming. Lamps and
power are written. An attention press is recorded unless the chain is at fault. A module with no segments left is taken out. An absent module
that was initialising empties its slot; a lost port is counted and out. A faulty parity engine leaves the mask, its bookings are drafted
again, and the last one ends serving. -/
def Obligations.ModuleSlotAndPortCommandsComplete : Prop :=
  (∀ (s t u : State) (inputs : List (BitVec 8)) (marker : BitVec 8), s.chip.cond ≠ .reset → s.chip.mainPwrOk = true → t = s.chainMark marker →
     u = (if t.bit Reg.SLOT_STATUS_CHAIN_FAULT then (List.range 64).foldl (fun (x : State) k =>
         x.modModule k (fun m => { m with seenPresent := 0, seenGood := 0, seenFault := 0 })) t
       else (List.zip (List.range 64) inputs).foldl (fun (x : State) i => x.slotIn i.1 i.2) t) →
     exec (.slotChainFrame inputs marker) s =
       .next ((List.range 64).foldl (fun (x : State) k => x.emit (.slotByte k (x.slotOut k))) u)) ∧
  (∀ (s t : State) (port : Fin 64), t = (if (s.module port.val).pwren && !(s.module port.val).pwrGood then
       s.setBit (Reg.MODP_SLOT_CTRL_STS_POWER_FAULT port.val) true else s) →
     (s.svcState port.val = 1 → exec (.poweringTimeout port) s = .next (t.svcEnter port.val 10)) ∧
     (s.svcState port.val ≠ 1 → exec (.poweringTimeout port) s = .next t)) ∧
  (∀ (s t : State) (port : Fin 64) (rate64 wide : Bool), (s.module port.val).perstRel = true → s.svcState port.val = 2 →
     t = (s.setFld (Reg.MODP_STATUS_RATE port.val) (if rate64 then 6 else 5)).setFld (Reg.MODP_STATUS_WIDTH port.val) (if wide then 2 else 1) →
     exec (.moduleLinkTrained port rate64 wide true) s =
       .next ((t.setBit (Reg.MODP_SLOT_CTRL_STS_DLL_CHANGED port.val) true).svcEnter port.val 3)) ∧
  (∀ (s t : State) (port : Fin 64) (rate64 wide : Bool), s.inServiceM port.val = true →
     t = (s.setFld (Reg.MODP_STATUS_RATE port.val) (if rate64 then 6 else 5)).setFld (Reg.MODP_STATUS_WIDTH port.val) (if wide then 2 else 1) →
     exec (.moduleLinkTrained port rate64 wide true) s = .next t ∧
     exec (.moduleLinkTrained port rate64 wide false) s = .next (s.portLost port.val)) ∧
  (∀ (s t : State) (port : Fin 64), (s.module port.val).perstRel = true → s.svcState port.val = 2 →
     t = s.modModule port.val (fun m => { m with linkTries := m.linkTries + 1 }) →
     exec (.moduleLinkTimeout port) s = .next (if 3 ≤ (t.module port.val).linkTries then t.svcEnter port.val 10 else t)) ∧
  (∀ (s : State) (port : Fin 64), s.svcState port.val = 2 → s.chip.steps.contains 8 = true →
     exec (.perstReleaseDelay port) s = .next (s.modModule port.val (fun m => { m with perstRel := true }))) ∧
  (∀ (s : State) (port : Fin 64), s.svcState port.val = 3 →
     ((s.module port.val).geom = none → exec (.mqpReady port) s = .next (s.mqpIssue port.val 0x20 0 0 0 0 0 0 .init)) ∧
     exec (.moduleInitTimeout port) s = .next ((s.moduleOut port.val 8).event 0x0702 (Reg.MODP_PAGE port.val) (argWord [(0, port.val), (1, 9)]) 0)) ∧
  (∀ (s t : State) (port : Fin 64) (off : Bool), s.accepts (Reg.MODP_SLOT_CTRL_STS port.val) →
     t = s.setFld (Reg.MODP_SLOT_CTRL_STS_CTRL port.val) (withPower (s.slotCtrl port.val) off) →
     exec (.powerControllerControl port off) s =
       .next (if !off && t.svcState port.val = 0 && (t.module port.val).present then t.powerSlot port.val else t.pwrenEval port.val)) ∧
  (∀ (s : State) (port : Fin 64) (attention power : BitVec 2), s.accepts (Reg.MODP_SLOT_CTRL_STS port.val) →
     exec (.indicatorControl port attention power) s =
       .next (s.setFld (Reg.MODP_SLOT_CTRL_STS_CTRL port.val) (withLamps (s.slotCtrl port.val) attention.toNat power.toNat))) ∧
  (∀ (s : State) (slot : Fin 64), s.bit Reg.SLOT_STATUS_CHAIN_FAULT = false →
     exec (.attentionButton slot) s = .next (s.setBit (Reg.MODP_SLOT_CTRL_STS_ATTN_PRESSED slot.val) true)) ∧
  (∀ (s t : State) (port : Fin 64), s.svcState port.val = 5 →
     s.md.segs.any (fun (e : Nat × Seg) => s.ownSeg e.1 && e.2.members.any (fun m => m.1 == port.val)) = false →
     t = (s.svcEnter port.val 6).sendBudgets →
     exec (.moduleEvacuated port) s = .next (if t.role = 3 then t.memberCtl [] [port.val] else t)) ∧
  (∀ (s : State) (port : Fin 64) (cause : PortLoss),
     (cause = .absent → s.svcState port.val = 3 → exec (.modulePortLoss port cause) s = .next (s.slotEmpty port.val)) ∧
     (∀ t, 3 ≤ s.svcState port.val → s.svcState port.val ≤ 5 → (cause ≠ .absent ∨ s.svcState port.val ≠ 3) →
       t = (if s.inServiceM port.val then s.faultMark else s) → t.svcState port.val = s.svcState port.val →
       exec (.modulePortLoss port cause) s =
         .next ((((t.bump (Reg.MODP_CNT port.val 5) 1).linkOff port.val).setBit (Reg.MODP_SLOT_CTRL_STS_DLL_CHANGED port.val) true).moduleGone
           port.val 7))) ∧
  (∀ (s t : State) (engine : Fin 4), s.fld Reg.SEGW_ENGINES_ACTIVE / 2 ^ engine.val % 2 ≠ 0 →
     t = ((((s.setFld Reg.SEGW_ENGINES_ACTIVE (s.fld Reg.SEGW_ENGINES_ACTIVE - 2 ^ engine.val)).event 0x0605 Reg.SEGW_PAGE
       (argWord [(0, engine.val)]) 0).faultMark.redraft (fun (b : Booking) => b.res == .parity engine.val)).swapFault) →
     (s.fld Reg.SEGW_ENGINES_ACTIVE ≠ 2 ^ engine.val → exec (.parityEngineFault engine) s = .next t) ∧
     (s.fld Reg.SEGW_ENGINES_ACTIVE = 2 ^ engine.val → exec (.parityEngineFault engine) s =
       .next ({ t.dropHosts with chip.cond := if t.chip.cond = Cond.serving then Cond.booting else t.chip.cond, chip.hbOut := false }.setBit
         Reg.DIKOR_STATUS_HB_OUT_ON false)))

/-- Training starts from DISABLED, DOWN or ABSENT and walks its states on the quads that complete, and fails where fewer than three are
left; a failed attempt is counted and tried again, the third goes to ABSENT. An identity that conforms takes the link to CREDIT with the
array's indexes; another is refused with its cause. A good flit acknowledges, returns credit, replays on NAK and delivers in sequence; a
bad one is counted. A replay sends every unacknowledged flit, unless the link is narrowing; after the fourth the worst quad is dropped. A
lost quad narrows the link, below three quads it is down. Width sets take the AND of both masks. A quad that has trained alone returns, or
waits for its turn. Heartbeat loss, its return, the partner's hold-up and the expired wait give their indications. -/
def Obligations.DikorLinkCommandsComplete : Prop :=
  (∀ s : State, s.mayTrain = true → (s.lstate = 0 ∨ s.lstate = 9 ∨ s.lstate = 10) →
     exec .trainingAttempt s = .next ({ s with dk.cand := 0, dk.failed := !s.dk.prsnt }.setLink 1) ∧
     (s.lstate = 9 → exec .linkRetryTimer s = .next ({ s with dk.cand := 0, dk.failed := !s.dk.prsnt }.setLink 1)) ∧
     (s.lstate = 10 → exec .absentRetryTimer s = .next ({ s with dk.cand := 0, dk.failed := !s.dk.prsnt }.setLink 1))) ∧
  (∀ (s : State) (quads : BitVec 6) (c d : Nat), s.dk.failed = false → c = quads.toNat &&& s.act Reg.DIKOR_CFG_QUAD_EN → d = s.dk.cand &&& quads.toNat →
     (s.lstate = 1 → s.dk.prsnt = true → 3 ≤ popcount c → exec (.trainingStateComplete quads) s = .next ({ s with dk.cand := c }.setLink 2)) ∧
     (s.lstate = 1 → s.dk.prsnt = false ∨ popcount c < 3 → exec (.trainingStateComplete quads) s = .next s) ∧
     (s.lstate = 2 → exec (.trainingStateComplete quads) s = .next (s.setLink 3)) ∧
     (s.lstate = 3 → 3 ≤ popcount d → exec (.trainingStateComplete quads) s = .next ({ s with dk.cand := d }.setLink 4)) ∧
     (s.lstate = 3 → popcount d < 3 → exec (.trainingStateComplete quads) s = .next { s with dk.cand := d, dk.failed := true }) ∧
     (s.lstate = 4 → 3 ≤ popcount d → exec (.trainingStateComplete quads) s =
       .next (({ s with dk.cand := d, dk.txNext := 0, dk.rxNext := 0, dk.unacked := [], dk.replays := 0, dk.nak := false, dk.parts := [] }.setLink
         5).sendIdentity)) ∧
     (s.lstate = 4 → popcount d < 3 → exec (.trainingStateComplete quads) s = .next { s with dk.cand := d, dk.failed := true }) ∧
     (s.lstate = 6 → exec (.trainingStateComplete quads) s = .next s.linkIsUp)) ∧
  (∀ (s t : State), 1 ≤ s.lstate → s.lstate ≤ 6 → t = (s.bump (Reg.DIKOR_CNT 11) 1).bumpFld Reg.DIKOR_STATUS_ATTEMPTS 1 →
     exec .trainingAttemptTimeout s = .next (if 3 ≤ t.fld Reg.DIKOR_STATUS_ATTEMPTS then t.enterAbsent else (t.setLink 0).trainStart)) ∧
  (∀ (s t u v q z : State) (d : DkIdentity) (idx : Nat) (differ : Bool), s.lstate = 5 → s.dk.failed = false →
     t = (((((s.setReg Reg.DIKOR_PARTNER_UID_LO (d.uid.setWidth 64)).setReg Reg.DIKOR_PARTNER_UID_HI ((d.uid >>> 64).setWidth 64)).setFld
         Reg.DIKOR_PARTNER_ARRAY_ARRAY d.array.toNat).setFld Reg.DIKOR_STATUS_PARTNER_ROLE d.role.toNat).setFld
         Reg.DIKOR_STATUS_PARTNER_INDEX (if d.index.toNat < 2 then d.index.toNat else 3)) →
     (∀ c, c ≠ 0 → t.refuseCause d = c → exec (.identity d) s =
       .next ((((t.setFld Reg.DIKOR_STATUS_REFUSE_CAUSE c).setBit Reg.DIKOR_STATUS_ABSENT true).setLink 11).event 0x0802 Reg.DIKOR_PAGE
         (argWord [(0, c)]) 0)) ∧
     (t.refuseCause d = 0 → idx = t.indexAfter d →
       u = ((t.setFld Reg.DIKOR_STATUS_HEAD_INDEX idx).setFld Reg.DIKOR_STATUS_PARTNER_INDEX (1 - idx % 2)) →
       v = u.setBit Reg.DIKOR_STATUS_LEADER (u.leads d.role.toNat idx) →
       differ = (v.act Reg.SELV_CFG_OWN_GIB != d.mirrorGib.toNat || v.act Reg.SELV_CFG_MIRROR_GIB != d.ownGib.toNat) →
       q = (if differ then v.stick Reg.SELV_PAGE 1 else v) → z = { q with dk.sizesDiffer := differ }.timeStep d.now →
       exec (.identity d) s = .next (if !z.dk.passed then (({ z with dk.passed := true }.setLink 6).hbEval).stepDone 11
         else { z with dk.passed := true }.setLink 6))) ∧
  (∀ (s t u : State) (f : Flit), s.linkUp = true →
     (f.crcOk = false → f.kind = 1 → exec (.flitReceive f) s = .next (s.bump (Reg.DIKOR_CNT 2) 1).dkNakSet) ∧
     (f.crcOk = false → f.kind ≠ 1 → exec (.flitReceive f) s = .next (s.bump (Reg.DIKOR_CNT 2) 1)) ∧
     (f.crcOk = true → t = (s.dkAck f.ack.toNat).dkCredit f.crClass.val f.crTotal.toNat →
       u = (if f.nak then (t.bump (Reg.DIKOR_CNT 3) 1).dkReplay else t) → exec (.flitReceive f) s =
       .next (dkPump 512 (if f.kind = 1 then (if f.seq.toNat = u.dk.rxNext then u.dkData f else u.dkNakSet) else u)))) ∧
  (∀ (s t : State) (sent : Nat) (skew : BitVec 32), s.linkUp = true → 
     t = { s with dk.lastSync := sent }.setReg Reg.TIME_PARTNER_SKEW (skew.signExtend 64) →
     ((t.bit Reg.DIKOR_STATUS_LEADER = true ∨ t.fld Reg.TIME_CTRL_SRC < 2) → exec (.syncFlit sent skew) s = .next t) ∧
     (t.bit Reg.DIKOR_STATUS_LEADER = false → 2 ≤ t.fld Reg.TIME_CTRL_SRC → exec (.syncFlit sent skew) s =
       .next (t.draw.2.setFld Reg.TIME_RATE_ADJ_PPB (fixApply 32 ((Config.openWord t.draw.1).toNat % 2 ^ 32) (.clampSigned 500000))))) ∧
  (∀ (s : State) (f : Nat × Nat) (rest : List (Nat × Nat)), s.linkUp = true →
     (s.dk.nak = true → exec .nakRepeat s = .next (s.emit (.dkNak s.dk.rxNext))) ∧
     (s.lstate = 8 → exec .replayTimeout s = .next s) ∧
     (s.lstate ≠ 8 → s.dk.unacked = f :: rest → exec .replayTimeout s =
       .next (({ s with dk.replays := s.dk.replays + 1 }.bump (Reg.DIKOR_CNT 4) (rest.length + 1)).emit (.dkReplay f.1 (rest.length + 1)))) ∧
     (s.dk.unacked = [] → exec .replayTimeout s = .next s)) ∧
  (∀ (s t u : State) (quad : Fin 6) (mask : Nat), s.linkUp = true → mask = s.dk.named.getD (s.fld Reg.DIKOR_STATUS_QUAD_MASK) →
     mask / 2 ^ quad.val % 2 = 1 → u = s.secondFault.swapFault → mask = u.dk.named.getD (u.fld Reg.DIKOR_STATUS_QUAD_MASK) →
     t = { u with
       dk.back := u.dk.back.filter (fun x => x != quad.val)
       dk.returned := u.dk.returned.filter (fun (r : Nat × Nat) => r.1 != quad.val)
       dk.leftOut := if s.dk.returned.any (fun (r : Nat × Nat) => r.1 == quad.val && decide (s.now ≤ r.2 + 10000000000)) && s.dk.leftOut / 2 ^ quad.val % 2 = 0
         then s.dk.leftOut + 2 ^ quad.val else s.dk.leftOut } →
     (popcount (mask - 2 ^ quad.val) < 3 → exec (.quadLoss quad) s = .next t.linkDown) ∧
     (3 ≤ popcount (mask - 2 ^ quad.val) → exec (.quadLoss quad) s =
       .next (({ t with dk.named := some (mask - 2 ^ quad.val), dk.stopped := if t.lstate = 8 then t.dk.stopped else t.now }.setLink 8).emit
         (.dkWidth (mask - 2 ^ quad.val)))) ∧
     (∀ errors, 4 ≤ s.dk.replays → s.worstQuad errors = some quad.val → 3 ≤ popcount (mask - 2 ^ quad.val) → exec (.replayLimitQuadDrop errors) s =
       .next (({ t with dk.named := some (mask - 2 ^ quad.val), dk.stopped := if t.lstate = 8 then t.dk.stopped else t.now }.setLink 8).emit
         (.dkWidth (mask - 2 ^ quad.val))))) ∧
  (∀ (s : State) (mask : BitVec 6), s.linkUp = true →
     (popcount (s.dk.named.getD (s.fld Reg.DIKOR_STATUS_QUAD_MASK) &&& mask.toNat) < 3 → exec (.widthOrderedSet mask) s = .next s.linkDown) ∧
     (∀ cur mine new t u, cur = s.fld Reg.DIKOR_STATUS_QUAD_MASK → mine = s.dk.named.getD cur → new = mine &&& mask.toNat → 3 ≤ popcount new →
       t = (if s.dk.named.isNone && new != cur then s.emit (.dkWidth mine) else s) →
       u = (if popcount new < popcount cur then { t with loom.faultBeat := some t.beat }.bump (Reg.DIKOR_CNT 9) 1
         else if popcount cur < popcount new then t.bump (Reg.DIKOR_CNT 10) 1 else t) →
       exec (.widthOrderedSet mask) s = .next (dkPump 512 (((({ u with dk.named := none, dk.asked := u.dk.asked &&& (63 - new) }.setMask new).setLink
         7).dkReplay).extendAll (if t.lstate = 8 then min 32000 (t.now - t.dk.stopped) else 0))))) ∧
  (∀ (s : State) (quad : Fin 6) (mask m : Nat), s.lstate = 7 → mask = s.fld Reg.DIKOR_STATUS_QUAD_MASK → mask / 2 ^ quad.val % 2 = 0 →
     s.act Reg.DIKOR_CFG_QUAD_EN / 2 ^ quad.val % 2 = 1 → s.dk.leftOut / 2 ^ quad.val % 2 = 0 →
     (s.act Reg.DIKOR_CFG_WIDEN_AUTO = 1 ∨ s.dk.asked / 2 ^ quad.val % 2 = 1) → m = (mask ||| 2 ^ quad.val) →
     (s.changeFree = true → s.own.move = none → exec (.quadReturn quad) s =
       .next ({ s with dk.named := some m, dk.returned := s.dk.returned ++ [(quad.val, s.now)] }.emit (.dkWidth m))) ∧
     ((s.changeFree = false ∨ s.own.move.isSome = true) → exec (.quadReturn quad) s =
       .next { s with dk.back := s.dk.back.filter (fun x => x != quad.val) ++ [quad.val] })) ∧
  (∀ (s : State) (present : Bool),
     (present = true → s.dk.prsnt = false → s.lstate = 10 →
       exec (.partnerPresentChange present) s = .next ({ s with dk.prsnt := true } : State).trainStart) ∧
     (present = false → 1 ≤ s.lstate → s.lstate ≤ 6 →
       exec (.partnerPresentChange present) s = .next { s with dk.prsnt := false, dk.failed := true }) ∧
     (present = true → (s.dk.prsnt = true ∨ s.lstate ≠ 10) →
       exec (.partnerPresentChange present) s = .next { s with dk.prsnt := true }) ∧
     (present = false → (s.lstate = 0 ∨ 7 ≤ s.lstate) → exec (.partnerPresentChange present) s = .next { s with dk.prsnt := false }) ∧
     (s.dk.prsnt = false → s.linkUp = true → exec .partnerAbsentTimeout s = .next s.linkDown)) ∧
  (∀ (s t u : State) (edge : Nat) (flits : Bool), (s.bit Reg.DIKOR_STATUS_HB_IN_OK = true ∨ s.linkUp = true) →
     t = (s.setBit Reg.DIKOR_STATUS_HB_IN_OK false).bump (Reg.DIKOR_CNT 12) 1 → u = (if flits then t.event 0x0804 Reg.DIKOR_PAGE 0 0 else t) →
     exec (.heartbeatLoss edge flits) s = .next (u.indicate (u.now - edge))) ∧
  (∀ (s t : State), s.chip.cond ≠ .reset → s.bit Reg.DIKOR_STATUS_HB_IN_OK = false → t = s.setBit Reg.DIKOR_STATUS_HB_IN_OK true →
     exec .heartbeatRestored s = .next (if t.linkUp then t.indicate t.now else t)) ∧
  (∀ s : State, s.linkUp = true → s.chip.holdup = false → exec .holdup s = .next (s.indDead s.now)) ∧
  (∀ s : State, (s.dk.waitRunning = true → exec .partnerWaitExpiry s =
       .next (({ s with dk.waitRunning := false, dk.waitExpired := true }.setFld Reg.DIKOR_WAIT_LEFT_MS 0).soloCheck)) ∧
     (∀ t, s.dk.waitExpired = true → (s.role = 0 ∨ s.role = 1) →
       t = (({ s with own.asked := s.modulesIn }.readWords 0).readWords s.otherWord) →
       exec .soloBootRecheck s = .next (if s.modulesIn.isEmpty then t.soloDecide else t)))

/-- An offered swap is taken by a PAIRED head with a ready mirror and nothing under way, and otherwise refused with
its cause; the acceptance is taken in time and else ignored; the handover by giver and taker, the commit at the giver, an abort and the
answer timeout each run. The swap period plans as many swaps each way as the head with fewer groups has, or reports that there are none.
JOIN_START sets what the joiner takes, BULK records advance it, JOIN_READY marks them mirrored and asks for the lease of PAIRED. Renewal
writes each module's lease words; a FENCE fences the head. A map of owners that differs ten times running is reported. -/
def Obligations.OwnershipCommandsComplete : Prop :=
  (∀ (s t : State) (group : BitVec 8) (gen : BitVec 32) (handover : Nat), s.linkUp = true →
     (s.windowsOpen = true ∨ s.own.move.isSome = true → exec (.batonOffer group gen handover) s = .next (s.sendMsg 0x0013 [group.toNat, 1])) ∧
     (s.windowsOpen = false → s.own.move = none → 3 * 2 ^ 26 ≤ s.mp.overlay.length →
       exec (.batonOffer group gen handover) s = .next (s.sendMsg 0x0013 [group.toNat, 2])) ∧
     (s.windowsOpen = false → s.own.move = none → s.mp.overlay.length < 3 * 2 ^ 26 → s.changeFree = false ∨ s.own.join.isSome = true →
       exec (.batonOffer group gen handover) s = .next (s.sendMsg 0x0013 [group.toNat, 3])) ∧
     (s.windowsOpen = false → s.own.move = none → s.mp.overlay.length < 3 * 2 ^ 26 → s.changeFree = true → s.own.join = none → s.paired = true →
       s.bit Reg.OWN_STATUS_MIRROR_READY = true → s.ownsGroup group.toNat = false → tGet s.nv.groupGens group.toNat 0 = gen.toNat →
       t = { s with own.swaps := tPut s.own.swaps group.toNat ⟨false, s.beat, handover, true, none⟩, own.lastSwap := s.now } →
       exec (.batonOffer group gen handover) s = .next (t.sendMsg 0x0012 [group.toNat, handover]).ownShow) ∧
     (s.windowsOpen = false → s.own.move = none → s.mp.overlay.length < 3 * 2 ^ 26 → s.changeFree = true → s.own.join = none →
       (s.paired = false ∨ s.bit Reg.OWN_STATUS_MIRROR_READY = false ∨ s.ownsGroup group.toNat = true ∨
         tGet s.nv.groupGens group.toNat 0 ≠ gen.toNat) →
       exec (.batonOffer group gen handover) s = .next (s.sendMsg 0x0013 [group.toNat, 4]))) ∧
  (∀ (s : State) (group : BitVec 8) (x : Swap), tGet? s.own.swaps group.toNat = some x →
     (x.giving = true → (x.accepted = false ∨ s.ownsGroup group.toNat = false) → exec (.batonHandover group) s = .next s) ∧
     (x.giving = false → tGet? s.nv.groups group.toNat ≠ some 3 → exec (.batonHandover group) s = .next s)) ∧
  (∀ (s : State) (group : BitVec 8) (gen : BitVec 32) (handover : Nat) (x : Swap), tGet? s.own.swaps group.toNat = some x → x.giving = true →
     (x.bh = handover → s.beat ≤ x.bo + 32 → exec (.batonAccept group handover) s =
       .next { s with own.swaps := tPut s.own.swaps group.toNat { x with accepted := true } }) ∧
     (x.bh ≠ handover ∨ x.bo + 32 < s.beat → exec (.batonAccept group handover) s = .next s) ∧
     (x.accepted = true → s.ownsGroup group.toNat = true → exec (.batonHandover group) s =
       .next ((s.setOwners [group.toNat] 3 2).anaMoved s group.toNat).ownShow) ∧
     (x.bh = handover → exec (.batonCommit group gen handover) s =
       .next ((((({ s.putOwner group.toNat (1 - s.headIndex % 2) gen.toNat with
         own.swaps := tDel s.own.swaps group.toNat } : State).bump (Reg.OWN_CNT 3) 1).anaMoved s group.toNat).ctlAnswer x.tag .ok 0 0)).ownShow) ∧
     (x.accepted = false → exec (.batonAnswerTimeout group) s =
       .next ((((({ s with own.swaps := tDel s.own.swaps group.toNat } : State).sendMsg 0x0013 [group.toNat, 5]).event 0x0906 Reg.OWN_PAGE
         (argWord [(0, group.toNat), (1, 5)]) 0).bump (Reg.OWN_CNT 4) 1).ctlAnswer x.tag .fault 0 0).ownShow)) ∧
  (∀ (s t : State) (group cause : BitVec 8) (x : Swap), tGet? s.own.swaps group.toNat = some x →
     exec (.batonAbort group cause) s =
       .next ((((({ s with own.swaps := tDel s.own.swaps group.toNat } : State).event 0x0906 Reg.OWN_PAGE
         (argWord [(0, group.toNat), (1, cause.toNat)]) 0).bump (Reg.OWN_CNT 4) 1).ctlAnswer x.tag .fault 0 0)).ownShow ∧
     (x.giving = false → tGet? s.nv.groups group.toNat = some 3 →
       t = { s.setOwners [group.toNat] s.headIndex 3 with own.swaps := tDel s.own.swaps group.toNat } →
       exec (.batonHandover group) s = .next (((t.sendMsg 0x0014 [group.toNat, tGet t.nv.groupGens group.toNat 0, x.bh]).bump (Reg.OWN_CNT 3)
         1).anaMoved s group.toNat).ownShow)) ∧
  (∀ (s : State) (n : Nat) (owned : Nat → List Nat), s.paired = true → s.act Reg.OWN_CFG_SWAP_PERIOD_H ≠ 0 →
     owned = (fun (h : Nat) => (s.nv.groups.filter (fun (e : Nat × Nat) => e.2 == h)).map (fun (e : Nat × Nat) => e.1)) →
     n = min (owned 0).length (owned 1).length →
     (n = 0 → exec .groupSwapPeriod s = .next (s.unnamedEvent 375 Reg.OWN_PAGE 0)) ∧
     (n ≠ 0 → exec .groupSwapPeriod s =
       .next ({ s with
         own.planned := s.own.planned ++ ((owned s.headIndex).take n).map (fun g => (g, none))
         own.lastSwap := if s.headIndex = 1 then s.now else s.own.lastSwap } : State).swapNext)) ∧
  (∀ (s t : State) (s0 tail : Nat) (j : Join), s.own.join = some j → j.takes = true → s.linkUp = true →
     t = ({ s with own.join := some { j with began := true, s0 := s0, tail := tail, got := tail } } : State).setReg Reg.SELV_MIR_TAIL_SEQ (BitVec.ofNat 64 tail) →
     exec (.joinStart s0 tail) s =
       .next ((t.setReg Reg.SELV_MIR_NEXT_SEQ (BitVec.ofNat 64 (max tail (t.reg Reg.SELV_MIR_NEXT_SEQ).toNat))).joinEval).coldEval ∧
     (∀ record members u, j.began = true → u = (if record.type = 6 then s else s.mirrorTake record members) → exec (.bulk record members) s =
       .next (({ u with own.join := some { j with got := max j.got (record.seq + 1) } } : State).joinEval).coldEval)) ∧
  (∀ (s t : State) (held : Nat) (j : Join), s.own.join = some j → j.gives = true → j.sent = true → s.linkUp = true →
     t = (s.markMirrored (fun (r : JRec) => decide (r.seq ≤ held))).setBit Reg.OWN_STATUS_MIRROR_READY true →
     exec (.joinReady held) s = .next (if j.takes then t.coldEval
       else ((t.setBit Reg.NVMF_STATUS_SOLO false).setBit Reg.SELV_STATUS_SOLO false).leaseIssue 4 1 t.now t.now)) ∧
  (∀ (s : State), (s.role = 2 ∨ s.role = 3) → s.chip.holdup = false → exec .leaseRenewal s = .next (s.modulesIn.foldl renewAt s).leaseRetry) ∧
  (∀ (s : State) (word : Word), s.linkUp = true →
     (s.role = 5 → exec (.fence word) s = .next s) ∧
     (s.role ≠ 5 → exec (.fence word) s = .next s.fenceSelf)) ∧
  (∀ (s : State) (crc : BitVec 32), s.paired = true → s.linkUp = true →
     (crc = Config.ownCrc s.ownTable → exec (.ownDigest crc) s = .next { s with own.digestBad := 0 }) ∧
     (crc ≠ Config.ownCrc s.ownTable → exec (.ownDigest crc) s =
       .next (if s.own.digestBad + 1 = 10 then ({ s with own.digestBad := s.own.digestBad + 1 } : State).unnamedEvent 379 Reg.OWN_PAGE 0
         else { s with own.digestBad := s.own.digestBad + 1 })))

/-- The audit counts its window and sends its digest; the mirror answers with its own, an equal window changes nothing, a window of one
record is repaired and a longer one halved. A mirrored record or stored form is fetched, and the answer repairs the own record or the
forms held here, asks for the record's forms where the record is gone, or makes the form gone. A forwarded command becomes a command
here, or is answered at once; one whose group is not owned here is redirected. Forwarded data goes to the command or on to the host. A
forwarded completion ends the command, delayed or at once, and a redirected one is submitted again. -/
def Obligations.AuditMirrorAndForwardCommandsComplete : Prop :=
  (∀ (s : State) (r : JRec) (rest held : List JRec), s.paired = true → s.linkUp = true → s.bit Reg.OWN_STATUS_MIRROR_READY = true →
     held = s.jr.own.filter (fun (r : JRec) => r.mirrored) →
     window held (if (window held s.own.auditNext 1).isEmpty then 0 else s.own.auditNext) 4096 = r :: rest →
     exec .mirrorAudit s = .next (({ s with own.auditNext := (((r :: rest).getLast?).getD r).seq + 1 } : State).bump (Reg.OWN_CNT 5) 1 |>.auditSend
       r.seq (rest.length + 1))) ∧
  (∀ (s : State) (first n : Nat) (digest : Word256) (og mg : Bool) (l : List JRec), s.linkUp = true → l = window s.jr.own first n →
     exec (.auditDigest first n digest false og mg) s = .next (s.sendMsg 0x0017 [first, n, (windowDigest (window s.jr.mir first n)).toNat]) ∧
     (windowDigest l = digest → exec (.auditDigest first n digest true og mg) s = .next s) ∧
     (∀ r, windowDigest l ≠ digest → l = [r] → exec (.auditDigest first n digest true og mg) s = .next (s.auditRepair r.seq og mg)) ∧
     (windowDigest l ≠ digest → l = [] → exec (.auditDigest first n digest true og mg) s = .next s) ∧
     (windowDigest l ≠ digest → 2 ≤ l.length → exec (.auditDigest first n digest true og mg) s =
       .next ((s.auditSend first (l.length / 2)).auditSend (((l.drop (l.length / 2)).head?.map (fun (r : JRec) => r.seq)).getD first)
         (l.length - l.length / 2)))) ∧
  (∀ (s : State) (seq k : Nat) (r : JRec) (f : Form), s.linkUp = true →
     (s.jr.mir.find? (fun (x : JRec) => x.seq == seq) = some r → exec (.mirrorFetch (.record seq)) s = .next (s.sendMsg 0x0209 ([0, 1] ++ recNums r))) ∧
     (s.jr.mir.find? (fun (x : JRec) => x.seq == seq) = none → exec (.mirrorFetch (.record seq)) s = .next (s.sendMsg 0x0209 [0, 0, seq])) ∧
     ((s.jr.mir.flatMap (fun (x : JRec) => x.forms)).find? (fun (x : Form) => x.chunk == k) = some f → exec (.mirrorFetch (.form k)) s =
       .next (s.sendMsg 0x0209 ([1, 1, k, f.guard.toNat, f.kind, f.len] ++ f.plain.map BitVec.toNat))) ∧
     exec (.mirrorCopy (.record seq (some r))) s = .next { s with
       jr.own := s.jr.own.map (fun (x : JRec) => if x.seq = seq then
         { r with off := x.off, blks := x.blks, mirrored := x.mirrored, journaled := x.journaled, flashed := x.flashed, olds := x.olds } else x)
       jr.badOwn := s.jr.badOwn.filter (fun x => x != seq)
       mp.forms := r.forms.foldl (fun m f => if (tGet? m f.chunk).isSome then tPut m f.chunk f else m) s.mp.forms } ∧
     (s.jr.own.find? (fun (x : JRec) => x.seq == seq) = some r → exec (.mirrorCopy (.record seq none)) s =
       .next (r.forms.foldl (fun (t : State) (x : Form) => t.sendMsg 0x0208 [1, x.chunk]) s)) ∧
     exec (.mirrorCopy (.form k (some f))) s = .next (State.packWaiting { s with
       jr.own := s.jr.own.map (fun (x : JRec) => { x with forms := x.forms.map (fun (y : Form) => if y.chunk = k then f else y) })
       mp.forms := if (tGet? s.mp.forms k).isSome then tPut s.mp.forms k f else s.mp.forms
       jr.asked := tPut s.jr.asked k true }).settle ∧
     exec (.mirrorCopy (.form k none)) s = .next ({ s with jr.asked := tDel s.jr.asked k }.formGone k) ∧
     ((s.jr.mir.flatMap (fun (x : JRec) => x.forms)).find? (fun (x : Form) => x.chunk == k) = none → exec (.mirrorFetch (.form k)) s =
       .next (s.sendMsg 0x0209 [1, 0, k]))) ∧
  (∀ (s : State) (tag conn tenant cls gen arrived op vol src bytes : Nat) (fua : Bool) (ranges : List (Nat × Nat)) (pi : PiReq) (data : Bytes)
     (k : CmdKind) (v : Volume) (x : HCmd) (st : Standby), s.linkUp = true → s.serving = true →
     ((s.fwdGroup (.io op vol src bytes fua ranges pi data)).map (fun g => !s.ownsGroup g)).getD false = false →
     kindOfOp op = some k → s.vol? vol = some v →
     x = newCmd conn 0 tenant vol k ranges src bytes cls (max cls (s.syncFloor vol (isWriteKind k))) fua pi arrived data (s.redOf tenant) →
     exec (.fwdCmd ⟨tag, conn, tenant, cls, gen, arrived, .io op vol src bytes fua ranges pi data⟩ st) s =
       .next ((({ s with nv.next := s.nv.next + 1, nv.cmds := tPut s.nv.cmds s.nv.next { x with fwdFrom := some tag, lbaf := v.lbaf } } : State).raiseCount
         (if cls < x.cls then 1 else 0)).reedCheck s.nv.next st)) ∧
  (∀ (s : State) (tag off : Nat) (data : Bytes) (e : Nat × HCmd) (c : HCmd), s.linkUp = true →
     (s.nv.cmds.find? (fun (x : Nat × HCmd) => x.2.fwdFrom == some tag) = some e → exec (.fwdData tag off data true) s = .next (s.dataIn e.1 off data)) ∧
     (s.nv.cmds.find? (fun (x : Nat × HCmd) => x.2.fwdFrom == some tag) = none → exec (.fwdData tag off data true) s = .next s) ∧
     (s.cmd? tag = some c → c.fwdTo = true → c.mute = false → exec (.fwdData tag off data false) s =
       .next (s.sendData c.conn c.cid off data)) ∧
     (s.cmd? tag = some c → (c.fwdTo = false ∨ c.mute = true) → exec (.fwdData tag off data false) s = .next s)) ∧
  (∀ (s : State) (c : FwdCmd) (st : Standby), s.linkUp = true → s.serving = true →
     (∀ g, s.fwdGroup c.body = some g → s.ownsGroup g = false → exec (.fwdCmd c st) s = .next (s.sendMsg 0x0202 [c.tag, 0, 0, 0, 1])) ∧
     (∀ op vol src bytes fua ranges pi data, ((s.fwdGroup c.body).map (fun g => !s.ownsGroup g)).getD false = false →
       c.body = .io op vol src bytes fua ranges pi data →
       (kindOfOp op = none → exec (.fwdCmd c st) s = .next (s.sendMsg 0x0202 [c.tag, 0, 0x01, 0])) ∧
       (kindOfOp op ≠ none → s.vol? vol = none → exec (.fwdCmd c st) s = .next (s.sendMsg 0x0202 [c.tag, 0, 0x0B, 0]))) ∧
     (((s.fwdGroup c.body).map (fun g => !s.ownsGroup g)).getD false = false →
       (∀ op vol src bytes fua ranges pi data, c.body ≠ .io op vol src bytes fua ranges pi data) →
       exec (.fwdCmd c st) s = .next (s.otherDo (.fwd c.tag) c.tenant c.body))) ∧
  (∀ (s t u : State) (tag sct sc delay : Nat) (st : Standby) (f : FwdOther), s.linkUp = true → s.cmd? tag = none →
     s.nv.fwdOther.find? (fun (x : FwdOther) => x.tag == tag) = some f →
     t = { s with nv.fwdOther := s.nv.fwdOther.filter (fun (x : FwdOther) => x.tag != tag) } → u = t.bump (Reg.OWN_CNT 9) 1 →
     exec (.fwdCpl tag sct sc delay false st) s = .next (t.nvmeOut f.conn f.cid sct sc false delay 0) ∧
     exec (.fwdCpl tag sct sc delay true st) s =
       .next (if ((u.fwdGroup f.body).map u.ownsGroup).getD true then u.otherDo (.host f.conn f.cid) f.tenant f.body
         else u.forwardOther f.conn f.cid f.tenant f.body)) ∧
  (∀ (s : State) (tag sct sc delay : Nat) (st : Standby) (c : HCmd), s.linkUp = true → s.cmd? tag = some c → c.fwdTo = true →
     exec (.fwdCpl tag sct sc 0 false st) s = .next (s.finish tag sct sc) ∧
     (delay ≠ 0 → exec (.fwdCpl tag sct sc delay false st) s = .next (((s.dropCmd tag).tcntAdd c.tenant 6 1).answer c sct sc delay)) ∧
     exec (.fwdCpl tag sct sc delay true st) s = .next ((s.bump (Reg.OWN_CNT 9) 1).reSubmit tag st))

/-- The next message in order of a connection is counted and goes to its relationship: OFFER, GRAIN, DICT, MAPDELTA, COMMIT, SYNC_WRITE
and BASE to the target, NEED, SYNC_ACK and ACK to the source; an OFFER or MAPDELTA before the HELLO has passed does nothing. One for a
relationship that the other head runs is passed on to it, one for an unknown relationship is refused. A HELLO with the right salt check
opens the relationship, else it fails it. A message out of order or malformed is an error of the connection. -/
def Obligations.ReplicationCommandsComplete : Prop :=
  (∀ (s t : State) (h : RplHead) (x : RplConn) (k : Nat) (r : Rel), s.rplAt h false x k r t →
     (∀ ents, r.hello = true → exec (.replOffer h ents) s = .next (t.offerIn k h.conn.val h.mseq h.cycle ents)) ∧
     (∀ ranges, r.hello = true → exec (.replMapdelta h ranges) s = .next (t.mapdeltaIn k h.conn.val h.mseq h.cycle ranges)) ∧
     (∀ ents, exec (.replGrain h ents) s = .next (t.grainIn k h.conn.val h.mseq h.cycle r ents)) ∧
     (∀ id len part, exec (.replDict h id len part) s = .next (t.dictIn k h.conn.val h.mseq h.cycle r id len part)) ∧
     (∀ snap offered ranges digest, exec (.replCommit h snap offered ranges digest) s =
       .next (t.commitIn k h.conn.val h.mseq h.cycle offered ranges digest)) ∧
     (∀ write st, exec (.replSyncWrite h write st) s = .next (t.syncWriteIn k h h.conn.val write st)) ∧
     (∀ seq, exec (.replBase h seq) s = .next ((t.modRel k (fun y => { y with basing := some (h.cycle, h.mseq) })).baseTake k))) ∧
  (∀ (s t u : State) (h : RplHead) (x : RplConn) (k : Nat) (r : Rel), s.rplAt h true x k r t → u = t.rplAck h.conn.val r.rid h.mseq h.cycle 0 0 →
     (∀ offer needed dicts, exec (.replNeed h offer needed dicts) s = .next (u.needIn k r offer needed dicts).settle)) ∧
  (∀ (s u t v : State) (h : RplHead) (x y : RplConn) (k rtt acked credits status entry seq : Nat) (r : Rel), tGet? s.repl.conns h.conn.val = some x →
     s.serving = true → h.ok = true → h.mseq = x.rxNext → u = s.rttSet h.conn.val rtt →
     ((u.rplCredit h.conn.val acked credits).rplAt h true y k r t → exec (.replAck h acked credits status entry rtt) s =
       .next (t.ackIn k r h.cycle status entry).settle) ∧
     (u.rplAt h true y k r t → v = t.rplAck h.conn.val r.rid h.mseq h.cycle 0 0 →
       exec (.replSyncAck h seq 0 rtt) s = .next (v.modRel k (fun z => { z with waits := z.waits.filter (fun w => w.1 != seq) })).settle ∧
       (status ≠ 0 → exec (.replSyncAck h seq status rtt) s = .next (v.fracture k).settle))) ∧
  (∀ (s t u v : State) (h : RplHead) (x : RplConn) (hello : RplHello) (k : Nat) (r : Rel), s.rplTakes h x t →
     (t.helloPick h.conn.val hello = none → exec (.replHello h hello) s = .next (t.rplAck h.conn.val 0 h.mseq h.cycle 2 0)) ∧
     (t.helloPick h.conn.val hello = some (k, r) → t.runsRel r = true → t.rel? k = some r →
       u = ((t.modRel k (fun y => { y with conn := some h.conn.val })).rplAck h.conn.val 0 h.mseq r.cycle 0 0) →
       v = (if r.source then u else u.rplSend h.conn.val 0 r.cycle (u.helloOf r)) →
       (hello.salt ≠ t.saltCheck (((t.vol? r.volume).map (fun (w : Volume) => w.tenant)).getD 0) → exec (.replHello h hello) s =
         .next (((v.cycleAbort k).modRel k (fun y => { y with st := 7 })).event 0x0A02 Reg.REPL_PAGE (argWord [(0, r.rid)]) 0)) ∧
       (∀ w, hello.salt = t.saltCheck (((t.vol? r.volume).map (fun (w : Volume) => w.tenant)).getD 0) →
         w = v.modRel k (fun y => { y with
           hello := true, st := if y.mode = 1 then (if y.next.isSome then 6 else 1) else if y.source then y.st else 5 }) →
         exec (.replHello h hello) s = .next (if syncSource r && r.st = 5 then w.cycleStart k else w))) ∧
     (t.helloPick h.conn.val hello = some (k, r) → t.runsRel r = false → exec (.replHello h hello) s =
       .next ((t.modRel k (fun y => { y with conn := some h.conn.val, hello := true })).rplForward h r.rid (.hello hello)))) ∧
  (∀ (s t : State) (h : RplHead) (x : RplConn) (k : Nat) (r : Rel), s.rplTakes h x t →
     (∀ ents, t.relOn h.conn.val h.rel.toNat false = some (k, r) → t.runsRel r = true → r.hello = false →
       exec (.replOffer h ents) s = .next t) ∧
     (∀ ranges, t.relOn h.conn.val h.rel.toNat false = some (k, r) → t.runsRel r = true → r.hello = false →
       exec (.replMapdelta h ranges) s = .next t)) ∧
  (∀ (s t : State) (h : RplHead) (x : RplConn) (k : Nat) (r : Rel) (oe : List OfferEnt) (ge : List GrainEnt) (rs : List (Nat × Nat))
     (id len snap offered ranges seq offer : Nat) (part : Bytes) (digest : Word256) (w : SyncWrite) (st : Standby) (needed : List Bool)
     (ds : List Nat), s.rplTakes h x t →
     (t.relOn h.conn.val h.rel.toNat false = some (k, r) → t.runsRel r = false →
       exec (.replOffer h oe) s = .next (t.rplForward h r.rid (.offer oe)) ∧
       exec (.replMapdelta h rs) s = .next (t.rplForward h r.rid (.mapdelta rs)) ∧
       exec (.replGrain h ge) s = .next (t.rplForward h r.rid (.grain ge)) ∧
       exec (.replDict h id len part) s = .next (t.rplForward h r.rid (.dict id len part)) ∧
       exec (.replCommit h snap offered ranges digest) s = .next (t.rplForward h r.rid (.commit snap offered ranges digest)) ∧
       exec (.replSyncWrite h w st) s = .next (t.rplForward h r.rid (.syncWrite w)) ∧
       exec (.replBase h seq) s = .next (t.rplForward h r.rid (.base seq))) ∧
     (t.relOn h.conn.val h.rel.toNat true = some (k, r) → t.runsRel r = false →
       exec (.replNeed h offer needed ds) s = .next (t.rplForward h r.rid (.need offer needed ds))) ∧
     (∀ u, t.relOn h.conn.val h.rel.toNat false = none → u = t.rplAck h.conn.val h.rel.toNat h.mseq h.cycle 2 0 →
       exec (.replOffer h oe) s = .next u ∧ exec (.replMapdelta h rs) s = .next u ∧ exec (.replGrain h ge) s = .next u ∧
       exec (.replDict h id len part) s = .next u ∧ exec (.replCommit h snap offered ranges digest) s = .next u ∧
       exec (.replSyncWrite h w st) s = .next u ∧ exec (.replBase h seq) s = .next u) ∧
     (∀ u, t.relOn h.conn.val h.rel.toNat true = none → u = t.rplAck h.conn.val h.rel.toNat h.mseq h.cycle 2 0 →
       exec (.replNeed h offer needed ds) s = .next u)) ∧
  (∀ (s t : State) (h : RplHead) (x : RplConn) (hello : RplHello) (oe : List OfferEnt) (ge : List GrainEnt) (rs : List (Nat × Nat))
     (id len snap offered ranges seq offer acked credits status entry rtt : Nat) (part : Bytes) (digest : Word256) (w : SyncWrite)
     (st : Standby) (needed : List Bool) (ds : List Nat), tGet? s.repl.conns h.conn.val = some x → s.serving = true →
     (h.ok = false ∨ h.mseq ≠ x.rxNext) → t = (s.rplError h.conn.val).settle →
     exec (.replHello h hello) s = .next t ∧ exec (.replOffer h oe) s = .next t ∧ exec (.replMapdelta h rs) s = .next t ∧
     exec (.replGrain h ge) s = .next t ∧ exec (.replDict h id len part) s = .next t ∧
     exec (.replCommit h snap offered ranges digest) s = .next t ∧ exec (.replSyncWrite h w st) s = .next t ∧
     exec (.replBase h seq) s = .next t ∧ exec (.replNeed h offer needed ds) s = .next t ∧
     exec (.replAck h acked credits status entry rtt) s = .next t ∧ exec (.replSyncAck h seq status rtt) s = .next t)

/-- At a serving head that runs the source of a relationship, a cycle that is due starts, or is skipped while one runs; without a
connection it asks for one. A retry asks for the connection, starts the cycle again, or goes back to waiting where there is no cycle to
resume. A synchronous source begins a base when no snapshot is under way, if it may. A write unacknowledged in time
fractures the relationship. A message that the other head passed on is sent on its connection, or handled by the relationship that this
head runs, and counted where there is neither. -/
def Obligations.ReplicationTimersAndForwardedMessagesComplete : Prop :=
  (∀ (s : State) (rel : Nat) (r : Rel), s.rel? rel = some r → s.serving = true → r.source = true → s.runsRel r = true →
     (r.mode = 1 → r.st ≠ 7 → (r.st = 2 ∨ r.st = 6 ∨ r.snapping = true) → exec (.replCycleStart rel) s = .next (s.cycleSkip r)) ∧
     (r.mode = 1 → r.st ≠ 2 → r.st ≠ 6 → r.st ≠ 7 → r.snapping = false → r.hello = true → exec (.replCycleStart rel) s = .next (s.cycleStart rel)) ∧
     (r.mode = 1 → r.st ≠ 2 → r.st ≠ 6 → r.st ≠ 7 → r.snapping = false → r.hello = false → exec (.replCycleStart rel) s =
       .next ((s.modRel rel (fun x => { x with st := 6 })).emit (.replConnect r.rid r.entry r.ip))) ∧
     ((r.st = 4 ∨ r.st = 6) → r.hello = false → exec (.replRetryTimer rel) s = .next (s.emit (.replConnect r.rid r.entry r.ip))) ∧
     ((r.st = 4 ∨ r.st = 6) → r.hello = true → (r.mode ≠ 1 ∨ r.next.isSome = true) → exec (.replRetryTimer rel) s = .next (s.cycleStart rel)) ∧
     ((r.st = 4 ∨ r.st = 6) → r.hello = true → r.mode = 1 → r.next = none → exec (.replRetryTimer rel) s =
       .next (s.modRel rel (fun x => { x with st := 1 }))) ∧
     (r.mode = 2 → r.st = 3 → r.snapping = false → r.basing = none → s.snapBegin [r.volume] none (some rel) = none →
       exec (.syncBaseTimer rel) s = .next s) ∧
     (∀ t, r.mode = 2 → r.st = 3 → r.snapping = false → r.basing = none → s.snapBegin [r.volume] none (some rel) = some t →
       exec (.syncBaseTimer rel) s = .next (t.modRel rel (fun x => { x with snapping := true }))) ∧
     (∀ seq, r.st = 3 → r.waits.any (fun w => w.1 == seq) = true → exec (.syncAckTimeout rel seq) s =
       .next (((((s.modRel rel (fun x => { x with st := 4, waits := [], unsent := true, synced := false })).bump (Reg.REPL_CNT 8) 1).event 0x0A01
         Reg.REPL_PAGE (argWord [(0, r.rid)]) 0).journalCtl [⟨0x16, [6, rel, 0]⟩]).settle)) ∧
     (∀ seq, r.waits.any (fun w => w.1 == seq) = false → exec (.syncAckTimeout rel seq) s = .next s)) ∧
  (∀ (s : State) (h : RplHead) (msg : RplMsg), s.linkUp = true →
     (∀ k r, (∀ x, msg ≠ .hello x) → (s.relOn (h.conn.val + 16384) h.rel.toNat (forSource msg) = some (k, r)) → s.runsRel r = true →
       (msg = .ack 0 0 4 0 → exec (.replFwd true h msg) s = .next (s.relLost k).settle) ∧
       (msg ≠ .ack 0 0 4 0 → exec (.replFwd true h msg) s = .next (s.rplDo k r h (h.conn.val + 16384) .same msg))) ∧
     ((∀ x, msg ≠ .hello x) → s.relOn (h.conn.val + 16384) h.rel.toNat (forSource msg) = none →
       s.relOn (h.conn.val + 16384) h.rel.toNat false = none → exec (.replFwd true h msg) s = .next (s.bump (Reg.DIKOR_CNT 6) 1)) ∧
     (∀ x f, msg = .hello x → f = s.repl.rels.find? (fun (e : Nat × Rel) =>
         e.2.rid == h.rel.toNat && e.2.source == (x.role == 2) && e.2.peer == x.array) →
       (f = none → exec (.replFwd true h msg) s = .next (s.bump (Reg.DIKOR_CNT 6) 1)) ∧
       (∀ k r, f = some (k, r) → s.runsRel r = true → exec (.replFwd true h msg) s =
         .next (s.helloDo k (h.conn.val + 16384) h.mseq x))) ∧
     ((tGet? s.repl.conns h.conn.val).isSome = true →
       exec (.replFwd false h msg) s = .next (s.rplPut h.conn.val h.rel.toNat h.cycle msg)) ∧
     ((tGet? s.repl.conns h.conn.val).isSome = false → exec (.replFwd false h msg) s = .next (s.bump (Reg.DIKOR_CNT 6) 1)))

/-- With KEYS.CMD accepted and no command running, IMPORT, ZEROIZE, INFO and PEER_SET run on their operands, and EXPORT of a full TENANT
or PSK slot under a set peer key in DEPLOYED writes the wrapped record. A command ends when its ledger entry is durable and the engines
have dropped the slot, whichever comes last. The schedule unit writes DERIVED slots from slots that hold material: a fresh scalar, an
ECDH result for a point on the curve, an extract without a salt or an expanded label; a MAC leaves the head and no slot changes. A
derived slot is emptied by ZEROIZE and at its expiry. XTS runs with two different keys and data within its limits, GCM seals within its
limits under an unspent outbound set A and counts the packet. TRNG failure stops it with its event, recovery restarts it. A completed NOR
erase counts one more erased sector and lets reclaim go on. -/
def Obligations.KeyStoreCommandsComplete : Prop :=
  (∀ (s : State) (src : BitVec 5) (slot : BitVec 15) (blob : Bytes), s.accepts Reg.KEYS_CMD → s.sec.op = none →
     exec (.keysImport src slot blob) s =
       .next ((s.keyCmd 1 src.toNat slot.toNat).keyImport src.toNat slot.toNat blob none)) ∧
  (∀ (s : State) (slot : BitVec 15) (peer : BitVec 4) (t : State) (k : Bytes), s.accepts Reg.KEYS_CMD → s.sec.op = none →
     t = s.keyCmd 2 (0x10 + peer.toNat) slot.toNat → t.lifeState = 2 → t.sec.latch = false →
     slotType slot.toNat = .tenant ∨ slotType slot.toNat = .psk → t.peerKey peer.toNat = some k →
     slotFull (t.keySlot slot.toNat) = true →
     exec (.keysExport slot peer) s =
       .next (((t.emit (.dma (t.reg Reg.KEYS_ARG) (Config.keyWrap k (exportRecordOf slot.toNat (t.keySlot slot.toNat))))).bump
         (Reg.KEYS_CNT 2) 1).setKeyResult 1 slot.toNat)) ∧
  (∀ (s : State) (slot : BitVec 15), s.accepts Reg.KEYS_CMD → s.sec.op = none →
     exec (.keysZeroize slot) s = .next ((s.keyCmd 3 0 slot.toNat).keyZeroize slot.toNat none)) ∧
  (∀ (s : State) (slot : BitVec 15), s.accepts Reg.KEYS_CMD → s.sec.op = none →
     exec (.keysInfo slot) s =
       .next ((((s.keyCmd 4 0 slot.toNat).setKeyResult 1 slot.toNat).setBit Reg.KEYS_STATUS_FULL
         (slotFull (s.keySlot slot.toNat))).setReg Reg.KEYS_KCV
           (if slotFull (s.keySlot slot.toNat) then kcvOf (s.keySlot slot.toNat) else 0))) ∧
  (∀ (s : State) (peer : BitVec 4) (key : Bytes), s.accepts Reg.KEYS_CMD → s.sec.op = none →
     exec (.keysPeerSet peer key) s =
       .next (((s.keyCmd 5 0 peer.toNat).peerSet peer.toNat key).setFld Reg.KEYS_STATUS_RESULT 1)) ∧
  (∀ (s : State) (o : KeyOp) (e : LedgerEntry), s.sec.op = some o → o.append = some e → o.drop = false →
     exec .ledgerAppendDone s =
       .next (((s.ledgerAppend e).ledgerReclaim).keyDone o.slot 1 o.tag)) ∧
  (∀ (s : State) (o : KeyOp), s.sec.op = some o → o.append = none → o.drop = true →
     exec .keyDropDone s = .next (s.keyDone o.slot 1 o.tag)) ∧
  (∀ (s : State) (p384 : Bool) (slot : BitVec 15), slotType slot.toNat = .derived → s.sec.trngOn = true →
     exec (.ecdheGen p384 slot) s =
       .next (((s.random (if p384 then 48 else 32)).2.putDerived slot.toNat (s.random (if p384 then 48 else 32)).1).emit
         (.ecdhePublic slot.toNat (Config.ecPublic (s.random (if p384 then 48 else 32)).1)))) ∧
  (∀ (s : State) (priv : BitVec 15) (peer : Bytes) (dst : BitVec 15), slotType priv.toNat = .derived →
     slotType dst.toNat = .derived → (s.keySlot priv.toNat).material ≠ [] →
     exec (.ecdh priv peer dst) s =
       .next (if Config.onCurve peer then s.putDerived dst.toNat (Config.ecdhX (s.keySlot priv.toNat).material peer)
         else s.emit (.keyFail dst.toNat))) ∧
  (∀ (s : State) (input dst : BitVec 15), slotType input.toNat = .derived ∨ slotType input.toNat = .psk →
     slotType dst.toNat = .derived → (s.keySlot input.toNat).material ≠ [] →
     exec (.extract none (some input) dst) s =
       .next (s.putDerived dst.toNat ((Config.hkdfExtract [] (s.keySlot input.toNat).material).take 48))) ∧
  (∀ (s : State) (secret : BitVec 15) (label context : Bytes) (dst : BitVec 15), slotType secret.toNat = .derived →
     slotType dst.toNat = .derived → (s.keySlot secret.toNat).material ≠ [] →
     exec (.expandLabel secret label context (.derived dst)) s =
       .next (s.putDerived dst.toNat ((Config.hkdfExpandLabel (s.keySlot secret.toNat).material label context).take 48))) ∧
  (∀ (s : State) (key : BitVec 15) (hash : Bytes), slotType key.toNat = .derived → (s.keySlot key.toNat).material ≠ [] →
     hash.length = 32 ∨ hash.length = 48 →
     exec (.mac key hash) s = .next (s.emit (.macValue (Config.hmacTls (s.keySlot key.toNat).material hash)))) ∧
  (∀ (s : State) (slot : BitVec 15), slotType slot.toNat = .derived →
     exec (.schedZeroize slot) s = .next ((s.zeroizeSlot slot.toNat).bump (Reg.KEYS_CNT 3) 1)) ∧
  (∀ (s : State) (slot : BitVec 15), slotType slot.toNat = .derived → slotFull (s.keySlot slot.toNat) = true →
     exec (.derivedSlotExpiry slot) s = .next (s.zeroizeSlot slot.toNat)) ∧
  (∀ s : State, exec .trngHealthFail s = .next ({ s with sec.trngOn := false }.event 0x0B06 Reg.KEYS_PAGE 0 0)) ∧
  (∀ s : State, exec .trngRecover s = .next { s with sec.trngOn := true }) ∧
  (∀ (s : State) (encrypt : Bool) (slot : BitVec 15) (tweak : BitVec 128) (data : Bytes), slotType slot.toNat = .tenant →
     (s.keySlot slot.toNat).material ≠ [] → xtsMin ≤ data.length → data.length ≤ xtsMax →
     (s.keySlot slot.toNat).material.take 32 ≠ ((s.keySlot slot.toNat).material.drop 32).take 32 →
     exec (.xtsOperation encrypt slot tweak data) s =
       .next (s.emit (.cipher (Config.xts encrypt ((s.keySlot slot.toNat).material.take 64) tweak data)))) ∧
  (∀ (s : State) (slot : BitVec 15) (iv aad data mac : Bytes) (c : ConnSet), slotType slot.toNat = .conn →
     (s.keySlot slot.toNat).setA = some c → gcmWithin iv aad data mac true = true → setSpent c = false →
     (c.ipsec = true ∨ data.length ≤ tlsMax) →
     exec (.gcmOperation true slot false iv aad data mac) s =
       .next (((s.setKeySlot slot.toNat { s.keySlot slot.toNat with setA := some { c with sent := c.sent + 1 } }).rekeyDue slot.toNat
         { c with sent := c.sent + 1 }).emit
         (.cipher (Config.gcmSeal (gcmKey c c.txKey) iv aad data)))) ∧
  (∀ (s : State) (i : Nat), s.evrec.erasing = some i →
     exec (.norEraseComplete .eventRing true) s =
       .next ((({ s with evrec.erasing := none, evrec.erased := s.evrec.erased + 1 }.bump (Reg.EVREC_CNT 8)
         1).ringReclaim).evrecStatus)) ∧
  (∀ s : State, s.sec.ledger.erasing = true →
     exec (.norEraseComplete .keyLedger true) s =
       .next { s with sec.ledger := { s.sec.ledger with erasing := false, erased := s.sec.ledger.erased + 1 } }.ledgerReclaim)

/-- The other forms of the key store's commands. A KEYS.CMD write while a command runs changes nothing; an EXPORT that may not run
answers its code. A command with a part still to come goes on waiting for it. A slot of the wrong type fails the schedule unit and counts
as a refused fetch; an empty slot is counted and reported. An extract with a salt takes both slots. An expanded label written to a CONN
slot makes the keys of the named set and direction. XTS and GCM outside their limits, with equal XTS keys, with an empty slot or set, are
refused and counted; a GCM open answers the plaintext, or counts the tag that does not match. A failed NOR erase reports its sector. -/
def Obligations.KeyStoreRefusalsAndOtherFormsComplete : Prop :=
  (∀ (s : State) (o : KeyOp) (src : BitVec 5) (slot : BitVec 15) (peer : BitVec 4) (blob : Bytes), s.accepts Reg.KEYS_CMD →
     s.sec.op = some o →
     exec (.keysImport src slot blob) s = .next s ∧ exec (.keysExport slot peer) s = .next s ∧ exec (.keysZeroize slot) s = .next s ∧
     exec (.keysInfo slot) s = .next s ∧ exec (.keysPeerSet peer blob) s = .next s) ∧
  (∀ (s t : State) (slot : BitVec 15) (peer : BitVec 4), s.accepts Reg.KEYS_CMD → s.sec.op = none →
     t = s.keyCmd 2 (0x10 + peer.toNat) slot.toNat →
     ((t.lifeState ≠ 2 ∨ t.sec.latch = true) → exec (.keysExport slot peer) s = .next (t.setKeyResult 8 slot.toNat)) ∧
     (t.lifeState = 2 → t.sec.latch = false → slotType slot.toNat ≠ .tenant → slotType slot.toNat ≠ .psk →
       exec (.keysExport slot peer) s = .next (t.setKeyResult 4 slot.toNat)) ∧
     (t.lifeState = 2 → t.sec.latch = false → (slotType slot.toNat = .tenant ∨ slotType slot.toNat = .psk) →
       (t.peerKey peer.toNat = none ∨ slotFull (t.keySlot slot.toNat) = false) →
       exec (.keysExport slot peer) s = .next (t.setKeyResult 10 slot.toNat))) ∧
  (∀ (s : State) (o : KeyOp) (e : LedgerEntry), s.sec.op = some o → o.append = some e →
     (o.drop = true → exec .ledgerAppendDone s =
       .next { ((s.ledgerAppend e).ledgerReclaim) with sec.op := some { o with append := none } }) ∧
     (o.drop = true → exec .keyDropDone s = .next { s with sec.op := some { o with drop := false } })) ∧
  (∀ (s : State) (p384 : Bool) (slot : BitVec 15), (slotType slot.toNat ≠ .derived ∨ s.sec.trngOn = false) →
     exec (.ecdheGen p384 slot) s = .next (s.emit (.keyFail slot.toNat))) ∧
  (∀ (s t : State) (k dst : BitVec 15) (peer label context hash : Bytes) (d : ExpandDst), t = s.bump (Reg.KEYS_CNT 4) 1 →
     serves .schedule k.toNat = false →
     exec (.ecdh k peer dst) s = .next (t.emit (.keyFail k.toNat)) ∧
     exec (.extract none (some k) dst) s = .next (t.emit (.keyFail k.toNat)) ∧
     exec (.extract (some k) none dst) s = .next (t.emit (.keyFail k.toNat)) ∧
     exec (.expandLabel k label context d) s = .next (t.emit (.keyFail k.toNat)) ∧
     exec (.mac k hash) s = .next (t.emit (.keyFail k.toNat))) ∧
  (∀ (s t : State) (k dst : BitVec 15) (peer label context hash : Bytes) (d : ExpandDst), t = s.bump (Reg.KEYS_CNT 8) 1 →
     serves .schedule k.toNat = true → (s.keySlot k.toNat).material = [] →
     exec (.ecdh k peer dst) s = .next (t.emit (.keyEmpty k.toNat)) ∧
     exec (.extract none (some k) dst) s = .next (t.emit (.keyEmpty k.toNat)) ∧
     exec (.extract (some k) none dst) s = .next (t.emit (.keyEmpty k.toNat)) ∧
     exec (.expandLabel k label context d) s = .next (t.emit (.keyEmpty k.toNat)) ∧
     exec (.mac k hash) s = .next (t.emit (.keyEmpty k.toNat))) ∧
  (∀ (s : State) (salt input dst : BitVec 15), serves .schedule salt.toNat = true → serves .schedule input.toNat = true →
     slotType dst.toNat = .derived → (s.keySlot salt.toNat).material ≠ [] → (s.keySlot input.toNat).material ≠ [] →
     exec (.extract (some salt) (some input) dst) s =
       .next (s.putDerived dst.toNat ((Config.hkdfExtract (s.keySlot salt.toNat).material (s.keySlot input.toNat).material).take 48))) ∧
  (∀ (s : State) (secret conn : BitVec 15) (label context v : Bytes) (setB tx : Bool) (keyLen : Nat) (c c1 : ConnSet),
     serves .schedule secret.toNat = true → (s.keySlot secret.toNat).material ≠ [] → slotType conn.toNat = .conn →
     v = Config.hkdfExpandLabel (s.keySlot secret.toNat).material label context →
     keyLen = (if (s.keySlot secret.toNat).material.length = 48 then 32 else 16) →
     c = (if setB then (s.keySlot conn.toNat).setB else (s.keySlot conn.toNat).setA).getD emptyTlsSet →
     c1 = (if tx then { c with ipsec := false, key256 := keyLen == 32, txKey := v.take keyLen, txSalt := (v.drop keyLen).take 12, sent := 0 }
       else { c with ipsec := false, key256 := keyLen == 32, rxKey := v.take keyLen, rxSalt := (v.drop keyLen).take 12 }) →
     exec (.expandLabel secret label context (.conn conn setB tx)) s =
       .next (s.setKeySlot conn.toNat (if setB then { s.keySlot conn.toNat with setB := some c1 }
         else { s.keySlot conn.toNat with setA := some c1 }))) ∧
  (∀ (s : State) (slot : BitVec 15), slotType slot.toNat ≠ .derived →
     exec (.schedZeroize slot) s = .next (s.emit (.keyFail slot.toNat))) ∧
  (∀ (s : State) (encrypt : Bool) (slot : BitVec 15) (tweak : BitVec 128) (data : Bytes),
     (serves .dpcCipher slot.toNat = false → exec (.xtsOperation encrypt slot tweak data) s =
       .next ((s.bump (Reg.KEYS_CNT 4) 1).emit (.keyFail slot.toNat))) ∧
     (serves .dpcCipher slot.toNat = true → (s.keySlot slot.toNat).material = [] → exec (.xtsOperation encrypt slot tweak data) s =
       .next (s.cipherEmpty slot.toNat)) ∧
     (serves .dpcCipher slot.toNat = true → (s.keySlot slot.toNat).material ≠ [] → (data.length < xtsMin ∨ xtsMax < data.length ∨
         (s.keySlot slot.toNat).material.take 32 = ((s.keySlot slot.toNat).material.drop 32).take 32) →
       exec (.xtsOperation encrypt slot tweak data) s = .next s.cipherRefuse)) ∧
  (∀ (s : State) (encrypt setB : Bool) (slot : BitVec 15) (iv aad data mac : Bytes),
     (serves .transport slot.toNat = false → exec (.gcmOperation encrypt slot setB iv aad data mac) s =
       .next ((s.bump (Reg.KEYS_CNT 4) 1).emit (.keyFail slot.toNat))) ∧
     (serves .transport slot.toNat = true → (if setB then (s.keySlot slot.toNat).setB else (s.keySlot slot.toNat).setA) = none →
       exec (.gcmOperation encrypt slot setB iv aad data mac) s = .next (s.cipherEmpty slot.toNat)) ∧
     (∀ c, serves .transport slot.toNat = true → (if setB then (s.keySlot slot.toNat).setB else (s.keySlot slot.toNat).setA) = some c →
       (gcmWithin iv aad data mac encrypt = false ∨ (c.ipsec = false ∧ tlsMax < data.length)) →
       exec (.gcmOperation encrypt slot setB iv aad data mac) s = .next s.cipherRefuse) ∧
     (∀ c, serves .transport slot.toNat = true → (s.keySlot slot.toNat).setB = some c → gcmWithin iv aad data mac true = true →
       (c.ipsec = true ∨ data.length ≤ tlsMax) → setSpent c = false →
       exec (.gcmOperation true slot true iv aad data mac) s =
         .next (((s.setKeySlot slot.toNat { s.keySlot slot.toNat with setB := some { c with sent := c.sent + 1 } }).rekeyDue slot.toNat
           { c with sent := c.sent + 1 }).emit (.cipher (Config.gcmSeal (gcmKey c c.txKey) iv aad data)))) ∧
     (∀ c, serves .transport slot.toNat = true → (if setB then (s.keySlot slot.toNat).setB else (s.keySlot slot.toNat).setA) = some c →
       gcmWithin iv aad data mac true = true → (c.ipsec = true ∨ data.length ≤ tlsMax) → setSpent c = true →
       exec (.gcmOperation true slot setB iv aad data mac) s =
         .next (if c.ipsec then s.cipherRefuse else s.cipherRefuse.tlsSpent slot.toNat)) ∧
     (∀ c, serves .transport slot.toNat = true → (if setB then (s.keySlot slot.toNat).setB else (s.keySlot slot.toNat).setA) = some c →
       gcmWithin iv aad data mac false = true → (c.ipsec = true ∨ data.length ≤ tlsMax) →
       (∀ p, Config.gcmOpen (gcmKey c c.rxKey) iv aad data mac = some p →
         exec (.gcmOperation false slot setB iv aad data mac) s = .next (s.emit (.cipher p))) ∧
       (Config.gcmOpen (gcmKey c c.rxKey) iv aad data mac = none →
         exec (.gcmOperation false slot setB iv aad data mac) s = .next ((s.bump (Reg.KEYS_CNT 6) 1).emit .cipherTag)))) ∧
  (∀ (s : State) (i : Nat),
     (s.evrec.erasing = some i → exec (.norEraseComplete .eventRing false) s = .next (s.norFail (0x2000000 + i * 65536))) ∧
     (s.sec.ledger.erasing = true → exec (.norEraseComplete .keyLedger false) s = .next (s.norFail 0x1C20000)))

/-- An interrupt request outside reset sets its raw bit and routes the source. A claim with a pending source routed
to the core takes the one claimPick names: the core's stack, the counters, the source's state and the group's
hold-off follow; without one the claim answers none and is counted. Completing a source in service takes it off
the core's stack; any other is counted and ignored. The end of a hold-off clears it. An ACTIVE core takes the
oldest item of a queue it owns. An aperture write to open DRAM stores the word, a read of a word answers it. A
paired head sends its KCV list. -/
def Obligations.InterruptAndServiceCoreCommandsComplete : Prop :=
  (∀ (s : State) (src : BitVec 10) (holds : Bool) (p i : Nat), sourcePage src.toNat = some (p, i) → s.chip.cond ≠ .reset →
     exec (.interruptRequest src holds) s = .next ((s.setHeld p i holds).raiseRaw p i).intcEval) ∧
  (∀ (s t : State) (core : Fin 16), s.intcEval.claimPick core.val = none → t = s.intcEval →
     exec (.intcClaim core) s = .next ((t.bump (Reg.INTC_CNT 1) 1).emit (.claimed core.val none))) ∧
  (∀ (s t u : State) (core : Fin 16) (x : Nat), s.intcEval.claimPick core.val = some x → t = s.intcEval →
     u = ((((({ t with intc.claimed := tPut t.intc.claimed core.val ((x, t.act (Reg.INTC_SRC_PRIO x)) :: t.claimStack core.val) }.bump
       (Reg.INTC_CNT 0) 1).bump (Reg.INTC_CORE_CLAIMS core.val) 1).bumpFld (Reg.INTC_SRC_STATE_CLAIMS x) 1).setFld
       (Reg.INTC_SRC_STATE_CORE x) core.val).setBit (Reg.INTC_SRC_STATE_CORE_VALID x) true) →
     exec (.intcClaim core) s =
       .next ((((u.holdStart (u.act (Reg.INTC_SRC_GROUP x))).runShow core.val).emit (.claimed core.val (some x))).intcEval)) ∧
  (∀ (s : State) (core : Fin 16) (src : BitVec 10) (rest : List (Nat × Nat)),
     rest = (s.claimStack core.val).filter (fun e => e.1 != src.toNat) →
     ((s.claimStack core.val).any (fun e => e.1 == src.toNat) = true →
       exec (.intcComplete core src) s =
         .next (({ s with intc.claimed := if rest = [] then tDel s.intc.claimed core.val else tPut s.intc.claimed core.val rest }.runShow
           core.val).intcEval)) ∧
     ((s.claimStack core.val).any (fun e => e.1 == src.toNat) = false →
       exec (.intcComplete core src) s = .next (s.bump (Reg.INTC_CNT 2) 1))) ∧
  (∀ (s : State) (group : Fin 64), s.heldOff group.val = true →
     exec (.holdoffExpiry group) s =
       .next (({ s with intc.holdEnd := tDel s.intc.holdEnd group.val }.setFld (Reg.INTC_GROUP_REMAIN_NS group.val) 0).intcEval)) ∧
  (∀ (s t u : State) (core : Fin 16) (queue : Fin 64) (again : Bool) (reqStep : BitVec 4) (busy : Fin 101) (k : WorkKind) (rest left : List WorkKind),
     s.coreActive core.val = true → tGet s.svc.owner queue.val 16 = core.val → tGet s.svc.work queue.val [] = k :: rest →
     left = (if again = true then rest ++ [k] else rest) →
     t = { s with
       svc.work := if left = [] then tDel s.svc.work queue.val else tPut s.svc.work queue.val left
       pw.svcReq := if reqStep.toNat = 0 then tDel s.pw.svcReq core.val else tPut s.pw.svcReq core.val (min 7 reqStep.toNat) } →
     u = ((t.bump (Reg.SVC_ITEMS core.val) 1).setFld (Reg.SVC_STATUS_REQ_STEP core.val) reqStep.toNat).setFld
       (Reg.SVC_STATUS_BUSY_PCT core.val) busy.val →
     exec (.workItem core queue again reqStep busy) s =
       .next (((if k = .clockServo && u.ptpSource then u.rateServo else u).ceilUpdate (18 + core.val)).avsRefresh)) ∧
  (∀ (s : State) (core : Fin 16) (queue : Fin 64) (again : Bool) (reqStep : BitVec 4) (busy : Fin 101),
     (s.coreActive core.val = false ∨ tGet s.svc.owner queue.val 16 ≠ core.val ∨ tGet s.svc.work queue.val [] = []) →
     exec (.workItem core queue again reqStep busy) s = .next s) ∧
  (∀ (s : State) (addr : BitVec 36) (data : Word) (a : Nat), s.barReachable = true →
     a = s.fld Reg.UPEP_APERTURE_BASE_GIB * 2 ^ 30 + addr.toNat → s.apertureOpen = true → a < s.dramBytes →
     exec (.apertureAccess true addr data) s = .next { s with up.dram := tPut s.up.dram (a / 8) data } ∧
     (∀ v, tGet? s.up.dram (a / 8) = some v → exec (.apertureAccess false addr data) s = .next (s.emit (.apertureData v)))) ∧
  (∀ s : State, s.paired = true → exec .kcvExchangeTimer s = .next s.kcvSend)

/-- Digest contexts load, are restored once under the latest sequence, and end in a digest or in a comparison by two
comparators. A MEAS_EXT write of registers 16 to 23 extends that register with MEAS_EXT_DATA. A challenge is
fresh and replaces the level's challenge; a right answer consumes it, clears the wrong answers and the lock and
opens a session; a wrong one consumes it and is counted. Expiry, close, idle timeout and the end of a lock change
just what they name. A tamper alarm of a source that can alarm sets the latch and the source, puts a record in
the vault, gives the response and updates the LIFE registers; its end clears only the source's alarm. -/
def Obligations.SessionAndTamperCommandsComplete : Prop :=
  (∀ (s : State) (ctx : Fin 8) (alg : Hash), exec (.digestInit ctx alg) s = .next (s.ctxLoad ctx (.plain alg))) ∧
  (∀ (s : State) (ctx : Fin 8) (level : SessLevel), s.sessionKey level ≠ [] →
     exec (.digestKeypadI ctx level) s = .next (s.ctxLoad ctx (.inner level))) ∧
  (∀ (s : State) (ctx inner : Fin 8) (level : SessLevel) (msg : Bytes), s.sessionKey level ≠ [] →
     tGet? s.sec.ctxs inner = some (.inner level) →
     exec (.digestKeypadO ctx level inner msg) s = .next ((s.ctxEnd inner).ctxLoad ctx (.outer level msg))) ∧
  (∀ (s : State) (ctx source : Fin 8) (seq : BitVec 32) (c : DigestCtx),
     tGet? s.sec.saved source = some (c, seq.toNat, false) →
     exec (.digestRestore ctx source seq none) s =
       .next { s with sec.saved := tPut s.sec.saved source (c, seq.toNat, true), sec.ctxs := tPut s.sec.ctxs ctx c }) ∧
  (∀ (s : State) (ctx : Fin 8) (msg : Bytes) (alg : Hash), tGet? s.sec.ctxs ctx = some (.plain alg) →
     exec (.digestFinal ctx msg) s = .next ((s.ctxEnd ctx).emit (.digest alg (hashBytes alg msg)))) ∧
  (∀ (s : State) (ctx : Fin 8) (msg value : Bytes) (flipM flipN : Bool) (c : DigestCtx), tGet? s.sec.ctxs ctx = some c →
     exec (.digestFinalCompare ctx msg value flipM flipN) s =
       .next ((s.ctxEnd ctx).compareWith value (s.ctxValue c msg) flipM flipN)) ∧
  (∀ (s : State) (mr : BitVec 5), s.accepts Reg.MEAS_EXT_CMD → 16 ≤ mr.toNat → mr.toNat ≤ 23 →
     exec (.measExtGo mr) s =
       .next ((s.setFld Reg.MEAS_EXT_CMD_MR mr.toNat).measExtend mr.toNat
         ((List.range 6).flatMap (fun i => bytesLE (s.reg (Reg.MEAS_EXT_DATA i)).toNat 8)))) ∧
  (∀ s : State, s.sec.lockedMonitor = false → s.sec.trngOn = true → s.mgmt.running = true →
     exec (.challengeRequest .monitor) s =
       .next ({ s.draw.2 with sec.chalMonitor := some (Config.trng s.draw.1) }.emit
         (.challenge .monitor (Config.trng s.draw.1)))) ∧
  (∀ s : State, s.accepts Reg.SESS_CHAL_REQ → s.sec.lockedAdmin = false → s.sec.trngOn = true → s.mgmt.running = true →
     exec (.challengeRequest .admin) s =
       .next ({ s.draw.2 with sec.chalAdmin := some (Config.trng s.draw.1) }.setRegs
         (List.zip ((List.range 4).map Reg.SESS_CHAL)
           ((List.range 4).map (fun i =>
             BitVec.ofNat 64 (natLE (((bytesBE (Config.trng s.draw.1)).drop (8 * i)).take 8))))))) ∧
  (∀ (s : State) (c answer : Word256), s.challenge .monitor = some c → s.sessionKey .monitor ≠ [] →
     exec (.challengeResponse .monitor answer) s =
       .next (if answer = s.rightAnswer .monitor c then
         ({ ((s.setChallenge .monitor none).compareWith (bytesBE answer) (bytesBE (s.rightAnswer .monitor c)) false
           false).setFails .monitor 0 with sec.lockMonitor := 0 }).openSession .monitor
       else ((s.setChallenge .monitor none).compareWith (bytesBE answer) (bytesBE (s.rightAnswer .monitor c)) false
           false).wrongAnswer .monitor)) ∧
  (∀ (s : State) (level : SessLevel), exec (.challengeExpiry level) s = .next (s.setChallenge level none)) ∧
  (∀ (s : State) (id : BitVec 32), s.fld Reg.SESS_STATUS_ADMIN_ID = id.toNat →
     exec (.sessionClose .admin id) s = .next (s.setFld Reg.SESS_STATUS_ADMIN_ID 0)) ∧
  (∀ (s : State) (id : BitVec 32),
     exec (.sessionClose .monitor id) s =
       .next ({ s with sec.monitors := s.sec.monitors.filter (fun x => x != id) }.setFld Reg.SESS_STATUS_MONITORS
         (s.sec.monitors.filter (fun x => x != id)).length)) ∧
  (∀ s : State, exec .adminIdleTimeout s = .next (s.setFld Reg.SESS_STATUS_ADMIN_ID 0)) ∧
  (∀ s : State,
     exec (.sessionLockExpiry .admin) s = .next ({ s with sec.lockedAdmin := false }.setFld Reg.SESS_STATUS_LOCK_S 0) ∧
     exec (.sessionLockExpiry .monitor) s = .next ({ s with sec.lockedMonitor := false }.setFld Reg.SESS_STATUS_LOCK_S 0)) ∧
  (∀ (s u : State) (source : Fin 6) (standby : Bool) (sec : Nat) (frac : Fin 32768), s.tamperEnabled source = true →
     u = (if source = 5 then s.vaultLost else s) →
     exec (.tamperAlarm source standby sec frac) s =
       .next (({ u with
         sec.vault := (u.sec.vault ++ [u.vaultRecord sec frac.val source.val]).drop ((u.sec.vault.length + 1) - 512)
         sec.latch := true
         sec.sources := u.sec.sources ||| BitVec.ofNat 6 (2 ^ source.val)
         sec.alarms := u.sec.alarms ||| BitVec.ofNat 6 (2 ^ source.val)
         sec.tamperTime := if u.sec.latch then u.sec.tamperTime
           else BitVec.ofNat 64 (sec * 2 ^ 15 + frac.val) }.tamperResponse source standby).tamperRegs)) ∧
  (∀ (s : State) (source : Fin 6),
     exec (.tamperAlarmEnd source) s =
       .next { s with sec.alarms := s.sec.alarms &&& ~~~(BitVec.ofNat 6 (2 ^ source.val)) }.tamperRegs) ∧
  (∀ (s : State) (confirm : BitVec 6) (bad : List (BitVec 15)), s.accepts Reg.LIFE_TAMPER_CLEAR →
     exec (.lifeTamperClear confirm true bad) s = .next (s.tamperClear confirm (bad.map BitVec.toNat)))

/-- On the control channel, or with a monitor session open, each SPDM request is answered on the channel it came by:
GET_VERSION with version 1.2 and a fresh negotiation, GET_CAPABILITIES, NEGOTIATE_ALGORITHMS with the three
algorithms offered, GET_DIGESTS with the chain's digest, GET_CERTIFICATE of slot 0 with the part asked for,
CHALLENGE of slot 0 and signed measurements with a signature under the identity key while it can be derived,
unsigned measurements without one, and any other request as unsupported. Nothing else changes but the draw that a
signature uses. -/
def Obligations.SpdmRequestsAreAnswered : Prop :=
  (∀ (s : State) (ch : Channel),
     exec (.spdmGetVersion ch) s = .next ({ s with sec.spdmReady := false }.emit (.spdm (ch == Channel.control) (.version 1 2))) ∧
     exec (.spdmGetCapabilities ch) s = .next (s.emit (.spdm (ch == Channel.control) .capabilities)) ∧
     exec (.spdmNegotiateAlgorithms ch true true true) s =
       .next ({ s with sec.spdmReady := true }.emit (.spdm (ch == Channel.control) .algorithms)) ∧
     exec (.spdmUnsupported ch) s = .next (s.emit (.spdm (ch == Channel.control) .unsupported))) ∧
  (∀ (s : State) (ch : Channel) (offset length : BitVec 16), s.spdmAllowed ch = true →
     exec (.spdmGetDigests ch) s = .next (s.emit (.spdm (ch == Channel.control) (.digests chainDigest))) ∧
     exec (.spdmGetCertificate ch 0 offset length) s =
       .next (s.emit (.spdm (ch == Channel.control)
         (.certificate ((Config.certChain.drop offset.toNat).take length.toNat))))) ∧
  (∀ (s : State) (ch : Channel) (nonce : Word256) (k : Bytes), s.spdmAllowed ch = true → s.identityKey = some k →
     s.sec.trngOn = true →
     exec (.spdmChallenge ch 0 nonce) s =
       .next (s.draw.2.emit (.spdm (ch == Channel.control)
         (.challengeAuth chainDigest (Config.ecSign k (bytesBE chainDigest ++ bytesBE nonce) s.draw.1))))) ∧
  (∀ (s : State) (ch : Channel) (index : BitVec 8) (nonce : Word256), s.spdmAllowed ch = true → 1 ≤ index.toNat →
     index.toNat ≤ 24 →
     exec (.spdmGetMeasurements ch index false nonce) s =
       .next (s.emit (.spdm (ch == Channel.control) (.measurements [(index.toNat, s.mrValue (index.toNat - 1))] none))))

/-- A write of BLK_PWR_REQ that is accepted sets REQ and evaluates the block's domain. A rail poll writes twelve
readings and the core-7 minimum, clamped to 720 to 800 mV. An alert writes the rail's status word, and a warning
is recorded. A rail moves at most 5 mV a step towards its target, with a VOUT_COMMAND where it moves. A domain that
has risen is ON and the next waiting one rises; one that has gone down takes its state. A DVFS domain's voltage
settles once the rail reads the step's voltage plus margins. A WARP segment fault is fatal. A sample writes the
sensors and the hottest of them, begins an emergency where a sensor was at its limit in the last sample too, and
posts the SMART temperature events (log entry 63). The emergency ends when every sensor is cool enough, and the
loops of the zones start again from 1.0. -/
def Obligations.PowerAndThermalCommandsComplete : Prop :=
  (∀ (s : State) (page : BitVec 13) (req : BitVec 2), page ≠ 0 → (blockAt page.toNat).isSome = true →
     s.accepts (Reg.BLK_PWR_REQ page.toNat) →
     exec (.powerRequest page req) s =
       .next ((s.setFld (Reg.BLK_PWR_REQ_REQ page.toNat) req.toNat).powerEval page.toNat)) ∧
  (∀ (s t : State) (vout iout status : List (BitVec 16)) (core7 : BitVec 16),
     t = (List.range 12).foldl (fun (u : State) r =>
       ((u.setFld (Reg.PWR_RAIL_VOUT_MV r) (vout.getD r 0).toNat).setFld (Reg.PWR_RAIL_IOUT_DA r)
         (iout.getD r 0).toNat).setFld (Reg.PWR_RAIL_STATUS_WORD r) (status.getD r 0).toNat) s →
     exec (.railPoll vout iout status core7) s = .next { t with pw.core7 := clampNat 720 800 core7.toNat }.avsRefresh) ∧
  (∀ (s t : State) (rail : Fin 12) (status : BitVec 16), t = s.setFld (Reg.PWR_RAIL_STATUS_WORD rail) status.toNat →
     exec (.pmbAlert rail status false) s = .next t ∧
     exec (.pmbAlert rail status true) s =
       .next (t.event 0x0C03 Reg.PWR_PAGE (argWord [(0, rail.val), (1, status.toNat)]) 0)) ∧
  (∀ (s t : State) (rail : Fin 8) (mv : Nat),
     mv = (if s.railNow rail < s.railTarget rail then min (s.railTarget rail) (s.railNow rail + 5)
       else max (s.railTarget rail) (s.railNow rail - 5)) →
     t = { s with pw.railSet := tPut s.pw.railSet rail mv }.avsRefresh →
     exec (.railStep rail) s =
       .next (if mv = s.railNow rail then t else t.emit (.voutCommand (s.fld (Reg.PWR_RAIL_PMB_ADDR rail)) mv))) ∧
  (∀ (s t : State) (dom : Fin 183), s.domState dom = PWR_UP → t = (s.setDom dom PWR_ON).domEval dom →
     (t.pw.upQueue = [] → exec (.domainPowerUpDone dom) s = .next t) ∧
     (∀ d rest, t.pw.upQueue = d :: rest → exec (.domainPowerUpDone dom) s = .next ({ t with pw.upQueue := rest }.domUp d))) ∧
  (∀ (s : State) (dom : Fin 183), s.domState dom = PWR_DOWN →
     exec (.domainPowerDownDone dom) s =
       .next (({ s with pw.downTo := tDel s.pw.downTo dom }.setDom dom (tGet s.pw.downTo dom PWR_GATED)).domEval dom)) ∧
  (∀ (s : State) (dvfs : Fin 34) (step : Nat), tGet? s.pw.rising dvfs = some step →
     stepMv step + 30 + s.act Reg.PWR_CFG_AVS_GUARD_MV ≤ s.fld (Reg.PWR_RAIL_VOUT_MV (if dvfs.val < 18 then dvfs.val / 3 else 6)) →
     exec (.domainVoltageSettled dvfs) s = .next { s with pw.settled := tPut s.pw.settled dvfs step }) ∧
  (∀ s : State, exec .warpSegmentFault s = .next (s.fatalEnter 5 0)) ∧
  (∀ (s t u v : State) (temps : List (BitVec 16)) (hot : List Nat),
     t = (List.zip (List.range 64) temps).foldl (fun (u : State) p => u.setFld (Reg.THERM_SENSOR_TEMP p.1) p.2.toNat) s →
     u = (t.setFld Reg.THERM_STATUS_HOTTEST_C (BitVec.ofInt 8 (t.hottest (List.range 64) / 256)).toNat).setFld
       Reg.THERM_STATUS_HOTTEST_IDX (((List.range 64).find? (fun n => t.temp n == t.hottest (List.range 64))).getD 0) →
     hot = (List.range 64).filter (fun n => decide ((s.act Reg.THERM_CFG_EMERG_C : Int) * 256 ≤ u.temp n)) →
     v = { u with
       pw.hot := hot
       pw.gradForced := u.gradientSet 20 s.pw.gradForced
       pw.excluded := u.gradientSet 16 s.pw.excluded }.setBit Reg.THERM_STATUS_GRAD_FORCE
         (!(u.gradientSet 20 s.pw.gradForced).isEmpty) →
     (s.bit Reg.THERM_STATUS_EMERGENCY = false → hot.any (fun n => s.pw.hot.contains n) = true →
       exec (.thermalSample temps) s = .next v.emergencyBegin.tempEvents) ∧
     (s.bit Reg.THERM_STATUS_EMERGENCY = true ∨ hot.any (fun n => s.pw.hot.contains n) = false →
       exec (.thermalSample temps) s = .next v.ceilAll.tempEvents)) ∧
  (∀ s : State, s.bit Reg.THERM_STATUS_EMERGENCY = true → s.coolEnough = true →
     exec .thermalEmergencyClear s =
       .next ((([1, 2, 3, 4].foldl (fun (t : State) l =>
           (t.setReg (Reg.TEMPLE_I l) (toQ16 65536)).setReg (Reg.TEMPLE_U l) (toQ16 65536))
         ((s.setBit Reg.THERM_STATUS_EMERGENCY false).event 0x0C02 Reg.THERM_PAGE 0 0)).ceilAll).fanRefresh))

/-- An enabled TEMPLE loop takes its sample and drives its output; one that is not enabled stands at its safe output.
With TEMPLE_CTRL accepted, ENABLE 0 puts the loop at its safe output and ENABLE 1 starts a stopped loop from there,
HOLD is written, and I_RESET is noted for the next sample. A stalled fan sets the fans full and is recorded; the
fans leave full speed when no stalled fan is left. -/
def Obligations.LoopAndFanCommandsComplete : Prop :=
  (∀ (s t : State) (loop : Fin 8), s.bit (Reg.TEMPLE_CTRL_ENABLE loop) = true → t = s.loopSample loop →
     exec (.templeLoopSample loop) s = .next (t.loopDrive loop)) ∧
  (∀ (s : State) (loop : Fin 8), s.bit (Reg.TEMPLE_CTRL_ENABLE loop) = false → loop.val ≠ 0 →
     exec (.templeLoopSample loop) s = .next ((s.loopSafe loop).loopDrive loop)) ∧
  (∀ (s : State) (loop : Fin 8), s.accepts (Reg.TEMPLE_CTRL loop) →
     exec (.loopEnable loop false) s =
       .next (((s.setBit (Reg.TEMPLE_CTRL_ENABLE loop) false).loopSafe loop).loopDrive loop) ∧
     (s.bit (Reg.TEMPLE_CTRL_ENABLE loop) = false → exec (.loopEnable loop true) s =
       .next (((s.setBit (Reg.TEMPLE_CTRL_ENABLE loop) true).loopSafe loop).loopDrive loop)) ∧
     (s.bit (Reg.TEMPLE_CTRL_ENABLE loop) = true → exec (.loopEnable loop true) s =
       .next (s.setBit (Reg.TEMPLE_CTRL_ENABLE loop) true))) ∧
  (∀ (s : State) (loop : Fin 8) (hold : Bool), s.accepts (Reg.TEMPLE_CTRL loop) →
     exec (.loopHold loop hold) s = .next (s.setBit (Reg.TEMPLE_CTRL_HOLD loop) hold)) ∧
  (∀ (s : State) (loop : Fin 8), s.accepts (Reg.TEMPLE_CTRL loop) →
     exec (.loopIReset loop) s = .next (s.setLoop loop { s.loop loop with iReset := true })) ∧
  (∀ (s : State) (fan : Fin 4),
     exec (.fanStall fan) s =
       .next ({ s with pw.fanStall := true, pw.stalled := s.pw.stalled.filter (fun f => f != fan.val) ++ [fan.val] }.fanRefresh.event 0x0C04
         Reg.THERM_PAGE (argWord [(0, fan.val)]) 0)) ∧
  (∀ (s : State) (fan : Fin 4) (left : List Nat), s.act Reg.THERM_CFG_FAN_MIN_RPM ≤ s.fld (Reg.THERM_FAN_RPM fan) →
     left = s.pw.stalled.filter (fun f => f != fan.val) →
     exec (.fanRecover fan) s = .next { s with pw.stalled := left, pw.fanStall := !left.isEmpty }.fanRefresh)

/-- An event whose bucket is unlimited or holds a token completes: the token is taken and the record goes to the
buffer and its destinations; without a token it is counted as suppressed and nothing else. A summary of a bucket
with suppressed records clears the suppressed count, takes a token and makes the summary record. The flush timer
and the FLUSH register start a flush, its end takes the flushed records out of the buffer, and RD_CMD and
RATE_CMD answer from the ring, the buffer and the bucket when the register accepts the write. A reclaimed sector
counts as erased ahead. -/
def Obligations.EventRecorderCommandsComplete : Prop :=
  (∀ (s : State) (code : BitVec 12) (sev : BitVec 3) (st si : BitVec 16) (a0 a1 : Word) (b : Bucket),
     b = refill (s.bucket code.toNat (evSeverity code.toNat sev.toNat)) s.now → b.rate ≠ 0 → 10 ^ 9 ≤ b.level →
     exec (.eventRecord code sev st si a0 a1) s =
       .next ((s.setBucket code.toNat { b with level := b.level - 10 ^ 9 }).takeRecord
         ⟨s.now, code.toNat, evSeverity code.toNat sev.toNat, false, s.headIndex, st.toNat, si.toNat, a0, a1⟩)) ∧
  (∀ (s : State) (code : BitVec 12) (sev : BitVec 3) (st si : BitVec 16) (a0 a1 : Word) (b : Bucket),
     b = refill (s.bucket code.toNat (evSeverity code.toNat sev.toNat)) s.now → b.rate ≠ 0 → b.level < 10 ^ 9 →
     exec (.eventRecord code sev st si a0 a1) s =
       .next ((s.setBucket code.toNat { b with supp := b.supp + 1, first := if b.supp = 0 then s.now else b.first }).bump
         (Reg.EVREC_CNT 3) 1)) ∧
  (∀ (s : State) (code : BitVec 12) (sev : BitVec 3) (b : Bucket),
     b = refill (s.bucket code.toNat (evSeverity code.toNat sev.toNat)) s.now → b.supp ≠ 0 →
     exec (.eventSummary code sev) s =
       .next (((s.setBucket code.toNat { b with supp := 0, first := 0, level := max b.level (10 ^ 9) - 10 ^ 9 }).takeRecord
         ⟨s.now, code.toNat, evSeverity code.toNat sev.toNat, true, s.headIndex, 0x0080, 0, BitVec.ofNat 64 b.first,
           BitVec.ofNat 64 (b.supp % 2 ^ 32)⟩).bump (Reg.EVREC_CNT 4) 1)) ∧
  (∀ s : State, s.evrec.flushing = none →
     exec .eventFlushTimer s = .next { s with evrec.flushing := some s.evrec.buf.length }) ∧
  (∀ s : State, s.accepts Reg.EVREC_FLUSH → (s.setBit Reg.EVREC_FLUSH_GO true).evrec.flushing = none →
     exec .evrecFlushWrite s =
       .next { s.setBit Reg.EVREC_FLUSH_GO true with evrec.flushing := some (s.setBit Reg.EVREC_FLUSH_GO true).evrec.buf.length }) ∧
  (∀ (s : State) (n : Nat), s.evrec.flushing = some n → exec (.eventFlushDone true) s = .next s.flushDone) ∧
  (∀ (s : State) (index : BitVec 32), s.accepts Reg.EVREC_RD_CMD →
     exec (.evrecReadRing index) s =
       .next (((s.setFld Reg.EVREC_RD_CMD_INDEX index.toNat).setBit Reg.EVREC_RD_CMD_WHERE false).setRdData
         (s.ringSlot index.toNat))) ∧
  (∀ (s : State) (index : BitVec 32) (r : EvRec), s.accepts Reg.EVREC_RD_CMD → s.evrec.buf[index.toNat]? = some r →
     exec (.evrecReadBuffer index) s =
       .next (((s.setFld Reg.EVREC_RD_CMD_INDEX index.toNat).setBit Reg.EVREC_RD_CMD_WHERE true).setRdData (recordWords r))) ∧
  (∀ (s : State) (code : BitVec 12), s.accepts Reg.EVREC_RATE_CMD →
     exec (.evrecRateWrite code) s =
       .next (((s.setFld Reg.EVREC_RATE_CMD_CODE code.toNat).setFld Reg.EVREC_RATE_CMD_OP 1).setRate code.toNat
         (s.fld Reg.EVREC_RATE_DATA_RATE) (s.fld Reg.EVREC_RATE_DATA_DEPTH))) ∧
  (∀ (s : State) (code : BitVec 12) (b : Bucket), s.accepts Reg.EVREC_RATE_CMD →
     b = refill (s.bucket code.toNat (evSeverity code.toNat 3)) s.now →
     exec (.evrecRateRead code) s =
       .next (((s.setFld Reg.EVREC_RATE_CMD_CODE code.toNat).setFld Reg.EVREC_RATE_CMD_OP 2).setReg Reg.EVREC_RATE_DATA
         (BitVec.ofNat 64 (b.rate * 2 ^ 48 + b.depth * 2 ^ 32 + b.level / 10 ^ 9 * 2 ^ 16 + min b.supp 0xFFFF))))

/-- The first watchdog expiry within a minute records the event and restarts management. An image over PLDM or the
UART starts an update; a programmed slot installs it, and a trial image is confirmed. A sample goes to its
register. A glitch of VDD_CORE7 is recorded, one of the other detectors restarts management too. While management
runs, each PLDM and MCTP request is answered on SMBus as the tables say, the platform ones with a monitor session
open, and an out-of-band frame for this port gets its reply; a message of another MCTP type is discarded without
effect. -/
def Obligations.ManagementCommandsComplete : Prop :=
  (∀ s : State, s.mgmt.wdogTimes.filter (fun t => s.now < t + 60 * 10 ^ 9) = [] →
     exec .mgmtWatchdogExpiry s =
       .next ({ s with mgmt.wdogTimes := [s.now], mgmt.afterWatchdog := true }.event 0x0D07 Reg.MGMT_PAGE
         (argWord [(0, 1)]) 0).mgmtRestart) ∧
  (∀ (s : State) (image : Image), s.mgmt.running = true → s.monitorOpen = true → s.updating = false →
     exec (.pldmFirmwareUpdate image) s = .next ((s.emit (.pldm .success [])).updateBegin .pldm image none)) ∧
  (∀ (s : State) (image : Image), s.mgmt.running = true → s.recovery = true → s.updating = false →
     exec (.uartImageReceive image) s = .next (s.updateBegin .uart image none)) ∧
  (∀ (s : State) (src : UpdSource) (i : Image) (tag : Option Nat), s.mgmt.update = some (src, i, tag) →
     exec (.updateSlotProgrammed true) s = .next ({ s with mgmt.update := none }.updateInstall src i tag)) ∧
  (∀ s : State, s.mgmt.dirTrial = true → s.mgmt.running = true → s.mgmt.updated = none →
     exec .trialConfirm s = .next ({ s with mgmt.updated := none }.dirWrite s.mgmt.dirActive false).norRegs ∧
     (s.dirWrite s.mgmt.dirActive false).mgmt =
       { s.mgmt with dirTrial := false, dirSeq := s.mgmt.dirSeq + 1, dirCopy := !s.mgmt.dirCopy }) ∧
  (∀ (s : State) (n : Fin 40) (m : Fin 24) (f : Fin 4) (mv da w : BitVec 16) (rpm : BitVec 32),
     exec (.sensorSample (.voltage n mv)) s = .next (s.setFld (Reg.MGMT_VMON_MV n) mv.toNat) ∧
     exec (.sensorSample (.current m da)) s = .next (s.setFld (Reg.MGMT_IMON_DA m) da.toNat) ∧
     exec (.sensorSample (.fan f rpm)) s = .next (s.setFld (Reg.THERM_FAN_RPM f) rpm.toNat) ∧
     exec (.sensorSample (.chipPower w)) s = .next (s.setFld Reg.PWR_STATUS_P_MEAS_W w.toNat)) ∧
  (∀ s : State,
     exec (.glitchDetect .vddCore7) s =
       .next (s.event 0x0D06 Reg.MGMT_PAGE (argWord [(0, detectorValue .vddCore7)]) 0) ∧
     exec (.glitchDetect .vddStby) s =
       .next (s.event 0x0D06 Reg.MGMT_PAGE (argWord [(0, detectorValue .vddStby)]) 0).mgmtRestart) ∧
  (∀ (s : State) (tid : BitVec 8), s.mgmt.running = true →
     exec (.pldmBaseCommand (.setTid tid)) s = .next ({ s with mgmt.tid := tid }.emit (.pldm .success [])) ∧
     exec (.pldmBaseCommand .getTid) s = .next (s.emit (.pldm .success [s.mgmt.tid.toNat])) ∧
     exec (.pldmBaseCommand .getTypes) s = .next (s.emit (.pldm .success [0, 2, 5])) ∧
     exec (.pldmBaseCommand (.getVersion 2)) s = .next (s.emit (.pldm .success [1, 2])) ∧
     exec (.pldmBaseCommand (.getCommands 0)) s = .next (s.emit (.pldm .success [1, 2, 3, 4, 5]))) ∧
  (∀ (s : State) (handle : BitVec 32) (i : Nat), s.mgmt.running = true → s.monitorOpen = true →
     i = (if handle = 0 then 0 else handle.toNat - 1) →
     (∀ id, sensorIds[i]? = some id → exec (.pldmGetPdr handle) s =
       .next (s.emit (.pldm .success [if i + 1 < sensorIds.length then i + 2 else 0, id]))) ∧
     (sensorIds[i]? = none → exec (.pldmGetPdr handle) s = .next (s.emit (.pldm .invalid [])))) ∧
  (∀ (s : State) (id : BitVec 16) (v : Nat), s.mgmt.running = true → s.monitorOpen = true →
     s.sensorReading id.toNat = some v →
     exec (.pldmGetSensorReading id) s = .next (s.emit (.pldm .success [v]))) ∧
  (∀ (s : State) (id : BitVec 16), s.mgmt.running = true → s.monitorOpen = true →
     exec (.pldmGetStateSensorReadings id) s = .next (s.emit (.pldm .invalid []))) ∧
  (∀ (s : State) (eid : BitVec 8), s.mgmt.running = true → s.monitorOpen = true →
     exec (.pldmSetEventReceiver eid) s = .next ({ s with mgmt.eventReceiver := some eid }.emit (.pldm .success []))) ∧
  (∀ (s : State) (eid : BitVec 8), s.mgmt.running = true →
     exec .pldmUnsupported s = .next (s.emit (.pldm .unsupported [])) ∧
     exec (.mctpSetEndpointId eid) s = .next ({ s with mgmt.eid := some eid }.emit (.mctpControl [eid.toNat])) ∧
     exec .mctpGetEndpointId s = .next (s.emit (.mctpControl [s.mctpEid])) ∧
     exec .mctpGetVersionSupport s = .next (s.emit (.mctpControl [1, 3])) ∧
     exec .mctpGetMessageTypeSupport s = .next (s.emit (.mctpControl [1, 5])) ∧
     exec .mctpOtherType s = .next s) ∧
  (∀ (s : State) (data : Bytes), s.mgmt.running = true → s.act Reg.MGMT_IF_CFG_OOB_EN = 1 →
     exec (.oobFrameReceive .arp true data) s = .next (s.emit (.oobReply (oobKind .arp) data)) ∧
     exec (.oobFrameReceive .neighbour true data) s = .next (s.emit (.oobReply (oobKind .neighbour) data)) ∧
     exec (.oobFrameReceive .echo true data) s = .next (s.emit (.oobReply (oobKind .echo) data)))

/-- The other forms of the management commands. A watchdog expiry within a minute of another is fatal cause 6. A second update is refused
on the channel it came by; one outside recovery is ignored on the UART. A slot that failed to program fails the update with cause 9, and
answers its control command. A confirmed trial of an update shows its result and is recorded; without a trial nothing is confirmed. A glitch
of MGMT_REFCLK restarts management. The remaining base commands answer their tables, or INVALID for a type there is not; a sensor there is
not answers INVALID. Without running management, without a monitor session for the platform commands, or for a frame that is not for this
port or not of a kind it answers, nothing happens. -/
def Obligations.ManagementOtherFormsComplete : Prop :=
  (∀ (s : State) (recent : List Nat), recent = s.mgmt.wdogTimes.filter (fun t => s.now < t + 60 * 10 ^ 9) → recent ≠ [] →
     exec .mgmtWatchdogExpiry s =
       .next (({ s with mgmt.wdogTimes := s.now :: recent, mgmt.afterWatchdog := true }.event 0x0D07 Reg.MGMT_PAGE
         (argWord [(0, recent.length + 1)]) 0).fatalEnter 6 0)) ∧
  (∀ (s : State) (image : Image), s.mgmt.running = true →
     (s.monitorOpen = true → s.updating = true → exec (.pldmFirmwareUpdate image) s = .next (s.emit (.pldm .alreadyInUpdateMode []))) ∧
     (s.recovery = false ∨ s.updating = true → exec (.uartImageReceive image) s = .next s)) ∧
  (∀ (s : State) (src : UpdSource) (i : Image) (tag : Option Nat) (ok : Bool),
     (s.mgmt.update = some (src, i, tag) → exec (.updateSlotProgrammed false) s = .next ((s.updateFail 9).ctlAnswer tag .fault 9 0)) ∧
     (s.mgmt.update = none → exec (.updateSlotProgrammed ok) s = .next s)) ∧
  (∀ (s t : State) (i : Image), t = ({ s with mgmt.updated := none }.dirWrite s.mgmt.dirActive false).norRegs →
     (s.mgmt.dirTrial = true → s.mgmt.running = true → s.mgmt.updated ≠ none →
       (if s.mgmt.dirActive then s.mgmt.slotB else s.mgmt.slotA) = some i →
       exec .trialConfirm s = .next (((t.setFld Reg.MGMT_UPD_STATUS_STEP 0).setFld Reg.MGMT_UPD_STATUS_RESULT 1).event 0x0D03 Reg.MGMT_PAGE
         (argWord [(0, (imageVersion i).toNat), (4, imageSvn i)]) 0)) ∧
     (s.mgmt.dirTrial = false ∨ s.mgmt.running = false → exec .trialConfirm s = .next s)) ∧
  (∀ s : State, exec (.glitchDetect .mgmtRefclk) s =
     .next (s.event 0x0D06 Reg.MGMT_PAGE (argWord [(0, detectorValue .mgmtRefclk)]) 0).mgmtRestart) ∧
  (∀ s : State, s.mgmt.running = true →
     exec (.pldmBaseCommand (.getVersion 0)) s = .next (s.emit (.pldm .success [Config.pldmBaseVersion])) ∧
     exec (.pldmBaseCommand (.getVersion 5)) s = .next (s.emit (.pldm .success [1, 1])) ∧
     exec (.pldmBaseCommand (.getCommands 2)) s = .next (s.emit (.pldm .success [0x04, 0x0A, 0x11, 0x21, 0x51])) ∧
     exec (.pldmBaseCommand (.getCommands 5)) s = .next (s.emit (.pldm .success
       [0x01, 0x02, 0x10, 0x14, 0x15, 0x16, 0x17, 0x18, 0x19, 0x1A, 0x1B, 0x1C, 0x1D])) ∧
     (∀ ty : BitVec 6, ty ≠ 0 → ty ≠ 2 → ty ≠ 5 →
       exec (.pldmBaseCommand (.getVersion ty)) s = .next (s.emit (.pldm .invalid [])) ∧
       exec (.pldmBaseCommand (.getCommands ty)) s = .next (s.emit (.pldm .invalid [])))) ∧
  (∀ (s : State) (id : BitVec 16), s.mgmt.running = true → s.monitorOpen = true → s.sensorReading id.toNat = none →
     exec (.pldmGetSensorReading id) s = .next (s.emit (.pldm .invalid []))) ∧
  (∀ (s : State) (handle : BitVec 32) (id : BitVec 16) (eid : BitVec 8) (image : Image), (s.mgmt.running = false ∨ s.monitorOpen = false) →
     exec (.pldmGetPdr handle) s = .next s ∧ exec (.pldmGetSensorReading id) s = .next s ∧
     exec (.pldmGetStateSensorReadings id) s = .next s ∧ exec (.pldmSetEventReceiver eid) s = .next s ∧
     exec (.pldmFirmwareUpdate image) s = .next s) ∧
  (∀ (s : State) (cmd : PldmBase) (eid : BitVec 8) (frame : OobFrame) (forUs : Bool) (data : Bytes),
     (s.mgmt.running = false → exec (.pldmBaseCommand cmd) s = .next s ∧ exec .pldmUnsupported s = .next s ∧
       exec (.mctpSetEndpointId eid) s = .next s ∧ exec .mctpGetEndpointId s = .next s ∧ exec .mctpGetVersionSupport s = .next s ∧
       exec .mctpGetMessageTypeSupport s = .next s) ∧
     (s.mgmt.running = false ∨ forUs = false ∨ s.act Reg.MGMT_IF_CFG_OOB_EN ≠ 1 ∨ frame = .other →
       exec (.oobFrameReceive frame forUs data) s = .next s))

/-- With a set time base, a period and no hold-up, the announced epoch is the first multiple of the period at least
10 microseconds ahead. At the epoch the head takes its snapshot, shows the epoch and sends the shadow. With DMA
allowed and a place in the tally ring, a held snapshot is written to it and leaves the queue, the partner's
shadow first. RD_CMD answers a tenant counter from the tenant table. The partner's shadow is kept whole. A read
of TRACE.RD gives the next word of the buffer's oldest record and moves the read position on by one. -/
def Obligations.PickAndTraceCommandsComplete : Prop :=
  (∀ (s : State) (p : Nat), p = s.act Reg.PICK_CFG_PERIOD_S * 10 ^ 9 → p ≠ 0 → s.fld Reg.TIME_STATUS_STATE ≠ 0 →
     s.chip.holdup = false → s.chip.cond ≠ .reset →
     exec .pickEpochAnnounce s = .next { s with pick.next := some (((s.now + 10000 + p - 1) / p) * p) }) ∧
  (∀ (s : State) (t : Nat), s.pick.next = some t → s.chip.holdup = false → s.chip.cond ≠ .reset →
     exec .pickEpochLatch s =
       .next (((({ s with pick.next := none }.takeSnap ⟨t, s.act Reg.PICK_CFG_PERIOD_S, 0, s.pickValues⟩).epochShown
         (t / 10 ^ 9 % 2 ^ 32)).shadowSend (t / 10 ^ 9 % 2 ^ 32) t).pickStatus.upRefresh)) ∧
  (∀ (s : State) (x : Snap) (rest : List Snap) (place : Nat × Nat), s.act Reg.PICK_CFG_RING_EN = 1 → s.dmaAllowed = true →
     s.tallyPlace = some place → s.pick.partnerDue = false → s.pick.held = x :: rest →
     exec .tallyRecordWrite s =
       .next (({ s with pick.held := rest }.tallyWrite x s.headIndex false place).pickStatus.upRefresh)) ∧
  (∀ (s : State) (x : Snap) (head : Nat) (place : Nat × Nat), s.act Reg.PICK_CFG_RING_EN = 1 → s.dmaAllowed = true →
     s.tallyPlace = some place → s.pick.partnerDue = true → s.pick.partner = some (x, head) →
     exec .tallyRecordWrite s = .next ({ s with pick.partnerDue := false }.tallyWrite x head true place).upRefresh) ∧
  (∀ (s : State) (index : BitVec 32), s.accepts Reg.PICK_RD_CMD → tenantBase ≤ index.toNat →
     index.toNat < tenantBase + tenantCounters →
     exec (.pickCounterRead index) s =
       .next ((s.setFld Reg.PICK_RD_CMD_INDEX index.toNat).setReg Reg.PICK_RD_DATA
         (BitVec.ofNat 64 (tGet s.pick.tenants (index.toNat - tenantBase) 0)))) ∧
  (∀ (s : State) (epoch : BitVec 32) (head : BitVec 8) (time : Nat), s.linkUp = true →
     exec (.pickShadow epoch head time []) s =
       .next ({ s with pick.partner := some (⟨time, s.act Reg.PICK_CFG_PERIOD_S, 0, []⟩, head.toNat) }.setFld
         Reg.PICK_PARTNER_EPOCH_EPOCH epoch.toNat)) ∧
  (∀ (s : State) (src : BitVec 6) (item : TraceItem) (full : Bool),
     exec (.traceRecord src item full) s = .next (s.traceItem src.toNat item full)) ∧
  (∀ (s : State) (pcs : List (BitVec 48)), exec (.traceSyncTimer pcs) s = .next (s.traceSync (List.range 61) pcs)) ∧
  (∀ (s : State) (r : TrRec) (rest : List TrRec), s.barReachable = true → s.trc.buf = r :: rest →
     s.trc.rd = 2 * (s.trc.put - s.trc.buf.length) →
     exec .traceBufferRead s =
       .next ({ s with trc.rd := s.trc.rd + 1 }.setReg Reg.TRACE_RD
         (BitVec.ofNat 64 (r.src + r.type * 2 ^ 8 + r.time * 2 ^ 16))))

/-- A ready control command with its buffer in order has its opcode's effect: IDENTIFY writes the head's identity;
ARRAY_CREATE sets the array id and claims modules; TIME_CONFIG sets the time source; ADDRESS_RETURN clears ACTIVE
at the head that answers for its partner and sets it, with an announcement, at the address's home; tenants, hosts, contracts, reduction settings, PSK maps, groups,
volumes, pins, clones, dictionary modes and dictionaries are applied and journaled, and the command is held until its records
are MIRRORED. TENANT_DELETE, SNAPSHOT_CREATE, REJOIN (with the IND messages of a head whose link is up) and REBALANCE begin the operation
that answers the command later. A snapshot that a relationship keeps is not deleted. A dictionary that is not in
dictionary form ends with INVALID_FIELD, one for which no slot is free with LIMIT, and one that could not be stored with BUSY. -/
def Obligations.ControlConfigurationCommandsComplete : Prop :=
  (∀ (s : State) (tag : Nat) (addr : Word), s.ctlGo tag 0x01 →
     exec (.identify tag .good addr) s = .next (s.ctlOk tag (s.emit (.dma addr s.identifyBytes)))) ∧
  (∀ (s t : State) (tag : Nat) (array : BitVec 48), s.ctlGo tag 0x02 → array ≠ 0 → s.own.arrayTag = none →
     s.fld Reg.OWN_ARRAY_ARRAY_ID = 0 → s.modulesIn.any (fun k => (s.module k).array != 0) = false →
     t = s.setFld Reg.OWN_ARRAY_ARRAY_ID array.toNat →
     exec (.arrayCreate tag .good array) s =
       .next { (t.modulesIn.filter (fun k => !(t.module k).claimed)).foldl
         (fun (u : State) k => u.mqpIssue k 0x40 0 0 0 0 (u.arrayWord k) 3 .claim) t with own.arrayTag := some tag }.claimEval) ∧
  (∀ (s : State) (tag : Nat), s.ctlGo tag 0x03 → s.role = 5 → s.dk.sizesDiffer = false → s.own.rejoin = false →
     (s.linkUp = false → exec (.rejoin tag .good) s = .next { s with own.rejoin := true, own.joinTags := s.own.joinTags ++ [tag] }) ∧
     (s.linkUp = true →
       exec (.rejoin tag .good) s = .next { s with own.rejoin := true, own.joinTags := s.own.joinTags ++ [tag] }.indPaired)) ∧
  (∀ (s : State) (tag : Nat) (group target : BitVec 8), s.ctlHere tag 0x04 group.toNat → target = 1 - BitVec.ofNat 8 s.headIndex →
     s.headIndex < 2 → s.paired = true → s.bit Reg.OWN_STATUS_MIRROR_READY = true → s.own.swaps = [] → s.own.planned = [] →
     (s.changeFree = true → exec (.rebalance tag .good group target) s = .next (s.swapStart group.toNat (some tag))) ∧
     (s.changeFree = false →
       exec (.rebalance tag .good group target) s = .next { s with own.planned := [(group.toNat, some tag)] })) ∧
  (∀ (s : State) (tag : Nat) (lane : BitVec 16) (domain transport src : BitVec 8), s.ctlGo tag 0x05 →
     lane.toNat ≤ 63 → domain.toNat ≤ 127 → transport.toNat ≤ 2 → src.toNat ≤ 3 →
     exec (.timeConfig tag .good lane domain transport src) s =
       .next (s.ctlOk tag ({ s with fab.ptpPort := lane.toNat, fab.ptpDomain := domain.toNat, fab.ptpTransport := transport.toNat
         }.setFld Reg.TIME_CTRL_SRC src.toNat))) ∧
  (∀ (s t : State) (tag : Nat) (entry : BitVec 8), s.ctlGo tag 0x06 → s.act (Reg.HEDDLE_ADDR_ATTR_VALID entry.toNat) = 1 →
     (s.act (Reg.HEDDLE_ADDR_ATTR_HOME entry.toNat) = 1 → s.act (Reg.HEDDLE_ADDR_ATTR_ACTIVE entry.toNat) = 1 →
       t = s.addressSet entry.toNat false →
       exec (.addressReturn tag .good entry) s =
         .next (s.ctlOk tag { t with
           fab.answersPartner := t.announceEntries.any (fun j => t.act (Reg.HEDDLE_ADDR_ATTR_ACTIVE j) == 1) })) ∧
     (s.act (Reg.HEDDLE_ADDR_ATTR_HOME entry.toNat) = 0 → s.act (Reg.HEDDLE_ADDR_ATTR_ACTIVE entry.toNat) = 0 →
       t = { s.addressSet entry.toNat true with fab.answersHome := true } →
       exec (.addressReturn tag .good entry) s = .next (s.ctlOk tag (t.announceEntry entry.toNat)))) ∧
  (∀ (s : State) (tag : Nat) (tenant c1 c2 c3 : BitVec 16) (nqn sn mn : Bytes), s.ctlGo tag 0x10 →
     tenant ≠ 0 → tenant.toNat ≤ 4095 → nqn ≠ [] → nqn.length ≤ 223 → sn.length = 20 → mn.length = 40 →
     s.tenant? tenant.toNat = none → s.nv.tenants.any (fun x => x.2.nqn == nqn) = false →
     exec (.tenantCreate tag .good tenant c1 c2 c3 nqn sn mn) s =
       .next (s.ctlOk tag (s.ctlEntry ⟨0x13, [1, tenant.toNat, c1.toNat, c2.toNat, c3.toNat, nqn.length] ++
         (nqn ++ sn ++ mn).map (fun b => b.toNat)⟩))) ∧
  (∀ (s : State) (tag : Nat) (tenant : BitVec 16) (x : Tenant), s.ctlGo tag 0x11 → s.tenant? tenant.toNat = some x →
     x.san.stat ≠ 2 → x.deleting = none →
     exec (.tenantDelete tag .good tenant) s =
       .next ((s.modTenant tenant.toNat (fun (y : Tenant) => { y with deleting := some tag })).sanitizeBegin tenant.toNat)) ∧
  (∀ (s : State) (tag : Nat) (tenant : BitVec 16) (cls : BitVec 8) (nqn : Bytes) (x : Tenant), s.ctlGo tag 0x12 →
     s.tenant? tenant.toNat = some x → nqn ≠ [] → nqn.length ≤ 223 → cls.toNat ≤ 3 →
     (x.hosts.any (fun h => h.1 == nqn) = false → exec (.tenantHosts tag .good tenant 1 cls nqn) s =
       .next (s.ctlOk tag (s.ctlEntry ⟨0x13, [3, tenant.toNat, cls.toNat] ++ nqn.map (fun b => b.toNat)⟩))) ∧
     (x.hosts.any (fun h => h.1 == nqn) = true → exec (.tenantHosts tag .good tenant 2 cls nqn) s =
       .next (s.ctlOk tag (s.ctlEntry ⟨0x13, [4, tenant.toNat] ++ nqn.map (fun b => b.toNat)⟩)))) ∧
  (∀ (s : State) (tag : Nat) (tenant : BitVec 16) (w0 w1 w2 w3 : Word), s.ctlGo tag 0x13 →
     (tenant = 0 ∨ (s.tenant? tenant.toNat).isSome = true) →
     ({ s with loom.staged := tPut s.loom.staged tenant.toNat [w0, w1, w2, w3] }.shareSum).fld Reg.REED_SHARE_SUM_SUM ≤ 65536 →
     exec (.tenantContract tag .good tenant w0 w1 w2 w3) s =
       .next (s.ctlOk tag (s.ctlEntry ⟨0x13, [5, tenant.toNat, w0.toNat, w1.toNat, w2.toNat, w3.toNat]⟩))) ∧
  (∀ (s : State) (tag : Nat) (tenant : BitVec 16) (dedup comp verify : BitVec 8), s.ctlGo tag 0x14 →
     (tenant = 0 ∨ (s.tenant? tenant.toNat).isSome = true) → dedup.toNat ≤ 3 → comp.toNat ≤ 3 → verify.toNat ≤ 1 →
     exec (.tenantReduction tag .good tenant dedup comp verify) s =
       .next (s.ctlOk tag (s.ctlEntry ⟨0x13, [6, tenant.toNat, dedup.toNat + 16 * comp.toNat + 128 * verify.toNat]⟩))) ∧
  (∀ (s : State) (tag : Nat) (slot : BitVec 16) (id : Bytes), s.ctlGo tag 0x15 → slotType slot.toNat = .psk → id ≠ [] →
     id.length ≤ 256 →
     (s.nv.psks.find? (fun x => x.1 == id) = none → exec (.tenantPskMap tag .good slot 1 id) s =
       .next (s.ctlOk tag (s.ctlEntry ⟨0x13, [7, slot.toNat] ++ id.map (fun b => b.toNat)⟩))) ∧
     (s.nv.psks.find? (fun x => x.1 == id) = some (id, slot.toNat) → exec (.tenantPskMap tag .good slot 2 id) s =
       .next (s.ctlOk tag (s.ctlEntry ⟨0x13, 8 :: id.map (fun b => b.toNat)⟩)))) ∧
  (∀ (s : State) (tag : Nat) (group owner : BitVec 8), s.ctlGo tag 0x20 → owner.toNat ≤ 1 → tGet? s.nv.groups group.toNat = none →
     (s.solo = true → owner.toNat = s.headIndex) →
     exec (.groupCreate tag .good group owner) s = .next (s.ctlOk tag (s.setOwners [group.toNat] owner.toNat 1).ownShow)) ∧
  (∀ (s : State) (tag : Nat) (group : BitVec 8), s.ctlHere tag 0x21 group.toNat → s.nv.volumes.any (fun v => v.2.group == group.toNat) = false →
     tGet? s.own.swaps group.toNat = none →
     exec (.groupDelete tag .good group) s = .next (s.ctlOk tag (s.ctlEntry ⟨0x15, [group.toNat]⟩).ownShow)) ∧
  (∀ (s : State) (tag : Nat) (volume tenant : BitVec 16) (nsid : BitVec 32) (group lbaf : BitVec 8) (blocks : Word) (nguid : BitVec 128)
     (eui : Word) (x : Tenant), s.ctlHere tag 0x22 group.toNat → nsid ≠ 0 → nsid.toNat ≤ 1024 → lbaf.toNat ≤ 2 →
     s.tenant? tenant.toNat = some x → s.vol? volume.toNat = none → s.nsidUsed tenant.toNat nsid.toNat = false →
     s.tenantVolumes tenant.toNat < 1024 → sizeGrains lbaf.toNat blocks.toNat ≤ 2 ^ 36 → x.deleting = none → x.san.stat ≠ 2 →
     exec (.volumeCreate tag .good volume tenant nsid group lbaf blocks nguid eui) s =
       .next (s.ctlOk tag (s.ctlEntry ⟨0x14, [1, volume.toNat, tenant.toNat, nsid.toNat, group.toNat, lbaf.toNat, blocks.toNat,
         nguid.toNat, eui.toNat]⟩))) ∧
  (∀ (s : State) (tag : Nat) (volume : BitVec 16) (blocks : Word) (x : Volume), s.ctlHere tag 0x23 x.group →
     s.vol? volume.toNat = some x → x.formatting = none → sizeGrains x.lbaf blocks.toNat ≤ 2 ^ 36 →
     exec (.volumeResize tag .good volume blocks) s =
       .next (s.ctlOk tag (((if sizeGrains x.lbaf blocks.toNat < volGrains x then
         s.stageWrite volume.toNat [.deallocRange (sizeGrains x.lbaf blocks.toNat) (volGrains x - sizeGrains x.lbaf blocks.toNat)] []
         else s).ctlEntry ⟨0x14, [2, volume.toNat, blocks.toNat]⟩).settle))) ∧
  (∀ (s : State) (tag : Nat) (volume : BitVec 16) (x : Volume), s.ctlHere tag 0x24 x.group → s.vol? volume.toNat = some x →
     s.clonedFrom volume.toNat = false → s.repl.rels.any (fun e => e.2.volume == volume.toNat) = false → x.formatting = none →
     s.mp.snapOps.any (fun o => o.2.volumes.contains volume.toNat) = false →
     exec (.volumeDelete tag .good volume) s = .next (s.ctlOk tag (s.volumeDrop volume.toNat x))) ∧
  (∀ (s : State) (tag : Nat) (volume : BitVec 16) (x : Volume), s.ctlHere tag 0x25 x.group → s.vol? volume.toNat = some x →
     (x.pinned = true → exec (.volumePin tag .good volume 0) s = .next (s.ctlOk tag (s.ctlEntry ⟨0x07, [volume.toNat, 0]⟩))) ∧
     (x.pinned = false → exec (.volumePin tag .good volume 0) s = .next (s.ctlOk tag s)) ∧
     (x.lbaf ≠ 2 → (s.nv.volumes.filter (fun e => e.1 != volume.toNat && e.2.pinned && s.ownsGroup e.2.group)).foldl
         (fun n e => n + s.leafPages e.2) 0 + s.leafPages x ≤ s.act Reg.MAPX_MAP_CFG_PIN_GIB * 2 ^ 21 →
       (x.pinned = false → exec (.volumePin tag .good volume 1) s = .next (s.ctlOk tag (s.ctlEntry ⟨0x07, [volume.toNat, 1]⟩))) ∧
       (x.pinned = true → exec (.volumePin tag .good volume 1) s = .next (s.ctlOk tag s)))) ∧
  (∀ (s t : State) (tag : Nat) (volumes : List (BitVec 16)) (v : BitVec 16) (x : Volume), volumes.head? = some v →
     s.ctlHere tag 0x26 x.group → s.vol? v.toNat = some x → volumes.length ≤ 256 → (volumes.map (fun v => v.toNat)).Nodup →
     volumes.all (fun v => ((s.volGroup v.toNat).map (fun g => tGet s.nv.groups g 3 != 3)).getD false) = true →
     s.snapBegin (volumes.map (fun v => v.toNat)) (some tag) none = some t →
     exec (.snapshotCreate tag .good volumes) s = .next t) ∧
  (∀ (s : State) (tag : Nat) (snapshot : BitVec 32) (x : Snapshot) (o : Volume), s.ctlHere tag 0x27 o.group →
     tGet? s.mp.snaps snapshot.toNat = some x → s.vol? x.volume = some o → x.hidden = false →
     s.repl.rels.any (fun e => e.2.base == some snapshot.toNat || e.2.next == some snapshot.toNat ||
       e.2.bases.any (fun b => b.2 == snapshot.toNat)) = false →
     exec (.snapshotDelete tag .good snapshot) s = .next (s.ctlOk tag (s.snapDrop snapshot.toNat))) ∧
  (∀ (s : State) (tag : Nat) (snapshot : BitVec 32) (volume : BitVec 16) (nsid : BitVec 32) (x : Snapshot) (o : Volume), s.ctlHere tag 0x28 o.group →
     tGet? s.mp.snaps snapshot.toNat = some x → s.vol? x.volume = some o → x.hidden = false → nsid ≠ 0 → nsid.toNat ≤ 1024 →
     s.vol? volume.toNat = none → s.nsidUsed o.tenant nsid.toNat = false → s.tenantVolumes o.tenant < 1024 →
     exec (.cloneCreate tag .good snapshot volume nsid) s =
       .next (s.ctlOk tag ((((s.draw.2.draw.2.draw.2).ctlEntry ⟨0x14, [1, volume.toNat, o.tenant, nsid.toNat, o.group, o.lbaf, o.blocks,
         (Config.openWord s.draw.1).toNat * 2 ^ 64 + (Config.openWord s.draw.2.draw.1).toNat,
         (Config.openWord s.draw.2.draw.2.draw.1).toNat]⟩).ctlEntry
         ⟨0x06, [4, snapshot.toNat, x.volume, volume.toNat, x.gen, x.root, snapshot.toNat, x.beat]⟩).tcntAdd o.tenant 11
           (4096 * (s.treeGrains x.root).length)))) ∧
  (∀ (s : State) (tag : Nat) (volume : BitVec 16) (content : Bytes) (x : Volume), s.ctlHere tag 0x30 x.group → s.vol? volume.toNat = some x →
     exec (.dictControl tag .good volume 1 content) s =
       .next (s.ctlOk tag (s.ctlEntry ⟨0x14, [4, volume.toNat, x.dictMode / 2 * 2 + 1]⟩)) ∧
     exec (.dictControl tag .good volume 2 content) s =
       .next (s.ctlOk tag (s.ctlEntry ⟨0x14, [4, volume.toNat, x.dictMode / 2 * 2]⟩)) ∧
     exec (.dictControl tag .good volume 3 content) s =
       .next (s.ctlOk tag (s.ctlEntry ⟨0x14, [4, volume.toNat, x.dictMode % 2 + 2]⟩)) ∧
     exec (.dictControl tag .good volume 4 content) s =
       .next (s.ctlOk tag (s.ctlEntry ⟨0x14, [4, volume.toNat, x.dictMode % 2]⟩)) ∧
     exec (.dictControl tag .good volume 5 content) s =
       .next (if dictForm content = false then s.ctlFinish tag .invalidField 0 0
         else if s.dictSlot = none then s.ctlFinish tag .limit 0 0
         else if ((s.dictInstall volume.toNat content).vol? volume.toNat).map (fun y => y.dict) = some x.dict then s.ctlFinish tag .busy 0 0
         else s.ctlOk tag (s.dictInstall volume.toNat content)))

/-- A control command whose data buffer is too short or not aligned ends with INVALID_FIELD, and one whose buffer's DMA fails with DMA,
whatever its opcode; here of IDENTIFY and TENANT_CREATE. A ready command of the head, the tenants or the identities that its rules refuse
ends with the status they name and has no other effect: INVALID_FIELD for a field outside its range, EXISTS and NOT_FOUND for what exists
already or does not exist, STATE for a head or array in the wrong state, BUSY while an operation of its kind runs, LIMIT for a contract
that the shares leave no room for. -/
def Obligations.ControlConfigurationRefusals : Prop :=
  (∀ (s : State) (tag : Nat) (addr : Word) (tenant c1 c2 c3 : BitVec 16) (nqn sn mn : Bytes),
     (s.ctlGo tag 0x01 → exec (.identify tag .bad addr) s = .next (s.ctlFinish tag .invalidField 0 0) ∧
       exec (.identify tag .dma addr) s = .next (s.ctlFinish tag .dma 0 0)) ∧
     (s.ctlGo tag 0x10 → exec (.tenantCreate tag .bad tenant c1 c2 c3 nqn sn mn) s = .next (s.ctlFinish tag .invalidField 0 0) ∧
       exec (.tenantCreate tag .dma tenant c1 c2 c3 nqn sn mn) s = .next (s.ctlFinish tag .dma 0 0))) ∧
  (∀ (s : State) (tag : Nat) (array : BitVec 48), s.ctlGo tag 0x02 →
     exec (.arrayCreate tag .good 0) s = .next (s.ctlFinish tag .invalidField 0 0) ∧
     (array ≠ 0 → s.own.arrayTag ≠ none → exec (.arrayCreate tag .good array) s = .next (s.ctlFinish tag .busy 0 0)) ∧
     (array ≠ 0 → s.own.arrayTag = none →
       (s.fld Reg.OWN_ARRAY_ARRAY_ID ≠ 0 ∨ s.modulesIn.any (fun k => (s.module k).array != 0) = true) →
       exec (.arrayCreate tag .good array) s = .next (s.ctlFinish tag .state 0 0))) ∧
  (∀ (s : State) (tag : Nat), s.ctlGo tag 0x03 →
     ((s.role ≠ 5 ∨ s.dk.sizesDiffer = true) → exec (.rejoin tag .good) s = .next (s.ctlFinish tag .state 0 0)) ∧
     (s.role = 5 → s.dk.sizesDiffer = false → s.own.rejoin = true → exec (.rejoin tag .good) s = .next (s.ctlFinish tag .busy 0 0))) ∧
  (∀ (s : State) (tag : Nat) (lane : BitVec 16) (domain transport src : BitVec 8), s.ctlGo tag 0x05 →
     (63 < lane.toNat ∨ 127 < domain.toNat ∨ 2 < transport.toNat ∨ 3 < src.toNat) →
     exec (.timeConfig tag .good lane domain transport src) s = .next (s.ctlFinish tag .invalidField 0 0)) ∧
  (∀ (s : State) (tag : Nat) (entry : BitVec 8), s.ctlGo tag 0x06 →
     (s.act (Reg.HEDDLE_ADDR_ATTR_VALID entry.toNat) ≠ 1 → exec (.addressReturn tag .good entry) s = .next (s.ctlFinish tag .notFound 0 0)) ∧
     (s.act (Reg.HEDDLE_ADDR_ATTR_VALID entry.toNat) = 1 →
       (s.act (Reg.HEDDLE_ADDR_ATTR_HOME entry.toNat) = 0 ↔ s.act (Reg.HEDDLE_ADDR_ATTR_ACTIVE entry.toNat) = 1) →
       exec (.addressReturn tag .good entry) s = .next (s.ctlFinish tag .state 0 0))) ∧
  (∀ (s : State) (tag : Nat) (tenant c1 c2 c3 : BitVec 16) (nqn sn mn : Bytes), s.ctlGo tag 0x10 →
     ((tenant = 0 ∨ 4095 < tenant.toNat ∨ nqn = [] ∨ 223 < nqn.length ∨ sn.length ≠ 20 ∨ mn.length ≠ 40) →
       exec (.tenantCreate tag .good tenant c1 c2 c3 nqn sn mn) s = .next (s.ctlFinish tag .invalidField 0 0)) ∧
     (tenant ≠ 0 → tenant.toNat ≤ 4095 → nqn ≠ [] → nqn.length ≤ 223 → sn.length = 20 → mn.length = 40 →
       ((s.tenant? tenant.toNat).isSome = true ∨ s.nv.tenants.any (fun x => x.2.nqn == nqn) = true) →
       exec (.tenantCreate tag .good tenant c1 c2 c3 nqn sn mn) s = .next (s.ctlFinish tag .exists 0 0))) ∧
  (∀ (s : State) (tag : Nat) (tenant : BitVec 16), s.ctlGo tag 0x11 →
     (s.tenant? tenant.toNat = none → exec (.tenantDelete tag .good tenant) s = .next (s.ctlFinish tag .notFound 0 0)) ∧
     (∀ x, s.tenant? tenant.toNat = some x → (x.san.stat = 2 ∨ x.deleting ≠ none) →
       exec (.tenantDelete tag .good tenant) s = .next (s.ctlFinish tag .busy 0 0))) ∧
  (∀ (s : State) (tag : Nat) (tenant : BitVec 16) (op cls : BitVec 8) (nqn : Bytes), s.ctlGo tag 0x12 →
     (s.tenant? tenant.toNat = none → exec (.tenantHosts tag .good tenant op cls nqn) s = .next (s.ctlFinish tag .notFound 0 0)) ∧
     (∀ x, s.tenant? tenant.toNat = some x →
       ((nqn = [] ∨ 223 < nqn.length ∨ 3 < cls.toNat ∨ (op ≠ 1 ∧ op ≠ 2)) →
         exec (.tenantHosts tag .good tenant op cls nqn) s = .next (s.ctlFinish tag .invalidField 0 0)) ∧
       (nqn ≠ [] → nqn.length ≤ 223 → cls.toNat ≤ 3 →
         (x.hosts.any (fun h => h.1 == nqn) = true →
           exec (.tenantHosts tag .good tenant 1 cls nqn) s = .next (s.ctlFinish tag .exists 0 0)) ∧
         (x.hosts.any (fun h => h.1 == nqn) = false →
           exec (.tenantHosts tag .good tenant 2 cls nqn) s = .next (s.ctlFinish tag .notFound 0 0))))) ∧
  (∀ (s : State) (tag : Nat) (tenant : BitVec 16) (w0 w1 w2 w3 : Word), s.ctlGo tag 0x13 →
     (tenant ≠ 0 → s.tenant? tenant.toNat = none →
       exec (.tenantContract tag .good tenant w0 w1 w2 w3) s = .next (s.ctlFinish tag .notFound 0 0)) ∧
     ((tenant = 0 ∨ (s.tenant? tenant.toNat).isSome = true) →
       65536 < ({ s with loom.staged := tPut s.loom.staged tenant.toNat [w0, w1, w2, w3] }.shareSum).fld Reg.REED_SHARE_SUM_SUM →
       exec (.tenantContract tag .good tenant w0 w1 w2 w3) s = .next (s.ctlFinish tag .limit 0 0))) ∧
  (∀ (s : State) (tag : Nat) (tenant : BitVec 16) (dedup comp verify : BitVec 8), s.ctlGo tag 0x14 →
     ((3 < dedup.toNat ∨ 3 < comp.toNat ∨ 1 < verify.toNat) →
       exec (.tenantReduction tag .good tenant dedup comp verify) s = .next (s.ctlFinish tag .invalidField 0 0)) ∧
     (dedup.toNat ≤ 3 → comp.toNat ≤ 3 → verify.toNat ≤ 1 → tenant ≠ 0 → s.tenant? tenant.toNat = none →
       exec (.tenantReduction tag .good tenant dedup comp verify) s = .next (s.ctlFinish tag .notFound 0 0))) ∧
  (∀ (s : State) (tag : Nat) (slot : BitVec 16) (op : BitVec 8) (id : Bytes), s.ctlGo tag 0x15 →
     ((slotType slot.toNat ≠ .psk ∨ id = [] ∨ 256 < id.length ∨ (op ≠ 1 ∧ op ≠ 2)) →
       exec (.tenantPskMap tag .good slot op id) s = .next (s.ctlFinish tag .invalidField 0 0)) ∧
     (slotType slot.toNat = .psk → id ≠ [] → id.length ≤ 256 →
       ((s.nv.psks.find? (fun x => x.1 == id)).isSome = true →
         exec (.tenantPskMap tag .good slot 1 id) s = .next (s.ctlFinish tag .exists 0 0)) ∧
       ((s.nv.psks.find? (fun x => x.1 == id)).map (fun x => x.2) ≠ some slot.toNat →
         exec (.tenantPskMap tag .good slot 2 id) s = .next (s.ctlFinish tag .notFound 0 0))))

/-- A control command of a group whose owner is the other head ends with NOT_HERE, names the owner and is counted; where neither head owns
the group, it ends with STATE. At the owner, a ready command of groups, volumes, snapshots, clones or dictionaries that its rules refuse
ends with the status they name and has no other effect: INVALID_FIELD for a field outside its range, EXISTS and NOT_FOUND for what exists
already or does not exist, STATE for one in the wrong state, BUSY while another operation holds it, LIMIT where a limit leaves no room. -/
def Obligations.ControlGroupAndVolumeRefusals : Prop :=
  (∀ (s : State) (tag : Nat) (group target : BitVec 8), s.ctlReady tag 0x04 = true →
     tGet? s.nv.groups group.toNat = some (1 - s.headIndex) →
     exec (.rebalance tag .good group target) s =
       .next ((s.bump (Reg.CTLCH_CNT 4) 1).ctlFinish tag .notHere (BitVec.ofNat 64 (1 - s.headIndex)) 0)) ∧
  (∀ (s : State) (tag : Nat) (group : BitVec 8), s.ctlReady tag 0x21 = true → tGet? s.nv.groups group.toNat = some (1 - s.headIndex) →
     exec (.groupDelete tag .good group) s =
       .next ((s.bump (Reg.CTLCH_CNT 4) 1).ctlFinish tag .notHere (BitVec.ofNat 64 (1 - s.headIndex)) 0)) ∧
  (∀ (s : State) (tag : Nat) (group : BitVec 8) (o : Nat), s.ctlGo tag 0x21 → tGet? s.nv.groups group.toNat = some o → o ≠ s.headIndex →
     o ≠ 1 - s.headIndex → exec (.groupDelete tag .good group) s = .next (s.ctlFinish tag .state 0 0)) ∧
  (∀ (s : State) (tag : Nat) (group target : BitVec 8),
     (s.ctlGo tag 0x04 → tGet? s.nv.groups group.toNat = none →
       (1 < target.toNat → exec (.rebalance tag .good group target) s = .next (s.ctlFinish tag .invalidField 0 0)) ∧
       (target.toNat ≤ 1 → exec (.rebalance tag .good group target) s = .next (s.ctlFinish tag .notFound 0 0))) ∧
     (s.ctlHere tag 0x04 group.toNat →
       (1 < target.toNat → exec (.rebalance tag .good group target) s = .next (s.ctlFinish tag .invalidField 0 0)) ∧
       (target.toNat ≤ 1 → (s.paired = false ∨ s.bit Reg.OWN_STATUS_MIRROR_READY = false ∨ target.toNat = s.headIndex) →
         exec (.rebalance tag .good group target) s = .next (s.ctlFinish tag .state 0 0)) ∧
       (target.toNat ≤ 1 → s.paired = true → s.bit Reg.OWN_STATUS_MIRROR_READY = true → target.toNat ≠ s.headIndex →
         (s.own.swaps ≠ [] ∨ s.own.planned ≠ []) →
         exec (.rebalance tag .good group target) s = .next (s.ctlFinish tag .busy 0 0)))) ∧
  (∀ (s : State) (tag : Nat) (group owner : BitVec 8), s.ctlGo tag 0x20 →
     (1 < owner.toNat → exec (.groupCreate tag .good group owner) s = .next (s.ctlFinish tag .invalidField 0 0)) ∧
     (owner.toNat ≤ 1 → (tGet? s.nv.groups group.toNat).isSome = true →
       exec (.groupCreate tag .good group owner) s = .next (s.ctlFinish tag .exists 0 0)) ∧
     (owner.toNat ≤ 1 → tGet? s.nv.groups group.toNat = none → s.solo = true → owner.toNat ≠ s.headIndex →
       exec (.groupCreate tag .good group owner) s = .next (s.ctlFinish tag .state 0 0))) ∧
  (∀ (s : State) (tag : Nat) (group : BitVec 8),
     (s.ctlGo tag 0x21 → tGet? s.nv.groups group.toNat = none →
       exec (.groupDelete tag .good group) s = .next (s.ctlFinish tag .notFound 0 0)) ∧
     (s.ctlHere tag 0x21 group.toNat →
       (s.nv.volumes.any (fun v => v.2.group == group.toNat) = true ∨ (tGet? s.own.swaps group.toNat).isSome = true) →
       exec (.groupDelete tag .good group) s = .next (s.ctlFinish tag .state 0 0))) ∧
  (∀ (s : State) (tag : Nat) (volume tenant : BitVec 16) (nsid : BitVec 32) (group lbaf : BitVec 8) (blocks : Word) (nguid : BitVec 128)
     (eui : Word), s.ctlHere tag 0x22 group.toNat →
     ((nsid = 0 ∨ 1024 < nsid.toNat ∨ 2 < lbaf.toNat) →
       exec (.volumeCreate tag .good volume tenant nsid group lbaf blocks nguid eui) s = .next (s.ctlFinish tag .invalidField 0 0)) ∧
     (nsid ≠ 0 → nsid.toNat ≤ 1024 → lbaf.toNat ≤ 2 →
       (s.tenant? tenant.toNat = none →
         exec (.volumeCreate tag .good volume tenant nsid group lbaf blocks nguid eui) s = .next (s.ctlFinish tag .notFound 0 0)) ∧
       (∀ x, s.tenant? tenant.toNat = some x →
         (((s.vol? volume.toNat).isSome = true ∨ s.nsidUsed tenant.toNat nsid.toNat = true) →
           exec (.volumeCreate tag .good volume tenant nsid group lbaf blocks nguid eui) s = .next (s.ctlFinish tag .exists 0 0)) ∧
         (s.vol? volume.toNat = none → s.nsidUsed tenant.toNat nsid.toNat = false →
           ((1024 ≤ s.tenantVolumes tenant.toNat ∨ 2 ^ 36 < sizeGrains lbaf.toNat blocks.toNat) →
             exec (.volumeCreate tag .good volume tenant nsid group lbaf blocks nguid eui) s = .next (s.ctlFinish tag .limit 0 0)) ∧
           (s.tenantVolumes tenant.toNat < 1024 → sizeGrains lbaf.toNat blocks.toNat ≤ 2 ^ 36 →
             (x.deleting.isSome = true ∨ x.san.stat = 2) →
             exec (.volumeCreate tag .good volume tenant nsid group lbaf blocks nguid eui) s = .next (s.ctlFinish tag .state 0 0)))))) ∧
  (∀ (s : State) (tag : Nat) (volume : BitVec 16) (blocks : Word) (pin op : BitVec 8) (content : Bytes), s.vol? volume.toNat = none →
     (s.ctlGo tag 0x23 → exec (.volumeResize tag .good volume blocks) s = .next (s.ctlFinish tag .notFound 0 0)) ∧
     (s.ctlGo tag 0x24 → exec (.volumeDelete tag .good volume) s = .next (s.ctlFinish tag .notFound 0 0)) ∧
     (s.ctlGo tag 0x25 → exec (.volumePin tag .good volume pin) s = .next (s.ctlFinish tag .notFound 0 0)) ∧
     (s.ctlGo tag 0x30 → exec (.dictControl tag .good volume op content) s = .next (s.ctlFinish tag .notFound 0 0))) ∧
  (∀ (s : State) (tag : Nat) (volume : BitVec 16) (blocks : Word) (x : Volume), s.ctlHere tag 0x23 x.group → s.vol? volume.toNat = some x →
     (x.formatting.isSome = true → exec (.volumeResize tag .good volume blocks) s = .next (s.ctlFinish tag .state 0 0)) ∧
     (x.formatting = none → 2 ^ 36 < sizeGrains x.lbaf blocks.toNat →
       exec (.volumeResize tag .good volume blocks) s = .next (s.ctlFinish tag .limit 0 0))) ∧
  (∀ (s : State) (tag : Nat) (volume : BitVec 16) (x : Volume), s.ctlHere tag 0x24 x.group → s.vol? volume.toNat = some x →
     ((s.clonedFrom volume.toNat = true ∨ s.repl.rels.any (fun e => e.2.volume == volume.toNat) = true ∨ x.formatting.isSome = true) →
       exec (.volumeDelete tag .good volume) s = .next (s.ctlFinish tag .state 0 0)) ∧
     (s.clonedFrom volume.toNat = false → s.repl.rels.any (fun e => e.2.volume == volume.toNat) = false → x.formatting = none →
       s.mp.snapOps.any (fun o => o.2.volumes.contains volume.toNat) = true →
       exec (.volumeDelete tag .good volume) s = .next (s.ctlFinish tag .busy 0 0))) ∧
  (∀ (s : State) (tag : Nat) (volume : BitVec 16) (pin : BitVec 8) (x : Volume), s.ctlHere tag 0x25 x.group → s.vol? volume.toNat = some x →
     (1 < pin.toNat → exec (.volumePin tag .good volume pin) s = .next (s.ctlFinish tag .invalidField 0 0)) ∧
     (x.lbaf = 2 → exec (.volumePin tag .good volume 1) s = .next (s.ctlFinish tag .state 0 0)) ∧
     (x.lbaf ≠ 2 → s.act Reg.MAPX_MAP_CFG_PIN_GIB * 2 ^ 21 < (s.nv.volumes.filter (fun e => e.1 != volume.toNat && e.2.pinned &&
         s.ownsGroup e.2.group)).foldl (fun n e => n + s.leafPages e.2) 0 + s.leafPages x →
       exec (.volumePin tag .good volume 1) s = .next (s.ctlFinish tag .limit 0 0))) ∧
  (∀ (s : State) (tag : Nat), s.ctlGo tag 0x26 → exec (.snapshotCreate tag .good []) s = .next (s.ctlFinish tag .invalidField 0 0)) ∧
  (∀ (s : State) (tag : Nat) (volumes : List (BitVec 16)) (v : BitVec 16) (x : Volume), volumes.head? = some v →
     s.ctlHere tag 0x26 x.group → s.vol? v.toNat = some x →
     ((256 < volumes.length ∨ ¬(volumes.map (fun v => v.toNat)).Nodup) →
       exec (.snapshotCreate tag .good volumes) s = .next (s.ctlFinish tag .invalidField 0 0)) ∧
     (volumes.length ≤ 256 → (volumes.map (fun v => v.toNat)).Nodup →
       (volumes.any (fun v => (s.vol? v.toNat).isNone) = true →
         exec (.snapshotCreate tag .good volumes) s = .next (s.ctlFinish tag .notFound 0 0)) ∧
       (volumes.any (fun v => (s.vol? v.toNat).isNone) = false →
         (volumes.any (fun v => ((s.volGroup v.toNat).map (fun g => tGet s.nv.groups g 3 == 3)).getD true) = true →
           exec (.snapshotCreate tag .good volumes) s = .next (s.ctlFinish tag .state 0 0)) ∧
         (volumes.any (fun v => ((s.volGroup v.toNat).map (fun g => tGet s.nv.groups g 3 == 3)).getD true) = false →
           s.snapBegin (volumes.map (fun v => v.toNat)) (some tag) none = none →
           exec (.snapshotCreate tag .good volumes) s = .next (s.ctlFinish tag .limit 0 0))))) ∧
  (∀ (s : State) (tag : Nat) (snapshot : BitVec 32) (volume : BitVec 16) (nsid : BitVec 32), tGet? s.mp.snaps snapshot.toNat = none →
     (s.ctlGo tag 0x27 → exec (.snapshotDelete tag .good snapshot) s = .next (s.ctlFinish tag .notFound 0 0)) ∧
     (s.ctlGo tag 0x28 → exec (.cloneCreate tag .good snapshot volume nsid) s = .next (s.ctlFinish tag .notFound 0 0))) ∧
  (∀ (s : State) (tag : Nat) (snapshot : BitVec 32) (x : Snapshot) (o : Volume), s.ctlHere tag 0x27 o.group →
     tGet? s.mp.snaps snapshot.toNat = some x → s.vol? x.volume = some o →
     (x.hidden = true → exec (.snapshotDelete tag .good snapshot) s = .next (s.ctlFinish tag .notFound 0 0)) ∧
     (x.hidden = false → s.repl.rels.any (fun e => e.2.base == some snapshot.toNat || e.2.next == some snapshot.toNat ||
         e.2.bases.any (fun b => b.2 == snapshot.toNat)) = true →
       exec (.snapshotDelete tag .good snapshot) s = .next (s.ctlFinish tag .state 0 0))) ∧
  (∀ (s : State) (tag : Nat) (snapshot : BitVec 32) (volume : BitVec 16) (nsid : BitVec 32) (x : Snapshot) (o : Volume),
     s.ctlHere tag 0x28 o.group → tGet? s.mp.snaps snapshot.toNat = some x → s.vol? x.volume = some o →
     ((nsid = 0 ∨ 1024 < nsid.toNat) →
       exec (.cloneCreate tag .good snapshot volume nsid) s = .next (s.ctlFinish tag .invalidField 0 0)) ∧
     (nsid ≠ 0 → nsid.toNat ≤ 1024 →
       (x.hidden = true → exec (.cloneCreate tag .good snapshot volume nsid) s = .next (s.ctlFinish tag .notFound 0 0)) ∧
       (x.hidden = false → ((s.vol? volume.toNat).isSome = true ∨ s.nsidUsed o.tenant nsid.toNat = true) →
         exec (.cloneCreate tag .good snapshot volume nsid) s = .next (s.ctlFinish tag .exists 0 0)) ∧
       (x.hidden = false → s.vol? volume.toNat = none → s.nsidUsed o.tenant nsid.toNat = false → 1024 ≤ s.tenantVolumes o.tenant →
         exec (.cloneCreate tag .good snapshot volume nsid) s = .next (s.ctlFinish tag .limit 0 0)))) ∧
  (∀ (s : State) (tag : Nat) (volume : BitVec 16) (op : BitVec 8) (content : Bytes) (x : Volume), s.ctlHere tag 0x30 x.group →
     s.vol? volume.toNat = some x →
     ((op = 0 ∨ 5 < op.toNat) → exec (.dictControl tag .good volume op content) s = .next (s.ctlFinish tag .invalidField 0 0)) ∧
     (dictForm content = false → exec (.dictControl tag .good volume 5 content) s = .next (s.ctlFinish tag .invalidField 0 0)))

/-- A ready command of relationships, keys, sessions, the life cycle or management that its rules refuse ends with the status they name
and has no other effect: INVALID_FIELD for a field outside its range, EXISTS and NOT_FOUND for what exists already or does not exist,
STATE for a change that is not allowed or management in the wrong state, BUSY while another operation runs, LIMIT where the limits of R380
leave no room. An export that the key store refuses ends with KEY and the store's result, which KEYS.RESULT shows too. -/
def Obligations.ControlReplicationKeyAndManagementRefusals : Prop :=
  (∀ (s : State) (tag : Nat) (rel volume remote : BitVec 16) (mode entry : BitVec 8) (interval : BitVec 32) (array : BitVec 48)
     (ip : BitVec 128) (x : Volume), s.ctlHere tag 0x40 x.group → s.vol? volume.toNat = some x →
     ((rel = 0 ∨ mode = 0 ∨ 2 < mode.toNat ∨ array = 0 ∨ array = s.arrayId ∨
         (interval ≠ 0 ∧ mode = 1 ∧ (interval.toNat < 60 ∨ 86400 < interval.toNat))) →
       exec (.replCreate tag .good rel volume mode interval entry array ip remote) s = .next (s.ctlFinish tag .invalidField 0 0)) ∧
     (rel ≠ 0 → mode ≠ 0 → mode.toNat ≤ 2 → array ≠ 0 → array ≠ s.arrayId →
       (interval ≠ 0 → mode = 1 → 60 ≤ interval.toNat ∧ interval.toNat ≤ 86400) →
       (s.act (Reg.HEDDLE_ADDR_ATTR_VALID entry.toNat) ≠ 1 →
         exec (.replCreate tag .good rel volume mode interval entry array ip remote) s = .next (s.ctlFinish tag .notFound 0 0)) ∧
       (s.act (Reg.HEDDLE_ADDR_ATTR_VALID entry.toNat) = 1 →
         ((s.rel? (relKey (interval.toNat != 0) rel.toNat array)).isSome = true →
           exec (.replCreate tag .good rel volume mode interval entry array ip remote) s = .next (s.ctlFinish tag .exists 0 0)) ∧
         (s.rel? (relKey (interval.toNat != 0) rel.toNat array) = none →
           s.relRoom (interval.toNat != 0) volume.toNat mode.toNat array = false →
           exec (.replCreate tag .good rel volume mode interval entry array ip remote) s = .next (s.ctlFinish tag .limit 0 0))))) ∧
  (∀ (s : State) (tag : Nat) (rel volume remote : BitVec 16) (mode entry : BitVec 8) (interval : BitVec 32) (array : BitVec 48)
     (ip : BitVec 128) (x : Volume), s.ctlHere tag 0x41 x.group → s.vol? volume.toNat = some x →
     (s.rel? (relKey (interval.toNat != 0) rel.toNat array) = none →
       exec (.replModify tag .good rel volume mode interval entry array ip remote) s = .next (s.ctlFinish tag .notFound 0 0)) ∧
     (∀ r, s.rel? (relKey (interval.toNat != 0) rel.toNat array) = some r →
       (interval ≠ 0 → r.mode = 1 → (interval.toNat < 60 ∨ 86400 < interval.toNat) →
         exec (.replModify tag .good rel volume mode interval entry array ip remote) s = .next (s.ctlFinish tag .invalidField 0 0)) ∧
       ((interval ≠ 0 → r.mode = 1 → 60 ≤ interval.toNat ∧ interval.toNat ≤ 86400) →
         (s.act (Reg.HEDDLE_ADDR_ATTR_VALID entry.toNat) ≠ 1 →
           exec (.replModify tag .good rel volume mode interval entry array ip remote) s = .next (s.ctlFinish tag .notFound 0 0)) ∧
         (s.act (Reg.HEDDLE_ADDR_ATTR_VALID entry.toNat) = 1 →
           (r.mode ≠ mode.toNat ∨ r.volume ≠ volume.toNat ∨ r.peer ≠ array ∨ r.source ≠ (interval.toNat != 0)) →
           exec (.replModify tag .good rel volume mode interval entry array ip remote) s = .next (s.ctlFinish tag .state 0 0))))) ∧
  (∀ (s : State) (tag : Nat) (rel : BitVec 16), s.ctlGo tag 0x42 → s.relNamed rel.toNat = none →
     exec (.replDelete tag .good rel) s = .next (s.ctlFinish tag .notFound 0 0)) ∧
  (∀ (s : State) (tag : Nat) (slot : BitVec 16) (src : BitVec 8) (blob : Bytes), s.ctlGo tag 0x50 →
     (32767 < slot.toNat → exec (.keyImport tag .good slot src blob) s = .next (s.ctlFinish tag .invalidField 0 0)) ∧
     (slot.toNat ≤ 32767 → s.sec.op.isSome = true →
       exec (.keyImport tag .good slot src blob) s = .next (s.ctlFinish tag .busy 0 0))) ∧
  (∀ (s : State) (tag : Nat) (slot : BitVec 16) (peer : BitVec 8) (addr : Word), s.ctlGo tag 0x51 →
     ((15 < peer.toNat ∨ 32767 < slot.toNat) →
       exec (.keyExport tag .good slot peer addr) s = .next (s.ctlFinish tag .invalidField 0 0)) ∧
     (peer.toNat ≤ 15 → slot.toNat ≤ 32767 →
       (s.sec.op.isSome = true → exec (.keyExport tag .good slot peer addr) s = .next (s.ctlFinish tag .busy 0 0)) ∧
       (s.sec.op = none → (s.keyExport slot.toNat peer.toNat).1 ≠ 1 →
         exec (.keyExport tag .good slot peer addr) s =
           .next ((s.setKeyResult (s.keyExport slot.toNat peer.toNat).1 slot.toNat).ctlFinish tag .key
             (BitVec.ofNat 64 (s.keyExport slot.toNat peer.toNat).1) 0)))) ∧
  (∀ (s : State) (tag : Nat) (slot : BitVec 16) (peer : BitVec 8) (key : Bytes),
     (s.ctlGo tag 0x52 → s.sec.op.isSome = true → exec (.keyZeroize tag .good slot) s = .next (s.ctlFinish tag .busy 0 0)) ∧
     (s.ctlGo tag 0x53 → (15 < peer.toNat ∨ key.length ≠ 96) →
       exec (.peerSet tag .good peer key) s = .next (s.ctlFinish tag .invalidField 0 0)) ∧
     (s.ctlGo tag 0x53 → peer.toNat ≤ 15 → key.length = 96 → s.sec.op.isSome = true →
       exec (.peerSet tag .good peer key) s = .next (s.ctlFinish tag .busy 0 0))) ∧
  (∀ (s : State) (tag : Nat) (reg : BitVec 8) (value : Digest), s.ctlGo tag 0x55 → (reg.toNat < 16 ∨ 23 < reg.toNat) →
     exec (.measExtend tag .good reg value) s = .next (s.ctlFinish tag .invalidField 0 0)) ∧
  (∀ (s : State) (tag : Nat) (confirm : BitVec 8) (bad : List (BitVec 15)), s.ctlGo tag 0x57 →
     (s.sec.latch = false ∨ s.sec.alarms ≠ 0 ∨ confirm.setWidth 6 ≠ ~~~s.sec.sources) →
     exec (.tamperClear tag .good confirm bad) s = .next (s.ctlFinish tag .state 0 0)) ∧
  (∀ (s : State) (tag : Nat) (image : Image), s.ctlGo tag 0x60 →
     (s.updating = true → exec (.update tag .good image) s = .next (s.ctlFinish tag .busy 0 0)) ∧
     (s.updating = false → s.mgmt.running = false → exec (.update tag .good image) s = .next (s.ctlFinish tag .state 0 0))) ∧
  (∀ (s : State) (tag : Nat), s.ctlGo tag 0x61 →
     ((if s.mgmt.bootedB then s.mgmt.slotB else s.mgmt.slotA) = none ∨ s.mgmt.dirTrial = true ∨ s.mgmt.running = false) →
     exec (.rollbackCommit tag .good) s = .next (s.ctlFinish tag .state 0 0)) ∧
  (∀ (s : State) (tag : Nat) (period ringEn : BitVec 8) (base bytes : Word), s.ctlGo tag 0x70 →
     (period = 0 ∨ 63 < period.toNat ∨ 1 < ringEn.toNat) →
     exec (.counterConfig tag .good period ringEn base bytes) s = .next (s.ctlFinish tag .invalidField 0 0))

/-- A ready control command with its buffer in order has its opcode's effect. A relationship is created (the source
asks for its connection, the target waits for it), modified (a source whose address changes ends its connection and asks for one at the new
address) or deleted with its base snapshots; KEY_IMPORT and KEY_ZEROIZE start the key
operation that answers them; KEY_EXPORT writes the wrapped blob; PEER_SET stores the key; SPDM answers;
MEAS_EXTEND extends a register; LIFE_REQUEST begins the transition or ends with REQ_ERR; TAMPER_CLEAR clears the
latch when its checks hold; UPDATE begins; ROLLBACK_COMMIT raises the count and revokes lower keys;
COUNTER_CONFIG sets the PICK registers. REL_CMD loads the relationship's words. -/
def Obligations.ControlReplicationKeyAndManagementCommandsComplete : Prop :=
  (∀ (s t : State) (tag : Nat) (rel volume remote : BitVec 16) (mode entry : BitVec 8) (interval : BitVec 32) (array : BitVec 48)
     (ip : BitVec 128) (x : Volume), s.ctlHere tag 0x40 x.group → s.vol? volume.toNat = some x → rel ≠ 0 → mode = 1 ∨ mode = 2 → array ≠ 0 →
     array ≠ s.arrayId → s.act (Reg.HEDDLE_ADDR_ATTR_VALID entry.toNat) = 1 →
     (interval ≠ 0 → (mode = 1 → 60 ≤ interval.toNat ∧ interval.toNat ≤ 86400) → s.rel? rel.toNat = none →
       s.relRoom true volume.toNat mode.toNat array = true →
       t = (s.ctlEntry ⟨0x16, [1, rel.toNat, rel.toNat, 1, mode.toNat, volume.toNat, array.toNat, entry.toNat, ip.toNat, remote.toNat,
         interval.toNat]⟩).replShow →
       exec (.replCreate tag .good rel volume mode interval entry array ip remote) s =
         .next (s.ctlOk tag (t.emit (.replConnect rel.toNat entry.toNat ip)))) ∧
     (s.rel? (relKey false rel.toNat array) = none → s.relRoom false volume.toNat mode.toNat array = true →
       exec (.replCreate tag .good rel volume mode 0 entry array ip remote) s =
         .next (s.ctlOk tag (s.ctlEntry ⟨0x16, [1, relKey false rel.toNat array, rel.toNat, 0, mode.toNat, volume.toNat, array.toNat,
           entry.toNat, ip.toNat, remote.toNat, 0]⟩).replShow))) ∧
  (∀ (s : State) (tag : Nat) (rel volume remote : BitVec 16) (mode entry : BitVec 8) (interval : BitVec 32) (array : BitVec 48)
     (ip : BitVec 128) (x : Volume) (r : Rel), s.ctlHere tag 0x41 x.group → s.vol? volume.toNat = some x →
     interval.toNat ≠ 0 → s.rel? rel.toNat = some r → (r.mode = 1 → 60 ≤ interval.toNat ∧ interval.toNat ≤ 86400) →
     s.act (Reg.HEDDLE_ADDR_ATTR_VALID entry.toNat) = 1 → r.mode = mode.toNat → r.volume = volume.toNat → r.peer = array →
     r.source = true →
     (r.entry = entry.toNat → r.ip = ip → exec (.replModify tag .good rel volume mode interval entry array ip remote) s =
       .next (s.ctlOk tag (s.ctlEntry ⟨0x16, [2, rel.toNat, entry.toNat, ip.toNat, remote.toNat, interval.toNat]⟩))) ∧
     ((r.entry ≠ entry.toNat ∨ r.ip ≠ ip) → exec (.replModify tag .good rel volume mode interval entry array ip remote) s =
       .next (s.ctlOk tag (((s.relLost rel.toNat).ctlEntry ⟨0x16, [2, rel.toNat, entry.toNat, ip.toNat, remote.toNat,
         interval.toNat]⟩).emit (.replConnect rel.toNat entry.toNat ip))))) ∧
  (∀ (s : State) (tag : Nat) (rel volume remote : BitVec 16) (mode entry : BitVec 8) (array : BitVec 48) (ip : BitVec 128) (x : Volume)
     (r : Rel), s.ctlHere tag 0x41 x.group → s.vol? volume.toNat = some x → s.rel? (relKey false rel.toNat array) = some r →
     s.act (Reg.HEDDLE_ADDR_ATTR_VALID entry.toNat) = 1 → r.mode = mode.toNat → r.volume = volume.toNat → r.peer = array →
     r.source = false →
     exec (.replModify tag .good rel volume mode 0 entry array ip remote) s =
       .next (s.ctlOk tag (s.ctlEntry ⟨0x16, [2, relKey false rel.toNat array, entry.toNat, ip.toNat, remote.toNat, 0]⟩))) ∧
  (∀ (s : State) (tag : Nat) (rel : BitVec 16) (k : Nat) (r : Rel) (x : Volume), s.ctlHere tag 0x42 x.group →
     s.relNamed rel.toNat = some (k, r) → s.vol? r.volume = some x →
     exec (.replDelete tag .good rel) s =
       .next (s.ctlOk tag (((r.base.toList ++ r.next.toList ++ r.bases.map (fun b => b.2)).dedup.foldl
         (fun (t : State) i => t.snapDrop i) (((s.cycleAbort k).stagingDrop k).ctlEntry ⟨0x16, [3, k]⟩)).replShow.settle))) ∧
  (∀ (s : State) (tag : Nat) (slot : BitVec 16) (src : BitVec 8) (blob : Bytes), s.ctlGo tag 0x50 → slot.toNat ≤ 32767 →
     s.sec.op = none → exec (.keyImport tag .good slot src blob) s = .next (s.keyImport src.toNat slot.toNat blob (some tag))) ∧
  (∀ (s : State) (tag : Nat) (slot : BitVec 16) (peer : BitVec 8) (addr : Word), s.ctlGo tag 0x51 →
     peer.toNat ≤ 15 → slot.toNat ≤ 32767 → s.sec.op = none → (s.keyExport slot.toNat peer.toNat).1 = 1 →
     exec (.keyExport tag .good slot peer addr) s =
       .next (s.ctlOk tag (((s.emit (.dma addr (s.keyExport slot.toNat peer.toNat).2)).bump (Reg.KEYS_CNT 2) 1).setKeyResult 1 slot.toNat))) ∧
  (∀ (s : State) (tag : Nat) (slot : BitVec 16), s.ctlGo tag 0x52 → s.sec.op = none →
     exec (.keyZeroize tag .good slot) s = .next (s.keyZeroize slot.toNat (some tag))) ∧
  (∀ (s : State) (tag : Nat) (peer : BitVec 8) (key : Bytes), s.ctlGo tag 0x53 → peer.toNat ≤ 15 → key.length = 96 →
     s.sec.op = none → exec (.peerSet tag .good peer key) s = .next (s.ctlOk tag (s.peerSet peer.toNat key))) ∧
  (∀ (s : State) (tag : Nat) (request : SpdmReq) (t : State), s.ctlGo tag 0x54 → t = (s.spdmDo request).draw.2 →
     exec (.spdm tag .good request) s =
       .next (t.ctlHold tag ((List.range ((t.reg Reg.SELV_OWN_NEXT_SEQ).toNat - (s.reg Reg.SELV_OWN_NEXT_SEQ).toNat)).map
         (fun i => (s.reg Reg.SELV_OWN_NEXT_SEQ).toNat + i)) 0 (((Config.openWord (s.spdmDo request).draw.1).setWidth 32).setWidth 64))) ∧
  (∀ (s : State) (tag : Nat) (reg : BitVec 8) (value : Digest), s.ctlGo tag 0x55 → 16 ≤ reg.toNat → reg.toNat ≤ 23 →
     exec (.measExtend tag .good reg value) s = .next (s.ctlOk tag (s.measExtend reg.toNat (bytesBE value)))) ∧
  (∀ (s : State) (tag : Nat) (target : BitVec 8), s.ctlGo tag 0x56 →
     (s.lifeRefusal target.toNat true = none →
       exec (.lifeRequest tag .good target) s = .next (s.ctlOk tag (s.lifeBegin target.toNat))) ∧
     (∀ e, s.lifeRefusal target.toNat true = some e →
       exec (.lifeRequest tag .good target) s =
         .next ((s.setFld Reg.LIFE_STATUS_REQ_ERR e).ctlFinish tag .state (BitVec.ofNat 64 e) 0))) ∧
  (∀ (s : State) (tag : Nat) (confirm : BitVec 8) (bad : List (BitVec 15)), s.ctlGo tag 0x57 → s.sec.latch = true →
     s.sec.alarms = 0 → confirm.setWidth 6 = ~~~s.sec.sources →
     exec (.tamperClear tag .good confirm bad) s =
       .next (s.ctlOk tag (s.tamperClear (confirm.setWidth 6) (bad.map (fun b => b.toNat))))) ∧
  (∀ (s : State) (tag : Nat) (image : Image), s.ctlGo tag 0x60 → s.updating = false → s.mgmt.running = true →
     exec (.update tag .good image) s = .next (s.updateBegin .control image (some tag))) ∧
  (∀ (s t : State) (tag : Nat) (i : Image), s.ctlGo tag 0x61 →
     (if s.mgmt.bootedB then s.mgmt.slotB else s.mgmt.slotA) = some i →
     s.mgmt.dirTrial = false → s.mgmt.running = true →
     t = { s with life.rollback := max s.life.rollback (min 32 (imageSvn i)), life.revoked := s.life.revoked ||| BitVec.ofNat 4 (2 ^ min 4 (imageKeyIndex i) - 1) } →
     exec (.rollbackCommit tag .good) s =
       .next (s.ctlOk tag (((((t.setFld Reg.MGMT_ROLLBACK_COUNT t.life.rollback).setFld Reg.MGMT_ROLLBACK_REVOKED t.life.revoked.toNat).measExtend
         8 (bytesBE (Config.measured 8 [t.life.rollback, t.life.revoked.toNat, s.now]))).event 0x0D09 Reg.MGMT_PAGE
           (argWord [(0, t.life.rollback)]) 0).acceptableRegs))) ∧
  (∀ (s : State) (tag : Nat) (period ringEn : BitVec 8) (base bytes : Word), s.ctlGo tag 0x70 → period ≠ 0 →
     period.toNat ≤ 63 → ringEn.toNat ≤ 1 →
     exec (.counterConfig tag .good period ringEn base bytes) s =
       .next (s.ctlOk tag ((((s.setBoth Reg.PICK_CFG (setBits (setBits (s.reg Reg.PICK_CFG) 0 6 (periodOf period.toNat)) 8 1 ringEn.toNat)).setBoth
         Reg.PICK_RING_BASE (base &&& ~~~0xFFF)).setBoth Reg.PICK_RING_BYTES (bytes &&& ~~~0xFFF)).genNext Reg.PICK_PAGE))) ∧
  (∀ (s : State) (rel : BitVec 16), s.accepts Reg.REPL_REL_CMD → exec (.replRelRead rel) s = .next (s.relRead rel.toNat))

/-- PERST_N low resets the endpoint, closes the admin session and gates UPEP; high powers it again. A configuration
read is answered with the register. FLR resets the function. A power state shows in UPEP.LINK and D0 lets held
vectors and data go. A doorbell below the ring size moves the producer or consumer it names and nothing else. A
fetched command that passes its checks takes the next tag and one entry of its ring, and a finished command's
completion is posted at the completion tail with the phase, then leaves. Beats and their absence set
CTLCH.STATUS. Enabling a ring resets its indexes; disabling it drops it. Link training sets rate and width. An
unknown opcode completes with INVALID_OPCODE. -/
def Obligations.UpstreamAndControlRingCommandsComplete : Prop :=
  (∀ s : State, s.chip.perstN = true →
     exec .perstAssert s =
       .next ((((({ s with chip.perstN := false }.endpointReset.closeAdmin).setReg Reg.UPEP_LINK 0).setBit
         Reg.CTLCH_STATUS_PERST true).bump (Reg.UPEP_CNT 3) 1).upepPower PWR_GATED).upRefresh) ∧
  (∀ s t : State, t = { s with chip.perstN := true } →
     (t.chip.cond ≠ .reset → t.chip.mainPwrOk = true → exec .perstRelease s = .next (t.upepPower PWR_ON).upRefresh) ∧
     (t.chip.cond = .reset ∨ t.chip.mainPwrOk = false → exec .perstRelease s = .next t.upRefresh)) ∧
  (∀ (s : State) (reg : CfgReg) (data : BitVec 32), s.chip.perstN = true → s.chip.cond ≠ .reset → s.up.cfgReady = true →
     exec (.configRequest false reg data) s = .next (s.emit (.cfgData (s.cfgRead reg))) ∧
     exec (.configRequest true reg data) s = .next ((s.cfgWrite reg data).emit (.cfgData 0))) ∧
  (∀ s : State, exec .functionLevelReset s = .next ((s.endpointReset.bump (Reg.UPEP_CNT 4) 1).upRefresh)) ∧
  (∀ s : State,
     exec (.powerStateChange .d0) s =
       .next ((((s.setFld Reg.UPEP_LINK_DSTATE 0).upepOn).msix 18).dmaReturn).upRefresh ∧
     exec (.powerStateChange .d3hot) s = .next ((s.setFld Reg.UPEP_LINK_DSTATE 3).msix 18).upRefresh ∧
     exec (.powerStateChange .d3cold) s =
       .next ((((s.setReg Reg.UPEP_LINK 0).setFld Reg.UPEP_LINK_DSTATE 2).upepPower PWR_GATED).msix 18).upRefresh) ∧
  (∀ (s : State) (ring : Fin 16) (value : BitVec 32), s.barReachable = true → value.toNat < s.ringSize ring →
     exec (.sqTailDoorbell ring value) s = .next (s.setRing ring { s.ring ring with sqTail := value.toNat }) ∧
     exec (.cqHeadDoorbell ring value) s = .next (s.setRing ring { s.ring ring with cqHead := value.toNat })) ∧
  (∀ (s : State) (value : BitVec 32), s.barReachable = true → value.toNat < s.evRingSize →
     exec (.evConsDoorbell value) s = .next { s with up.evCons := value.toNat }.evDrain) ∧
  (∀ (s : State) (ring : Fin 16) (opcode : BitVec 16) (barrier : Bool) (cmdId : BitVec 32) (token : Word)
     (session : BitVec 32) (t : State), s.bit (Reg.CTLCH_RING_SIZE_EN ring) = true → s.dmaAllowed = true →
     (s.ring ring).sqHead ≠ (s.ring ring).sqTail → (s.up.cmds.filter (fun c => c.2.done.isNone)).length < 256 →
     s.fetchCheck opcode.toNat token session = none →
     t = (s.setRing ring { s.ring ring with sqHead := ((s.ring ring).sqHead + 1) % s.ringSize ring }).bump (Reg.CTLCH_CNT 0) 1 →
     exec (.commandFetch ring opcode barrier cmdId token session) s =
       .next { t with
         up.cmds := tPut t.up.cmds s.up.nextTag
           { ring := ring, cmdId := cmdId, opcode := opcode.toNat, barrier := barrier, token := token, orphan := false,
             done := none, waits := none }
         up.nextTag := s.up.nextTag + 1 }.upRefresh) ∧
  (∀ (s : State) (tag : Nat) (c : CtlCmd) (st : CtlStatus) (r0 r1 : Word) (next : Nat) (t : State),
     tGet? s.up.cmds tag = some c → c.done = some (st, r0, r1) → s.bit (Reg.CTLCH_RING_SIZE_EN c.ring) = true →
     s.dmaAllowed = true → next = ((s.ring c.ring).cqTail + 1) % s.ringSize c.ring → next ≠ (s.ring c.ring).cqHead →
     t = ((s.emit (.ctlCompletion c.ring (s.ring c.ring).cqTail (s.ring c.ring).phase c.cmdId st (s.ring c.ring).sqHead
       c.token r0 r1 (completionImage (s.ring c.ring).phase c.cmdId st (s.ring c.ring).sqHead c.token r0 r1))).setRing c.ring { s.ring c.ring with
         cqTail := next
         phase := if next = 0 then !(s.ring c.ring).phase else (s.ring c.ring).phase }).bump (Reg.CTLCH_CNT 1) 1 →
     exec (.commandCompletionPost tag) s = .next ({ t with up.cmds := tDel t.up.cmds tag }.msix c.ring).upRefresh) ∧
  (∀ s : State, s.accepts Reg.CTLCH_ALIVE →
     exec .aliveBeat s = .next (s.setBit Reg.CTLCH_STATUS_ALIVE_LATE false).upRefresh) ∧
  (∀ s : State,
     exec .aliveTimeout s = .next (s.setBit Reg.CTLCH_STATUS_ALIVE_LATE true).upRefresh ∧
     exec .wakeRearm s = .next { s with up.wakeHold := false }.wake) ∧
  (∀ (s : State) (ring : Fin 17) (cplBase : BitVec 40) (log2 : BitVec 4) (t : State), ring.val < 16 →
     s.accepts (Reg.CTLCH_RING_SIZE ring) → s.bit (Reg.CTLCH_RING_SIZE_EN ring) = false →
     t = (s.setReg (Reg.CTLCH_RING_SIZE ring) (BitVec.ofNat 64 (2 ^ 63 + cplBase.toNat * 2 ^ 12 + log2.toNat))).setRing ring
       { sqHead := 0, sqTail := 0, cqHead := 0, cqTail := 0, phase := true } →
     exec (.ringEnable ring cplBase log2) s =
       .next (({ t with up.kept := 0 }.ringStatus).setBit Reg.CTLCH_STATUS_PERST false).upRefresh) ∧
  (∀ (s : State) (ring : Fin 17), ring.val < 16 → s.accepts (Reg.CTLCH_RING_SIZE ring) →
     exec (.ringDisable ring) s = .next ((s.ringDrop ring).ringStatus).upRefresh) ∧
  (∀ (s : State) (rate : BitVec 3) (width : BitVec 5) (t : State),
     t = ((s.setFld Reg.UPEP_LINK_RATE rate.toNat).setFld Reg.UPEP_LINK_WIDTH width.toNat).msix 18 →
     exec (.upstreamLinkTrained rate width) s = .next (if t.fld Reg.UPEP_LINK_DSTATE = 0 then t.wakeRelease else t)) ∧
  (∀ (s : State) (tag : Nat) (c : CtlCmd), tGet? s.up.cmds tag = some c →
     opcodeTable.any (fun o => o.1 == c.opcode) = false →
     exec (.ctlUnknownOpcode tag) s = .next (s.ctlFinish tag .invalidOpcode 0 0))
end

