-- ==== Sys2Proof/Laws/Control.lean ====
section
/-!
SUPPORT. Sys2Proof/Laws/Control.lean: everything that running a command of the control channel can do, case by case.
-/

namespace Sys2Proof.Machine

namespace State

/-- A command that is not ready has no effect. -/
theorem ctlRun_not_ready {s : State} {tag opcode : Nat} (buf : CtlBuf) (f : State → CtlAnswer) (h : s.ctlReady tag opcode = false) :
    s.ctlRun tag opcode buf f = s := by
  simp [ctlRun, h]

/-- A command with a data buffer waits while DMA is not possible (R53). -/
theorem ctlRun_held {s : State} {tag opcode : Nat} (buf : CtlBuf) (f : State → CtlAnswer)
    (h : (bufferOpcodes.contains opcode && !s.dmaAllowed) = true) : s.ctlRun tag opcode buf f = s := by
  simp only [ctlRun, h, Bool.or_true, if_true]

/-- An entry that is not in order ends a ready command, and so does a buffer that cannot be read. -/
theorem ctlRun_bad {s : State} {tag opcode : Nat} (f : State → CtlAnswer) (h : s.ctlReady tag opcode = true)
    (hd : (bufferOpcodes.contains opcode && !s.dmaAllowed) = false) :
    s.ctlRun tag opcode .bad f = s.ctlFinish tag .invalidField 0 0 ∧ s.ctlRun tag opcode .dma f = s.ctlFinish tag .dma 0 0 := by
  simp only [ctlRun, h, hd]
  simp

/-- A ready command whose effect is a status other than `OK` ends with that status, and the effect is dropped. -/
theorem ctlRun_refused {s t : State} {tag opcode : Nat} {f : State → CtlAnswer} {st : CtlStatus} {r0 r1 : Word}
    (h : s.ctlReady tag opcode = true) (hd : (bufferOpcodes.contains opcode && !s.dmaAllowed) = false)
    (hf : f s = (some (st, r0, r1), t)) (hst : st ≠ .ok) :
    s.ctlRun tag opcode .good f = s.ctlFinish tag st r0 r1 := by
  simp only [ctlRun, h, hd, hf]
  simp [hst]

/-- A ready command that is `OK` is held until every record that its effect journaled is MIRRORED. -/
theorem ctlRun_ok {s t : State} {tag opcode : Nat} {f : State → CtlAnswer} {r0 r1 : Word} (h : s.ctlReady tag opcode = true)
    (hd : (bufferOpcodes.contains opcode && !s.dmaAllowed) = false) (hf : f s = (some (.ok, r0, r1), t)) :
    s.ctlRun tag opcode .good f =
      t.ctlHold tag ((List.range ((t.reg Reg.SELV_OWN_NEXT_SEQ).toNat - (s.reg Reg.SELV_OWN_NEXT_SEQ).toNat)).map
        (fun i => (s.reg Reg.SELV_OWN_NEXT_SEQ).toNat + i)) r0 r1 := by
  simp only [ctlRun, h, hd, hf]
  simp

/-- A ready command that another step finishes. -/
theorem ctlRun_later {s t : State} {tag opcode : Nat} {f : State → CtlAnswer} (h : s.ctlReady tag opcode = true)
    (hd : (bufferOpcodes.contains opcode && !s.dmaAllowed) = false) (hf : f s = (none, t)) :
    s.ctlRun tag opcode .good f = t := by
  simp only [ctlRun, h, hd, hf]
  simp

/-- A command about a group that this head owns runs here. -/
theorem ctlOwned_here {s : State} {tag opcode : Nat} {buf : CtlBuf} {g : Nat} {f : State → CtlAnswer}
    (h : tGet? s.nv.groups g = some s.headIndex) : s.ctlOwned tag opcode buf (some g) f = s.ctlRun tag opcode buf f := by
  have h1 : ¬ s.headIndex = 1 - s.headIndex := by omega
  simp only [ctlOwned, h, ownsGroup]
  simp [h1, ctlRun, h]

/-- A command about a group that the other head owns completes with `NOT_HERE` and names the owner. -/
theorem ctlOwned_not_here {s : State} {tag opcode : Nat} {buf : CtlBuf} {g : Nat} {f : State → CtlAnswer}
    (h : s.ctlReady tag opcode = true) (hg : tGet? s.nv.groups g = some (1 - s.headIndex)) :
    s.ctlOwned tag opcode buf (some g) f = (s.bump (Reg.CTLCH_CNT 4) 1).ctlFinish tag .notHere (BitVec.ofNat 64 (1 - s.headIndex)) 0 := by
  simp [ctlOwned, h, hg]

/-- A command whose group does not exist runs here. -/
theorem ctlOwned_no_group {s : State} {tag opcode : Nat} {buf : CtlBuf} {g : Nat} {f : State → CtlAnswer}
    (h : tGet? s.nv.groups g = none) : s.ctlOwned tag opcode buf (some g) f = s.ctlRun tag opcode buf f := by
  simp [ctlOwned, h, ctlRun]

end State

end Sys2Proof.Machine
end

