-- ==== Sys2Proof/Laws/Exec.lean ====
section
/-!
SUPPORT. Sys2Proof/Laws/Exec.lean: what `exec` calls for each command, one lemma a constructor, so that no proof unfolds the
dispatch.
-/

namespace Sys2Proof.Machine

@[simp] theorem exec_registerWrite (addr : BitVec 29) (bytes : Nat) (value : Word) (s : State) :
    exec (.registerWrite addr bytes value) s = execRegisterWrite addr bytes value s := rfl
@[simp] theorem exec_discardedRead (addr : BitVec 29) (bytes : Nat) (s : State) :
    exec (.discardedRead addr bytes) s = execDiscardedRead addr bytes s := rfl
@[simp] theorem exec_blkEnable (page : BitVec 13) (value : Word) (s : State) :
    exec (.blkEnable page value) s = execBlkEnable page value s := rfl
@[simp] theorem exec_blkDisable (page : BitVec 13) (value : Word) (s : State) :
    exec (.blkDisable page value) s = execBlkDisable page value s := rfl
@[simp] theorem exec_blkDrain (page : BitVec 13) (value : Word) (s : State) :
    exec (.blkDrain page value) s = execBlkDrain page value s := rfl
@[simp] theorem exec_softReset (page : BitVec 13) (value : Word) (s : State) :
    exec (.softReset page value) s = execSoftReset page value s := rfl
@[simp] theorem exec_softResetDone (page : BitVec 13) (s : State) :
    exec (.softResetDone page) s = execSoftResetDone page s := rfl
@[simp] theorem exec_blkCommit (page : BitVec 13) (value : Word) (s : State) :
    exec (.blkCommit page value) s = execBlkCommit page value s := rfl
@[simp] theorem exec_blkCommitApply (page : BitVec 13) (s : State) :
    exec (.blkCommitApply page) s = execBlkCommitApply page s := rfl
@[simp] theorem exec_initComplete (page : BitVec 13) (s : State) :
    exec (.initComplete page) s = execInitComplete page s := rfl
@[simp] theorem exec_drainComplete (page : BitVec 13) (s : State) :
    exec (.drainComplete page) s = execDrainComplete page s := rfl
@[simp] theorem exec_blockFault (page : BitVec 13) (s : State) :
    exec (.blockFault page) s = execBlockFault page s := rfl
@[simp] theorem exec_failedWorkMoved (page : BitVec 13) (s : State) :
    exec (.failedWorkMoved page) s = execFailedWorkMoved page s := rfl
@[simp] theorem exec_dpcFailure (dpc : Fin 18) (s : State) :
    exec (.dpcFailure dpc) s = execDpcFailure dpc s := rfl
@[simp] theorem exec_powerRequest (page : BitVec 13) (req : BitVec 2) (s : State) :
    exec (.powerRequest page req) s = execPowerRequest page req s := rfl
@[simp] theorem exec_intRawClear (page : BitVec 13) (value : Word) (s : State) :
    exec (.intRawClear page value) s = execIntRawClear page value s := rfl
@[simp] theorem exec_accessErrRearm (value : Word) (s : State) :
    exec (.accessErrRearm value) s = execAccessErrRearm value s := rfl
@[simp] theorem exec_accessErrCntClear (value : Word) (s : State) :
    exec (.accessErrCntClear value) s = execAccessErrCntClear value s := rfl
@[simp] theorem exec_timeStep (ns : Word) (s : State) :
    exec (.timeStep ns) s = execTimeStep ns s := rfl
@[simp] theorem exec_timeNowLowRead (s : State) :
    exec (.timeNowLowRead) s = execTimeNowLowRead s := rfl
@[simp] theorem exec_timeLocked (s : State) :
    exec (.timeLocked) s = execTimeLocked s := rfl
@[simp] theorem exec_timeSourceLost (s : State) :
    exec (.timeSourceLost) s = execTimeSourceLost s := rfl
@[simp] theorem exec_timeSourceReturn (s : State) :
    exec (.timeSourceReturn) s = execTimeSourceReturn s := rfl
@[simp] theorem exec_ppsInEdge (s : State) :
    exec (.ppsInEdge) s = execPpsInEdge s := rfl
@[simp] theorem exec_ppsOutPulse (s : State) :
    exec (.ppsOutPulse) s = execPpsOutPulse s := rfl
@[simp] theorem exec_beatBoundary (s : State) :
    exec (.beatBoundary) s = execBeatBoundary s := rfl
@[simp] theorem exec_standbyPowerLoss (s : State) :
    exec (.standbyPowerLoss) s = execStandbyPowerLoss s := rfl
@[simp] theorem exec_standbyPowerGood (s : State) :
    exec (.standbyPowerGood) s = execStandbyPowerGood s := rfl
@[simp] theorem exec_chipResetAssert (s : State) :
    exec (.chipResetAssert) s = execChipResetAssert s := rfl
@[simp] theorem exec_chipResetRelease (boot : BitVec 2) (rtc : Nat) (s : State) :
    exec (.chipResetRelease boot rtc) s = execChipResetRelease boot rtc s := rfl
@[simp] theorem exec_mgmtImageLoaded (flipM flipN : Bool) (s : State) :
    exec (.mgmtImageLoaded flipM flipN) s = execMgmtImageLoaded flipM flipN s := rfl
@[simp] theorem exec_mainPowerGood (deckOk : Bool) (s : State) :
    exec (.mainPowerGood deckOk) s = execMainPowerGood deckOk s := rfl
@[simp] theorem exec_dramTrainingDone (failed : List (Fin 16)) (sizeGib rateMts : Nat) (s : State) :
    exec (.dramTrainingDone failed sizeGib rateMts) s = execDramTrainingDone failed sizeGib rateMts s := rfl
@[simp] theorem exec_dramInitDone (s : State) :
    exec (.dramInitDone) s = execDramInitDone s := rfl
@[simp] theorem exec_svcImageLoaded (flipM flipN : Bool) (s : State) :
    exec (.svcImageLoaded flipM flipN) s = execSvcImageLoaded flipM flipN s := rfl
@[simp] theorem exec_modulePortsReady (s : State) :
    exec (.modulePortsReady) s = execModulePortsReady s := rfl
@[simp] theorem exec_checkpointRootsLoaded (partner : RootsRead) (s : State) :
    exec (.checkpointRootsLoaded partner) s = execCheckpointRootsLoaded partner s := rfl
@[simp] theorem exec_journalReplayDone (partnerMissing : Bool) (scan : List ScanRow) (s : State) :
    exec (.journalReplayDone partnerMissing scan) s = execJournalReplayDone partnerMissing scan s := rfl
@[simp] theorem exec_dumpConsumed (area : Fin 2) (s : State) :
    exec (.dumpConsumed area) s = execDumpConsumed area s := rfl
@[simp] theorem exec_mainPowerLoss (s : State) :
    exec (.mainPowerLoss) s = execMainPowerLoss s := rfl
@[simp] theorem exec_perstAssert (s : State) :
    exec (.perstAssert) s = execPerstAssert s := rfl
@[simp] theorem exec_perstRelease (s : State) :
    exec (.perstRelease) s = execPerstRelease s := rfl
@[simp] theorem exec_pwrFailAssert (s : State) :
    exec (.pwrFailAssert) s = execPwrFailAssert s := rfl
@[simp] theorem exec_pwrFailGlitch (s : State) :
    exec (.pwrFailGlitch) s = execPwrFailGlitch s := rfl
@[simp] theorem exec_holdupDumpComplete (s : State) :
    exec (.holdupDumpComplete) s = execHoldupDumpComplete s := rfl
@[simp] theorem exec_pwrFailRelease (s : State) :
    exec (.pwrFailRelease) s = execPwrFailRelease s := rfl
@[simp] theorem exec_holdupSelfReset (s : State) :
    exec (.holdupSelfReset) s = execHoldupSelfReset s := rfl
@[simp] theorem exec_mgmtWatchdogExpiry (s : State) :
    exec (.mgmtWatchdogExpiry) s = execMgmtWatchdogExpiry s := rfl
@[simp] theorem exec_lifeReqProvision (confirm : BitVec 8) (s : State) :
    exec (.lifeReqProvision confirm) s = execLifeReqProvision confirm s := rfl
@[simp] theorem exec_lifeReqDeployed (confirm : BitVec 8) (s : State) :
    exec (.lifeReqDeployed confirm) s = execLifeReqDeployed confirm s := rfl
@[simp] theorem exec_lifeReqReturn (confirm : BitVec 8) (s : State) :
    exec (.lifeReqReturn confirm) s = execLifeReqReturn confirm s := rfl
@[simp] theorem exec_lifeReqScrap (confirm : BitVec 8) (s : State) :
    exec (.lifeReqScrap confirm) s = execLifeReqScrap confirm s := rfl
@[simp] theorem exec_fuseCellBlown (ok : Bool) (s : State) :
    exec (.fuseCellBlown ok) s = execFuseCellBlown ok s := rfl
@[simp] theorem exec_lifeWorkDone (s : State) :
    exec (.lifeWorkDone) s = execLifeWorkDone s := rfl
@[simp] theorem exec_frameReceive (frame : Frame) (prio : Fin 8) (fill : Fin 101) (s : State) :
    exec (.frameReceive frame prio fill) s = execFrameReceive frame prio fill s := rfl
@[simp] theorem exec_frameResidenceTimeout (conn : Fin 16384) (s : State) :
    exec (.frameResidenceTimeout conn) s = execFrameResidenceTimeout conn s := rfl
@[simp] theorem exec_frontEndPortLoss (port : Fin 64) (s : State) :
    exec (.frontEndPortLoss port) s = execFrontEndPortLoss port s := rfl
@[simp] theorem exec_connEntryWrite (index : Fin 16384) (w0 w1 w2 w3 : Word) (s : State) :
    exec (.connEntryWrite index w0 w1 w2 w3) s = execConnEntryWrite index w0 w1 w2 w3 s := rfl
@[simp] theorem exec_connEntryDelete (index : Fin 16384) (s : State) :
    exec (.connEntryDelete index) s = execConnEntryDelete index s := rfl
@[simp] theorem exec_connEntryRead (index : Fin 16384) (s : State) :
    exec (.connEntryRead index) s = execConnEntryRead index s := rfl
@[simp] theorem exec_connEntryUpdateApply (s : State) :
    exec (.connEntryUpdateApply) s = execConnEntryUpdateApply s := rfl
@[simp] theorem exec_oldVersionRelease (index : Fin 16384) (s : State) :
    exec (.oldVersionRelease index) s = execOldVersionRelease index s := rfl
@[simp] theorem exec_addressVersionRelease (s : State) :
    exec (.addressVersionRelease) s = execAddressVersionRelease s := rfl
@[simp] theorem exec_intakeTermination (cmd : CmdFrom) (s : State) :
    exec (.intakeTermination cmd) s = execIntakeTermination cmd s := rfl
@[simp] theorem exec_rdmaReadResponse (cmd : CmdFrom) (off : Nat) (data : Bytes) (last : Bool) (s : State) :
    exec (.rdmaReadResponse cmd off data last) s = execRdmaReadResponse cmd off data last s := rfl
@[simp] theorem exec_roceAck (conn : Fin 16384) (reply : RoceAck) (count rtt : Nat) (s : State) :
    exec (.roceAck conn reply count rtt) s = execRoceAck conn reply count rtt s := rfl
@[simp] theorem exec_cnpReceive (conn : Fin 16384) (s : State) :
    exec (.cnpReceive conn) s = execCnpReceive conn s := rfl
@[simp] theorem exec_remoteAccessRequest (conn : Fin 16384) (s : State) :
    exec (.remoteAccessRequest conn) s = execRemoteAccessRequest conn s := rfl
@[simp] theorem exec_roceConnManagement (msg : CmMsg) (s : State) :
    exec (.roceConnManagement msg) s = execRoceConnManagement msg s := rfl
@[simp] theorem exec_tcpSyn (port : Fin 64) (addr : Fin 256) (localPort : BitVec 16) (s : State) :
    exec (.tcpSyn port addr localPort) s = execTcpSyn port addr localPort s := rfl
@[simp] theorem exec_icreq (conn : Fin 16384) (req : IcReq) (s : State) :
    exec (.icreq conn req) s = execIcreq conn req s := rfl
@[simp] theorem exec_h2cData (conn : Fin 16384) (ttag : BitVec 16) (off : Nat) (data : Bytes) (s : State) :
    exec (.h2cData conn ttag off data) s = execH2cData conn ttag off data s := rfl
@[simp] theorem exec_h2cTermReq (conn : Fin 16384) (s : State) :
    exec (.h2cTermReq conn) s = execH2cTermReq conn s := rfl
@[simp] theorem exec_ackTimeout (conn : Fin 16384) (s : State) :
    exec (.ackTimeout conn) s = execAckTimeout conn s := rfl
@[simp] theorem exec_tlsClientHello (conn : Fin 16384) (hello : Hello) (s : State) :
    exec (.tlsClientHello conn hello) s = execTlsClientHello conn hello s := rfl
@[simp] theorem exec_keyUpdate (conn : Fin 16384) (txSecret rxSecret : BitVec 15) (s : State) :
    exec (.keyUpdate conn txSecret rxSecret) s = execKeyUpdate conn txSecret rxSecret s := rfl
@[simp] theorem exec_announceRepeat (s : State) :
    exec (.announceRepeat) s = execAnnounceRepeat s := rfl
@[simp] theorem exec_ptpAnnounceTimeout (s : State) :
    exec (.ptpAnnounceTimeout) s = execPtpAnnounceTimeout s := rfl
@[simp] theorem exec_connect (cmd : CmdFrom) (data : ConnectData) (s : State) :
    exec (.connect cmd data) s = execConnect cmd data s := rfl
@[simp] theorem exec_propertyGet (cmd : CmdFrom) (off : BitVec 32) (s : State) :
    exec (.propertyGet cmd off) s = execPropertyGet cmd off s := rfl
@[simp] theorem exec_propertySet (cmd : CmdFrom) (off : BitVec 32) (value : Word) (s : State) :
    exec (.propertySet cmd off value) s = execPropertySet cmd off value s := rfl
@[simp] theorem exec_disconnect (cmd : CmdFrom) (s : State) :
    exec (.disconnect cmd) s = execDisconnect cmd s := rfl
@[simp] theorem exec_getLogPage (cmd : CmdFrom) (lid : BitVec 8) (s : State) :
    exec (.getLogPage cmd lid) s = execGetLogPage cmd lid s := rfl
@[simp] theorem exec_nvmeIdentify (cmd : CmdFrom) (cns : BitVec 8) (nsid : Nat) (s : State) :
    exec (.nvmeIdentify cmd cns nsid) s = execNvmeIdentify cmd cns nsid s := rfl
@[simp] theorem exec_abort (cmd : CmdFrom) (s : State) :
    exec (.abort cmd) s = execAbort cmd s := rfl
@[simp] theorem exec_setFeatures (cmd : CmdFrom) (fid : BitVec 8) (nsid : Nat) (save : Bool) (value : BitVec 32) (s : State) :
    exec (.setFeatures cmd fid nsid save value) s = execSetFeatures cmd fid nsid save value s := rfl
@[simp] theorem exec_getFeatures (cmd : CmdFrom) (fid : BitVec 8) (nsid : Nat) (sel : FeatureSel) (s : State) :
    exec (.getFeatures cmd fid nsid sel) s = execGetFeatures cmd fid nsid sel s := rfl
@[simp] theorem exec_asyncEventRequest (cmd : CmdFrom) (s : State) :
    exec (.asyncEventRequest cmd) s = execAsyncEventRequest cmd s := rfl
@[simp] theorem exec_keepAlive (cmd : CmdFrom) (s : State) :
    exec (.keepAlive cmd) s = execKeepAlive cmd s := rfl
@[simp] theorem exec_keepAliveExpiry (tenant : BitVec 12) (cntlid : BitVec 16) (s : State) :
    exec (.keepAliveExpiry tenant cntlid) s = execKeepAliveExpiry tenant cntlid s := rfl
@[simp] theorem exec_formatNvm (cmd : CmdFrom) (nsid lbaf : Nat) (pi : BitVec 3) (ses : BitVec 3) (s : State) :
    exec (.formatNvm cmd nsid lbaf pi ses) s = execFormatNvm cmd nsid lbaf pi ses s := rfl
@[simp] theorem exec_formatMapRootCommit (volume : BitVec 16) (s : State) :
    exec (.formatMapRootCommit volume) s = execFormatMapRootCommit volume s := rfl
@[simp] theorem exec_sanitizeCryptoErase (cmd : CmdFrom) (ndas : Bool) (s : State) :
    exec (.sanitizeCryptoErase cmd ndas) s = execSanitizeCryptoErase cmd ndas s := rfl
@[simp] theorem exec_sanitizeBlockErase (cmd : CmdFrom) (ndas : Bool) (s : State) :
    exec (.sanitizeBlockErase cmd ndas) s = execSanitizeBlockErase cmd ndas s := rfl
@[simp] theorem exec_sanitizeOverwrite (cmd : CmdFrom) (s : State) :
    exec (.sanitizeOverwrite cmd) s = execSanitizeOverwrite cmd s := rfl
@[simp] theorem exec_sanitizeExitFailure (cmd : CmdFrom) (s : State) :
    exec (.sanitizeExitFailure cmd) s = execSanitizeExitFailure cmd s := rfl
@[simp] theorem exec_sanitizePhaseComplete (tenant : BitVec 12) (failed : Bool) (s : State) :
    exec (.sanitizePhaseComplete tenant failed) s = execSanitizePhaseComplete tenant failed s := rfl
@[simp] theorem exec_flush (cmd : CmdFrom) (nsid : Nat) (s : State) :
    exec (.flush cmd nsid) s = execFlush cmd nsid s := rfl
@[simp] theorem exec_write (cmd : CmdFrom) (nsid : Nat) (range : LbaRange) (fua : Bool) (pi : PiReq) (data : Bytes) (standby : Standby) (s : State) :
    exec (.write cmd nsid range fua pi data standby) s = execWrite cmd nsid range fua pi data standby s := rfl
@[simp] theorem exec_read (cmd : CmdFrom) (nsid : Nat) (range : LbaRange) (pi : PiReq) (standby : Standby) (s : State) :
    exec (.read cmd nsid range pi standby) s = execRead cmd nsid range pi standby s := rfl
@[simp] theorem exec_compare (cmd : CmdFrom) (nsid : Nat) (range : LbaRange) (pi : PiReq) (data : Bytes) (standby : Standby) (s : State) :
    exec (.compare cmd nsid range pi data standby) s = execCompare cmd nsid range pi data standby s := rfl
@[simp] theorem exec_writeZeroes (cmd : CmdFrom) (nsid : Nat) (range : LbaRange) (fua : Bool) (standby : Standby) (s : State) :
    exec (.writeZeroes cmd nsid range fua standby) s = execWriteZeroes cmd nsid range fua standby s := rfl
@[simp] theorem exec_datasetManagement (cmd : CmdFrom) (nsid : Nat) (ranges : List LbaRange) (deallocate : Bool) (standby : Standby) (s : State) :
    exec (.datasetManagement cmd nsid ranges deallocate standby) s = execDatasetManagement cmd nsid ranges deallocate standby s := rfl
@[simp] theorem exec_copy (cmd : CmdFrom) (nsid : Nat) (source : LbaRange) (dest : BitVec 64) (simple : Bool) (prinfo fua : Bool) (standby : Standby) (s : State) :
    exec (.copy cmd nsid source dest simple prinfo fua standby) s = execCopy cmd nsid source dest simple prinfo fua standby s := rfl
@[simp] theorem exec_reservationRegister (cmd : CmdFrom) (nsid : Nat) (act : RegAct) (iekey : Bool) (ptpl : Option Bool) (crkey nrkey : Word) (s : State) :
    exec (.reservationRegister cmd nsid act iekey ptpl crkey nrkey) s = execReservationRegister cmd nsid act iekey ptpl crkey nrkey s := rfl
@[simp] theorem exec_reservationReport (cmd : CmdFrom) (nsid : Nat) (extended : Bool) (s : State) :
    exec (.reservationReport cmd nsid extended) s = execReservationReport cmd nsid extended s := rfl
@[simp] theorem exec_reservationAcquire (cmd : CmdFrom) (nsid : Nat) (act : AcqAct) (iekey : Bool) (rtype : BitVec 8) (crkey prkey : Word) (s : State) :
    exec (.reservationAcquire cmd nsid act iekey rtype crkey prkey) s = execReservationAcquire cmd nsid act iekey rtype crkey prkey s := rfl
@[simp] theorem exec_reservationRelease (cmd : CmdFrom) (nsid : Nat) (clear iekey : Bool) (rtype : BitVec 8) (crkey : Word) (s : State) :
    exec (.reservationRelease cmd nsid clear iekey rtype crkey) s = execReservationRelease cmd nsid clear iekey rtype crkey s := rfl
@[simp] theorem exec_unsupportedCommand (cmd : CmdFrom) (fused : Bool) (s : State) :
    exec (.unsupportedCommand cmd fused) s = execUnsupportedCommand cmd fused s := rfl
@[simp] theorem exec_reedTokensAvailable (id : Nat) (standby : Standby) (s : State) :
    exec (.reedTokensAvailable id standby) s = execReedTokensAvailable id standby s := rfl
@[simp] theorem exec_mapResolved (id : Nat) (standby : Standby) (s : State) :
    exec (.mapResolved id standby) s = execMapResolved id standby s := rfl
@[simp] theorem exec_loomSelfCheckFail (loom : Fin 2) (s : State) :
    exec (.loomSelfCheckFail loom) s = execLoomSelfCheckFail loom s := rfl
@[simp] theorem exec_loomSwapDue (digests : Standby) (s : State) :
    exec (.loomSwapDue digests) s = execLoomSwapDue digests s := rfl
@[simp] theorem exec_reedTblReadState (tenant : BitVec 12) (s : State) :
    exec (.reedTblReadState tenant) s = execReedTblReadState tenant s := rfl
@[simp] theorem exec_reedTblWriteStaged (tenant : BitVec 12) (w0 w1 w2 w3 : Word) (s : State) :
    exec (.reedTblWriteStaged tenant w0 w1 w2 w3) s = execReedTblWriteStaged tenant w0 w1 w2 w3 s := rfl
@[simp] theorem exec_reedTblReadStaged (tenant : BitVec 12) (s : State) :
    exec (.reedTblReadStaged tenant) s = execReedTblReadStaged tenant s := rfl
@[simp] theorem exec_reedTblReadActive (tenant : BitVec 12) (s : State) :
    exec (.reedTblReadActive tenant) s = execReedTblReadActive tenant s := rfl
@[simp] theorem exec_collectionFloorRecompute (s : State) :
    exec (.collectionFloorRecompute) s = execCollectionFloorRecompute s := rfl
@[simp] theorem exec_energyCardFit (cards : List CardFit) (s : State) :
    exec (.energyCardFit cards) s = execEnergyCardFit cards s := rfl
@[simp] theorem exec_energyOverrun (s : State) :
    exec (.energyOverrun) s = execEnergyOverrun s := rfl
@[simp] theorem exec_overwriteRatioUpdate (s : State) :
    exec (.overwriteRatioUpdate) s = execOverwriteRatioUpdate s := rfl
@[simp] theorem exec_claim (tag tenant : Nat) (items : List ClaimItem) (cmd : Option Nat) (s : State) :
    exec (.claim tag tenant items cmd) s = execClaim tag tenant items cmd s := rfl
@[simp] theorem exec_claimAnswer (tag : Nat) (grant : ClaimReply) (s : State) :
    exec (.claimAnswer tag grant) s = execClaimAnswer tag grant s := rfl
@[simp] theorem exec_shadow (added removed : List ShadowItem) (s : State) :
    exec (.shadow added removed) s = execShadow added removed s := rfl
@[simp] theorem exec_grainPipeline (cmd grain : Nat) (dpc : Fin 18) (verified cached : Bool) (s : State) :
    exec (.grainPipeline cmd grain dpc verified cached) s = execGrainPipeline cmd grain dpc verified cached s := rfl
@[simp] theorem exec_idxLookup (tag grain tenant chunk : Nat) (fp : Word256) (s : State) :
    exec (.idxLookup tag grain tenant chunk fp) s = execIdxLookup tag grain tenant chunk fp s := rfl
@[simp] theorem exec_idxAnswer (cmd grain : Nat) (hit : Option IdxHit) (s : State) :
    exec (.idxAnswer cmd grain hit) s = execIdxAnswer cmd grain hit s := rfl
@[simp] theorem exec_indexLookupTimeout (cmd grain : Nat) (s : State) :
    exec (.indexLookupTimeout cmd grain) s = execIndexLookupTimeout cmd grain s := rfl
@[simp] theorem exec_recordHeaderWrite (cmd : Nat) (s : State) :
    exec (.recordHeaderWrite cmd) s = execRecordHeaderWrite cmd s := rfl
@[simp] theorem exec_mirrorData (record : JRec) (members : List (Nat × Nat × Nat)) (good : Bool) (s : State) :
    exec (.mirrorData record members good) s = execMirrorData record members good s := rfl
@[simp] theorem exec_mirrorAck (acked flashed : List Nat) (s : State) :
    exec (.mirrorAck acked flashed) s = execMirrorAck acked flashed s := rfl
@[simp] theorem exec_mirrorResend (seq : Nat) (s : State) :
    exec (.mirrorResend seq) s = execMirrorResend seq s := rfl
@[simp] theorem exec_rowClose (segment : Nat) (s : State) :
    exec (.rowClose segment) s = execRowClose segment s := rfl
@[simp] theorem exec_rowCloseTimeout (segment : Nat) (s : State) :
    exec (.rowCloseTimeout segment) s = execRowCloseTimeout segment s := rfl
@[simp] theorem exec_stall (tag : Nat) (s : State) :
    exec (.stall tag) s = execStall tag s := rfl
@[simp] theorem exec_dramChannelFail (channel : Fin 16) (pages chunks : List Nat) (s : State) :
    exec (.dramChannelFail channel pages chunks) s = execDramChannelFail channel pages chunks s := rfl
@[simp] theorem exec_restripeComplete (s : State) :
    exec (.restripeComplete) s = execRestripeComplete s := rfl
@[simp] theorem exec_dramUncorrectableError (channel : Fin 16) (address : Word) (data : DramData) (s : State) :
    exec (.dramUncorrectableError channel address data) s = execDramUncorrectableError channel address data s := rfl
@[simp] theorem exec_pendingClear (chunk : Nat) (op : Fin 3) (s : State) :
    exec (.pendingClear chunk op) s = execPendingClear chunk op s := rfl
@[simp] theorem exec_tallyAuditStart (tenant : BitVec 12) (s : State) :
    exec (.tallyAuditStart tenant) s = execTallyAuditStart tenant s := rfl
@[simp] theorem exec_tallyAuditFinish (s : State) :
    exec (.tallyAuditFinish) s = execTallyAuditFinish s := rfl
@[simp] theorem exec_indexRunWrite (s : State) :
    exec (.indexRunWrite) s = execIndexRunWrite s := rfl
@[simp] theorem exec_indexRunFlushTimer (s : State) :
    exec (.indexRunFlushTimer) s = execIndexRunFlushTimer s := rfl
@[simp] theorem exec_reweave (pair : Option (Nat × Nat)) (s : State) :
    exec (.reweave pair) s = execReweave pair s := rfl
@[simp] theorem exec_dictTraining (volume : BitVec 16) (content : Bytes) (candidate current : Nat) (s : State) :
    exec (.dictTraining volume content candidate current) s = execDictTraining volume content candidate current s := rfl
@[simp] theorem exec_redWriteStaged (tenant : BitVec 12) (data : Word) (s : State) :
    exec (.redWriteStaged tenant data) s = execRedWriteStaged tenant data s := rfl
@[simp] theorem exec_redReadStaged (tenant : BitVec 12) (s : State) :
    exec (.redReadStaged tenant) s = execRedReadStaged tenant s := rfl
@[simp] theorem exec_redReadActive (tenant : BitVec 12) (s : State) :
    exec (.redReadActive tenant) s = execRedReadActive tenant s := rfl
@[simp] theorem exec_indexRebuildDone (s : State) :
    exec (.indexRebuildDone) s = execIndexRebuildDone s := rfl
@[simp] theorem exec_shardHandback (entries : List IdxEntry) (last : Bool) (s : State) :
    exec (.shardHandback entries last) s = execShardHandback entries last s := rfl
@[simp] theorem exec_grainReadStage (cmd grain : Nat) (dpc : Fin 18) (check : ReadCheck) (s : State) :
    exec (.grainReadStage cmd grain dpc check) s = execGrainReadStage cmd grain dpc check s := rfl
@[simp] theorem exec_pageinComplete (page : Nat) (good : Bool) (s : State) :
    exec (.pageinComplete page good) s = execPageinComplete page good s := rfl
@[simp] theorem exec_pageWriteback (page : Nat) (s : State) :
    exec (.pageWriteback page) s = execPageWriteback page s := rfl
@[simp] theorem exec_overlayFill (count : Nat) (s : State) :
    exec (.overlayFill count) s = execOverlayFill count s := rfl
@[simp] theorem exec_mapJournalRowClose (s : State) :
    exec (.mapJournalRowClose) s = execMapJournalRowClose s := rfl
@[simp] theorem exec_mapJournalFlushTimer (s : State) :
    exec (.mapJournalFlushTimer) s = execMapJournalFlushTimer s := rfl
@[simp] theorem exec_checkpointDue (s : State) :
    exec (.checkpointDue) s = execCheckpointDue s := rfl
@[simp] theorem exec_checkpointComplete (s : State) :
    exec (.checkpointComplete) s = execCheckpointComplete s := rfl
@[simp] theorem exec_pinResident (volume : BitVec 16) (s : State) :
    exec (.pinResident volume) s = execPinResident volume s := rfl
@[simp] theorem exec_snapNotice (tag start : Nat) (members : List (Nat × Nat)) (s : State) :
    exec (.snapNotice tag start members) s = execSnapNotice tag start members s := rfl
@[simp] theorem exec_snapConfirm (tag receipt : Nat) (s : State) :
    exec (.snapConfirm tag receipt) s = execSnapConfirm tag receipt s := rfl
@[simp] theorem exec_snapConfirmTimeout (tag : Nat) (s : State) :
    exec (.snapConfirmTimeout tag) s = execSnapConfirmTimeout tag s := rfl
@[simp] theorem exec_snapshotCut (tag : Nat) (s : State) :
    exec (.snapshotCut tag) s = execSnapshotCut tag s := rfl
@[simp] theorem exec_snapPauseEnd (tag : Nat) (s : State) :
    exec (.snapPauseEnd tag) s = execSnapPauseEnd tag s := rfl
@[simp] theorem exec_snapshotDeleteRun (snapshot : Nat) (s : State) :
    exec (.snapshotDeleteRun snapshot) s = execSnapshotDeleteRun snapshot s := rfl
@[simp] theorem exec_bobbinLookup (volume : BitVec 16) (grain : BitVec 36) (s : State) :
    exec (.bobbinLookup volume grain) s = execBobbinLookup volume grain s := rfl
@[simp] theorem exec_bobbinFillLand (dpc : Fin 18) (volume : BitVec 16) (page : Nat) (sector : Fin 8) (s : State) :
    exec (.bobbinFillLand dpc volume page sector) s = execBobbinFillLand dpc volume page sector s := rfl
@[simp] theorem exec_mergeBufferDrain (dpc : Fin 18) (s : State) :
    exec (.mergeBufferDrain dpc) s = execMergeBufferDrain dpc s := rfl
@[simp] theorem exec_mergeDrainTimeout (dpc : Fin 18) (s : State) :
    exec (.mergeDrainTimeout dpc) s = execMergeDrainTimeout dpc s := rfl
@[simp] theorem exec_keeperConfirmReq (tag grain chunk tenant fpCheck : Nat) (s : State) :
    exec (.keeperConfirmReq tag grain chunk tenant fpCheck) s = execKeeperConfirmReq tag grain chunk tenant fpCheck s := rfl
@[simp] theorem exec_keeperConfirm (cmd grain : Nat) (good : Bool) (s : State) :
    exec (.keeperConfirm cmd grain good) s = execKeeperConfirm cmd grain good s := rfl
@[simp] theorem exec_victimScoring (s : State) :
    exec (.victimScoring) s = execVictimScoring s := rfl
@[simp] theorem exec_collectVictim (damaged : List Nat) (lost : List Nat) (s : State) :
    exec (.collectVictim damaged lost) s = execCollectVictim damaged lost s := rfl
@[simp] theorem exec_segmentErase (segment : Nat) (s : State) :
    exec (.segmentErase segment) s = execSegmentErase segment s := rfl
@[simp] theorem exec_eraseClearReq (segment : Nat) (s : State) :
    exec (.eraseClearReq segment) s = execEraseClearReq segment s := rfl
@[simp] theorem exec_eraseClearAns (segment : Nat) (s : State) :
    exec (.eraseClearAns segment) s = execEraseClearAns segment s := rfl
@[simp] theorem exec_capReport (live metadata free reserved : Nat) (s : State) :
    exec (.capReport live metadata free reserved) s = execCapReport live metadata free reserved s := rfl
@[simp] theorem exec_capacityRecompute (s : State) :
    exec (.capacityRecompute) s = execCapacityRecompute s := rfl
@[simp] theorem exec_liveDelta (segment chunk bytes : Nat) (s : State) :
    exec (.liveDelta segment chunk bytes) s = execLiveDelta segment chunk bytes s := rfl
@[simp] theorem exec_patrolUnit (result : PatrolRead) (s : State) :
    exec (.patrolUnit result) s = execPatrolUnit result s := rfl
@[simp] theorem exec_segmentQuery (media : Fin 2) (segment : BitVec 24) (member : BitVec 5) (s : State) :
    exec (.segmentQuery media segment member) s = execSegmentQuery media segment member s := rfl
@[simp] theorem exec_mediaFailover (s : State) :
    exec (.mediaFailover) s = execMediaFailover s := rfl
@[simp] theorem exec_parityEngineFault (engine : Fin 4) (s : State) :
    exec (.parityEngineFault engine) s = execParityEngineFault engine s := rfl
@[simp] theorem exec_rebuildSegment (segment : Nat) (lost : RebuildRead) (s : State) :
    exec (.rebuildSegment segment lost) s = execRebuildSegment segment lost s := rfl
@[simp] theorem exec_rebuildStatusPublish (s : State) :
    exec (.rebuildStatusPublish) s = execRebuildStatusPublish s := rfl
@[simp] theorem exec_lostExtentSearch (s : State) :
    exec (.lostExtentSearch) s = execLostExtentSearch s := rfl
@[simp] theorem exec_slotChainFrame (inputs : List (BitVec 8)) (marker : BitVec 8) (s : State) :
    exec (.slotChainFrame inputs marker) s = execSlotChainFrame inputs marker s := rfl
@[simp] theorem exec_attentionButton (slot : Fin 64) (s : State) :
    exec (.attentionButton slot) s = execAttentionButton slot s := rfl
@[simp] theorem exec_powerControllerControl (port : Fin 64) (off : Bool) (s : State) :
    exec (.powerControllerControl port off) s = execPowerControllerControl port off s := rfl
@[simp] theorem exec_indicatorControl (port : Fin 64) (attention power : BitVec 2) (s : State) :
    exec (.indicatorControl port attention power) s = execIndicatorControl port attention power s := rfl
@[simp] theorem exec_poweringTimeout (port : Fin 64) (s : State) :
    exec (.poweringTimeout port) s = execPoweringTimeout port s := rfl
@[simp] theorem exec_perstReleaseDelay (port : Fin 64) (s : State) :
    exec (.perstReleaseDelay port) s = execPerstReleaseDelay port s := rfl
@[simp] theorem exec_moduleLinkTrained (port : Fin 64) (rate64 wide flit : Bool) (s : State) :
    exec (.moduleLinkTrained port rate64 wide flit) s = execModuleLinkTrained port rate64 wide flit s := rfl
@[simp] theorem exec_moduleLinkTimeout (port : Fin 64) (s : State) :
    exec (.moduleLinkTimeout port) s = execModuleLinkTimeout port s := rfl
@[simp] theorem exec_mqpReady (port : Fin 64) (s : State) :
    exec (.mqpReady port) s = execMqpReady port s := rfl
@[simp] theorem exec_moduleInitTimeout (port : Fin 64) (s : State) :
    exec (.moduleInitTimeout port) s = execModuleInitTimeout port s := rfl
@[simp] theorem exec_moduleEvacuated (port : Fin 64) (s : State) :
    exec (.moduleEvacuated port) s = execModuleEvacuated port s := rfl
@[simp] theorem exec_modulePortLoss (port : Fin 64) (cause : PortLoss) (s : State) :
    exec (.modulePortLoss port cause) s = execModulePortLoss port cause s := rfl
@[simp] theorem exec_readUnitComplete (done : MqpDone) (duration : Nat) (s : State) :
    exec (.readUnitComplete done duration) s = execReadUnitComplete done duration s := rfl
@[simp] theorem exec_readTagComplete (done : MqpDone) (duration : Nat) (tag : Option TagInfo) (s : State) :
    exec (.readTagComplete done duration tag) s = execReadTagComplete done duration tag s := rfl
@[simp] theorem exec_programUnitComplete (done : MqpDone) (duration : Nat) (s : State) :
    exec (.programUnitComplete done duration) s = execProgramUnitComplete done duration s := rfl
@[simp] theorem exec_eraseBlockComplete (done : MqpDone) (duration : Nat) (s : State) :
    exec (.eraseBlockComplete done duration) s = execEraseBlockComplete done duration s := rfl
@[simp] theorem exec_getGeometryComplete (done : MqpDone) (geometry : Geometry) (s : State) :
    exec (.getGeometryComplete done geometry) s = execGetGeometryComplete done geometry s := rfl
@[simp] theorem exec_getDefectsComplete (done : MqpDone) (bad : List (BitVec 16)) (s : State) :
    exec (.getDefectsComplete done bad) s = execGetDefectsComplete done bad s := rfl
@[simp] theorem exec_getHealthComplete (done : MqpDone) (health : Health) (s : State) :
    exec (.getHealthComplete done health) s = execGetHealthComplete done health s := rfl
@[simp] theorem exec_setPowerBudgetComplete (done : MqpDone) (s : State) :
    exec (.setPowerBudgetComplete done) s = execSetPowerBudgetComplete done s := rfl
@[simp] theorem exec_suspendPolicyComplete (done : MqpDone) (s : State) :
    exec (.suspendPolicyComplete done) s = execSuspendPolicyComplete done s := rfl
@[simp] theorem exec_arbCasComplete (done : MqpDone) (prior : Word) (s : State) :
    exec (.arbCasComplete done prior) s = execArbCasComplete done prior s := rfl
@[simp] theorem exec_mqpCommandTimeout (port : Fin 64) (queue : Fin 16) (cid : BitVec 16) (s : State) :
    exec (.mqpCommandTimeout port queue cid) s = execMqpCommandTimeout port queue cid s := rfl
@[simp] theorem exec_lateRead (port : Fin 64) (queue : Fin 16) (cid : BitVec 16) (s : State) :
    exec (.lateRead port queue cid) s = execLateRead port queue cid s := rfl
@[simp] theorem exec_flitReceive (flit : Flit) (s : State) :
    exec (.flitReceive flit) s = execFlitReceive flit s := rfl
@[simp] theorem exec_syncFlit (sent : Nat) (skew : BitVec 32) (s : State) :
    exec (.syncFlit sent skew) s = execSyncFlit sent skew s := rfl
@[simp] theorem exec_nakRepeat (s : State) :
    exec (.nakRepeat) s = execNakRepeat s := rfl
@[simp] theorem exec_replayTimeout (s : State) :
    exec (.replayTimeout) s = execReplayTimeout s := rfl
@[simp] theorem exec_replayLimitQuadDrop (errors : List Nat) (s : State) :
    exec (.replayLimitQuadDrop errors) s = execReplayLimitQuadDrop errors s := rfl
@[simp] theorem exec_quadLoss (quad : Fin 6) (s : State) :
    exec (.quadLoss quad) s = execQuadLoss quad s := rfl
@[simp] theorem exec_widthOrderedSet (mask : BitVec 6) (s : State) :
    exec (.widthOrderedSet mask) s = execWidthOrderedSet mask s := rfl
@[simp] theorem exec_quadReturn (quad : Fin 6) (s : State) :
    exec (.quadReturn quad) s = execQuadReturn quad s := rfl
@[simp] theorem exec_trainingAttempt (s : State) :
    exec (.trainingAttempt) s = execTrainingAttempt s := rfl
@[simp] theorem exec_trainingStateComplete (quads : BitVec 6) (s : State) :
    exec (.trainingStateComplete quads) s = execTrainingStateComplete quads s := rfl
@[simp] theorem exec_trainingAttemptTimeout (s : State) :
    exec (.trainingAttemptTimeout) s = execTrainingAttemptTimeout s := rfl
@[simp] theorem exec_partnerPresentChange (present : Bool) (s : State) :
    exec (.partnerPresentChange present) s = execPartnerPresentChange present s := rfl
@[simp] theorem exec_partnerAbsentTimeout (s : State) :
    exec (.partnerAbsentTimeout) s = execPartnerAbsentTimeout s := rfl
@[simp] theorem exec_linkRetryTimer (s : State) :
    exec (.linkRetryTimer) s = execLinkRetryTimer s := rfl
@[simp] theorem exec_absentRetryTimer (s : State) :
    exec (.absentRetryTimer) s = execAbsentRetryTimer s := rfl
@[simp] theorem exec_partnerWaitExpiry (s : State) :
    exec (.partnerWaitExpiry) s = execPartnerWaitExpiry s := rfl
@[simp] theorem exec_soloBootRecheck (s : State) :
    exec (.soloBootRecheck) s = execSoloBootRecheck s := rfl
@[simp] theorem exec_identity (id : DkIdentity) (s : State) :
    exec (.identity id) s = execIdentity id s := rfl
@[simp] theorem exec_heartbeatLoss (edge : Nat) (flits : Bool) (s : State) :
    exec (.heartbeatLoss edge flits) s = execHeartbeatLoss edge flits s := rfl
@[simp] theorem exec_heartbeatRestored (s : State) :
    exec (.heartbeatRestored) s = execHeartbeatRestored s := rfl
@[simp] theorem exec_holdup (s : State) :
    exec (.holdup) s = execHoldup s := rfl
@[simp] theorem exec_fence (word : Word) (s : State) :
    exec (.fence word) s = execFence word s := rfl
@[simp] theorem exec_leaseRenewal (s : State) :
    exec (.leaseRenewal) s = execLeaseRenewal s := rfl
@[simp] theorem exec_joinStart (s0 tail : Nat) (s : State) :
    exec (.joinStart s0 tail) s = execJoinStart s0 tail s := rfl
@[simp] theorem exec_bulk (record : JRec) (members : List (Nat × Nat × Nat)) (s : State) :
    exec (.bulk record members) s = execBulk record members s := rfl
@[simp] theorem exec_joinReady (held : Nat) (s : State) :
    exec (.joinReady held) s = execJoinReady held s := rfl
@[simp] theorem exec_mirrorAudit (s : State) :
    exec (.mirrorAudit) s = execMirrorAudit s := rfl
@[simp] theorem exec_auditDigest (first records : Nat) (digest : Word256) (answer ownGood mirrorGood : Bool) (s : State) :
    exec (.auditDigest first records digest answer ownGood mirrorGood) s = execAuditDigest first records digest answer ownGood mirrorGood s := rfl
@[simp] theorem exec_mirrorFetch (item : FetchItem) (s : State) :
    exec (.mirrorFetch item) s = execMirrorFetch item s := rfl
@[simp] theorem exec_mirrorCopy (item : CopyItem) (s : State) :
    exec (.mirrorCopy item) s = execMirrorCopy item s := rfl
@[simp] theorem exec_ownDigest (crc : BitVec 32) (s : State) :
    exec (.ownDigest crc) s = execOwnDigest crc s := rfl
@[simp] theorem exec_groupSwapPeriod (s : State) :
    exec (.groupSwapPeriod) s = execGroupSwapPeriod s := rfl
@[simp] theorem exec_batonOffer (group : BitVec 8) (gen : BitVec 32) (handover : Nat) (s : State) :
    exec (.batonOffer group gen handover) s = execBatonOffer group gen handover s := rfl
@[simp] theorem exec_batonAccept (group : BitVec 8) (handover : Nat) (s : State) :
    exec (.batonAccept group handover) s = execBatonAccept group handover s := rfl
@[simp] theorem exec_batonAbort (group : BitVec 8) (cause : BitVec 8) (s : State) :
    exec (.batonAbort group cause) s = execBatonAbort group cause s := rfl
@[simp] theorem exec_batonAnswerTimeout (group : BitVec 8) (s : State) :
    exec (.batonAnswerTimeout group) s = execBatonAnswerTimeout group s := rfl
@[simp] theorem exec_batonHandover (group : BitVec 8) (s : State) :
    exec (.batonHandover group) s = execBatonHandover group s := rfl
@[simp] theorem exec_batonCommit (group : BitVec 8) (gen : BitVec 32) (handover : Nat) (s : State) :
    exec (.batonCommit group gen handover) s = execBatonCommit group gen handover s := rfl
@[simp] theorem exec_fwdCmd (cmd : FwdCmd) (standby : Standby) (s : State) :
    exec (.fwdCmd cmd standby) s = execFwdCmd cmd standby s := rfl
@[simp] theorem exec_fwdData (tag off : Nat) (data : Bytes) (toOwner : Bool) (s : State) :
    exec (.fwdData tag off data toOwner) s = execFwdData tag off data toOwner s := rfl
@[simp] theorem exec_fwdCpl (tag sct sc delay : Nat) (redirect : Bool) (standby : Standby) (s : State) :
    exec (.fwdCpl tag sct sc delay redirect standby) s = execFwdCpl tag sct sc delay redirect standby s := rfl
@[simp] theorem exec_kcvList (entries : List KcvEntry) (last : Bool) (s : State) :
    exec (.kcvList entries last) s = execKcvList entries last s := rfl
@[simp] theorem exec_sanitizeStep (tenant : BitVec 12) (phase : Fin 8) (op : Fin 4) (erased seq : Nat) (s : State) :
    exec (.sanitizeStep tenant phase op erased seq) s = execSanitizeStep tenant phase op erased seq s := rfl
@[simp] theorem exec_replFwd (toOwner : Bool) (head : RplHead) (msg : RplMsg) (s : State) :
    exec (.replFwd toOwner head msg) s = execReplFwd toOwner head msg s := rfl
@[simp] theorem exec_pickShadow (epoch : BitVec 32) (head : BitVec 8) (time : Nat) (counters : List (Nat × Nat)) (s : State) :
    exec (.pickShadow epoch head time counters) s = execPickShadow epoch head time counters s := rfl
@[simp] theorem exec_replHello (head : RplHead) (hello : RplHello) (s : State) :
    exec (.replHello head hello) s = execReplHello head hello s := rfl
@[simp] theorem exec_replOffer (head : RplHead) (ents : List OfferEnt) (s : State) :
    exec (.replOffer head ents) s = execReplOffer head ents s := rfl
@[simp] theorem exec_replNeed (head : RplHead) (offer : Nat) (needed : List Bool) (dicts : List Nat) (s : State) :
    exec (.replNeed head offer needed dicts) s = execReplNeed head offer needed dicts s := rfl
@[simp] theorem exec_replGrain (head : RplHead) (ents : List GrainEnt) (s : State) :
    exec (.replGrain head ents) s = execReplGrain head ents s := rfl
@[simp] theorem exec_replDict (head : RplHead) (id len : Nat) (part : Bytes) (s : State) :
    exec (.replDict head id len part) s = execReplDict head id len part s := rfl
@[simp] theorem exec_replMapdelta (head : RplHead) (ranges : List (Nat × Nat)) (s : State) :
    exec (.replMapdelta head ranges) s = execReplMapdelta head ranges s := rfl
@[simp] theorem exec_replCommit (head : RplHead) (snap offered ranges : Nat) (digest : Word256) (s : State) :
    exec (.replCommit head snap offered ranges digest) s = execReplCommit head snap offered ranges digest s := rfl
@[simp] theorem exec_replAck (head : RplHead) (acked credits status entry rtt : Nat) (s : State) :
    exec (.replAck head acked credits status entry rtt) s = execReplAck head acked credits status entry rtt s := rfl
@[simp] theorem exec_replSyncWrite (head : RplHead) (write : SyncWrite) (standby : Standby) (s : State) :
    exec (.replSyncWrite head write standby) s = execReplSyncWrite head write standby s := rfl
@[simp] theorem exec_replSyncAck (head : RplHead) (seq status rtt : Nat) (s : State) :
    exec (.replSyncAck head seq status rtt) s = execReplSyncAck head seq status rtt s := rfl
@[simp] theorem exec_replBase (head : RplHead) (seq : Nat) (s : State) :
    exec (.replBase head seq) s = execReplBase head seq s := rfl
@[simp] theorem exec_replCycleStart (rel : Nat) (s : State) :
    exec (.replCycleStart rel) s = execReplCycleStart rel s := rfl
@[simp] theorem exec_replRetryTimer (rel : Nat) (s : State) :
    exec (.replRetryTimer rel) s = execReplRetryTimer rel s := rfl
@[simp] theorem exec_syncBaseTimer (rel : Nat) (s : State) :
    exec (.syncBaseTimer rel) s = execSyncBaseTimer rel s := rfl
@[simp] theorem exec_syncAckTimeout (rel seq : Nat) (s : State) :
    exec (.syncAckTimeout rel seq) s = execSyncAckTimeout rel seq s := rfl
@[simp] theorem exec_keysImport (src : BitVec 5) (slot : BitVec 15) (blob : Bytes) (s : State) :
    exec (.keysImport src slot blob) s = execKeysImport src slot blob s := rfl
@[simp] theorem exec_keysExport (slot : BitVec 15) (peer : BitVec 4) (s : State) :
    exec (.keysExport slot peer) s = execKeysExport slot peer s := rfl
@[simp] theorem exec_keysZeroize (slot : BitVec 15) (s : State) :
    exec (.keysZeroize slot) s = execKeysZeroize slot s := rfl
@[simp] theorem exec_keysInfo (slot : BitVec 15) (s : State) :
    exec (.keysInfo slot) s = execKeysInfo slot s := rfl
@[simp] theorem exec_keysPeerSet (peer : BitVec 4) (key : Bytes) (s : State) :
    exec (.keysPeerSet peer key) s = execKeysPeerSet peer key s := rfl
@[simp] theorem exec_ledgerAppendDone (s : State) :
    exec (.ledgerAppendDone) s = execLedgerAppendDone s := rfl
@[simp] theorem exec_keyDropDone (s : State) :
    exec (.keyDropDone) s = execKeyDropDone s := rfl
@[simp] theorem exec_ecdheGen (p384 : Bool) (slot : BitVec 15) (s : State) :
    exec (.ecdheGen p384 slot) s = execEcdheGen p384 slot s := rfl
@[simp] theorem exec_ecdh (priv : BitVec 15) (peer : Bytes) (dst : BitVec 15) (s : State) :
    exec (.ecdh priv peer dst) s = execEcdh priv peer dst s := rfl
@[simp] theorem exec_extract (salt input : Option (BitVec 15)) (dst : BitVec 15) (s : State) :
    exec (.extract salt input dst) s = execExtract salt input dst s := rfl
@[simp] theorem exec_expandLabel (secret : BitVec 15) (label context : Bytes) (dst : ExpandDst) (s : State) :
    exec (.expandLabel secret label context dst) s = execExpandLabel secret label context dst s := rfl
@[simp] theorem exec_mac (key : BitVec 15) (hash : Bytes) (s : State) :
    exec (.mac key hash) s = execMac key hash s := rfl
@[simp] theorem exec_schedZeroize (slot : BitVec 15) (s : State) :
    exec (.schedZeroize slot) s = execSchedZeroize slot s := rfl
@[simp] theorem exec_derivedSlotExpiry (slot : BitVec 15) (s : State) :
    exec (.derivedSlotExpiry slot) s = execDerivedSlotExpiry slot s := rfl
@[simp] theorem exec_trngHealthFail (s : State) :
    exec (.trngHealthFail) s = execTrngHealthFail s := rfl
@[simp] theorem exec_trngRecover (s : State) :
    exec (.trngRecover) s = execTrngRecover s := rfl
@[simp] theorem exec_xtsOperation (encrypt : Bool) (slot : BitVec 15) (tweak : BitVec 128) (data : Bytes) (s : State) :
    exec (.xtsOperation encrypt slot tweak data) s = execXtsOperation encrypt slot tweak data s := rfl
@[simp] theorem exec_gcmOperation (encrypt : Bool) (slot : BitVec 15) (setB : Bool) (iv aad data mac : Bytes) (s : State) :
    exec (.gcmOperation encrypt slot setB iv aad data mac) s = execGcmOperation encrypt slot setB iv aad data mac s := rfl
@[simp] theorem exec_digestInit (ctx : Fin 8) (alg : Hash) (s : State) :
    exec (.digestInit ctx alg) s = execDigestInit ctx alg s := rfl
@[simp] theorem exec_digestKeypadI (ctx : Fin 8) (level : SessLevel) (s : State) :
    exec (.digestKeypadI ctx level) s = execDigestKeypadI ctx level s := rfl
@[simp] theorem exec_digestKeypadO (ctx : Fin 8) (level : SessLevel) (inner : Fin 8) (msg : Bytes) (s : State) :
    exec (.digestKeypadO ctx level inner msg) s = execDigestKeypadO ctx level inner msg s := rfl
@[simp] theorem exec_digestRestore (ctx : Fin 8) (source : Fin 8) (seq : BitVec 32) (alg : Option Hash) (s : State) :
    exec (.digestRestore ctx source seq alg) s = execDigestRestore ctx source seq alg s := rfl
@[simp] theorem exec_digestFinal (ctx : Fin 8) (msg : Bytes) (s : State) :
    exec (.digestFinal ctx msg) s = execDigestFinal ctx msg s := rfl
@[simp] theorem exec_digestFinalCompare (ctx : Fin 8) (msg value : Bytes) (flipM flipN : Bool) (s : State) :
    exec (.digestFinalCompare ctx msg value flipM flipN) s = execDigestFinalCompare ctx msg value flipM flipN s := rfl
@[simp] theorem exec_measExtGo (mr : BitVec 5) (s : State) :
    exec (.measExtGo mr) s = execMeasExtGo mr s := rfl
@[simp] theorem exec_challengeRequest (level : SessLevel) (s : State) :
    exec (.challengeRequest level) s = execChallengeRequest level s := rfl
@[simp] theorem exec_challengeResponse (level : SessLevel) (answer : Word256) (s : State) :
    exec (.challengeResponse level answer) s = execChallengeResponse level answer s := rfl
@[simp] theorem exec_challengeExpiry (level : SessLevel) (s : State) :
    exec (.challengeExpiry level) s = execChallengeExpiry level s := rfl
@[simp] theorem exec_sessionClose (level : SessLevel) (id : BitVec 32) (s : State) :
    exec (.sessionClose level id) s = execSessionClose level id s := rfl
@[simp] theorem exec_adminIdleTimeout (s : State) :
    exec (.adminIdleTimeout) s = execAdminIdleTimeout s := rfl
@[simp] theorem exec_sessionLockExpiry (level : SessLevel) (s : State) :
    exec (.sessionLockExpiry level) s = execSessionLockExpiry level s := rfl
@[simp] theorem exec_kcvExchangeTimer (s : State) :
    exec (.kcvExchangeTimer) s = execKcvExchangeTimer s := rfl
@[simp] theorem exec_tamperAlarm (source : Fin 6) (standby : Bool) (sec : Nat) (frac : Fin 32768) (s : State) :
    exec (.tamperAlarm source standby sec frac) s = execTamperAlarm source standby sec frac s := rfl
@[simp] theorem exec_lifeTamperClear (confirm : BitVec 6) (clear : Bool) (bad : List (BitVec 15)) (s : State) :
    exec (.lifeTamperClear confirm clear bad) s = execLifeTamperClear confirm clear bad s := rfl
@[simp] theorem exec_spdmGetVersion (ch : Channel) (s : State) :
    exec (.spdmGetVersion ch) s = execSpdmGetVersion ch s := rfl
@[simp] theorem exec_spdmGetCapabilities (ch : Channel) (s : State) :
    exec (.spdmGetCapabilities ch) s = execSpdmGetCapabilities ch s := rfl
@[simp] theorem exec_spdmNegotiateAlgorithms (ch : Channel) (ecdsaP384 sha384 measSha384 : Bool) (s : State) :
    exec (.spdmNegotiateAlgorithms ch ecdsaP384 sha384 measSha384) s = execSpdmNegotiateAlgorithms ch ecdsaP384 sha384 measSha384 s := rfl
@[simp] theorem exec_spdmGetDigests (ch : Channel) (s : State) :
    exec (.spdmGetDigests ch) s = execSpdmGetDigests ch s := rfl
@[simp] theorem exec_spdmGetCertificate (ch : Channel) (slot : BitVec 8) (offset length : BitVec 16) (s : State) :
    exec (.spdmGetCertificate ch slot offset length) s = execSpdmGetCertificate ch slot offset length s := rfl
@[simp] theorem exec_spdmChallenge (ch : Channel) (slot : BitVec 8) (nonce : Word256) (s : State) :
    exec (.spdmChallenge ch slot nonce) s = execSpdmChallenge ch slot nonce s := rfl
@[simp] theorem exec_spdmGetMeasurements (ch : Channel) (index : BitVec 8) (signed : Bool) (nonce : Word256) (s : State) :
    exec (.spdmGetMeasurements ch index signed nonce) s = execSpdmGetMeasurements ch index signed nonce s := rfl
@[simp] theorem exec_spdmUnsupported (ch : Channel) (s : State) :
    exec (.spdmUnsupported ch) s = execSpdmUnsupported ch s := rfl
@[simp] theorem exec_railPoll (vout iout status : List (BitVec 16)) (core7 : BitVec 16) (s : State) :
    exec (.railPoll vout iout status core7) s = execRailPoll vout iout status core7 s := rfl
@[simp] theorem exec_pmbAlert (rail : Fin 12) (status : BitVec 16) (warning : Bool) (s : State) :
    exec (.pmbAlert rail status warning) s = execPmbAlert rail status warning s := rfl
@[simp] theorem exec_railStep (rail : Fin 8) (s : State) :
    exec (.railStep rail) s = execRailStep rail s := rfl
@[simp] theorem exec_domainPowerUpDone (dom : Fin 183) (s : State) :
    exec (.domainPowerUpDone dom) s = execDomainPowerUpDone dom s := rfl
@[simp] theorem exec_domainPowerDownDone (dom : Fin 183) (s : State) :
    exec (.domainPowerDownDone dom) s = execDomainPowerDownDone dom s := rfl
@[simp] theorem exec_subdomainIdle (dom : Fin 183) (s : State) :
    exec (.subdomainIdle dom) s = execSubdomainIdle dom s := rfl
@[simp] theorem exec_domainVoltageSettled (dvfs : Fin 34) (s : State) :
    exec (.domainVoltageSettled dvfs) s = execDomainVoltageSettled dvfs s := rfl
@[simp] theorem exec_clockLoss (domain : Fin 41) (s : State) :
    exec (.clockLoss domain) s = execClockLoss domain s := rfl
@[simp] theorem exec_warpSegmentFault (s : State) :
    exec (.warpSegmentFault) s = execWarpSegmentFault s := rfl
@[simp] theorem exec_thermalSample (temps : List (BitVec 16)) (s : State) :
    exec (.thermalSample temps) s = execThermalSample temps s := rfl
@[simp] theorem exec_thermalEmergencyClear (s : State) :
    exec (.thermalEmergencyClear) s = execThermalEmergencyClear s := rfl
@[simp] theorem exec_hardwareTrip (s : State) :
    exec (.hardwareTrip) s = execHardwareTrip s := rfl
@[simp] theorem exec_templeLoopSample (loop : Fin 8) (s : State) :
    exec (.templeLoopSample loop) s = execTempleLoopSample loop s := rfl
@[simp] theorem exec_loopEnable (loop : Fin 8) (enable : Bool) (s : State) :
    exec (.loopEnable loop enable) s = execLoopEnable loop enable s := rfl
@[simp] theorem exec_loopHold (loop : Fin 8) (hold : Bool) (s : State) :
    exec (.loopHold loop hold) s = execLoopHold loop hold s := rfl
@[simp] theorem exec_loopIReset (loop : Fin 8) (s : State) :
    exec (.loopIReset loop) s = execLoopIReset loop s := rfl
@[simp] theorem exec_fanStall (fan : Fin 4) (s : State) :
    exec (.fanStall fan) s = execFanStall fan s := rfl
@[simp] theorem exec_fanRecover (fan : Fin 4) (s : State) :
    exec (.fanRecover fan) s = execFanRecover fan s := rfl
@[simp] theorem exec_eventRecord (code : BitVec 12) (sev : BitVec 3) (srcType srcInst : BitVec 16) (arg0 arg1 : Word) (s : State) :
    exec (.eventRecord code sev srcType srcInst arg0 arg1) s = execEventRecord code sev srcType srcInst arg0 arg1 s := rfl
@[simp] theorem exec_eventSummary (code : BitVec 12) (sev : BitVec 3) (s : State) :
    exec (.eventSummary code sev) s = execEventSummary code sev s := rfl
@[simp] theorem exec_eventFlushTimer (s : State) :
    exec (.eventFlushTimer) s = execEventFlushTimer s := rfl
@[simp] theorem exec_evrecFlushWrite (s : State) :
    exec (.evrecFlushWrite) s = execEvrecFlushWrite s := rfl
@[simp] theorem exec_eventFlushDone (ok : Bool) (s : State) :
    exec (.eventFlushDone ok) s = execEventFlushDone ok s := rfl
@[simp] theorem exec_evrecReadRing (index : BitVec 32) (s : State) :
    exec (.evrecReadRing index) s = execEvrecReadRing index s := rfl
@[simp] theorem exec_evrecReadBuffer (index : BitVec 32) (s : State) :
    exec (.evrecReadBuffer index) s = execEvrecReadBuffer index s := rfl
@[simp] theorem exec_evrecRateWrite (code : BitVec 12) (s : State) :
    exec (.evrecRateWrite code) s = execEvrecRateWrite code s := rfl
@[simp] theorem exec_evrecRateRead (code : BitVec 12) (s : State) :
    exec (.evrecRateRead code) s = execEvrecRateRead code s := rfl
@[simp] theorem exec_pldmFirmwareUpdate (image : Image) (s : State) :
    exec (.pldmFirmwareUpdate image) s = execPldmFirmwareUpdate image s := rfl
@[simp] theorem exec_uartImageReceive (image : Image) (s : State) :
    exec (.uartImageReceive image) s = execUartImageReceive image s := rfl
@[simp] theorem exec_updateSlotProgrammed (ok : Bool) (s : State) :
    exec (.updateSlotProgrammed ok) s = execUpdateSlotProgrammed ok s := rfl
@[simp] theorem exec_trialConfirm (s : State) :
    exec (.trialConfirm) s = execTrialConfirm s := rfl
@[simp] theorem exec_sensorSample (sample : Sensor) (s : State) :
    exec (.sensorSample sample) s = execSensorSample sample s := rfl
@[simp] theorem exec_glitchDetect (detector : Detector) (s : State) :
    exec (.glitchDetect detector) s = execGlitchDetect detector s := rfl
@[simp] theorem exec_pldmBaseCommand (cmd : PldmBase) (s : State) :
    exec (.pldmBaseCommand cmd) s = execPldmBaseCommand cmd s := rfl
@[simp] theorem exec_pldmGetPdr (handle : BitVec 32) (s : State) :
    exec (.pldmGetPdr handle) s = execPldmGetPdr handle s := rfl
@[simp] theorem exec_pldmGetSensorReading (id : BitVec 16) (s : State) :
    exec (.pldmGetSensorReading id) s = execPldmGetSensorReading id s := rfl
@[simp] theorem exec_pldmGetStateSensorReadings (id : BitVec 16) (s : State) :
    exec (.pldmGetStateSensorReadings id) s = execPldmGetStateSensorReadings id s := rfl
@[simp] theorem exec_pldmSetEventReceiver (eid : BitVec 8) (s : State) :
    exec (.pldmSetEventReceiver eid) s = execPldmSetEventReceiver eid s := rfl
@[simp] theorem exec_pldmUnsupported (s : State) :
    exec (.pldmUnsupported) s = execPldmUnsupported s := rfl
@[simp] theorem exec_mctpSetEndpointId (eid : BitVec 8) (s : State) :
    exec (.mctpSetEndpointId eid) s = execMctpSetEndpointId eid s := rfl
@[simp] theorem exec_mctpGetEndpointId (s : State) :
    exec (.mctpGetEndpointId) s = execMctpGetEndpointId s := rfl
@[simp] theorem exec_mctpGetVersionSupport (s : State) :
    exec (.mctpGetVersionSupport) s = execMctpGetVersionSupport s := rfl
@[simp] theorem exec_mctpGetMessageTypeSupport (s : State) :
    exec (.mctpGetMessageTypeSupport) s = execMctpGetMessageTypeSupport s := rfl
@[simp] theorem exec_mctpOtherType (s : State) :
    exec (.mctpOtherType) s = execMctpOtherType s := rfl
@[simp] theorem exec_oobFrameReceive (frame : OobFrame) (forUs : Bool) (data : Bytes) (s : State) :
    exec (.oobFrameReceive frame forUs data) s = execOobFrameReceive frame forUs data s := rfl
@[simp] theorem exec_workItem (core : Fin 16) (queue : Fin 64) (again : Bool) (reqStep : BitVec 4) (busy : Fin 101) (s : State) :
    exec (.workItem core queue again reqStep busy) s = execWorkItem core queue again reqStep busy s := rfl
@[simp] theorem exec_coreWatchdogExpiry (core : Fin 16) (s : State) :
    exec (.coreWatchdogExpiry core) s = execCoreWatchdogExpiry core s := rfl
@[simp] theorem exec_coreFault (core : Fin 16) (s : State) :
    exec (.coreFault core) s = execCoreFault core s := rfl
@[simp] theorem exec_interruptRequest (src : BitVec 10) (holds : Bool) (s : State) :
    exec (.interruptRequest src holds) s = execInterruptRequest src holds s := rfl
@[simp] theorem exec_intcClaim (core : Fin 16) (s : State) :
    exec (.intcClaim core) s = execIntcClaim core s := rfl
@[simp] theorem exec_intcComplete (core : Fin 16) (src : BitVec 10) (s : State) :
    exec (.intcComplete core src) s = execIntcComplete core src s := rfl
@[simp] theorem exec_holdoffExpiry (group : Fin 64) (s : State) :
    exec (.holdoffExpiry group) s = execHoldoffExpiry group s := rfl
@[simp] theorem exec_pickEpochAnnounce (s : State) :
    exec (.pickEpochAnnounce) s = execPickEpochAnnounce s := rfl
@[simp] theorem exec_pickEpochLatch (s : State) :
    exec (.pickEpochLatch) s = execPickEpochLatch s := rfl
@[simp] theorem exec_tallyRecordWrite (s : State) :
    exec (.tallyRecordWrite) s = execTallyRecordWrite s := rfl
@[simp] theorem exec_pickCounterRead (index : BitVec 32) (s : State) :
    exec (.pickCounterRead index) s = execPickCounterRead index s := rfl
@[simp] theorem exec_traceRecord (src : BitVec 6) (item : TraceItem) (full : Bool) (s : State) :
    exec (.traceRecord src item full) s = execTraceRecord src item full s := rfl
@[simp] theorem exec_traceSyncTimer (pcs : List (BitVec 48)) (s : State) :
    exec (.traceSyncTimer pcs) s = execTraceSyncTimer pcs s := rfl
@[simp] theorem exec_traceBufferRead (s : State) :
    exec (.traceBufferRead) s = execTraceBufferRead s := rfl
@[simp] theorem exec_configRequest (write : Bool) (reg : CfgReg) (data : BitVec 32) (s : State) :
    exec (.configRequest write reg data) s = execConfigRequest write reg data s := rfl
@[simp] theorem exec_functionLevelReset (s : State) :
    exec (.functionLevelReset) s = execFunctionLevelReset s := rfl
@[simp] theorem exec_powerStateChange (dst : DState) (s : State) :
    exec (.powerStateChange dst) s = execPowerStateChange dst s := rfl
@[simp] theorem exec_apertureAccess (write : Bool) (addr : BitVec 36) (data : Word) (s : State) :
    exec (.apertureAccess write addr data) s = execApertureAccess write addr data s := rfl
@[simp] theorem exec_sqTailDoorbell (ring : Fin 16) (value : BitVec 32) (s : State) :
    exec (.sqTailDoorbell ring value) s = execSqTailDoorbell ring value s := rfl
@[simp] theorem exec_cqHeadDoorbell (ring : Fin 16) (value : BitVec 32) (s : State) :
    exec (.cqHeadDoorbell ring value) s = execCqHeadDoorbell ring value s := rfl
@[simp] theorem exec_evConsDoorbell (value : BitVec 32) (s : State) :
    exec (.evConsDoorbell value) s = execEvConsDoorbell value s := rfl
@[simp] theorem exec_commandFetch (ring : Fin 16) (opcode : BitVec 16) (barrier : Bool) (cmdId : BitVec 32) (token : Word) (session : BitVec 32) (s : State) :
    exec (.commandFetch ring opcode barrier cmdId token session) s = execCommandFetch ring opcode barrier cmdId token session s := rfl
@[simp] theorem exec_commandCompletionPost (tag : Nat) (s : State) :
    exec (.commandCompletionPost tag) s = execCommandCompletionPost tag s := rfl
@[simp] theorem exec_aliveBeat (s : State) :
    exec (.aliveBeat) s = execAliveBeat s := rfl
@[simp] theorem exec_aliveTimeout (s : State) :
    exec (.aliveTimeout) s = execAliveTimeout s := rfl
@[simp] theorem exec_wakeRearm (s : State) :
    exec (.wakeRearm) s = execWakeRearm s := rfl
@[simp] theorem exec_ringEnable (ring : Fin 17) (cplBase : BitVec 40) (log2 : BitVec 4) (s : State) :
    exec (.ringEnable ring cplBase log2) s = execRingEnable ring cplBase log2 s := rfl
@[simp] theorem exec_ringDisable (ring : Fin 17) (s : State) :
    exec (.ringDisable ring) s = execRingDisable ring s := rfl
@[simp] theorem exec_identify (tag : Nat) (buf : CtlBuf) (addr : Word) (s : State) :
    exec (.identify tag buf addr) s = execIdentify tag buf addr s := rfl
@[simp] theorem exec_arrayCreate (tag : Nat) (buf : CtlBuf) (array : BitVec 48) (s : State) :
    exec (.arrayCreate tag buf array) s = execArrayCreate tag buf array s := rfl
@[simp] theorem exec_rejoin (tag : Nat) (buf : CtlBuf) (s : State) :
    exec (.rejoin tag buf) s = execRejoin tag buf s := rfl
@[simp] theorem exec_rebalance (tag : Nat) (buf : CtlBuf) (group target : BitVec 8) (s : State) :
    exec (.rebalance tag buf group target) s = execRebalance tag buf group target s := rfl
@[simp] theorem exec_timeConfig (tag : Nat) (buf : CtlBuf) (lane : BitVec 16) (domain transport src : BitVec 8) (s : State) :
    exec (.timeConfig tag buf lane domain transport src) s = execTimeConfig tag buf lane domain transport src s := rfl
@[simp] theorem exec_addressReturn (tag : Nat) (buf : CtlBuf) (entry : BitVec 8) (s : State) :
    exec (.addressReturn tag buf entry) s = execAddressReturn tag buf entry s := rfl
@[simp] theorem exec_tenantCreate (tag : Nat) (buf : CtlBuf) (tenant crdt1 crdt2 crdt3 : BitVec 16) (nqn sn mn : Bytes) (s : State) :
    exec (.tenantCreate tag buf tenant crdt1 crdt2 crdt3 nqn sn mn) s = execTenantCreate tag buf tenant crdt1 crdt2 crdt3 nqn sn mn s := rfl
@[simp] theorem exec_tenantDelete (tag : Nat) (buf : CtlBuf) (tenant : BitVec 16) (s : State) :
    exec (.tenantDelete tag buf tenant) s = execTenantDelete tag buf tenant s := rfl
@[simp] theorem exec_tenantHosts (tag : Nat) (buf : CtlBuf) (tenant : BitVec 16) (op cls : BitVec 8) (nqn : Bytes) (s : State) :
    exec (.tenantHosts tag buf tenant op cls nqn) s = execTenantHosts tag buf tenant op cls nqn s := rfl
@[simp] theorem exec_tenantContract (tag : Nat) (buf : CtlBuf) (tenant : BitVec 16) (w0 w1 w2 w3 : Word) (s : State) :
    exec (.tenantContract tag buf tenant w0 w1 w2 w3) s = execTenantContract tag buf tenant w0 w1 w2 w3 s := rfl
@[simp] theorem exec_tenantReduction (tag : Nat) (buf : CtlBuf) (tenant : BitVec 16) (dedup comp verify : BitVec 8) (s : State) :
    exec (.tenantReduction tag buf tenant dedup comp verify) s = execTenantReduction tag buf tenant dedup comp verify s := rfl
@[simp] theorem exec_tenantPskMap (tag : Nat) (buf : CtlBuf) (slot : BitVec 16) (op : BitVec 8) (identity : Bytes) (s : State) :
    exec (.tenantPskMap tag buf slot op identity) s = execTenantPskMap tag buf slot op identity s := rfl
@[simp] theorem exec_groupCreate (tag : Nat) (buf : CtlBuf) (group owner : BitVec 8) (s : State) :
    exec (.groupCreate tag buf group owner) s = execGroupCreate tag buf group owner s := rfl
@[simp] theorem exec_groupDelete (tag : Nat) (buf : CtlBuf) (group : BitVec 8) (s : State) :
    exec (.groupDelete tag buf group) s = execGroupDelete tag buf group s := rfl
@[simp] theorem exec_volumeCreate (tag : Nat) (buf : CtlBuf) (volume tenant : BitVec 16) (nsid : BitVec 32) (group lbaf : BitVec 8) (blocks : Word) (nguid : BitVec 128) (eui64 : Word) (s : State) :
    exec (.volumeCreate tag buf volume tenant nsid group lbaf blocks nguid eui64) s = execVolumeCreate tag buf volume tenant nsid group lbaf blocks nguid eui64 s := rfl
@[simp] theorem exec_volumeResize (tag : Nat) (buf : CtlBuf) (volume : BitVec 16) (blocks : Word) (s : State) :
    exec (.volumeResize tag buf volume blocks) s = execVolumeResize tag buf volume blocks s := rfl
@[simp] theorem exec_volumeDelete (tag : Nat) (buf : CtlBuf) (volume : BitVec 16) (s : State) :
    exec (.volumeDelete tag buf volume) s = execVolumeDelete tag buf volume s := rfl
@[simp] theorem exec_volumePin (tag : Nat) (buf : CtlBuf) (volume : BitVec 16) (pin : BitVec 8) (s : State) :
    exec (.volumePin tag buf volume pin) s = execVolumePin tag buf volume pin s := rfl
@[simp] theorem exec_snapshotCreate (tag : Nat) (buf : CtlBuf) (volumes : List (BitVec 16)) (s : State) :
    exec (.snapshotCreate tag buf volumes) s = execSnapshotCreate tag buf volumes s := rfl
@[simp] theorem exec_snapshotDelete (tag : Nat) (buf : CtlBuf) (snapshot : BitVec 32) (s : State) :
    exec (.snapshotDelete tag buf snapshot) s = execSnapshotDelete tag buf snapshot s := rfl
@[simp] theorem exec_cloneCreate (tag : Nat) (buf : CtlBuf) (snapshot : BitVec 32) (volume : BitVec 16) (nsid : BitVec 32) (s : State) :
    exec (.cloneCreate tag buf snapshot volume nsid) s = execCloneCreate tag buf snapshot volume nsid s := rfl
@[simp] theorem exec_dictControl (tag : Nat) (buf : CtlBuf) (volume : BitVec 16) (op : BitVec 8) (content : Bytes) (s : State) :
    exec (.dictControl tag buf volume op content) s = execDictControl tag buf volume op content s := rfl
@[simp] theorem exec_replCreate (tag : Nat) (buf : CtlBuf) (rel volume : BitVec 16) (mode : BitVec 8) (interval : BitVec 32) (entry : BitVec 8) (array : BitVec 48) (ip : BitVec 128) (remote : BitVec 16) (s : State) :
    exec (.replCreate tag buf rel volume mode interval entry array ip remote) s = execReplCreate tag buf rel volume mode interval entry array ip remote s := rfl
@[simp] theorem exec_replModify (tag : Nat) (buf : CtlBuf) (rel volume : BitVec 16) (mode : BitVec 8) (interval : BitVec 32) (entry : BitVec 8) (array : BitVec 48) (ip : BitVec 128) (remote : BitVec 16) (s : State) :
    exec (.replModify tag buf rel volume mode interval entry array ip remote) s = execReplModify tag buf rel volume mode interval entry array ip remote s := rfl
@[simp] theorem exec_replDelete (tag : Nat) (buf : CtlBuf) (rel : BitVec 16) (s : State) :
    exec (.replDelete tag buf rel) s = execReplDelete tag buf rel s := rfl
@[simp] theorem exec_replRelRead (rel : BitVec 16) (s : State) :
    exec (.replRelRead rel) s = execReplRelRead rel s := rfl
@[simp] theorem exec_keyImport (tag : Nat) (buf : CtlBuf) (slot : BitVec 16) (src : BitVec 8) (blob : Bytes) (s : State) :
    exec (.keyImport tag buf slot src blob) s = execKeyImport tag buf slot src blob s := rfl
@[simp] theorem exec_keyExport (tag : Nat) (buf : CtlBuf) (slot : BitVec 16) (peer : BitVec 8) (addr : Word) (s : State) :
    exec (.keyExport tag buf slot peer addr) s = execKeyExport tag buf slot peer addr s := rfl
@[simp] theorem exec_keyZeroize (tag : Nat) (buf : CtlBuf) (slot : BitVec 16) (s : State) :
    exec (.keyZeroize tag buf slot) s = execKeyZeroize tag buf slot s := rfl
@[simp] theorem exec_peerSet (tag : Nat) (buf : CtlBuf) (peer : BitVec 8) (key : Bytes) (s : State) :
    exec (.peerSet tag buf peer key) s = execPeerSet tag buf peer key s := rfl
@[simp] theorem exec_spdm (tag : Nat) (buf : CtlBuf) (request : SpdmReq) (s : State) :
    exec (.spdm tag buf request) s = execSpdm tag buf request s := rfl
@[simp] theorem exec_measExtend (tag : Nat) (buf : CtlBuf) (reg : BitVec 8) (value : Digest) (s : State) :
    exec (.measExtend tag buf reg value) s = execMeasExtend tag buf reg value s := rfl
@[simp] theorem exec_lifeRequest (tag : Nat) (buf : CtlBuf) (target : BitVec 8) (s : State) :
    exec (.lifeRequest tag buf target) s = execLifeRequest tag buf target s := rfl
@[simp] theorem exec_tamperClear (tag : Nat) (buf : CtlBuf) (confirm : BitVec 8) (bad : List (BitVec 15)) (s : State) :
    exec (.tamperClear tag buf confirm bad) s = execTamperClear tag buf confirm bad s := rfl
@[simp] theorem exec_update (tag : Nat) (buf : CtlBuf) (image : Image) (s : State) :
    exec (.update tag buf image) s = execUpdate tag buf image s := rfl
@[simp] theorem exec_rollbackCommit (tag : Nat) (buf : CtlBuf) (s : State) :
    exec (.rollbackCommit tag buf) s = execRollbackCommit tag buf s := rfl
@[simp] theorem exec_counterConfig (tag : Nat) (buf : CtlBuf) (period ringEn : BitVec 8) (base bytes : Word) (s : State) :
    exec (.counterConfig tag buf period ringEn base bytes) s = execCounterConfig tag buf period ringEn base bytes s := rfl
@[simp] theorem exec_ctlUnknownOpcode (tag : Nat) (s : State) :
    exec (.ctlUnknownOpcode tag) s = execCtlUnknownOpcode tag s := rfl
@[simp] theorem exec_arbCasReissue (port : Fin 64) (s : State) :
    exec (.arbCasReissue port) s = execArbCasReissue port s := rfl
@[simp] theorem exec_norEraseComplete (area : NorArea) (ok : Bool) (s : State) :
    exec (.norEraseComplete area ok) s = execNorEraseComplete area ok s := rfl
@[simp] theorem exec_tamperAlarmEnd (source : Fin 6) (s : State) :
    exec (.tamperAlarmEnd source) s = execTamperAlarmEnd source s := rfl
@[simp] theorem exec_ethpLinkUp (port : Fin 64) (s : State) :
    exec (.ethpLinkUp port) s = execEthpLinkUp port s := rfl
@[simp] theorem exec_upstreamLinkTrained (rate : BitVec 3) (width : BitVec 5) (s : State) :
    exec (.upstreamLinkTrained rate width) s = execUpstreamLinkTrained rate width s := rfl
@[simp] theorem exec_tcpRetransmitTimeout (conn : Fin 16384) (s : State) :
    exec (.tcpRetransmitTimeout conn) s = execTcpRetransmitTimeout conn s := rfl

end Sys2Proof.Machine
end

