-- ==== Sys2Proof/Laws/Nvme.lean ====
section
/-!
SUPPORT. Sys2Proof/Laws/Nvme.lean: what a capsule, an admin command and an I/O command come to when the checks before them pass.
-/

namespace Sys2Proof.Machine

namespace State

/-- A frame of a live connection that is not in error reaches its command. -/
theorem onConn_takes {s t : State} {i : Nat} {e : ConnEntry} {r : ConnRt} (f : ConnEntry → ConnRt → State → State)
    (hs : s.serving = true) (hf : s.takeFrame i = (some e, t)) (hr : t.connRt? i = some r) (he : r.err = false) :
    s.onConn i f = f e r t := by
  simp [onConn, hs, hf, hr, he]

/-- A frame on a connection in error is consumed and nothing else. -/
theorem onConn_err {s t : State} {i : Nat} {e : ConnEntry} {r : ConnRt} (f : ConnEntry → ConnRt → State → State)
    (hs : s.serving = true) (hf : s.takeFrame i = (some e, t)) (hr : t.connRt? i = some r) (he : r.err = true) :
    s.onConn i f = t := by
  simp [onConn, hs, hf, hr, he]

/-- A head that does not serve takes no frame. -/
theorem onConn_idle {s : State} {i : Nat} (f : ConnEntry → ConnRt → State → State) (hs : s.serving = false) : s.onConn i f = s := by
  simp [onConn, hs]

/-- An admin command on the admin queue of a controller. -/
theorem adminCmd_takes {s t : State} {cmd : CmdFrom} {e : ConnEntry} {r : ConnRt} {k : Nat} {c : Ctrl}
    (f : ConnEntry → Nat → Ctrl → State → State) (hs : s.serving = true) (hf : s.takeFrame cmd.conn.val = (some e, t))
    (hr : t.connRt? cmd.conn.val = some r) (he : r.err = false) (hst : e.st ≠ 0) (hc : t.ctrlAt cmd.conn.val = some (k, c)) (hq : r.qid = 0) :
    s.adminCmd cmd f = f e k c t := by
  rw [adminCmd, capsule, onConn_takes _ hs hf hr he]
  simp [hst, hc, hq]

/-- An I/O command for a namespace that is there and open. -/
theorem ioCmd_takes {s t : State} {cmd : CmdFrom} {nsid : Nat} {e : ConnEntry} {r : ConnRt} {k : Nat} {c : Ctrl} {vol : Nat} {v : Volume}
    (f : ConnEntry → Ctrl → Nat → Volume → State → State) (hs : s.serving = true) (hf : s.takeFrame cmd.conn.val = (some e, t))
    (hr : t.connRt? cmd.conn.val = some r) (he : r.err = false) (hst : e.st ≠ 0) (hc : t.ctrlAt cmd.conn.val = some (k, c)) (hq : r.qid ≠ 0)
    (hn : t.nsOf e.tenant nsid = some (vol, v)) (hz : ((t.tenant? e.tenant).map (fun x => x.quiesced)).getD false = false)
    (hv : v.formatting = none) (ha : t.anaState v ≠ 2) :
    s.ioCmd cmd nsid f = f e c vol v t := by
  rw [ioCmd, capsule, onConn_takes _ hs hf hr he]
  simp [hst, hc, hq, hn, hz, hv, ha]

end State

end Sys2Proof.Machine
end

