-- ==== Sys2Proof/Laws/Parity.lean ====
section
/-!
SUPPORT. Sys2Proof/Laws/Parity.lean: the sum of unit contents and the products of GF(2^8) (R284, R286).
-/

namespace Sys2Proof.Machine

@[simp] theorem xorBytes_nil_left (b : Bytes) : xorBytes [] b = b := by cases b <;> rfl
@[simp] theorem xorBytes_nil_right (b : Bytes) : xorBytes b [] = b := by cases b <;> rfl

theorem xorBytes_comm (a b : Bytes) : xorBytes a b = xorBytes b a := by
  induction a generalizing b with
  | nil => simp
  | cons x a ih =>
    cases b with
    | nil => simp
    | cons y b => simp [xorBytes, ih b, BitVec.xor_comm]

theorem xorBytes_assoc (a b c : Bytes) : xorBytes (xorBytes a b) c = xorBytes a (xorBytes b c) := by
  induction a generalizing b c with
  | nil => simp
  | cons x a ih =>
    cases b with
    | nil => simp
    | cons y b =>
      cases c with
      | nil => simp
      | cons z c => simp [xorBytes, ih b c, BitVec.xor_assoc]

/-- A content taken out of a sum it is in leaves the other one: the ground of XOR_REBUILD (R286). -/
theorem xorBytes_cancel (a b : Bytes) (h : a.length = b.length) : xorBytes a (xorBytes a b) = b := by
  induction a generalizing b with
  | nil => simp
  | cons x a ih =>
    cases b with
    | nil => simp at h
    | cons y b => simp [xorBytes, ih b (by simpa using h)]

@[simp] theorem scaleBytes_length (k : Byte) (b : Bytes) : (scaleBytes k b).length = b.length := by simp [scaleBytes]

/-- A row has two units more than its data (R284). -/
@[simp] theorem rowUnits_length (data : List Bytes) : (rowUnits data).length = data.length + 2 := by simp [rowUnits]

/-- Every erased member of a row that can be rebuilt gets a content (R286). -/
theorem rebuildRow_members (d : Nat) (read : Nat → Bytes) (erased : List Nat) (h : erased.length ≤ 2) :
    (rebuildRow d read erased).map (fun x => x.1) = erased := by
  have : ¬ 2 < erased.length := by omega
  simp [rebuildRow, this, Function.comp_def]

end Sys2Proof.Machine
end

