-- ==== Sys2Proof/Laws/State.lean ====
section
/-!
SUPPORT. Sys2Proof/Laws/State.lean: what each small update of the state leaves as it is, one lemma per update and field, so that
no proof unfolds a record update.
-/

namespace Sys2Proof.Machine.State

@[simp] theorem setReg_pending (s : State) (k : Nat) (v : Word) : (s.setReg k v).pending = s.pending := rfl
@[simp] theorem setReg_held (s : State) (k : Nat) (v : Word) : (s.setReg k v).held = s.held := rfl
@[simp] theorem setReg_now (s : State) (k : Nat) (v : Word) : (s.setReg k v).now = s.now := rfl
@[simp] theorem setReg_freeCtr (s : State) (k : Nat) (v : Word) : (s.setReg k v).freeCtr = s.freeCtr := rfl
@[simp] theorem setReg_out (s : State) (k : Nat) (v : Word) : (s.setReg k v).out = s.out := rfl
@[simp] theorem setReg_chip (s : State) (k : Nat) (v : Word) : (s.setReg k v).chip = s.chip := rfl
@[simp] theorem setReg_life (s : State) (k : Nat) (v : Word) : (s.setReg k v).life = s.life := rfl
@[simp] theorem setReg_mgmt (s : State) (k : Nat) (v : Word) : (s.setReg k v).mgmt = s.mgmt := rfl
@[simp] theorem setReg_evrec (s : State) (k : Nat) (v : Word) : (s.setReg k v).evrec = s.evrec := rfl
@[simp] theorem setReg_sec (s : State) (k : Nat) (v : Word) : (s.setReg k v).sec = s.sec := rfl
@[simp] theorem setReg_up (s : State) (k : Nat) (v : Word) : (s.setReg k v).up = s.up := rfl
@[simp] theorem setReg_fab (s : State) (k : Nat) (v : Word) : (s.setReg k v).fab = s.fab := rfl
@[simp] theorem setReg_nv (s : State) (k : Nat) (v : Word) : (s.setReg k v).nv = s.nv := rfl
@[simp] theorem setReg_loom (s : State) (k : Nat) (v : Word) : (s.setReg k v).loom = s.loom := rfl
@[simp] theorem setReg_jr (s : State) (k : Nat) (v : Word) : (s.setReg k v).jr = s.jr := rfl
@[simp] theorem setReg_mp (s : State) (k : Nat) (v : Word) : (s.setReg k v).mp = s.mp := rfl
@[simp] theorem setReg_md (s : State) (k : Nat) (v : Word) : (s.setReg k v).md = s.md := rfl
@[simp] theorem setReg_mo (s : State) (k : Nat) (v : Word) : (s.setReg k v).mo = s.mo := rfl
@[simp] theorem setReg_dk (s : State) (k : Nat) (v : Word) : (s.setReg k v).dk = s.dk := rfl
@[simp] theorem setReg_own (s : State) (k : Nat) (v : Word) : (s.setReg k v).own = s.own := rfl
@[simp] theorem setReg_repl (s : State) (k : Nat) (v : Word) : (s.setReg k v).repl = s.repl := rfl
@[simp] theorem setReg_pw (s : State) (k : Nat) (v : Word) : (s.setReg k v).pw = s.pw := rfl
@[simp] theorem setReg_svc (s : State) (k : Nat) (v : Word) : (s.setReg k v).svc = s.svc := rfl
@[simp] theorem setReg_intc (s : State) (k : Nat) (v : Word) : (s.setReg k v).intc = s.intc := rfl
@[simp] theorem setReg_pick (s : State) (k : Nat) (v : Word) : (s.setReg k v).pick = s.pick := rfl
@[simp] theorem setReg_trc (s : State) (k : Nat) (v : Word) : (s.setReg k v).trc = s.trc := rfl

@[simp] theorem setFld_pending (s : State) (f : Fld) (x : Nat) : (s.setFld f x).pending = s.pending := rfl
@[simp] theorem setFld_held (s : State) (f : Fld) (x : Nat) : (s.setFld f x).held = s.held := rfl
@[simp] theorem setFld_now (s : State) (f : Fld) (x : Nat) : (s.setFld f x).now = s.now := rfl
@[simp] theorem setFld_freeCtr (s : State) (f : Fld) (x : Nat) : (s.setFld f x).freeCtr = s.freeCtr := rfl
@[simp] theorem setFld_out (s : State) (f : Fld) (x : Nat) : (s.setFld f x).out = s.out := rfl
@[simp] theorem setFld_chip (s : State) (f : Fld) (x : Nat) : (s.setFld f x).chip = s.chip := rfl
@[simp] theorem setFld_life (s : State) (f : Fld) (x : Nat) : (s.setFld f x).life = s.life := rfl
@[simp] theorem setFld_mgmt (s : State) (f : Fld) (x : Nat) : (s.setFld f x).mgmt = s.mgmt := rfl
@[simp] theorem setFld_evrec (s : State) (f : Fld) (x : Nat) : (s.setFld f x).evrec = s.evrec := rfl
@[simp] theorem setFld_sec (s : State) (f : Fld) (x : Nat) : (s.setFld f x).sec = s.sec := rfl
@[simp] theorem setFld_up (s : State) (f : Fld) (x : Nat) : (s.setFld f x).up = s.up := rfl
@[simp] theorem setFld_fab (s : State) (f : Fld) (x : Nat) : (s.setFld f x).fab = s.fab := rfl
@[simp] theorem setFld_nv (s : State) (f : Fld) (x : Nat) : (s.setFld f x).nv = s.nv := rfl
@[simp] theorem setFld_loom (s : State) (f : Fld) (x : Nat) : (s.setFld f x).loom = s.loom := rfl
@[simp] theorem setFld_jr (s : State) (f : Fld) (x : Nat) : (s.setFld f x).jr = s.jr := rfl
@[simp] theorem setFld_mp (s : State) (f : Fld) (x : Nat) : (s.setFld f x).mp = s.mp := rfl
@[simp] theorem setFld_md (s : State) (f : Fld) (x : Nat) : (s.setFld f x).md = s.md := rfl
@[simp] theorem setFld_mo (s : State) (f : Fld) (x : Nat) : (s.setFld f x).mo = s.mo := rfl
@[simp] theorem setFld_dk (s : State) (f : Fld) (x : Nat) : (s.setFld f x).dk = s.dk := rfl
@[simp] theorem setFld_own (s : State) (f : Fld) (x : Nat) : (s.setFld f x).own = s.own := rfl
@[simp] theorem setFld_repl (s : State) (f : Fld) (x : Nat) : (s.setFld f x).repl = s.repl := rfl
@[simp] theorem setFld_pw (s : State) (f : Fld) (x : Nat) : (s.setFld f x).pw = s.pw := rfl
@[simp] theorem setFld_svc (s : State) (f : Fld) (x : Nat) : (s.setFld f x).svc = s.svc := rfl
@[simp] theorem setFld_intc (s : State) (f : Fld) (x : Nat) : (s.setFld f x).intc = s.intc := rfl
@[simp] theorem setFld_pick (s : State) (f : Fld) (x : Nat) : (s.setFld f x).pick = s.pick := rfl
@[simp] theorem setFld_trc (s : State) (f : Fld) (x : Nat) : (s.setFld f x).trc = s.trc := rfl

@[simp] theorem setBit_pending (s : State) (f : Fld) (b : Bool) : (s.setBit f b).pending = s.pending := by
  rw [setBit, setFld_pending]
@[simp] theorem setBit_held (s : State) (f : Fld) (b : Bool) : (s.setBit f b).held = s.held := by
  rw [setBit, setFld_held]
@[simp] theorem setBit_now (s : State) (f : Fld) (b : Bool) : (s.setBit f b).now = s.now := by
  rw [setBit, setFld_now]
@[simp] theorem setBit_freeCtr (s : State) (f : Fld) (b : Bool) : (s.setBit f b).freeCtr = s.freeCtr := by
  rw [setBit, setFld_freeCtr]
@[simp] theorem setBit_out (s : State) (f : Fld) (b : Bool) : (s.setBit f b).out = s.out := by
  rw [setBit, setFld_out]
@[simp] theorem setBit_chip (s : State) (f : Fld) (b : Bool) : (s.setBit f b).chip = s.chip := by
  rw [setBit, setFld_chip]
@[simp] theorem setBit_life (s : State) (f : Fld) (b : Bool) : (s.setBit f b).life = s.life := by
  rw [setBit, setFld_life]
@[simp] theorem setBit_mgmt (s : State) (f : Fld) (b : Bool) : (s.setBit f b).mgmt = s.mgmt := by
  rw [setBit, setFld_mgmt]
@[simp] theorem setBit_evrec (s : State) (f : Fld) (b : Bool) : (s.setBit f b).evrec = s.evrec := by
  rw [setBit, setFld_evrec]
@[simp] theorem setBit_sec (s : State) (f : Fld) (b : Bool) : (s.setBit f b).sec = s.sec := by
  rw [setBit, setFld_sec]
@[simp] theorem setBit_up (s : State) (f : Fld) (b : Bool) : (s.setBit f b).up = s.up := by
  rw [setBit, setFld_up]
@[simp] theorem setBit_fab (s : State) (f : Fld) (b : Bool) : (s.setBit f b).fab = s.fab := by
  rw [setBit, setFld_fab]
@[simp] theorem setBit_nv (s : State) (f : Fld) (b : Bool) : (s.setBit f b).nv = s.nv := by
  rw [setBit, setFld_nv]
@[simp] theorem setBit_loom (s : State) (f : Fld) (b : Bool) : (s.setBit f b).loom = s.loom := by
  rw [setBit, setFld_loom]
@[simp] theorem setBit_jr (s : State) (f : Fld) (b : Bool) : (s.setBit f b).jr = s.jr := by
  rw [setBit, setFld_jr]
@[simp] theorem setBit_mp (s : State) (f : Fld) (b : Bool) : (s.setBit f b).mp = s.mp := by
  rw [setBit, setFld_mp]
@[simp] theorem setBit_md (s : State) (f : Fld) (b : Bool) : (s.setBit f b).md = s.md := by
  rw [setBit, setFld_md]
@[simp] theorem setBit_mo (s : State) (f : Fld) (b : Bool) : (s.setBit f b).mo = s.mo := by
  rw [setBit, setFld_mo]
@[simp] theorem setBit_dk (s : State) (f : Fld) (b : Bool) : (s.setBit f b).dk = s.dk := by
  rw [setBit, setFld_dk]
@[simp] theorem setBit_own (s : State) (f : Fld) (b : Bool) : (s.setBit f b).own = s.own := by
  rw [setBit, setFld_own]
@[simp] theorem setBit_repl (s : State) (f : Fld) (b : Bool) : (s.setBit f b).repl = s.repl := by
  rw [setBit, setFld_repl]
@[simp] theorem setBit_pw (s : State) (f : Fld) (b : Bool) : (s.setBit f b).pw = s.pw := by
  rw [setBit, setFld_pw]
@[simp] theorem setBit_svc (s : State) (f : Fld) (b : Bool) : (s.setBit f b).svc = s.svc := by
  rw [setBit, setFld_svc]
@[simp] theorem setBit_intc (s : State) (f : Fld) (b : Bool) : (s.setBit f b).intc = s.intc := by
  rw [setBit, setFld_intc]
@[simp] theorem setBit_pick (s : State) (f : Fld) (b : Bool) : (s.setBit f b).pick = s.pick := by
  rw [setBit, setFld_pick]
@[simp] theorem setBit_trc (s : State) (f : Fld) (b : Bool) : (s.setBit f b).trc = s.trc := by
  rw [setBit, setFld_trc]

@[simp] theorem bump_pending (s : State) (k n : Nat) : (s.bump k n).pending = s.pending := by
  rw [bump, setReg_pending]
@[simp] theorem bump_held (s : State) (k n : Nat) : (s.bump k n).held = s.held := by
  rw [bump, setReg_held]
@[simp] theorem bump_now (s : State) (k n : Nat) : (s.bump k n).now = s.now := by
  rw [bump, setReg_now]
@[simp] theorem bump_freeCtr (s : State) (k n : Nat) : (s.bump k n).freeCtr = s.freeCtr := by
  rw [bump, setReg_freeCtr]
@[simp] theorem bump_out (s : State) (k n : Nat) : (s.bump k n).out = s.out := by
  rw [bump, setReg_out]
@[simp] theorem bump_chip (s : State) (k n : Nat) : (s.bump k n).chip = s.chip := by
  rw [bump, setReg_chip]
@[simp] theorem bump_life (s : State) (k n : Nat) : (s.bump k n).life = s.life := by
  rw [bump, setReg_life]
@[simp] theorem bump_mgmt (s : State) (k n : Nat) : (s.bump k n).mgmt = s.mgmt := by
  rw [bump, setReg_mgmt]
@[simp] theorem bump_evrec (s : State) (k n : Nat) : (s.bump k n).evrec = s.evrec := by
  rw [bump, setReg_evrec]
@[simp] theorem bump_sec (s : State) (k n : Nat) : (s.bump k n).sec = s.sec := by
  rw [bump, setReg_sec]
@[simp] theorem bump_up (s : State) (k n : Nat) : (s.bump k n).up = s.up := by
  rw [bump, setReg_up]
@[simp] theorem bump_fab (s : State) (k n : Nat) : (s.bump k n).fab = s.fab := by
  rw [bump, setReg_fab]
@[simp] theorem bump_nv (s : State) (k n : Nat) : (s.bump k n).nv = s.nv := by
  rw [bump, setReg_nv]
@[simp] theorem bump_loom (s : State) (k n : Nat) : (s.bump k n).loom = s.loom := by
  rw [bump, setReg_loom]
@[simp] theorem bump_jr (s : State) (k n : Nat) : (s.bump k n).jr = s.jr := by
  rw [bump, setReg_jr]
@[simp] theorem bump_mp (s : State) (k n : Nat) : (s.bump k n).mp = s.mp := by
  rw [bump, setReg_mp]
@[simp] theorem bump_md (s : State) (k n : Nat) : (s.bump k n).md = s.md := by
  rw [bump, setReg_md]
@[simp] theorem bump_mo (s : State) (k n : Nat) : (s.bump k n).mo = s.mo := by
  rw [bump, setReg_mo]
@[simp] theorem bump_dk (s : State) (k n : Nat) : (s.bump k n).dk = s.dk := by
  rw [bump, setReg_dk]
@[simp] theorem bump_own (s : State) (k n : Nat) : (s.bump k n).own = s.own := by
  rw [bump, setReg_own]
@[simp] theorem bump_repl (s : State) (k n : Nat) : (s.bump k n).repl = s.repl := by
  rw [bump, setReg_repl]
@[simp] theorem bump_pw (s : State) (k n : Nat) : (s.bump k n).pw = s.pw := by
  rw [bump, setReg_pw]
@[simp] theorem bump_svc (s : State) (k n : Nat) : (s.bump k n).svc = s.svc := by
  rw [bump, setReg_svc]
@[simp] theorem bump_intc (s : State) (k n : Nat) : (s.bump k n).intc = s.intc := by
  rw [bump, setReg_intc]
@[simp] theorem bump_pick (s : State) (k n : Nat) : (s.bump k n).pick = s.pick := by
  rw [bump, setReg_pick]
@[simp] theorem bump_trc (s : State) (k n : Nat) : (s.bump k n).trc = s.trc := by
  rw [bump, setReg_trc]

@[simp] theorem bumpFld_pending (s : State) (f : Fld) (n : Nat) : (s.bumpFld f n).pending = s.pending := by
  rw [bumpFld, setFld_pending]
@[simp] theorem bumpFld_held (s : State) (f : Fld) (n : Nat) : (s.bumpFld f n).held = s.held := by
  rw [bumpFld, setFld_held]
@[simp] theorem bumpFld_now (s : State) (f : Fld) (n : Nat) : (s.bumpFld f n).now = s.now := by
  rw [bumpFld, setFld_now]
@[simp] theorem bumpFld_freeCtr (s : State) (f : Fld) (n : Nat) : (s.bumpFld f n).freeCtr = s.freeCtr := by
  rw [bumpFld, setFld_freeCtr]
@[simp] theorem bumpFld_out (s : State) (f : Fld) (n : Nat) : (s.bumpFld f n).out = s.out := by
  rw [bumpFld, setFld_out]
@[simp] theorem bumpFld_chip (s : State) (f : Fld) (n : Nat) : (s.bumpFld f n).chip = s.chip := by
  rw [bumpFld, setFld_chip]
@[simp] theorem bumpFld_life (s : State) (f : Fld) (n : Nat) : (s.bumpFld f n).life = s.life := by
  rw [bumpFld, setFld_life]
@[simp] theorem bumpFld_mgmt (s : State) (f : Fld) (n : Nat) : (s.bumpFld f n).mgmt = s.mgmt := by
  rw [bumpFld, setFld_mgmt]
@[simp] theorem bumpFld_evrec (s : State) (f : Fld) (n : Nat) : (s.bumpFld f n).evrec = s.evrec := by
  rw [bumpFld, setFld_evrec]
@[simp] theorem bumpFld_sec (s : State) (f : Fld) (n : Nat) : (s.bumpFld f n).sec = s.sec := by
  rw [bumpFld, setFld_sec]
@[simp] theorem bumpFld_up (s : State) (f : Fld) (n : Nat) : (s.bumpFld f n).up = s.up := by
  rw [bumpFld, setFld_up]
@[simp] theorem bumpFld_fab (s : State) (f : Fld) (n : Nat) : (s.bumpFld f n).fab = s.fab := by
  rw [bumpFld, setFld_fab]
@[simp] theorem bumpFld_nv (s : State) (f : Fld) (n : Nat) : (s.bumpFld f n).nv = s.nv := by
  rw [bumpFld, setFld_nv]
@[simp] theorem bumpFld_loom (s : State) (f : Fld) (n : Nat) : (s.bumpFld f n).loom = s.loom := by
  rw [bumpFld, setFld_loom]
@[simp] theorem bumpFld_jr (s : State) (f : Fld) (n : Nat) : (s.bumpFld f n).jr = s.jr := by
  rw [bumpFld, setFld_jr]
@[simp] theorem bumpFld_mp (s : State) (f : Fld) (n : Nat) : (s.bumpFld f n).mp = s.mp := by
  rw [bumpFld, setFld_mp]
@[simp] theorem bumpFld_md (s : State) (f : Fld) (n : Nat) : (s.bumpFld f n).md = s.md := by
  rw [bumpFld, setFld_md]
@[simp] theorem bumpFld_mo (s : State) (f : Fld) (n : Nat) : (s.bumpFld f n).mo = s.mo := by
  rw [bumpFld, setFld_mo]
@[simp] theorem bumpFld_dk (s : State) (f : Fld) (n : Nat) : (s.bumpFld f n).dk = s.dk := by
  rw [bumpFld, setFld_dk]
@[simp] theorem bumpFld_own (s : State) (f : Fld) (n : Nat) : (s.bumpFld f n).own = s.own := by
  rw [bumpFld, setFld_own]
@[simp] theorem bumpFld_repl (s : State) (f : Fld) (n : Nat) : (s.bumpFld f n).repl = s.repl := by
  rw [bumpFld, setFld_repl]
@[simp] theorem bumpFld_pw (s : State) (f : Fld) (n : Nat) : (s.bumpFld f n).pw = s.pw := by
  rw [bumpFld, setFld_pw]
@[simp] theorem bumpFld_svc (s : State) (f : Fld) (n : Nat) : (s.bumpFld f n).svc = s.svc := by
  rw [bumpFld, setFld_svc]
@[simp] theorem bumpFld_intc (s : State) (f : Fld) (n : Nat) : (s.bumpFld f n).intc = s.intc := by
  rw [bumpFld, setFld_intc]
@[simp] theorem bumpFld_pick (s : State) (f : Fld) (n : Nat) : (s.bumpFld f n).pick = s.pick := by
  rw [bumpFld, setFld_pick]
@[simp] theorem bumpFld_trc (s : State) (f : Fld) (n : Nat) : (s.bumpFld f n).trc = s.trc := by
  rw [bumpFld, setFld_trc]

@[simp] theorem setAct_pending (s : State) (f : Fld) (x : Nat) : (s.setAct f x).pending = s.pending := by
  rw [setAct, setReg_pending]
@[simp] theorem setAct_held (s : State) (f : Fld) (x : Nat) : (s.setAct f x).held = s.held := by
  rw [setAct, setReg_held]
@[simp] theorem setAct_now (s : State) (f : Fld) (x : Nat) : (s.setAct f x).now = s.now := by
  rw [setAct, setReg_now]
@[simp] theorem setAct_freeCtr (s : State) (f : Fld) (x : Nat) : (s.setAct f x).freeCtr = s.freeCtr := by
  rw [setAct, setReg_freeCtr]
@[simp] theorem setAct_out (s : State) (f : Fld) (x : Nat) : (s.setAct f x).out = s.out := by
  rw [setAct, setReg_out]
@[simp] theorem setAct_chip (s : State) (f : Fld) (x : Nat) : (s.setAct f x).chip = s.chip := by
  rw [setAct, setReg_chip]
@[simp] theorem setAct_life (s : State) (f : Fld) (x : Nat) : (s.setAct f x).life = s.life := by
  rw [setAct, setReg_life]
@[simp] theorem setAct_mgmt (s : State) (f : Fld) (x : Nat) : (s.setAct f x).mgmt = s.mgmt := by
  rw [setAct, setReg_mgmt]
@[simp] theorem setAct_evrec (s : State) (f : Fld) (x : Nat) : (s.setAct f x).evrec = s.evrec := by
  rw [setAct, setReg_evrec]
@[simp] theorem setAct_sec (s : State) (f : Fld) (x : Nat) : (s.setAct f x).sec = s.sec := by
  rw [setAct, setReg_sec]
@[simp] theorem setAct_up (s : State) (f : Fld) (x : Nat) : (s.setAct f x).up = s.up := by
  rw [setAct, setReg_up]
@[simp] theorem setAct_fab (s : State) (f : Fld) (x : Nat) : (s.setAct f x).fab = s.fab := by
  rw [setAct, setReg_fab]
@[simp] theorem setAct_nv (s : State) (f : Fld) (x : Nat) : (s.setAct f x).nv = s.nv := by
  rw [setAct, setReg_nv]
@[simp] theorem setAct_loom (s : State) (f : Fld) (x : Nat) : (s.setAct f x).loom = s.loom := by
  rw [setAct, setReg_loom]
@[simp] theorem setAct_jr (s : State) (f : Fld) (x : Nat) : (s.setAct f x).jr = s.jr := by
  rw [setAct, setReg_jr]
@[simp] theorem setAct_mp (s : State) (f : Fld) (x : Nat) : (s.setAct f x).mp = s.mp := by
  rw [setAct, setReg_mp]
@[simp] theorem setAct_md (s : State) (f : Fld) (x : Nat) : (s.setAct f x).md = s.md := by
  rw [setAct, setReg_md]
@[simp] theorem setAct_mo (s : State) (f : Fld) (x : Nat) : (s.setAct f x).mo = s.mo := by
  rw [setAct, setReg_mo]
@[simp] theorem setAct_dk (s : State) (f : Fld) (x : Nat) : (s.setAct f x).dk = s.dk := by
  rw [setAct, setReg_dk]
@[simp] theorem setAct_own (s : State) (f : Fld) (x : Nat) : (s.setAct f x).own = s.own := by
  rw [setAct, setReg_own]
@[simp] theorem setAct_repl (s : State) (f : Fld) (x : Nat) : (s.setAct f x).repl = s.repl := by
  rw [setAct, setReg_repl]
@[simp] theorem setAct_pw (s : State) (f : Fld) (x : Nat) : (s.setAct f x).pw = s.pw := by
  rw [setAct, setReg_pw]
@[simp] theorem setAct_svc (s : State) (f : Fld) (x : Nat) : (s.setAct f x).svc = s.svc := by
  rw [setAct, setReg_svc]
@[simp] theorem setAct_intc (s : State) (f : Fld) (x : Nat) : (s.setAct f x).intc = s.intc := by
  rw [setAct, setReg_intc]
@[simp] theorem setAct_pick (s : State) (f : Fld) (x : Nat) : (s.setAct f x).pick = s.pick := by
  rw [setAct, setReg_pick]
@[simp] theorem setAct_trc (s : State) (f : Fld) (x : Nat) : (s.setAct f x).trc = s.trc := by
  rw [setAct, setReg_trc]

@[simp] theorem setBlk_pending (s : State) (page st : Nat) : (s.setBlk page st).pending = s.pending := by
  rw [setBlk, setFld_pending]
@[simp] theorem setBlk_held (s : State) (page st : Nat) : (s.setBlk page st).held = s.held := by
  rw [setBlk, setFld_held]
@[simp] theorem setBlk_now (s : State) (page st : Nat) : (s.setBlk page st).now = s.now := by
  rw [setBlk, setFld_now]
@[simp] theorem setBlk_freeCtr (s : State) (page st : Nat) : (s.setBlk page st).freeCtr = s.freeCtr := by
  rw [setBlk, setFld_freeCtr]
@[simp] theorem setBlk_out (s : State) (page st : Nat) : (s.setBlk page st).out = s.out := by
  rw [setBlk, setFld_out]
@[simp] theorem setBlk_chip (s : State) (page st : Nat) : (s.setBlk page st).chip = s.chip := by
  rw [setBlk, setFld_chip]
@[simp] theorem setBlk_life (s : State) (page st : Nat) : (s.setBlk page st).life = s.life := by
  rw [setBlk, setFld_life]
@[simp] theorem setBlk_mgmt (s : State) (page st : Nat) : (s.setBlk page st).mgmt = s.mgmt := by
  rw [setBlk, setFld_mgmt]
@[simp] theorem setBlk_evrec (s : State) (page st : Nat) : (s.setBlk page st).evrec = s.evrec := by
  rw [setBlk, setFld_evrec]
@[simp] theorem setBlk_sec (s : State) (page st : Nat) : (s.setBlk page st).sec = s.sec := by
  rw [setBlk, setFld_sec]
@[simp] theorem setBlk_up (s : State) (page st : Nat) : (s.setBlk page st).up = s.up := by
  rw [setBlk, setFld_up]
@[simp] theorem setBlk_fab (s : State) (page st : Nat) : (s.setBlk page st).fab = s.fab := by
  rw [setBlk, setFld_fab]
@[simp] theorem setBlk_nv (s : State) (page st : Nat) : (s.setBlk page st).nv = s.nv := by
  rw [setBlk, setFld_nv]
@[simp] theorem setBlk_loom (s : State) (page st : Nat) : (s.setBlk page st).loom = s.loom := by
  rw [setBlk, setFld_loom]
@[simp] theorem setBlk_jr (s : State) (page st : Nat) : (s.setBlk page st).jr = s.jr := by
  rw [setBlk, setFld_jr]
@[simp] theorem setBlk_mp (s : State) (page st : Nat) : (s.setBlk page st).mp = s.mp := by
  rw [setBlk, setFld_mp]
@[simp] theorem setBlk_md (s : State) (page st : Nat) : (s.setBlk page st).md = s.md := by
  rw [setBlk, setFld_md]
@[simp] theorem setBlk_mo (s : State) (page st : Nat) : (s.setBlk page st).mo = s.mo := by
  rw [setBlk, setFld_mo]
@[simp] theorem setBlk_dk (s : State) (page st : Nat) : (s.setBlk page st).dk = s.dk := by
  rw [setBlk, setFld_dk]
@[simp] theorem setBlk_own (s : State) (page st : Nat) : (s.setBlk page st).own = s.own := by
  rw [setBlk, setFld_own]
@[simp] theorem setBlk_repl (s : State) (page st : Nat) : (s.setBlk page st).repl = s.repl := by
  rw [setBlk, setFld_repl]
@[simp] theorem setBlk_pw (s : State) (page st : Nat) : (s.setBlk page st).pw = s.pw := by
  rw [setBlk, setFld_pw]
@[simp] theorem setBlk_svc (s : State) (page st : Nat) : (s.setBlk page st).svc = s.svc := by
  rw [setBlk, setFld_svc]
@[simp] theorem setBlk_intc (s : State) (page st : Nat) : (s.setBlk page st).intc = s.intc := by
  rw [setBlk, setFld_intc]
@[simp] theorem setBlk_pick (s : State) (page st : Nat) : (s.setBlk page st).pick = s.pick := by
  rw [setBlk, setFld_pick]
@[simp] theorem setBlk_trc (s : State) (page st : Nat) : (s.setBlk page st).trc = s.trc := by
  rw [setBlk, setFld_trc]

@[simp] theorem genNext_pending (s : State) (page : Nat) : (s.genNext page).pending = s.pending := by
  rw [genNext, setFld_pending]
@[simp] theorem genNext_held (s : State) (page : Nat) : (s.genNext page).held = s.held := by
  rw [genNext, setFld_held]
@[simp] theorem genNext_now (s : State) (page : Nat) : (s.genNext page).now = s.now := by
  rw [genNext, setFld_now]
@[simp] theorem genNext_freeCtr (s : State) (page : Nat) : (s.genNext page).freeCtr = s.freeCtr := by
  rw [genNext, setFld_freeCtr]
@[simp] theorem genNext_out (s : State) (page : Nat) : (s.genNext page).out = s.out := by
  rw [genNext, setFld_out]
@[simp] theorem genNext_chip (s : State) (page : Nat) : (s.genNext page).chip = s.chip := by
  rw [genNext, setFld_chip]
@[simp] theorem genNext_life (s : State) (page : Nat) : (s.genNext page).life = s.life := by
  rw [genNext, setFld_life]
@[simp] theorem genNext_mgmt (s : State) (page : Nat) : (s.genNext page).mgmt = s.mgmt := by
  rw [genNext, setFld_mgmt]
@[simp] theorem genNext_evrec (s : State) (page : Nat) : (s.genNext page).evrec = s.evrec := by
  rw [genNext, setFld_evrec]
@[simp] theorem genNext_sec (s : State) (page : Nat) : (s.genNext page).sec = s.sec := by
  rw [genNext, setFld_sec]
@[simp] theorem genNext_up (s : State) (page : Nat) : (s.genNext page).up = s.up := by
  rw [genNext, setFld_up]
@[simp] theorem genNext_fab (s : State) (page : Nat) : (s.genNext page).fab = s.fab := by
  rw [genNext, setFld_fab]
@[simp] theorem genNext_nv (s : State) (page : Nat) : (s.genNext page).nv = s.nv := by
  rw [genNext, setFld_nv]
@[simp] theorem genNext_loom (s : State) (page : Nat) : (s.genNext page).loom = s.loom := by
  rw [genNext, setFld_loom]
@[simp] theorem genNext_jr (s : State) (page : Nat) : (s.genNext page).jr = s.jr := by
  rw [genNext, setFld_jr]
@[simp] theorem genNext_mp (s : State) (page : Nat) : (s.genNext page).mp = s.mp := by
  rw [genNext, setFld_mp]
@[simp] theorem genNext_md (s : State) (page : Nat) : (s.genNext page).md = s.md := by
  rw [genNext, setFld_md]
@[simp] theorem genNext_mo (s : State) (page : Nat) : (s.genNext page).mo = s.mo := by
  rw [genNext, setFld_mo]
@[simp] theorem genNext_dk (s : State) (page : Nat) : (s.genNext page).dk = s.dk := by
  rw [genNext, setFld_dk]
@[simp] theorem genNext_own (s : State) (page : Nat) : (s.genNext page).own = s.own := by
  rw [genNext, setFld_own]
@[simp] theorem genNext_repl (s : State) (page : Nat) : (s.genNext page).repl = s.repl := by
  rw [genNext, setFld_repl]
@[simp] theorem genNext_pw (s : State) (page : Nat) : (s.genNext page).pw = s.pw := by
  rw [genNext, setFld_pw]
@[simp] theorem genNext_svc (s : State) (page : Nat) : (s.genNext page).svc = s.svc := by
  rw [genNext, setFld_svc]
@[simp] theorem genNext_intc (s : State) (page : Nat) : (s.genNext page).intc = s.intc := by
  rw [genNext, setFld_intc]
@[simp] theorem genNext_pick (s : State) (page : Nat) : (s.genNext page).pick = s.pick := by
  rw [genNext, setFld_pick]
@[simp] theorem genNext_trc (s : State) (page : Nat) : (s.genNext page).trc = s.trc := by
  rw [genNext, setFld_trc]

@[simp] theorem raiseRaw_pending (s : State) (page bit : Nat) : (s.raiseRaw page bit).pending = s.pending := by
  rw [raiseRaw, setReg_pending]
@[simp] theorem raiseRaw_held (s : State) (page bit : Nat) : (s.raiseRaw page bit).held = s.held := by
  rw [raiseRaw, setReg_held]
@[simp] theorem raiseRaw_now (s : State) (page bit : Nat) : (s.raiseRaw page bit).now = s.now := by
  rw [raiseRaw, setReg_now]
@[simp] theorem raiseRaw_freeCtr (s : State) (page bit : Nat) : (s.raiseRaw page bit).freeCtr = s.freeCtr := by
  rw [raiseRaw, setReg_freeCtr]
@[simp] theorem raiseRaw_out (s : State) (page bit : Nat) : (s.raiseRaw page bit).out = s.out := by
  rw [raiseRaw, setReg_out]
@[simp] theorem raiseRaw_chip (s : State) (page bit : Nat) : (s.raiseRaw page bit).chip = s.chip := by
  rw [raiseRaw, setReg_chip]
@[simp] theorem raiseRaw_life (s : State) (page bit : Nat) : (s.raiseRaw page bit).life = s.life := by
  rw [raiseRaw, setReg_life]
@[simp] theorem raiseRaw_mgmt (s : State) (page bit : Nat) : (s.raiseRaw page bit).mgmt = s.mgmt := by
  rw [raiseRaw, setReg_mgmt]
@[simp] theorem raiseRaw_evrec (s : State) (page bit : Nat) : (s.raiseRaw page bit).evrec = s.evrec := by
  rw [raiseRaw, setReg_evrec]
@[simp] theorem raiseRaw_sec (s : State) (page bit : Nat) : (s.raiseRaw page bit).sec = s.sec := by
  rw [raiseRaw, setReg_sec]
@[simp] theorem raiseRaw_up (s : State) (page bit : Nat) : (s.raiseRaw page bit).up = s.up := by
  rw [raiseRaw, setReg_up]
@[simp] theorem raiseRaw_fab (s : State) (page bit : Nat) : (s.raiseRaw page bit).fab = s.fab := by
  rw [raiseRaw, setReg_fab]
@[simp] theorem raiseRaw_nv (s : State) (page bit : Nat) : (s.raiseRaw page bit).nv = s.nv := by
  rw [raiseRaw, setReg_nv]
@[simp] theorem raiseRaw_loom (s : State) (page bit : Nat) : (s.raiseRaw page bit).loom = s.loom := by
  rw [raiseRaw, setReg_loom]
@[simp] theorem raiseRaw_jr (s : State) (page bit : Nat) : (s.raiseRaw page bit).jr = s.jr := by
  rw [raiseRaw, setReg_jr]
@[simp] theorem raiseRaw_mp (s : State) (page bit : Nat) : (s.raiseRaw page bit).mp = s.mp := by
  rw [raiseRaw, setReg_mp]
@[simp] theorem raiseRaw_md (s : State) (page bit : Nat) : (s.raiseRaw page bit).md = s.md := by
  rw [raiseRaw, setReg_md]
@[simp] theorem raiseRaw_mo (s : State) (page bit : Nat) : (s.raiseRaw page bit).mo = s.mo := by
  rw [raiseRaw, setReg_mo]
@[simp] theorem raiseRaw_dk (s : State) (page bit : Nat) : (s.raiseRaw page bit).dk = s.dk := by
  rw [raiseRaw, setReg_dk]
@[simp] theorem raiseRaw_own (s : State) (page bit : Nat) : (s.raiseRaw page bit).own = s.own := by
  rw [raiseRaw, setReg_own]
@[simp] theorem raiseRaw_repl (s : State) (page bit : Nat) : (s.raiseRaw page bit).repl = s.repl := by
  rw [raiseRaw, setReg_repl]
@[simp] theorem raiseRaw_pw (s : State) (page bit : Nat) : (s.raiseRaw page bit).pw = s.pw := by
  rw [raiseRaw, setReg_pw]
@[simp] theorem raiseRaw_svc (s : State) (page bit : Nat) : (s.raiseRaw page bit).svc = s.svc := by
  rw [raiseRaw, setReg_svc]
@[simp] theorem raiseRaw_intc (s : State) (page bit : Nat) : (s.raiseRaw page bit).intc = s.intc := by
  rw [raiseRaw, setReg_intc]
@[simp] theorem raiseRaw_pick (s : State) (page bit : Nat) : (s.raiseRaw page bit).pick = s.pick := by
  rw [raiseRaw, setReg_pick]
@[simp] theorem raiseRaw_trc (s : State) (page bit : Nat) : (s.raiseRaw page bit).trc = s.trc := by
  rw [raiseRaw, setReg_trc]

@[simp] theorem stick_pending (s : State) (page bit : Nat) : (s.stick page bit).pending = s.pending := by
  rw [stick, setReg_pending]
@[simp] theorem stick_held (s : State) (page bit : Nat) : (s.stick page bit).held = s.held := by
  rw [stick, setReg_held]
@[simp] theorem stick_now (s : State) (page bit : Nat) : (s.stick page bit).now = s.now := by
  rw [stick, setReg_now]
@[simp] theorem stick_freeCtr (s : State) (page bit : Nat) : (s.stick page bit).freeCtr = s.freeCtr := by
  rw [stick, setReg_freeCtr]
@[simp] theorem stick_out (s : State) (page bit : Nat) : (s.stick page bit).out = s.out := by
  rw [stick, setReg_out]
@[simp] theorem stick_chip (s : State) (page bit : Nat) : (s.stick page bit).chip = s.chip := by
  rw [stick, setReg_chip]
@[simp] theorem stick_life (s : State) (page bit : Nat) : (s.stick page bit).life = s.life := by
  rw [stick, setReg_life]
@[simp] theorem stick_mgmt (s : State) (page bit : Nat) : (s.stick page bit).mgmt = s.mgmt := by
  rw [stick, setReg_mgmt]
@[simp] theorem stick_evrec (s : State) (page bit : Nat) : (s.stick page bit).evrec = s.evrec := by
  rw [stick, setReg_evrec]
@[simp] theorem stick_sec (s : State) (page bit : Nat) : (s.stick page bit).sec = s.sec := by
  rw [stick, setReg_sec]
@[simp] theorem stick_up (s : State) (page bit : Nat) : (s.stick page bit).up = s.up := by
  rw [stick, setReg_up]
@[simp] theorem stick_fab (s : State) (page bit : Nat) : (s.stick page bit).fab = s.fab := by
  rw [stick, setReg_fab]
@[simp] theorem stick_nv (s : State) (page bit : Nat) : (s.stick page bit).nv = s.nv := by
  rw [stick, setReg_nv]
@[simp] theorem stick_loom (s : State) (page bit : Nat) : (s.stick page bit).loom = s.loom := by
  rw [stick, setReg_loom]
@[simp] theorem stick_jr (s : State) (page bit : Nat) : (s.stick page bit).jr = s.jr := by
  rw [stick, setReg_jr]
@[simp] theorem stick_mp (s : State) (page bit : Nat) : (s.stick page bit).mp = s.mp := by
  rw [stick, setReg_mp]
@[simp] theorem stick_md (s : State) (page bit : Nat) : (s.stick page bit).md = s.md := by
  rw [stick, setReg_md]
@[simp] theorem stick_mo (s : State) (page bit : Nat) : (s.stick page bit).mo = s.mo := by
  rw [stick, setReg_mo]
@[simp] theorem stick_dk (s : State) (page bit : Nat) : (s.stick page bit).dk = s.dk := by
  rw [stick, setReg_dk]
@[simp] theorem stick_own (s : State) (page bit : Nat) : (s.stick page bit).own = s.own := by
  rw [stick, setReg_own]
@[simp] theorem stick_repl (s : State) (page bit : Nat) : (s.stick page bit).repl = s.repl := by
  rw [stick, setReg_repl]
@[simp] theorem stick_pw (s : State) (page bit : Nat) : (s.stick page bit).pw = s.pw := by
  rw [stick, setReg_pw]
@[simp] theorem stick_svc (s : State) (page bit : Nat) : (s.stick page bit).svc = s.svc := by
  rw [stick, setReg_svc]
@[simp] theorem stick_intc (s : State) (page bit : Nat) : (s.stick page bit).intc = s.intc := by
  rw [stick, setReg_intc]
@[simp] theorem stick_pick (s : State) (page bit : Nat) : (s.stick page bit).pick = s.pick := by
  rw [stick, setReg_pick]
@[simp] theorem stick_trc (s : State) (page bit : Nat) : (s.stick page bit).trc = s.trc := by
  rw [stick, setReg_trc]

@[simp] theorem emit_pending (s : State) (e : Emit) : (s.emit e).pending = s.pending := rfl
@[simp] theorem emit_regs (s : State) (e : Emit) : (s.emit e).regs = s.regs := rfl
@[simp] theorem emit_held (s : State) (e : Emit) : (s.emit e).held = s.held := rfl
@[simp] theorem emit_now (s : State) (e : Emit) : (s.emit e).now = s.now := rfl
@[simp] theorem emit_freeCtr (s : State) (e : Emit) : (s.emit e).freeCtr = s.freeCtr := rfl
@[simp] theorem emit_chip (s : State) (e : Emit) : (s.emit e).chip = s.chip := rfl
@[simp] theorem emit_life (s : State) (e : Emit) : (s.emit e).life = s.life := rfl
@[simp] theorem emit_mgmt (s : State) (e : Emit) : (s.emit e).mgmt = s.mgmt := rfl
@[simp] theorem emit_evrec (s : State) (e : Emit) : (s.emit e).evrec = s.evrec := rfl
@[simp] theorem emit_sec (s : State) (e : Emit) : (s.emit e).sec = s.sec := rfl
@[simp] theorem emit_up (s : State) (e : Emit) : (s.emit e).up = s.up := rfl
@[simp] theorem emit_fab (s : State) (e : Emit) : (s.emit e).fab = s.fab := rfl
@[simp] theorem emit_nv (s : State) (e : Emit) : (s.emit e).nv = s.nv := rfl
@[simp] theorem emit_loom (s : State) (e : Emit) : (s.emit e).loom = s.loom := rfl
@[simp] theorem emit_jr (s : State) (e : Emit) : (s.emit e).jr = s.jr := rfl
@[simp] theorem emit_mp (s : State) (e : Emit) : (s.emit e).mp = s.mp := rfl
@[simp] theorem emit_md (s : State) (e : Emit) : (s.emit e).md = s.md := rfl
@[simp] theorem emit_mo (s : State) (e : Emit) : (s.emit e).mo = s.mo := rfl
@[simp] theorem emit_dk (s : State) (e : Emit) : (s.emit e).dk = s.dk := rfl
@[simp] theorem emit_own (s : State) (e : Emit) : (s.emit e).own = s.own := rfl
@[simp] theorem emit_repl (s : State) (e : Emit) : (s.emit e).repl = s.repl := rfl
@[simp] theorem emit_pw (s : State) (e : Emit) : (s.emit e).pw = s.pw := rfl
@[simp] theorem emit_svc (s : State) (e : Emit) : (s.emit e).svc = s.svc := rfl
@[simp] theorem emit_intc (s : State) (e : Emit) : (s.emit e).intc = s.intc := rfl
@[simp] theorem emit_pick (s : State) (e : Emit) : (s.emit e).pick = s.pick := rfl
@[simp] theorem emit_trc (s : State) (e : Emit) : (s.emit e).trc = s.trc := rfl

@[simp] theorem withPending_regs (s : State) (q : List Instr) : (s.withPending q).regs = s.regs := rfl
@[simp] theorem withPending_held (s : State) (q : List Instr) : (s.withPending q).held = s.held := rfl
@[simp] theorem withPending_now (s : State) (q : List Instr) : (s.withPending q).now = s.now := rfl
@[simp] theorem withPending_freeCtr (s : State) (q : List Instr) : (s.withPending q).freeCtr = s.freeCtr := rfl
@[simp] theorem withPending_out (s : State) (q : List Instr) : (s.withPending q).out = s.out := rfl
@[simp] theorem withPending_chip (s : State) (q : List Instr) : (s.withPending q).chip = s.chip := rfl
@[simp] theorem withPending_life (s : State) (q : List Instr) : (s.withPending q).life = s.life := rfl
@[simp] theorem withPending_mgmt (s : State) (q : List Instr) : (s.withPending q).mgmt = s.mgmt := rfl
@[simp] theorem withPending_evrec (s : State) (q : List Instr) : (s.withPending q).evrec = s.evrec := rfl
@[simp] theorem withPending_sec (s : State) (q : List Instr) : (s.withPending q).sec = s.sec := rfl
@[simp] theorem withPending_up (s : State) (q : List Instr) : (s.withPending q).up = s.up := rfl
@[simp] theorem withPending_fab (s : State) (q : List Instr) : (s.withPending q).fab = s.fab := rfl
@[simp] theorem withPending_nv (s : State) (q : List Instr) : (s.withPending q).nv = s.nv := rfl
@[simp] theorem withPending_loom (s : State) (q : List Instr) : (s.withPending q).loom = s.loom := rfl
@[simp] theorem withPending_jr (s : State) (q : List Instr) : (s.withPending q).jr = s.jr := rfl
@[simp] theorem withPending_mp (s : State) (q : List Instr) : (s.withPending q).mp = s.mp := rfl
@[simp] theorem withPending_md (s : State) (q : List Instr) : (s.withPending q).md = s.md := rfl
@[simp] theorem withPending_mo (s : State) (q : List Instr) : (s.withPending q).mo = s.mo := rfl
@[simp] theorem withPending_dk (s : State) (q : List Instr) : (s.withPending q).dk = s.dk := rfl
@[simp] theorem withPending_own (s : State) (q : List Instr) : (s.withPending q).own = s.own := rfl
@[simp] theorem withPending_repl (s : State) (q : List Instr) : (s.withPending q).repl = s.repl := rfl
@[simp] theorem withPending_pw (s : State) (q : List Instr) : (s.withPending q).pw = s.pw := rfl
@[simp] theorem withPending_svc (s : State) (q : List Instr) : (s.withPending q).svc = s.svc := rfl
@[simp] theorem withPending_intc (s : State) (q : List Instr) : (s.withPending q).intc = s.intc := rfl
@[simp] theorem withPending_pick (s : State) (q : List Instr) : (s.withPending q).pick = s.pick := rfl
@[simp] theorem withPending_trc (s : State) (q : List Instr) : (s.withPending q).trc = s.trc := rfl

@[simp] theorem emit_out (s : State) (e : Emit) : (s.emit e).out = e :: s.out := rfl
@[simp] theorem withPending_pending (s : State) (q : List Instr) : (s.withPending q).pending = q := rfl

@[simp] theorem ratioNote_pending (s : State) (t written stored : Nat) : (s.ratioNote t written stored).pending = s.pending := rfl
@[simp] theorem ratioNote_regs (s : State) (t written stored : Nat) : (s.ratioNote t written stored).regs = s.regs := rfl
@[simp] theorem ratioNote_held (s : State) (t written stored : Nat) : (s.ratioNote t written stored).held = s.held := rfl
@[simp] theorem ratioNote_now (s : State) (t written stored : Nat) : (s.ratioNote t written stored).now = s.now := rfl
@[simp] theorem ratioNote_freeCtr (s : State) (t written stored : Nat) : (s.ratioNote t written stored).freeCtr = s.freeCtr := rfl
@[simp] theorem ratioNote_out (s : State) (t written stored : Nat) : (s.ratioNote t written stored).out = s.out := rfl
@[simp] theorem ratioNote_chip (s : State) (t written stored : Nat) : (s.ratioNote t written stored).chip = s.chip := rfl
@[simp] theorem ratioNote_life (s : State) (t written stored : Nat) : (s.ratioNote t written stored).life = s.life := rfl
@[simp] theorem ratioNote_mgmt (s : State) (t written stored : Nat) : (s.ratioNote t written stored).mgmt = s.mgmt := rfl
@[simp] theorem ratioNote_evrec (s : State) (t written stored : Nat) : (s.ratioNote t written stored).evrec = s.evrec := rfl
@[simp] theorem ratioNote_sec (s : State) (t written stored : Nat) : (s.ratioNote t written stored).sec = s.sec := rfl
@[simp] theorem ratioNote_up (s : State) (t written stored : Nat) : (s.ratioNote t written stored).up = s.up := rfl
@[simp] theorem ratioNote_fab (s : State) (t written stored : Nat) : (s.ratioNote t written stored).fab = s.fab := rfl
@[simp] theorem ratioNote_loom (s : State) (t written stored : Nat) : (s.ratioNote t written stored).loom = s.loom := rfl
@[simp] theorem ratioNote_jr (s : State) (t written stored : Nat) : (s.ratioNote t written stored).jr = s.jr := rfl
@[simp] theorem ratioNote_mp (s : State) (t written stored : Nat) : (s.ratioNote t written stored).mp = s.mp := rfl
@[simp] theorem ratioNote_md (s : State) (t written stored : Nat) : (s.ratioNote t written stored).md = s.md := rfl
@[simp] theorem ratioNote_mo (s : State) (t written stored : Nat) : (s.ratioNote t written stored).mo = s.mo := rfl
@[simp] theorem ratioNote_dk (s : State) (t written stored : Nat) : (s.ratioNote t written stored).dk = s.dk := rfl
@[simp] theorem ratioNote_own (s : State) (t written stored : Nat) : (s.ratioNote t written stored).own = s.own := rfl
@[simp] theorem ratioNote_repl (s : State) (t written stored : Nat) : (s.ratioNote t written stored).repl = s.repl := rfl
@[simp] theorem ratioNote_pw (s : State) (t written stored : Nat) : (s.ratioNote t written stored).pw = s.pw := rfl
@[simp] theorem ratioNote_svc (s : State) (t written stored : Nat) : (s.ratioNote t written stored).svc = s.svc := rfl
@[simp] theorem ratioNote_intc (s : State) (t written stored : Nat) : (s.ratioNote t written stored).intc = s.intc := rfl
@[simp] theorem ratioNote_pick (s : State) (t written stored : Nat) : (s.ratioNote t written stored).pick = s.pick := rfl
@[simp] theorem ratioNote_trc (s : State) (t written stored : Nat) : (s.ratioNote t written stored).trc = s.trc := rfl

@[simp] theorem dropGroup_pending (s : State) (g : Nat) : (s.dropGroup g).pending = s.pending := rfl
@[simp] theorem dropGroup_regs (s : State) (g : Nat) : (s.dropGroup g).regs = s.regs := rfl
@[simp] theorem dropGroup_held (s : State) (g : Nat) : (s.dropGroup g).held = s.held := rfl
@[simp] theorem dropGroup_now (s : State) (g : Nat) : (s.dropGroup g).now = s.now := rfl
@[simp] theorem dropGroup_freeCtr (s : State) (g : Nat) : (s.dropGroup g).freeCtr = s.freeCtr := rfl
@[simp] theorem dropGroup_out (s : State) (g : Nat) : (s.dropGroup g).out = s.out := rfl
@[simp] theorem dropGroup_chip (s : State) (g : Nat) : (s.dropGroup g).chip = s.chip := rfl
@[simp] theorem dropGroup_life (s : State) (g : Nat) : (s.dropGroup g).life = s.life := rfl
@[simp] theorem dropGroup_mgmt (s : State) (g : Nat) : (s.dropGroup g).mgmt = s.mgmt := rfl
@[simp] theorem dropGroup_evrec (s : State) (g : Nat) : (s.dropGroup g).evrec = s.evrec := rfl
@[simp] theorem dropGroup_sec (s : State) (g : Nat) : (s.dropGroup g).sec = s.sec := rfl
@[simp] theorem dropGroup_up (s : State) (g : Nat) : (s.dropGroup g).up = s.up := rfl
@[simp] theorem dropGroup_fab (s : State) (g : Nat) : (s.dropGroup g).fab = s.fab := rfl
@[simp] theorem dropGroup_nv (s : State) (g : Nat) : (s.dropGroup g).nv = s.nv := rfl
@[simp] theorem dropGroup_loom (s : State) (g : Nat) : (s.dropGroup g).loom = s.loom := rfl
@[simp] theorem dropGroup_jr (s : State) (g : Nat) : (s.dropGroup g).jr = s.jr := rfl
@[simp] theorem dropGroup_md (s : State) (g : Nat) : (s.dropGroup g).md = s.md := rfl
@[simp] theorem dropGroup_mo (s : State) (g : Nat) : (s.dropGroup g).mo = s.mo := rfl
@[simp] theorem dropGroup_dk (s : State) (g : Nat) : (s.dropGroup g).dk = s.dk := rfl
@[simp] theorem dropGroup_own (s : State) (g : Nat) : (s.dropGroup g).own = s.own := rfl
@[simp] theorem dropGroup_repl (s : State) (g : Nat) : (s.dropGroup g).repl = s.repl := rfl
@[simp] theorem dropGroup_pw (s : State) (g : Nat) : (s.dropGroup g).pw = s.pw := rfl
@[simp] theorem dropGroup_svc (s : State) (g : Nat) : (s.dropGroup g).svc = s.svc := rfl
@[simp] theorem dropGroup_intc (s : State) (g : Nat) : (s.dropGroup g).intc = s.intc := rfl
@[simp] theorem dropGroup_pick (s : State) (g : Nat) : (s.dropGroup g).pick = s.pick := rfl
@[simp] theorem dropGroup_trc (s : State) (g : Nat) : (s.dropGroup g).trc = s.trc := rfl
@[simp] theorem ratioNote_volumes (s : State) (t written stored : Nat) : (s.ratioNote t written stored).nv.volumes = s.nv.volumes := rfl
@[simp] theorem ratioNote_cmds (s : State) (t written stored : Nat) : (s.ratioNote t written stored).nv.cmds = s.nv.cmds := rfl
@[simp] theorem dropGroup_chunks (s : State) (g : Nat) : (s.dropGroup g).mp.chunks = s.mp.chunks := rfl

/-- Opening a recovery window (R300) writes the open windows and nothing else of the media. -/
theorem windowBegin_eq (s : State) (hits : List (Nat × Nat)) :
    s.windowBegin hits = { s with md.windows := (s.windowBegin hits).md.windows } := by
  unfold windowBegin; simp only; split <;> rfl
@[simp] theorem windowBegin_regs (s : State) (hits : List (Nat × Nat)) : (s.windowBegin hits).regs = s.regs := by
  rw [windowBegin_eq]
@[simp] theorem windowBegin_segs (s : State) (hits : List (Nat × Nat)) : (s.windowBegin hits).md.segs = s.md.segs := by
  rw [windowBegin_eq]
@[simp] theorem windowBegin_pending (s : State) (hits : List (Nat × Nat)) : (s.windowBegin hits).pending = s.pending := by
  rw [windowBegin_eq]

end Sys2Proof.Machine.State
end

