-- ==== Sys2Proof/Laws/Tables.lean ====
section
/-! SUPPORT. Sys2Proof/Laws/Tables.lean: reading a table after a write or a deletion, and the form that both keep; bit fields. -/

namespace Sys2Proof.Machine

variable {α : Type}

@[simp] theorem tGet?_tPut_same (t : List (Nat × α)) (k : Nat) (v : α) : tGet? (tPut t k v) k = some v := by
  induction t with
  | nil => simp [tPut, tGet?]
  | cons e t ih =>
    obtain ⟨k', v'⟩ := e
    simp only [tPut]
    split
    · simp [tGet?]
    · split
      · simp [tGet?]
      · rename_i h; simp [tGet?, h, ih]

theorem tGet?_tPut_ne (t : List (Nat × α)) {k i : Nat} (v : α) (h : i ≠ k) : tGet? (tPut t k v) i = tGet? t i := by
  induction t with
  | nil => simp [tPut, tGet?, h]
  | cons e t ih =>
    obtain ⟨k', v'⟩ := e
    simp only [tPut]
    split
    · simp [tGet?, h]
    · split
      · subst_vars; simp [tGet?, h]
      · simp [tGet?, ih]

theorem tGet?_tDel_ne (t : List (Nat × α)) {k i : Nat} (h : i ≠ k) : tGet? (tDel t k) i = tGet? t i := by
  induction t with
  | nil => rfl
  | cons e t ih =>
    obtain ⟨k', v'⟩ := e
    by_cases hk : k' = k
    · subst hk; simp only [tDel, List.filter_cons] at *; simp [tGet?, ih, h]
    · simp only [tDel, List.filter_cons] at *; simp [tGet?, hk, ih]

@[simp] theorem tGet?_tDel_same (t : List (Nat × α)) (k : Nat) : tGet? (tDel t k) k = none := by
  induction t with
  | nil => rfl
  | cons e t ih =>
    obtain ⟨k', v'⟩ := e
    by_cases hk : k' = k
    · subst hk; simpa [tDel, List.filter_cons] using ih
    · have : ¬ k = k' := fun h => hk h.symm
      simp only [tDel, List.filter_cons] at *; simp [tGet?, hk, this, ih]

/-- Sorted keys, as a pairwise order. -/
theorem tSorted_iff (t : List (Nat × α)) : tSorted t = true ↔ t.Pairwise (fun a b => a.1 < b.1) := by
  induction t with
  | nil => simp [tSorted]
  | cons a t ih =>
    cases t with
    | nil => simp [tSorted]
    | cons b t =>
      simp only [tSorted, Bool.and_eq_true, decide_eq_true_eq, ih]
      constructor
      · intro ⟨h1, h2⟩
        refine List.pairwise_cons.mpr ⟨fun x hx => ?_, h2⟩
        rcases List.mem_cons.mp hx with rfl | hx
        · exact h1
        · exact lt_trans h1 ((List.pairwise_cons.mp h2).1 x hx)
      · intro h
        exact ⟨(List.pairwise_cons.mp h).1 b (by simp), (List.pairwise_cons.mp h).2⟩

theorem mem_tPut {t : List (Nat × α)} {k : Nat} {v : α} {e : Nat × α} (h : e ∈ tPut t k v) : e = (k, v) ∨ e ∈ t := by
  induction t with
  | nil => simpa [tPut] using h
  | cons a t ih =>
    obtain ⟨k', v'⟩ := a
    simp only [tPut] at h
    split at h
    · simpa using h
    · split at h
      · rcases List.mem_cons.mp h with rfl | h
        · exact .inl rfl
        · exact .inr (List.mem_cons_of_mem _ h)
      · rcases List.mem_cons.mp h with rfl | h
        · exact .inr (by simp)
        · rcases ih h with h | h
          · exact .inl h
          · exact .inr (List.mem_cons_of_mem _ h)

/-- A write keeps the keys rising. -/
theorem tSorted_tPut {t : List (Nat × α)} (k : Nat) (v : α) (h : tSorted t = true) : tSorted (tPut t k v) = true := by
  rw [tSorted_iff] at *
  induction t with
  | nil => simp [tPut]
  | cons a t ih =>
    obtain ⟨k', v'⟩ := a
    obtain ⟨h1, h2⟩ := List.pairwise_cons.mp h
    simp only [tPut]
    split
    · rename_i hk
      refine List.pairwise_cons.mpr ⟨fun x hx => ?_, h⟩
      rcases List.mem_cons.mp hx with rfl | hx
      · exact hk
      · exact lt_trans hk (h1 x hx)
    · split
      · subst_vars; exact List.pairwise_cons.mpr ⟨h1, h2⟩
      · refine List.pairwise_cons.mpr ⟨fun x hx => ?_, ih h2⟩
        rcases mem_tPut hx with rfl | hx
        · simp only; omega
        · exact h1 x hx

/-- A deletion keeps the keys rising. -/
theorem tSorted_tDel {t : List (Nat × α)} (k : Nat) (h : tSorted t = true) : tSorted (tDel t k) = true := by
  rw [tSorted_iff] at *
  exact h.filter _

/-! ## Bit fields -/

theorem fieldMask_getLsbD (lo w i : Nat) (h : lo + w ≤ 64) :
    (fieldMask lo w).getLsbD i = (decide (lo ≤ i) && decide (i < lo + w)) := by
  simp only [fieldMask, BitVec.getLsbD_ofNat, Nat.testBit_mul_two_pow, Nat.testBit_two_pow_sub_one]
  rw [Bool.eq_iff_iff]; simp; omega

/-- Bit `i` of a word after a field is replaced. -/
theorem setBits_getLsbD (v : Word) (lo w x i : Nat) (h : lo + w ≤ 64) :
    (setBits v lo w x).getLsbD i = if lo ≤ i ∧ i < lo + w then x.testBit (i - lo) else v.getLsbD i := by
  simp only [setBits, BitVec.getLsbD_or, BitVec.getLsbD_and, BitVec.getLsbD_not, fieldMask_getLsbD _ _ _ h,
    BitVec.getLsbD_ofNat, Nat.testBit_mul_two_pow, Nat.testBit_mod_two_pow]
  by_cases h1 : lo ≤ i <;> by_cases h2 : i < lo + w <;> simp [h1, h2]
  · have h3 : i - lo < w := by omega
    have h4 : i < 64 := by omega
    simp [h3, h4]
  all_goals (intro h3; exact BitVec.lt_of_getLsbD h3)

/-- Bit `i` of a field read as a number. -/
theorem bitsOf_testBit (v : Word) (lo w i : Nat) : (bitsOf v lo w).testBit i = (decide (i < w) && v.getLsbD (lo + i)) := by
  simp only [bitsOf, Nat.testBit_mod_two_pow, Nat.testBit_div_two_pow, BitVec.getLsbD]
  rw [Nat.add_comm]

/-- A replaced field reads as what was written, cut to its width. -/
theorem bitsOf_setBits_same (v : Word) (lo w x : Nat) (h : lo + w ≤ 64) : bitsOf (setBits v lo w x) lo w = x % 2 ^ w := by
  apply Nat.eq_of_testBit_eq
  intro i
  rw [bitsOf_testBit, setBits_getLsbD _ _ _ _ _ h, Nat.testBit_mod_two_pow]
  by_cases h1 : i < w
  · simp [h1]
  · simp [h1]

/-- Another field of the same word is unchanged. -/
theorem bitsOf_setBits_ne (v : Word) (lo w x lo' w' : Nat) (h : lo + w ≤ 64) (hd : lo' + w' ≤ lo ∨ lo + w ≤ lo') :
    bitsOf (setBits v lo w x) lo' w' = bitsOf v lo' w' := by
  apply Nat.eq_of_testBit_eq
  intro i
  rw [bitsOf_testBit, bitsOf_testBit, setBits_getLsbD _ _ _ _ _ h]
  by_cases h1 : i < w'
  · rw [if_neg (by omega)]
  · simp [h1]

end Sys2Proof.Machine
end

