-- ==== Sys2Proof/Laws/Regs.lean ====
section
/-!
SUPPORT. Sys2Proof/Laws/Regs.lean: a register and a field read after a register, a field, a bit or a counter is written, and the one
form that the register file keeps.
-/

namespace Sys2Proof.Machine

namespace State

@[simp] theorem reg_setReg_same (s : State) (k : Nat) (v : Word) : (s.setReg k v).reg k = v := by
  unfold setReg regsPut reg
  simp only [tGet]
  split <;> simp_all

theorem reg_setReg_ne (s : State) {k i : Nat} (v : Word) (h : i ≠ k) : (s.setReg k v).reg i = s.reg i := by
  unfold setReg regsPut reg
  simp only [tGet]
  split
  · rw [tGet?_tDel_ne _ h]
  · rw [tGet?_tPut_ne _ _ h]

theorem reg_setFld_ne (s : State) (f : Fld) {i : Nat} (x : Nat) (h : i ≠ f.key) : (s.setFld f x).reg i = s.reg i :=
  reg_setReg_ne s _ h

theorem reg_bump_ne (s : State) {k i : Nat} (n : Nat) (h : i ≠ k) : (s.bump k n).reg i = s.reg i := reg_setReg_ne s _ h

@[simp] theorem reg_bump_same (s : State) (k n : Nat) : (s.bump k n).reg k = satAdd (s.reg k) n := reg_setReg_same s _ _

@[simp] theorem reg_emit (s : State) (e : Emit) (k : Nat) : (s.emit e).reg k = s.reg k := rfl

@[simp] theorem fld_emit (s : State) (e : Emit) (f : Fld) : (s.emit e).fld f = s.fld f := rfl

/-- A field of another register is unchanged by a register write. -/
theorem fld_setReg_ne (s : State) {k : Nat} (v : Word) (g : Fld) (h : g.key ≠ k) : (s.setReg k v).fld g = s.fld g := by
  unfold fld; rw [reg_setReg_ne s v h]

/-- A field reads as what was written, cut to its width. -/
theorem fld_setFld_same (s : State) (f : Fld) (x : Nat) (h : f.lo + f.w ≤ 64) : (s.setFld f x).fld f = x % 2 ^ f.w := by
  unfold fld setFld; rw [reg_setReg_same]; exact bitsOf_setBits_same _ _ _ _ h

/-- A field of another register is unchanged by a field write. -/
theorem fld_setFld_ne (s : State) (f g : Fld) (x : Nat) (h : g.key ≠ f.key) : (s.setFld f x).fld g = s.fld g :=
  fld_setReg_ne s _ g h

/-- A disjoint field of the same register is unchanged. -/
theorem fld_setFld_disjoint (s : State) (f g : Fld) (x : Nat) (hk : g.key = f.key) (h : f.lo + f.w ≤ 64)
    (hd : g.lo + g.w ≤ f.lo ∨ f.lo + f.w ≤ g.lo) : (s.setFld f x).fld g = s.fld g := by
  unfold fld setFld; rw [hk, reg_setReg_same]; exact bitsOf_setBits_ne _ _ _ _ _ _ h hd

/-- A field of another register is unchanged by a counter. -/
theorem fld_bump_ne (s : State) (k n : Nat) (g : Fld) (h : g.key ≠ k) : (s.bump k n).fld g = s.fld g := fld_setReg_ne s _ g h

/-- A field of another register is unchanged by a bit. -/
theorem fld_setBit_ne (s : State) (f g : Fld) (b : Bool) (h : g.key ≠ f.key) : (s.setBit f b).fld g = s.fld g :=
  fld_setFld_ne s f g _ h

/-- A one-bit field reads as what was written. -/
theorem bit_setBit_same (s : State) (f : Fld) (b : Bool) (hw : f.w = 1) (h : f.lo + f.w ≤ 64) : (s.setBit f b).bit f = b := by
  unfold bit setBit; rw [fld_setFld_same s f _ h, hw]; cases b <;> rfl

end State

/-- Writing one register keeps the register file's form: keys rising, no entry that equals its reset value. -/
theorem regsPut_wf {r : List (Nat × Word)} (k : Nat) (v : Word) (h : regsWf r = true) : regsWf (regsPut r k v) = true := by
  simp only [regsWf, Bool.and_eq_true] at *
  obtain ⟨h1, h2⟩ := h
  rw [List.all_eq_true] at h2
  unfold regsPut
  split
  · refine ⟨tSorted_tDel k h1, List.all_eq_true.mpr fun e he => h2 e (List.mem_filter.mp he).1⟩
  · rename_i hv
    refine ⟨tSorted_tPut k v h1, List.all_eq_true.mpr fun e he => ?_⟩
    rcases mem_tPut he with rfl | he
    · simpa using hv
    · exact h2 e he

/-- Every register write keeps the form. -/
theorem setReg_wf (s : State) (k : Nat) (v : Word) (h : regsWf s.regs = true) : regsWf (s.setReg k v).regs = true :=
  regsPut_wf k v h

end Sys2Proof.Machine
end

