-- ==== Sys2Proof/Laws/Ring.lean ====
section
/-!
SUPPORT. Sys2Proof/Laws/Ring.lean: what writing a region's blocks can change, and the bound of the parity buffer (R182, R183).
-/

namespace Sys2Proof.Machine.State

/-- Evicting keeps the parity buffer one short of its 4,096 stripes, so that a new one finds room. -/
theorem evictStripe_length (l : List Nat) (h : l.length ≤ parityStripes) : (evictStripe l).length < parityStripes := by
  have : parityStripes = 4096 := rfl
  unfold evictStripe
  split <;> simp <;> omega

/-- Everything a block's write can do: new laps and open stripes. -/
theorem stripeWrite_cases (region : Nat) (s : State) (block : Nat) :
    ∃ laps stripes, stripeWrite region s block = { s with jr.laps := laps, jr.openStripes := stripes } := by
  unfold stripeWrite
  split
  · exact ⟨s.jr.laps, s.jr.openStripes, rfl⟩
  · exact ⟨_, _, rfl⟩

/-- Everything the write of a record's blocks can do. -/
theorem blocksWrite_cases (s : State) (region off n : Nat) :
    ∃ laps stripes, s.blocksWrite region off n = { s with jr.laps := laps, jr.openStripes := stripes } := by
  unfold blocksWrite
  generalize s.ringSpan region off n = l
  induction l generalizing s with
  | nil => exact ⟨s.jr.laps, s.jr.openStripes, rfl⟩
  | cons b l ih =>
    obtain ⟨a, c, h⟩ := stripeWrite_cases region s b
    obtain ⟨a', c', h'⟩ := ih (stripeWrite region s b)
    exact ⟨a', c', by rw [List.foldl_cons, h', h]⟩

/-- The parity buffer never holds more than its 4,096 stripes (R183). -/
theorem stripeWrite_bound (region : Nat) (s : State) (block : Nat) (h : s.jr.openStripes.length ≤ parityStripes) :
    (stripeWrite region s block).jr.openStripes.length ≤ parityStripes := by
  have he := evictStripe_length s.jr.openStripes h
  unfold stripeWrite
  split
  · exact h
  · dsimp only
    split <;> split <;> first
      | exact (List.length_filter_le _ _).trans h
      | exact h
      | exact (List.length_filter_le _ _).trans (by simpa using he)
      | simpa using he

@[simp] theorem blocksWrite_own (s : State) (region off n : Nat) : (s.blocksWrite region off n).jr.own = s.jr.own := by
  obtain ⟨_, _, h⟩ := s.blocksWrite_cases region off n
  rw [h]

@[simp] theorem blocksWrite_regs (s : State) (region off n : Nat) : (s.blocksWrite region off n).regs = s.regs := by
  obtain ⟨_, _, h⟩ := s.blocksWrite_cases region off n
  rw [h]

@[simp] theorem blocksWrite_pending (s : State) (region off n : Nat) : (s.blocksWrite region off n).pending = s.pending := by
  obtain ⟨_, _, h⟩ := s.blocksWrite_cases region off n
  rw [h]

end Sys2Proof.Machine.State
end

