-- ==== Sys2Proof/Machine/Outputs.lean ====
section
/-!
DEFINITION. Sys2Proof/Machine/Outputs.lean: the level of every output pin in each condition of the head (R55), as a view of the state.
-/

namespace Sys2Proof.Machine

/-- The output pins of R55. -/
inductive OutPin where
  | feTx | dkTx | mpTx | traceTx | upTx
  | ddrResetN | ddrCke | ddrCommands
  | slotClk | slotLdN | slotDout
  | partnerHb | faultN | holdupActive | holdupDone
  | thermtripN | wakeN | clkreqN | smbAlertN | pmbAlertN
  | smb | pmb | fanPwm0 | fanPwm1 | oobTx | uartTx | mspiCs | mspi | ppsOut | tmeshOut
  deriving DecidableEq, Repr

/-- What an output pin shows. -/
inductive Level where
  /-- not driven: the receiver sees electrical idle, or a pull decides -/
  | undriven
  | pulledLow
  | pulledHigh
  | electricalIdle
  | low
  | high
  /-- an open-drain or released pin -/
  | released
  /-- driven as the protocol or the function of the pin says -/
  | driven
  /-- the 1 MHz heartbeat -/
  | beat
  /-- PWM duty, per mille -/
  | duty (permille : Nat)
  /-- the slot chain runs with `PERST#` asserted for every slot -/
  | chainHeld
  /-- DRAM is refreshed and takes no other command -/
  | refreshOnly
  deriving DecidableEq, Repr

/-- A level of two. -/
def lineLevel (b : Bool) : Level := if b then .high else .low

/-- An open-drain pin: low when it is driven. -/
def drainLevel (n : Bool) : Level := if n then .released else .low

namespace State

/-- An interface's transmitters: idle in reset and in the fatal condition, and until the interface's boot step. -/
def txLevel (s : State) (started : Bool) : Level :=
  if s.chip.cond = .reset || s.chip.cond = .fatal || !started then .electricalIdle else .driven

/-- The level of an output pin of a head without its standby supply (R55, first column). That the supply is absent while `STBY_PWR_OK` is low
is the model's reading (log entry 123). -/
def outputOff (p : OutPin) : Level :=
  match p with
  | .feTx | .dkTx | .mpTx | .traceTx | .upTx | .ddrResetN | .ddrCke | .ddrCommands | .slotClk | .slotLdN | .slotDout
  | .oobTx | .uartTx | .mspi | .ppsOut => .undriven
  | .partnerHb | .faultN | .holdupActive | .holdupDone => .pulledLow
  | .thermtripN | .wakeN | .clkreqN | .smbAlertN | .pmbAlertN | .smb | .pmb | .fanPwm0 | .fanPwm1 | .mspiCs => .pulledHigh
  | .tmeshOut => .driven

/-- The level of an output pin of a powered head (R55, R490, R495). -/
def outputOn (s : State) (p : OutPin) : Level :=
  let reset : Bool := s.chip.cond = .reset
  let fatal : Bool := s.chip.cond = .fatal
  match p with
  | .feTx => if s.fld Reg.OWN_STATUS_ROLE = 5 then .electricalIdle else s.txLevel (s.chip.steps.contains 14)
  | .dkTx => s.txLevel (s.chip.steps.contains 10)
  | .mpTx => s.txLevel (s.chip.steps.contains 8)
  | .traceTx => s.txLevel (s.active Reg.TRACE_PAGE)
  | .upTx => if reset || !s.chip.perstN then .electricalIdle else .driven
  | .ddrResetN | .ddrCke => if reset then .low else if s.chip.steps.contains 6 then .driven else .low
  | .ddrCommands => if reset || !s.chip.steps.contains 6 then .low else if fatal then .refreshOnly else .driven
  | .slotClk | .slotLdN | .slotDout =>
    if reset then .low else if fatal || !s.chip.steps.contains 8 then .chainHeld else .driven
  | .partnerHb => if s.chip.hbOut then .beat else .low
  | .faultN => lineLevel s.chip.faultN
  | .holdupActive => lineLevel s.chip.holdupActive
  | .holdupDone => lineLevel s.chip.holdupDone
  | .thermtripN => drainLevel s.chip.thermtripN
  | .wakeN => drainLevel s.chip.wakeN
  | .clkreqN => if reset then .released else .low
  | .smbAlertN => drainLevel s.chip.smbAlertN
  | .pmbAlertN => .released
  | .smb | .pmb => if reset || (s.chip.cond = .booting && !s.mgmt.running) then .released else .driven
  | .fanPwm0 => if reset then .released else .duty (if fatal then 1000 else s.pw.fan0)
  | .fanPwm1 => if reset then .released else .duty (if fatal then 1000 else s.pw.fan1)
  | .oobTx => if reset || (s.chip.cond = .booting && !s.mgmt.running) then .electricalIdle else .driven
  | .uartTx => if reset then .high else .driven
  | .mspiCs => if reset then .high else .driven
  | .mspi => if reset then .released else .driven
  | .ppsOut => if reset || fatal || !s.bit Reg.TIME_CTRL_PPS_OUT_EN then .low else .driven
  | .tmeshOut => .driven

/-- The level of an output pin (R55). -/
def output (s : State) (p : OutPin) : Level := if s.chip.stbyPwrOk then s.outputOn p else outputOff p

end State

end Sys2Proof.Machine
end

