-- ==== Sys2Proof/WellFormed.lean ====
section
/-!
DEFINITION. Sys2Proof/WellFormed.lean: which operands a command can carry at all. A command with other operands has a meaning
too, yet no sender of the spec can form it: a frame of the slot chain has 64 inputs (R314), a public key of a peer has 96 bytes (R398), and
so on.
-/

namespace Sys2Proof

/-- A range whose block count is 1 to 65,536: `NLB` is a 16-bit zeroes-based count (R110). -/
def rangeOk (r : LbaRange) : Bool := decide (0 < r.nlb) && decide (r.nlb ≤ 65536)

/-- Whether a command's operands have the sizes that the spec gives the places they come from. -/
def Instr.wellFormed : Instr → Bool
  | Instr.registerWrite _ bytes _ => decide (0 < bytes) && decide (bytes ≤ 8)
  | Instr.discardedRead _ bytes => decide (0 < bytes) && decide (bytes ≤ 8)
  | Instr.blkEnable _ _ => true
  | Instr.blkDisable _ _ => true
  | Instr.blkDrain _ _ => true
  | Instr.softReset _ _ => true
  | Instr.softResetDone _ => true
  | Instr.blkCommit _ _ => true
  | Instr.blkCommitApply _ => true
  | Instr.initComplete _ => true
  | Instr.drainComplete _ => true
  | Instr.blockFault _ => true
  | Instr.failedWorkMoved _ => true
  | Instr.dpcFailure _ => true
  | Instr.powerRequest _ _ => true
  | Instr.intRawClear _ _ => true
  | Instr.accessErrRearm _ => true
  | Instr.accessErrCntClear _ => true
  | Instr.timeStep _ => true
  | Instr.timeNowLowRead => true
  | Instr.timeLocked => true
  | Instr.timeSourceLost => true
  | Instr.timeSourceReturn => true
  | Instr.ppsInEdge => true
  | Instr.ppsOutPulse => true
  | Instr.beatBoundary => true
  | Instr.standbyPowerLoss => true
  | Instr.standbyPowerGood => true
  | Instr.chipResetAssert => true
  | Instr.chipResetRelease _ _ => true
  | Instr.mgmtImageLoaded _ _ => true
  | Instr.mainPowerGood _ => true
  | Instr.dramTrainingDone failed _ _ => failed.dedup.length == failed.length
  | Instr.dramInitDone => true
  | Instr.svcImageLoaded _ _ => true
  | Instr.modulePortsReady => true
  | Instr.checkpointRootsLoaded _ => true
  | Instr.journalReplayDone _ _ => true
  | Instr.dumpConsumed _ => true
  | Instr.mainPowerLoss => true
  | Instr.perstAssert => true
  | Instr.perstRelease => true
  | Instr.pwrFailAssert => true
  | Instr.pwrFailGlitch => true
  | Instr.holdupDumpComplete => true
  | Instr.pwrFailRelease => true
  | Instr.holdupSelfReset => true
  | Instr.mgmtWatchdogExpiry => true
  | Instr.lifeReqProvision _ => true
  | Instr.lifeReqDeployed _ => true
  | Instr.lifeReqReturn _ => true
  | Instr.lifeReqScrap _ => true
  | Instr.fuseCellBlown _ => true
  | Instr.lifeWorkDone => true
  | Instr.frameReceive frame _ _ => decide (frame.ipBytes < 65536)
  | Instr.frameResidenceTimeout _ => true
  | Instr.frontEndPortLoss _ => true
  | Instr.connEntryWrite _ _ _ _ _ => true
  | Instr.connEntryDelete _ => true
  | Instr.connEntryRead _ => true
  | Instr.connEntryUpdateApply => true
  | Instr.oldVersionRelease _ => true
  | Instr.addressVersionRelease => true
  | Instr.intakeTermination _ => true
  | Instr.rdmaReadResponse _ _ data _ => !data.isEmpty
  | Instr.roceAck _ _ _ _ => true
  | Instr.cnpReceive _ => true
  | Instr.remoteAccessRequest _ => true
  | Instr.roceConnManagement _ => true
  | Instr.tcpSyn _ _ _ => true
  | Instr.icreq _ _ => true
  | Instr.h2cData _ _ _ data => !data.isEmpty
  | Instr.h2cTermReq _ => true
  | Instr.ackTimeout _ => true
  | Instr.tlsClientHello _ _ => true
  | Instr.keyUpdate _ _ _ => true
  | Instr.announceRepeat => true
  | Instr.ptpAnnounceTimeout => true
  | Instr.connect _ data => decide (data.hostNqn.length ≤ 223) && decide (data.subNqn.length ≤ 223)
  | Instr.propertyGet _ _ => true
  | Instr.propertySet _ _ _ => true
  | Instr.disconnect _ => true
  | Instr.getLogPage _ _ => true
  | Instr.nvmeIdentify _ _ _ => true
  | Instr.abort _ => true
  | Instr.setFeatures _ _ _ _ _ => true
  | Instr.getFeatures _ _ _ _ => true
  | Instr.asyncEventRequest _ => true
  | Instr.keepAlive _ => true
  | Instr.keepAliveExpiry _ _ => true
  | Instr.formatNvm _ nsid lbaf _ _ => decide (nsid < 2 ^ 32) && decide (lbaf < 64)
  | Instr.formatMapRootCommit _ => true
  | Instr.sanitizeCryptoErase _ _ => true
  | Instr.sanitizeBlockErase _ _ => true
  | Instr.sanitizeOverwrite _ => true
  | Instr.sanitizeExitFailure _ => true
  | Instr.sanitizePhaseComplete _ _ => true
  | Instr.flush _ nsid => decide (nsid < 2 ^ 32)
  | Instr.write _ nsid range _ _ _ _ => rangeOk range && decide (nsid < 2 ^ 32)
  | Instr.read _ nsid range _ _ => rangeOk range && decide (nsid < 2 ^ 32)
  | Instr.compare _ nsid range _ _ _ => rangeOk range && decide (nsid < 2 ^ 32)
  | Instr.writeZeroes _ nsid range _ _ => rangeOk range && decide (nsid < 2 ^ 32)
  | Instr.datasetManagement _ nsid ranges _ _ => decide (0 < ranges.length) && decide (ranges.length ≤ 256) && decide (nsid < 2 ^ 32)
  | Instr.copy _ nsid source _ _ _ _ _ => rangeOk source && decide (nsid < 2 ^ 32)
  | Instr.reservationRegister _ _ _ _ _ _ _ => true
  | Instr.reservationReport _ _ _ => true
  | Instr.reservationAcquire _ _ _ _ _ _ _ => true
  | Instr.reservationRelease _ _ _ _ _ _ => true
  | Instr.unsupportedCommand _ _ => true
  | Instr.reedTokensAvailable _ _ => true
  | Instr.mapResolved _ _ => true
  | Instr.loomSelfCheckFail _ => true
  | Instr.loomSwapDue _ => true
  | Instr.reedTblReadState _ => true
  | Instr.reedTblWriteStaged _ _ _ _ _ => true
  | Instr.reedTblReadStaged _ => true
  | Instr.reedTblReadActive _ => true
  | Instr.collectionFloorRecompute => true
  | Instr.energyCardFit _ => true
  | Instr.energyOverrun => true
  | Instr.overwriteRatioUpdate => true
  | Instr.claim _ _ items _ => !items.isEmpty
  | Instr.claimAnswer _ _ => true
  | Instr.shadow _ _ => true
  | Instr.grainPipeline _ _ _ _ _ => true
  | Instr.idxLookup _ _ _ _ _ => true
  | Instr.idxAnswer _ _ _ => true
  | Instr.indexLookupTimeout _ _ => true
  | Instr.recordHeaderWrite _ => true
  | Instr.mirrorData _ _ _ => true
  | Instr.mirrorAck _ _ => true
  | Instr.mirrorResend _ => true
  | Instr.rowClose _ => true
  | Instr.rowCloseTimeout _ => true
  | Instr.stall _ => true
  | Instr.dramChannelFail _ _ _ => true
  | Instr.restripeComplete => true
  | Instr.dramUncorrectableError _ _ _ => true
  | Instr.pendingClear _ _ => true
  | Instr.tallyAuditStart _ => true
  | Instr.tallyAuditFinish => true
  | Instr.indexRunWrite => true
  | Instr.indexRunFlushTimer => true
  | Instr.reweave _ => true
  | Instr.dictTraining _ _ _ _ => true
  | Instr.redWriteStaged _ _ => true
  | Instr.redReadStaged _ => true
  | Instr.redReadActive _ => true
  | Instr.indexRebuildDone => true
  | Instr.shardHandback _ _ => true
  | Instr.grainReadStage _ _ _ _ => true
  | Instr.pageinComplete _ _ => true
  | Instr.pageWriteback _ => true
  | Instr.overlayFill _ => true
  | Instr.mapJournalRowClose => true
  | Instr.mapJournalFlushTimer => true
  | Instr.checkpointDue => true
  | Instr.checkpointComplete => true
  | Instr.pinResident _ => true
  | Instr.snapNotice _ _ _ => true
  | Instr.snapConfirm _ _ => true
  | Instr.snapConfirmTimeout _ => true
  | Instr.snapshotCut _ => true
  | Instr.snapPauseEnd _ => true
  | Instr.snapshotDeleteRun _ => true
  | Instr.bobbinLookup _ _ => true
  | Instr.bobbinFillLand _ _ _ _ => true
  | Instr.mergeBufferDrain _ => true
  | Instr.mergeDrainTimeout _ => true
  | Instr.keeperConfirmReq _ _ _ _ _ => true
  | Instr.keeperConfirm _ _ _ => true
  | Instr.victimScoring => true
  | Instr.collectVictim _ _ => true
  | Instr.segmentErase _ => true
  | Instr.eraseClearReq _ => true
  | Instr.eraseClearAns _ => true
  | Instr.capReport _ _ _ _ => true
  | Instr.capacityRecompute => true
  | Instr.liveDelta _ _ _ => true
  | Instr.patrolUnit _ => true
  | Instr.segmentQuery _ _ _ => true
  | Instr.mediaFailover => true
  | Instr.parityEngineFault _ => true
  | Instr.rebuildSegment _ _ => true
  | Instr.rebuildStatusPublish => true
  | Instr.lostExtentSearch => true
  | Instr.slotChainFrame inputs _ => inputs.length == 64
  | Instr.attentionButton _ => true
  | Instr.powerControllerControl _ _ => true
  | Instr.indicatorControl _ _ _ => true
  | Instr.poweringTimeout _ => true
  | Instr.perstReleaseDelay _ => true
  | Instr.moduleLinkTrained _ _ _ _ => true
  | Instr.moduleLinkTimeout _ => true
  | Instr.mqpReady _ => true
  | Instr.moduleInitTimeout _ => true
  | Instr.moduleEvacuated _ => true
  | Instr.modulePortLoss _ _ => true
  | Instr.readUnitComplete _ _ => true
  | Instr.readTagComplete _ _ _ => true
  | Instr.programUnitComplete _ _ => true
  | Instr.eraseBlockComplete _ _ => true
  | Instr.getGeometryComplete _ _ => true
  | Instr.getDefectsComplete _ _ => true
  | Instr.getHealthComplete _ _ => true
  | Instr.setPowerBudgetComplete _ => true
  | Instr.suspendPolicyComplete _ => true
  | Instr.arbCasComplete _ _ => true
  | Instr.mqpCommandTimeout _ _ _ => true
  | Instr.lateRead _ _ _ => true
  | Instr.flitReceive _ => true
  | Instr.syncFlit _ _ => true
  | Instr.nakRepeat => true
  | Instr.replayTimeout => true
  | Instr.replayLimitQuadDrop errors => errors.length == 6
  | Instr.quadLoss _ => true
  | Instr.widthOrderedSet _ => true
  | Instr.quadReturn _ => true
  | Instr.trainingAttempt => true
  | Instr.trainingStateComplete _ => true
  | Instr.trainingAttemptTimeout => true
  | Instr.partnerPresentChange _ => true
  | Instr.partnerAbsentTimeout => true
  | Instr.linkRetryTimer => true
  | Instr.absentRetryTimer => true
  | Instr.partnerWaitExpiry => true
  | Instr.soloBootRecheck => true
  | Instr.identity _ => true
  | Instr.heartbeatLoss _ _ => true
  | Instr.heartbeatRestored => true
  | Instr.holdup => true
  | Instr.fence _ => true
  | Instr.leaseRenewal => true
  | Instr.joinStart _ _ => true
  | Instr.bulk _ _ => true
  | Instr.joinReady _ => true
  | Instr.mirrorAudit => true
  | Instr.auditDigest _ _ _ _ _ _ => true
  | Instr.mirrorFetch _ => true
  | Instr.mirrorCopy _ => true
  | Instr.ownDigest _ => true
  | Instr.groupSwapPeriod => true
  | Instr.batonOffer _ _ _ => true
  | Instr.batonAccept _ _ => true
  | Instr.batonAbort _ _ => true
  | Instr.batonAnswerTimeout _ => true
  | Instr.batonHandover _ => true
  | Instr.batonCommit _ _ _ => true
  | Instr.fwdCmd _ _ => true
  | Instr.fwdData _ _ _ _ => true
  | Instr.fwdCpl _ _ _ _ _ _ => true
  | Instr.kcvList _ _ => true
  | Instr.sanitizeStep _ _ _ _ _ => true
  | Instr.replFwd _ _ _ => true
  | Instr.pickShadow _ _ _ _ => true
  | Instr.replHello _ _ => true
  | Instr.replOffer _ _ => true
  | Instr.replNeed _ _ _ _ => true
  | Instr.replGrain _ _ => true
  | Instr.replDict _ _ _ _ => true
  | Instr.replMapdelta _ _ => true
  | Instr.replCommit _ _ _ _ _ => true
  | Instr.replAck _ _ _ _ _ _ => true
  | Instr.replSyncWrite _ _ _ => true
  | Instr.replSyncAck _ _ _ _ => true
  | Instr.replBase _ _ => true
  | Instr.replCycleStart _ => true
  | Instr.replRetryTimer _ => true
  | Instr.syncBaseTimer _ => true
  | Instr.syncAckTimeout _ _ => true
  | Instr.keysImport _ _ blob => blob.length % 8 == 0 && decide (24 ≤ blob.length)
  | Instr.keysExport _ _ => true
  | Instr.keysZeroize _ => true
  | Instr.keysInfo _ => true
  | Instr.keysPeerSet _ key => key.length == 96
  | Instr.ledgerAppendDone => true
  | Instr.keyDropDone => true
  | Instr.ecdheGen _ _ => true
  | Instr.ecdh _ peer _ => peer.length == 64 || peer.length == 96
  | Instr.extract _ _ _ => true
  | Instr.expandLabel _ label context _ => decide (label.length ≤ 249) && decide (context.length ≤ 255)
  | Instr.mac _ hash => hash.length == 32 || hash.length == 48
  | Instr.schedZeroize _ => true
  | Instr.derivedSlotExpiry _ => true
  | Instr.trngHealthFail => true
  | Instr.trngRecover => true
  | Instr.xtsOperation _ _ _ _ => true
  | Instr.gcmOperation _ _ _ _ _ _ _ => true
  | Instr.digestInit _ _ => true
  | Instr.digestKeypadI _ _ => true
  | Instr.digestKeypadO _ _ _ _ => true
  | Instr.digestRestore _ _ _ _ => true
  | Instr.digestFinal _ _ => true
  | Instr.digestFinalCompare _ _ _ _ _ => true
  | Instr.measExtGo _ => true
  | Instr.challengeRequest _ => true
  | Instr.challengeResponse _ _ => true
  | Instr.challengeExpiry _ => true
  | Instr.sessionClose _ _ => true
  | Instr.adminIdleTimeout => true
  | Instr.sessionLockExpiry _ => true
  | Instr.kcvExchangeTimer => true
  | Instr.tamperAlarm _ _ _ _ => true
  | Instr.lifeTamperClear _ _ _ => true
  | Instr.spdmGetVersion _ => true
  | Instr.spdmGetCapabilities _ => true
  | Instr.spdmNegotiateAlgorithms _ _ _ _ => true
  | Instr.spdmGetDigests _ => true
  | Instr.spdmGetCertificate _ _ _ _ => true
  | Instr.spdmChallenge _ _ _ => true
  | Instr.spdmGetMeasurements _ _ _ _ => true
  | Instr.spdmUnsupported _ => true
  | Instr.railPoll vout iout status _ => vout.length == 12 && iout.length == 12 && status.length == 12
  | Instr.pmbAlert _ _ _ => true
  | Instr.railStep _ => true
  | Instr.domainPowerUpDone _ => true
  | Instr.domainPowerDownDone _ => true
  | Instr.subdomainIdle _ => true
  | Instr.domainVoltageSettled _ => true
  | Instr.clockLoss _ => true
  | Instr.warpSegmentFault => true
  | Instr.thermalSample temps => temps.length == 64
  | Instr.thermalEmergencyClear => true
  | Instr.hardwareTrip => true
  | Instr.templeLoopSample _ => true
  | Instr.loopEnable _ _ => true
  | Instr.loopHold _ _ => true
  | Instr.loopIReset _ => true
  | Instr.fanStall _ => true
  | Instr.fanRecover _ => true
  | Instr.eventRecord _ _ _ _ _ _ => true
  | Instr.eventSummary _ _ => true
  | Instr.eventFlushTimer => true
  | Instr.evrecFlushWrite => true
  | Instr.eventFlushDone _ => true
  | Instr.evrecReadRing _ => true
  | Instr.evrecReadBuffer _ => true
  | Instr.evrecRateWrite _ => true
  | Instr.evrecRateRead _ => true
  | Instr.pldmFirmwareUpdate _ => true
  | Instr.uartImageReceive _ => true
  | Instr.updateSlotProgrammed _ => true
  | Instr.trialConfirm => true
  | Instr.sensorSample _ => true
  | Instr.glitchDetect _ => true
  | Instr.pldmBaseCommand _ => true
  | Instr.pldmGetPdr _ => true
  | Instr.pldmGetSensorReading _ => true
  | Instr.pldmGetStateSensorReadings _ => true
  | Instr.pldmSetEventReceiver _ => true
  | Instr.pldmUnsupported => true
  | Instr.mctpSetEndpointId _ => true
  | Instr.mctpGetEndpointId => true
  | Instr.mctpGetVersionSupport => true
  | Instr.mctpGetMessageTypeSupport => true
  | Instr.mctpOtherType => true
  | Instr.oobFrameReceive _ _ _ => true
  | Instr.workItem _ _ _ _ _ => true
  | Instr.coreWatchdogExpiry _ => true
  | Instr.coreFault _ => true
  | Instr.interruptRequest _ _ => true
  | Instr.intcClaim _ => true
  | Instr.intcComplete _ _ => true
  | Instr.holdoffExpiry _ => true
  | Instr.pickEpochAnnounce => true
  | Instr.pickEpochLatch => true
  | Instr.tallyRecordWrite => true
  | Instr.pickCounterRead _ => true
  | Instr.traceRecord _ _ _ => true
  | Instr.traceSyncTimer pcs => pcs.length == 17
  | Instr.traceBufferRead => true
  | Instr.configRequest _ _ _ => true
  | Instr.functionLevelReset => true
  | Instr.powerStateChange _ => true
  | Instr.apertureAccess _ _ _ => true
  | Instr.sqTailDoorbell _ _ => true
  | Instr.cqHeadDoorbell _ _ => true
  | Instr.evConsDoorbell _ => true
  | Instr.commandFetch _ _ _ _ _ _ => true
  | Instr.commandCompletionPost _ => true
  | Instr.aliveBeat => true
  | Instr.aliveTimeout => true
  | Instr.wakeRearm => true
  | Instr.ringEnable _ _ _ => true
  | Instr.ringDisable _ => true
  | Instr.identify _ _ _ => true
  | Instr.arrayCreate _ _ _ => true
  | Instr.rejoin _ _ => true
  | Instr.rebalance _ _ _ _ => true
  | Instr.timeConfig _ _ _ _ _ _ => true
  | Instr.addressReturn _ _ _ => true
  | Instr.tenantCreate _ _ _ _ _ _ nqn sn mn => decide (nqn.length ≤ 256) && sn.length == 20 && mn.length == 40
  | Instr.tenantDelete _ _ _ => true
  | Instr.tenantHosts _ _ _ _ _ nqn => decide (nqn.length ≤ 256)
  | Instr.tenantContract _ _ _ _ _ _ _ => true
  | Instr.tenantReduction _ _ _ _ _ _ => true
  | Instr.tenantPskMap _ _ _ _ pskId => decide (pskId.length ≤ 256)
  | Instr.groupCreate _ _ _ _ => true
  | Instr.groupDelete _ _ _ => true
  | Instr.volumeCreate _ _ _ _ _ _ _ _ _ _ => true
  | Instr.volumeResize _ _ _ _ => true
  | Instr.volumeDelete _ _ _ => true
  | Instr.volumePin _ _ _ _ => true
  | Instr.snapshotCreate _ _ volumes => decide (0 < volumes.length) && decide (volumes.length ≤ 256)
  | Instr.snapshotDelete _ _ _ => true
  | Instr.cloneCreate _ _ _ _ _ => true
  | Instr.dictControl _ _ _ _ content => decide (content.length ≤ 65536)
  | Instr.replCreate _ _ _ _ _ _ _ _ _ _ => true
  | Instr.replModify _ _ _ _ _ _ _ _ _ _ => true
  | Instr.replDelete _ _ _ => true
  | Instr.replRelRead _ => true
  | Instr.keyImport _ _ _ _ blob => blob.length % 8 == 0 && decide (24 ≤ blob.length)
  | Instr.keyExport _ _ _ _ _ => true
  | Instr.keyZeroize _ _ _ => true
  | Instr.peerSet _ _ _ key => key.length == 96
  | Instr.spdm _ _ _ => true
  | Instr.measExtend _ _ _ _ => true
  | Instr.lifeRequest _ _ _ => true
  | Instr.tamperClear _ _ _ _ => true
  | Instr.update _ _ _ => true
  | Instr.rollbackCommit _ _ => true
  | Instr.counterConfig _ _ _ _ _ _ => true
  | Instr.ctlUnknownOpcode _ => true
  | Instr.arbCasReissue _ => true
  | Instr.norEraseComplete _ _ => true
  | Instr.tamperAlarmEnd _ => true
  | Instr.ethpLinkUp _ => true
  | Instr.upstreamLinkTrained _ _ => true
  | Instr.tcpRetransmitTimeout _ => true

end Sys2Proof
end

