-- ==== Sys2Proof/Tests/Slice0.lean ====
section
/-!
SUPPORT. Sys2Proof/Tests/Slice0.lean: the states the witnesses use, for every clause of a statement with hypotheses a state and operands
that meet them together, an ill-formed command for each operand check, and a few small tests read from the rules they name.
-/

open Sys2Proof Sys2Proof.Machine Sys2Proof.Machine.State

namespace Sys2Proof.Tests

set_option maxRecDepth 8000

/-- A small state for the tests: out of reset and serving, every block ACTIVE with its power on, an admin session open. -/
def live : State :=
  ({ State.reset with
    regs := (List.range 170).map (fun p => (p * 0x10000 + 0x18, (2 : Word)))
    chip.cond := .serving
    chip.perstN := true
    chip.mainPwrOk := true
    up.busMaster := true }.setFld Reg.SESS_STATUS_ADMIN_ID 1).setFld Reg.DIKOR_STATUS_HEAD_INDEX 0

/-- As `live`, with the link to the partner up and the heads PAIRED. -/
def linked : State := (live.setFld Reg.DIKOR_STATUS_LSTATE 7).setFld Reg.OWN_STATUS_ROLE 2

/-- As `live`, with both session keys in the key store. -/
def keyed : State := { live with sec.slots := [(32740, { emptySlot with material := [7] }), (32741, { emptySlot with material := [9] })] }

/-- As `live`, with management running and a monitor session open. -/
def managed : State := { live with mgmt.running := true, sec.monitors := [7] }

/-- An image with nothing in it. -/
def anImage : Image := { bytes := [] }

/-- An NVMe/TCP connection entry under TLS, and a RoCEv2 one. -/
def tcpEntry : ConnEntry := ⟨true, 2, 1, 2, 1, true, false, 1, 3, 0, 1, 0, 0, 1, 1, 0⟩
def roceEntry : ConnEntry := ⟨true, 0, 1, 0, 1, true, false, 1, 4, 0, 1, 0, 0, 1, 2, 0⟩

/-- As `live`, with connection 5 over TCP and connection 6 over RoCEv2, and port 3 up. -/
def connected : State :=
  { live with fab.conns := [(5, tcpEntry), (6, roceEntry)], fab.rt := [(5, freshRt), (6, freshRt)], fab.up := [3] }

/-- A digest differs from itself plus 1. -/
theorem ne_add_one (d : Word256) : d ≠ d + 1 := by bv_omega

/-- A ClientHello that offers nothing. -/
def aHello : Hello := ⟨false, false, false, false, false, none, false⟩

/-- No protection information. -/
def noPiReq : PiReq := ⟨false, 0, 0, 0, 0⟩

/-- A write of one grain on connection 5 whose data is still missing. -/
def aWrite : HCmd :=
  { conn := 5, cid := 1, tenant := 1, volume := 1, kind := .write, ranges := [(0, 1)], src := 0, bytes := 4096, connCls := 1, cls := 1,
    fua := false, pi := noPiReq, arrived := 0, deadline := 0, window := 0, phase := .run, mute := false, fwdFrom := none,
    fwdTo := false, pulled := false, data := [], tokens := 0, byteTokens := 0, est := 0, f := 0, red := 0, ext := none,
    intakeEnd := 0, outs := [], lookups := [], todo := [], got := [], plan := [], differs := false, seq := none, accepted := 0,
    snapGen := 0 }

/-- A tenant with no hosts. -/
def aTenant : Tenant :=
  { nqn := [1], sn := [], mn := [], hosts := [([2], 1)], crdt1 := 0, crdt2 := 0, crdt3 := 0, san := ⟨0, 0, 0, false, [], [], 0, 0, 0, [], false, none, none⟩,
    quiesced := false, written := 0, stored := 0, recent := [], deleting := none }

/-- A small volume of tenant 1 in group 1. -/
def aVolume : Volume :=
  { tenant := 1, nsid := 1, group := 1, lbaf := 0, blocks := 1024, nguid := 0, eui64 := 0, root := 0, gen := 1, pinned := false, pinReady := false,
    loading := false, formatting := none, formatHost := none, resv := ⟨[], none, 0, 0, false⟩, dict := 0, dictMode := 0, origin := none, lastSnap := none }

/-- As `live`, with tenant 1, group 1 of this head, volume 1 and its snapshot 3. -/
def populated : State :=
  { live with
    nv.tenants := [(1, aTenant)]
    nv.groups := [(1, live.headIndex)]
    nv.volumes := [(1, aVolume)]
    mp.snaps := [(3, ⟨1, 1, 0, 0, false, false⟩)] }

/-- As `s`, with a fetched control command under tag 1. -/
def asked (s : State) (opcode : Nat) : State := { s with up.cmds := [(1, ⟨0, 1, opcode, false, 0, false, none, none⟩)] }

/-- A relationship of volume 1 as the source. -/
def aRel : Rel :=
  { rid := 9, source := true, mode := 1, volume := 1, peer := 7, entry := 2, ip := 5, remote := 1, interval := 60, st := 0, conn := none,
    hello := false, cycle := 0, base := none, next := none, snapping := false, todo := [], ranges := [], offers := [], nextOffer := 0,
    entries := [], rangeCount := 0, begun := false, committing := false, staging := none, needed := [], dicts := [], dictParts := [],
    committed := 0, bases := [], basing := none, waits := [], unsent := false, syncing := [], held := [] }

/-- Controller 1 of tenant 1, with its admin queue on connection 5 and I/O queue 1 on connection 6. -/
def aCtrl : Ctrl :=
  { tenant := 1, cntlid := 1, discovery := false, hostNqn := [2], hostId := 9, cls := 1, adminConn := 5, queues := [(1, 6)], cc := 1, csts := 1,
    kato := 0, acre := false, aec := 0, arb := 0, tempTh := 0, tempLow := 0, warned := false, resMask := [], aers := [], events := [],
    changed := [], resLog := [], errors := [] }

/-- What the transport keeps of connections 5 and 6. -/
def adminRt : ConnRt := { freshRt with ctrl := some 65537, joined := true }
def ioRt : ConnRt := { freshRt with ctrl := some 65537, qid := 1, joined := true, granted := 4 }

/-- The entries of connections 5, 6 and 7, and an I/O connection that is not a subsystem's discovery. -/
def hostEntry : ConnEntry := { tcpEntry with subsys := false, tenant := 1 }

/-- As `populated`, with a controller joined on connections 5 and 6 and connection 7 not yet joined. -/
def attached : State :=
  { populated with
    nv.ctrls := [(65537, aCtrl)]
    fab.conns := [(5, hostEntry), (6, hostEntry), (7, hostEntry)]
    fab.rt := [(5, adminRt), (6, ioRt), (7, freshRt)]
    sec.slots := [(1, { emptySlot with material := [7] })] }

/-- Command 1 of the admin queue, of the I/O queue and of the connection that has not joined. -/
def onAdmin : CmdFrom := ⟨5, 1⟩
def onIo : CmdFrom := ⟨6, 1⟩
def onNew : CmdFrom := ⟨7, 1⟩

/-- A small journal record, and an open DATA segment with one form in its row. -/
def aRec : JRec :=
  { seq := 3, type := 1, fua := false, solo := false, fwd := false, pi := false, rmw := false, bytes := 4096, volume := 1, group := 1, cls := 1,
    tenant := 1, first := 0, time := 0, snapGen := 0, deltas := [], forms := [], ctl := [], row := none, off := 0, blks := 2, mirrored := false,
    journaled := false, flashed := false, olds := [] }
def aRow : Row := { forms := [⟨0, 0, 5, 4, false⟩], member := 0, off := 4, since := 0, pages := [], recs := [], st := .filling }
def aSeg : Seg :=
  { type := 1, st := .opened, width := 10, rows := 4, seq := 1, members := [], nextRow := 1, durable := 0, closedAt := 0, early := false,
    live := 0, dir := [], row := some aRow, lost := [], degradedSeen := false, criticalSeen := false, clear := false, erasing := [], area := 0 }

/-- A leaf whose image lies in segment 2, a located chunk of tenant 1, and a pool that head 0 keeps. -/
def aPage : Page := ⟨1, 0, 1, 0, [], [], false, false, some (2, 0, 0, 0), 0, 0, 0⟩
def aChunk : Chunk := ⟨.located, 4, 2, 0, 0, 0, 77, 1, 1, 0, 0⟩
def aPool : Pool := ⟨0, [], 6, []⟩

/-- A read in flight at port 0, whose module is in service, and its completion. -/
def aCmd : MqpCmd := ⟨0, 7, 1, 0, 0, 0, 0, 0, 0, .hostRead 9 0⟩
def aDone : MqpDone := ⟨0, 0, 7, 0, 0, 0⟩
def readyModule : State := (live.modModule 0 (fun m => { m with cmds := [aCmd] })).setFld (Reg.MODP_STATUS_SVC 0) 4

/-- Relationship 9 as source and as target, on connection 5, and the header of its next message. -/
def aConn : RplConn := { txNext := 1, rxNext := 1, credits := 8, unacked := [], rtt := 0, queue := [] }
def aHead : RplHead := ⟨5, 9, 1, 1, true⟩
def aTarget : Rel := { aRel with source := false, conn := some 5, hello := true, st := 5 }
def source : State := { populated with repl.conns := [(5, aConn)], repl.rels := [(9, { aRel with conn := some 5 })] }
def replica : State := { populated with repl.conns := [(5, aConn)], repl.rels := [(9, aTarget)] }

/-! ### A claim with and without a source -/

/-- Every source but source 5 is in service on core 0. -/
def busySources : State := { live with intc.claimed := [(0, ((List.range 1024).filter (fun x => x != 5)).map (fun x => (x, 7)))] }

/-- As `busySources`, with source 5, which is bit 1 of page 4, enabled and raised. -/
def oneSource : State :=
  { busySources with regs := (Reg.BLK_INT_RAW 4, 2) :: (Reg.BLK_INT_MASK 4, 0) :: (Reg.INTC_SRC 5 + 0x8000, 1) :: busySources.regs }

theorem srcShow_routed (s : State) (x : Nat) : (s.srcShow x).intc.routed = s.intc.routed := by
  unfold State.srcShow
  simp only
  split <;> rfl

theorem foldl_srcShow_routed (l : List Nat) (s : State) : (l.foldl State.srcShow s).intc.routed = s.intc.routed := by
  induction l generalizing s with
  | nil => rfl
  | cons x l ih => rw [List.foldl_cons, ih, srcShow_routed]

theorem srcPending_of_inService (s : State) (x : Nat) (h : s.inService x = true) : s.srcPending x = false := by
  simp [State.srcPending, h]

theorem claimed_inService (s : State) (h : s.intc.claimed = busySources.intc.claimed) (x : Nat) (hx : x < 1024) (h5 : x ≠ 5) : s.inService x = true := by
  unfold State.inService
  rw [h]
  simp [busySources, hx, h5]

theorem pending_only_5 (s : State) (h : s.intc.claimed = busySources.intc.claimed) :
    (List.range intcSources).filter s.srcPending = if s.srcPending 5 then [5] else [] := by
  have e : (List.range intcSources).filter s.srcPending = (List.range intcSources).filter (fun x => s.srcPending 5 && x == 5) := by
    refine List.filter_congr (fun x hx => ?_)
    by_cases k : x = 5
    · subst k; simp
    · rw [srcPending_of_inService s x (claimed_inService s h x (by simpa [intcSources] using hx) k)]; simp [k]
  rw [e]
  by_cases k : s.srcPending 5 = true
  · simp only [k, Bool.true_and, if_true]
    rw [List.filter_beq, List.count_eq_one_of_mem List.nodup_range (by simp [intcSources])]; rfl
  · simp [k]

theorem witness_claim_none : busySources.intcEval.claimPick 15 = none := by
  have h5 : busySources.srcPending 5 = false := by decide
  have hr : busySources.intcEval.intc.routed = [] := by
    unfold State.intcEval
    simp only [foldl_srcShow_routed, pending_only_5 busySources rfl, h5, Bool.false_eq_true, if_false, List.foldl_nil]
    rfl
  unfold State.claimPick
  rw [hr]; rfl

theorem claimPick_one (s : State) (c x : Nat) (h : s.intc.routed.filter (fun e => e.2 == c) = [(x, c)]) : s.claimPick c = some x := by
  unfold State.claimPick
  rw [h]
  simp

theorem witness_claim_some : oneSource.intcEval.claimPick 1 = some 5 := by
  have h5 : oneSource.srcPending 5 = true := by decide
  have hp : (List.range intcSources).filter oneSource.srcPending = [5] := by
    rw [pending_only_5 oneSource rfl, h5]; rfl
  have hr : oneSource.intcEval.intc.routed = (({ oneSource with
      intc.routed := oneSource.intc.routed.filter (fun e => [5].contains e.1) } : State).routeOne 5).intc.routed := by
    unfold State.intcEval
    simp only [foldl_srcShow_routed, hp, List.foldl_cons, List.foldl_nil]
  have hb : (({ oneSource with
      intc.routed := oneSource.intc.routed.filter (fun e => [5].contains e.1) } : State).routeOne 5).intc.routed = [(5, 1)] := by decide
  exact claimPick_one _ 1 5 (by rw [hr, hb]; rfl)

/-! ### A step, for the invariant over fuses -/

theorem witness_fuses_step : ∃ t, (⟨0, 0, 0, 0, false, false⟩ : Fuses).within State.reset.life.fuses ∧ step State.reset = .next t :=
  ⟨_, by unfold Fuses.within; decide, rfl⟩

theorem witness_fuses_command : ∃ t, live.life.fuses.within live.life.fuses ∧ step (live.withPending [.perstAssert]) = .next t :=
  ⟨_, by unfold Fuses.within; decide, rfl⟩

theorem witness_reset_results : ∃ t, ({ live with chip.chipResetN := true } : State).chip.chipResetN = true ∧
    exec .chipResetAssert { live with chip.chipResetN := true } = .next t :=
  ⟨_, by decide, rfl⟩

/-! ## Witnesses of the hypotheses of the statements -/

/-- Clause 2 of `Obligations.StepRunsTheFrontCommand`. -/
theorem witness_StepRunsTheFrontCommand_2 :
    State.reset.pending = [] := by
  decide

/-- Clause 5 of `Obligations.ResetState`. -/
theorem witness_ResetState_5 :
    let i := 23; i < 24 := by
  decide

/-- Clause 1 of `Obligations.FusesAreNeverUnblown`. -/
theorem witness_FusesAreNeverUnblown_1 :
    Life.reset.fuses = ⟨0, 0, 0, 0, false, false⟩ := by
  decide

/-- Clause 1 of `Obligations.BlocksOccupyPagesOneToOneSixtyNine`. -/
theorem witness_BlocksOccupyPagesOneToOneSixtyNine_1 :
    (blockAt 1).isSome = true ∧ (blockAt 169).isSome = true ∧ blockAt 170 = none ∧ blockAt 8191 = none := by
  decide

/-- Clause 4 of `Obligations.BlocksOccupyPagesOneToOneSixtyNine`. -/
theorem witness_BlocksOccupyPagesOneToOneSixtyNine_4 :
    let p := 169; p < 8192 := by
  decide

/-- Clause 5 of `Obligations.BlocksOccupyPagesOneToOneSixtyNine`. -/
theorem witness_BlocksOccupyPagesOneToOneSixtyNine_5 :
    let p := 169; let q := 169; let x := ((blockAt 169).get (by decide)); blockAt p = some x ∧ blockAt q = some x := by
  decide

/-- Clause 1 of `Obligations.InterruptRequestsFollowPending`. -/
theorem witness_InterruptRequestsFollowPending_1 :
    let page : Nat := 2; let i : Nat := 1; 1 ≤ page ∧ page ≤ 169 ∧ i < intCount page := by
  decide

/-- Clause 2 of `Obligations.InterruptRequestsFollowPending`. -/
theorem witness_InterruptRequestsFollowPending_2 :
    intCount 2 ≤ 2 ∧ intCount 2 ≤ 63 := by
  decide

/-- Clause 1 of `Obligations.InterruptSourcesArePendingWhenTheyRequest`. -/
theorem witness_InterruptSourcesArePendingWhenTheyRequest_1 :
    (1 : Nat) ≤ 2 ∧ (2 : Nat) ≤ 169 ∧ 0 < intCount 2 := by
  decide

/-- Clause 2 of `Obligations.InterruptSourcesArePendingWhenTheyRequest`. -/
theorem witness_InterruptSourcesArePendingWhenTheyRequest_2 :
    let page : Nat := 2; let i : Nat := 1; 1 ≤ page ∧ page ≤ 169 ∧ i < intCount page := by
  decide

/-- Clause 4 of `Obligations.InterruptSourcesArePendingWhenTheyRequest`. -/
theorem witness_InterruptSourcesArePendingWhenTheyRequest_4_c :
    let s : State := { live with intc.claimed := [(0, [(5, 7)])] }; let c := 0; let stack := [(5, 7)]; let e := (5, 7); (c, stack) ∈ s.intc.claimed ∧ e ∈ stack := by
  decide

/-- Clause 1 of `Obligations.ShadowsKeepWholeMinutes`. -/
theorem witness_ShadowsKeepWholeMinutes_1 :
    State.reset.pick.held.length < 2 := by
  decide

/-- Clause 2 of `Obligations.ShadowsKeepWholeMinutes`. -/
theorem witness_ShadowsKeepWholeMinutes_2 :
    ({ State.reset with pick.held := [⟨5, 1, 0, []⟩, ⟨6, 1, 0, []⟩] } : State).pick.held = [⟨5, 1, 0, []⟩, ⟨6, 1, 0, []⟩] ∧ minuteEpoch 7 = false := by
  decide

/-- Clause 3 of `Obligations.ShadowsKeepWholeMinutes`. -/
theorem witness_ShadowsKeepWholeMinutes_3 :
    minuteEpoch (60 * 10 ^ 9) = true ∧ minuteEpoch 0 = true ∧ minuteEpoch 7 = false := by
  decide

/-- Clause 4 of `Obligations.ShadowsKeepWholeMinutes`. -/
theorem witness_ShadowsKeepWholeMinutes_4 :
    State.reset.pick.held.length ≤ 2 := by
  decide

/-- Clause 5 of `Obligations.ShadowsKeepWholeMinutes`. -/
theorem witness_ShadowsKeepWholeMinutes_5 :
    let s := { ((live.setAct Reg.PICK_CFG_RING_EN 1).setReg (Reg.PICK_RING_BYTES) 0x4000000) with pick.held := [⟨0, 10, 0, []⟩] }; s.act Reg.PICK_CFG_RING_EN = 1 ∧ s.dmaAllowed = true ∧ s.tallyPlace.isSome ∧ s.pick.partnerDue = false := by
  decide

/-- Clause 1 of `Obligations.ResultsOfTokensAreKept`. -/
theorem witness_ResultsOfTokensAreKept_1 :
    ({ live with up.results := [(5, 1, 2)] } : State).up.results.find? (fun r => r.1 == 5) = some (5, 1, 2) := by
  decide

/-- Clause 2 of `Obligations.ResultsOfTokensAreKept`. -/
theorem witness_ResultsOfTokensAreKept_2 :
    let s := { live with up.cmds := [(1, ⟨0, 1, 1, false, 9, false, none, none⟩)] }; s.up.results.find? (fun r => r.1 == 9) = none ∧ s.up.cmds.any (fun c => c.2.token == 9 && c.2.done.isNone) = true := by
  decide

/-- Clause 3 of `Obligations.ResultsOfTokensAreKept`. -/
theorem witness_ResultsOfTokensAreKept_3 :
    let s := { live.setReg (Reg.CTLCH_RING_SIZE 0) 0x8000000000000004 with up.rings := [(0, ⟨0, 1, 0, 0, true⟩)], up.results := [(9, 1, 2)] }; s.fetchCheck 1 9 1 = some (.replayed, 1, 2) ∧ s.bit (Reg.CTLCH_RING_SIZE_EN 0) = true ∧ s.dmaAllowed = true ∧ (s.ring 0).sqHead ≠ (s.ring 0).sqTail ∧ (s.up.cmds.filter (fun c => c.2.done.isNone)).length < 256 ∧ tGet? s.up.cmds s.up.nextTag = none := by
  decide

/-- Clause 4 of `Obligations.ResultsOfTokensAreKept`. -/
theorem witness_ResultsOfTokensAreKept_4 :
    let c : CtlCmd := ⟨0, 1, 1, false, 9, false, none, none⟩; tGet? ({ live with up.cmds := [(1, c)] } : State).up.cmds 1 = some c ∧ c.done = none ∧ c.token ≠ 0 := by
  decide

/-- Clause 5 of `Obligations.ResultsOfTokensAreKept`. -/
theorem witness_ResultsOfTokensAreKept_5 :
    let s : State := live; let t : State := live.mgmtRestart; (exec .perstAssert s = .next t ∨ exec .functionLevelReset s = .next t ∨ t = s.mgmtRestart) := by
  exact Or.inr (Or.inr rfl)

/-- Clause 6 of `Obligations.ResultsOfTokensAreKept`. -/
theorem witness_ResultsOfTokensAreKept_6 :
    ({ live with chip.chipResetN := true } : State).chip.chipResetN = true := by
  decide

/-- Clause 1 of `Obligations.LatencyBins`. -/
theorem witness_LatencyBins_1 :
    latencyBin 10000 = 1 ∧ latencyBin 163839999 = 14 := by
  decide

/-- Clause 1 of `Obligations.BlockStateEventsMoveTheBlock`. -/
theorem witness_BlockStateEventsMoveTheBlock_1 :
    let s := (live.setBlk 169 OFF); (169 : BitVec 13) ≠ 0 ∧ (blockAt 169).isSome ∧ s.accepts (Reg.BLK_CTRL 169) ∧ s.blk 169 = OFF ∧ s.pwr 169 = PWR_ON ∧ s.bit (Reg.BLK_STATE_RESET_BUSY 169) = false ∧ (0 : Word).getLsbD 2 = false ∧ (0 : Word).getLsbD 3 = false := by
  decide

/-- Clause 2 of `Obligations.BlockStateEventsMoveTheBlock`. -/
theorem witness_BlockStateEventsMoveTheBlock_2 :
    (blockAt 33).isSome ∧ live.accepts (Reg.BLK_CTRL 33) ∧ live.blk 33 = ACTIVE ∧ live.bit (Reg.BLK_STATE_RESET_BUSY 33) = false ∧ (1 : Word).getLsbD 2 = false ∧ (1 : Word).getLsbD 3 = false := by
  decide

/-- Clause 3 of `Obligations.BlockStateEventsMoveTheBlock`. -/
theorem witness_BlockStateEventsMoveTheBlock_3 :
    (blockAt 33).any (fun p => p.1.drainable) ∧ live.accepts (Reg.BLK_CTRL 33) ∧ live.blk 33 = ACTIVE ∧ live.bit (Reg.BLK_STATE_RESET_BUSY 33) = false := by
  decide

/-- Clause 4 of `Obligations.BlockStateEventsMoveTheBlock`. -/
theorem witness_BlockStateEventsMoveTheBlock_4 :
    let s := (live.setBlk 33 DRAINED); (blockAt 33).any (fun p => p.1.resettable) ∧ s.accepts (Reg.BLK_CTRL 33) ∧ s.mayReset 33 = true := by
  decide

/-- Clause 5 of `Obligations.BlockStateEventsMoveTheBlock`. -/
theorem witness_BlockStateEventsMoveTheBlock_5 :
    let s : State := live.setBit (Reg.BLK_STATE_RESET_BUSY 33) true; let page : BitVec 13 := 33; s.bit (Reg.BLK_STATE_RESET_BUSY page.toNat) = true := by
  decide

/-- Clause 6 of `Obligations.BlockStateEventsMoveTheBlock`. -/
theorem witness_BlockStateEventsMoveTheBlock_6 :
    (blockAt 33).any (fun p => p.1.staging) ∧ commitPages 33 = [33] ∧ live.accepts (Reg.BLK_CTRL 33) ∧ (1 : Word).getLsbD 2 = false ∧ bitsOf 1 0 1 = 1 ∧ bitsOf 1 1 1 = 0 ∧ live.blk 33 = ACTIVE ∧ live.bit (Reg.BLK_STATE_COMMIT_PENDING 33) = false ∧ live.bit (Reg.BLK_STATE_RESET_BUSY 33) = false := by
  decide

/-- Clause 7 of `Obligations.BlockStateEventsMoveTheBlock`. -/
theorem witness_BlockStateEventsMoveTheBlock_7 :
    let s : State := live.setBit (Reg.BLK_STATE_COMMIT_PENDING Reg.SELV_PAGE) true; let page : BitVec 13 := BitVec.ofNat 13 Reg.SELV_PAGE; s.bit (Reg.BLK_STATE_COMMIT_PENDING page.toNat) = true ∧ (page.toNat = Reg.HEDDLE_PAGE → s.fab.addrOld = false) ∧ commitsNow s page.toNat = true := by
  decide

/-- Clause 8 of `Obligations.BlockStateEventsMoveTheBlock`. -/
theorem witness_BlockStateEventsMoveTheBlock_8 :
    let s : State := live.setBlk 169 STARTING; let page : BitVec 13 := 169; s.blk page.toNat = STARTING ∧ (page.toNat = Reg.LOOM_PAGE 0 ∨ page.toNat = Reg.LOOM_PAGE 1 → s.chip.steps.contains 12 = true ∧ (s.dk.passed = true ∨ s.bit Reg.DIKOR_STATUS_ABSENT = true ∨ s.lstate = 10 ∨ s.lstate = 11)) ∧ s.fld (Reg.BLK_CTRL_ROLE page.toNat) ≠ 0xE := by
  decide

/-- Clause 9 of `Obligations.BlockStateEventsMoveTheBlock`. -/
theorem witness_BlockStateEventsMoveTheBlock_9 :
    let s := (live.setBlk 33 STARTING).setFld (Reg.BLK_CTRL_ROLE 33) 0xE; s.blk 33 = STARTING ∧ (blockAt 33).any (fun p => p.1.spare) ∧ s.fld (Reg.BLK_CTRL_ROLE 33) = 0xE := by
  decide

/-- Clause 10 of `Obligations.BlockStateEventsMoveTheBlock`. -/
theorem witness_BlockStateEventsMoveTheBlock_10 :
    (live.setBlk 33 DRAINING).blk 33 = DRAINING ∧ drainOver (live.setBlk 33 DRAINING) 33 = true := by
  decide

/-- Clause 11 of `Obligations.BlockStateEventsMoveTheBlock`. -/
theorem witness_BlockStateEventsMoveTheBlock_11 :
    (live.setBlk 33 FAILED).blk 33 = FAILED := by
  decide

/-- Clause 12 of `Obligations.BlockStateEventsMoveTheBlock`. -/
theorem witness_BlockStateEventsMoveTheBlock_12 :
    let s : State := live; let page : BitVec 13 := 33; let b : BlockInfo := ((blockAt 33).get (by decide)).1; let n : Nat := ((blockAt 33).get (by decide)).2; page ≠ 0 ∧ blockAt page.toNat = some (b, n) ∧ s.accepts (Reg.BLK_CTRL page.toNat) := by
  decide

/-- Clause 13 of `Obligations.BlockStateEventsMoveTheBlock`. -/
theorem witness_BlockStateEventsMoveTheBlock_13 :
    let s : State := live; s.barReachable = true := by
  decide

/-- Clause 1 of `Obligations.RegisterAccessesAndTimeEventsComplete`. -/
theorem witness_RegisterAccessesAndTimeEventsComplete_1 :
    let a := Reg.PWR_CFG_AVS_GUARD_MV.key; live.barReachable = true ∧ a < 2 ^ 29 ∧ a % 8 = 0 ∧ (match regAt a with | .block p r => decide (live.pwr p = PWR_ON) && !(r.staged && live.bit (Reg.BLK_STATE_COMMIT_PENDING p)) && !reservedCard p (a % 0x10000) && (match regDescWrite r live.rwlLocked (live.reg a) 5 with | .inr _ => true | _ => false) | _ => false) = true ∧ (needsSession a && !live.adminOpen) = false ∧ a ≠ Reg.TIME_STEP ∧ a ≠ Reg.CHIP_ACCESS_ERR ∧ a ≠ Reg.CHIP_ACCESS_ERR_CNT := by
  decide

/-- Clause 2 of `Obligations.RegisterAccessesAndTimeEventsComplete`. -/
theorem witness_RegisterAccessesAndTimeEventsComplete_2 :
    live.barReachable = true ∧ regAt ((0x210102 : BitVec 29).toNat / 8 * 8) ≠ .none ∧ (0x210102 : BitVec 29).toNat % 4 ≠ 0 := by
  decide

/-- Clause 3 of `Obligations.RegisterAccessesAndTimeEventsComplete`. -/
theorem witness_RegisterAccessesAndTimeEventsComplete_3 :
    let s : State := live; let addr : BitVec 29 := 0xAA0000; s.barReachable = true ∧ regAt (addr.toNat / 8 * 8) = .none := by
  decide

/-- Clause 4 of `Obligations.RegisterAccessesAndTimeEventsComplete`. -/
theorem witness_RegisterAccessesAndTimeEventsComplete_4 :
    (blockAt 33).isSome ∧ live.accepts (Reg.BLK_INT_RAW 33) := by
  decide

/-- Clause 5 of `Obligations.RegisterAccessesAndTimeEventsComplete`. -/
theorem witness_RegisterAccessesAndTimeEventsComplete_5 :
    live.barReachable = true ∧ live.pwr Reg.CHIP_PAGE = PWR_ON ∧ (1 : Word).getLsbD 0 = true := by
  decide

/-- Clause 6 of `Obligations.RegisterAccessesAndTimeEventsComplete`. -/
theorem witness_RegisterAccessesAndTimeEventsComplete_6 :
    live.barReachable = true ∧ live.pwr Reg.CHIP_PAGE = PWR_ON ∧ ((0x80000000 : Word).setWidth 32 : BitVec 32) ≠ 0 := by
  decide

/-- Clause 7 of `Obligations.RegisterAccessesAndTimeEventsComplete`. -/
theorem witness_RegisterAccessesAndTimeEventsComplete_7 :
    live.accepts Reg.TIME_STEP ∧ live.fld Reg.TIME_STATUS_STATE = 0 ∧ live.chip.leftUnsynced = false := by
  decide

/-- Clause 8 of `Obligations.RegisterAccessesAndTimeEventsComplete`. -/
theorem witness_RegisterAccessesAndTimeEventsComplete_8 :
    live.barReachable = true ∧ live.pwr Reg.TIME_PAGE = PWR_ON := by
  decide

/-- Clause 9 of `Obligations.RegisterAccessesAndTimeEventsComplete`. -/
theorem witness_RegisterAccessesAndTimeEventsComplete_9 :
    (live.setFld Reg.TIME_STATUS_STATE 2).fld Reg.TIME_STATUS_STATE = 2 := by
  decide

/-- Clause 10 of `Obligations.RegisterAccessesAndTimeEventsComplete`. -/
theorem witness_RegisterAccessesAndTimeEventsComplete_10 :
    (live.setFld Reg.TIME_STATUS_STATE 3).fld Reg.TIME_STATUS_STATE = 3 := by
  decide

/-- Clause 11 of `Obligations.RegisterAccessesAndTimeEventsComplete`. -/
theorem witness_RegisterAccessesAndTimeEventsComplete_11 :
    (live.setFld Reg.TIME_STATUS_STATE 4).fld Reg.TIME_STATUS_STATE = 4 := by
  decide

/-- Clause 12 of `Obligations.RegisterAccessesAndTimeEventsComplete`. -/
theorem witness_RegisterAccessesAndTimeEventsComplete_12 :
    live.chip.cond ≠ .reset := by
  decide

/-- Clause 13 of `Obligations.RegisterAccessesAndTimeEventsComplete`. -/
theorem witness_RegisterAccessesAndTimeEventsComplete_13 :
    let s := live.setBit Reg.TIME_CTRL_PPS_OUT_EN true; s.chip.cond ≠ .reset ∧ s.chip.cond ≠ .fatal ∧ s.bit Reg.TIME_CTRL_PPS_OUT_EN = true := by
  decide

/-- Clause 1 of `Obligations.BootStepsComplete`. -/
theorem witness_BootStepsComplete_1 :
    let s := { State.reset with chip.cond := .booting, mgmt.slotA := some anImage }; s.mgmt.running = false ∧ s.chip.cond = .booting ∧ (s.chip.holdup = true → s.dramTrained = true) ∧ s.slotImage s.nextSlot = some anImage := by
  decide

/-- Clause 2 of `Obligations.BootStepsComplete`. -/
theorem witness_BootStepsComplete_2 :
    let s := { State.reset with chip.cond := .booting, chip.steps := [1, 2, 3, 4], chip.pwrFailN := true }; s.chip.cond = .booting ∧ s.chip.steps.contains 4 = true ∧ s.chip.steps.contains 5 = false ∧ s.chip.pwrFailN = true ∧ s.chip.holdup = false := by
  decide

/-- Clause 3 of `Obligations.BootStepsComplete`. -/
theorem witness_BootStepsComplete_3 :
    let s : State := live; let t : State := ((live.domainsOn ((List.range 9).map (fun i => 174 + i))).domainsOn (if live.chip.perstN then domainsOf Reg.UPEP_PAGE else [])).stepDone 5; t = ((s.domainsOn ((List.range 9).map (fun i => 174 + i))).domainsOn (if s.chip.perstN then domainsOf Reg.UPEP_PAGE else [])).stepDone 5 := by
  rfl

/-- Clause 4 of `Obligations.BootStepsComplete`. -/
theorem witness_BootStepsComplete_4_a :
    let s : State := { live with chip.cond := .booting, chip.steps := [6] }; let failed : List (Fin 16) := [3]; let bad : List Nat := (failed.map (fun i => i.val)).dedup; s.chip.cond = .booting ∧ s.chip.holdup = false ∧ s.chip.steps.contains 6 = true ∧ s.chip.steps.contains 7 = false ∧ s.dataPath = true ∧ bad.length ≤ 1 := by
  decide

/-- Clause 4 of `Obligations.BootStepsComplete`. -/
theorem witness_BootStepsComplete_4_b :
    let s : State := { live with chip.cond := .booting, chip.steps := [6] }; let failed : List (Fin 16) := [3, 5]; let bad : List Nat := (failed.map (fun i => i.val)).dedup; s.chip.cond = .booting ∧ s.chip.holdup = false ∧ s.chip.steps.contains 6 = true ∧ s.chip.steps.contains 7 = false ∧ s.dataPath = true ∧ 1 < bad.length := by
  decide

/-- Clause 5 of `Obligations.BootStepsComplete`. -/
theorem witness_BootStepsComplete_5 :
    let s := { live with chip.cond := .booting, chip.steps := [7] }; s.chip.cond = .booting ∧ s.chip.holdup = false ∧ s.chip.steps.contains 7 = true ∧ s.chip.steps.contains 8 = false := by
  decide

/-- Clause 6 of `Obligations.BootStepsComplete`. -/
theorem witness_BootStepsComplete_6 :
    let s : State := { live with chip.cond := .booting, chip.steps := [6], mgmt.slotA := some anImage }; let i : Image := anImage; s.chip.cond = .booting ∧ s.chip.holdup = false ∧ s.chip.steps.contains 6 = true ∧ s.chip.steps.contains 9 = false ∧ s.dataPath = true ∧ s.slotImage s.mgmt.bootedB = some i := by
  decide

/-- Clause 7 of `Obligations.BootStepsComplete`. -/
theorem witness_BootStepsComplete_7 :
    let s := { live with chip.cond := .booting, chip.steps := [8] }; s.chip.cond = .booting ∧ s.chip.holdup = false ∧ s.chip.steps.contains 8 = true ∧ s.chip.steps.contains 10 = false := by
  decide

/-- Clause 8 of `Obligations.BootStepsComplete`. -/
theorem witness_BootStepsComplete_8 :
    let s : State := { live with chip.cond := .booting, chip.steps := [10] }; s.chip.cond = .booting ∧ s.chip.holdup = false ∧ s.chip.steps.contains 10 = true ∧ s.chip.steps.contains 12 = false ∧ s.dataPath = true := by
  decide

/-- Clause 9 of `Obligations.BootStepsComplete`. -/
theorem witness_BootStepsComplete_9 :
    let s : State := { live with chip.cond := .booting, chip.steps := [12] }.setFld Reg.OWN_STATUS_ROLE 3; s.replayMay = true := by
  decide

/-- Clause 10 of `Obligations.BootStepsComplete`. -/
theorem witness_BootStepsComplete_10_b :
    let s : State := { live with chip.steps := [13], jr.dumpA := some { number := 1, result := 1, own := [], mirror := [], consumed := false } }; let area : Fin 2 := 0; let d := ({ number := 1, result := 1, own := [], mirror := [], consumed := false } : Dump); (if area.val = 0 then s.jr.dumpA else s.jr.dumpB) = some d ∧ d.consumed = false ∧ d.result ≠ 0 ∧ s.chip.steps.contains 13 = true ∧ (∀ r ∈ s.jr.own, r.flashed = true ∨ ∀ x ∈ d.own, x.seq ≠ r.seq) ∧ (∀ r ∈ s.jr.mir, r.flashed = true ∨ s.own.adopted ≤ r.seq ∨ ∀ x ∈ d.mirror, x.seq ≠ r.seq) := by
  decide

/-- Clause 1 of `Obligations.FaultsTakeTheirPartOutOfService`. -/
theorem witness_FaultsTakeTheirPartOutOfService_1 :
    let s : State := live; let page : BitVec 13 := 170; (blockAt page.toNat = none ∨ s.canFail page.toNat = false) := by
  decide

/-- Clause 2 of `Obligations.FaultsTakeTheirPartOutOfService`. -/
theorem witness_FaultsTakeTheirPartOutOfService_2 :
    let s : State := live; let page : BitVec 13 := BitVec.ofNat 13 Reg.SELV_PAGE; let b : BlockInfo := ((blockAt Reg.SELV_PAGE).get (by decide)).1; let n : Nat := ((blockAt Reg.SELV_PAGE).get (by decide)).2; blockAt page.toNat = some (b, n) ∧ s.canFail page.toNat = true ∧ b.type ≠ .loom ∧ b.type ≠ .media ∧ b.type ≠ .dpc ∧ b.type ≠ .svc ∧ b.type ≠ .dramc ∧ b.type ≠ .modp ∧ b.type ≠ .dikor ∧ b.type ≠ .pwr ∧ b.type ≠ .temple := by
  decide

/-- Clause 3 of `Obligations.FaultsTakeTheirPartOutOfService`. -/
theorem witness_FaultsTakeTheirPartOutOfService_3_a :
    let s : State := live; let page : BitVec 13 := Reg.PWR_PAGE; let b : BlockInfo := ((blockAt Reg.PWR_PAGE).get (by decide)).1; let n : Nat := ((blockAt Reg.PWR_PAGE).get (by decide)).2; blockAt page.toNat = some (b, n) ∧ s.canFail page.toNat = true ∧ (b.type = .pwr ∨ b.type = .temple) := by
  decide

/-- Clause 3 of `Obligations.FaultsTakeTheirPartOutOfService`. -/
theorem witness_FaultsTakeTheirPartOutOfService_3_b :
    let s : State := live; let page : BitVec 13 := BitVec.ofNat 13 (Reg.MODP_PAGE 3); let b : BlockInfo := ((blockAt (Reg.MODP_PAGE 3)).get (by decide)).1; let n : Nat := 3; blockAt page.toNat = some (b, n) ∧ s.canFail page.toNat = true ∧ b.type = .modp := by
  decide

/-- Clause 3 of `Obligations.FaultsTakeTheirPartOutOfService`. -/
theorem witness_FaultsTakeTheirPartOutOfService_3_c :
    let s : State := live; let page : BitVec 13 := Reg.DIKOR_PAGE; let b : BlockInfo := ((blockAt Reg.DIKOR_PAGE).get (by decide)).1; let n : Nat := ((blockAt Reg.DIKOR_PAGE).get (by decide)).2; blockAt page.toNat = some (b, n) ∧ s.canFail page.toNat = true ∧ b.type = .dikor := by
  decide

/-- Clause 3 of `Obligations.FaultsTakeTheirPartOutOfService`. -/
theorem witness_FaultsTakeTheirPartOutOfService_3_d :
    let s : State := live; let page : BitVec 13 := BitVec.ofNat 13 (Reg.LOOM_PAGE 1); let b : BlockInfo := ((blockAt (Reg.LOOM_PAGE 1)).get (by decide)).1; let n : Nat := 1; blockAt page.toNat = some (b, n) ∧ s.canFail page.toNat = true ∧ b.type = .loom := by
  decide

/-- Clause 3 of `Obligations.FaultsTakeTheirPartOutOfService`. -/
theorem witness_FaultsTakeTheirPartOutOfService_3_e :
    let s : State := live; let page : BitVec 13 := BitVec.ofNat 13 (Reg.MEDIA_PAGE 1); let b : BlockInfo := ((blockAt (Reg.MEDIA_PAGE 1)).get (by decide)).1; let n : Nat := 1; blockAt page.toNat = some (b, n) ∧ s.canFail page.toNat = true ∧ b.type = .media := by
  decide

/-- Clause 3 of `Obligations.FaultsTakeTheirPartOutOfService`. -/
theorem witness_FaultsTakeTheirPartOutOfService_3_f :
    let s : State := live; let page : BitVec 13 := BitVec.ofNat 13 (Reg.DPC_PAGE 17); let b : BlockInfo := ((blockAt (Reg.DPC_PAGE 17)).get (by decide)).1; let n : Nat := 17; let dpc : Fin 18 := 17; blockAt page.toNat = some (b, n) ∧ s.canFail page.toNat = true ∧ b.type = .dpc ∧ n = dpc.val := by
  decide

/-- Clause 3 of `Obligations.FaultsTakeTheirPartOutOfService`. -/
theorem witness_FaultsTakeTheirPartOutOfService_3_g :
    let s : State := live; let page : BitVec 13 := BitVec.ofNat 13 (Reg.SVC_PAGE 15); let b : BlockInfo := ((blockAt (Reg.SVC_PAGE 15)).get (by decide)).1; let n : Nat := 15; let core : Fin 16 := 15; blockAt page.toNat = some (b, n) ∧ s.canFail page.toNat = true ∧ b.type = .svc ∧ n = core.val := by
  decide

/-- Clause 3 of `Obligations.FaultsTakeTheirPartOutOfService`. -/
theorem witness_FaultsTakeTheirPartOutOfService_3_h :
    let s : State := live; let page : BitVec 13 := BitVec.ofNat 13 (Reg.DRAMC_PAGE 15); let b : BlockInfo := ((blockAt (Reg.DRAMC_PAGE 15)).get (by decide)).1; let n : Nat := 15; blockAt page.toNat = some (b, n) ∧ s.canFail page.toNat = true ∧ b.type = .dramc := by
  decide

/-- Clause 4 of `Obligations.FaultsTakeTheirPartOutOfService`. -/
theorem witness_FaultsTakeTheirPartOutOfService_4 :
    let s : State := live; let loom : Fin 2 := 1; s.canFail (Reg.LOOM_PAGE loom.val) = true := by
  decide

/-- Clause 5 of `Obligations.FaultsTakeTheirPartOutOfService`. -/
theorem witness_FaultsTakeTheirPartOutOfService_5 :
    let s : State := live; let dpc : Fin 18 := 17; s.canFail (Reg.DPC_PAGE dpc.val) = true := by
  decide

/-- Clause 6 of `Obligations.FaultsTakeTheirPartOutOfService`. -/
theorem witness_FaultsTakeTheirPartOutOfService_6 :
    let s : State := live; s.canFail (Reg.MEDIA_PAGE s.mediaActive) = true := by
  decide

/-- Clause 1 of `Obligations.PortChannelAndCoreFaultsComplete`. -/
theorem witness_PortChannelAndCoreFaultsComplete_1 :
    let s : State := connected; let port : Fin 64 := 3; s.fab.up.contains port.val = true := by
  decide

/-- Clause 2 of `Obligations.PortChannelAndCoreFaultsComplete`. -/
theorem witness_PortChannelAndCoreFaultsComplete_2 :
    let s : State := connected; let port : Fin 64 := 4; s.fab.up.contains port.val = false := by
  decide

/-- Clause 3 of `Obligations.PortChannelAndCoreFaultsComplete`. -/
theorem witness_PortChannelAndCoreFaultsComplete_3 :
    live.canFail (Reg.DRAMC_PAGE 15) = true := by
  decide

/-- Clause 4 of `Obligations.PortChannelAndCoreFaultsComplete`. -/
theorem witness_PortChannelAndCoreFaultsComplete_4 :
    let s : State := live; let core : Fin 16 := 15; s.canFail (Reg.SVC_PAGE core.val) = true := by
  decide

/-- Clause 5 of `Obligations.PortChannelAndCoreFaultsComplete`. -/
theorem witness_PortChannelAndCoreFaultsComplete_5_a :
    let s : State := live; let core : Fin 16 := 15; s.coreActive core.val = true ∧ s.canFail (Reg.SVC_PAGE core.val) = true := by
  decide

/-- Clause 5 of `Obligations.PortChannelAndCoreFaultsComplete`. -/
theorem witness_PortChannelAndCoreFaultsComplete_5_b :
    let s : State := live.setBlk (Reg.SVC_PAGE 3) OFF; let core : Fin 16 := 3; s.coreActive core.val = false := by
  decide

/-- Clause 1 of `Obligations.ClockLossTripAndIdleSubdomainComplete`. -/
theorem witness_ClockLossTripAndIdleSubdomainComplete_1 :
    let d : Fin 41 := 6; (d.val = 0 ∨ d.val = 5 ∨ d.val = 6) := by
  decide

/-- Clause 6 of `Obligations.ClockLossTripAndIdleSubdomainComplete`. -/
theorem witness_ClockLossTripAndIdleSubdomainComplete_6 :
    let d : Fin 41 := 24; 7 ≤ d.val ∧ d.val ≤ 24 := by
  decide

/-- Clause 7 of `Obligations.ClockLossTripAndIdleSubdomainComplete`. -/
theorem witness_ClockLossTripAndIdleSubdomainComplete_7 :
    let d : Fin 41 := 40; 25 ≤ d.val := by
  decide

/-- Clause 8 of `Obligations.ClockLossTripAndIdleSubdomainComplete`. -/
theorem witness_ClockLossTripAndIdleSubdomainComplete_8 :
    live.chip.cond ≠ .reset := by
  decide

/-- Clause 9 of `Obligations.ClockLossTripAndIdleSubdomainComplete`. -/
theorem witness_ClockLossTripAndIdleSubdomainComplete_9 :
    let s := (live.setDom 27 PWR_ON).setAct Reg.PWR_CFG_AUTO_GATE 1; (27 - 26) % 4 ≠ 0 ∧ s.domState 27 = PWR_ON ∧ s.fld (Reg.BLK_PWR_REQ_REQ (Reg.DPC_PAGE 0)) = 0 ∧ s.act Reg.PWR_CFG_AUTO_GATE = 1 ∧ s.subBooked 0 1 = false := by
  decide

/-- Clause 10 of `Obligations.ClockLossTripAndIdleSubdomainComplete`. -/
theorem witness_ClockLossTripAndIdleSubdomainComplete_10 :
    let dom : Fin 183 := 182; (dom.val - 26) % 4 = 0 := by
  decide

/-- Clause 1 of `Obligations.ResetAndHoldupCommandsComplete`. -/
theorem witness_ResetAndHoldupCommandsComplete_1 :
    ({ live with chip.stbyPwrOk := true } : State).chip.stbyPwrOk = true := by
  decide

/-- Clause 2 of `Obligations.ResetAndHoldupCommandsComplete`. -/
theorem witness_ResetAndHoldupCommandsComplete_2 :
    State.reset.chip.stbyPwrOk = false ∧ State.reset.chip.chipResetN = false := by
  decide

/-- Clause 3 of `Obligations.ResetAndHoldupCommandsComplete`. -/
theorem witness_ResetAndHoldupCommandsComplete_3 :
    ({ live with chip.chipResetN := true } : State).chip.chipResetN = true := by
  decide

/-- Clause 4 of `Obligations.ResetAndHoldupCommandsComplete`. -/
theorem witness_ResetAndHoldupCommandsComplete_4 :
    let s := { State.reset with chip.stbyPwrOk := true }; s.chip.chipResetN = false ∧ s.chip.stbyPwrOk = true := by
  decide

/-- Clause 5 of `Obligations.ResetAndHoldupCommandsComplete`. -/
theorem witness_ResetAndHoldupCommandsComplete_5 :
    ({ live with chip.mainPwrOk := true } : State).chip.mainPwrOk = true := by
  decide

/-- Clause 6 of `Obligations.ResetAndHoldupCommandsComplete`. -/
theorem witness_ResetAndHoldupCommandsComplete_6 :
    let s := { live with chip.pwrFailN := true, chip.mainPwrOk := true, chip.steps := [7] }; s.chip.pwrFailN = true ∧ s.life.phase = .idle ∧ s.chip.mainPwrOk = true ∧ s.chip.cond = .serving ∧ s.chip.holdup = false ∧ s.dramTrained = true := by
  decide

/-- Clause 7 of `Obligations.ResetAndHoldupCommandsComplete`. -/
theorem witness_ResetAndHoldupCommandsComplete_7 :
    live.chip.cond ≠ .reset := by
  decide

/-- Clause 8 of `Obligations.ResetAndHoldupCommandsComplete`. -/
theorem witness_ResetAndHoldupCommandsComplete_8 :
    let s : State := { live with chip.holdup := true, jr.dumpA := some { number := 1, result := 0, own := [], mirror := [], consumed := false } }; let a : Nat := 0; let d : Dump := ({ number := 1, result := 0, own := [], mirror := [], consumed := false } : Dump); s.dumpOpen = some (a, d) ∧ s.chip.holdup = true ∧ s.dumpWritten a d = true := by
  decide

/-- Clause 10 of `Obligations.ResetAndHoldupCommandsComplete`. -/
theorem witness_ResetAndHoldupCommandsComplete_10 :
    let s := { live with chip.holdup := true, chip.holdupDone := true, chip.pwrFailN := true }; s.chip.holdup = true ∧ s.chip.holdupDone = true ∧ s.chip.pwrFailN = true := by
  decide

/-- Clause 11 of `Obligations.ResetAndHoldupCommandsComplete`. -/
theorem witness_ResetAndHoldupCommandsComplete_11 :
    let s : State := live; s.chip.cond ≠ .reset ∧ s.pw.clocksOff = false := by
  decide

/-- Clause 1 of `Obligations.LifeCycleRequestsBeginAndTheirFusesFollow`. -/
theorem witness_LifeCycleRequestsBeginAndTheirFusesFollow_1 :
    live.accepts Reg.LIFE_REQ ∧ live.adminOpen = true ∧ live.bit Reg.LIFE_STATUS_BUSY = false ∧ live.bit Reg.LIFE_STATUS_INCOMPLETE = false ∧ live.lifeState = 0 := by
  decide

/-- Clause 2 of `Obligations.LifeCycleRequestsBeginAndTheirFusesFollow`. -/
theorem witness_LifeCycleRequestsBeginAndTheirFusesFollow_2 :
    let s := live.setFld Reg.LIFE_STATUS_STATE 1; s.accepts Reg.LIFE_REQ ∧ s.adminOpen = true ∧ s.bit Reg.LIFE_STATUS_BUSY = false ∧ s.bit Reg.LIFE_STATUS_INCOMPLETE = false ∧ s.lifeState = 1 := by
  decide

/-- Clause 3 of `Obligations.LifeCycleRequestsBeginAndTheirFusesFollow`. -/
theorem witness_LifeCycleRequestsBeginAndTheirFusesFollow_3 :
    let s := live.setFld Reg.LIFE_STATUS_STATE 2; s.accepts Reg.LIFE_REQ ∧ s.adminOpen = true ∧ s.bit Reg.LIFE_STATUS_BUSY = false ∧ s.bit Reg.LIFE_STATUS_INCOMPLETE = false ∧ s.lifeState = 2 ∧ s.holdsData = false := by
  decide

/-- Clause 4 of `Obligations.LifeCycleRequestsBeginAndTheirFusesFollow`. -/
theorem witness_LifeCycleRequestsBeginAndTheirFusesFollow_4 :
    live.accepts Reg.LIFE_REQ ∧ live.adminOpen = true ∧ live.bit Reg.LIFE_STATUS_BUSY = false ∧ live.bit Reg.LIFE_STATUS_INCOMPLETE = false ∧ live.lifeState ≠ 4 ∧ live.holdsData = false := by
  decide

/-- Clause 5 of `Obligations.LifeCycleRequestsBeginAndTheirFusesFollow`. -/
theorem witness_LifeCycleRequestsBeginAndTheirFusesFollow_5 :
    let s := { live.setFld Reg.LIFE_STATUS_TARGET 2 with life.phase := .intent 0 }; s.life.phase = .intent 0 ∧ s.life.stopping = false := by
  decide

/-- Clause 6 of `Obligations.LifeCycleRequestsBeginAndTheirFusesFollow`. -/
theorem witness_LifeCycleRequestsBeginAndTheirFusesFollow_6 :
    let s := { live.setFld Reg.LIFE_STATUS_TARGET 2 with life.phase := .commit 1 3 }; s.life.phase = .commit 1 3 ∧ s.life.stopping = false := by
  decide

/-- Clause 7 of `Obligations.LifeCycleRequestsBeginAndTheirFusesFollow`. -/
theorem witness_LifeCycleRequestsBeginAndTheirFusesFollow_7 :
    let s := { live.setFld Reg.LIFE_STATUS_TARGET 1 with life.phase := .work, chip.pwrFailN := true }; s.life.phase = .work ∧ s.chip.pwrFailN = true ∧ s.fld Reg.LIFE_STATUS_TARGET = 1 := by
  decide

/-- Clause 8 of `Obligations.LifeCycleRequestsBeginAndTheirFusesFollow`. -/
theorem witness_LifeCycleRequestsBeginAndTheirFusesFollow_8 :
    let s := { live.setFld Reg.LIFE_STATUS_TARGET 4 with life.phase := .work, chip.pwrFailN := true }; s.life.phase = .work ∧ s.chip.pwrFailN = true ∧ s.fld Reg.LIFE_STATUS_TARGET = 4 := by
  decide

/-- Clause 1 of `Obligations.FrontEndCommandsComplete`. -/
theorem witness_FrontEndCommandsComplete_1 :
    connected.serving = true ∧ connected.fab.up.contains 3 = true := by
  decide

/-- Clause 2 of `Obligations.FrontEndCommandsComplete`. -/
theorem witness_FrontEndCommandsComplete_2 :
    ({ live with fab.frames := [⟨5, 1, 0, 0, none⟩] } : State).fab.frames.any (fun f => f.conn == 5) = true := by
  decide

/-- Clause 3 of `Obligations.FrontEndCommandsComplete`. -/
theorem witness_FrontEndCommandsComplete_3 :
    let s : State := live; s.chip.cond ≠ .reset ∧ s.bit Reg.HEDDLE_UPD_RESULT_BUSY = false := by
  decide

/-- Clause 4 of `Obligations.FrontEndCommandsComplete`. -/
theorem witness_FrontEndCommandsComplete_4_a :
    let s : State := connected; let index : Fin 16384 := 5; let e := tcpEntry; s.chip.cond ≠ .reset ∧ s.bit Reg.HEDDLE_UPD_RESULT_BUSY = false ∧ s.conn? index.val = some e := by
  decide

/-- Clause 4 of `Obligations.FrontEndCommandsComplete`. -/
theorem witness_FrontEndCommandsComplete_4_b :
    let s : State := connected; let index : Fin 16384 := 16383; s.chip.cond ≠ .reset ∧ s.bit Reg.HEDDLE_UPD_RESULT_BUSY = false ∧ s.conn? index.val = none := by
  decide

/-- Clause 5 of `Obligations.FrontEndCommandsComplete`. -/
theorem witness_FrontEndCommandsComplete_5_a :
    let s : State := connected; let index : Fin 16384 := 5; let e := tcpEntry; s.chip.cond ≠ .reset ∧ s.bit Reg.HEDDLE_UPD_RESULT_BUSY = false ∧ s.entryAt index.val = some e := by
  decide

/-- Clause 5 of `Obligations.FrontEndCommandsComplete`. -/
theorem witness_FrontEndCommandsComplete_5_b :
    let s : State := connected; let index : Fin 16384 := 16383; s.chip.cond ≠ .reset ∧ s.bit Reg.HEDDLE_UPD_RESULT_BUSY = false ∧ s.entryAt index.val = none := by
  decide

/-- Clause 6 of `Obligations.FrontEndCommandsComplete`. -/
theorem witness_FrontEndCommandsComplete_6_a :
    let s : State := { connected with fab.upd := [(5, none)] }; let i : Nat := 5; let e : Option ConnEntry := none; let rest : List (Nat × Option ConnEntry) := []; s.fab.upd = (i, e) :: rest ∧ s.fab.old.length < 512 ∧ s.fab.old.any (fun x => x.1 == i) = false ∧ e = none := by
  decide

/-- Clause 6 of `Obligations.FrontEndCommandsComplete`. -/
theorem witness_FrontEndCommandsComplete_6_b :
    let s : State := { connected with fab.upd := [(5, some tcpEntry)] }; let i : Nat := 5; let e : Option ConnEntry := some tcpEntry; let rest : List (Nat × Option ConnEntry) := []; let x : ConnEntry := tcpEntry; s.fab.upd = (i, e) :: rest ∧ s.fab.old.length < 512 ∧ s.fab.old.any (fun x => x.1 == i) = false ∧ e = some x := by
  decide

/-- Clause 8 of `Obligations.FrontEndCommandsComplete`. -/
theorem witness_FrontEndCommandsComplete_8 :
    connected.fab.frames.any (fun f => f.addrGen != connected.fab.addrGen) = false := by
  decide

/-- Clause 1 of `Obligations.ConnectionSetupAndPortCommandsComplete`. -/
theorem witness_ConnectionSetupAndPortCommandsComplete_1 :
    let s := { connected with nv.cmds := [(9, aWrite)], now := 10 ^ 9 }; (s.cmdAt 5 1).map (fun x => x.1) = some 9 ∧ aWrite.kind = .write ∧ aWrite.phase = .run ∧ arrivedBytes aWrite < aWrite.bytes ∧ aWrite.intakeEnd + classAllowance aWrite.cls ≤ s.now := by
  decide

/-- Clause 2 of `Obligations.ConnectionSetupAndPortCommandsComplete`. -/
theorem witness_ConnectionSetupAndPortCommandsComplete_2 :
    let s : State := live; s.serving = true := by
  decide

/-- Clause 3 of `Obligations.ConnectionSetupAndPortCommandsComplete`. -/
theorem witness_ConnectionSetupAndPortCommandsComplete_3_a :
    let s : State := live; let addr : Fin 256 := 0; s.serving = true ∧ s.addrLive addr.val = false := by
  decide

/-- Clause 3 of `Obligations.ConnectionSetupAndPortCommandsComplete`. -/
theorem witness_ConnectionSetupAndPortCommandsComplete_3_b :
    let s : State := (live.setAct (Reg.HEDDLE_ADDR_ATTR_VALID 2) 1) |>.setAct (Reg.HEDDLE_ADDR_ATTR_ACTIVE 2) 1 |>.setAct (Reg.HEDDLE_ADDR_ATTR_TCP_PORT 2) 4420; let addr : Fin 256 := 2; let localPort : BitVec 16 := 4420; s.serving = true ∧ s.addrLive addr.val = true ∧ localPort ≠ 0 ∧ (s.act (Reg.HEDDLE_ADDR_ATTR_TCP_PORT addr.val) = localPort.toNat ∨ s.act (Reg.HEDDLE_ADDR_ATTR_DISC_PORT addr.val) = localPort.toNat) := by
  decide

/-- Clause 3 of `Obligations.ConnectionSetupAndPortCommandsComplete`. -/
theorem witness_ConnectionSetupAndPortCommandsComplete_3_c :
    let s : State := (live.setAct (Reg.HEDDLE_ADDR_ATTR_VALID 2) 1).setAct (Reg.HEDDLE_ADDR_ATTR_ACTIVE 2) 1; let addr : Fin 256 := 2; let localPort : BitVec 16 := 4421; s.serving = true ∧ s.addrLive addr.val = true ∧ s.act (Reg.HEDDLE_ADDR_ATTR_TCP_PORT addr.val) ≠ localPort.toNat ∧ s.act (Reg.HEDDLE_ADDR_ATTR_DISC_PORT addr.val) ≠ localPort.toNat := by
  decide

/-- Clause 4 of `Obligations.ConnectionSetupAndPortCommandsComplete`. -/
theorem witness_ConnectionSetupAndPortCommandsComplete_4 :
    let s := { live with fab.announce := 3 }; s.fab.announce ≠ 0 ∧ s.serving = true := by
  decide

/-- Clause 5 of `Obligations.ConnectionSetupAndPortCommandsComplete`. -/
theorem witness_ConnectionSetupAndPortCommandsComplete_5 :
    let s : State := (live.setFld Reg.TIME_CTRL_SRC 1).setFld Reg.TIME_STATUS_STATE 3; s.ptpSource = true ∧ s.fld Reg.TIME_STATUS_STATE = 3 := by
  decide

/-- Clause 6 of `Obligations.ConnectionSetupAndPortCommandsComplete`. -/
theorem witness_ConnectionSetupAndPortCommandsComplete_6 :
    let s : State := live.setAct (Reg.ETHP_MODE_MODE 0) 0; let port : Fin 64 := 3; s.serving = true ∧ s.portLanes port.val ≠ 0 ∧ s.active (Reg.ETHP_PAGE (port.val / 4)) = true ∧ (s.act (Reg.ETHP_MODE_MODE (port.val / 4)) = 3 → s.active (Reg.ETHP_PAGE (port.val / 4 + 1)) = true) ∧ s.fab.up.contains port.val = false := by
  decide

/-- Clause 1 of `Obligations.ConnectionEventsComplete`. -/
theorem witness_ConnectionEventsComplete_1 :
    let s : State := { attached with nv.cmds := [(9, { aWrite with conn := 6, phase := .run, pulled := true })], fab.rt := [(6, { ioRt with reads := 1 })], fab.conns := [(6, roceEntry)] }; let t : State := { attached with nv.cmds := [(9, { aWrite with conn := 6, phase := .run, pulled := true })], fab.rt := [(6, { ioRt with reads := 1 })], fab.conns := [(6, roceEntry)] }; let cmd : CmdFrom := onIo; let e : ConnEntry := roceEntry; let r : ConnRt := { ioRt with reads := 1 }; let id : Nat := 9; let c : HCmd := { aWrite with conn := 6, phase := .run, pulled := true }; s.takes cmd.conn.val e r t ∧ r.reads ≠ 0 ∧ t.cmdAt cmd.conn.val cmd.cid.toNat = some (id, c) ∧ c.phase = .run ∧ c.pulled = true := by
  decide

/-- Clause 2 of `Obligations.ConnectionEventsComplete`. -/
theorem witness_ConnectionEventsComplete_2_a :
    let s : State := connected; let t : State := connected; let conn : Fin 16384 := 6; let e : ConnEntry := roceEntry; let r : ConnRt := freshRt; s.takes conn.val e r t := by
  decide

/-- Clause 2 of `Obligations.ConnectionEventsComplete`. -/
theorem witness_ConnectionEventsComplete_2_c :
    let s : State := connected; let t : State := connected; let conn : Fin 16384 := 6; let e : ConnEntry := roceEntry; let r : ConnRt := freshRt; s.takes conn.val e r t ∧ tGet? t.repl.conns conn.val = none := by
  decide

/-- Clause 2 of `Obligations.ConnectionEventsComplete`. -/
theorem witness_ConnectionEventsComplete_2_d :
    let s : State := { connected with repl.conns := [(6, ⟨1, 1, 8, [], 0, [], 256⟩)] }; let t : State := { connected with repl.conns := [(6, ⟨1, 1, 8, [], 0, [], 256⟩)] }; let conn : Fin 16384 := 6; let e : ConnEntry := roceEntry; let r : ConnRt := freshRt; s.takes conn.val e r t ∧ tGet? t.repl.conns conn.val ≠ none := by
  decide

/-- Clause 3 of `Obligations.ConnectionEventsComplete`. -/
theorem witness_ConnectionEventsComplete_3_a :
    let s : State := connected; let t : State := connected; let conn : Fin 16384 := 5; let e : ConnEntry := tcpEntry; let r : ConnRt := freshRt; let req : IcReq := ⟨0, 31, false, false, 0⟩; s.takes conn.val e r t ∧ e.typ = 2 ∧ req.pfv = 0 ∧ req.hpda.toNat ≤ 31 := by
  decide

/-- Clause 3 of `Obligations.ConnectionEventsComplete`. -/
theorem witness_ConnectionEventsComplete_3_b :
    let s : State := connected; let t : State := connected; let conn : Fin 16384 := 5; let e : ConnEntry := tcpEntry; let r : ConnRt := freshRt; let req : IcReq := ⟨0, 32, false, false, 0⟩; s.takes conn.val e r t ∧ e.typ = 2 ∧ (req.pfv ≠ 0 ∨ 31 < req.hpda.toNat) := by
  decide

/-- Clause 4 of `Obligations.ConnectionEventsComplete`. -/
theorem witness_ConnectionEventsComplete_4_a :
    let s : State := { connected with fab.ttags := [(4096 * 5 + 7, (1, some 9))] }; let t : State := { connected with fab.ttags := [(4096 * 5 + 7, (1, some 9))] }; let conn : Fin 16384 := 5; let e : ConnEntry := tcpEntry; let r : ConnRt := freshRt; let ttag : BitVec 16 := 0x1007; let gen : Nat := 1; let id : Option Nat := some 9; s.takes conn.val e r t ∧ e.typ = 2 ∧ tGet? t.fab.ttags (4096 * conn.val + ttag.toNat % 4096) = some (gen, id) ∧ gen = ttag.toNat / 4096 := by
  decide

/-- Clause 4 of `Obligations.ConnectionEventsComplete`. -/
theorem witness_ConnectionEventsComplete_4_b :
    let s : State := { connected with fab.ttags := [(4096 * 5 + 7, (1, some 9))] }; let t : State := { connected with fab.ttags := [(4096 * 5 + 7, (1, some 9))] }; let conn : Fin 16384 := 5; let e : ConnEntry := tcpEntry; let r : ConnRt := freshRt; let ttag : BitVec 16 := 0x0007; let gen : Nat := 1; let id : Option Nat := some 9; s.takes conn.val e r t ∧ e.typ = 2 ∧ tGet? t.fab.ttags (4096 * conn.val + ttag.toNat % 4096) = some (gen, id) ∧ gen ≠ ttag.toNat / 4096 := by
  decide

/-- Clause 4 of `Obligations.ConnectionEventsComplete`. -/
theorem witness_ConnectionEventsComplete_4_c :
    let s : State := connected; let t : State := connected; let conn : Fin 16384 := 5; let e : ConnEntry := tcpEntry; let r : ConnRt := freshRt; let ttag : BitVec 16 := 0x1007; s.takes conn.val e r t ∧ e.typ = 2 ∧ tGet? t.fab.ttags (4096 * conn.val + ttag.toNat % 4096) = none := by
  decide

/-- Clause 4 of `Obligations.ConnectionEventsComplete`. -/
theorem witness_ConnectionEventsComplete_4_d :
    let s : State := connected; let t : State := connected; let conn : Fin 16384 := 5; let e : ConnEntry := tcpEntry; let r : ConnRt := freshRt; s.takes conn.val e r t ∧ e.typ = 2 := by
  decide

/-- Clause 5 of `Obligations.ConnectionEventsComplete`. -/
theorem witness_ConnectionEventsComplete_5_a :
    let s : State := connected; let conn : Fin 16384 := 6; let e : ConnEntry := roceEntry; let r : ConnRt := freshRt; s.conn? conn.val = some e ∧ s.connRt? conn.val = some r ∧ s.serving = true ∧ e.typ ≠ 2 ∧ r.err = false := by
  decide

/-- Clause 5 of `Obligations.ConnectionEventsComplete`. -/
theorem witness_ConnectionEventsComplete_5_b :
    let s : State := { connected with fab.rt := [(5, { freshRt with unacked := 2 })] }; let conn : Fin 16384 := 5; let e : ConnEntry := tcpEntry; let r : ConnRt := { freshRt with unacked := 2 }; s.conn? conn.val = some e ∧ s.connRt? conn.val = some r ∧ s.serving = true ∧ e.typ = 2 ∧ r.unacked ≠ 0 := by
  decide

/-- Clause 1 of `Obligations.TlsEventsComplete`. -/
theorem witness_TlsEventsComplete_1_a :
    let s : State := connected; let t : State := connected; let conn : Fin 16384 := 5; let e : ConnEntry := tcpEntry; let r : ConnRt := freshRt; let hello : Hello := aHello; s.takes conn.val e r t ∧ e.typ = 2 ∧ hello.tls13 = false := by
  decide

/-- Clause 1 of `Obligations.TlsEventsComplete`. -/
theorem witness_TlsEventsComplete_1_b :
    let s : State := connected; let t : State := connected; let conn : Fin 16384 := 5; let e : ConnEntry := tcpEntry; let r : ConnRt := freshRt; let hello : Hello := { aHello with tls13 := true }; s.takes conn.val e r t ∧ e.typ = 2 ∧ hello.tls13 = true ∧ (hello.suite128 = false ∧ hello.suite256 = false) ∨ (hello.pskKe = false ∧ hello.dheGroup = false) ∨ hello.psk = none := by
  decide

/-- Clause 1 of `Obligations.TlsEventsComplete`. -/
theorem witness_TlsEventsComplete_1_c :
    let s : State := connected; let t : State := connected; let conn : Fin 16384 := 5; let e : ConnEntry := tcpEntry; let r : ConnRt := freshRt; let hello : Hello := { aHello with tls13 := true, suite128 := true, pskKe := true, psk := some [1] }; let x : Bytes := [1]; let k : Nat := ((t.nv.psks.find? (fun y => y.1 == x)).map (fun y => y.2)).getD 0; s.takes conn.val e r t ∧ e.typ = 2 ∧ hello.tls13 = true ∧ (hello.suite128 = true ∨ hello.suite256 = true) ∧ (hello.pskKe = true ∨ hello.dheGroup = true) ∧ hello.psk = some x ∧ (slotType k ≠ .psk ∨ slotFull (t.keySlot k) = false) := by
  decide

/-- Clause 1 of `Obligations.TlsEventsComplete`. -/
theorem witness_TlsEventsComplete_1_d :
    let s : State := { connected with nv.psks := [([1], 20480)], sec.slots := [(20480, { emptySlot with material := [7] })] }; let t : State := { connected with nv.psks := [([1], 20480)], sec.slots := [(20480, { emptySlot with material := [7] })] }; let conn : Fin 16384 := 5; let e : ConnEntry := tcpEntry; let r : ConnRt := freshRt; let hello : Hello := { aHello with tls13 := true, suite256 := true, dheGroup := true, psk := some [1] }; let x : Bytes := [1]; let k : Nat := ((t.nv.psks.find? (fun y => y.1 == x)).map (fun y => y.2)).getD 0; s.takes conn.val e r t ∧ e.typ = 2 ∧ hello.tls13 = true ∧ (hello.suite128 = true ∨ hello.suite256 = true) ∧ (hello.pskKe = true ∨ hello.dheGroup = true) ∧ hello.psk = some x ∧ slotType k = .psk ∧ slotFull (t.keySlot k) = true ∧ t.fab.hs.contains conn.val = false ∧ t.fab.hs.length < 512 := by
  decide

/-- Clause 2 of `Obligations.TlsEventsComplete`. -/
theorem witness_TlsEventsComplete_2_a :
    let s : State := { connected with sec.slots := [(24576, { emptySlot with material := [7] }), (28671, { emptySlot with material := [9] })] }; let t : State := { connected with sec.slots := [(24576, { emptySlot with material := [7] }), (28671, { emptySlot with material := [9] })] }; let conn : Fin 16384 := 5; let e : ConnEntry := tcpEntry; let r : ConnRt := freshRt; let txS : BitVec 15 := 24576; let rxS : BitVec 15 := 28671; s.takes conn.val e r t ∧ e.typ = 2 ∧ e.prot = 2 ∧ slotType txS.toNat = .derived ∧ slotType rxS.toNat = .derived ∧ (t.keySlot txS.toNat).material ≠ [] ∧ (t.keySlot rxS.toNat).material ≠ [] ∧ e.keySel = false := by
  decide

/-- Clause 2 of `Obligations.TlsEventsComplete`. -/
theorem witness_TlsEventsComplete_2_b :
    let s : State := { connected with fab.conns := [(5, { tcpEntry with keySel := true })], sec.slots := [(24576, { emptySlot with material := [7] }), (28671, { emptySlot with material := [9] })] }; let t : State := { connected with fab.conns := [(5, { tcpEntry with keySel := true })], sec.slots := [(24576, { emptySlot with material := [7] }), (28671, { emptySlot with material := [9] })] }; let conn : Fin 16384 := 5; let e : ConnEntry := { tcpEntry with keySel := true }; let r : ConnRt := freshRt; let txS : BitVec 15 := 24576; let rxS : BitVec 15 := 28671; s.takes conn.val e r t ∧ e.typ = 2 ∧ e.prot = 2 ∧ slotType txS.toNat = .derived ∧ slotType rxS.toNat = .derived ∧ (t.keySlot txS.toNat).material ≠ [] ∧ (t.keySlot rxS.toNat).material ≠ [] ∧ e.keySel = true := by
  decide

/-- Clause 1 of `Obligations.FabricsAndAdminCommandsComplete`. -/
theorem witness_FabricsAndAdminCommandsComplete_1 :
    let d : ConnectData := ⟨[2], 9, [1], 0, 0, 32, 0⟩; attached.takes 7 hostEntry freshRt attached ∧ freshRt.joined = false ∧ hostEntry.subsys = false ∧ attached.tenant? hostEntry.tenant = some aTenant ∧ d.subNqn = aTenant.nqn ∧ attached.hostClass hostEntry d.hostNqn = some 1 ∧ (attached.ctrlsOf 1).length < 1024 ∧ katoOk d.kato.toNat = true ∧ attached.newCntlid 1 = some 2 := by
  decide

/-- Clause 2 of `Obligations.FabricsAndAdminCommandsComplete`. -/
theorem witness_FabricsAndAdminCommandsComplete_2 :
    let d : ConnectData := ⟨[2], 9, [1], 1, 2, 1024, 0⟩; attached.takes 7 hostEntry freshRt attached ∧ attached.hostClass hostEntry d.hostNqn = some 1 ∧ tGet? attached.nv.ctrls (ctrlKey hostEntry.tenant d.cntlid.toNat) = some aCtrl ∧ aCtrl.hostNqn = d.hostNqn ∧ aCtrl.hostId = d.hostId ∧ aCtrl.queues.any (fun q => q.1 == d.qid.toNat) = false := by
  decide

/-- Clause 3 of `Obligations.FabricsAndAdminCommandsComplete`. -/
theorem witness_FabricsAndAdminCommandsComplete_3 :
    attached.adminAt onAdmin hostEntry adminRt 65537 aCtrl attached := by
  decide

/-- Clause 4 of `Obligations.FabricsAndAdminCommandsComplete`. -/
theorem witness_FabricsAndAdminCommandsComplete_4_a :
    let s : State := attached; let t : State := attached; let cmd : CmdFrom := onAdmin; let e : ConnEntry := hostEntry; let r : ConnRt := adminRt; let k : Nat := 65537; let c : Ctrl := aCtrl; s.adminAt cmd e r k c t := by
  decide

/-- Clause 4 of `Obligations.FabricsAndAdminCommandsComplete`. -/
theorem witness_FabricsAndAdminCommandsComplete_4_b :
    let s : State := attached; let t : State := attached; let cmd : CmdFrom := onAdmin; let e : ConnEntry := hostEntry; let r : ConnRt := adminRt; let k : Nat := 65537; let c : Ctrl := aCtrl; let off : BitVec 32 := 0x18; s.adminAt cmd e r k c t ∧ off ≠ 0x00 ∧ off ≠ 0x08 ∧ off ≠ 0x14 ∧ off ≠ 0x1C := by
  decide

/-- Clause 5 of `Obligations.FabricsAndAdminCommandsComplete`. -/
theorem witness_FabricsAndAdminCommandsComplete_5_a :
    let s : State := attached; let t : State := attached; let cmd : CmdFrom := onAdmin; let e : ConnEntry := hostEntry; let r : ConnRt := adminRt; let k : Nat := 65537; let c : Ctrl := aCtrl; let value : Word := 1; s.adminAt cmd e r k c t ∧ bitsOf value 0 1 = 1 := by
  decide

/-- Clause 5 of `Obligations.FabricsAndAdminCommandsComplete`. -/
theorem witness_FabricsAndAdminCommandsComplete_5_b :
    let s : State := attached; let t : State := attached; let cmd : CmdFrom := onAdmin; let e : ConnEntry := hostEntry; let r : ConnRt := adminRt; let k : Nat := 65537; let c : Ctrl := aCtrl; let value : Word := 0; s.adminAt cmd e r k c t ∧ bitsOf value 0 1 = 0 := by
  decide

/-- Clause 5 of `Obligations.FabricsAndAdminCommandsComplete`. -/
theorem witness_FabricsAndAdminCommandsComplete_5_c :
    let s : State := attached; let t : State := attached; let cmd : CmdFrom := onAdmin; let e : ConnEntry := hostEntry; let r : ConnRt := adminRt; let k : Nat := 65537; let c : Ctrl := aCtrl; let off : BitVec 32 := 0x18; s.adminAt cmd e r k c t ∧ off ≠ 0x14 := by
  decide

/-- Clause 6 of `Obligations.FabricsAndAdminCommandsComplete`. -/
theorem witness_FabricsAndAdminCommandsComplete_6 :
    attached.takes 6 hostEntry ioRt attached ∧ hostEntry.st ≠ 0 ∧ attached.ctrlAt 6 = some (65537, aCtrl) := by
  decide

/-- Clause 7 of `Obligations.FabricsAndAdminCommandsComplete`. -/
theorem witness_FabricsAndAdminCommandsComplete_7 :
    attached.adminAt onAdmin hostEntry adminRt 65537 aCtrl attached ∧ attached.logPage 65537 aCtrl 0x01 = some ([], attached) ∧ (attached.logPage 65537 aCtrl 0x0C).isSome = true ∧ attached.logPage 65537 aCtrl 0xFF = none := by
  decide

/-- Clause 8 of `Obligations.FabricsAndAdminCommandsComplete`. -/
theorem witness_FabricsAndAdminCommandsComplete_8 :
    let s : State := attached; let t : State := attached; let cmd : CmdFrom := onAdmin; let e : ConnEntry := hostEntry; let r : ConnRt := adminRt; let k : Nat := 65537; let c : Ctrl := aCtrl; let lid : BitVec 8 := 0xFF; s.adminAt cmd e r k c t ∧ t.logPage k c lid.toNat = none := by
  decide

/-- Clause 9 of `Obligations.FabricsAndAdminCommandsComplete`. -/
theorem witness_FabricsAndAdminCommandsComplete_9 :
    let s : State := attached; let t : State := attached; let cmd : CmdFrom := onAdmin; let e : ConnEntry := hostEntry; let r : ConnRt := adminRt; let k : Nat := 65537; let c : Ctrl := aCtrl; let cns : BitVec 8 := 0xFF; let nsid : Nat := 0; let a : Nat := 0; let b : Nat := 2; s.adminAt cmd e r k c t ∧ t.identifyOf c cns.toNat nsid = .inr (a, b) := by
  decide

/-- Clause 10 of `Obligations.FabricsAndAdminCommandsComplete`. -/
theorem witness_FabricsAndAdminCommandsComplete_10 :
    attached.adminAt onAdmin hostEntry adminRt 65537 aCtrl attached ∧ attached.identifyOf aCtrl 0x08 1 = .inl [1024, 0, 2] := by
  decide

/-- Clause 11 of `Obligations.FabricsAndAdminCommandsComplete`. -/
theorem witness_FabricsAndAdminCommandsComplete_11 :
    attached.adminAt onAdmin hostEntry adminRt 65537 aCtrl attached := by
  decide

/-- Clause 12 of `Obligations.FabricsAndAdminCommandsComplete`. -/
theorem witness_FabricsAndAdminCommandsComplete_12_a :
    let s : State := attached; let t : State := attached; let cmd : CmdFrom := onAdmin; let e : ConnEntry := hostEntry; let r : ConnRt := adminRt; let k : Nat := 65537; let c : Ctrl := aCtrl; s.adminAt cmd e r k c t := by
  decide

/-- Clause 12 of `Obligations.FabricsAndAdminCommandsComplete`. -/
theorem witness_FabricsAndAdminCommandsComplete_12_b :
    let s : State := attached; let t : State := attached; let cmd : CmdFrom := onAdmin; let e : ConnEntry := hostEntry; let r : ConnRt := adminRt; let k : Nat := 65537; let c : Ctrl := aCtrl; s.adminAt cmd e r k c t := by
  decide

/-- Clause 12 of `Obligations.FabricsAndAdminCommandsComplete`. -/
theorem witness_FabricsAndAdminCommandsComplete_12_c :
    let s : State := attached; let t : State := attached; let cmd : CmdFrom := onAdmin; let e : ConnEntry := hostEntry; let r : ConnRt := adminRt; let k : Nat := 65537; let c : Ctrl := aCtrl; let value : BitVec 32 := 0; s.adminAt cmd e r k c t ∧ katoOk value.toNat = true := by
  decide

/-- Clause 12 of `Obligations.FabricsAndAdminCommandsComplete`. -/
theorem witness_FabricsAndAdminCommandsComplete_12_d :
    let s : State := attached; let t : State := attached; let cmd : CmdFrom := onAdmin; let e : ConnEntry := hostEntry; let r : ConnRt := adminRt; let k : Nat := 65537; let c : Ctrl := aCtrl; let value : BitVec 32 := 1; s.adminAt cmd e r k c t ∧ katoOk value.toNat = false := by
  decide

/-- Clause 12 of `Obligations.FabricsAndAdminCommandsComplete`. -/
theorem witness_FabricsAndAdminCommandsComplete_12_e :
    let s : State := attached; let t : State := attached; let cmd : CmdFrom := onAdmin; let e : ConnEntry := hostEntry; let r : ConnRt := adminRt; let k : Nat := 65537; let c : Ctrl := aCtrl; let value : BitVec 32 := 0; s.adminAt cmd e r k c t ∧ value.toNat / 65536 % 16 = 0 ∧ value.toNat / 1048576 % 4 = 0 := by
  decide

/-- Clause 12 of `Obligations.FabricsAndAdminCommandsComplete`. -/
theorem witness_FabricsAndAdminCommandsComplete_12_f :
    let s : State := attached; let t : State := attached; let cmd : CmdFrom := onAdmin; let e : ConnEntry := hostEntry; let r : ConnRt := adminRt; let k : Nat := 65537; let c : Ctrl := aCtrl; let value : BitVec 32 := 0x100000; s.adminAt cmd e r k c t ∧ value.toNat / 65536 % 16 = 0 ∧ value.toNat / 1048576 % 4 = 1 := by
  decide

/-- Clause 12 of `Obligations.FabricsAndAdminCommandsComplete`. -/
theorem witness_FabricsAndAdminCommandsComplete_12_g :
    let s : State := attached; let t : State := attached; let cmd : CmdFrom := onAdmin; let e : ConnEntry := hostEntry; let r : ConnRt := adminRt; let k : Nat := 65537; let c : Ctrl := aCtrl; let value : BitVec 32 := 0; s.adminAt cmd e r k c t ∧ value.toNat % 32 = 0 := by
  decide

/-- Clause 12 of `Obligations.FabricsAndAdminCommandsComplete`. -/
theorem witness_FabricsAndAdminCommandsComplete_12_h :
    let s : State := attached; let t : State := attached; let cmd : CmdFrom := onAdmin; let e : ConnEntry := hostEntry; let r : ConnRt := adminRt; let k : Nat := 65537; let c : Ctrl := aCtrl; let value : BitVec 32 := 0; s.adminAt cmd e r k c t ∧ value.toNat % 65536 ≠ 65535 ∧ value.toNat / 65536 ≠ 65535 := by
  decide

/-- Clause 12 of `Obligations.FabricsAndAdminCommandsComplete`. -/
theorem witness_FabricsAndAdminCommandsComplete_12_i :
    let s : State := attached; let t : State := attached; let cmd : CmdFrom := onAdmin; let e : ConnEntry := hostEntry; let r : ConnRt := adminRt; let k : Nat := 65537; let c : Ctrl := aCtrl; s.adminAt cmd e r k c t := by
  decide

/-- Clause 12 of `Obligations.FabricsAndAdminCommandsComplete`. -/
theorem witness_FabricsAndAdminCommandsComplete_12_j :
    let s : State := attached; let t : State := attached; let cmd : CmdFrom := onAdmin; let e : ConnEntry := hostEntry; let r : ConnRt := adminRt; let k : Nat := 65537; let c : Ctrl := aCtrl; s.adminAt cmd e r k c t := by
  decide

/-- Clause 13 of `Obligations.FabricsAndAdminCommandsComplete`. -/
theorem witness_FabricsAndAdminCommandsComplete_13 :
    let s : State := attached; let t : State := attached; let cmd : CmdFrom := onAdmin; let e : ConnEntry := hostEntry; let r : ConnRt := adminRt; let k : Nat := 65537; let c : Ctrl := aCtrl; let nsid : Nat := 1; let vol : Nat := 1; let v : Volume := aVolume; s.adminAt cmd e r k c t ∧ t.nsOf e.tenant nsid = some (vol, v) := by
  decide

/-- Clause 14 of `Obligations.FabricsAndAdminCommandsComplete`. -/
theorem witness_FabricsAndAdminCommandsComplete_14_a :
    let s : State := attached; let t : State := attached; let cmd : CmdFrom := onAdmin; let e : ConnEntry := hostEntry; let r : ConnRt := adminRt; let k : Nat := 65537; let c : Ctrl := aCtrl; s.adminAt cmd e r k c t := by
  decide

/-- Clause 14 of `Obligations.FabricsAndAdminCommandsComplete`. -/
theorem witness_FabricsAndAdminCommandsComplete_14_f :
    let s : State := attached; let t : State := attached; let cmd : CmdFrom := onAdmin; let e : ConnEntry := hostEntry; let r : ConnRt := adminRt; let k : Nat := 65537; let c : Ctrl := aCtrl; let sel : FeatureSel := ⟨1, 0⟩; s.adminAt cmd e r k c t ∧ sel.sel ≠ 0 := by
  decide

/-- Clause 15 of `Obligations.FabricsAndAdminCommandsComplete`. -/
theorem witness_FabricsAndAdminCommandsComplete_15_a :
    let s : State := attached; let t : State := attached; let cmd : CmdFrom := onAdmin; let e : ConnEntry := hostEntry; let r : ConnRt := adminRt; let k : Nat := 65537; let c : Ctrl := aCtrl; s.adminAt cmd e r k c t ∧ c.events = [] ∧ c.aers.length < 8 := by
  decide

/-- Clause 15 of `Obligations.FabricsAndAdminCommandsComplete`. -/
theorem witness_FabricsAndAdminCommandsComplete_15_b :
    let s : State := { attached with nv.ctrls := [(65537, { aCtrl with aers := [1, 2, 3, 4, 5, 6, 7, 8] })] }; let t : State := { attached with nv.ctrls := [(65537, { aCtrl with aers := [1, 2, 3, 4, 5, 6, 7, 8] })] }; let cmd : CmdFrom := onAdmin; let e : ConnEntry := hostEntry; let r : ConnRt := adminRt; let k : Nat := 65537; let c : Ctrl := { aCtrl with aers := [1, 2, 3, 4, 5, 6, 7, 8] }; s.adminAt cmd e r k c t ∧ c.events = [] ∧ 8 ≤ c.aers.length := by
  decide

/-- Clause 15 of `Obligations.FabricsAndAdminCommandsComplete`. -/
theorem witness_FabricsAndAdminCommandsComplete_15_c :
    let s : State := { attached with nv.ctrls := [(65537, { aCtrl with events := [(1, 2, 3)] })] }; let t : State := { attached with nv.ctrls := [(65537, { aCtrl with events := [(1, 2, 3)] })] }; let cmd : CmdFrom := onAdmin; let e : ConnEntry := hostEntry; let r : ConnRt := adminRt; let k : Nat := 65537; let c : Ctrl := { aCtrl with events := [(1, 2, 3)] }; let typ := 1; let info := 2; let page := 3; let rest := []; s.adminAt cmd e r k c t ∧ c.events = (typ, info, page) :: rest := by
  decide

/-- Clause 16 of `Obligations.FabricsAndAdminCommandsComplete`. -/
theorem witness_FabricsAndAdminCommandsComplete_16_a :
    let s : State := attached; let tenant : BitVec 12 := 1; let cntlid : BitVec 16 := 1; let c : Ctrl := aCtrl; let k : Nat := ctrlKey tenant.toNat cntlid.toNat; tGet? s.nv.ctrls k = some c ∧ c.kato = 0 := by
  decide

/-- Clause 16 of `Obligations.FabricsAndAdminCommandsComplete`. -/
theorem witness_FabricsAndAdminCommandsComplete_16_b :
    let s : State := { attached with nv.ctrls := [(65537, { aCtrl with kato := 5 })] }; let tenant : BitVec 12 := 1; let cntlid : BitVec 16 := 1; let c : Ctrl := { aCtrl with kato := 5 }; let k : Nat := ctrlKey tenant.toNat cntlid.toNat; tGet? s.nv.ctrls k = some c ∧ c.kato ≠ 0 := by
  decide

/-- Clause 17 of `Obligations.FabricsAndAdminCommandsComplete`. -/
theorem witness_FabricsAndAdminCommandsComplete_17 :
    attached.takes 6 hostEntry ioRt attached ∧ hostEntry.st ≠ 0 := by
  decide

/-- Clause 1 of `Obligations.IoCommandsAreSubmittedToTheirOwner`. -/
theorem witness_IoCommandsAreSubmittedToTheirOwner_1 :
    let s : State := attached; let t : State := attached; let cmd : CmdFrom := onIo; let nsid : Nat := 1; let range : LbaRange := ⟨1023, 1⟩; let pi : PiReq := noPiReq; let data : Bytes := List.replicate 4096 0; let e : ConnEntry := hostEntry; let r : ConnRt := ioRt; let k : Nat := 65537; let c : Ctrl := aCtrl; let vol : Nat := 1; let v : Volume := aVolume; s.ioAt cmd nsid e r k c vol v t ∧ t.ioClear cmd e r c vol v .write [rangeOf range] [] pi data := by
  decide +kernel

/-- Clause 2 of `Obligations.IoCommandsAreSubmittedToTheirOwner`. -/
theorem witness_IoCommandsAreSubmittedToTheirOwner_2 :
    let s : State := attached; let t : State := attached; let cmd : CmdFrom := onIo; let nsid : Nat := 1; let range : LbaRange := ⟨1023, 1⟩; let pi : PiReq := noPiReq; let e : ConnEntry := hostEntry; let r : ConnRt := ioRt; let k : Nat := 65537; let c : Ctrl := aCtrl; let vol : Nat := 1; let v : Volume := aVolume; s.ioAt cmd nsid e r k c vol v t ∧ t.ioClear cmd e r c vol v .read [rangeOf range] [] pi [] := by
  decide

/-- Clause 3 of `Obligations.IoCommandsAreSubmittedToTheirOwner`. -/
theorem witness_IoCommandsAreSubmittedToTheirOwner_3 :
    let s : State := attached; let t : State := attached; let cmd : CmdFrom := onIo; let nsid : Nat := 1; let range : LbaRange := ⟨1023, 1⟩; let pi : PiReq := noPiReq; let data : Bytes := List.replicate 4096 0; let e : ConnEntry := hostEntry; let r : ConnRt := ioRt; let k : Nat := 65537; let c : Ctrl := aCtrl; let vol : Nat := 1; let v : Volume := aVolume; s.ioAt cmd nsid e r k c vol v t ∧ t.ioClear cmd e r c vol v .compare [rangeOf range] [] pi data := by
  decide +kernel

/-- Clause 4 of `Obligations.IoCommandsAreSubmittedToTheirOwner`. -/
theorem witness_IoCommandsAreSubmittedToTheirOwner_4 :
    let s : State := attached; let t : State := attached; let cmd : CmdFrom := onIo; let nsid : Nat := 1; let range : LbaRange := ⟨1023, 1⟩; let e : ConnEntry := hostEntry; let r : ConnRt := ioRt; let k : Nat := 65537; let c : Ctrl := aCtrl; let vol : Nat := 1; let v : Volume := aVolume; s.ioAt cmd nsid e r k c vol v t ∧ t.ioClear cmd e r c vol v .writeZeroes [rangeOf range] [] noPi [] := by
  decide

/-- Clause 5 of `Obligations.IoCommandsAreSubmittedToTheirOwner`. -/
theorem witness_IoCommandsAreSubmittedToTheirOwner_5_a :
    let s : State := attached; let t : State := attached; let cmd : CmdFrom := onIo; let nsid : Nat := 1; let ranges : List LbaRange := [⟨1023, 1⟩, ⟨0, 1⟩]; let e : ConnEntry := hostEntry; let r : ConnRt := ioRt; let k : Nat := 65537; let c : Ctrl := aCtrl; let vol : Nat := 1; let v : Volume := aVolume; s.ioAt cmd nsid e r k c vol v t ∧ t.ioClear cmd e r c vol v .dsm (ranges.map rangeOf) [] noPi [] ∧ 0 < ranges.length ∧ ranges.length ≤ 256 := by
  decide

/-- Clause 6 of `Obligations.IoCommandsAreSubmittedToTheirOwner`. -/
theorem witness_IoCommandsAreSubmittedToTheirOwner_6 :
    let s : State := attached; let t : State := attached; let cmd : CmdFrom := onIo; let nsid : Nat := 1; let source : LbaRange := ⟨0, 512⟩; let dest : BitVec 64 := 512; let e : ConnEntry := hostEntry; let r : ConnRt := ioRt; let k : Nat := 65537; let c : Ctrl := aCtrl; let vol : Nat := 1; let v : Volume := aVolume; s.ioAt cmd nsid e r k c vol v t ∧ t.ioClear cmd e r c vol v .copy [(dest.toNat, source.nlb)] [(source.slba.toNat, source.nlb)] noPi [] ∧ 0 < source.nlb ∧ source.nlb ≤ (if v.lbaf = 2 then 32768 else 4096) ∧ (source.slba.toNat + source.nlb ≤ dest.toNat ∨ dest.toNat + source.nlb ≤ source.slba.toNat) := by
  decide

/-- Clause 1 of `Obligations.ReservationFormatAndSanitizeCommandsComplete`. -/
theorem witness_ReservationFormatAndSanitizeCommandsComplete_1 :
    attached.ioAt onIo 1 hostEntry ioRt 65537 aCtrl 1 aVolume attached := by
  decide

/-- Clause 2 of `Obligations.ReservationFormatAndSanitizeCommandsComplete`. -/
theorem witness_ReservationFormatAndSanitizeCommandsComplete_2 :
    attached.ioAt onIo 1 hostEntry ioRt 65537 aCtrl 1 aVolume attached := by
  decide

/-- Clause 3 of `Obligations.ReservationFormatAndSanitizeCommandsComplete`. -/
theorem witness_ReservationFormatAndSanitizeCommandsComplete_3 :
    attached.ioAt onIo 1 hostEntry ioRt 65537 aCtrl 1 aVolume attached := by
  decide

/-- Clause 4 of `Obligations.ReservationFormatAndSanitizeCommandsComplete`. -/
theorem witness_ReservationFormatAndSanitizeCommandsComplete_4 :
    attached.ioAt onIo 1 hostEntry ioRt 65537 aCtrl 1 aVolume attached := by
  decide

/-- Clause 5 of `Obligations.ReservationFormatAndSanitizeCommandsComplete`. -/
theorem witness_ReservationFormatAndSanitizeCommandsComplete_5 :
    attached.adminAt onAdmin hostEntry adminRt 65537 aCtrl attached ∧ attached.nsOf hostEntry.tenant 1 = some (1, aVolume) ∧ aVolume.formatting = none ∧ ((attached.tenant? hostEntry.tenant).map (fun x => x.quiesced)).getD false = false ∧ attached.anaState aVolume ≠ 2 ∧ attached.ownsGroup aVolume.group = true := by
  decide

/-- Clause 6 of `Obligations.ReservationFormatAndSanitizeCommandsComplete`. -/
theorem witness_ReservationFormatAndSanitizeCommandsComplete_6_a :
    let s : State := ({ attached with nv.groups := [(1, 1)] } : State).setFld Reg.DIKOR_STATUS_LSTATE 7 |>.setFld Reg.OWN_STATUS_ROLE 2; let t : State := ({ attached with nv.groups := [(1, 1)] } : State).setFld Reg.DIKOR_STATUS_LSTATE 7 |>.setFld Reg.OWN_STATUS_ROLE 2; let cmd : CmdFrom := onAdmin; let nsid : Nat := 1; let lbaf : Nat := 1; let pi : BitVec 3 := 1; let ses : BitVec 3 := 1; let e : ConnEntry := hostEntry; let r : ConnRt := adminRt; let k : Nat := 65537; let c : Ctrl := aCtrl; let vol : Nat := 1; let v : Volume := aVolume; s.adminAt cmd e r k c t ∧ nsid ≠ 0xFFFFFFFF ∧ t.nsOf e.tenant nsid = some (vol, v) ∧ lbaf ≤ 2 ∧ pi.toNat = (if lbaf = 1 then 1 else 0) ∧ ses.toNat ≤ 1 ∧ v.formatting = none ∧ ((t.tenant? e.tenant).map (fun x => x.quiesced)).getD false = false ∧ t.anaState v ≠ 2 ∧ t.ownsGroup v.group = false := by
  decide

/-- Clause 6 of `Obligations.ReservationFormatAndSanitizeCommandsComplete`. -/
theorem witness_ReservationFormatAndSanitizeCommandsComplete_6_b :
    let s : State := attached; let t : State := attached; let cmd : CmdFrom := onAdmin; let nsid : Nat := 1; let lbaf : Nat := 3; let pi : BitVec 3 := 0; let ses : BitVec 3 := 0; let e : ConnEntry := hostEntry; let r : ConnRt := adminRt; let k : Nat := 65537; let c : Ctrl := aCtrl; let vol : Nat := 1; let v : Volume := aVolume; s.adminAt cmd e r k c t ∧ nsid ≠ 0xFFFFFFFF ∧ t.nsOf e.tenant nsid = some (vol, v) ∧ (2 < lbaf ∨ pi.toNat ≠ (if lbaf = 1 then 1 else 0) ∨ 1 < ses.toNat) := by
  decide

/-- Clause 7 of `Obligations.ReservationFormatAndSanitizeCommandsComplete`. -/
theorem witness_ReservationFormatAndSanitizeCommandsComplete_7 :
    let s : State := attached; let t : State := attached; let cmd : CmdFrom := onAdmin; let nsid : Nat := 0xFFFFFFFF; let e : ConnEntry := hostEntry; let r : ConnRt := adminRt; let k : Nat := 65537; let c : Ctrl := aCtrl; s.adminAt cmd e r k c t ∧ (nsid = 0xFFFFFFFF ∨ t.nsOf e.tenant nsid = none) := by
  decide

/-- Clause 8 of `Obligations.ReservationFormatAndSanitizeCommandsComplete`. -/
theorem witness_ReservationFormatAndSanitizeCommandsComplete_8 :
    let s : State := { populated with nv.volumes := [(1, { aVolume with formatting := some 2 })] }; let volume : BitVec 16 := 1; let x : Volume := { aVolume with formatting := some 2 }; let lbaf : Nat := 2; s.vol? volume.toNat = some x ∧ x.formatting = some lbaf ∧ s.ownsGroup x.group = true := by
  decide

/-- Clause 9 of `Obligations.ReservationFormatAndSanitizeCommandsComplete`. -/
theorem witness_ReservationFormatAndSanitizeCommandsComplete_9_a :
    let s : State := (attached : State).setFld Reg.OWN_STATUS_ROLE 3; let t : State := (attached : State).setFld Reg.OWN_STATUS_ROLE 3; let cmd : CmdFrom := onAdmin; let e : ConnEntry := hostEntry; let r : ConnRt := adminRt; let k : Nat := 65537; let c : Ctrl := aCtrl; let x := aTenant; s.adminAt cmd e r k c t ∧ c.discovery = false ∧ t.configHead = true ∧ t.tenant? e.tenant = some x ∧ x.san.stat ≠ 2 := by
  decide

/-- Clause 9 of `Obligations.ReservationFormatAndSanitizeCommandsComplete`. -/
theorem witness_ReservationFormatAndSanitizeCommandsComplete_9_b :
    let s : State := ({ attached with nv.tenants := [(1, { aTenant with san := { aTenant.san with stat := 2 } })] } : State).setFld Reg.OWN_STATUS_ROLE 3; let t : State := ({ attached with nv.tenants := [(1, { aTenant with san := { aTenant.san with stat := 2 } })] } : State).setFld Reg.OWN_STATUS_ROLE 3; let cmd : CmdFrom := onAdmin; let e : ConnEntry := hostEntry; let r : ConnRt := adminRt; let k : Nat := 65537; let c : Ctrl := aCtrl; let x := { aTenant with san := { aTenant.san with stat := 2 } }; s.adminAt cmd e r k c t ∧ c.discovery = false ∧ t.configHead = true ∧ t.tenant? e.tenant = some x ∧ x.san.stat = 2 := by
  decide

/-- Clause 9 of `Obligations.ReservationFormatAndSanitizeCommandsComplete`. -/
theorem witness_ReservationFormatAndSanitizeCommandsComplete_9_c :
    let s : State := ({ attached with nv.tenants := [(1, { aTenant with san := { aTenant.san with stat := 3 } })] } : State).setFld Reg.OWN_STATUS_ROLE 3; let t : State := ({ attached with nv.tenants := [(1, { aTenant with san := { aTenant.san with stat := 3 } })] } : State).setFld Reg.OWN_STATUS_ROLE 3; let cmd : CmdFrom := onAdmin; let e : ConnEntry := hostEntry; let r : ConnRt := adminRt; let k : Nat := 65537; let c : Ctrl := aCtrl; let x := { aTenant with san := { aTenant.san with stat := 3 } }; s.adminAt cmd e r k c t ∧ c.discovery = false ∧ t.configHead = true ∧ t.tenant? e.tenant = some x ∧ x.san.stat = 3 := by
  decide

/-- Clause 9 of `Obligations.ReservationFormatAndSanitizeCommandsComplete`. -/
theorem witness_ReservationFormatAndSanitizeCommandsComplete_9_d :
    let s : State := (attached : State).setFld Reg.OWN_STATUS_ROLE 3; let t : State := (attached : State).setFld Reg.OWN_STATUS_ROLE 3; let cmd : CmdFrom := onAdmin; let e : ConnEntry := hostEntry; let r : ConnRt := adminRt; let k : Nat := 65537; let c : Ctrl := aCtrl; let x := aTenant; s.adminAt cmd e r k c t ∧ c.discovery = false ∧ t.configHead = true ∧ t.tenant? e.tenant = some x ∧ x.san.stat ≠ 2 ∧ x.san.stat ≠ 3 := by
  decide

/-- Clause 10 of `Obligations.ReservationFormatAndSanitizeCommandsComplete`. -/
theorem witness_ReservationFormatAndSanitizeCommandsComplete_10_a :
    let s : State := attached.setFld Reg.DIKOR_STATUS_HEAD_INDEX 1 |>.setFld Reg.OWN_STATUS_ROLE 2; let t : State := attached.setFld Reg.DIKOR_STATUS_HEAD_INDEX 1 |>.setFld Reg.OWN_STATUS_ROLE 2; let cmd : CmdFrom := onAdmin; let e : ConnEntry := hostEntry; let r : ConnRt := adminRt; let k : Nat := 65537; let c : Ctrl := aCtrl; s.adminAt cmd e r k c t ∧ c.discovery = false ∧ t.configHead = false := by
  decide

/-- Clause 10 of `Obligations.ReservationFormatAndSanitizeCommandsComplete`. -/
theorem witness_ReservationFormatAndSanitizeCommandsComplete_10_b :
    let s : State := attached; let t : State := attached; let cmd : CmdFrom := onAdmin; let e : ConnEntry := hostEntry; let r : ConnRt := adminRt; let k : Nat := 65537; let c : Ctrl := aCtrl; s.adminAt cmd e r k c t ∧ c.discovery = false := by
  decide

/-- Clause 1 of `Obligations.SanitizePhasesAndKeyListsComplete`. -/
theorem witness_SanitizePhasesAndKeyListsComplete_1 :
    let x := { aTenant with san.stat := 2, san.phase := 3 }; let s := { attached with nv.tenants := [(1, x)] }.setFld Reg.OWN_STATUS_ROLE 3; s.tenant? 1 = some x ∧ s.configHead = true ∧ s.sanReady 1 x.san = true ∧ s.paired = false := by
  decide

/-- Clause 2 of `Obligations.SanitizePhasesAndKeyListsComplete`. -/
theorem witness_SanitizePhasesAndKeyListsComplete_2 :
    let x := { aTenant with san.stat := 2, san.phase := 3 }; let s := { attached with nv.tenants := [(1, x)] }.setFld Reg.OWN_STATUS_ROLE 3; s.tenant? 1 = some x ∧ s.configHead = true := by
  decide

/-- Clause 3 of `Obligations.SanitizePhasesAndKeyListsComplete`. -/
theorem witness_SanitizePhasesAndKeyListsComplete_3 :
    let s : State := ({ attached with nv.tenants := [(1, { aTenant with san := { aTenant.san with stat := 2, phase := 4 } })] } : State).setFld Reg.OWN_STATUS_ROLE 3; let tenant : BitVec 12 := 1; let x : Tenant := { aTenant with san := { aTenant.san with stat := 2, phase := 4 } }; s.tenant? tenant.toNat = some x ∧ x.san.stat = 2 ∧ s.configHead = true ∧ s.sanReady tenant.toNat x.san = true ∧ (s.paired = true → x.san.otherDone = true) ∧ 4 ≤ x.san.phase := by
  decide

/-- Clause 4 of `Obligations.SanitizePhasesAndKeyListsComplete`. -/
theorem witness_SanitizePhasesAndKeyListsComplete_4 :
    let s : State := { attached with nv.tenants := [(1, { aTenant with san := { aTenant.san with stat := 2, phase := 4 } })] }.setFld Reg.DIKOR_STATUS_HEAD_INDEX 1 |>.setFld Reg.OWN_STATUS_ROLE 2; let tenant : BitVec 12 := 1; let x : Tenant := { aTenant with san := { aTenant.san with stat := 2, phase := 4 } }; s.tenant? tenant.toNat = some x ∧ x.san.stat = 2 ∧ s.configHead = false ∧ s.sanReady tenant.toNat x.san = true := by
  decide

/-- Clause 5 of `Obligations.SanitizePhasesAndKeyListsComplete`. -/
theorem witness_SanitizePhasesAndKeyListsComplete_5_a :
    let s : State := { linked with nv.tenants := [(1, aTenant)] }; let tenant : BitVec 12 := 1; let x : Tenant := aTenant; s.tenant? tenant.toNat = some x ∧ s.linkUp = true := by
  decide

/-- Clause 5 of `Obligations.SanitizePhasesAndKeyListsComplete`. -/
theorem witness_SanitizePhasesAndKeyListsComplete_5_b :
    let s : State := { linked with nv.tenants := [(1, aTenant)] }; let tenant : BitVec 12 := 1; let x : Tenant := aTenant; s.tenant? tenant.toNat = some x ∧ s.linkUp = true ∧ x.san.stat ≠ 2 := by
  decide

/-- Clause 6 of `Obligations.SanitizePhasesAndKeyListsComplete`. -/
theorem witness_SanitizePhasesAndKeyListsComplete_6 :
    let x := { aTenant with san.stat := 2, san.phase := 3 }; let s := { linked with nv.tenants := [(1, x)] }; s.tenant? 1 = some x ∧ s.linkUp = true := by
  decide

/-- Clause 7 of `Obligations.SanitizePhasesAndKeyListsComplete`. -/
theorem witness_SanitizePhasesAndKeyListsComplete_7_a :
    let s : State := linked; s.linkUp = true := by
  decide

/-- Clause 7 of `Obligations.SanitizePhasesAndKeyListsComplete`. -/
theorem witness_SanitizePhasesAndKeyListsComplete_7_b :
    let s : State := linked; s.linkUp = true ∧ s.sec.kcvOut = false := by
  decide

/-- Clause 7 of `Obligations.SanitizePhasesAndKeyListsComplete`. -/
theorem witness_SanitizePhasesAndKeyListsComplete_7_c :
    let s : State := { linked with sec.kcvOut := true }; s.linkUp = true ∧ s.sec.kcvOut = true := by
  decide

/-- Clause 1 of `Obligations.AdmissionAndClaimCommandsComplete`. -/
theorem witness_AdmissionAndClaimCommandsComplete_1_a :
    let s : State := { attached with nv.cmds := [(9, { aWrite with window := 5000, terms := [] })], loom.queue := [9], loom.buckets := [], loom.active := [(1, [0xFFFFFFFFFFFFFFFF, 0xFFFFFFFFFFFFFFFF, 0xFFFFFFFFFFFFFFFF, 0xFFFFFFFFFFFFFFFF])] }; let id : Nat := 9; let c : HCmd := { aWrite with window := 5000, terms := [] }; let ch : List Nat := s.chargesOf c.kind c.tenant c.bytes; s.serving = true ∧ s.cmd? id = some c ∧ s.loom.queue.contains id = true ∧ (c.terms = [] ∨ c.terms = s.contract c.tenant) ∧ ((s.loom.queue.takeWhile (fun x => x != id)).filterMap s.cmd?).any (fun x => x.tenant == c.tenant && chargesMeet (s.chargesOf x.kind x.tenant x.bytes) ch) = false ∧ s.now + 2000 ≤ c.window ∧ s.chargesFit c.tenant ch = true := by
  decide

/-- Clause 1 of `Obligations.AdmissionAndClaimCommandsComplete`. -/
theorem witness_AdmissionAndClaimCommandsComplete_1_b :
    let s : State := { attached with nv.cmds := [(9, { aWrite with window := 5000, terms := [] })], loom.queue := [9], loom.buckets := [], loom.active := [(1, [0x8000000000000001, 0x8000000000000001, 0x8000000000000001, 0x8000000000000001])] }; let id : Nat := 9; let c : HCmd := { aWrite with window := 5000, terms := [] }; let ch : List Nat := s.chargesOf c.kind c.tenant c.bytes; s.serving = true ∧ s.cmd? id = some c ∧ s.loom.queue.contains id = true ∧ (c.terms = [] ∨ c.terms = s.contract c.tenant) ∧ ((s.loom.queue.takeWhile (fun x => x != id)).filterMap s.cmd?).any (fun x => x.tenant == c.tenant && chargesMeet (s.chargesOf x.kind x.tenant x.bytes) ch) = false ∧ s.now + 2000 ≤ c.window ∧ s.chargesFit c.tenant ch = false := by
  decide

/-- Clause 1 of `Obligations.AdmissionAndClaimCommandsComplete`. -/
theorem witness_AdmissionAndClaimCommandsComplete_1_c :
    let s : State := { attached with nv.cmds := [(9, { aWrite with window := 1999, terms := [] })], loom.queue := [9] }; let id : Nat := 9; let c : HCmd := { aWrite with window := 1999, terms := [] }; let ch : List Nat := s.chargesOf c.kind c.tenant c.bytes; s.serving = true ∧ s.cmd? id = some c ∧ s.loom.queue.contains id = true ∧ (c.terms = [] ∨ c.terms = s.contract c.tenant) ∧ ((s.loom.queue.takeWhile (fun x => x != id)).filterMap s.cmd?).any (fun x => x.tenant == c.tenant && chargesMeet (s.chargesOf x.kind x.tenant x.bytes) ch) = false ∧ c.window < s.now + 2000 := by
  decide

/-- Clause 2 of `Obligations.AdmissionAndClaimCommandsComplete`. -/
theorem witness_AdmissionAndClaimCommandsComplete_2 :
    let c := { aWrite with kind := .read, phase := .map }; let s := { attached with nv.cmds := [(9, c)] }; s.serving = true ∧ s.cmd? 9 = some c ∧ c.phase = .map ∧ s.missingLeaves c = [] ∧ s.claimsOpen 9 = false ∧ s.firstDecision.simplex = false := by
  decide

/-- Clause 3 of `Obligations.AdmissionAndClaimCommandsComplete`. -/
theorem witness_AdmissionAndClaimCommandsComplete_3 :
    live.loomAct Reg.LOOM_CFG_SWAP_EN ≠ 0 ∧ live.simplex = false := by
  decide

/-- Clause 4 of `Obligations.AdmissionAndClaimCommandsComplete`. -/
theorem witness_AdmissionAndClaimCommandsComplete_4 :
    let s : State := live.setAct (Reg.LOOM_CFG_SWAP_EN 0) 0; (s.loomAct Reg.LOOM_CFG_SWAP_EN = 0 ∨ s.simplex = true) := by
  decide

/-- Clause 5 of `Obligations.AdmissionAndClaimCommandsComplete`. -/
theorem witness_AdmissionAndClaimCommandsComplete_5 :
    live.accepts Reg.REED_TBL_CMD := by
  decide

/-- Clause 6 of `Obligations.AdmissionAndClaimCommandsComplete`. -/
theorem witness_AdmissionAndClaimCommandsComplete_6 :
    live.accepts Reg.REED_TBL_CMD := by
  decide

/-- Clause 7 of `Obligations.AdmissionAndClaimCommandsComplete`. -/
theorem witness_AdmissionAndClaimCommandsComplete_7 :
    live.accepts Reg.REED_TBL_CMD := by
  decide

/-- Clause 8 of `Obligations.AdmissionAndClaimCommandsComplete`. -/
theorem witness_AdmissionAndClaimCommandsComplete_8 :
    live.floorPct < 50 ∧ ({ live with loom.floorNext := some 20 } : State).loom.floorNext = some 20 := by
  decide

/-- Clause 9 of `Obligations.AdmissionAndClaimCommandsComplete`. -/
theorem witness_AdmissionAndClaimCommandsComplete_9 :
    let s : State := live; let pages : List Nat := [Reg.LOOM_PAGE 0, Reg.LOOM_PAGE 1].filter (fun p => s.blk p != FAILED && s.blk p != RETIRED); s.serving = true ∧ (∀ p ∈ pages, s.bit (Reg.BLK_STATE_COMMIT_PENDING p) = false) := by
  decide

/-- Clause 10 of `Obligations.AdmissionAndClaimCommandsComplete`. -/
theorem witness_AdmissionAndClaimCommandsComplete_10 :
    100 ≤ ({ live with loom.overBeats := 100 } : State).loom.overBeats := by
  decide

/-- Clause 12 of `Obligations.AdmissionAndClaimCommandsComplete`. -/
theorem witness_AdmissionAndClaimCommandsComplete_12_a :
    let s : State := linked; let tenant : Nat := 0; let items : List ClaimItem := []; let dems : List Dem := items.map (fun i => Dem.mk i.beat (claimRes i.res) i.amt); s.linkUp = true ∧ s.fld Reg.OWN_STATUS_ROLE ≠ 5 ∧ (∀ d ∈ dems, s.books d.res = true) ∧ s.fits tenant true dems = none := by
  decide

/-- Clause 12 of `Obligations.AdmissionAndClaimCommandsComplete`. -/
theorem witness_AdmissionAndClaimCommandsComplete_12_b :
    let s : State := linked.setFld Reg.OWN_STATUS_ROLE 5; let tenant : Nat := 0; let items : List ClaimItem := []; let dems : List Dem := items.map (fun i => Dem.mk i.beat (claimRes i.res) i.amt); s.linkUp = true ∧ (s.fld Reg.OWN_STATUS_ROLE = 5 ∨ (∃ d ∈ dems, s.books d.res = false) ∨ s.fits tenant true dems ≠ none) := by
  decide

/-- Clause 13 of `Obligations.AdmissionAndClaimCommandsComplete`. -/
theorem witness_AdmissionAndClaimCommandsComplete_13 :
    let s : State := live; let tag : Nat := 0; s.loom.claims.find? (fun c => c.1 == tag) = none := by
  decide

/-- Clause 14 of `Obligations.AdmissionAndClaimCommandsComplete`. -/
theorem witness_AdmissionAndClaimCommandsComplete_14_a :
    let s : State := { linked with loom.claims := [(4, 9, []), (5, 9, [])] }; let tag : Nat := 4; let id : Nat := 9; let l : List Booking := []; let t : State := { s with loom.claims := s.loom.claims.filter (fun c => c.1 != tag) }; let u : State := { t with loom.granted := t.loom.granted ++ l }; s.linkUp = true ∧ s.loom.claims.find? (fun c => c.1 == tag) = some (tag, id, l) ∧ u.claimsOpen id = true := by
  decide

/-- Clause 14 of `Obligations.AdmissionAndClaimCommandsComplete`. -/
theorem witness_AdmissionAndClaimCommandsComplete_14_b :
    let s : State := { linked with loom.claims := [(4, 9, [])] }; let tag : Nat := 4; let id : Nat := 9; let l : List Booking := []; let t : State := { s with loom.claims := s.loom.claims.filter (fun c => c.1 != tag) }; let u : State := { t with loom.granted := t.loom.granted ++ l }; s.linkUp = true ∧ s.loom.claims.find? (fun c => c.1 == tag) = some (tag, id, l) ∧ u.claimsOpen id = false := by
  decide

/-- Clause 15 of `Obligations.AdmissionAndClaimCommandsComplete`. -/
theorem witness_AdmissionAndClaimCommandsComplete_15 :
    linked.linkUp = true := by
  decide

/-- Clause 16 of `Obligations.AdmissionAndClaimCommandsComplete`. -/
theorem witness_AdmissionAndClaimCommandsComplete_16 :
    let c := { aWrite with terms := [1, 2, 3, 4] }; let s := { attached with nv.cmds := [(9, c)] }; s.serving = true ∧ s.cmd? 9 = some c ∧ c.terms ≠ [] ∧ c.terms ≠ s.contract c.tenant ∧ ∃ u, exec (.reedTokensAvailable 9 .same) { s with loom.active := tPut s.loom.active c.tenant c.terms } = .next u := by
  exact ⟨by decide, by decide, by decide, by decide, _, rfl⟩

/-- Clause 1 of `Obligations.WritePathCommandsComplete`. -/
theorem witness_WritePathCommandsComplete_1_a :
    let s : State := { attached with nv.cmds := [(9, aWrite)], sec.slots := [] }; let cmd : Nat := 9; let grain : Nat := 0; let c : HCmd := aWrite; let v : Volume := aVolume; s.cmd? cmd = some c ∧ s.vol? c.volume = some v ∧ s.serving = true ∧ c.phase = .run ∧ c.fwdTo = false ∧ (s.pipeGrains c).contains grain = true ∧ hasOut c grain = false ∧ c.lookups.any (fun (l : Lookup) => l.grain == grain) = false ∧ s.grainWaits cmd c grain = false ∧ s.keyEmptyOf c.tenant = true := by
  decide

/-- Clause 1 of `Obligations.WritePathCommandsComplete`. -/
theorem witness_WritePathCommandsComplete_1_b :
    let s : State := { attached with nv.cmds := [(9, { aWrite with data := [(0, List.replicate 4096 0)] })] }; let cmd : Nat := 9; let grain : Nat := 0; let c : HCmd := { aWrite with data := [(0, List.replicate 4096 0)] }; let v : Volume := aVolume; let p := List.replicate 4096 0; s.cmd? cmd = some c ∧ s.vol? c.volume = some v ∧ s.serving = true ∧ c.phase = .run ∧ c.fwdTo = false ∧ (s.pipeGrains c).contains grain = true ∧ hasOut c grain = false ∧ c.lookups.any (fun (l : Lookup) => l.grain == grain) = false ∧ s.grainWaits cmd c grain = false ∧ s.keyEmptyOf c.tenant = false ∧ (c.lbaf = 1 && c.kind == .write && !c.pi.pract && c.pi.prchk != 0) = false ∧ s.oldReadable c grain = true ∧ s.grainPlain c grain = some p := by
  decide +kernel

/-- Clause 1 of `Obligations.WritePathCommandsComplete`. -/
theorem witness_WritePathCommandsComplete_1_c :
    let s : State := { attached with nv.cmds := [(9, { aWrite with lbaf := 2, ranges := [(0, 1)] })], nv.volumes := [(1, { aVolume with lbaf := 2, root := 4 })], mp.pages := [(4, { aPage with ents := [(0, 5)], resident := true })] }; let cmd : Nat := 9; let grain : Nat := 0; let c : HCmd := { aWrite with lbaf := 2, ranges := [(0, 1)] }; let v : Volume := { aVolume with lbaf := 2, root := 4 }; s.cmd? cmd = some c ∧ s.vol? c.volume = some v ∧ s.serving = true ∧ c.phase = .run ∧ c.fwdTo = false ∧ (s.pipeGrains c).contains grain = true ∧ hasOut c grain = false ∧ c.lookups.any (fun (l : Lookup) => l.grain == grain) = false ∧ s.grainWaits cmd c grain = false ∧ s.keyEmptyOf c.tenant = false ∧ (c.lbaf = 1 && c.kind == .write && !c.pi.pract && c.pi.prchk != 0) = false ∧ s.oldReadable c grain = false := by
  decide

/-- Clause 2 of `Obligations.WritePathCommandsComplete`. -/
theorem witness_WritePathCommandsComplete_2 :
    linked.linkUp = true ∧ linked.holdsShard 0 = true := by
  decide

/-- Clause 3 of `Obligations.WritePathCommandsComplete`. -/
theorem witness_WritePathCommandsComplete_3 :
    lookupAt? ({ live with nv.cmds := [(9, { aWrite with lookups := [⟨0, 5, 0, [], none, 0, true, false⟩] })] } : State) 9 0 = some ({ aWrite with lookups := [⟨0, 5, 0, [], none, 0, true, false⟩] }, ⟨0, 5, 0, [], none, 0, true, false⟩) := by
  decide

/-- Clause 4 of `Obligations.WritePathCommandsComplete`. -/
theorem witness_WritePathCommandsComplete_4_a :
    let s : State := { live with nv.cmds := [(9, { aWrite with lookups := [⟨0, 5, 0, [], some 7, 0, true, false⟩] })] }; let cmd : Nat := 9; let grain : Nat := 0; let c : HCmd := { aWrite with lookups := [⟨0, 5, 0, [], some 7, 0, true, false⟩] }; let l : Lookup := ⟨0, 5, 0, [], some 7, 0, true, false⟩; lookupAt? s cmd grain = some (c, l) ∧ l.confirm ≠ none := by
  decide

/-- Clause 5 of `Obligations.WritePathCommandsComplete`. -/
theorem witness_WritePathCommandsComplete_5 :
    let s : State := { attached with nv.cmds := [(9, { aWrite with ranges := [], ext := some (0, 1) })] }; let cmd : Nat := 9; let c : HCmd := { aWrite with ranges := [], ext := some (0, 1) }; let v : Volume := aVolume; let off : Nat := 0; let blks : Nat := 1; s.cmd? cmd = some c ∧ s.serving = true ∧ s.recordReady cmd c = true ∧ s.vol? c.volume = some v ∧ c.ext = some (off, blks) := by
  decide

/-- Clause 6 of `Obligations.WritePathCommandsComplete`. -/
theorem witness_WritePathCommandsComplete_6_a :
    let s : State := { attached with nv.cmds := [(9, { aWrite with kind := .read, todo := [0] })] }; let cmd : Nat := 9; let grain : Nat := 0; let c : HCmd := { aWrite with kind := .read, todo := [0] }; s.cmd? cmd = some c ∧ s.serving = true ∧ c.phase = .run ∧ isWriteKind c.kind = false ∧ c.fwdTo = false ∧ c.todo.contains grain = true ∧ s.grainSource c.volume grain = .zero := by
  decide

/-- Clause 6 of `Obligations.WritePathCommandsComplete`. -/
theorem witness_WritePathCommandsComplete_6_e :
    let s : State := { attached with nv.cmds := [(9, { aWrite with kind := .read, todo := [0] })], nv.volumes := [(1, { aVolume with root := 4 })], mp.pages := [(4, { aPage with ents := [(0, 5)], resident := true })] }; let cmd : Nat := 9; let grain : Nat := 0; let c : HCmd := { aWrite with kind := .read, todo := [0] }; s.cmd? cmd = some c ∧ s.serving = true ∧ c.phase = .run ∧ isWriteKind c.kind = false ∧ c.fwdTo = false ∧ c.todo.contains grain = true ∧ s.grainSource c.volume grain = .dangling := by
  decide

/-- Clause 1 of `Obligations.MirrorRowAndChannelCommandsComplete`. -/
theorem witness_MirrorRowAndChannelCommandsComplete_1_a :
    let s : State := linked; let record : JRec := aRec; s.mirrors = true ∧ record.type ≠ 6 ∧ s.mirrorRoom record = true := by
  decide

/-- Clause 1 of `Obligations.MirrorRowAndChannelCommandsComplete`. -/
theorem witness_MirrorRowAndChannelCommandsComplete_1_b :
    let s : State := linked; let record : JRec := { aRec with type := 6 }; s.mirrors = true ∧ record.type = 6 := by
  decide

/-- Clause 2 of `Obligations.MirrorRowAndChannelCommandsComplete`. -/
theorem witness_MirrorRowAndChannelCommandsComplete_2 :
    linked.linkUp = true ∧ linked.chip.holdup = false := by
  decide

/-- Clause 3 of `Obligations.MirrorRowAndChannelCommandsComplete`. -/
theorem witness_MirrorRowAndChannelCommandsComplete_3 :
    let s := { linked with jr.own := [aRec] }; s.jr.own.find? (fun (q : JRec) => q.seq == 3) = some aRec ∧ s.linkUp = true ∧ s.solo = false ∧ s.chip.holdup = false ∧ aRec.mirrored = false := by
  decide

/-- Clause 4 of `Obligations.MirrorRowAndChannelCommandsComplete`. -/
theorem witness_MirrorRowAndChannelCommandsComplete_4 :
    let s := { live with md.segs := [(2, aSeg)] }; s.seg? 2 = some aSeg ∧ aSeg.row = some aRow ∧ aRow.st = .filling ∧ ¬ (aRow.forms = [] ∧ aRow.pages = []) ∧ s.ownSeg 2 = true := by
  decide

/-- Clause 5 of `Obligations.MirrorRowAndChannelCommandsComplete`. -/
theorem witness_MirrorRowAndChannelCommandsComplete_5 :
    let s := { linked with nv.cmds := [(9, { aWrite with fwdFrom := some 4 })] }; s.linkUp = true ∧ s.nv.cmds.find? (fun (x : Nat × HCmd) => x.2.fwdFrom == some 4) = some (9, { aWrite with fwdFrom := some 4 }) := by
  decide

/-- Clause 6 of `Obligations.MirrorRowAndChannelCommandsComplete`. -/
theorem witness_MirrorRowAndChannelCommandsComplete_6 :
    ({ live with jr.restriping := true } : State).jr.restriping = true := by
  decide

/-- Clause 7 of `Obligations.MirrorRowAndChannelCommandsComplete`. -/
theorem witness_MirrorRowAndChannelCommandsComplete_7_c :
    let s : State := { live with jr.own := [aRec] }; let channel : Fin 16 := 0; let addr : Word := 0; let t : State := (s.bump (Reg.DRAMC_ECC_UE channel.val) 1).setReg (Reg.DRAMC_UE_ADDR channel.val) addr; let own : Bool := true; let seq : Nat := 3; let r := aRec; (if own then t.jr.own else t.jr.mir).find? (fun (r : JRec) => r.seq == seq) = some r := by
  decide

/-- Clause 7 of `Obligations.MirrorRowAndChannelCommandsComplete`. -/
theorem witness_MirrorRowAndChannelCommandsComplete_7_e :
    let s : State := { live with mp.pages := [(4, aPage)] }; let channel : Fin 16 := 0; let addr : Word := 0; let t : State := (s.bump (Reg.DRAMC_ECC_UE channel.val) 1).setReg (Reg.DRAMC_UE_ADDR channel.val) addr; let id : Nat := 4; let p := aPage; t.page? id = some p ∧ p.flash.isSome = true := by
  decide

/-- Clause 7 of `Obligations.MirrorRowAndChannelCommandsComplete`. -/
theorem witness_MirrorRowAndChannelCommandsComplete_7_f :
    let s : State := live; let channel : Fin 16 := 0; let addr : Word := 0; let t : State := (s.bump (Reg.DRAMC_ECC_UE channel.val) 1).setReg (Reg.DRAMC_UE_ADDR channel.val) addr; let id : Nat := 4; t.page? id = none := by
  decide

/-- Clause 1 of `Obligations.ReductionCommandsComplete`. -/
theorem witness_ReductionCommandsComplete_1 :
    ({ live with mp.idxLog := [⟨1, 2, false, 0, 1, 0, 0⟩] } : State).mp.idxLog ≠ [] := by
  decide

/-- Clause 2 of `Obligations.ReductionCommandsComplete`. -/
theorem witness_ReductionCommandsComplete_2 :
    live.accepts Reg.MAPX_RED_CMD := by
  decide

/-- Clause 3 of `Obligations.ReductionCommandsComplete`. -/
theorem witness_ReductionCommandsComplete_3 :
    live.accepts Reg.MAPX_RED_CMD := by
  decide

/-- Clause 4 of `Obligations.ReductionCommandsComplete`. -/
theorem witness_ReductionCommandsComplete_4 :
    live.serving = true := by
  decide

/-- Clause 5 of `Obligations.ReductionCommandsComplete`. -/
theorem witness_ReductionCommandsComplete_5 :
    ({ linked with mp.solo := true } : State).mp.solo = true ∧ linked.solo = false ∧ linked.linkUp = true := by
  decide

/-- Clause 6 of `Obligations.ReductionCommandsComplete`. -/
theorem witness_ReductionCommandsComplete_6 :
    let s : State := { populated with mp.training := [(1, 262144)] }; let volume : BitVec 16 := 1; let v : Volume := aVolume; s.vol? volume.toNat = some v ∧ s.serving = true ∧ s.ownsGroup v.group = true ∧ v.dictMode = 0 ∧ s.redOf v.tenant / 16 % 4 = 2 ∧ 262144 ≤ tGet s.mp.training volume.toNat 0 := by
  decide

/-- Clause 7 of `Obligations.ReductionCommandsComplete`. -/
theorem witness_ReductionCommandsComplete_7 :
    live.mp.audit = none ∧ live.serving = true := by
  decide

/-- Clause 8 of `Obligations.ReductionCommandsComplete`. -/
theorem witness_ReductionCommandsComplete_8 :
    ({ live with mp.audit := some ⟨1, [(4, 0)]⟩ } : State).mp.audit = some ⟨1, [(4, 0)]⟩ := by
  decide

/-- Clause 9 of `Obligations.ReductionCommandsComplete`. -/
theorem witness_ReductionCommandsComplete_9_a :
    let s : State := linked; s.linkUp = true := by
  decide

/-- Clause 9 of `Obligations.ReductionCommandsComplete`. -/
theorem witness_ReductionCommandsComplete_9_b :
    let s : State := linked; s.linkUp = true := by
  decide

/-- Clause 10 of `Obligations.ReductionCommandsComplete`. -/
theorem witness_ReductionCommandsComplete_10_a :
    let s : State := { live with mp.rebuild := some 20 }; let n : Nat := 20; s.mp.rebuild = some n := by
  decide

/-- Clause 10 of `Obligations.ReductionCommandsComplete`. -/
theorem witness_ReductionCommandsComplete_10_b :
    let s : State := { live with mp.rebuild := some 20, mp.rebuilt := true }; let n : Nat := 20; s.mp.rebuild = some n ∧ s.mp.rebuilt = true := by
  decide

/-- Clause 1 of `Obligations.MapPageAndCheckpointCommandsComplete`. -/
theorem witness_MapPageAndCheckpointCommandsComplete_1 :
    let s := { live with mp.pages := [(4, aPage)] }; s.page? 4 = some aPage ∧ aPage.resident = false ∧ aPage.flash = some (2, 0, 0, 0) := by
  decide

/-- Clause 2 of `Obligations.MapPageAndCheckpointCommandsComplete`. -/
theorem witness_MapPageAndCheckpointCommandsComplete_2_b :
    let s : State := { populated with mp.pages := [(4, { aPage with dirty := true, resident := true })] }; let page : Nat := 4; let p : Page := { aPage with dirty := true, resident := true }; s.page? page = some p ∧ p.dirty = true ∧ s.ownsVol p.volume = true ∧ s.mapPlace page p.applied = none := by
  decide

/-- Clause 3 of `Obligations.MapPageAndCheckpointCommandsComplete`. -/
theorem witness_MapPageAndCheckpointCommandsComplete_3 :
    linked.linkUp = true := by
  decide

/-- Clause 4 of `Obligations.MapPageAndCheckpointCommandsComplete`. -/
theorem witness_MapPageAndCheckpointCommandsComplete_4 :
    let s := { live with jr.jwait := [3], md.segs := [(2, { aSeg with type := 4, row := some { aRow with forms := [] } })], nv.cmds := [(9, { aWrite with phase := .headed, rule := 2 })] }; (s.rowFor 4).map (fun x => (x.1, ((x.2.seg? x.1).bind (fun g => g.row)).isSome)) = some (2, true) ∧ s.journalDue = true ∧ ({ s with nv.cmds := [] } : State).journalDue = false := by
  decide

/-- Clause 5 of `Obligations.MapPageAndCheckpointCommandsComplete`. -/
theorem witness_MapPageAndCheckpointCommandsComplete_5 :
    let s := { live with now := 10 ^ 15 }; s.serving = true ∧ s.ckptNeeded = true ∧ s.mp.ckpt = none ∧ ({ s with mp.ckpt := some { num := 1, cut := 0, seq := 0, groups := [], copy := live.mapCopy } } : State).mp.ckpt.isSome = true := by
  decide

/-- Clause 6 of `Obligations.MapPageAndCheckpointCommandsComplete`. -/
theorem witness_MapPageAndCheckpointCommandsComplete_6 :
    let s : State := { live with mp.ckpt := some { num := 1, cut := 0, seq := 0, groups := [], copy := live.mapCopy }, mp.ckptRoot := some (0, 2, true) }; let r : Root := { num := 1, cut := 0, seq := 0, groups := [], copy := live.mapCopy }; let slot : Nat := 0; let id : Nat := 2; s.mp.ckpt = some r ∧ s.mp.ckptRoot = some (slot, id, true) := by
  decide

/-- Clause 7 of `Obligations.MapPageAndCheckpointCommandsComplete`. -/
theorem witness_MapPageAndCheckpointCommandsComplete_7 :
    let s : State := { live with mp.ckpt := some { num := 1, cut := 0, seq := 0, groups := [], copy := live.mapCopy, tabled := true }, md.segs := [(2, { aSeg with type := 7, st := .reserved, row := none, nextRow := 0 })] }; let t : State := ((s.ckptTables.rootSlot s.ckptTables.nextRootSlot).get (by decide)).2; let r : Root := { num := 1, cut := 0, seq := 0, groups := [], copy := live.mapCopy, tabled := true }; let id : Nat := ((s.ckptTables.rootSlot s.ckptTables.nextRootSlot).get (by decide)).1; s.ckptTables.mp.ckpt = some r ∧ s.ckptTables.ckptOpen r = false ∧ s.ckptTables.mp.ckptRoot = none ∧ s.ckptTables.rootSlot s.ckptTables.nextRootSlot = some (id, t) := by
  decide

/-- Clause 8 of `Obligations.MapPageAndCheckpointCommandsComplete`. -/
theorem witness_MapPageAndCheckpointCommandsComplete_8 :
    let s := { populated with nv.volumes := [(1, { aVolume with pinned := true })] }; s.vol? 1 = some { aVolume with pinned := true } ∧ s.ownsGroup 1 = true := by
  decide

/-- Clause 1 of `Obligations.SnapshotAndBobbinCommandsComplete`. -/
theorem witness_SnapshotAndBobbinCommandsComplete_1_a :
    let s : State := linked; s.linkUp = true := by
  decide

/-- Clause 1 of `Obligations.SnapshotAndBobbinCommandsComplete`. -/
theorem witness_SnapshotAndBobbinCommandsComplete_1_c :
    let s : State := { linked with nv.volumes := [(1, aVolume)], nv.groups := [(1, 0)], now := 20000 }; let start : Nat := 0; let members : List (Nat × Nat) := [(1, 4)]; s.linkUp = true ∧ members ≠ [] ∧ s.snapMay (members.map (fun (m : Nat × Nat) => m.1)) = true ∧ start + 1 < s.beat := by
  decide

/-- Clause 1 of `Obligations.SnapshotAndBobbinCommandsComplete`. -/
theorem witness_SnapshotAndBobbinCommandsComplete_1_d :
    let s : State := { linked with nv.volumes := [(1, aVolume)], nv.groups := [(1, 0)] }; let start : Nat := 0; let members : List (Nat × Nat) := [(1, 4)]; s.linkUp = true ∧ members ≠ [] ∧ s.snapMay (members.map (fun (m : Nat × Nat) => m.1)) = true ∧ s.beat ≤ start + 1 := by
  decide

/-- Clause 2 of `Obligations.SnapshotAndBobbinCommandsComplete`. -/
theorem witness_SnapshotAndBobbinCommandsComplete_2 :
    let o : SnapOp := ⟨[1], [3], 66, 0, true, false, false, none, none⟩; let s := { linked with mp.snapOps := [(4, o)] }; s.linkUp = true ∧ tGet? s.mp.snapOps 4 = some o ∧ o.partner = true ∧ o.confirmed = false ∧ o.done = false ∧ s.beat ≤ o.start + 32 := by
  decide

/-- Clause 3 of `Obligations.SnapshotAndBobbinCommandsComplete`. -/
theorem witness_SnapshotAndBobbinCommandsComplete_3 :
    let o : SnapOp := ⟨[1], [5], 0, 0, false, false, false, none, none⟩; let s := { populated with mp.snapOps := [(4, o)] }; tGet? s.mp.snapOps 4 = some o ∧ o.cut ≤ s.beat := by
  decide

/-- Clause 4 of `Obligations.SnapshotAndBobbinCommandsComplete`. -/
theorem witness_SnapshotAndBobbinCommandsComplete_4 :
    let o : SnapOp := ⟨[1], [5], 0, 0, false, false, true, none, none⟩; let s := { populated with mp.snapOps := [(4, o)], now := 1000000 }; tGet? s.mp.snapOps 4 = some o ∧ o.cut + s.act Reg.MAPX_MAP_CFG_SNAP_PAUSE ≤ s.beat := by
  decide

/-- Clause 5 of `Obligations.SnapshotAndBobbinCommandsComplete`. -/
theorem witness_SnapshotAndBobbinCommandsComplete_5 :
    let x : Snapshot := ⟨1, 1, 0, 0, true, true⟩; let s := { populated with mp.snaps := [(3, x)] }; tGet? s.mp.snaps 3 = some x ∧ s.hasClone 3 = false ∧ s.ownsVol 1 = true := by
  decide

/-- Clause 6 of `Obligations.SnapshotAndBobbinCommandsComplete`. -/
theorem witness_SnapshotAndBobbinCommandsComplete_6_a :
    let s : State := { populated with nv.volumes := [(1, { aVolume with root := 4 })], mp.pages := [(4, { aPage with resident := true })], loom.dpcs := [0] }; let volume : BitVec 16 := 1; let grain : BitVec 36 := 0; let x : Volume := { aVolume with root := 4 }; let n : Nat := 0; let l : Nat := 4; s.vol? volume.toNat = some x ∧ s.homeOf volume.toNat (leafOf grain.toNat) = some n ∧ s.leafDir volume.toNat (leafOf grain.toNat) = some l := by
  decide

/-- Clause 6 of `Obligations.SnapshotAndBobbinCommandsComplete`. -/
theorem witness_SnapshotAndBobbinCommandsComplete_6_b :
    let s : State := { populated with nv.volumes := [(1, { aVolume with root := 4 })], mp.pages := [(4, { aPage with resident := false })], loom.dpcs := [0] }; let volume : BitVec 16 := 1; let grain : BitVec 36 := 0; let x : Volume := { aVolume with root := 4 }; let n : Nat := 0; let l : Nat := 4; s.vol? volume.toNat = some x ∧ s.homeOf volume.toNat (leafOf grain.toNat) = some n ∧ s.leafDir volume.toNat (leafOf grain.toNat) = none ∧ s.findLeaf (leafOf grain.toNat) 10 x.root = some l := by
  decide

/-- Clause 7 of `Obligations.SnapshotAndBobbinCommandsComplete`. -/
theorem witness_SnapshotAndBobbinCommandsComplete_7 :
    let s : State := { live with mp.bobbins := [(0, { emptyBobbin with miss := [(1, 4, 1, 1)] })], mp.pages := [(4, { aPage with resident := true })] }; let dpc : Fin 18 := 0; let volume : BitVec 16 := 1; let page : Nat := 4; let sector : Fin 8 := 0; let b : Bobbin := s.bob dpc.val; let m : Nat × Nat × Nat × Nat := (1, 4, 1, 1); s.isResident page = true ∧ b.miss.find? (fun e => e.1 == volume.toNat && e.2.1 == page && hasSector e.2.2.1 sector.val) = some m := by
  decide

/-- Clause 8 of `Obligations.SnapshotAndBobbinCommandsComplete`. -/
theorem witness_SnapshotAndBobbinCommandsComplete_8_a :
    let s : State := { live with now := 10 ^ 9, mp.bobbins := [(0, { emptyBobbin with merge := [⟨1, 4, 0, 255, 0⟩] })] }; let dpc : Fin 18 := 0; let b : Bobbin := s.bob dpc.val; let e := (⟨1, 4, 0, 255, 0⟩ : MergeEnt); b.merge.head? = some e ∧ e.since + s.act (Reg.DPC_BOBBIN_CFG_DRAIN_NS dpc.val) ≤ s.now := by
  decide

/-- Clause 8 of `Obligations.SnapshotAndBobbinCommandsComplete`. -/
theorem witness_SnapshotAndBobbinCommandsComplete_8_b :
    let s : State := { live with mp.bobbins := [(0, { emptyBobbin with merge := List.replicate 16 ⟨1, 4, 0, 255, 0⟩ })] }; let dpc : Fin 18 := 0; let b : Bobbin := s.bob dpc.val; b.merge ≠ [] ∧ s.act (Reg.DPC_BOBBIN_CFG_DRAIN_AT dpc.val) ≤ b.merge.length := by
  decide

/-- Clause 8 of `Obligations.SnapshotAndBobbinCommandsComplete`. -/
theorem witness_SnapshotAndBobbinCommandsComplete_8_c :
    let s : State := live; let dpc : Fin 18 := 0; let b : Bobbin := s.bob dpc.val; b.merge = [] := by
  decide

/-- Clause 9 of `Obligations.SnapshotAndBobbinCommandsComplete`. -/
theorem witness_SnapshotAndBobbinCommandsComplete_9_a :
    let s : State := { linked with mp.chunks := [(5, aChunk)], mp.pools := [(0, aPool)] }; let chunk : Nat := 5; let tenant : Nat := aChunk.tenant; let fpCheck : Nat := aChunk.fpCheck; let e : Chunk := aChunk; s.linkUp = true ∧ s.chunk? chunk = some e ∧ s.chunkUsable chunk = true ∧ s.keepsPool (poolOf chunk) = true ∧ e.tenant = tenant ∧ e.fpCheck = fpCheck := by
  decide

/-- Clause 9 of `Obligations.SnapshotAndBobbinCommandsComplete`. -/
theorem witness_SnapshotAndBobbinCommandsComplete_9_b :
    let s : State := { linked with mp.chunks := [(5, aChunk)], mp.pools := [(0, aPool)] }; let chunk : Nat := 5; let tenant : Nat := aChunk.tenant + 1; let fpCheck : Nat := 0; let e : Chunk := aChunk; s.linkUp = true ∧ s.chunk? chunk = some e ∧ (s.chunkUsable chunk = false ∨ s.keepsPool (poolOf chunk) = false ∨ e.tenant ≠ tenant ∨ e.fpCheck ≠ fpCheck) := by
  decide

/-- Clause 10 of `Obligations.SnapshotAndBobbinCommandsComplete`. -/
theorem witness_SnapshotAndBobbinCommandsComplete_10 :
    let s : State := linked; let chunk : Nat := 0; s.linkUp = true ∧ s.chunk? chunk = none := by
  decide

/-- Clause 11 of `Obligations.SnapshotAndBobbinCommandsComplete`. -/
theorem witness_SnapshotAndBobbinCommandsComplete_11 :
    lookupAt? ({ live with nv.cmds := [(9, { aWrite with lookups := [⟨0, 5, 0, [], some 7, 0, true, false⟩] })] } : State) 9 0 = some ({ aWrite with lookups := [⟨0, 5, 0, [], some 7, 0, true, false⟩] }, ⟨0, 5, 0, [], some 7, 0, true, false⟩) := by
  decide

/-- Clause 2 of `Obligations.MediaBackgroundCommandsComplete`. -/
theorem witness_MediaBackgroundCommandsComplete_2 :
    let s : State := { live with md.segs := [(2, { aSeg with st := .closed, row := none })], md.victims := [⟨6, 2, none, 0⟩] }; let v : Victim := ⟨6, 2, none, 0⟩; let g : Seg := { aSeg with st := .closed, row := none }; s.serving = true ∧ s.headVictim = some v ∧ s.seg? v.seg = some g ∧ (g.st = .closed ∨ g.st = .victim ∨ (v.member.isSome = true ∧ g.st = .opened)) := by
  decide

/-- Clause 3 of `Obligations.MediaBackgroundCommandsComplete`. -/
theorem witness_MediaBackgroundCommandsComplete_3_a :
    let s : State := live; s.serving = true ∧ s.headVictim = none := by
  decide

/-- Clause 3 of `Obligations.MediaBackgroundCommandsComplete`. -/
theorem witness_MediaBackgroundCommandsComplete_3_b :
    let s : State := { live with md.victims := [⟨6, 2, none, 0⟩] }; let v : Victim := ⟨6, 2, none, 0⟩; s.serving = true ∧ s.headVictim = some v ∧ s.seg? v.seg = none := by
  decide

/-- Clause 4 of `Obligations.MediaBackgroundCommandsComplete`. -/
theorem witness_MediaBackgroundCommandsComplete_4 :
    linked.linkUp = true ∧ linked.ownSeg 2 = true := by
  decide

/-- Clause 5 of `Obligations.MediaBackgroundCommandsComplete`. -/
theorem witness_MediaBackgroundCommandsComplete_5 :
    ({ live with md.lostChunks := [(5, 0, 0)] } : State).extentRoom = true := by
  decide

/-- Clause 6 of `Obligations.MediaBackgroundCommandsComplete`. -/
theorem witness_MediaBackgroundCommandsComplete_6 :
    let segment : Nat := 2; let a : Nat := 1; let lost : RebuildRead := { chunks := [] }; let s : State := { live with md.segs := [(2, { aSeg with st := .closed, row := none, lost := [1], members := (List.range 10).map (fun i => (i, 0, 0)) })] }; let g : Seg := { aSeg with st := .closed, row := none, lost := [1], members := (List.range 10).map (fun i => (i, 0, 0)) }; s.serving = true ∧ s.rebuildTurn segment = some (segment, g, a) := by
  decide

/-- Clause 7 of `Obligations.MediaBackgroundCommandsComplete`. -/
theorem witness_MediaBackgroundCommandsComplete_7 :
    let s : State := linked; s.linkUp = true := by
  decide

/-- Clause 8 of `Obligations.MediaBackgroundCommandsComplete`. -/
theorem witness_MediaBackgroundCommandsComplete_8_b :
    let s : State := { linked with md.segs := [(2, { aSeg with st := .drained, row := none })] }; let segment : Nat := 2; let g : Seg := { aSeg with st := .drained, row := none }; let vault : Bool := (g.type == 6 && g.st == .reserved && !s.dumpHeld g.area && g.nextRow != 0); s.seg? segment = some g ∧ s.ownSeg segment = true ∧ s.nv.tenants.any (fun e => e.2.san.held.contains segment) = false ∧ g.erasing = [] ∧ (g.st = .drained ∨ vault = true) ∧ s.movesPending g = false ∧ s.readsBooked segment = false ∧ s.paired = true ∧ g.clear = false ∧ vault = false := by
  decide

/-- Clause 8 of `Obligations.MediaBackgroundCommandsComplete`. -/
theorem witness_MediaBackgroundCommandsComplete_8_c :
    let s : State := { live with md.segs := [(2, { aSeg with st := .drained, row := none })] }; let segment : Nat := 2; let g : Seg := { aSeg with st := .drained, row := none }; let vault : Bool := (g.type == 6 && g.st == .reserved && !s.dumpHeld g.area && g.nextRow != 0); s.seg? segment = some g ∧ s.ownSeg segment = true ∧ s.nv.tenants.any (fun e => e.2.san.held.contains segment) = false ∧ g.erasing = [] ∧ (g.st = .drained ∨ vault = true) ∧ s.movesPending g = false ∧ s.readsBooked segment = false ∧ (s.paired = false ∨ g.clear = true ∨ vault = true) := by
  decide

/-- Clause 1 of `Obligations.PatrolCapacityAndQueryCommandsComplete`. -/
theorem witness_PatrolCapacityAndQueryCommandsComplete_1 :
    let s : State := linked; s.linkUp = true := by
  decide

/-- Clause 2 of `Obligations.PatrolCapacityAndQueryCommandsComplete`. -/
theorem witness_PatrolCapacityAndQueryCommandsComplete_2_a :
    let s : State := live; let t : State := (if s.fld (Reg.MEDIA_PATROL_STATUS_PASS 0) = 0 then s.passBegin else s); s.serving = true ∧ t.patrolNext = none := by
  decide

/-- Clause 2 of `Obligations.PatrolCapacityAndQueryCommandsComplete`. -/
theorem witness_PatrolCapacityAndQueryCommandsComplete_2_b :
    let id := 2; let row := 0; let s : State := { live with md.segs := [(2, { aSeg with st := .closed, row := none, durable := 2 })] }; let t : State := (if s.fld (Reg.MEDIA_PATROL_STATUS_PASS 0) = 0 then s.passBegin else s); let m := 0; let g := { aSeg with st := .closed, row := none, durable := 2 }; s.serving = true ∧ t.patrolNext = some (id, row, m) ∧ t.seg? id = some g := by
  decide

/-- Clause 4 of `Obligations.PatrolCapacityAndQueryCommandsComplete`. -/
theorem witness_PatrolCapacityAndQueryCommandsComplete_4_a :
    let s : State := live; let media : Fin 2 := 1; let segment : BitVec 24 := 0xFFFFFF; s.accepts (Reg.MEDIA_SEG_CMD media.val) ∧ s.seg? segment.toNat = none := by
  decide

/-- Clause 4 of `Obligations.PatrolCapacityAndQueryCommandsComplete`. -/
theorem witness_PatrolCapacityAndQueryCommandsComplete_4_b :
    let s : State := { live with md.segs := [(2, { aSeg with members := [(0, 0, 0)] })] }; let media : Fin 2 := 0; let segment : BitVec 24 := 2; let member : BitVec 5 := 1; let g := { aSeg with members := [(0, 0, 0)] }; s.accepts (Reg.MEDIA_SEG_CMD media.val) ∧ s.seg? segment.toNat = some g ∧ g.members[member.toNat]? = none := by
  decide

/-- Clause 4 of `Obligations.PatrolCapacityAndQueryCommandsComplete`. -/
theorem witness_PatrolCapacityAndQueryCommandsComplete_4_c :
    let s : State := { live with md.segs := [(2, { aSeg with members := [(0, 0, 0)] })] }; let media : Fin 2 := 0; let segment : BitVec 24 := 2; let member : BitVec 5 := 0; let g := { aSeg with members := [(0, 0, 0)] }; let m := (0, 0, 0); s.accepts (Reg.MEDIA_SEG_CMD media.val) ∧ s.seg? segment.toNat = some g ∧ g.members[member.toNat]? = some m := by
  decide

/-- Clause 1 of `Obligations.MediaQueueCommandsComplete`. -/
theorem witness_MediaQueueCommandsComplete_1 :
    readyModule.mqpDone aDone aCmd (readyModule.modModule 0 (fun m => { m with cmds := [] })) := by
  decide

/-- Clause 2 of `Obligations.MediaQueueCommandsComplete`. -/
theorem witness_MediaQueueCommandsComplete_2_a :
    let s : State := readyModule; let t : State := readyModule.modModule 0 (fun m => { m with cmds := [] }); let done : MqpDone := aDone; let c : MqpCmd := aCmd; s.mqpDone done c t ∧ done.status = 0 := by
  decide

/-- Clause 2 of `Obligations.MediaQueueCommandsComplete`. -/
theorem witness_MediaQueueCommandsComplete_2_b :
    let s : State := readyModule; let t : State := readyModule.modModule 0 (fun m => { m with cmds := [] }); let done : MqpDone := { aDone with status := 0x20 }; let c : MqpCmd := aCmd; s.mqpDone done c t ∧ done.status = 0x20 := by
  decide

/-- Clause 3 of `Obligations.MediaQueueCommandsComplete`. -/
theorem witness_MediaQueueCommandsComplete_3_a :
    let s : State := readyModule; let t : State := readyModule.modModule 0 (fun m => { m with cmds := [] }); let done : MqpDone := aDone; let c : MqpCmd := aCmd; s.mqpDone done c t ∧ done.status = 0 := by
  decide

/-- Clause 3 of `Obligations.MediaQueueCommandsComplete`. -/
theorem witness_MediaQueueCommandsComplete_3_c :
    let s : State := readyModule; let t : State := readyModule.modModule 0 (fun m => { m with cmds := [] }); let done : MqpDone := { aDone with status := 0x30 }; let c : MqpCmd := aCmd; s.mqpDone done c t ∧ done.status = 0x30 := by
  decide

/-- Clause 4 of `Obligations.MediaQueueCommandsComplete`. -/
theorem witness_MediaQueueCommandsComplete_4 :
    readyModule.mqpDone aDone aCmd (readyModule.modModule 0 (fun m => { m with cmds := [] })) := by
  decide

/-- Clause 5 of `Obligations.MediaQueueCommandsComplete`. -/
theorem witness_MediaQueueCommandsComplete_5 :
    let s : State := readyModule; let done : MqpDone := { aDone with cid := 8 }; 3 ≤ s.svcState done.port.val ∧ s.svcState done.port.val ≤ 5 ∧ ((s.module done.port.val).cmds.find? (fun (x : MqpCmd) => x.queue == done.queue.val && x.cid == done.cid.toNat) = none ∨ knownStatus done.status.toNat = false) := by
  decide

/-- Clause 6 of `Obligations.MediaQueueCommandsComplete`. -/
theorem witness_MediaQueueCommandsComplete_6 :
    readyModule.mqpDone aDone aCmd (readyModule.modModule 0 (fun m => { m with cmds := [] })) := by
  decide

/-- Clause 7 of `Obligations.MediaQueueCommandsComplete`. -/
theorem witness_MediaQueueCommandsComplete_7 :
    readyModule.mqpDone aDone aCmd (readyModule.modModule 0 (fun m => { m with cmds := [] })) := by
  decide

/-- Clause 8 of `Obligations.MediaQueueCommandsComplete`. -/
theorem witness_MediaQueueCommandsComplete_8 :
    let s : State := readyModule; let t : State := readyModule.modModule 0 (fun m => { m with cmds := [] }); let done : MqpDone := { aDone with status := 1 }; let c : MqpCmd := aCmd; s.mqpDone done c t ∧ done.status ≠ 0 := by
  decide

/-- Clause 9 of `Obligations.MediaQueueCommandsComplete`. -/
theorem witness_MediaQueueCommandsComplete_9 :
    readyModule.mqpDone aDone aCmd (readyModule.modModule 0 (fun m => { m with cmds := [] })) ∧ aDone.status = 0 := by
  decide

/-- Clause 10 of `Obligations.MediaQueueCommandsComplete`. -/
theorem witness_MediaQueueCommandsComplete_10_a :
    let s : State := readyModule; let t : State := readyModule.modModule 0 (fun m => { m with cmds := [] }); let done : MqpDone := aDone; let c : MqpCmd := aCmd; let health : Health := ⟨true, 0, 0, 0, true, 0, 0⟩; s.mqpDone done c t ∧ done.status = 0 ∧ health.crcOk = true := by
  decide

/-- Clause 10 of `Obligations.MediaQueueCommandsComplete`. -/
theorem witness_MediaQueueCommandsComplete_10_b :
    let s : State := readyModule; let t : State := readyModule.modModule 0 (fun m => { m with cmds := [] }); let done : MqpDone := aDone; let c : MqpCmd := aCmd; let health : Health := ⟨false, 0, 0, 0, true, 0, 0⟩; s.mqpDone done c t ∧ health.crcOk = false := by
  decide

/-- Clause 11 of `Obligations.MediaQueueCommandsComplete`. -/
theorem witness_MediaQueueCommandsComplete_11 :
    readyModule.mqpDone aDone aCmd (readyModule.modModule 0 (fun m => { m with cmds := [] })) ∧ aDone.status = 0 := by
  decide

/-- Clause 12 of `Obligations.MediaQueueCommandsComplete`. -/
theorem witness_MediaQueueCommandsComplete_12_a :
    let s : State := readyModule.modModule 0 (fun m => { m with timeouts := [0, 0] }); let port : Fin 64 := 0; let queue : Fin 16 := 0; let cid : BitVec 16 := 7; let c : MqpCmd := aCmd; let t : State := (s.bump (Reg.MODP_CNT port.val 1) 1).modModule port.val (fun m => { m with cmds := m.cmds.map (fun x => if x = c then { x with op := 0, use := .lease } else x), timeouts := m.timeouts.filter (fun t => decide (s.now ≤ t + 1000000000)) ++ [s.now] }); 3 ≤ s.svcState port.val ∧ s.svcState port.val ≤ 5 ∧ (s.module port.val).cmds.find? (fun (x : MqpCmd) => x.queue == queue.val && x.cid == cid.toNat && x.op != 0) = some c ∧ 3 ≤ (t.module port.val).timeouts.length := by
  decide

/-- Clause 12 of `Obligations.MediaQueueCommandsComplete`. -/
theorem witness_MediaQueueCommandsComplete_12_b :
    let s : State := readyModule; let port : Fin 64 := 0; let queue : Fin 16 := 0; let cid : BitVec 16 := 7; let c : MqpCmd := aCmd; let t : State := (s.bump (Reg.MODP_CNT port.val 1) 1).modModule port.val (fun m => { m with cmds := m.cmds.map (fun x => if x = c then { x with op := 0, use := .lease } else x), timeouts := m.timeouts.filter (fun t => decide (s.now ≤ t + 1000000000)) ++ [s.now] }); 3 ≤ s.svcState port.val ∧ s.svcState port.val ≤ 5 ∧ (s.module port.val).cmds.find? (fun (x : MqpCmd) => x.queue == queue.val && x.cid == cid.toNat && x.op != 0) = some c ∧ (t.module port.val).timeouts.length < 3 ∧ c.op = 0x01 := by
  decide

/-- Clause 13 of `Obligations.MediaQueueCommandsComplete`. -/
theorem witness_MediaQueueCommandsComplete_13 :
    (readyModule.module 0).cmds.find? (fun (x : MqpCmd) => x.queue == 0 && x.cid == 7 && x.op == 0x01) = some aCmd := by
  decide

/-- Clause 14 of `Obligations.MediaQueueCommandsComplete`. -/
theorem witness_MediaQueueCommandsComplete_14 :
    let s := readyModule.modModule 0 (fun m => { m with redo := some aCmd }); (s.module 0).redo = some aCmd ∧ (s.setFld (Reg.MODP_STATUS_SVC 0) 3).svcState 0 = 3 := by
  decide

/-- Clause 1 of `Obligations.ModuleSlotAndPortCommandsComplete`. -/
theorem witness_ModuleSlotAndPortCommandsComplete_1 :
    let s : State := live; s.chip.cond ≠ .reset ∧ s.chip.mainPwrOk = true := by
  decide

/-- Clause 2 of `Obligations.ModuleSlotAndPortCommandsComplete`. -/
theorem witness_ModuleSlotAndPortCommandsComplete_2_a :
    let s : State := readyModule.setFld (Reg.MODP_STATUS_SVC 0) 1; let port : Fin 64 := 0; s.svcState port.val = 1 := by
  decide

/-- Clause 2 of `Obligations.ModuleSlotAndPortCommandsComplete`. -/
theorem witness_ModuleSlotAndPortCommandsComplete_2_b :
    let s : State := readyModule; let port : Fin 64 := 63; s.svcState port.val ≠ 1 := by
  decide

/-- Clause 3 of `Obligations.ModuleSlotAndPortCommandsComplete`. -/
theorem witness_ModuleSlotAndPortCommandsComplete_3 :
    let s := (readyModule.modModule 0 (fun m => { m with perstRel := true })).setFld (Reg.MODP_STATUS_SVC 0) 2; (s.module 0).perstRel = true ∧ s.svcState 0 = 2 := by
  decide

/-- Clause 4 of `Obligations.ModuleSlotAndPortCommandsComplete`. -/
theorem witness_ModuleSlotAndPortCommandsComplete_4 :
    let s : State := readyModule; let port : Fin 64 := 0; s.inServiceM port.val = true := by
  decide

/-- Clause 5 of `Obligations.ModuleSlotAndPortCommandsComplete`. -/
theorem witness_ModuleSlotAndPortCommandsComplete_5 :
    let s := (readyModule.modModule 0 (fun m => { m with perstRel := true })).setFld (Reg.MODP_STATUS_SVC 0) 2; (s.module 0).perstRel = true ∧ s.svcState 0 = 2 := by
  decide

/-- Clause 6 of `Obligations.ModuleSlotAndPortCommandsComplete`. -/
theorem witness_ModuleSlotAndPortCommandsComplete_6 :
    let s := { (readyModule.setFld (Reg.MODP_STATUS_SVC 0) 2) with chip.steps := [8] }; s.svcState 0 = 2 := by
  decide

/-- Clause 7 of `Obligations.ModuleSlotAndPortCommandsComplete`. -/
theorem witness_ModuleSlotAndPortCommandsComplete_7 :
    (readyModule.setFld (Reg.MODP_STATUS_SVC 0) 3).svcState 0 = 3 ∧ (readyModule.module 0).geom = none := by
  decide

/-- Clause 8 of `Obligations.ModuleSlotAndPortCommandsComplete`. -/
theorem witness_ModuleSlotAndPortCommandsComplete_8 :
    live.accepts (Reg.MODP_SLOT_CTRL_STS 0) := by
  decide

/-- Clause 9 of `Obligations.ModuleSlotAndPortCommandsComplete`. -/
theorem witness_ModuleSlotAndPortCommandsComplete_9 :
    live.accepts (Reg.MODP_SLOT_CTRL_STS 63) := by
  decide

/-- Clause 10 of `Obligations.ModuleSlotAndPortCommandsComplete`. -/
theorem witness_ModuleSlotAndPortCommandsComplete_10 :
    live.bit Reg.SLOT_STATUS_CHAIN_FAULT = false := by
  decide

/-- Clause 11 of `Obligations.ModuleSlotAndPortCommandsComplete`. -/
theorem witness_ModuleSlotAndPortCommandsComplete_11 :
    let s := readyModule.setFld (Reg.MODP_STATUS_SVC 0) 5; s.svcState 0 = 5 ∧ s.md.segs = [] := by
  decide

/-- Clause 12 of `Obligations.ModuleSlotAndPortCommandsComplete`. -/
theorem witness_ModuleSlotAndPortCommandsComplete_12_a :
    let s : State := readyModule.setFld (Reg.MODP_STATUS_SVC 0) 3; let port : Fin 64 := 0; let cause : PortLoss := .absent; cause = .absent ∧ s.svcState port.val = 3 := by
  decide

/-- Clause 12 of `Obligations.ModuleSlotAndPortCommandsComplete`. -/
theorem witness_ModuleSlotAndPortCommandsComplete_12_b :
    let s : State := readyModule; let port : Fin 64 := 0; let cause : PortLoss := .signal; let t := (if s.inServiceM port.val then s.faultMark else s); 3 ≤ s.svcState port.val ∧ s.svcState port.val ≤ 5 ∧ (cause ≠ .absent ∨ s.svcState port.val ≠ 3) ∧ t.svcState port.val = s.svcState port.val := by
  decide

/-- Clause 13 of `Obligations.ModuleSlotAndPortCommandsComplete`. -/
theorem witness_ModuleSlotAndPortCommandsComplete_13_a :
    let s : State := live.setFld Reg.SEGW_ENGINES_ACTIVE 15; let engine : Fin 4 := 3; s.fld Reg.SEGW_ENGINES_ACTIVE / 2 ^ engine.val % 2 ≠ 0 ∧ s.fld Reg.SEGW_ENGINES_ACTIVE ≠ 2 ^ engine.val := by
  decide

/-- Clause 13 of `Obligations.ModuleSlotAndPortCommandsComplete`. -/
theorem witness_ModuleSlotAndPortCommandsComplete_13_b :
    let s : State := live.setFld Reg.SEGW_ENGINES_ACTIVE 1; let engine : Fin 4 := 0; s.fld Reg.SEGW_ENGINES_ACTIVE / 2 ^ engine.val % 2 ≠ 0 ∧ s.fld Reg.SEGW_ENGINES_ACTIVE = 2 ^ engine.val := by
  decide

/-- Clause 1 of `Obligations.DikorLinkCommandsComplete`. -/
theorem witness_DikorLinkCommandsComplete_1 :
    ({ live with chip.steps := [10] } : State).mayTrain = true ∧ live.lstate = 0 ∧ (live.setFld Reg.DIKOR_STATUS_LSTATE 9).lstate = 9 ∧ (live.setFld Reg.DIKOR_STATUS_LSTATE 10).lstate = 10 := by
  decide

/-- Clause 2 of `Obligations.DikorLinkCommandsComplete`. -/
theorem witness_DikorLinkCommandsComplete_2_a :
    let s : State := { (live.setFld Reg.DIKOR_STATUS_LSTATE 1).setAct Reg.DIKOR_CFG_QUAD_EN 63 with dk.prsnt := true }; let quads : BitVec 6 := 7; let c : Nat := quads.toNat &&& s.act Reg.DIKOR_CFG_QUAD_EN; s.dk.failed = false ∧ s.lstate = 1 ∧ s.dk.prsnt = true ∧ 3 ≤ popcount c := by
  decide

/-- Clause 2 of `Obligations.DikorLinkCommandsComplete`. -/
theorem witness_DikorLinkCommandsComplete_2_b :
    let s : State := live.setFld Reg.DIKOR_STATUS_LSTATE 1; let quads : BitVec 6 := 3; let c : Nat := quads.toNat &&& s.act Reg.DIKOR_CFG_QUAD_EN; s.dk.failed = false ∧ s.lstate = 1 ∧ (s.dk.prsnt = false ∨ popcount c < 3) := by
  decide

/-- Clause 2 of `Obligations.DikorLinkCommandsComplete`. -/
theorem witness_DikorLinkCommandsComplete_2_d :
    let s : State := { live.setFld Reg.DIKOR_STATUS_LSTATE 3 with dk.cand := 63 }; let quads : BitVec 6 := 7; let d : Nat := s.dk.cand &&& quads.toNat; s.dk.failed = false ∧ s.lstate = 3 ∧ 3 ≤ popcount d := by
  decide

/-- Clause 2 of `Obligations.DikorLinkCommandsComplete`. -/
theorem witness_DikorLinkCommandsComplete_2_g :
    let s : State := { live.setFld Reg.DIKOR_STATUS_LSTATE 4 with dk.cand := 63 }; let quads : BitVec 6 := 3; let d : Nat := s.dk.cand &&& quads.toNat; s.dk.failed = false ∧ s.lstate = 4 ∧ popcount d < 3 := by
  decide

/-- Clause 2 of `Obligations.DikorLinkCommandsComplete`. -/
theorem witness_DikorLinkCommandsComplete_2_h :
    let s : State := live.setFld Reg.DIKOR_STATUS_LSTATE 6; s.dk.failed = false ∧ s.lstate = 6 := by
  decide

/-- Clause 3 of `Obligations.DikorLinkCommandsComplete`. -/
theorem witness_DikorLinkCommandsComplete_3 :
    (live.setFld Reg.DIKOR_STATUS_LSTATE 6).lstate = 6 := by
  decide

/-- Clause 4 of `Obligations.DikorLinkCommandsComplete`. -/
theorem witness_DikorLinkCommandsComplete_4 :
    let s := live.setFld Reg.DIKOR_STATUS_LSTATE 5; s.lstate = 5 ∧ s.dk.failed = false := by
  decide

/-- Clause 5 of `Obligations.DikorLinkCommandsComplete`. -/
theorem witness_DikorLinkCommandsComplete_5 :
    linked.linkUp = true := by
  decide

/-- Clause 6 of `Obligations.DikorLinkCommandsComplete`. -/
theorem witness_DikorLinkCommandsComplete_6 :
    let s := linked.setBit Reg.DIKOR_STATUS_LEADER true; s.linkUp = true ∧ (s.setReg Reg.TIME_PARTNER_SKEW 0).bit Reg.DIKOR_STATUS_LEADER = true ∧ ((linked.setFld Reg.TIME_CTRL_SRC 2).setReg Reg.TIME_PARTNER_SKEW 0).bit Reg.DIKOR_STATUS_LEADER = false ∧ 2 ≤ ((linked.setFld Reg.TIME_CTRL_SRC 2).setReg Reg.TIME_PARTNER_SKEW 0).fld Reg.TIME_CTRL_SRC := by
  decide

/-- Clause 7 of `Obligations.DikorLinkCommandsComplete`. -/
theorem witness_DikorLinkCommandsComplete_7_a :
    let s : State := { linked with dk.nak := true }; s.linkUp = true ∧ s.dk.nak = true := by
  decide

/-- Clause 7 of `Obligations.DikorLinkCommandsComplete`. -/
theorem witness_DikorLinkCommandsComplete_7_c :
    let s : State := { linked with dk.unacked := [(1, 0)] }; let f : Nat × Nat := (1, 0); let rest : List (Nat × Nat) := []; s.linkUp = true ∧ s.lstate ≠ 8 ∧ s.dk.unacked = f :: rest := by
  decide

/-- Clause 7 of `Obligations.DikorLinkCommandsComplete`. -/
theorem witness_DikorLinkCommandsComplete_7_d :
    let s : State := linked; s.linkUp = true ∧ s.dk.unacked = [] := by
  decide

/-- Clause 8 of `Obligations.DikorLinkCommandsComplete`. -/
theorem witness_DikorLinkCommandsComplete_8_a :
    let s : State := linked.setFld Reg.DIKOR_STATUS_QUAD_MASK 56; let u : State := s.secondFault.swapFault; let quad : Fin 6 := 5; let mask : Nat := 56; s.linkUp = true ∧ mask = s.dk.named.getD (s.fld Reg.DIKOR_STATUS_QUAD_MASK) ∧ mask / 2 ^ quad.val % 2 = 1 ∧ mask = u.dk.named.getD (u.fld Reg.DIKOR_STATUS_QUAD_MASK) ∧ popcount (mask - 2 ^ quad.val) < 3 := by
  decide

/-- Clause 8 of `Obligations.DikorLinkCommandsComplete`. -/
theorem witness_DikorLinkCommandsComplete_8_b :
    let s : State := linked.setFld Reg.DIKOR_STATUS_QUAD_MASK 63; let u : State := s.secondFault.swapFault; let quad : Fin 6 := 0; let mask : Nat := 63; s.linkUp = true ∧ mask = s.dk.named.getD (s.fld Reg.DIKOR_STATUS_QUAD_MASK) ∧ mask / 2 ^ quad.val % 2 = 1 ∧ mask = u.dk.named.getD (u.fld Reg.DIKOR_STATUS_QUAD_MASK) ∧ 3 ≤ popcount (mask - 2 ^ quad.val) := by
  decide

/-- Clause 8 of `Obligations.DikorLinkCommandsComplete`. -/
theorem witness_DikorLinkCommandsComplete_8_c :
    let s : State := { linked.setFld Reg.DIKOR_STATUS_QUAD_MASK 63 with dk.replays := 4 }; let u : State := s.secondFault.swapFault; let quad : Fin 6 := 5; let mask : Nat := 63; let errors := [0, 0, 0, 0, 0, 1]; s.linkUp = true ∧ mask = s.dk.named.getD (s.fld Reg.DIKOR_STATUS_QUAD_MASK) ∧ mask / 2 ^ quad.val % 2 = 1 ∧ mask = u.dk.named.getD (u.fld Reg.DIKOR_STATUS_QUAD_MASK) ∧ 4 ≤ s.dk.replays ∧ s.worstQuad errors = some quad.val ∧ 3 ≤ popcount (mask - 2 ^ quad.val) := by
  decide

/-- Clause 9 of `Obligations.DikorLinkCommandsComplete`. -/
theorem witness_DikorLinkCommandsComplete_9 :
    let s := linked.setFld Reg.DIKOR_STATUS_QUAD_MASK 63; s.linkUp = true ∧ popcount (63 &&& 31) = 5 ∧ popcount (63 &&& 3) < 3 := by
  decide

/-- Clause 10 of `Obligations.DikorLinkCommandsComplete`. -/
theorem witness_DikorLinkCommandsComplete_10_a :
    let s : State := { linked.setFld Reg.DIKOR_STATUS_QUAD_MASK 31 with dk.asked := 32 }; let quad : Fin 6 := 5; let mask : Nat := s.fld Reg.DIKOR_STATUS_QUAD_MASK; s.lstate = 7 ∧ mask / 2 ^ quad.val % 2 = 0 ∧ s.act Reg.DIKOR_CFG_QUAD_EN / 2 ^ quad.val % 2 = 1 ∧ s.dk.leftOut / 2 ^ quad.val % 2 = 0 ∧ (s.act Reg.DIKOR_CFG_WIDEN_AUTO = 1 ∨ s.dk.asked / 2 ^ quad.val % 2 = 1) ∧ s.changeFree = true ∧ s.own.move = none := by
  decide

/-- Clause 10 of `Obligations.DikorLinkCommandsComplete`. -/
theorem witness_DikorLinkCommandsComplete_10_b :
    let s : State := { linked.setFld Reg.DIKOR_STATUS_QUAD_MASK 31 with dk.asked := 32, own.swaps := [(2, ⟨true, 0, 66, true, none⟩)] }; let quad : Fin 6 := 5; let mask : Nat := s.fld Reg.DIKOR_STATUS_QUAD_MASK; s.lstate = 7 ∧ mask / 2 ^ quad.val % 2 = 0 ∧ s.act Reg.DIKOR_CFG_QUAD_EN / 2 ^ quad.val % 2 = 1 ∧ s.dk.leftOut / 2 ^ quad.val % 2 = 0 ∧ (s.act Reg.DIKOR_CFG_WIDEN_AUTO = 1 ∨ s.dk.asked / 2 ^ quad.val % 2 = 1) ∧ (s.changeFree = false ∨ s.own.move.isSome = true) := by
  decide

/-- Clause 11 of `Obligations.DikorLinkCommandsComplete`. -/
theorem witness_DikorLinkCommandsComplete_11_a :
    let s : State := live.setFld Reg.DIKOR_STATUS_LSTATE 10; let present : Bool := true; present = true ∧ s.dk.prsnt = false ∧ s.lstate = 10 := by
  decide

/-- Clause 11 of `Obligations.DikorLinkCommandsComplete`. -/
theorem witness_DikorLinkCommandsComplete_11_b :
    let s : State := live.setFld Reg.DIKOR_STATUS_LSTATE 6; 1 ≤ s.lstate ∧ s.lstate ≤ 6 := by
  decide

/-- Clause 11 of `Obligations.DikorLinkCommandsComplete`. -/
theorem witness_DikorLinkCommandsComplete_11_c :
    let s : State := linked; let present : Bool := true; present = true ∧ (s.dk.prsnt = true ∨ s.lstate ≠ 10) := by
  decide

/-- Clause 11 of `Obligations.DikorLinkCommandsComplete`. -/
theorem witness_DikorLinkCommandsComplete_11_e :
    let s : State := linked; s.dk.prsnt = false ∧ s.linkUp = true := by
  decide

/-- Clause 12 of `Obligations.DikorLinkCommandsComplete`. -/
theorem witness_DikorLinkCommandsComplete_12 :
    linked.linkUp = true ∧ (live.setBit Reg.DIKOR_STATUS_HB_IN_OK true).bit Reg.DIKOR_STATUS_HB_IN_OK = true := by
  decide

/-- Clause 13 of `Obligations.DikorLinkCommandsComplete`. -/
theorem witness_DikorLinkCommandsComplete_13 :
    live.chip.cond ≠ .reset ∧ live.bit Reg.DIKOR_STATUS_HB_IN_OK = false := by
  decide

/-- Clause 14 of `Obligations.DikorLinkCommandsComplete`. -/
theorem witness_DikorLinkCommandsComplete_14 :
    linked.linkUp = true ∧ linked.chip.holdup = false := by
  decide

/-- Clause 15 of `Obligations.DikorLinkCommandsComplete`. -/
theorem witness_DikorLinkCommandsComplete_15_a :
    let s : State := { live with dk.waitRunning := true }; s.dk.waitRunning = true := by
  decide

/-- Clause 15 of `Obligations.DikorLinkCommandsComplete`. -/
theorem witness_DikorLinkCommandsComplete_15_b :
    let s : State := { live with dk.waitExpired := true }; s.dk.waitExpired = true ∧ (s.role = 0 ∨ s.role = 1) := by
  decide

/-- Clause 1 of `Obligations.OwnershipCommandsComplete`. -/
theorem witness_OwnershipCommandsComplete_1_a :
    let s : State := { linked.setBit Reg.OWN_STATUS_MIRROR_READY true with md.windows := [[(2, 0)]] }; s.linkUp = true ∧ (s.windowsOpen = true ∨ s.own.move.isSome = true) := by
  decide

/-- Clause 1 of `Obligations.OwnershipCommandsComplete`. -/
theorem witness_OwnershipCommandsComplete_1_c :
    let s : State := { linked with own.swaps := [(2, ⟨true, 0, 66, true, none⟩)] }; s.linkUp = true ∧ s.windowsOpen = false ∧ s.own.move = none ∧ s.mp.overlay.length < 3 * 2 ^ 26 ∧ (s.changeFree = false ∨ s.own.join.isSome = true) := by
  decide

/-- Clause 1 of `Obligations.OwnershipCommandsComplete`. -/
theorem witness_OwnershipCommandsComplete_1_d :
    let s : State := linked.setBit Reg.OWN_STATUS_MIRROR_READY true; let group : BitVec 8 := 1; let gen : BitVec 32 := 0; s.linkUp = true ∧ s.windowsOpen = false ∧ s.own.move = none ∧ s.mp.overlay.length < 3 * 2 ^ 26 ∧ s.changeFree = true ∧ s.own.join = none ∧ s.paired = true ∧ s.bit Reg.OWN_STATUS_MIRROR_READY = true ∧ s.ownsGroup group.toNat = false ∧ tGet s.nv.groupGens group.toNat 0 = gen.toNat := by
  decide

/-- Clause 1 of `Obligations.OwnershipCommandsComplete`. -/
theorem witness_OwnershipCommandsComplete_1_e :
    let s : State := linked; let group : BitVec 8 := 0; let gen : BitVec 32 := 0; s.linkUp = true ∧ s.windowsOpen = false ∧ s.own.move = none ∧ s.mp.overlay.length < 3 * 2 ^ 26 ∧ s.changeFree = true ∧ s.own.join = none ∧ (s.paired = false ∨ s.bit Reg.OWN_STATUS_MIRROR_READY = false ∨ s.ownsGroup group.toNat = true ∨ tGet s.nv.groupGens group.toNat 0 ≠ gen.toNat) := by
  decide

/-- Clause 2 of `Obligations.OwnershipCommandsComplete`. -/
theorem witness_OwnershipCommandsComplete_2_a :
    let s : State := { populated with own.swaps := [(1, ⟨true, 0, 66, false, none⟩)] }; let group : BitVec 8 := 1; let x : Swap := ⟨true, 0, 66, false, none⟩; tGet? s.own.swaps group.toNat = some x ∧ x.giving = true ∧ (x.accepted = false ∨ s.ownsGroup group.toNat = false) := by
  decide

/-- Clause 2 of `Obligations.OwnershipCommandsComplete`. -/
theorem witness_OwnershipCommandsComplete_2_b :
    let s : State := { populated with own.swaps := [(1, ⟨false, 0, 66, false, none⟩)] }; let group : BitVec 8 := 1; let x : Swap := ⟨false, 0, 66, false, none⟩; tGet? s.own.swaps group.toNat = some x ∧ x.giving = false ∧ tGet? s.nv.groups group.toNat ≠ some 3 := by
  decide

/-- Clause 3 of `Obligations.OwnershipCommandsComplete`. -/
theorem witness_OwnershipCommandsComplete_3_a :
    let s : State := { populated with own.swaps := [(1, ⟨true, 0, 66, false, none⟩)] }; let group : BitVec 8 := 1; let handover : Nat := 66; let x : Swap := ⟨true, 0, 66, false, none⟩; tGet? s.own.swaps group.toNat = some x ∧ x.giving = true ∧ x.bh = handover ∧ s.beat ≤ x.bo + 32 := by
  decide

/-- Clause 3 of `Obligations.OwnershipCommandsComplete`. -/
theorem witness_OwnershipCommandsComplete_3_b :
    let s : State := { populated with own.swaps := [(1, ⟨true, 0, 66, false, none⟩)] }; let group : BitVec 8 := 1; let handover : Nat := 67; let x : Swap := ⟨true, 0, 66, false, none⟩; tGet? s.own.swaps group.toNat = some x ∧ x.giving = true ∧ (x.bh ≠ handover ∨ x.bo + 32 < s.beat) := by
  decide

/-- Clause 3 of `Obligations.OwnershipCommandsComplete`. -/
theorem witness_OwnershipCommandsComplete_3_c :
    let s : State := { populated with own.swaps := [(1, ⟨true, 0, 66, true, none⟩)] }; let group : BitVec 8 := 1; let x : Swap := ⟨true, 0, 66, true, none⟩; tGet? s.own.swaps group.toNat = some x ∧ x.giving = true ∧ x.accepted = true ∧ s.ownsGroup group.toNat = true := by
  decide

/-- Clause 4 of `Obligations.OwnershipCommandsComplete`. -/
theorem witness_OwnershipCommandsComplete_4 :
    let x : Swap := ⟨false, 0, 66, true, none⟩; let s := { populated with own.swaps := [(1, x)], nv.groups := [(1, 3)] }; tGet? s.own.swaps 1 = some x ∧ tGet? s.nv.groups 1 = some 3 := by
  decide

/-- Clause 5 of `Obligations.OwnershipCommandsComplete`. -/
theorem witness_OwnershipCommandsComplete_5 :
    let s := linked.setReg (Reg.OWN_CFG_SWAP_PERIOD_H.key + 0x8000) (24 <<< 48); s.paired = true ∧ s.act Reg.OWN_CFG_SWAP_PERIOD_H ≠ 0 := by
  decide

/-- Clause 6 of `Obligations.OwnershipCommandsComplete`. -/
theorem witness_OwnershipCommandsComplete_6 :
    let j : Join := ⟨false, true, false, 0, 0, true, 0, false, false⟩; ({ linked with own.join := some j } : State).own.join = some j ∧ linked.linkUp = true := by
  decide

/-- Clause 7 of `Obligations.OwnershipCommandsComplete`. -/
theorem witness_OwnershipCommandsComplete_7 :
    let j : Join := ⟨true, false, true, 0, 0, false, 0, false, false⟩; ({ linked with own.join := some j } : State).own.join = some j ∧ linked.linkUp = true := by
  decide

/-- Clause 8 of `Obligations.OwnershipCommandsComplete`. -/
theorem witness_OwnershipCommandsComplete_8 :
    linked.role = 2 ∧ linked.chip.holdup = false := by
  decide

/-- Clause 9 of `Obligations.OwnershipCommandsComplete`. -/
theorem witness_OwnershipCommandsComplete_9 :
    linked.linkUp = true ∧ linked.role ≠ 5 ∧ (linked.setFld Reg.OWN_STATUS_ROLE 5).role = 5 := by
  decide

/-- Clause 10 of `Obligations.OwnershipCommandsComplete`. -/
theorem witness_OwnershipCommandsComplete_10 :
    linked.paired = true ∧ linked.linkUp = true := by
  decide

/-- Clause 1 of `Obligations.AuditMirrorAndForwardCommandsComplete`. -/
theorem witness_AuditMirrorAndForwardCommandsComplete_1 :
    let s := { linked with jr.own := [{ aRec with mirrored := true }] }.setBit Reg.OWN_STATUS_MIRROR_READY true; s.paired = true ∧ s.linkUp = true ∧ s.bit Reg.OWN_STATUS_MIRROR_READY = true ∧ window (s.jr.own.filter (fun (r : JRec) => r.mirrored)) 0 4096 = [{ aRec with mirrored := true }] := by
  decide

/-- Clause 2 of `Obligations.AuditMirrorAndForwardCommandsComplete`. -/
theorem witness_AuditMirrorAndForwardCommandsComplete_2_a :
    let s : State := linked; s.linkUp = true := by
  decide

/-- Clause 2 of `Obligations.AuditMirrorAndForwardCommandsComplete`. -/
theorem witness_AuditMirrorAndForwardCommandsComplete_2_b :
    let s : State := { linked with jr.own := [aRec] }; let first : Nat := 3; let n : Nat := 1; let digest : Word256 := windowDigest [aRec]; let l : List JRec := window s.jr.own first n; s.linkUp = true ∧ windowDigest l = digest := by
  exact ⟨by decide, rfl⟩

/-- Clause 2 of `Obligations.AuditMirrorAndForwardCommandsComplete`. -/
theorem witness_AuditMirrorAndForwardCommandsComplete_2_c :
    let s : State := { linked with jr.own := [aRec] }; let first : Nat := 3; let n : Nat := 1; let l : List JRec := window s.jr.own first n; let digest : Word256 := windowDigest l + 1; let r := aRec; s.linkUp = true ∧ windowDigest l ≠ digest ∧ l = [r] := by
  exact ⟨by decide, ne_add_one _, by decide⟩

/-- Clause 2 of `Obligations.AuditMirrorAndForwardCommandsComplete`. -/
theorem witness_AuditMirrorAndForwardCommandsComplete_2_e :
    let s : State := { linked with jr.own := [aRec, { aRec with seq := 4 }] }; let first : Nat := 3; let n : Nat := 2; let l : List JRec := window s.jr.own first n; let digest : Word256 := windowDigest l + 1; s.linkUp = true ∧ windowDigest l ≠ digest ∧ 2 ≤ l.length := by
  exact ⟨by decide, ne_add_one _, by decide⟩

/-- Clause 3 of `Obligations.AuditMirrorAndForwardCommandsComplete`. -/
theorem witness_AuditMirrorAndForwardCommandsComplete_3_a :
    let s : State := { linked with jr.mir := [aRec] }; let seq : Nat := 3; let r : JRec := aRec; s.linkUp = true ∧ s.jr.mir.find? (fun (x : JRec) => x.seq == seq) = some r := by
  decide

/-- Clause 3 of `Obligations.AuditMirrorAndForwardCommandsComplete`. -/
theorem witness_AuditMirrorAndForwardCommandsComplete_3_b :
    let s : State := linked; let seq : Nat := 3; s.linkUp = true ∧ s.jr.mir.find? (fun (x : JRec) => x.seq == seq) = none := by
  decide

/-- Clause 3 of `Obligations.AuditMirrorAndForwardCommandsComplete`. -/
theorem witness_AuditMirrorAndForwardCommandsComplete_3_e :
    let s : State := { linked with jr.own := [aRec] }; let seq : Nat := 3; let r : JRec := aRec; s.linkUp = true ∧ s.jr.own.find? (fun (x : JRec) => x.seq == seq) = some r := by
  decide

/-- Clause 3 of `Obligations.AuditMirrorAndForwardCommandsComplete`. -/
theorem witness_AuditMirrorAndForwardCommandsComplete_3_h :
    let s : State := linked; let k : Nat := 5; s.linkUp = true ∧ (s.jr.mir.flatMap (fun (x : JRec) => x.forms)).find? (fun (x : Form) => x.chunk == k) = none := by
  decide

/-- Clause 4 of `Obligations.AuditMirrorAndForwardCommandsComplete`. -/
theorem witness_AuditMirrorAndForwardCommandsComplete_4 :
    let s := (populated.setFld Reg.DIKOR_STATUS_LSTATE 7); s.linkUp = true ∧ s.serving = true ∧ ((s.fwdGroup (.io 1 1 0 4096 false [(0, 1)] noPiReq [])).map (fun g => !s.ownsGroup g)).getD false = false ∧ (kindOfOp 1).isSome = true ∧ s.vol? 1 = some aVolume := by
  decide

/-- Clause 5 of `Obligations.AuditMirrorAndForwardCommandsComplete`. -/
theorem witness_AuditMirrorAndForwardCommandsComplete_5_a :
    let s : State := { linked with nv.cmds := [(9, aWrite), (10, { aWrite with fwdFrom := some 4 })] }; let tag : Nat := 4; let e : Nat × HCmd := (10, { aWrite with fwdFrom := some 4 }); s.linkUp = true ∧ s.nv.cmds.find? (fun (x : Nat × HCmd) => x.2.fwdFrom == some tag) = some e := by
  decide

/-- Clause 5 of `Obligations.AuditMirrorAndForwardCommandsComplete`. -/
theorem witness_AuditMirrorAndForwardCommandsComplete_5_b :
    let s : State := linked; let tag : Nat := 0; s.linkUp = true ∧ s.nv.cmds.find? (fun (x : Nat × HCmd) => x.2.fwdFrom == some tag) = none := by
  decide

/-- Clause 5 of `Obligations.AuditMirrorAndForwardCommandsComplete`. -/
theorem witness_AuditMirrorAndForwardCommandsComplete_5_c :
    let s : State := { linked with nv.cmds := [(9, { aWrite with fwdTo := true })] }; let tag : Nat := 9; let c : HCmd := { aWrite with fwdTo := true }; s.linkUp = true ∧ s.cmd? tag = some c ∧ c.fwdTo = true ∧ c.mute = false := by
  decide

/-- Clause 6 of `Obligations.AuditMirrorAndForwardCommandsComplete`. -/
theorem witness_AuditMirrorAndForwardCommandsComplete_6_a :
    let s : State := { linked with nv.volumes := [(1, aVolume)], nv.groups := [(1, 1)] }; let c : FwdCmd := ⟨4, 6, 1, 1, 0, 0, .io 1 1 0 4096 false [(0, 1)] noPiReq []⟩; let g := 1; s.linkUp = true ∧ s.serving = true ∧ s.fwdGroup c.body = some g ∧ s.ownsGroup g = false := by
  decide

/-- Clause 6 of `Obligations.AuditMirrorAndForwardCommandsComplete`. -/
theorem witness_AuditMirrorAndForwardCommandsComplete_6_b :
    let s : State := { linked with nv.volumes := [(1, aVolume)], nv.groups := [(1, 0)] }; let c : FwdCmd := ⟨4, 6, 1, 1, 0, 0, .io 3 1 0 4096 false [(0, 1)] noPiReq []⟩; let op := 3; let vol := 1; let src := 0; let bytes := 4096; let fua := false; let ranges := [(0, 1)]; let pi := noPiReq; let data := []; s.linkUp = true ∧ s.serving = true ∧ ((s.fwdGroup c.body).map (fun g => !s.ownsGroup g)).getD false = false ∧ c.body = .io op vol src bytes fua ranges pi data ∧ kindOfOp op = none := by
  decide

/-- Clause 6 of `Obligations.AuditMirrorAndForwardCommandsComplete`. -/
theorem witness_AuditMirrorAndForwardCommandsComplete_6_c :
    let s : State := linked; let c : FwdCmd := ⟨4, 6, 1, 1, 0, 0, .io 1 1 0 4096 false [(0, 1)] noPiReq []⟩; let op := 1; let vol := 1; let src := 0; let bytes := 4096; let fua := false; let ranges := [(0, 1)]; let pi := noPiReq; let data := []; s.linkUp = true ∧ s.serving = true ∧ ((s.fwdGroup c.body).map (fun g => !s.ownsGroup g)).getD false = false ∧ c.body = .io op vol src bytes fua ranges pi data ∧ kindOfOp op ≠ none ∧ s.vol? vol = none := by
  decide

/-- Clause 6 of `Obligations.AuditMirrorAndForwardCommandsComplete`. -/
theorem witness_AuditMirrorAndForwardCommandsComplete_6_d :
    let s : State := linked; let c : FwdCmd := ⟨4, 6, 1, 1, 0, 0, .sanitize 2⟩; s.linkUp = true ∧ s.serving = true ∧ ((s.fwdGroup c.body).map (fun g => !s.ownsGroup g)).getD false = false ∧ (∀ op vol src bytes fua ranges pi data, c.body ≠ .io op vol src bytes fua ranges pi data) := by
  exact ⟨by decide, by decide, by decide, fun _ _ _ _ _ _ _ _ h => FwdBody.noConfusion h⟩

/-- Clause 7 of `Obligations.AuditMirrorAndForwardCommandsComplete`. -/
theorem witness_AuditMirrorAndForwardCommandsComplete_7 :
    let s : State := { linked with nv.fwdOther := [⟨4, 6, 1, 1, .sanitize 2⟩] }; let tag : Nat := 4; let f : FwdOther := ⟨4, 6, 1, 1, .sanitize 2⟩; s.linkUp = true ∧ s.cmd? tag = none ∧ s.nv.fwdOther.find? (fun (x : FwdOther) => x.tag == tag) = some f := by
  decide

/-- Clause 8 of `Obligations.AuditMirrorAndForwardCommandsComplete`. -/
theorem witness_AuditMirrorAndForwardCommandsComplete_8 :
    let c := { aWrite with fwdTo := true }; let s := { linked with nv.cmds := [(9, c)] }; s.linkUp = true ∧ s.cmd? 9 = some c := by
  decide

/-- Clause 1 of `Obligations.ReplicationCommandsComplete`. -/
theorem witness_ReplicationCommandsComplete_1 :
    replica.rplAt aHead false aConn 9 aTarget (({ replica with repl.conns := tPut replica.repl.conns aHead.conn.val { aConn with rxNext := aConn.rxNext + 1 } } : State).bump (Reg.REPL_CNT 1) 1) ∧ aTarget.hello = true := by
  decide

/-- Clause 2 of `Obligations.ReplicationCommandsComplete`. -/
theorem witness_ReplicationCommandsComplete_2 :
    source.rplAt aHead true aConn 9 { aRel with conn := some 5 } (({ source with repl.conns := tPut source.repl.conns aHead.conn.val { aConn with rxNext := aConn.rxNext + 1 } } : State).bump (Reg.REPL_CNT 1) 1) := by
  decide

/-- Clause 3 of `Obligations.ReplicationCommandsComplete`. -/
theorem witness_ReplicationCommandsComplete_3 :
    tGet? source.repl.conns aHead.conn.val = some aConn ∧ source.serving = true ∧ (source.rttSet 5 0).rplAt aHead true aConn 9 { aRel with conn := some 5 } (({ source with repl.conns := tPut source.repl.conns aHead.conn.val { aConn with rxNext := aConn.rxNext + 1 } } : State).bump (Reg.REPL_CNT 1) 1) := by
  decide

/-- Clause 4 of `Obligations.ReplicationCommandsComplete`. -/
theorem witness_ReplicationCommandsComplete_4_a :
    let s : State := source; let t : State := (({ source with repl.conns := tPut source.repl.conns aHead.conn.val { aConn with rxNext := aConn.rxNext + 1 } } : State).bump (Reg.REPL_CNT 1) 1); let h : RplHead := aHead; let x : RplConn := aConn; let hello : RplHello := ⟨8, 0, 2, 1, 1, 0⟩; s.rplTakes h x t ∧ t.helloPick h.conn.val hello = none := by
  decide

/-- Clause 4 of `Obligations.ReplicationCommandsComplete`. -/
theorem witness_ReplicationCommandsComplete_4_c :
    let s : State := source; let t : State := (({ source with repl.conns := tPut source.repl.conns aHead.conn.val { aConn with rxNext := aConn.rxNext + 1 } } : State).bump (Reg.REPL_CNT 1) 1); let h : RplHead := aHead; let x : RplConn := aConn; let hello : RplHello := ⟨7, 0, 2, 1, 1, t.saltCheck 1⟩; let k : Nat := 9; let r : Rel := { aRel with conn := some 5 }; let u : State := ((t.modRel k (fun y => { y with conn := some h.conn.val })).rplAck h.conn.val 0 h.mseq r.cycle 0 0); let v : State := (if r.source then u else u.rplSend h.conn.val 0 r.cycle (u.helloOf r)); let w := v.modRel k (fun y => { y with hello := true, st := if y.mode = 1 then (if y.next.isSome then 6 else 1) else if y.source then y.st else 5 }); s.rplTakes h x t ∧ t.helloPick h.conn.val hello = some (k, r) ∧ t.runsRel r = true ∧ t.rel? k = some r ∧ hello.salt = t.saltCheck (((t.vol? r.volume).map (fun (w : Volume) => w.tenant)).getD 0) := by
  exact ⟨by decide, by decide, by decide, by decide, congrArg (State.saltCheck _) (by decide : (1 : Nat) = _)⟩

/-- Clause 5 of `Obligations.ReplicationCommandsComplete`. -/
theorem witness_ReplicationCommandsComplete_5_a :
    let s : State := { replica with repl.rels := [(9, { aTarget with hello := false })] }; let t : State := (({ s with repl.conns := tPut s.repl.conns aHead.conn.val { aConn with rxNext := aConn.rxNext + 1 } } : State).bump (Reg.REPL_CNT 1) 1); let h : RplHead := aHead; let x : RplConn := aConn; let k : Nat := 9; let r : Rel := { aTarget with hello := false }; s.rplTakes h x t ∧ t.relOn h.conn.val h.rel.toNat false = some (k, r) ∧ t.runsRel r = true ∧ r.hello = false := by
  decide

/-- Clause 6 of `Obligations.ReplicationCommandsComplete`. -/
theorem witness_ReplicationCommandsComplete_6_a :
    let s : State := { replica with nv.groups := [(1, 1)] }; let t : State := (({ s with repl.conns := tPut s.repl.conns aHead.conn.val { aConn with rxNext := aConn.rxNext + 1 } } : State).bump (Reg.REPL_CNT 1) 1); let h : RplHead := aHead; let x : RplConn := aConn; let k : Nat := 9; let r : Rel := aTarget; s.rplTakes h x t ∧ t.relOn h.conn.val h.rel.toNat false = some (k, r) ∧ t.runsRel r = false := by
  decide

/-- Clause 6 of `Obligations.ReplicationCommandsComplete`. -/
theorem witness_ReplicationCommandsComplete_6_c :
    let s : State := { replica with repl.rels := [] }; let t : State := (({ s with repl.conns := tPut s.repl.conns aHead.conn.val { aConn with rxNext := aConn.rxNext + 1 } } : State).bump (Reg.REPL_CNT 1) 1); let h : RplHead := aHead; let x : RplConn := aConn; s.rplTakes h x t ∧ t.relOn h.conn.val h.rel.toNat false = none := by
  decide

/-- Clause 6 of `Obligations.ReplicationCommandsComplete`. -/
theorem witness_ReplicationCommandsComplete_6_d :
    let s : State := replica; let t : State := (({ s with repl.conns := tPut s.repl.conns aHead.conn.val { aConn with rxNext := aConn.rxNext + 1 } } : State).bump (Reg.REPL_CNT 1) 1); let h : RplHead := aHead; let x : RplConn := aConn; s.rplTakes h x t ∧ t.relOn h.conn.val h.rel.toNat true = none := by
  decide

/-- Clause 7 of `Obligations.ReplicationCommandsComplete`. -/
theorem witness_ReplicationCommandsComplete_7 :
    let s : State := source; let h : RplHead := { aHead with mseq := 9 }; let x : RplConn := aConn; tGet? s.repl.conns h.conn.val = some x ∧ s.serving = true ∧ (h.ok = false ∨ h.mseq ≠ x.rxNext) := by
  decide

/-- Clause 1 of `Obligations.ReplicationTimersAndForwardedMessagesComplete`. -/
theorem witness_ReplicationTimersAndForwardedMessagesComplete_1_b :
    let s : State := { source with repl.rels := [(9, { aRel with conn := some 5, hello := true })] }; let rel : Nat := 9; let r : Rel := { aRel with conn := some 5, hello := true }; s.rel? rel = some r ∧ s.serving = true ∧ r.source = true ∧ s.runsRel r = true ∧ r.mode = 1 ∧ r.st ≠ 2 ∧ r.st ≠ 6 ∧ r.st ≠ 7 ∧ r.snapping = false ∧ r.hello = true := by
  decide

/-- Clause 1 of `Obligations.ReplicationTimersAndForwardedMessagesComplete`. -/
theorem witness_ReplicationTimersAndForwardedMessagesComplete_1_c :
    let s : State := { source with repl.rels := [(9, { aRel with conn := some 5 })] }; let rel : Nat := 9; let r : Rel := { aRel with conn := some 5 }; s.rel? rel = some r ∧ s.serving = true ∧ r.source = true ∧ s.runsRel r = true ∧ r.mode = 1 ∧ r.st ≠ 2 ∧ r.st ≠ 6 ∧ r.st ≠ 7 ∧ r.snapping = false ∧ r.hello = false := by
  decide

/-- Clause 1 of `Obligations.ReplicationTimersAndForwardedMessagesComplete`. -/
theorem witness_ReplicationTimersAndForwardedMessagesComplete_1_d :
    let s : State := { source with repl.rels := [(9, { aRel with st := 4 })] }; let rel : Nat := 9; let r : Rel := { aRel with st := 4 }; s.rel? rel = some r ∧ s.serving = true ∧ r.source = true ∧ s.runsRel r = true ∧ (r.st = 4 ∨ r.st = 6) ∧ r.hello = false := by
  decide

/-- Clause 1 of `Obligations.ReplicationTimersAndForwardedMessagesComplete`. -/
theorem witness_ReplicationTimersAndForwardedMessagesComplete_1_f :
    let s : State := { source with repl.rels := [(9, { aRel with st := 4, hello := true })] }; let rel : Nat := 9; let r : Rel := { aRel with st := 4, hello := true }; s.rel? rel = some r ∧ s.serving = true ∧ r.source = true ∧ s.runsRel r = true ∧ (r.st = 4 ∨ r.st = 6) ∧ r.hello = true ∧ r.mode = 1 ∧ r.next = none := by
  decide

/-- Clause 1 of `Obligations.ReplicationTimersAndForwardedMessagesComplete`. -/
theorem witness_ReplicationTimersAndForwardedMessagesComplete_1_i :
    let s : State := { source with repl.rels := [(9, { aRel with mode := 2, st := 3, waits := [(4, 0)] })] }; let rel : Nat := 9; let r : Rel := { aRel with mode := 2, st := 3, waits := [(4, 0)] }; let seq := 4; s.rel? rel = some r ∧ s.serving = true ∧ r.source = true ∧ s.runsRel r = true ∧ r.st = 3 ∧ r.waits.any (fun w => w.1 == seq) = true := by
  decide

/-- Clause 1 of `Obligations.ReplicationTimersAndForwardedMessagesComplete`. -/
theorem witness_ReplicationTimersAndForwardedMessagesComplete_1_j :
    let s : State := source; let rel : Nat := 9; let r : Rel := { aRel with conn := some 5 }; let seq := 4; s.rel? rel = some r ∧ s.serving = true ∧ r.source = true ∧ s.runsRel r = true ∧ r.waits.any (fun w => w.1 == seq) = false := by
  decide

/-- Clause 2 of `Obligations.ReplicationTimersAndForwardedMessagesComplete`. -/
theorem witness_ReplicationTimersAndForwardedMessagesComplete_2_a :
    let s : State := { linked with nv.volumes := [(1, aVolume)], nv.groups := [(1, 0)], repl.rels := [(9, { aRel with conn := some (5 + 16384) })] }; let h : RplHead := aHead; let msg : RplMsg := .ack 0 0 4 0; let k := 9; let r := { aRel with conn := some (5 + 16384) }; s.linkUp = true ∧ (∀ x, msg ≠ .hello x) ∧ (s.relOn (h.conn.val + 16384) h.rel.toNat (forSource msg) = some (k, r)) ∧ s.runsRel r = true ∧ msg = .ack 0 0 4 0 := by
  exact ⟨by decide, (fun _ h => RplMsg.noConfusion h), by decide, by decide, rfl⟩

/-- Clause 2 of `Obligations.ReplicationTimersAndForwardedMessagesComplete`. -/
theorem witness_ReplicationTimersAndForwardedMessagesComplete_2_c :
    let s : State := linked; let h : RplHead := aHead; let msg : RplMsg := .base 4; s.linkUp = true ∧ (∀ x, msg ≠ .hello x) ∧ s.relOn (h.conn.val + 16384) h.rel.toNat (forSource msg) = none ∧ s.relOn (h.conn.val + 16384) h.rel.toNat false = none := by
  exact ⟨by decide, (fun _ h => RplMsg.noConfusion h), by decide, by decide⟩

/-- Clause 2 of `Obligations.ReplicationTimersAndForwardedMessagesComplete`. -/
theorem witness_ReplicationTimersAndForwardedMessagesComplete_2_e :
    let s : State := { linked with nv.volumes := [(1, aVolume)], nv.groups := [(1, 0)], repl.rels := [(9, aRel)] }; let h : RplHead := aHead; let x := (⟨7, 0, 2, 1, 1, 0⟩ : RplHello); let msg : RplMsg := .hello x; let f := s.repl.rels.find? (fun (e : Nat × Rel) => e.2.rid == h.rel.toNat && e.2.source == (x.role == 2) && e.2.peer == x.array); let k := 9; let r := aRel; s.linkUp = true ∧ msg = .hello x ∧ f = some (k, r) ∧ s.runsRel r = true := by
  decide

/-- Clause 2 of `Obligations.ReplicationTimersAndForwardedMessagesComplete`. -/
theorem witness_ReplicationTimersAndForwardedMessagesComplete_2_f :
    let s : State := { linked with repl.conns := [(5, aConn)] }; let h : RplHead := aHead; s.linkUp = true ∧ (tGet? s.repl.conns h.conn.val).isSome = true := by
  decide

/-- Clause 2 of `Obligations.ReplicationTimersAndForwardedMessagesComplete`. -/
theorem witness_ReplicationTimersAndForwardedMessagesComplete_2_g :
    let s : State := linked; let h : RplHead := aHead; s.linkUp = true ∧ (tGet? s.repl.conns h.conn.val).isSome = false := by
  decide

/-- Clause 1 of `Obligations.KeyStoreCommandsComplete`. -/
theorem witness_KeyStoreCommandsComplete_1 :
    live.accepts Reg.KEYS_CMD ∧ live.sec.op = none := by
  decide

/-- Clause 2 of `Obligations.KeyStoreCommandsComplete`. -/
theorem witness_KeyStoreCommandsComplete_2 :
    let s := { (live.setFld Reg.LIFE_STATUS_STATE 2) with sec.peers := [(0, [1])], sec.slots := [(1, { emptySlot with material := [7] })] }; let t := s.keyCmd 2 0x10 1; s.accepts Reg.KEYS_CMD ∧ s.sec.op = none ∧ t.lifeState = 2 ∧ t.sec.latch = false ∧ slotType 1 = .tenant ∧ (t.peerKey 0).isSome ∧ slotFull (t.keySlot 1) = true := by
  decide

/-- Clause 3 of `Obligations.KeyStoreCommandsComplete`. -/
theorem witness_KeyStoreCommandsComplete_3 :
    live.accepts Reg.KEYS_CMD ∧ live.sec.op = none := by
  decide

/-- Clause 4 of `Obligations.KeyStoreCommandsComplete`. -/
theorem witness_KeyStoreCommandsComplete_4 :
    live.accepts Reg.KEYS_CMD ∧ live.sec.op = none := by
  decide

/-- Clause 5 of `Obligations.KeyStoreCommandsComplete`. -/
theorem witness_KeyStoreCommandsComplete_5 :
    live.accepts Reg.KEYS_CMD ∧ live.sec.op = none := by
  decide

/-- Clause 6 of `Obligations.KeyStoreCommandsComplete`. -/
theorem witness_KeyStoreCommandsComplete_6 :
    let e : LedgerEntry := ⟨1, 5, 1, [], 0, []⟩; let s : State := { live with sec.op := some { slot := 5, append := some e, drop := false, tag := none } }; s.sec.op.map (fun o => (o.append, o.drop)) = some (some e, false) := by
  decide

/-- Clause 7 of `Obligations.KeyStoreCommandsComplete`. -/
theorem witness_KeyStoreCommandsComplete_7 :
    let s : State := { live with sec.op := some { slot := 5, append := none, drop := true, tag := none } }; s.sec.op.map (fun o => (o.append.isNone, o.drop)) = some (true, true) := by
  decide

/-- Clause 8 of `Obligations.KeyStoreCommandsComplete`. -/
theorem witness_KeyStoreCommandsComplete_8 :
    slotType (BitVec.ofNat 15 25000).toNat = .derived ∧ live.sec.trngOn = true := by
  decide

/-- Clause 9 of `Obligations.KeyStoreCommandsComplete`. -/
theorem witness_KeyStoreCommandsComplete_9 :
    slotType (BitVec.ofNat 15 25000).toNat = .derived ∧ ({ live with sec.slots := [(25000, { emptySlot with material := [7] })] }.keySlot 25000).material ≠ [] := by
  decide

/-- Clause 10 of `Obligations.KeyStoreCommandsComplete`. -/
theorem witness_KeyStoreCommandsComplete_10 :
    slotType (BitVec.ofNat 15 25000).toNat = .derived ∧ ({ live with sec.slots := [(25000, { emptySlot with material := [7] })] }.keySlot 25000).material ≠ [] := by
  decide

/-- Clause 11 of `Obligations.KeyStoreCommandsComplete`. -/
theorem witness_KeyStoreCommandsComplete_11 :
    slotType (BitVec.ofNat 15 25000).toNat = .derived ∧ ({ live with sec.slots := [(25000, { emptySlot with material := [7] })] }.keySlot 25000).material ≠ [] := by
  decide

/-- Clause 12 of `Obligations.KeyStoreCommandsComplete`. -/
theorem witness_KeyStoreCommandsComplete_12 :
    slotType (BitVec.ofNat 15 25000).toNat = .derived ∧ ({ live with sec.slots := [(25000, { emptySlot with material := [7] })] }.keySlot 25000).material ≠ [] ∧ (List.replicate 48 (0 : Byte)).length = 48 := by
  decide

/-- Clause 13 of `Obligations.KeyStoreCommandsComplete`. -/
theorem witness_KeyStoreCommandsComplete_13 :
    slotType (BitVec.ofNat 15 25000).toNat = .derived := by
  decide

/-- Clause 14 of `Obligations.KeyStoreCommandsComplete`. -/
theorem witness_KeyStoreCommandsComplete_14 :
    slotType (BitVec.ofNat 15 25000).toNat = .derived ∧ slotFull ({ live with sec.slots := [(25000, { emptySlot with material := [7] })] }.keySlot 25000) = true := by
  decide

/-- Clause 17 of `Obligations.KeyStoreCommandsComplete`. -/
theorem witness_KeyStoreCommandsComplete_17 :
    slotType 1 = .tenant ∧ xtsMin ≤ (List.replicate 16 (0 : Byte)).length ∧ (List.replicate 16 (0 : Byte)).length ≤ xtsMax ∧ (let m := ({ live with sec.slots := [(1, { emptySlot with material := [7] })] }.keySlot 1).material; m ≠ [] ∧ m.take 32 ≠ (m.drop 32).take 32) := by
  decide

/-- Clause 18 of `Obligations.KeyStoreCommandsComplete`. -/
theorem witness_KeyStoreCommandsComplete_18 :
    slotType 5000 = .conn ∧ gcmWithin (List.replicate 12 0) [] [] [] true = true ∧ setSpent emptyTlsSet = false ∧ ([] : Bytes).length ≤ tlsMax ∧ ({ live with sec.slots := [(5000, { emptySlot with setA := some emptyTlsSet })] }.keySlot 5000).setA = some emptyTlsSet := by
  decide

/-- Clause 19 of `Obligations.KeyStoreCommandsComplete`. -/
theorem witness_KeyStoreCommandsComplete_19 :
    ({ live with evrec.erasing := some 3 } : State).evrec.erasing = some 3 := by
  decide

/-- Clause 20 of `Obligations.KeyStoreCommandsComplete`. -/
theorem witness_KeyStoreCommandsComplete_20 :
    ({ live with sec.ledger.erasing := true } : State).sec.ledger.erasing = true := by
  decide

/-- Clause 1 of `Obligations.KeyStoreRefusalsAndOtherFormsComplete`. -/
theorem witness_KeyStoreRefusalsAndOtherFormsComplete_1 :
    let s : State := { live with sec.op := some ⟨1, none, false, none⟩ }; let o : KeyOp := ⟨1, none, false, none⟩; s.accepts Reg.KEYS_CMD ∧ s.sec.op = some o := by
  decide

/-- Clause 2 of `Obligations.KeyStoreRefusalsAndOtherFormsComplete`. -/
theorem witness_KeyStoreRefusalsAndOtherFormsComplete_2_a :
    let s : State := live; let slot : BitVec 15 := 1; let peer : BitVec 4 := 0; let t : State := s.keyCmd 2 (0x10 + peer.toNat) slot.toNat; s.accepts Reg.KEYS_CMD ∧ s.sec.op = none ∧ (t.lifeState ≠ 2 ∨ t.sec.latch = true) := by
  decide

/-- Clause 2 of `Obligations.KeyStoreRefusalsAndOtherFormsComplete`. -/
theorem witness_KeyStoreRefusalsAndOtherFormsComplete_2_b :
    let s : State := live.setFld Reg.LIFE_STATUS_STATE 2; let slot : BitVec 15 := 5000; let peer : BitVec 4 := 0; let t : State := s.keyCmd 2 (0x10 + peer.toNat) slot.toNat; s.accepts Reg.KEYS_CMD ∧ s.sec.op = none ∧ t.lifeState = 2 ∧ t.sec.latch = false ∧ slotType slot.toNat ≠ .tenant ∧ slotType slot.toNat ≠ .psk := by
  decide

/-- Clause 2 of `Obligations.KeyStoreRefusalsAndOtherFormsComplete`. -/
theorem witness_KeyStoreRefusalsAndOtherFormsComplete_2_c :
    let s : State := live.setFld Reg.LIFE_STATUS_STATE 2; let slot : BitVec 15 := 1; let peer : BitVec 4 := 0; let t : State := s.keyCmd 2 (0x10 + peer.toNat) slot.toNat; s.accepts Reg.KEYS_CMD ∧ s.sec.op = none ∧ t.lifeState = 2 ∧ t.sec.latch = false ∧ (slotType slot.toNat = .tenant ∨ slotType slot.toNat = .psk) ∧ (t.peerKey peer.toNat = none ∨ slotFull (t.keySlot slot.toNat) = false) := by
  decide

/-- Clause 3 of `Obligations.KeyStoreRefusalsAndOtherFormsComplete`. -/
theorem witness_KeyStoreRefusalsAndOtherFormsComplete_3_a :
    let s : State := { live with sec.op := some ⟨1, some ⟨1, 1, 1, [], 0, []⟩, true, none⟩ }; let o : KeyOp := ⟨1, some ⟨1, 1, 1, [], 0, []⟩, true, none⟩; let e : LedgerEntry := ⟨1, 1, 1, [], 0, []⟩; s.sec.op = some o ∧ o.append = some e ∧ o.drop = true := by
  decide

/-- Clause 4 of `Obligations.KeyStoreRefusalsAndOtherFormsComplete`. -/
theorem witness_KeyStoreRefusalsAndOtherFormsComplete_4 :
    let s : State := live; let slot : BitVec 15 := 1; (slotType slot.toNat ≠ .derived ∨ s.sec.trngOn = false) := by
  decide

/-- Clause 5 of `Obligations.KeyStoreRefusalsAndOtherFormsComplete`. -/
theorem witness_KeyStoreRefusalsAndOtherFormsComplete_5 :
    let k : BitVec 15 := 1; serves .schedule k.toNat = false := by
  decide

/-- Clause 6 of `Obligations.KeyStoreRefusalsAndOtherFormsComplete`. -/
theorem witness_KeyStoreRefusalsAndOtherFormsComplete_6 :
    let s : State := live; let k : BitVec 15 := 20480; serves .schedule k.toNat = true ∧ (s.keySlot k.toNat).material = [] := by
  decide

/-- Clause 7 of `Obligations.KeyStoreRefusalsAndOtherFormsComplete`. -/
theorem witness_KeyStoreRefusalsAndOtherFormsComplete_7 :
    let s : State := { live with sec.slots := [(20480, { emptySlot with material := [7] }), (24575, { emptySlot with material := [9] })] }; let salt : BitVec 15 := 20480; let input : BitVec 15 := 24575; let dst : BitVec 15 := 24576; serves .schedule salt.toNat = true ∧ serves .schedule input.toNat = true ∧ slotType dst.toNat = .derived ∧ (s.keySlot salt.toNat).material ≠ [] ∧ (s.keySlot input.toNat).material ≠ [] := by
  decide

/-- Clause 8 of `Obligations.KeyStoreRefusalsAndOtherFormsComplete`. -/
theorem witness_KeyStoreRefusalsAndOtherFormsComplete_8 :
    let s : State := { live with sec.slots := [(20480, { emptySlot with material := [7] })] }; let secret : BitVec 15 := 20480; let conn : BitVec 15 := 4096; serves .schedule secret.toNat = true ∧ (s.keySlot secret.toNat).material ≠ [] ∧ slotType conn.toNat = .conn := by
  exact ⟨by decide, by decide, by decide⟩

/-- Clause 9 of `Obligations.KeyStoreRefusalsAndOtherFormsComplete`. -/
theorem witness_KeyStoreRefusalsAndOtherFormsComplete_9 :
    let slot : BitVec 15 := 28672; slotType slot.toNat ≠ .derived := by
  decide

/-- Clause 10 of `Obligations.KeyStoreRefusalsAndOtherFormsComplete`. -/
theorem witness_KeyStoreRefusalsAndOtherFormsComplete_10_a :
    let slot : BitVec 15 := 4096; serves .dpcCipher slot.toNat = false := by
  decide

/-- Clause 10 of `Obligations.KeyStoreRefusalsAndOtherFormsComplete`. -/
theorem witness_KeyStoreRefusalsAndOtherFormsComplete_10_b :
    let s : State := live; let slot : BitVec 15 := 4095; serves .dpcCipher slot.toNat = true ∧ (s.keySlot slot.toNat).material = [] := by
  decide

/-- Clause 10 of `Obligations.KeyStoreRefusalsAndOtherFormsComplete`. -/
theorem witness_KeyStoreRefusalsAndOtherFormsComplete_10_c :
    let s : State := { live with sec.slots := [(1, { emptySlot with material := [7] })] }; let slot : BitVec 15 := 1; let data : Bytes := List.replicate 15 0; serves .dpcCipher slot.toNat = true ∧ (s.keySlot slot.toNat).material ≠ [] ∧ (data.length < xtsMin ∨ xtsMax < data.length ∨ (s.keySlot slot.toNat).material.take 32 = ((s.keySlot slot.toNat).material.drop 32).take 32) := by
  decide

/-- Clause 11 of `Obligations.KeyStoreRefusalsAndOtherFormsComplete`. -/
theorem witness_KeyStoreRefusalsAndOtherFormsComplete_11_a :
    let slot : BitVec 15 := 4095; serves .transport slot.toNat = false := by
  decide

/-- Clause 11 of `Obligations.KeyStoreRefusalsAndOtherFormsComplete`. -/
theorem witness_KeyStoreRefusalsAndOtherFormsComplete_11_b :
    let s : State := live; let setB : Bool := false; let slot : BitVec 15 := 4096; serves .transport slot.toNat = true ∧ (if setB then (s.keySlot slot.toNat).setB else (s.keySlot slot.toNat).setA) = none := by
  decide

/-- Clause 11 of `Obligations.KeyStoreRefusalsAndOtherFormsComplete`. -/
theorem witness_KeyStoreRefusalsAndOtherFormsComplete_11_c :
    let s : State := { live with sec.slots := [(4096, { emptySlot with setA := some emptyTlsSet })] }; let encrypt : Bool := false; let setB : Bool := false; let slot : BitVec 15 := 4096; let iv : Bytes := [1]; let aad : Bytes := []; let data : Bytes := []; let mac : Bytes := []; let c := emptyTlsSet; serves .transport slot.toNat = true ∧ (if setB then (s.keySlot slot.toNat).setB else (s.keySlot slot.toNat).setA) = some c ∧ (gcmWithin iv aad data mac encrypt = false ∨ (c.ipsec = false ∧ tlsMax < data.length)) := by
  decide

/-- Clause 11 of `Obligations.KeyStoreRefusalsAndOtherFormsComplete`. -/
theorem witness_KeyStoreRefusalsAndOtherFormsComplete_11_d :
    let setB : Bool := false; let s : State := { live with sec.slots := [(4096, { emptySlot with setB := some emptyTlsSet })] }; let slot : BitVec 15 := 4096; let iv : Bytes := List.replicate 12 1; let aad : Bytes := []; let data : Bytes := []; let mac : Bytes := []; let c := emptyTlsSet; serves .transport slot.toNat = true ∧ (s.keySlot slot.toNat).setB = some c ∧ gcmWithin iv aad data mac true = true ∧ (c.ipsec = true ∨ data.length ≤ tlsMax) ∧ setSpent c = false := by
  decide

/-- Clause 11 of `Obligations.KeyStoreRefusalsAndOtherFormsComplete`. -/
theorem witness_KeyStoreRefusalsAndOtherFormsComplete_11_e :
    let s : State := { live with sec.slots := [(4096, { emptySlot with setA := some { emptyTlsSet with sent := 2 ^ 24 } })] }; let setB : Bool := false; let slot : BitVec 15 := 4096; let iv : Bytes := List.replicate 12 1; let aad : Bytes := []; let data : Bytes := []; let mac : Bytes := []; let c := { emptyTlsSet with sent := 2 ^ 24 }; serves .transport slot.toNat = true ∧ (if setB then (s.keySlot slot.toNat).setB else (s.keySlot slot.toNat).setA) = some c ∧ gcmWithin iv aad data mac true = true ∧ (c.ipsec = true ∨ data.length ≤ tlsMax) ∧ setSpent c = true := by
  decide

/-- Clause 12 of `Obligations.KeyStoreRefusalsAndOtherFormsComplete`. -/
theorem witness_KeyStoreRefusalsAndOtherFormsComplete_12_a :
    let s : State := { live with evrec.erasing := some 1 }; let i : Nat := 1; s.evrec.erasing = some i := by
  decide

/-- Clause 12 of `Obligations.KeyStoreRefusalsAndOtherFormsComplete`. -/
theorem witness_KeyStoreRefusalsAndOtherFormsComplete_12_b :
    let s : State := { live with sec.ledger.erasing := true }; s.sec.ledger.erasing = true := by
  decide

/-- Clause 1 of `Obligations.InterruptAndServiceCoreCommandsComplete`. -/
theorem witness_InterruptAndServiceCoreCommandsComplete_1 :
    (sourcePage 0).isSome = true ∧ live.chip.cond ≠ .reset := by
  decide

/-- Clause 4 of `Obligations.InterruptAndServiceCoreCommandsComplete`. -/
theorem witness_InterruptAndServiceCoreCommandsComplete_4 :
    let s := { live with intc.claimed := [(3, [(9, 5)])] }; (s.claimStack 3).any (fun e => e.1 == 9) = true ∧ (s.claimStack 3).any (fun e => e.1 == 8) = false := by
  decide

/-- Clause 5 of `Obligations.InterruptAndServiceCoreCommandsComplete`. -/
theorem witness_InterruptAndServiceCoreCommandsComplete_5 :
    ({ live with intc.holdEnd := [(63, 5)] } : State).heldOff 63 = true := by
  decide

/-- Clause 6 of `Obligations.InterruptAndServiceCoreCommandsComplete`. -/
theorem witness_InterruptAndServiceCoreCommandsComplete_6 :
    let s : State := { live with svc.owner := [(3, 2)], svc.work := [(3, [.fitting])] }; let core : Fin 16 := 2; let queue : Fin 64 := 3; let k : WorkKind := .fitting; let rest : List WorkKind := []; s.coreActive core.val = true ∧ tGet s.svc.owner queue.val 16 = core.val ∧ tGet s.svc.work queue.val [] = k :: rest := by
  decide

/-- Clause 7 of `Obligations.InterruptAndServiceCoreCommandsComplete`. -/
theorem witness_InterruptAndServiceCoreCommandsComplete_7 :
    let s : State := live; let core : Fin 16 := 15; let queue : Fin 64 := 0; (s.coreActive core.val = false ∨ tGet s.svc.owner queue.val 16 ≠ core.val ∨ tGet s.svc.work queue.val [] = []) := by
  decide

/-- Clause 8 of `Obligations.InterruptAndServiceCoreCommandsComplete`. -/
theorem witness_InterruptAndServiceCoreCommandsComplete_8 :
    let s := { ((live.setFld (Reg.DRAMC_STATUS_TRAIN 0) 2).setFld (Reg.DRAMC_STATUS_SIZE_GIB 0) 1).setFld Reg.MGMT_BOOT_STATUS_MODE 1 with regs := ((live.setFld (Reg.DRAMC_STATUS_TRAIN 0) 2).setFld (Reg.DRAMC_STATUS_SIZE_GIB 0) 1).setFld Reg.MGMT_BOOT_STATUS_MODE 1 |>.regs.filter (fun e => !(e.1 % 65536 == 24)) }; s.barReachable = true ∧ s.apertureOpen = true ∧ 8 < s.dramBytes := by
  decide

/-- Clause 9 of `Obligations.InterruptAndServiceCoreCommandsComplete`. -/
theorem witness_InterruptAndServiceCoreCommandsComplete_9 :
    linked.paired = true := by
  decide

/-- Clause 2 of `Obligations.SessionAndTamperCommandsComplete`. -/
theorem witness_SessionAndTamperCommandsComplete_2 :
    keyed.sessionKey .admin ≠ [] ∧ keyed.sessionKey .monitor ≠ [] := by
  decide

/-- Clause 3 of `Obligations.SessionAndTamperCommandsComplete`. -/
theorem witness_SessionAndTamperCommandsComplete_3 :
    let s := { keyed with sec.ctxs := [(2, .inner .admin)] }; s.sessionKey .admin ≠ [] ∧ tGet? s.sec.ctxs (2 : Fin 8) = some (.inner .admin) := by
  decide

/-- Clause 4 of `Obligations.SessionAndTamperCommandsComplete`. -/
theorem witness_SessionAndTamperCommandsComplete_4 :
    tGet? ({ live with sec.saved := [(1, (.plain .sha256, 4, false))] } : State).sec.saved (1 : Fin 8) = some (.plain .sha256, (4 : BitVec 32).toNat, false) := by
  decide

/-- Clause 5 of `Obligations.SessionAndTamperCommandsComplete`. -/
theorem witness_SessionAndTamperCommandsComplete_5 :
    tGet? ({ live with sec.ctxs := [(1, .plain .sha256)] } : State).sec.ctxs (1 : Fin 8) = some (.plain .sha256) := by
  decide

/-- Clause 6 of `Obligations.SessionAndTamperCommandsComplete`. -/
theorem witness_SessionAndTamperCommandsComplete_6 :
    tGet? ({ live with sec.ctxs := [(1, .plain .sha256)] } : State).sec.ctxs (1 : Fin 8) = some (.plain .sha256) := by
  decide

/-- Clause 7 of `Obligations.SessionAndTamperCommandsComplete`. -/
theorem witness_SessionAndTamperCommandsComplete_7 :
    live.accepts Reg.MEAS_EXT_CMD ∧ 16 ≤ (16 : BitVec 5).toNat ∧ (23 : BitVec 5).toNat ≤ 23 := by
  decide

/-- Clause 8 of `Obligations.SessionAndTamperCommandsComplete`. -/
theorem witness_SessionAndTamperCommandsComplete_8 :
    let s := { live with mgmt.running := true }; s.sec.lockedMonitor = false ∧ s.sec.trngOn = true ∧ s.mgmt.running = true := by
  decide

/-- Clause 9 of `Obligations.SessionAndTamperCommandsComplete`. -/
theorem witness_SessionAndTamperCommandsComplete_9 :
    let s := { live with mgmt.running := true }; s.accepts Reg.SESS_CHAL_REQ ∧ s.sec.lockedAdmin = false ∧ s.sec.trngOn = true ∧ s.mgmt.running = true := by
  decide

/-- Clause 10 of `Obligations.SessionAndTamperCommandsComplete`. -/
theorem witness_SessionAndTamperCommandsComplete_10 :
    let s := { keyed with sec.chalMonitor := some 5 }; s.challenge .monitor = some 5 ∧ s.sessionKey .monitor ≠ [] := by
  decide

/-- Clause 12 of `Obligations.SessionAndTamperCommandsComplete`. -/
theorem witness_SessionAndTamperCommandsComplete_12 :
    live.fld Reg.SESS_STATUS_ADMIN_ID = (1 : BitVec 32).toNat := by
  decide

/-- Clause 16 of `Obligations.SessionAndTamperCommandsComplete`. -/
theorem witness_SessionAndTamperCommandsComplete_16 :
    live.tamperEnabled 4 = true := by
  decide

/-- Clause 18 of `Obligations.SessionAndTamperCommandsComplete`. -/
theorem witness_SessionAndTamperCommandsComplete_18 :
    live.accepts Reg.LIFE_TAMPER_CLEAR := by
  decide

/-- Clause 2 of `Obligations.SpdmRequestsAreAnswered`. -/
theorem witness_SpdmRequestsAreAnswered_2 :
    live.spdmAllowed .control = true ∧ ({ live with sec.monitors := [7] } : State).spdmAllowed .mctp = true := by
  decide

/-- Clause 3 of `Obligations.SpdmRequestsAreAnswered`. -/
theorem witness_SpdmRequestsAreAnswered_3 :
    live.spdmAllowed .control = true ∧ live.identityKey.isSome ∧ live.sec.trngOn = true := by
  decide

/-- Clause 4 of `Obligations.SpdmRequestsAreAnswered`. -/
theorem witness_SpdmRequestsAreAnswered_4 :
    live.spdmAllowed .control = true ∧ 1 ≤ (1 : BitVec 8).toNat ∧ (24 : BitVec 8).toNat ≤ 24 := by
  decide

/-- Clause 1 of `Obligations.PowerAndThermalCommandsComplete`. -/
theorem witness_PowerAndThermalCommandsComplete_1 :
    (169 : BitVec 13) ≠ 0 ∧ (blockAt (169 : BitVec 13).toNat).isSome = true ∧ live.accepts (Reg.BLK_PWR_REQ (169 : BitVec 13).toNat) := by
  decide

/-- Clause 4 of `Obligations.PowerAndThermalCommandsComplete`. -/
theorem witness_PowerAndThermalCommandsComplete_4 :
    let s := { live with pw.railSet := [(0, 0)] }; s.railNow (0 : Fin 8) < s.railTarget (0 : Fin 8) ∧ ({ live with pw.railSet := [(0, 5000)] } : State).railTarget (0 : Fin 8) ≤ 5000 := by
  decide

/-- Clause 5 of `Obligations.PowerAndThermalCommandsComplete`. -/
theorem witness_PowerAndThermalCommandsComplete_5 :
    let s := live.setDom (7 : Fin 183) PWR_UP; s.domState (7 : Fin 183) = PWR_UP ∧ ((s.setDom (7 : Fin 183) PWR_ON).domEval (7 : Fin 183)).pw.upQueue = [] ∧ ({ (s.setDom (7 : Fin 183) PWR_ON).domEval (7 : Fin 183) with pw.upQueue := [8] } : State).pw.upQueue = 8 :: [] := by
  decide

/-- Clause 6 of `Obligations.PowerAndThermalCommandsComplete`. -/
theorem witness_PowerAndThermalCommandsComplete_6 :
    (live.setDom (7 : Fin 183) PWR_DOWN).domState (7 : Fin 183) = PWR_DOWN := by
  decide

/-- Clause 7 of `Obligations.PowerAndThermalCommandsComplete`. -/
theorem witness_PowerAndThermalCommandsComplete_7 :
    let s := { live.setFld (Reg.PWR_RAIL_VOUT_MV 6) 2000 with pw.rising := [(20, 1)] }; tGet? s.pw.rising (20 : Fin 34) = some 1 ∧ stepMv 1 + 30 + s.act Reg.PWR_CFG_AVS_GUARD_MV ≤ s.fld (Reg.PWR_RAIL_VOUT_MV 6) := by
  decide

/-- Clause 9 of `Obligations.PowerAndThermalCommandsComplete`. -/
theorem witness_PowerAndThermalCommandsComplete_9 :
    let s := { live with pw.hot := [0] }; s.bit Reg.THERM_STATUS_EMERGENCY = false ∧ [0].any (fun n => s.pw.hot.contains n) = true ∧ (live.setFld (Reg.THERM_SENSOR_TEMP 0) 0x7F00).temp 0 = 0x7F00 := by
  decide

/-- Clause 9 of `Obligations.PowerAndThermalCommandsComplete`. -/
theorem witness_PowerAndThermalCommandsComplete_9_no_emergency :
    [].any (fun n => live.pw.hot.contains n) = false ∧ (live.setBit Reg.THERM_STATUS_EMERGENCY true).bit Reg.THERM_STATUS_EMERGENCY = true := by
  decide

/-- Clause 10 of `Obligations.PowerAndThermalCommandsComplete`. -/
theorem witness_PowerAndThermalCommandsComplete_10 :
    let s := live.setBit Reg.THERM_STATUS_EMERGENCY true; s.bit Reg.THERM_STATUS_EMERGENCY = true ∧ s.coolEnough = true := by
  decide

/-- Clause 1 of `Obligations.LoopAndFanCommandsComplete`. -/
theorem witness_LoopAndFanCommandsComplete_1 :
    (live.setBit (Reg.TEMPLE_CTRL_ENABLE (7 : Fin 8)) true).bit (Reg.TEMPLE_CTRL_ENABLE (7 : Fin 8)) = true := by
  decide

/-- Clause 2 of `Obligations.LoopAndFanCommandsComplete`. -/
theorem witness_LoopAndFanCommandsComplete_2 :
    let s := live.setBit (Reg.TEMPLE_CTRL_ENABLE (7 : Fin 8)) false; s.bit (Reg.TEMPLE_CTRL_ENABLE (7 : Fin 8)) = false ∧ (7 : Fin 8).val ≠ 0 := by
  decide

/-- Clause 3 of `Obligations.LoopAndFanCommandsComplete`. -/
theorem witness_LoopAndFanCommandsComplete_3 :
    live.accepts (Reg.TEMPLE_CTRL (0 : Fin 8)) ∧ live.accepts (Reg.TEMPLE_CTRL (7 : Fin 8)) ∧ (live.setBit (Reg.TEMPLE_CTRL_ENABLE (7 : Fin 8)) false).accepts (Reg.TEMPLE_CTRL (7 : Fin 8)) ∧ (live.setBit (Reg.TEMPLE_CTRL_ENABLE (7 : Fin 8)) true).accepts (Reg.TEMPLE_CTRL (7 : Fin 8)) := by
  decide

/-- Clause 4 of `Obligations.LoopAndFanCommandsComplete`. -/
theorem witness_LoopAndFanCommandsComplete_4 :
    live.accepts (Reg.TEMPLE_CTRL (0 : Fin 8)) ∧ live.accepts (Reg.TEMPLE_CTRL (7 : Fin 8)) := by
  decide

/-- Clause 5 of `Obligations.LoopAndFanCommandsComplete`. -/
theorem witness_LoopAndFanCommandsComplete_5 :
    live.accepts (Reg.TEMPLE_CTRL (0 : Fin 8)) ∧ live.accepts (Reg.TEMPLE_CTRL (7 : Fin 8)) := by
  decide

/-- Clause 7 of `Obligations.LoopAndFanCommandsComplete`. -/
theorem witness_LoopAndFanCommandsComplete_7 :
    let s := live.setFld (Reg.THERM_FAN_RPM (3 : Fin 4)) 60000; s.act Reg.THERM_CFG_FAN_MIN_RPM ≤ s.fld (Reg.THERM_FAN_RPM (3 : Fin 4)) := by
  decide

/-- Clause 1 of `Obligations.EventRecorderCommandsComplete`. -/
theorem witness_EventRecorderCommandsComplete_1 :
    (refill (State.reset.bucket 0x101 3) State.reset.now).rate ≠ 0 ∧ 10 ^ 9 ≤ (refill (State.reset.bucket 0x101 3) State.reset.now).level := by
  decide

/-- Clause 2 of `Obligations.EventRecorderCommandsComplete`. -/
theorem witness_EventRecorderCommandsComplete_2 :
    let s := State.reset.setBucket 0x101 ⟨10, 32, 5, 0, 0, 0⟩; (refill (s.bucket 0x101 3) s.now).rate ≠ 0 ∧ (refill (s.bucket 0x101 3) s.now).level < 10 ^ 9 := by
  decide

/-- Clause 3 of `Obligations.EventRecorderCommandsComplete`. -/
theorem witness_EventRecorderCommandsComplete_3 :
    let s := State.reset.setBucket 0x101 ⟨10, 32, 5, 0, 3, 0⟩; (refill (s.bucket 0x101 3) s.now).supp ≠ 0 := by
  decide

/-- Clause 4 of `Obligations.EventRecorderCommandsComplete`. -/
theorem witness_EventRecorderCommandsComplete_4 :
    State.reset.evrec.flushing = none := by
  decide

/-- Clause 5 of `Obligations.EventRecorderCommandsComplete`. -/
theorem witness_EventRecorderCommandsComplete_5 :
    live.accepts Reg.EVREC_FLUSH ∧ (live.setBit Reg.EVREC_FLUSH_GO true).evrec.flushing = none := by
  decide

/-- Clause 6 of `Obligations.EventRecorderCommandsComplete`. -/
theorem witness_EventRecorderCommandsComplete_6 :
    ({ State.reset with evrec.flushing := some 3 } : State).evrec.flushing = some 3 := by
  decide

/-- Clause 7 of `Obligations.EventRecorderCommandsComplete`. -/
theorem witness_EventRecorderCommandsComplete_7 :
    live.accepts Reg.EVREC_RD_CMD := by
  decide

/-- Clause 8 of `Obligations.EventRecorderCommandsComplete`. -/
theorem witness_EventRecorderCommandsComplete_8 :
    let s := { live with evrec.buf := [⟨5, 0x101, 3, false, 0, 1, 0, 0, 0⟩] }; s.accepts Reg.EVREC_RD_CMD ∧ s.evrec.buf[(0 : BitVec 32).toNat]? = some ⟨5, 0x101, 3, false, 0, 1, 0, 0, 0⟩ := by
  decide

/-- Clause 9 of `Obligations.EventRecorderCommandsComplete`. -/
theorem witness_EventRecorderCommandsComplete_9 :
    live.accepts Reg.EVREC_RATE_CMD := by
  decide

/-- Clause 10 of `Obligations.EventRecorderCommandsComplete`. -/
theorem witness_EventRecorderCommandsComplete_10 :
    live.accepts Reg.EVREC_RATE_CMD := by
  decide

/-- Clause 1 of `Obligations.ManagementCommandsComplete`. -/
theorem witness_ManagementCommandsComplete_1 :
    live.mgmt.wdogTimes.filter (fun t => live.now < t + 60 * 10 ^ 9) = [] := by
  decide

/-- Clause 2 of `Obligations.ManagementCommandsComplete`. -/
theorem witness_ManagementCommandsComplete_2 :
    managed.mgmt.running = true ∧ managed.monitorOpen = true ∧ managed.updating = false := by
  decide

/-- Clause 3 of `Obligations.ManagementCommandsComplete`. -/
theorem witness_ManagementCommandsComplete_3 :
    let s := managed.setFld Reg.MGMT_BOOT_STATUS_MODE 1; s.mgmt.running = true ∧ s.recovery = true ∧ s.updating = false := by
  decide

/-- Clause 4 of `Obligations.ManagementCommandsComplete`. -/
theorem witness_ManagementCommandsComplete_4 :
    ({ managed with mgmt.update := some (.pldm, anImage, none) } : State).mgmt.update = some (.pldm, anImage, none) := by
  decide

/-- Clause 5 of `Obligations.ManagementCommandsComplete`. -/
theorem witness_ManagementCommandsComplete_5 :
    let s := { managed with mgmt.dirTrial := true }; s.mgmt.dirTrial = true ∧ s.mgmt.running = true ∧ s.mgmt.updated = none := by
  decide

/-- Clause 8 of `Obligations.ManagementCommandsComplete`. -/
theorem witness_ManagementCommandsComplete_8 :
    managed.mgmt.running = true := by
  decide

/-- Clause 9 of `Obligations.ManagementCommandsComplete`. -/
theorem witness_ManagementCommandsComplete_9_a :
    let s : State := managed; let handle : BitVec 32 := 0; let i : Nat := (if handle = 0 then 0 else handle.toNat - 1); let id := (sensorIds[0]!); s.mgmt.running = true ∧ s.monitorOpen = true ∧ sensorIds[i]? = some id := by
  decide

/-- Clause 9 of `Obligations.ManagementCommandsComplete`. -/
theorem witness_ManagementCommandsComplete_9_b :
    let s : State := managed; let handle : BitVec 32 := 0xFFFFFFFF; let i : Nat := (if handle = 0 then 0 else handle.toNat - 1); s.mgmt.running = true ∧ s.monitorOpen = true ∧ sensorIds[i]? = none := by
  decide

/-- Clause 10 of `Obligations.ManagementCommandsComplete`. -/
theorem witness_ManagementCommandsComplete_10 :
    managed.mgmt.running = true ∧ managed.monitorOpen = true ∧ (sensorIds.headD 0) < 65536 ∧ (managed.sensorReading (sensorIds.headD 0)).isSome := by
  decide

/-- Clause 11 of `Obligations.ManagementCommandsComplete`. -/
theorem witness_ManagementCommandsComplete_11 :
    managed.mgmt.running = true ∧ managed.monitorOpen = true := by
  decide

/-- Clause 12 of `Obligations.ManagementCommandsComplete`. -/
theorem witness_ManagementCommandsComplete_12 :
    managed.mgmt.running = true ∧ managed.monitorOpen = true := by
  decide

/-- Clause 13 of `Obligations.ManagementCommandsComplete`. -/
theorem witness_ManagementCommandsComplete_13 :
    managed.mgmt.running = true := by
  decide

/-- Clause 14 of `Obligations.ManagementCommandsComplete`. -/
theorem witness_ManagementCommandsComplete_14 :
    let s := managed.setAct Reg.MGMT_IF_CFG_OOB_EN 1; s.mgmt.running = true ∧ s.act Reg.MGMT_IF_CFG_OOB_EN = 1 := by
  decide

/-- Clause 1 of `Obligations.ManagementOtherFormsComplete`. -/
theorem witness_ManagementOtherFormsComplete_1 :
    let s : State := { live with mgmt.wdogTimes := [0] }; let recent : List Nat := s.mgmt.wdogTimes.filter (fun t => s.now < t + 60 * 10 ^ 9); recent ≠ [] := by
  decide

/-- Clause 2 of `Obligations.ManagementOtherFormsComplete`. -/
theorem witness_ManagementOtherFormsComplete_2_a :
    let s : State := { managed with mgmt.update := some (.pldm, anImage, none) }; s.mgmt.running = true ∧ s.monitorOpen = true ∧ s.updating = true := by
  decide

/-- Clause 2 of `Obligations.ManagementOtherFormsComplete`. -/
theorem witness_ManagementOtherFormsComplete_2_b :
    let s : State := managed; s.mgmt.running = true ∧ (s.recovery = false ∨ s.updating = true) := by
  decide

/-- Clause 3 of `Obligations.ManagementOtherFormsComplete`. -/
theorem witness_ManagementOtherFormsComplete_3_a :
    let s : State := { managed with mgmt.update := some (.pldm, anImage, none) }; let src : UpdSource := .pldm; let i : Image := anImage; let tag : Option Nat := none; s.mgmt.update = some (src, i, tag) := by
  decide

/-- Clause 3 of `Obligations.ManagementOtherFormsComplete`. -/
theorem witness_ManagementOtherFormsComplete_3_b :
    let s : State := live; s.mgmt.update = none := by
  decide

/-- Clause 4 of `Obligations.ManagementOtherFormsComplete`. -/
theorem witness_ManagementOtherFormsComplete_4_a :
    let s : State := { managed with mgmt.dirTrial := true, mgmt.updated := some .pldm, mgmt.slotA := some anImage }; let i : Image := anImage; s.mgmt.dirTrial = true ∧ s.mgmt.running = true ∧ s.mgmt.updated ≠ none ∧ (if s.mgmt.dirActive then s.mgmt.slotB else s.mgmt.slotA) = some i := by
  decide

/-- Clause 4 of `Obligations.ManagementOtherFormsComplete`. -/
theorem witness_ManagementOtherFormsComplete_4_b :
    let s : State := live; (s.mgmt.dirTrial = false ∨ s.mgmt.running = false) := by
  decide

/-- Clause 6 of `Obligations.ManagementOtherFormsComplete`. -/
theorem witness_ManagementOtherFormsComplete_6_a :
    let s : State := managed; s.mgmt.running = true := by
  decide

/-- Clause 6 of `Obligations.ManagementOtherFormsComplete`. -/
theorem witness_ManagementOtherFormsComplete_6_e :
    let s : State := managed; let ty : BitVec 6 := 1; s.mgmt.running = true ∧ ty ≠ 0 ∧ ty ≠ 2 ∧ ty ≠ 5 := by
  decide

/-- Clause 7 of `Obligations.ManagementOtherFormsComplete`. -/
theorem witness_ManagementOtherFormsComplete_7 :
    let s : State := managed; let id : BitVec 16 := 0xFFFF; s.mgmt.running = true ∧ s.monitorOpen = true ∧ s.sensorReading id.toNat = none := by
  decide

/-- Clause 8 of `Obligations.ManagementOtherFormsComplete`. -/
theorem witness_ManagementOtherFormsComplete_8 :
    let s : State := live; (s.mgmt.running = false ∨ s.monitorOpen = false) := by
  decide

/-- Clause 9 of `Obligations.ManagementOtherFormsComplete`. -/
theorem witness_ManagementOtherFormsComplete_9_a :
    let s : State := { live with mgmt.running := false }; s.mgmt.running = false := by
  decide

/-- Clause 9 of `Obligations.ManagementOtherFormsComplete`. -/
theorem witness_ManagementOtherFormsComplete_9_b :
    let s : State := live; let frame : OobFrame := .other; let forUs : Bool := true; (s.mgmt.running = false ∨ forUs = false ∨ s.act Reg.MGMT_IF_CFG_OOB_EN ≠ 1 ∨ frame = .other) := by
  decide

/-- Clause 1 of `Obligations.PickAndTraceCommandsComplete`. -/
theorem witness_PickAndTraceCommandsComplete_1 :
    let s := (live.setFld Reg.TIME_STATUS_STATE 1).setAct Reg.PICK_CFG_PERIOD_S 10; s.act Reg.PICK_CFG_PERIOD_S * 10 ^ 9 ≠ 0 ∧ s.fld Reg.TIME_STATUS_STATE ≠ 0 ∧ s.chip.holdup = false ∧ s.chip.cond ≠ .reset := by
  decide

/-- Clause 2 of `Obligations.PickAndTraceCommandsComplete`. -/
theorem witness_PickAndTraceCommandsComplete_2 :
    let s := { live with pick.next := some 10 }; s.pick.next = some 10 ∧ s.chip.holdup = false ∧ s.chip.cond ≠ .reset := by
  decide

/-- Clause 3 of `Obligations.PickAndTraceCommandsComplete`. -/
theorem witness_PickAndTraceCommandsComplete_3 :
    let s := { ((live.setAct Reg.PICK_CFG_RING_EN 1).setReg (Reg.PICK_RING_BYTES) 0x4000000) with pick.held := [⟨0, 10, 0, []⟩] }; s.act Reg.PICK_CFG_RING_EN = 1 ∧ s.dmaAllowed = true ∧ s.tallyPlace.isSome ∧ s.pick.partnerDue = false ∧ s.pick.held = [⟨0, 10, 0, []⟩] := by
  decide

/-- Clause 4 of `Obligations.PickAndTraceCommandsComplete`. -/
theorem witness_PickAndTraceCommandsComplete_4 :
    let s := { ((live.setAct Reg.PICK_CFG_RING_EN 1).setReg (Reg.PICK_RING_BYTES) 0x4000000) with pick.partnerDue := true, pick.partner := some (⟨0, 10, 0, []⟩, 1) }; s.act Reg.PICK_CFG_RING_EN = 1 ∧ s.dmaAllowed = true ∧ s.tallyPlace.isSome ∧ s.pick.partnerDue = true ∧ s.pick.partner = some (⟨0, 10, 0, []⟩, 1) := by
  decide

/-- Clause 5 of `Obligations.PickAndTraceCommandsComplete`. -/
theorem witness_PickAndTraceCommandsComplete_5 :
    let s : State := live; let index : BitVec 32 := BitVec.ofNat 32 tenantBase; s.accepts Reg.PICK_RD_CMD ∧ tenantBase ≤ index.toNat ∧ index.toNat < tenantBase + tenantCounters := by
  decide

/-- Clause 6 of `Obligations.PickAndTraceCommandsComplete`. -/
theorem witness_PickAndTraceCommandsComplete_6 :
    linked.linkUp = true := by
  decide

/-- Clause 9 of `Obligations.PickAndTraceCommandsComplete`. -/
theorem witness_PickAndTraceCommandsComplete_9 :
    let s := { live with trc.buf := [⟨1, 2, 3, 4⟩], trc.put := 1 }; s.barReachable = true ∧ s.trc.buf.length = 1 ∧ s.trc.rd = 2 * (s.trc.put - s.trc.buf.length) := by
  decide

/-- Clause 1 of `Obligations.ControlConfigurationCommandsComplete`. -/
theorem witness_ControlConfigurationCommandsComplete_1 :
    (asked populated 0x01).ctlGo 1 0x01 := by
  decide

/-- Clause 2 of `Obligations.ControlConfigurationCommandsComplete`. -/
theorem witness_ControlConfigurationCommandsComplete_2 :
    let s := asked populated 0x02; s.ctlGo 1 0x02 ∧ s.own.arrayTag = none ∧ s.fld Reg.OWN_ARRAY_ARRAY_ID = 0 ∧ s.modulesIn.any (fun k => (s.module k).array != 0) = false := by
  decide

/-- Clause 3 of `Obligations.ControlConfigurationCommandsComplete`. -/
theorem witness_ControlConfigurationCommandsComplete_3_a :
    let s : State := (asked populated 0x03).setFld Reg.OWN_STATUS_ROLE 5; let tag : Nat := 1; s.ctlGo tag 0x03 ∧ s.role = 5 ∧ s.dk.sizesDiffer = false ∧ s.own.rejoin = false ∧ s.linkUp = false := by
  decide

/-- Clause 3 of `Obligations.ControlConfigurationCommandsComplete`. -/
theorem witness_ControlConfigurationCommandsComplete_3_b :
    let s : State := ((asked populated 0x03).setFld Reg.OWN_STATUS_ROLE 5).setFld Reg.DIKOR_STATUS_LSTATE 7; let tag : Nat := 1; s.ctlGo tag 0x03 ∧ s.role = 5 ∧ s.dk.sizesDiffer = false ∧ s.own.rejoin = false ∧ s.linkUp = true := by
  decide

/-- Clause 4 of `Obligations.ControlConfigurationCommandsComplete`. -/
theorem witness_ControlConfigurationCommandsComplete_4 :
    let s := { (asked linked 0x04).setBit Reg.OWN_STATUS_MIRROR_READY true with nv.groups := [(1, linked.headIndex)] }; s.ctlHere 1 0x04 1 ∧ s.headIndex < 2 ∧ s.paired = true ∧ s.bit Reg.OWN_STATUS_MIRROR_READY = true ∧ s.own.swaps = [] ∧ s.own.planned = [] ∧ s.changeFree = true ∧ (s.setBit Reg.SELV_STATUS_DEGRADED true).changeFree = false := by
  decide

/-- Clause 5 of `Obligations.ControlConfigurationCommandsComplete`. -/
theorem witness_ControlConfigurationCommandsComplete_5 :
    (asked populated 0x05).ctlGo 1 0x05 ∧ (63 : BitVec 16).toNat ≤ 63 ∧ (127 : BitVec 8).toNat ≤ 127 ∧ (2 : BitVec 8).toNat ≤ 2 ∧ (3 : BitVec 8).toNat ≤ 3 := by
  decide

/-- Clause 6 of `Obligations.ControlConfigurationCommandsComplete`. -/
theorem witness_ControlConfigurationCommandsComplete_6 :
    let s := ((((asked populated 0x06).setAct (Reg.HEDDLE_ADDR_ATTR_VALID 255) 1).setAct (Reg.HEDDLE_ADDR_ATTR_HOME 255) 1).setAct (Reg.HEDDLE_ADDR_ATTR_ACTIVE 255) 1); s.ctlGo 1 0x06 ∧ s.act (Reg.HEDDLE_ADDR_ATTR_VALID 255) = 1 ∧ s.act (Reg.HEDDLE_ADDR_ATTR_HOME 255) = 1 ∧ s.act (Reg.HEDDLE_ADDR_ATTR_ACTIVE 255) = 1 := by
  decide

/-- Clause 6 of `Obligations.ControlConfigurationCommandsComplete`. -/
theorem witness_ControlConfigurationCommandsComplete_6_home :
    let s := ((((asked populated 0x06).setAct (Reg.HEDDLE_ADDR_ATTR_VALID 255) 1).setAct (Reg.HEDDLE_ADDR_ATTR_HOME 255) 0).setAct (Reg.HEDDLE_ADDR_ATTR_ACTIVE 255) 0); s.ctlGo 1 0x06 ∧ s.act (Reg.HEDDLE_ADDR_ATTR_VALID 255) = 1 ∧ s.act (Reg.HEDDLE_ADDR_ATTR_HOME 255) = 0 ∧ s.act (Reg.HEDDLE_ADDR_ATTR_ACTIVE 255) = 0 := by
  decide

/-- Clause 7 of `Obligations.ControlConfigurationCommandsComplete`. -/
theorem witness_ControlConfigurationCommandsComplete_7 :
    let s := asked populated 0x10; s.ctlGo 1 0x10 ∧ s.tenant? 4095 = none ∧ s.nv.tenants.any (fun x => x.2.nqn == List.replicate 223 (7 : BitVec 8)) = false := by
  decide

/-- Clause 8 of `Obligations.ControlConfigurationCommandsComplete`. -/
theorem witness_ControlConfigurationCommandsComplete_8 :
    let s := asked populated 0x11; s.ctlGo 1 0x11 ∧ s.tenant? 1 = some aTenant ∧ aTenant.san.stat ≠ 2 ∧ aTenant.deleting = none := by
  decide

/-- Clause 9 of `Obligations.ControlConfigurationCommandsComplete`. -/
theorem witness_ControlConfigurationCommandsComplete_9 :
    let s := asked populated 0x12; s.ctlGo 1 0x12 ∧ s.tenant? 1 = some aTenant ∧ aTenant.hosts.any (fun h => h.1 == [9]) = false ∧ aTenant.hosts.any (fun h => h.1 == [2]) = true := by
  decide

/-- Clause 10 of `Obligations.ControlConfigurationCommandsComplete`. -/
theorem witness_ControlConfigurationCommandsComplete_10 :
    let s : State := (asked populated 0x13); let tag : Nat := 1; let tenant : BitVec 16 := 1; let w0 : Word := 0; let w1 : Word := 0; let w2 : Word := 0; let w3 : Word := 0; s.ctlGo tag 0x13 ∧ (tenant = 0 ∨ (s.tenant? tenant.toNat).isSome = true) ∧ ({ s with loom.staged := tPut s.loom.staged tenant.toNat [w0, w1, w2, w3] }.shareSum).fld Reg.REED_SHARE_SUM_SUM ≤ 65536 := by
  decide

/-- Clause 11 of `Obligations.ControlConfigurationCommandsComplete`. -/
theorem witness_ControlConfigurationCommandsComplete_11 :
    let s : State := (asked populated 0x14); let tag : Nat := 1; let tenant : BitVec 16 := 1; let dedup : BitVec 8 := 3; let comp : BitVec 8 := 3; let verify : BitVec 8 := 1; s.ctlGo tag 0x14 ∧ (tenant = 0 ∨ (s.tenant? tenant.toNat).isSome = true) ∧ dedup.toNat ≤ 3 ∧ comp.toNat ≤ 3 ∧ verify.toNat ≤ 1 := by
  decide

/-- Clause 12 of `Obligations.ControlConfigurationCommandsComplete`. -/
theorem witness_ControlConfigurationCommandsComplete_12 :
    let s := { asked populated 0x15 with nv.psks := [([3], 21000)] }; s.ctlGo 1 0x15 ∧ slotType 21000 = .psk ∧ s.nv.psks.find? (fun x => x.1 == [4]) = none ∧ s.nv.psks.find? (fun x => x.1 == [3]) = some ([3], 21000) := by
  decide

/-- Clause 13 of `Obligations.ControlConfigurationCommandsComplete`. -/
theorem witness_ControlConfigurationCommandsComplete_13 :
    let s := asked populated 0x20; s.ctlGo 1 0x20 ∧ tGet? s.nv.groups 255 = none ∧ s.headIndex ≤ 1 := by
  decide

/-- Clause 14 of `Obligations.ControlConfigurationCommandsComplete`. -/
theorem witness_ControlConfigurationCommandsComplete_14 :
    let s := { asked populated 0x21 with nv.volumes := [] }; s.ctlHere 1 0x21 1 ∧ s.nv.volumes.any (fun v => v.2.group == 1) = false ∧ tGet? s.own.swaps 1 = none := by
  decide

/-- Clause 15 of `Obligations.ControlConfigurationCommandsComplete`. -/
theorem witness_ControlConfigurationCommandsComplete_15 :
    let s := asked populated 0x22; s.ctlHere 1 0x22 1 ∧ s.tenant? 1 = some aTenant ∧ s.vol? 65535 = none ∧ s.nsidUsed 1 1024 = false ∧ s.tenantVolumes 1 < 1024 ∧ sizeGrains 2 (2 ^ 39) ≤ 2 ^ 36 := by
  decide

/-- Clause 16 of `Obligations.ControlConfigurationCommandsComplete`. -/
theorem witness_ControlConfigurationCommandsComplete_16 :
    let s := asked populated 0x23; s.ctlHere 1 0x23 aVolume.group ∧ s.vol? 1 = some aVolume ∧ aVolume.formatting = none ∧ sizeGrains aVolume.lbaf (2 ^ 36) ≤ 2 ^ 36 := by
  decide

/-- Clause 17 of `Obligations.ControlConfigurationCommandsComplete`. -/
theorem witness_ControlConfigurationCommandsComplete_17 :
    let s := asked populated 0x24; s.ctlHere 1 0x24 aVolume.group ∧ s.vol? 1 = some aVolume ∧ s.clonedFrom 1 = false ∧ s.repl.rels.any (fun e => e.2.volume == 1) = false ∧ aVolume.formatting = none ∧ s.mp.snapOps.any (fun o => o.2.volumes.contains 1) = false := by
  decide

/-- Clause 18 of `Obligations.ControlConfigurationCommandsComplete`. -/
theorem witness_ControlConfigurationCommandsComplete_18_a :
    let s : State := { (asked populated 0x25) with nv.volumes := [(1, { aVolume with pinned := true })] }; let tag : Nat := 1; let volume : BitVec 16 := 1; let x : Volume := { aVolume with pinned := true }; s.ctlHere tag 0x25 x.group ∧ s.vol? volume.toNat = some x ∧ x.pinned = true := by
  decide

/-- Clause 18 of `Obligations.ControlConfigurationCommandsComplete`. -/
theorem witness_ControlConfigurationCommandsComplete_18_b :
    let s : State := (asked populated 0x25); let tag : Nat := 1; let volume : BitVec 16 := 1; let x : Volume := aVolume; s.ctlHere tag 0x25 x.group ∧ s.vol? volume.toNat = some x ∧ x.pinned = false := by
  decide

/-- Clause 18 of `Obligations.ControlConfigurationCommandsComplete`. -/
theorem witness_ControlConfigurationCommandsComplete_18_c :
    let s : State := (asked populated 0x25).setAct Reg.MAPX_MAP_CFG_PIN_GIB 1; let tag : Nat := 1; let volume : BitVec 16 := 1; let x : Volume := aVolume; s.ctlHere tag 0x25 x.group ∧ s.vol? volume.toNat = some x ∧ x.lbaf ≠ 2 ∧ (s.nv.volumes.filter (fun e => e.1 != volume.toNat && e.2.pinned && s.ownsGroup e.2.group)).foldl (fun n e => n + s.leafPages e.2) 0 + s.leafPages x ≤ s.act Reg.MAPX_MAP_CFG_PIN_GIB * 2 ^ 21 ∧ x.pinned = false := by
  decide

/-- Clause 19 of `Obligations.ControlConfigurationCommandsComplete`. -/
theorem witness_ControlConfigurationCommandsComplete_19 :
    let s : State := (asked populated 0x26); let t : State := ((s.snapBegin [1] (some 1) none).getD s); let tag : Nat := 1; let volumes : List (BitVec 16) := [1]; let v : BitVec 16 := 1; let x : Volume := aVolume; volumes.head? = some v ∧ s.ctlHere tag 0x26 x.group ∧ s.vol? v.toNat = some x ∧ volumes.length ≤ 256 ∧ (volumes.map (fun v => v.toNat)).Nodup ∧ volumes.all (fun v => ((s.volGroup v.toNat).map (fun g => tGet s.nv.groups g 3 != 3)).getD false) = true ∧ s.snapBegin (volumes.map (fun v => v.toNat)) (some tag) none = some t := by
  exact ⟨by decide, by decide, by decide, by decide, by decide, by decide, by decide +kernel⟩

/-- Clause 20 of `Obligations.ControlConfigurationCommandsComplete`. -/
theorem witness_ControlConfigurationCommandsComplete_20 :
    let s : State := (asked populated 0x27); let tag : Nat := 1; let snapshot : BitVec 32 := 3; let x : Snapshot := ⟨1, 1, 0, 0, false, false⟩; let o : Volume := aVolume; s.ctlHere tag 0x27 o.group ∧ tGet? s.mp.snaps snapshot.toNat = some x ∧ s.vol? x.volume = some o ∧ x.hidden = false ∧ s.repl.rels.any (fun e => e.2.base == some snapshot.toNat || e.2.next == some snapshot.toNat || e.2.bases.any (fun b => b.2 == snapshot.toNat)) = false := by
  decide

/-- Clause 21 of `Obligations.ControlConfigurationCommandsComplete`. -/
theorem witness_ControlConfigurationCommandsComplete_21 :
    let s : State := (asked populated 0x28); let tag : Nat := 1; let snapshot : BitVec 32 := 3; let volume : BitVec 16 := 2; let nsid : BitVec 32 := 1024; let x : Snapshot := ⟨1, 1, 0, 0, false, false⟩; let o : Volume := aVolume; s.ctlHere tag 0x28 o.group ∧ tGet? s.mp.snaps snapshot.toNat = some x ∧ s.vol? x.volume = some o ∧ x.hidden = false ∧ nsid ≠ 0 ∧ nsid.toNat ≤ 1024 ∧ s.vol? volume.toNat = none ∧ s.nsidUsed o.tenant nsid.toNat = false ∧ s.tenantVolumes o.tenant < 1024 := by
  decide

/-- Clause 22 of `Obligations.ControlConfigurationCommandsComplete`. -/
theorem witness_ControlConfigurationCommandsComplete_22 :
    let s : State := (asked populated 0x30); let tag : Nat := 1; let volume : BitVec 16 := 1; let x : Volume := aVolume; s.ctlHere tag 0x30 x.group ∧ s.vol? volume.toNat = some x := by
  decide

/-- Clause 1 of `Obligations.ControlConfigurationRefusals`. -/
theorem witness_ControlConfigurationRefusals_1_a :
    let s : State := (asked populated 0x01); let tag : Nat := 1; s.ctlGo tag 0x01 := by
  decide

/-- Clause 1 of `Obligations.ControlConfigurationRefusals`. -/
theorem witness_ControlConfigurationRefusals_1_b :
    let s : State := (asked populated 0x10); let tag : Nat := 1; s.ctlGo tag 0x10 := by
  decide

/-- Clause 2 of `Obligations.ControlConfigurationRefusals`. -/
theorem witness_ControlConfigurationRefusals_2_a :
    let s : State := (asked populated 0x02); let tag : Nat := 1; s.ctlGo tag 0x02 := by
  decide

/-- Clause 2 of `Obligations.ControlConfigurationRefusals`. -/
theorem witness_ControlConfigurationRefusals_2_b :
    let s : State := { (asked populated 0x02) with own.arrayTag := some 7 }; let tag : Nat := 1; let array : BitVec 48 := 5; s.ctlGo tag 0x02 ∧ array ≠ 0 ∧ s.own.arrayTag ≠ none := by
  decide

/-- Clause 2 of `Obligations.ControlConfigurationRefusals`. -/
theorem witness_ControlConfigurationRefusals_2_c :
    let s : State := (asked populated 0x02).setFld Reg.OWN_ARRAY_ARRAY_ID 9; let tag : Nat := 1; let array : BitVec 48 := 5; s.ctlGo tag 0x02 ∧ array ≠ 0 ∧ s.own.arrayTag = none ∧ (s.fld Reg.OWN_ARRAY_ARRAY_ID ≠ 0 ∨ s.modulesIn.any (fun k => (s.module k).array != 0) = true) := by
  decide

/-- Clause 3 of `Obligations.ControlConfigurationRefusals`. -/
theorem witness_ControlConfigurationRefusals_3_a :
    let s : State := (asked populated 0x03); let tag : Nat := 1; s.ctlGo tag 0x03 ∧ (s.role ≠ 5 ∨ s.dk.sizesDiffer = true) := by
  decide

/-- Clause 3 of `Obligations.ControlConfigurationRefusals`. -/
theorem witness_ControlConfigurationRefusals_3_b :
    let s : State := { (asked populated 0x03).setFld Reg.OWN_STATUS_ROLE 5 with own.rejoin := true }; let tag : Nat := 1; s.ctlGo tag 0x03 ∧ s.role = 5 ∧ s.dk.sizesDiffer = false ∧ s.own.rejoin = true := by
  decide

/-- Clause 4 of `Obligations.ControlConfigurationRefusals`. -/
theorem witness_ControlConfigurationRefusals_4 :
    let s : State := (asked populated 0x05); let tag : Nat := 1; let lane : BitVec 16 := 64; let domain : BitVec 8 := 0; let transport : BitVec 8 := 0; let src : BitVec 8 := 0; s.ctlGo tag 0x05 ∧ (63 < lane.toNat ∨ 127 < domain.toNat ∨ 2 < transport.toNat ∨ 3 < src.toNat) := by
  decide

/-- Clause 5 of `Obligations.ControlConfigurationRefusals`. -/
theorem witness_ControlConfigurationRefusals_5_a :
    let s : State := (asked populated 0x06); let tag : Nat := 1; let entry : BitVec 8 := 255; s.ctlGo tag 0x06 ∧ s.act (Reg.HEDDLE_ADDR_ATTR_VALID entry.toNat) ≠ 1 := by
  decide

/-- Clause 5 of `Obligations.ControlConfigurationRefusals`. -/
theorem witness_ControlConfigurationRefusals_5_b :
    let s : State := (((asked populated 0x06).setAct (Reg.HEDDLE_ADDR_ATTR_VALID 255) 1).setAct (Reg.HEDDLE_ADDR_ATTR_HOME 255) 0).setAct (Reg.HEDDLE_ADDR_ATTR_ACTIVE 255) 1; let tag : Nat := 1; let entry : BitVec 8 := 255; s.ctlGo tag 0x06 ∧ s.act (Reg.HEDDLE_ADDR_ATTR_VALID entry.toNat) = 1 ∧ (s.act (Reg.HEDDLE_ADDR_ATTR_HOME entry.toNat) = 0 ↔ s.act (Reg.HEDDLE_ADDR_ATTR_ACTIVE entry.toNat) = 1) := by
  decide

/-- Clause 6 of `Obligations.ControlConfigurationRefusals`. -/
theorem witness_ControlConfigurationRefusals_6_a :
    let s : State := (asked populated 0x10); let tag : Nat := 1; let tenant : BitVec 16 := 4096; let nqn : Bytes := []; let sn : Bytes := []; let mn : Bytes := []; s.ctlGo tag 0x10 ∧ (tenant = 0 ∨ 4095 < tenant.toNat ∨ nqn = [] ∨ 223 < nqn.length ∨ sn.length ≠ 20 ∨ mn.length ≠ 40) := by
  decide

/-- Clause 6 of `Obligations.ControlConfigurationRefusals`. -/
theorem witness_ControlConfigurationRefusals_6_b :
    let s : State := (asked populated 0x10); let tag : Nat := 1; let tenant : BitVec 16 := 1; let nqn : Bytes := [7]; let sn : Bytes := List.replicate 20 0; let mn : Bytes := List.replicate 40 0; s.ctlGo tag 0x10 ∧ tenant ≠ 0 ∧ tenant.toNat ≤ 4095 ∧ nqn ≠ [] ∧ nqn.length ≤ 223 ∧ sn.length = 20 ∧ mn.length = 40 ∧ ((s.tenant? tenant.toNat).isSome = true ∨ s.nv.tenants.any (fun x => x.2.nqn == nqn) = true) := by
  decide

/-- Clause 7 of `Obligations.ControlConfigurationRefusals`. -/
theorem witness_ControlConfigurationRefusals_7_a :
    let s : State := (asked populated 0x11); let tag : Nat := 1; let tenant : BitVec 16 := 2; s.ctlGo tag 0x11 ∧ s.tenant? tenant.toNat = none := by
  decide

/-- Clause 7 of `Obligations.ControlConfigurationRefusals`. -/
theorem witness_ControlConfigurationRefusals_7_b :
    let s : State := { (asked populated 0x11) with nv.tenants := [(1, { aTenant with san := { aTenant.san with stat := 2 } })] }; let tag : Nat := 1; let tenant : BitVec 16 := 1; let x := { aTenant with san := { aTenant.san with stat := 2 } }; s.ctlGo tag 0x11 ∧ s.tenant? tenant.toNat = some x ∧ (x.san.stat = 2 ∨ x.deleting ≠ none) := by
  decide

/-- Clause 8 of `Obligations.ControlConfigurationRefusals`. -/
theorem witness_ControlConfigurationRefusals_8_a :
    let s : State := (asked populated 0x12); let tag : Nat := 1; let tenant : BitVec 16 := 2; s.ctlGo tag 0x12 ∧ s.tenant? tenant.toNat = none := by
  decide

/-- Clause 8 of `Obligations.ControlConfigurationRefusals`. -/
theorem witness_ControlConfigurationRefusals_8_b :
    let s : State := (asked populated 0x12); let tag : Nat := 1; let tenant : BitVec 16 := 1; let op : BitVec 8 := 0; let cls : BitVec 8 := 4; let nqn : Bytes := []; let x := aTenant; s.ctlGo tag 0x12 ∧ s.tenant? tenant.toNat = some x ∧ (nqn = [] ∨ 223 < nqn.length ∨ 3 < cls.toNat ∨ (op ≠ 1 ∧ op ≠ 2)) := by
  decide

/-- Clause 8 of `Obligations.ControlConfigurationRefusals`. -/
theorem witness_ControlConfigurationRefusals_8_c :
    let s : State := (asked populated 0x12); let tag : Nat := 1; let tenant : BitVec 16 := 1; let cls : BitVec 8 := 3; let nqn : Bytes := [2]; let x := aTenant; s.ctlGo tag 0x12 ∧ s.tenant? tenant.toNat = some x ∧ nqn ≠ [] ∧ nqn.length ≤ 223 ∧ cls.toNat ≤ 3 ∧ x.hosts.any (fun h => h.1 == nqn) = true := by
  decide

/-- Clause 8 of `Obligations.ControlConfigurationRefusals`. -/
theorem witness_ControlConfigurationRefusals_8_d :
    let s : State := (asked populated 0x12); let tag : Nat := 1; let tenant : BitVec 16 := 1; let cls : BitVec 8 := 3; let nqn : Bytes := [3]; let x := aTenant; s.ctlGo tag 0x12 ∧ s.tenant? tenant.toNat = some x ∧ nqn ≠ [] ∧ nqn.length ≤ 223 ∧ cls.toNat ≤ 3 ∧ x.hosts.any (fun h => h.1 == nqn) = false := by
  decide

/-- Clause 9 of `Obligations.ControlConfigurationRefusals`. -/
theorem witness_ControlConfigurationRefusals_9_a :
    let s : State := (asked populated 0x13); let tag : Nat := 1; let tenant : BitVec 16 := 2; s.ctlGo tag 0x13 ∧ tenant ≠ 0 ∧ s.tenant? tenant.toNat = none := by
  decide

/-- Clause 9 of `Obligations.ControlConfigurationRefusals`. -/
theorem witness_ControlConfigurationRefusals_9_b :
    let s : State := { asked populated 0x13 with loom.staged := [(2, [0xFFFF, 0, 0, 0x8000000000000000])] }; let tag : Nat := 1; let tenant : BitVec 16 := 1; let w0 : Word := 0xFFFFFFFFFFFFFFFF; let w1 : Word := 0xFFFFFFFFFFFFFFFF; let w2 : Word := 0xFFFFFFFFFFFFFFFF; let w3 : Word := 0xFFFFFFFFFFFFFFFF; s.ctlGo tag 0x13 ∧ (tenant = 0 ∨ (s.tenant? tenant.toNat).isSome = true) ∧ 65536 < ({ s with loom.staged := tPut s.loom.staged tenant.toNat [w0, w1, w2, w3] }.shareSum).fld Reg.REED_SHARE_SUM_SUM := by
  decide

/-- Clause 10 of `Obligations.ControlConfigurationRefusals`. -/
theorem witness_ControlConfigurationRefusals_10_a :
    let s : State := (asked populated 0x14); let tag : Nat := 1; let dedup : BitVec 8 := 0; let comp : BitVec 8 := 0; let verify : BitVec 8 := 2; s.ctlGo tag 0x14 ∧ (3 < dedup.toNat ∨ 3 < comp.toNat ∨ 1 < verify.toNat) := by
  decide

/-- Clause 10 of `Obligations.ControlConfigurationRefusals`. -/
theorem witness_ControlConfigurationRefusals_10_b :
    let s : State := (asked populated 0x14); let tag : Nat := 1; let tenant : BitVec 16 := 2; let dedup : BitVec 8 := 3; let comp : BitVec 8 := 3; let verify : BitVec 8 := 1; s.ctlGo tag 0x14 ∧ dedup.toNat ≤ 3 ∧ comp.toNat ≤ 3 ∧ verify.toNat ≤ 1 ∧ tenant ≠ 0 ∧ s.tenant? tenant.toNat = none := by
  decide

/-- Clause 11 of `Obligations.ControlConfigurationRefusals`. -/
theorem witness_ControlConfigurationRefusals_11_a :
    let s : State := (asked populated 0x15); let tag : Nat := 1; let slot : BitVec 16 := 20480; let op : BitVec 8 := 0; let id : Bytes := []; s.ctlGo tag 0x15 ∧ (slotType slot.toNat ≠ .psk ∨ id = [] ∨ 256 < id.length ∨ (op ≠ 1 ∧ op ≠ 2)) := by
  decide

/-- Clause 11 of `Obligations.ControlConfigurationRefusals`. -/
theorem witness_ControlConfigurationRefusals_11_b :
    let s : State := { (asked populated 0x15) with nv.psks := [([7], 20480)] }; let tag : Nat := 1; let slot : BitVec 16 := 24575; let id : Bytes := [7]; s.ctlGo tag 0x15 ∧ slotType slot.toNat = .psk ∧ id ≠ [] ∧ id.length ≤ 256 ∧ (s.nv.psks.find? (fun x => x.1 == id)).isSome = true := by
  decide

/-- Clause 11 of `Obligations.ControlConfigurationRefusals`. -/
theorem witness_ControlConfigurationRefusals_11_c :
    let s : State := { (asked populated 0x15) with nv.psks := [([7], 20480)] }; let tag : Nat := 1; let slot : BitVec 16 := 24575; let id : Bytes := [7]; s.ctlGo tag 0x15 ∧ slotType slot.toNat = .psk ∧ id ≠ [] ∧ id.length ≤ 256 ∧ (s.nv.psks.find? (fun x => x.1 == id)).map (fun x => x.2) ≠ some slot.toNat := by
  decide

/-- Clause 1 of `Obligations.ControlGroupAndVolumeRefusals`. -/
theorem witness_ControlGroupAndVolumeRefusals_1 :
    let s : State := { asked populated 0x04 with nv.groups := [(1, 1)] }; let tag : Nat := 1; let group : BitVec 8 := 1; s.ctlReady tag 0x04 = true ∧ tGet? s.nv.groups group.toNat = some (1 - s.headIndex) := by
  decide

/-- Clause 2 of `Obligations.ControlGroupAndVolumeRefusals`. -/
theorem witness_ControlGroupAndVolumeRefusals_2 :
    let s : State := { asked populated 0x21 with nv.groups := [(1, 1)] }; let tag : Nat := 1; let group : BitVec 8 := 1; s.ctlReady tag 0x21 = true ∧ tGet? s.nv.groups group.toNat = some (1 - s.headIndex) := by
  decide

/-- Clause 3 of `Obligations.ControlGroupAndVolumeRefusals`. -/
theorem witness_ControlGroupAndVolumeRefusals_3 :
    let s : State := { asked populated 0x21 with nv.groups := [(1, 3)] }; let tag : Nat := 1; let group : BitVec 8 := 1; let o : Nat := 3; s.ctlGo tag 0x21 ∧ tGet? s.nv.groups group.toNat = some o ∧ o ≠ s.headIndex ∧ o ≠ 1 - s.headIndex := by
  decide

/-- Clause 4 of `Obligations.ControlGroupAndVolumeRefusals`. -/
theorem witness_ControlGroupAndVolumeRefusals_4_a :
    let s : State := (asked populated 0x04); let tag : Nat := 1; let group : BitVec 8 := 2; let target : BitVec 8 := 2; s.ctlGo tag 0x04 ∧ tGet? s.nv.groups group.toNat = none ∧ 1 < target.toNat := by
  decide

/-- Clause 4 of `Obligations.ControlGroupAndVolumeRefusals`. -/
theorem witness_ControlGroupAndVolumeRefusals_4_b :
    let s : State := (asked populated 0x04); let tag : Nat := 1; let group : BitVec 8 := 2; let target : BitVec 8 := 1; s.ctlGo tag 0x04 ∧ tGet? s.nv.groups group.toNat = none ∧ target.toNat ≤ 1 := by
  decide

/-- Clause 4 of `Obligations.ControlGroupAndVolumeRefusals`. -/
theorem witness_ControlGroupAndVolumeRefusals_4_c :
    let s : State := (asked populated 0x04); let tag : Nat := 1; let group : BitVec 8 := 1; let target : BitVec 8 := 2; s.ctlHere tag 0x04 group.toNat ∧ 1 < target.toNat := by
  decide

/-- Clause 4 of `Obligations.ControlGroupAndVolumeRefusals`. -/
theorem witness_ControlGroupAndVolumeRefusals_4_d :
    let s : State := (asked populated 0x04); let tag : Nat := 1; let group : BitVec 8 := 1; let target : BitVec 8 := 1; s.ctlHere tag 0x04 group.toNat ∧ target.toNat ≤ 1 ∧ (s.paired = false ∨ s.bit Reg.OWN_STATUS_MIRROR_READY = false ∨ target.toNat = s.headIndex) := by
  decide

/-- Clause 4 of `Obligations.ControlGroupAndVolumeRefusals`. -/
theorem witness_ControlGroupAndVolumeRefusals_4_e :
    let s : State := { (((asked populated 4).setFld Reg.DIKOR_STATUS_LSTATE 7).setFld Reg.OWN_STATUS_ROLE 2).setBit Reg.OWN_STATUS_MIRROR_READY true with own.planned := [(2, none)] }; let tag : Nat := 1; let group : BitVec 8 := 1; let target : BitVec 8 := 1; s.ctlHere tag 0x04 group.toNat ∧ target.toNat ≤ 1 ∧ s.paired = true ∧ s.bit Reg.OWN_STATUS_MIRROR_READY = true ∧ target.toNat ≠ s.headIndex ∧ (s.own.swaps ≠ [] ∨ s.own.planned ≠ []) := by
  decide

/-- Clause 5 of `Obligations.ControlGroupAndVolumeRefusals`. -/
theorem witness_ControlGroupAndVolumeRefusals_5_a :
    let s : State := (asked populated 0x20); let tag : Nat := 1; let owner : BitVec 8 := 2; s.ctlGo tag 0x20 ∧ 1 < owner.toNat := by
  decide

/-- Clause 5 of `Obligations.ControlGroupAndVolumeRefusals`. -/
theorem witness_ControlGroupAndVolumeRefusals_5_b :
    let s : State := (asked populated 0x20); let tag : Nat := 1; let group : BitVec 8 := 1; let owner : BitVec 8 := 1; s.ctlGo tag 0x20 ∧ owner.toNat ≤ 1 ∧ (tGet? s.nv.groups group.toNat).isSome = true := by
  decide

/-- Clause 5 of `Obligations.ControlGroupAndVolumeRefusals`. -/
theorem witness_ControlGroupAndVolumeRefusals_5_c :
    let s : State := (asked populated 0x20).setBit Reg.NVMF_STATUS_SOLO true; let tag : Nat := 1; let group : BitVec 8 := 2; let owner : BitVec 8 := 1; s.ctlGo tag 0x20 ∧ owner.toNat ≤ 1 ∧ tGet? s.nv.groups group.toNat = none ∧ s.solo = true ∧ owner.toNat ≠ s.headIndex := by
  decide

/-- Clause 6 of `Obligations.ControlGroupAndVolumeRefusals`. -/
theorem witness_ControlGroupAndVolumeRefusals_6_a :
    let s : State := (asked populated 0x21); let tag : Nat := 1; let group : BitVec 8 := 2; s.ctlGo tag 0x21 ∧ tGet? s.nv.groups group.toNat = none := by
  decide

/-- Clause 6 of `Obligations.ControlGroupAndVolumeRefusals`. -/
theorem witness_ControlGroupAndVolumeRefusals_6_b :
    let s : State := (asked populated 0x21); let tag : Nat := 1; let group : BitVec 8 := 1; s.ctlHere tag 0x21 group.toNat ∧ (s.nv.volumes.any (fun v => v.2.group == group.toNat) = true ∨ (tGet? s.own.swaps group.toNat).isSome = true) := by
  decide

/-- Clause 7 of `Obligations.ControlGroupAndVolumeRefusals`. -/
theorem witness_ControlGroupAndVolumeRefusals_7_a :
    let s : State := (asked populated 0x22); let tag : Nat := 1; let nsid : BitVec 32 := 1025; let group : BitVec 8 := 1; let lbaf : BitVec 8 := 2; s.ctlHere tag 0x22 group.toNat ∧ (nsid = 0 ∨ 1024 < nsid.toNat ∨ 2 < lbaf.toNat) := by
  decide

/-- Clause 7 of `Obligations.ControlGroupAndVolumeRefusals`. -/
theorem witness_ControlGroupAndVolumeRefusals_7_b :
    let s : State := (asked populated 0x22); let tag : Nat := 1; let tenant : BitVec 16 := 2; let nsid : BitVec 32 := 1024; let group : BitVec 8 := 1; let lbaf : BitVec 8 := 2; s.ctlHere tag 0x22 group.toNat ∧ nsid ≠ 0 ∧ nsid.toNat ≤ 1024 ∧ lbaf.toNat ≤ 2 ∧ s.tenant? tenant.toNat = none := by
  decide

/-- Clause 7 of `Obligations.ControlGroupAndVolumeRefusals`. -/
theorem witness_ControlGroupAndVolumeRefusals_7_c :
    let s : State := (asked populated 0x22); let tag : Nat := 1; let volume : BitVec 16 := 2; let tenant : BitVec 16 := 1; let nsid : BitVec 32 := 1; let group : BitVec 8 := 1; let lbaf : BitVec 8 := 2; let x := aTenant; s.ctlHere tag 0x22 group.toNat ∧ nsid ≠ 0 ∧ nsid.toNat ≤ 1024 ∧ lbaf.toNat ≤ 2 ∧ s.tenant? tenant.toNat = some x ∧ ((s.vol? volume.toNat).isSome = true ∨ s.nsidUsed tenant.toNat nsid.toNat = true) := by
  decide

/-- Clause 7 of `Obligations.ControlGroupAndVolumeRefusals`. -/
theorem witness_ControlGroupAndVolumeRefusals_7_d :
    let s : State := (asked populated 0x22); let tag : Nat := 1; let volume : BitVec 16 := 2; let tenant : BitVec 16 := 1; let nsid : BitVec 32 := 1024; let group : BitVec 8 := 1; let lbaf : BitVec 8 := 2; let blocks : Word := 2 ^ 63; let x := aTenant; s.ctlHere tag 0x22 group.toNat ∧ nsid ≠ 0 ∧ nsid.toNat ≤ 1024 ∧ lbaf.toNat ≤ 2 ∧ s.tenant? tenant.toNat = some x ∧ s.vol? volume.toNat = none ∧ s.nsidUsed tenant.toNat nsid.toNat = false ∧ (1024 ≤ s.tenantVolumes tenant.toNat ∨ 2 ^ 36 < sizeGrains lbaf.toNat blocks.toNat) := by
  decide

/-- Clause 7 of `Obligations.ControlGroupAndVolumeRefusals`. -/
theorem witness_ControlGroupAndVolumeRefusals_7_e :
    let s : State := { (asked populated 0x22) with nv.tenants := [(1, { aTenant with deleting := some 4 })] }; let tag : Nat := 1; let volume : BitVec 16 := 2; let tenant : BitVec 16 := 1; let nsid : BitVec 32 := 1024; let group : BitVec 8 := 1; let lbaf : BitVec 8 := 2; let blocks : Word := 1024; let x := { aTenant with deleting := some 4 }; s.ctlHere tag 0x22 group.toNat ∧ nsid ≠ 0 ∧ nsid.toNat ≤ 1024 ∧ lbaf.toNat ≤ 2 ∧ s.tenant? tenant.toNat = some x ∧ s.vol? volume.toNat = none ∧ s.nsidUsed tenant.toNat nsid.toNat = false ∧ s.tenantVolumes tenant.toNat < 1024 ∧ sizeGrains lbaf.toNat blocks.toNat ≤ 2 ^ 36 ∧ (x.deleting.isSome = true ∨ x.san.stat = 2) := by
  decide

/-- Clause 8 of `Obligations.ControlGroupAndVolumeRefusals`. -/
theorem witness_ControlGroupAndVolumeRefusals_8_a :
    let s : State := (asked populated 0x23); let tag : Nat := 1; let volume : BitVec 16 := 2; s.vol? volume.toNat = none ∧ s.ctlGo tag 0x23 := by
  decide

/-- Clause 8 of `Obligations.ControlGroupAndVolumeRefusals`. -/
theorem witness_ControlGroupAndVolumeRefusals_8_b :
    let s : State := (asked populated 0x24); let tag : Nat := 1; let volume : BitVec 16 := 2; s.vol? volume.toNat = none ∧ s.ctlGo tag 0x24 := by
  decide

/-- Clause 8 of `Obligations.ControlGroupAndVolumeRefusals`. -/
theorem witness_ControlGroupAndVolumeRefusals_8_c :
    let s : State := (asked populated 0x25); let tag : Nat := 1; let volume : BitVec 16 := 2; s.vol? volume.toNat = none ∧ s.ctlGo tag 0x25 := by
  decide

/-- Clause 8 of `Obligations.ControlGroupAndVolumeRefusals`. -/
theorem witness_ControlGroupAndVolumeRefusals_8_d :
    let s : State := (asked populated 0x30); let tag : Nat := 1; let volume : BitVec 16 := 2; s.vol? volume.toNat = none ∧ s.ctlGo tag 0x30 := by
  decide

/-- Clause 9 of `Obligations.ControlGroupAndVolumeRefusals`. -/
theorem witness_ControlGroupAndVolumeRefusals_9_a :
    let s : State := { (asked populated 0x23) with nv.volumes := [(1, { aVolume with formatting := some 0 })] }; let tag : Nat := 1; let volume : BitVec 16 := 1; let x : Volume := { aVolume with formatting := some 0 }; s.ctlHere tag 0x23 x.group ∧ s.vol? volume.toNat = some x ∧ x.formatting.isSome = true := by
  decide

/-- Clause 9 of `Obligations.ControlGroupAndVolumeRefusals`. -/
theorem witness_ControlGroupAndVolumeRefusals_9_b :
    let s : State := (asked populated 0x23); let tag : Nat := 1; let volume : BitVec 16 := 1; let blocks : Word := 2 ^ 63; let x : Volume := aVolume; s.ctlHere tag 0x23 x.group ∧ s.vol? volume.toNat = some x ∧ x.formatting = none ∧ 2 ^ 36 < sizeGrains x.lbaf blocks.toNat := by
  decide

/-- Clause 10 of `Obligations.ControlGroupAndVolumeRefusals`. -/
theorem witness_ControlGroupAndVolumeRefusals_10_a :
    let s : State := { (asked populated 0x24) with repl.rels := [(9, aRel)] }; let tag : Nat := 1; let volume : BitVec 16 := 1; let x : Volume := aVolume; s.ctlHere tag 0x24 x.group ∧ s.vol? volume.toNat = some x ∧ (s.clonedFrom volume.toNat = true ∨ s.repl.rels.any (fun e => e.2.volume == volume.toNat) = true ∨ x.formatting.isSome = true) := by
  decide

/-- Clause 10 of `Obligations.ControlGroupAndVolumeRefusals`. -/
theorem witness_ControlGroupAndVolumeRefusals_10_b :
    let s : State := { (asked populated 0x24) with mp.snapOps := [(1, ⟨[1], [4], 66, 0, false, false, false, none, none⟩)] }; let tag : Nat := 1; let volume : BitVec 16 := 1; let x : Volume := aVolume; s.ctlHere tag 0x24 x.group ∧ s.vol? volume.toNat = some x ∧ s.clonedFrom volume.toNat = false ∧ s.repl.rels.any (fun e => e.2.volume == volume.toNat) = false ∧ x.formatting = none ∧ s.mp.snapOps.any (fun o => o.2.volumes.contains volume.toNat) = true := by
  decide

/-- Clause 11 of `Obligations.ControlGroupAndVolumeRefusals`. -/
theorem witness_ControlGroupAndVolumeRefusals_11_a :
    let s : State := (asked populated 0x25); let tag : Nat := 1; let volume : BitVec 16 := 1; let pin : BitVec 8 := 2; let x : Volume := aVolume; s.ctlHere tag 0x25 x.group ∧ s.vol? volume.toNat = some x ∧ 1 < pin.toNat := by
  decide

/-- Clause 11 of `Obligations.ControlGroupAndVolumeRefusals`. -/
theorem witness_ControlGroupAndVolumeRefusals_11_b :
    let s : State := { (asked populated 0x25) with nv.volumes := [(1, { aVolume with lbaf := 2 })] }; let tag : Nat := 1; let volume : BitVec 16 := 1; let x : Volume := { aVolume with lbaf := 2 }; s.ctlHere tag 0x25 x.group ∧ s.vol? volume.toNat = some x ∧ x.lbaf = 2 := by
  decide

/-- Clause 11 of `Obligations.ControlGroupAndVolumeRefusals`. -/
theorem witness_ControlGroupAndVolumeRefusals_11_c :
    let s : State := { (asked populated 0x25).setAct Reg.MAPX_MAP_CFG_PIN_GIB 0 with nv.volumes := [(1, { aVolume with root := 4 })], mp.pages := [(4, { aPage with level := 0 })] }; let tag : Nat := 1; let volume : BitVec 16 := 1; let x : Volume := { aVolume with root := 4 }; s.ctlHere tag 0x25 x.group ∧ s.vol? volume.toNat = some x ∧ x.lbaf ≠ 2 ∧ s.act Reg.MAPX_MAP_CFG_PIN_GIB * 2 ^ 21 < (s.nv.volumes.filter (fun e => e.1 != volume.toNat && e.2.pinned && s.ownsGroup e.2.group)).foldl (fun n e => n + s.leafPages e.2) 0 + s.leafPages x := by
  decide

/-- Clause 12 of `Obligations.ControlGroupAndVolumeRefusals`. -/
theorem witness_ControlGroupAndVolumeRefusals_12 :
    let s : State := (asked populated 0x26); let tag : Nat := 1; s.ctlGo tag 0x26 := by
  decide

/-- Clause 13 of `Obligations.ControlGroupAndVolumeRefusals`. -/
theorem witness_ControlGroupAndVolumeRefusals_13_a :
    let s : State := (asked populated 0x26); let tag : Nat := 1; let volumes : List (BitVec 16) := [1, 1]; let v : BitVec 16 := 1; let x : Volume := aVolume; volumes.head? = some v ∧ s.ctlHere tag 0x26 x.group ∧ s.vol? v.toNat = some x ∧ (256 < volumes.length ∨ ¬(volumes.map (fun v => v.toNat)).Nodup) := by
  decide

/-- Clause 13 of `Obligations.ControlGroupAndVolumeRefusals`. -/
theorem witness_ControlGroupAndVolumeRefusals_13_b :
    let s : State := (asked populated 0x26); let tag : Nat := 1; let volumes : List (BitVec 16) := [1, 2]; let v : BitVec 16 := 1; let x : Volume := aVolume; volumes.head? = some v ∧ s.ctlHere tag 0x26 x.group ∧ s.vol? v.toNat = some x ∧ volumes.length ≤ 256 ∧ (volumes.map (fun v => v.toNat)).Nodup ∧ volumes.any (fun v => (s.vol? v.toNat).isNone) = true := by
  decide

/-- Clause 13 of `Obligations.ControlGroupAndVolumeRefusals`. -/
theorem witness_ControlGroupAndVolumeRefusals_13_c :
    let s : State := { (asked populated 0x26) with nv.groups := [(1, 0), (2, 3)], nv.volumes := [(1, aVolume), (2, { aVolume with group := 2 })] }; let tag : Nat := 1; let volumes : List (BitVec 16) := [1, 2]; let v : BitVec 16 := 1; let x : Volume := aVolume; volumes.head? = some v ∧ s.ctlHere tag 0x26 x.group ∧ s.vol? v.toNat = some x ∧ volumes.length ≤ 256 ∧ (volumes.map (fun v => v.toNat)).Nodup ∧ volumes.any (fun v => (s.vol? v.toNat).isNone) = false ∧ volumes.any (fun v => ((s.volGroup v.toNat).map (fun g => tGet s.nv.groups g 3 == 3)).getD true) = true := by
  decide

/-- Clause 13 of `Obligations.ControlGroupAndVolumeRefusals`. -/
theorem witness_ControlGroupAndVolumeRefusals_13_d :
    let s : State := { (asked populated 0x26) with nv.volumes := [(1, { aVolume with lastSnap := some 0 })] }; let tag : Nat := 1; let volumes : List (BitVec 16) := [1]; let v : BitVec 16 := 1; let x : Volume := { aVolume with lastSnap := some 0 }; volumes.head? = some v ∧ s.ctlHere tag 0x26 x.group ∧ s.vol? v.toNat = some x ∧ volumes.length ≤ 256 ∧ (volumes.map (fun v => v.toNat)).Nodup ∧ volumes.any (fun v => (s.vol? v.toNat).isNone) = false ∧ volumes.any (fun v => ((s.volGroup v.toNat).map (fun g => tGet s.nv.groups g 3 == 3)).getD true) = false ∧ s.snapBegin (volumes.map (fun v => v.toNat)) (some tag) none = none := by
  decide

/-- Clause 14 of `Obligations.ControlGroupAndVolumeRefusals`. -/
theorem witness_ControlGroupAndVolumeRefusals_14_a :
    let s : State := (asked populated 0x27); let tag : Nat := 1; let snapshot : BitVec 32 := 4; tGet? s.mp.snaps snapshot.toNat = none ∧ s.ctlGo tag 0x27 := by
  decide

/-- Clause 14 of `Obligations.ControlGroupAndVolumeRefusals`. -/
theorem witness_ControlGroupAndVolumeRefusals_14_b :
    let s : State := (asked populated 0x28); let tag : Nat := 1; let snapshot : BitVec 32 := 4; tGet? s.mp.snaps snapshot.toNat = none ∧ s.ctlGo tag 0x28 := by
  decide

/-- Clause 15 of `Obligations.ControlGroupAndVolumeRefusals`. -/
theorem witness_ControlGroupAndVolumeRefusals_15_a :
    let s : State := { (asked populated 0x27) with mp.snaps := [(3, ⟨1, 1, 0, 0, true, false⟩)] }; let tag : Nat := 1; let snapshot : BitVec 32 := 3; let x : Snapshot := ⟨1, 1, 0, 0, true, false⟩; let o : Volume := aVolume; s.ctlHere tag 0x27 o.group ∧ tGet? s.mp.snaps snapshot.toNat = some x ∧ s.vol? x.volume = some o ∧ x.hidden = true := by
  decide

/-- Clause 15 of `Obligations.ControlGroupAndVolumeRefusals`. -/
theorem witness_ControlGroupAndVolumeRefusals_15_b :
    let s : State := { (asked populated 0x27) with repl.rels := [(9, { aRel with base := some 3 })] }; let tag : Nat := 1; let snapshot : BitVec 32 := 3; let x : Snapshot := ⟨1, 1, 0, 0, false, false⟩; let o : Volume := aVolume; s.ctlHere tag 0x27 o.group ∧ tGet? s.mp.snaps snapshot.toNat = some x ∧ s.vol? x.volume = some o ∧ x.hidden = false ∧ s.repl.rels.any (fun e => e.2.base == some snapshot.toNat || e.2.next == some snapshot.toNat || e.2.bases.any (fun b => b.2 == snapshot.toNat)) = true := by
  decide

/-- Clause 16 of `Obligations.ControlGroupAndVolumeRefusals`. -/
theorem witness_ControlGroupAndVolumeRefusals_16_a :
    let s : State := (asked populated 0x28); let tag : Nat := 1; let snapshot : BitVec 32 := 3; let nsid : BitVec 32 := 1025; let x : Snapshot := ⟨1, 1, 0, 0, false, false⟩; let o : Volume := aVolume; s.ctlHere tag 0x28 o.group ∧ tGet? s.mp.snaps snapshot.toNat = some x ∧ s.vol? x.volume = some o ∧ (nsid = 0 ∨ 1024 < nsid.toNat) := by
  decide

/-- Clause 16 of `Obligations.ControlGroupAndVolumeRefusals`. -/
theorem witness_ControlGroupAndVolumeRefusals_16_b :
    let s : State := { (asked populated 0x28) with mp.snaps := [(3, ⟨1, 1, 0, 0, true, false⟩)] }; let tag : Nat := 1; let snapshot : BitVec 32 := 3; let nsid : BitVec 32 := 1024; let x : Snapshot := ⟨1, 1, 0, 0, true, false⟩; let o : Volume := aVolume; s.ctlHere tag 0x28 o.group ∧ tGet? s.mp.snaps snapshot.toNat = some x ∧ s.vol? x.volume = some o ∧ nsid ≠ 0 ∧ nsid.toNat ≤ 1024 ∧ x.hidden = true := by
  decide

/-- Clause 16 of `Obligations.ControlGroupAndVolumeRefusals`. -/
theorem witness_ControlGroupAndVolumeRefusals_16_c :
    let s : State := (asked populated 0x28); let tag : Nat := 1; let snapshot : BitVec 32 := 3; let volume : BitVec 16 := 2; let nsid : BitVec 32 := 1; let x : Snapshot := ⟨1, 1, 0, 0, false, false⟩; let o : Volume := aVolume; s.ctlHere tag 0x28 o.group ∧ tGet? s.mp.snaps snapshot.toNat = some x ∧ s.vol? x.volume = some o ∧ nsid ≠ 0 ∧ nsid.toNat ≤ 1024 ∧ x.hidden = false ∧ ((s.vol? volume.toNat).isSome = true ∨ s.nsidUsed o.tenant nsid.toNat = true) := by
  decide

/-- Clause 16 of `Obligations.ControlGroupAndVolumeRefusals`. -/
theorem witness_ControlGroupAndVolumeRefusals_16_d :
    let s : State := { (asked populated 0x28) with nv.volumes := (List.range 1024).map (fun i => (i + 1, aVolume)) }; let tag : Nat := 1; let snapshot : BitVec 32 := 3; let volume : BitVec 16 := 2000; let nsid : BitVec 32 := 1024; let x : Snapshot := ⟨1, 1, 0, 0, false, false⟩; let o : Volume := aVolume; s.ctlHere tag 0x28 o.group ∧ tGet? s.mp.snaps snapshot.toNat = some x ∧ s.vol? x.volume = some o ∧ nsid ≠ 0 ∧ nsid.toNat ≤ 1024 ∧ x.hidden = false ∧ s.vol? volume.toNat = none ∧ s.nsidUsed o.tenant nsid.toNat = false ∧ 1024 ≤ s.tenantVolumes o.tenant := by
  decide +kernel

/-- Clause 17 of `Obligations.ControlGroupAndVolumeRefusals`. -/
theorem witness_ControlGroupAndVolumeRefusals_17_a :
    let s : State := (asked populated 0x30); let tag : Nat := 1; let volume : BitVec 16 := 1; let op : BitVec 8 := 6; let x : Volume := aVolume; s.ctlHere tag 0x30 x.group ∧ s.vol? volume.toNat = some x ∧ (op = 0 ∨ 5 < op.toNat) := by
  decide

/-- Clause 17 of `Obligations.ControlGroupAndVolumeRefusals`. -/
theorem witness_ControlGroupAndVolumeRefusals_17_b :
    let s : State := (asked populated 0x30); let tag : Nat := 1; let volume : BitVec 16 := 1; let content : Bytes := []; let x : Volume := aVolume; s.ctlHere tag 0x30 x.group ∧ s.vol? volume.toNat = some x ∧ dictForm content = false := by
  decide

/-- Clause 1 of `Obligations.ControlReplicationKeyAndManagementRefusals`. -/
theorem witness_ControlReplicationKeyAndManagementRefusals_1_a :
    let s : State := (asked populated 0x40); let tag : Nat := 1; let rel : BitVec 16 := 9; let volume : BitVec 16 := 1; let mode : BitVec 8 := 1; let interval : BitVec 32 := 59; let array : BitVec 48 := 7; let x : Volume := aVolume; s.ctlHere tag 0x40 x.group ∧ s.vol? volume.toNat = some x ∧ (rel = 0 ∨ mode = 0 ∨ 2 < mode.toNat ∨ array = 0 ∨ array = s.arrayId ∨ (interval ≠ 0 ∧ mode = 1 ∧ (interval.toNat < 60 ∨ 86400 < interval.toNat))) := by
  decide

/-- Clause 1 of `Obligations.ControlReplicationKeyAndManagementRefusals`. -/
theorem witness_ControlReplicationKeyAndManagementRefusals_1_b :
    let s : State := (asked populated 0x40); let tag : Nat := 1; let rel : BitVec 16 := 9; let volume : BitVec 16 := 1; let mode : BitVec 8 := 1; let entry : BitVec 8 := 255; let interval : BitVec 32 := 60; let array : BitVec 48 := 7; let x : Volume := aVolume; s.ctlHere tag 0x40 x.group ∧ s.vol? volume.toNat = some x ∧ rel ≠ 0 ∧ mode ≠ 0 ∧ mode.toNat ≤ 2 ∧ array ≠ 0 ∧ array ≠ s.arrayId ∧ (interval ≠ 0 → mode = 1 → 60 ≤ interval.toNat ∧ interval.toNat ≤ 86400) ∧ s.act (Reg.HEDDLE_ADDR_ATTR_VALID entry.toNat) ≠ 1 := by
  decide

/-- Clause 1 of `Obligations.ControlReplicationKeyAndManagementRefusals`. -/
theorem witness_ControlReplicationKeyAndManagementRefusals_1_c :
    let s : State := { (asked populated 0x40).setAct (Reg.HEDDLE_ADDR_ATTR_VALID 255) 1 with repl.rels := [(9, aRel)] }; let tag : Nat := 1; let rel : BitVec 16 := 9; let volume : BitVec 16 := 1; let mode : BitVec 8 := 1; let entry : BitVec 8 := 255; let interval : BitVec 32 := 60; let array : BitVec 48 := 7; let x : Volume := aVolume; s.ctlHere tag 0x40 x.group ∧ s.vol? volume.toNat = some x ∧ rel ≠ 0 ∧ mode ≠ 0 ∧ mode.toNat ≤ 2 ∧ array ≠ 0 ∧ array ≠ s.arrayId ∧ (interval ≠ 0 → mode = 1 → 60 ≤ interval.toNat ∧ interval.toNat ≤ 86400) ∧ s.act (Reg.HEDDLE_ADDR_ATTR_VALID entry.toNat) = 1 ∧ (s.rel? (relKey (interval.toNat != 0) rel.toNat array)).isSome = true := by
  decide

/-- Clause 1 of `Obligations.ControlReplicationKeyAndManagementRefusals`. -/
theorem witness_ControlReplicationKeyAndManagementRefusals_1_d :
    let s : State := { (asked populated 0x40).setAct (Reg.HEDDLE_ADDR_ATTR_VALID 255) 1 with repl.rels := (List.range 7).map (fun i => (i + 10, aRel)) }; let tag : Nat := 1; let rel : BitVec 16 := 9; let volume : BitVec 16 := 1; let mode : BitVec 8 := 1; let entry : BitVec 8 := 255; let interval : BitVec 32 := 60; let array : BitVec 48 := 7; let x : Volume := aVolume; s.ctlHere tag 0x40 x.group ∧ s.vol? volume.toNat = some x ∧ rel ≠ 0 ∧ mode ≠ 0 ∧ mode.toNat ≤ 2 ∧ array ≠ 0 ∧ array ≠ s.arrayId ∧ (interval ≠ 0 → mode = 1 → 60 ≤ interval.toNat ∧ interval.toNat ≤ 86400) ∧ s.act (Reg.HEDDLE_ADDR_ATTR_VALID entry.toNat) = 1 ∧ s.rel? (relKey (interval.toNat != 0) rel.toNat array) = none ∧ s.relRoom (interval.toNat != 0) volume.toNat mode.toNat array = false := by
  decide

/-- Clause 2 of `Obligations.ControlReplicationKeyAndManagementRefusals`. -/
theorem witness_ControlReplicationKeyAndManagementRefusals_2_a :
    let s : State := (asked populated 0x41); let tag : Nat := 1; let rel : BitVec 16 := 9; let volume : BitVec 16 := 1; let interval : BitVec 32 := 60; let array : BitVec 48 := 7; let x : Volume := aVolume; s.ctlHere tag 0x41 x.group ∧ s.vol? volume.toNat = some x ∧ s.rel? (relKey (interval.toNat != 0) rel.toNat array) = none := by
  decide

/-- Clause 2 of `Obligations.ControlReplicationKeyAndManagementRefusals`. -/
theorem witness_ControlReplicationKeyAndManagementRefusals_2_b :
    let s : State := { (asked populated 0x41).setAct (Reg.HEDDLE_ADDR_ATTR_VALID 255) 1 with repl.rels := [(9, aRel)] }; let tag : Nat := 1; let rel : BitVec 16 := 9; let volume : BitVec 16 := 1; let interval : BitVec 32 := 86401; let array : BitVec 48 := 7; let x : Volume := aVolume; let r := aRel; s.ctlHere tag 0x41 x.group ∧ s.vol? volume.toNat = some x ∧ s.rel? (relKey (interval.toNat != 0) rel.toNat array) = some r ∧ interval ≠ 0 ∧ r.mode = 1 ∧ (interval.toNat < 60 ∨ 86400 < interval.toNat) := by
  decide

/-- Clause 2 of `Obligations.ControlReplicationKeyAndManagementRefusals`. -/
theorem witness_ControlReplicationKeyAndManagementRefusals_2_c :
    let s : State := { (asked populated 0x41).setAct (Reg.HEDDLE_ADDR_ATTR_VALID 255) 1 with repl.rels := [(9, aRel)] }; let tag : Nat := 1; let rel : BitVec 16 := 9; let volume : BitVec 16 := 1; let entry : BitVec 8 := 254; let interval : BitVec 32 := 60; let array : BitVec 48 := 7; let x : Volume := aVolume; let r := aRel; s.ctlHere tag 0x41 x.group ∧ s.vol? volume.toNat = some x ∧ s.rel? (relKey (interval.toNat != 0) rel.toNat array) = some r ∧ (interval ≠ 0 → r.mode = 1 → 60 ≤ interval.toNat ∧ interval.toNat ≤ 86400) ∧ s.act (Reg.HEDDLE_ADDR_ATTR_VALID entry.toNat) ≠ 1 := by
  decide

/-- Clause 2 of `Obligations.ControlReplicationKeyAndManagementRefusals`. -/
theorem witness_ControlReplicationKeyAndManagementRefusals_2_d :
    let s : State := { (asked populated 0x41).setAct (Reg.HEDDLE_ADDR_ATTR_VALID 255) 1 with repl.rels := [(9, aRel)] }; let tag : Nat := 1; let rel : BitVec 16 := 9; let volume : BitVec 16 := 1; let mode : BitVec 8 := 2; let entry : BitVec 8 := 255; let interval : BitVec 32 := 60; let array : BitVec 48 := 7; let x : Volume := aVolume; let r := aRel; s.ctlHere tag 0x41 x.group ∧ s.vol? volume.toNat = some x ∧ s.rel? (relKey (interval.toNat != 0) rel.toNat array) = some r ∧ (interval ≠ 0 → r.mode = 1 → 60 ≤ interval.toNat ∧ interval.toNat ≤ 86400) ∧ s.act (Reg.HEDDLE_ADDR_ATTR_VALID entry.toNat) = 1 ∧ (r.mode ≠ mode.toNat ∨ r.volume ≠ volume.toNat ∨ r.peer ≠ array ∨ r.source ≠ (interval.toNat != 0)) := by
  decide

/-- Clause 3 of `Obligations.ControlReplicationKeyAndManagementRefusals`. -/
theorem witness_ControlReplicationKeyAndManagementRefusals_3 :
    let s : State := (asked populated 0x42); let tag : Nat := 1; let rel : BitVec 16 := 9; s.ctlGo tag 0x42 ∧ s.relNamed rel.toNat = none := by
  decide

/-- Clause 4 of `Obligations.ControlReplicationKeyAndManagementRefusals`. -/
theorem witness_ControlReplicationKeyAndManagementRefusals_4_a :
    let s : State := (asked populated 0x50); let tag : Nat := 1; let slot : BitVec 16 := 32768; s.ctlGo tag 0x50 ∧ 32767 < slot.toNat := by
  decide

/-- Clause 4 of `Obligations.ControlReplicationKeyAndManagementRefusals`. -/
theorem witness_ControlReplicationKeyAndManagementRefusals_4_b :
    let s : State := { (asked populated 0x50) with sec.op := some ⟨1, none, false, none⟩ }; let tag : Nat := 1; let slot : BitVec 16 := 32767; s.ctlGo tag 0x50 ∧ slot.toNat ≤ 32767 ∧ s.sec.op.isSome = true := by
  decide

/-- Clause 5 of `Obligations.ControlReplicationKeyAndManagementRefusals`. -/
theorem witness_ControlReplicationKeyAndManagementRefusals_5_a :
    let s : State := (asked populated 0x51); let tag : Nat := 1; let slot : BitVec 16 := 0; let peer : BitVec 8 := 16; s.ctlGo tag 0x51 ∧ (15 < peer.toNat ∨ 32767 < slot.toNat) := by
  decide

/-- Clause 5 of `Obligations.ControlReplicationKeyAndManagementRefusals`. -/
theorem witness_ControlReplicationKeyAndManagementRefusals_5_b :
    let s : State := { (asked populated 0x51) with sec.op := some ⟨1, none, false, none⟩ }; let tag : Nat := 1; let slot : BitVec 16 := 0; let peer : BitVec 8 := 15; s.ctlGo tag 0x51 ∧ peer.toNat ≤ 15 ∧ slot.toNat ≤ 32767 ∧ s.sec.op.isSome = true := by
  decide

/-- Clause 5 of `Obligations.ControlReplicationKeyAndManagementRefusals`. -/
theorem witness_ControlReplicationKeyAndManagementRefusals_5_c :
    let s : State := (asked populated 0x51); let tag : Nat := 1; let slot : BitVec 16 := 1; let peer : BitVec 8 := 15; s.ctlGo tag 0x51 ∧ peer.toNat ≤ 15 ∧ slot.toNat ≤ 32767 ∧ s.sec.op = none ∧ (s.keyExport slot.toNat peer.toNat).1 ≠ 1 := by
  decide

/-- Clause 6 of `Obligations.ControlReplicationKeyAndManagementRefusals`. -/
theorem witness_ControlReplicationKeyAndManagementRefusals_6_a :
    let s : State := { (asked populated 0x52) with sec.op := some ⟨1, none, false, none⟩ }; let tag : Nat := 1; s.ctlGo tag 0x52 ∧ s.sec.op.isSome = true := by
  decide

/-- Clause 6 of `Obligations.ControlReplicationKeyAndManagementRefusals`. -/
theorem witness_ControlReplicationKeyAndManagementRefusals_6_b :
    let s : State := (asked populated 0x53); let tag : Nat := 1; let peer : BitVec 8 := 15; let key : Bytes := []; s.ctlGo tag 0x53 ∧ (15 < peer.toNat ∨ key.length ≠ 96) := by
  decide

/-- Clause 6 of `Obligations.ControlReplicationKeyAndManagementRefusals`. -/
theorem witness_ControlReplicationKeyAndManagementRefusals_6_c :
    let s : State := { (asked populated 0x53) with sec.op := some ⟨1, none, false, none⟩ }; let tag : Nat := 1; let peer : BitVec 8 := 15; let key : Bytes := List.replicate 96 0; s.ctlGo tag 0x53 ∧ peer.toNat ≤ 15 ∧ key.length = 96 ∧ s.sec.op.isSome = true := by
  decide

/-- Clause 7 of `Obligations.ControlReplicationKeyAndManagementRefusals`. -/
theorem witness_ControlReplicationKeyAndManagementRefusals_7 :
    let s : State := (asked populated 0x55); let tag : Nat := 1; let reg : BitVec 8 := 24; s.ctlGo tag 0x55 ∧ (reg.toNat < 16 ∨ 23 < reg.toNat) := by
  decide

/-- Clause 8 of `Obligations.ControlReplicationKeyAndManagementRefusals`. -/
theorem witness_ControlReplicationKeyAndManagementRefusals_8 :
    let s : State := (asked populated 0x57); let tag : Nat := 1; let confirm : BitVec 8 := 0; s.ctlGo tag 0x57 ∧ (s.sec.latch = false ∨ s.sec.alarms ≠ 0 ∨ confirm.setWidth 6 ≠ ~~~s.sec.sources) := by
  decide

/-- Clause 9 of `Obligations.ControlReplicationKeyAndManagementRefusals`. -/
theorem witness_ControlReplicationKeyAndManagementRefusals_9_a :
    let s : State := { asked managed 0x60 with mgmt.update := some (.control, anImage, none) }; let tag : Nat := 1; s.ctlGo tag 0x60 ∧ s.updating = true := by
  decide

/-- Clause 9 of `Obligations.ControlReplicationKeyAndManagementRefusals`. -/
theorem witness_ControlReplicationKeyAndManagementRefusals_9_b :
    let s : State := { asked managed 0x60 with mgmt.running := false }; let tag : Nat := 1; s.ctlGo tag 0x60 ∧ s.updating = false ∧ s.mgmt.running = false := by
  decide

/-- Clause 10 of `Obligations.ControlReplicationKeyAndManagementRefusals`. -/
theorem witness_ControlReplicationKeyAndManagementRefusals_10 :
    let s : State := (asked managed 0x61); let tag : Nat := 1; s.ctlGo tag 0x61 ∧ ((if s.mgmt.bootedB then s.mgmt.slotB else s.mgmt.slotA) = none ∨ s.mgmt.dirTrial = true ∨ s.mgmt.running = false) := by
  decide

/-- Clause 11 of `Obligations.ControlReplicationKeyAndManagementRefusals`. -/
theorem witness_ControlReplicationKeyAndManagementRefusals_11 :
    let s : State := (asked populated 0x70); let tag : Nat := 1; let period : BitVec 8 := 64; let ringEn : BitVec 8 := 0; s.ctlGo tag 0x70 ∧ (period = 0 ∨ 63 < period.toNat ∨ 1 < ringEn.toNat) := by
  decide

/-- Clause 1 of `Obligations.ControlReplicationKeyAndManagementCommandsComplete`. -/
theorem witness_ControlReplicationKeyAndManagementCommandsComplete_1_a :
    let s : State := (asked populated 0x40).setAct (Reg.HEDDLE_ADDR_ATTR_VALID 255) 1; let tag : Nat := 1; let rel : BitVec 16 := 9; let volume : BitVec 16 := 1; let mode : BitVec 8 := 1; let entry : BitVec 8 := 255; let interval : BitVec 32 := 60; let array : BitVec 48 := 7; let x : Volume := aVolume; s.ctlHere tag 0x40 x.group ∧ s.vol? volume.toNat = some x ∧ rel ≠ 0 ∧ (mode = 1 ∨ mode = 2) ∧ array ≠ 0 ∧ array ≠ s.arrayId ∧ s.act (Reg.HEDDLE_ADDR_ATTR_VALID entry.toNat) = 1 ∧ interval ≠ 0 ∧ (mode = 1 → 60 ≤ interval.toNat ∧ interval.toNat ≤ 86400) ∧ s.rel? rel.toNat = none ∧ s.relRoom true volume.toNat mode.toNat array = true := by
  decide

/-- Clause 1 of `Obligations.ControlReplicationKeyAndManagementCommandsComplete`. -/
theorem witness_ControlReplicationKeyAndManagementCommandsComplete_1_b :
    let s : State := (asked populated 0x40).setAct (Reg.HEDDLE_ADDR_ATTR_VALID 255) 1; let tag : Nat := 1; let rel : BitVec 16 := 9; let volume : BitVec 16 := 1; let mode : BitVec 8 := 1; let entry : BitVec 8 := 255; let array : BitVec 48 := 7; let x : Volume := aVolume; s.ctlHere tag 0x40 x.group ∧ s.vol? volume.toNat = some x ∧ rel ≠ 0 ∧ (mode = 1 ∨ mode = 2) ∧ array ≠ 0 ∧ array ≠ s.arrayId ∧ s.act (Reg.HEDDLE_ADDR_ATTR_VALID entry.toNat) = 1 ∧ s.rel? (relKey false rel.toNat array) = none ∧ s.relRoom false volume.toNat mode.toNat array = true := by
  decide

/-- Clause 2 of `Obligations.ControlReplicationKeyAndManagementCommandsComplete`. -/
theorem witness_ControlReplicationKeyAndManagementCommandsComplete_2_a :
    let tag : Nat := 1; let rel : BitVec 16 := 9; let volume : BitVec 16 := 1; let mode : BitVec 8 := 1; let entry : BitVec 8 := 255; let s : State := { (asked populated 0x41).setAct (Reg.HEDDLE_ADDR_ATTR_VALID 255) 1 with repl.rels := [(9, { aRel with entry := 255 })] }; let interval : BitVec 32 := 60; let array : BitVec 48 := 7; let ip : BitVec 128 := 5; let x : Volume := aVolume; let r : Rel := { aRel with entry := 255 }; s.ctlHere tag 0x41 x.group ∧ s.vol? volume.toNat = some x ∧ interval.toNat ≠ 0 ∧ s.rel? rel.toNat = some r ∧ (r.mode = 1 → 60 ≤ interval.toNat ∧ interval.toNat ≤ 86400) ∧ s.act (Reg.HEDDLE_ADDR_ATTR_VALID entry.toNat) = 1 ∧ r.mode = mode.toNat ∧ r.volume = volume.toNat ∧ r.peer = array ∧ r.source = true ∧ r.entry = entry.toNat ∧ r.ip = ip := by
  decide

/-- Clause 2 of `Obligations.ControlReplicationKeyAndManagementCommandsComplete`. -/
theorem witness_ControlReplicationKeyAndManagementCommandsComplete_2_b :
    let s : State := { (asked populated 0x41).setAct (Reg.HEDDLE_ADDR_ATTR_VALID 255) 1 with repl.rels := [(9, aRel)] }; let tag : Nat := 1; let rel : BitVec 16 := 9; let volume : BitVec 16 := 1; let mode : BitVec 8 := 1; let entry : BitVec 8 := 255; let interval : BitVec 32 := 60; let array : BitVec 48 := 7; let ip : BitVec 128 := 0; let x : Volume := aVolume; let r : Rel := aRel; s.ctlHere tag 0x41 x.group ∧ s.vol? volume.toNat = some x ∧ interval.toNat ≠ 0 ∧ s.rel? rel.toNat = some r ∧ (r.mode = 1 → 60 ≤ interval.toNat ∧ interval.toNat ≤ 86400) ∧ s.act (Reg.HEDDLE_ADDR_ATTR_VALID entry.toNat) = 1 ∧ r.mode = mode.toNat ∧ r.volume = volume.toNat ∧ r.peer = array ∧ r.source = true ∧ (r.entry ≠ entry.toNat ∨ r.ip ≠ ip) := by
  decide

/-- Clause 3 of `Obligations.ControlReplicationKeyAndManagementCommandsComplete`. -/
theorem witness_ControlReplicationKeyAndManagementCommandsComplete_3 :
    let s : State := { (asked populated 0x41).setAct (Reg.HEDDLE_ADDR_ATTR_VALID 255) 1 with repl.rels := [(relKey false 9 7, { aRel with source := false })] }; let tag : Nat := 1; let rel : BitVec 16 := 9; let volume : BitVec 16 := 1; let mode : BitVec 8 := 1; let entry : BitVec 8 := 255; let array : BitVec 48 := 7; let x : Volume := aVolume; let r : Rel := { aRel with source := false }; s.ctlHere tag 0x41 x.group ∧ s.vol? volume.toNat = some x ∧ s.rel? (relKey false rel.toNat array) = some r ∧ s.act (Reg.HEDDLE_ADDR_ATTR_VALID entry.toNat) = 1 ∧ r.mode = mode.toNat ∧ r.volume = volume.toNat ∧ r.peer = array ∧ r.source = false := by
  decide

/-- Clause 4 of `Obligations.ControlReplicationKeyAndManagementCommandsComplete`. -/
theorem witness_ControlReplicationKeyAndManagementCommandsComplete_4 :
    let s := { asked populated 0x42 with repl.rels := [(9, aRel)] }; s.ctlHere 1 0x42 aVolume.group ∧ s.relNamed 9 = some (9, aRel) ∧ s.vol? 1 = some aVolume := by
  decide

/-- Clause 5 of `Obligations.ControlReplicationKeyAndManagementCommandsComplete`. -/
theorem witness_ControlReplicationKeyAndManagementCommandsComplete_5 :
    let s := asked populated 0x50; s.ctlGo 1 0x50 ∧ s.sec.op = none := by
  decide

/-- Clause 6 of `Obligations.ControlReplicationKeyAndManagementCommandsComplete`. -/
theorem witness_ControlReplicationKeyAndManagementCommandsComplete_6 :
    let s := { (asked live 0x51).setFld Reg.LIFE_STATUS_STATE 2 with sec.slots := [(1, { emptySlot with material := [7] })], sec.peers := [(15, [1])] }; s.ctlGo 1 0x51 ∧ s.sec.op = none ∧ (s.keyExport 1 15).1 = 1 := by
  decide

/-- Clause 7 of `Obligations.ControlReplicationKeyAndManagementCommandsComplete`. -/
theorem witness_ControlReplicationKeyAndManagementCommandsComplete_7 :
    let s := asked populated 0x52; s.ctlGo 1 0x52 ∧ s.sec.op = none := by
  decide

/-- Clause 8 of `Obligations.ControlReplicationKeyAndManagementCommandsComplete`. -/
theorem witness_ControlReplicationKeyAndManagementCommandsComplete_8 :
    let s := asked populated 0x53; s.ctlGo 1 0x53 ∧ s.sec.op = none ∧ (List.replicate 96 (1 : BitVec 8)).length = 96 := by
  decide

/-- Clause 9 of `Obligations.ControlReplicationKeyAndManagementCommandsComplete`. -/
theorem witness_ControlReplicationKeyAndManagementCommandsComplete_9 :
    (asked populated 0x54).ctlGo 1 0x54 := by
  decide

/-- Clause 10 of `Obligations.ControlReplicationKeyAndManagementCommandsComplete`. -/
theorem witness_ControlReplicationKeyAndManagementCommandsComplete_10 :
    (asked populated 0x55).ctlGo 1 0x55 ∧ 16 ≤ (23 : BitVec 8).toNat ∧ (23 : BitVec 8).toNat ≤ 23 := by
  decide

/-- Clause 11 of `Obligations.ControlReplicationKeyAndManagementCommandsComplete`. -/
theorem witness_ControlReplicationKeyAndManagementCommandsComplete_11 :
    let s := asked populated 0x56; s.ctlGo 1 0x56 ∧ s.lifeRefusal 1 true = none ∧ s.lifeRefusal 2 true = some 1 := by
  decide

/-- Clause 12 of `Obligations.ControlReplicationKeyAndManagementCommandsComplete`. -/
theorem witness_ControlReplicationKeyAndManagementCommandsComplete_12 :
    let s := { asked live 0x57 with sec.latch := true, sec.sources := 1 }; s.ctlGo 1 0x57 ∧ s.sec.latch = true ∧ s.sec.alarms = 0 ∧ (0x3E : BitVec 8).setWidth 6 = ~~~s.sec.sources := by
  decide

/-- Clause 13 of `Obligations.ControlReplicationKeyAndManagementCommandsComplete`. -/
theorem witness_ControlReplicationKeyAndManagementCommandsComplete_13 :
    let s := asked managed 0x60; s.ctlGo 1 0x60 ∧ s.updating = false ∧ s.mgmt.running = true := by
  decide

/-- Clause 14 of `Obligations.ControlReplicationKeyAndManagementCommandsComplete`. -/
theorem witness_ControlReplicationKeyAndManagementCommandsComplete_14 :
    let s : State := { asked managed 0x61 with mgmt.slotA := some anImage }; let tag : Nat := 1; let i : Image := anImage; s.ctlGo tag 0x61 ∧ (if s.mgmt.bootedB then s.mgmt.slotB else s.mgmt.slotA) = some i ∧ s.mgmt.dirTrial = false ∧ s.mgmt.running = true := by
  decide

/-- Clause 15 of `Obligations.ControlReplicationKeyAndManagementCommandsComplete`. -/
theorem witness_ControlReplicationKeyAndManagementCommandsComplete_15 :
    (asked populated 0x70).ctlGo 1 0x70 ∧ (1 : BitVec 8).toNat ≤ 1 ∧ (63 : BitVec 8).toNat ≤ 63 := by
  decide

/-- Clause 16 of `Obligations.ControlReplicationKeyAndManagementCommandsComplete`. -/
theorem witness_ControlReplicationKeyAndManagementCommandsComplete_16 :
    live.accepts Reg.REPL_REL_CMD := by
  decide

/-- Clause 1 of `Obligations.UpstreamAndControlRingCommandsComplete`. -/
theorem witness_UpstreamAndControlRingCommandsComplete_1 :
    live.chip.perstN = true := by
  decide

/-- Clause 2 of `Obligations.UpstreamAndControlRingCommandsComplete`. -/
theorem witness_UpstreamAndControlRingCommandsComplete_2_a :
    let s : State := live; let t : State := { s with chip.perstN := true }; t.chip.cond ≠ .reset ∧ t.chip.mainPwrOk = true := by
  decide

/-- Clause 2 of `Obligations.UpstreamAndControlRingCommandsComplete`. -/
theorem witness_UpstreamAndControlRingCommandsComplete_2_b :
    let s : State := { live with chip.mainPwrOk := false }; let t : State := { s with chip.perstN := true }; (t.chip.cond = .reset ∨ t.chip.mainPwrOk = false) := by
  decide

/-- Clause 3 of `Obligations.UpstreamAndControlRingCommandsComplete`. -/
theorem witness_UpstreamAndControlRingCommandsComplete_3 :
    let s := { live with up.cfgReady := true }; s.chip.perstN = true ∧ s.chip.cond ≠ .reset ∧ s.up.cfgReady = true := by
  decide

/-- Clause 6 of `Obligations.UpstreamAndControlRingCommandsComplete`. -/
theorem witness_UpstreamAndControlRingCommandsComplete_6 :
    live.barReachable = true ∧ (15 : BitVec 32).toNat < live.ringSize 0 := by
  decide

/-- Clause 7 of `Obligations.UpstreamAndControlRingCommandsComplete`. -/
theorem witness_UpstreamAndControlRingCommandsComplete_7 :
    live.barReachable = true ∧ (15 : BitVec 32).toNat < live.evRingSize := by
  decide

/-- Clause 8 of `Obligations.UpstreamAndControlRingCommandsComplete`. -/
theorem witness_UpstreamAndControlRingCommandsComplete_8 :
    let s := { live.setReg (Reg.CTLCH_RING_SIZE 0) 0x8000000000000004 with up.rings := [(0, ⟨0, 1, 0, 0, true⟩)] }; s.bit (Reg.CTLCH_RING_SIZE_EN 0) = true ∧ s.dmaAllowed = true ∧ (s.ring 0).sqHead ≠ (s.ring 0).sqTail ∧ (s.up.cmds.filter (fun c => c.2.done.isNone)).length < 256 ∧ s.fetchCheck 1 0 1 = none := by
  decide

/-- Clause 9 of `Obligations.UpstreamAndControlRingCommandsComplete`. -/
theorem witness_UpstreamAndControlRingCommandsComplete_9 :
    let s := { live.setReg (Reg.CTLCH_RING_SIZE 0) 0x8000000000000004 with up.cmds := [(3, ⟨0, 5, 1, false, 0, false, some (.ok, 0, 0), none⟩)] }; (tGet? s.up.cmds 3).isSome ∧ s.bit (Reg.CTLCH_RING_SIZE_EN 0) = true ∧ s.dmaAllowed = true ∧ ((s.ring 0).cqTail + 1) % s.ringSize 0 ≠ (s.ring 0).cqHead := by
  decide

/-- Clause 10 of `Obligations.UpstreamAndControlRingCommandsComplete`. -/
theorem witness_UpstreamAndControlRingCommandsComplete_10 :
    live.accepts Reg.CTLCH_ALIVE := by
  decide

/-- Clause 12 of `Obligations.UpstreamAndControlRingCommandsComplete`. -/
theorem witness_UpstreamAndControlRingCommandsComplete_12 :
    (15 : Fin 17).val < 16 ∧ live.accepts (Reg.CTLCH_RING_SIZE (15 : Fin 17)) ∧ live.bit (Reg.CTLCH_RING_SIZE_EN (15 : Fin 17)) = false := by
  decide

/-- Clause 13 of `Obligations.UpstreamAndControlRingCommandsComplete`. -/
theorem witness_UpstreamAndControlRingCommandsComplete_13 :
    (0 : Fin 17).val < 16 ∧ live.accepts (Reg.CTLCH_RING_SIZE (0 : Fin 17)) := by
  decide

/-- Clause 15 of `Obligations.UpstreamAndControlRingCommandsComplete`. -/
theorem witness_UpstreamAndControlRingCommandsComplete_15 :
    let s := { live with up.cmds := [(3, ⟨0, 5, 0xFFFF, false, 0, false, none, none⟩)] }; (tGet? s.up.cmds 3).isSome ∧ opcodeTable.any (fun o => o.1 == 0xFFFF) = false := by
  decide

/-- Clause 5 of `Obligations.PickAndTraceCommandsComplete`. -/
theorem witness_PickAndTraceCommandsComplete_5a :
    live.accepts Reg.PICK_RD_CMD ∧ tenantBase ≤ (BitVec.ofNat 32 tenantBase).toNat ∧ (BitVec.ofNat 32 tenantBase).toNat < tenantBase + tenantCounters := by
  decide

/-- Clause 5 of `Obligations.PickAndTraceCommandsComplete`. -/
theorem witness_PickAndTraceCommandsComplete_5b :
    (BitVec.ofNat 32 (tenantBase + tenantCounters - 1)).toNat < tenantBase + tenantCounters := by
  decide

/-! ## Smoke tests of the operand checks: for each check an ill-formed command that it refuses -/

def someBuf : CtlBuf := .good

theorem test_wf_registerWrite_empty : (Instr.registerWrite 0 0 0).wellFormed = false := by decide
theorem test_wf_registerWrite_nine : (Instr.registerWrite 0 9 0).wellFormed = false := by decide
theorem test_wf_registerWrite_eight : (Instr.registerWrite 0 8 0).wellFormed = true := by decide
theorem test_wf_discardedRead : (Instr.discardedRead 0 9).wellFormed = false := by decide
theorem test_wf_dramTrainingDone : (Instr.dramTrainingDone [3, 3] 64 6400).wellFormed = false := by decide
theorem test_wf_frameReceive : (Instr.frameReceive { port := 0, tags := 0, vlan := 0, ipBytes := 65536, unsupported := false, body := .control } 0 0).wellFormed = false := by decide
theorem test_wf_rdmaReadResponse : (Instr.rdmaReadResponse ⟨5, 1⟩ 0 [] true).wellFormed = false := by decide
theorem test_wf_h2cData : (Instr.h2cData 5 0 0 []).wellFormed = false := by decide
theorem test_wf_connect_host : (Instr.connect ⟨5, 1⟩ ⟨List.replicate 224 0, 0, [], 0, 0, 32, 0⟩).wellFormed = false := by decide
theorem test_wf_connect_subsystem : (Instr.connect ⟨5, 1⟩ ⟨[], 0, List.replicate 224 0, 0, 0, 32, 0⟩).wellFormed = false := by decide
theorem test_wf_formatNvm_lbaf : (Instr.formatNvm ⟨5, 1⟩ 1 64 0 0).wellFormed = false := by decide
theorem test_wf_formatNvm_nsid : (Instr.formatNvm ⟨5, 1⟩ 0x100000000 0 0 0).wellFormed = false := by decide
theorem test_wf_flush : (Instr.flush ⟨5, 1⟩ 0x100000000).wellFormed = false := by decide
theorem test_wf_write_length : (Instr.write ⟨5, 1⟩ 1 ⟨0, 0⟩ false noPiReq [] .same).wellFormed = false := by decide
theorem test_wf_write_nsid : (Instr.write ⟨5, 1⟩ 0x100000000 ⟨0, 1⟩ false noPiReq [] .same).wellFormed = false := by decide
theorem test_wf_read : (Instr.read ⟨5, 1⟩ 1 ⟨0, 65537⟩ noPiReq .same).wellFormed = false := by decide
theorem test_wf_compare : (Instr.compare ⟨5, 1⟩ 1 ⟨0, 0⟩ noPiReq [] .same).wellFormed = false := by decide
theorem test_wf_writeZeroes : (Instr.writeZeroes ⟨5, 1⟩ 1 ⟨0, 65537⟩ false .same).wellFormed = false := by decide
theorem test_wf_datasetManagement_none : (Instr.datasetManagement ⟨5, 1⟩ 1 [] true .same).wellFormed = false := by decide
theorem test_wf_datasetManagement_many : (Instr.datasetManagement ⟨5, 1⟩ 1 (List.replicate 257 ⟨0, 1⟩) true .same).wellFormed = false := by decide
theorem test_wf_copy : (Instr.copy ⟨5, 1⟩ 1 ⟨0, 0⟩ 0 false false false .same).wellFormed = false := by decide
theorem test_wf_claim : (Instr.claim 1 1 [] none).wellFormed = false := by decide
theorem test_wf_slotChainFrame : (Instr.slotChainFrame [0] 0x5A).wellFormed = false := by decide
theorem test_wf_replayLimitQuadDrop : (Instr.replayLimitQuadDrop [0, 0, 0, 0, 0]).wellFormed = false := by decide
theorem test_wf_keysImport : (Instr.keysImport 0 1 (List.replicate 25 0)).wellFormed = false := by decide
theorem test_wf_keysPeerSet : (Instr.keysPeerSet 0 (List.replicate 95 0)).wellFormed = false := by decide
theorem test_wf_ecdh : (Instr.ecdh 1 (List.replicate 65 0) 2).wellFormed = false := by decide
theorem test_wf_expandLabel_label : (Instr.expandLabel 1 (List.replicate 250 0) [] (.derived 2)).wellFormed = false := by decide
theorem test_wf_expandLabel_context : (Instr.expandLabel 1 [] (List.replicate 256 0) (.derived 2)).wellFormed = false := by decide
theorem test_wf_mac : (Instr.mac 1 (List.replicate 33 0)).wellFormed = false := by decide
theorem test_wf_railPoll : (Instr.railPoll (List.replicate 11 0) (List.replicate 12 0) (List.replicate 12 0) 0).wellFormed = false := by decide
theorem test_wf_thermalSample : (Instr.thermalSample (List.replicate 63 0)).wellFormed = false := by decide
theorem test_wf_traceSyncTimer : (Instr.traceSyncTimer (List.replicate 16 0)).wellFormed = false := by decide
theorem test_wf_tenantCreate_sn : (Instr.tenantCreate 1 someBuf 1 0 0 0 [1] (List.replicate 19 0) (List.replicate 40 0)).wellFormed = false := by decide
theorem test_wf_tenantHosts : (Instr.tenantHosts 1 someBuf 1 0 0 (List.replicate 257 0)).wellFormed = false := by decide
theorem test_wf_tenantPskMap : (Instr.tenantPskMap 1 someBuf 1 0 (List.replicate 257 0)).wellFormed = false := by decide
theorem test_wf_snapshotCreate : (Instr.snapshotCreate 1 someBuf []).wellFormed = false := by decide
theorem test_wf_dictControl (n : Nat) (h : 65536 < n) : (Instr.dictControl 1 someBuf 1 0 (List.replicate n 0)).wellFormed = false := by
  show decide ((List.replicate n (0 : BitVec 8)).length ≤ 65536) = false
  rw [List.length_replicate]; exact decide_eq_false (by omega)
theorem test_wf_keyImport : (Instr.keyImport 1 someBuf 1 0 (List.replicate 16 0)).wellFormed = false := by decide
theorem test_wf_peerSet : (Instr.peerSet 1 someBuf 0 (List.replicate 97 0)).wellFormed = false := by decide

/-! ## Small tests; each expected value is read from the rule named -/

/-- R129: the write deadline of LC0 is 60 µs, the read deadline of LC2 2 ms. -/
theorem test_deadline_lc0_write : classDeadline 0 true = 60000 := by decide
theorem test_deadline_lc2_read : classDeadline 2 false = 2000000 := by decide

/-- R480: 10 µs is the first latency of bin 1, 163,840 µs of bin 15. -/
theorem test_latency_bin_one : latencyBin 10000 = 1 := by decide
theorem test_latency_bin_last : latencyBin 163840000 = 15 := by decide

/-- R23: page 169 is the last block, page 170 holds none. -/
theorem test_last_block_page : (blockAt 169).isSome = true := by decide
theorem test_first_empty_page : blockAt 170 = none := by decide

/-- The queue is first in, first out: a step runs the command at the front on the state with the queue's rest. -/
theorem test_step_front_first : step { State.reset with pending := [.energyOverrun, .energyOverrun] } =
    exec .energyOverrun { State.reset with pending := [.energyOverrun] } := rfl

/-- R483: an epoch that is not a whole minute is skipped while both shadows are occupied, and the count of gaps advances. -/
theorem test_shadow_skips : (({ State.reset with pick.held := [⟨0, 60 * 10 ^ 9, 0, []⟩, ⟨1, 61 * 10 ^ 9, 0, []⟩] } : State).takeSnap
    ⟨2, 62 * 10 ^ 9, 0, []⟩).pick.gap = 1 := by decide

/-- R342: when no quad shows an uncorrectable codeword, the highest-numbered quad is dropped. -/
theorem test_worst_quad_none : (linked.setFld Reg.DIKOR_STATUS_QUAD_MASK 31).worstQuad [0, 0, 0, 0, 0, 0] = some 4 := by decide +kernel
/-- R343: with four good quads left the link narrows (`LSTATE` 8) and names its mask. -/
theorem test_quad_loss_narrows : ((linked.setFld Reg.DIKOR_STATUS_QUAD_MASK 31).quadLost 0).dk.named = some 30 := by decide +kernel

/-- R308: the marker of a chain frame is 0x5A; the third bad one in a row sets CHAIN_FAULT. -/
theorem test_chain_fault : (((live.chainMark 0).chainMark 0).chainMark 0).bit Reg.SLOT_STATUS_CHAIN_FAULT = true := by decide

/-- R505: a token that is found answers REPLAYED with the results kept. -/
theorem test_token_replayed : ({ live with up.results := [(9, 1, 2)] } : State).fetchCheck 1 9 1 = some (.replayed, 1, 2) := by decide

/-- The row of R284's worked example at one byte: 22 data members, all zero but three. -/
def parityRow : List Bytes := (List.range 22).map (fun i => if i = 3 then [0x5A] else if i = 9 then [0xC3] else if i = 12 then [0x17] else [0])
/-- R284 (the example of spec/11_parity.md): P is 0x8E and Q 0xDB. -/
theorem test_parity_example : (parityP parityRow, parityQ parityRow) = ([0x8E], [0xDB]) := by decide
/-- R286 (same example): members 9 and 12 are rebuilt from P, Q and member 3. -/
theorem test_parity_rebuild : rebuildData 22 (fun m => (rowUnits parityRow).getD m []) [9, 12] = [(9, [0xC3]), (12, [0x17])] := by
  decide +kernel

/-- R226 (the example of spec/08_data_reduction.md): the first 24 bytes of the header of a 1,837-byte frame compressed with a dictionary. -/
theorem test_form_header : (formHeader ⟨0x9C4107D32E88F015, 0x0400011A2B, 2, 1837, 0x028, true, false, 0x40012302, [], []⟩).take 24 =
    [0x15, 0xF0, 0x88, 0x2E, 0xD3, 0x07, 0x41, 0x9C, 0x2B, 0x1A, 0x01, 0x00, 0x04, 0x02, 0x2D, 0x07, 0x28, 0x10, 0x02, 0x23, 0x01, 0x40,
      0, 0] := by decide

/-- R252 (the example of spec/09_maps.md): a record of four COPY entries is 2,272 bytes; R376's of 128 TAKEOVER entries is 2,144. -/
theorem test_copy_record_bytes : 64 + 32 + 4 * ctlBytes ⟨0x01, []⟩ = 2272 := by decide
theorem test_takeover_record_bytes : 64 + 32 + 128 * ctlBytes ⟨0x20, []⟩ = 2144 := by decide

/-- R434 to R437 (the example of spec/17_power.md): zone 2 at 102.0 degrees takes loop 2 from I 7.0 to 6.89999 and u 5.0. -/
def zoneHot : State :=
  ((((((((live.setReg (Reg.TEMPLE_SP 2) 0x640000).setReg (Reg.TEMPLE_SP_TARGET 2) 0x640000).setReg (Reg.TEMPLE_I 2) 458752).setReg
    (Reg.THERM_SENSOR 17) 0x6600).setReg (Reg.TEMPLE_KP 2) 0x8000).setReg (Reg.TEMPLE_KI 2) 0xCCD).setReg (Reg.TEMPLE_KD 2) 0x20000).setReg
    (Reg.TEMPLE_ALPHA 2) 0x4000).setLoop 2 { loopDefault 2 with df := 13107, pvPrev := 101 * 65536 }
theorem test_loop_output : (zoneHot.loopSample 2).reg (Reg.TEMPLE_U 2) = 327680 := by decide
theorem test_loop_integrator : (zoneHot.loopSample 2).reg (Reg.TEMPLE_I 2) = 452198 := by decide
theorem test_loop_filter : ((zoneHot.loopSample 2).loop 2).df = 29491 := by decide

end Sys2Proof.Tests
end

/-! Proofs of the register model's family (spec/02): the pages of BAR0 that the blocks occupy (R23), and the interrupt
sources that the blocks hold (R37). Both follow from one fact of the table: each row's pages begin where the row before
it ends. -/

namespace Sys2Proof

/-! ## One row of the table -/

namespace BlockInfo

/-- The row's instances occupy this page. -/
def onPage (b : BlockInfo) (page : Nat) : Bool := b.page ≤ page && page < b.page + b.count

@[simp] theorem onPage_iff (b : BlockInfo) (page : Nat) :
    b.onPage page = true ↔ b.page ≤ page ∧ page < b.page + b.count := by
  simp [onPage]

/-- The sources that a row's instances below this page hold. -/
def intsBelow (b : BlockInfo) (page : Nat) : Nat := b.ints * min b.count (page - b.page)

theorem intsBelow_succ (b : BlockInfo) (page : Nat) :
    b.intsBelow (page + 1) = b.intsBelow page + if b.onPage page then b.ints else 0 := by
  unfold intsBelow
  by_cases h : b.onPage page = true
  · obtain ⟨hlo, hhi⟩ := (b.onPage_iff page).mp h
    have hmin : min b.count (page + 1 - b.page) = min b.count (page - b.page) + 1 := by omega
    rw [if_pos h, hmin, Nat.mul_succ]
  · have hout := mt (b.onPage_iff page).mpr h
    have hmin : min b.count (page + 1 - b.page) = min b.count (page - b.page) := by omega
    rw [if_neg h, hmin, Nat.add_zero]

end BlockInfo

namespace Machine

/-! ## Rows without gaps -/

/-- The rows' pages begin at page `n` and follow one another without a gap or an overlap. -/
def gapless : Nat → List BlockInfo → Bool
  | _, [] => true
  | n, b :: rows => b.page == n && gapless (n + b.count) rows

@[simp] theorem gapless_cons (n : Nat) (b : BlockInfo) (rows : List BlockInfo) :
    gapless n (b :: rows) = true ↔ b.page = n ∧ gapless (n + b.count) rows = true := by
  simp [gapless]

/-- Together, gapless rows occupy exactly as many pages from `n` on as they have instances. -/
theorem exists_onPage_iff_of_gapless {rows : List BlockInfo} {n : Nat} (h : gapless n rows = true) (page : Nat) :
    (∃ b ∈ rows, b.onPage page = true) ↔ n ≤ page ∧ page < n + (rows.map (·.count)).sum := by
  induction rows generalizing n with
  | nil => simp
  | cons b rows ih =>
    obtain ⟨rfl, hrows⟩ := (gapless_cons _ _ _).mp h
    rw [List.exists_mem_cons_iff, ih hrows, BlockInfo.onPage_iff, List.map_cons, List.sum_cons]
    omega

theorem gapless_blockTable : gapless 1 blockTable = true := by decide

theorem sum_count_blockTable : (blockTable.map (·.count)).sum = blockCount := by decide

/-! ## The block on a page (R23) -/

theorem blockAt_eq_map_find? (page : Nat) :
    blockAt page = (blockTable.find? (·.onPage page)).map (fun b => (b, page - b.page)) := by
  change (match blockTable.find? (·.onPage page) with | some b => some (b, page - b.page) | none => none) = _
  cases blockTable.find? (·.onPage page) <;> rfl

theorem blockAt_eq_some {page : Nat} {b : BlockInfo} {num : Nat} (h : blockAt page = some (b, num)) :
    b ∈ blockTable ∧ page = b.page + num := by
  rw [blockAt_eq_map_find?, Option.map_eq_some_iff] at h
  obtain ⟨row, hfind, heq⟩ := h
  obtain ⟨rfl, rfl⟩ := Prod.mk.inj heq
  have hpage : row.onPage page = true := List.find?_some (p := fun b : BlockInfo => b.onPage page) hfind
  rw [BlockInfo.onPage_iff] at hpage
  exact ⟨List.mem_of_find?_eq_some hfind, by omega⟩

/-- A page is occupied exactly when it is one of 1 to 169 (R23). -/
theorem blockAt_isSome_iff (page : Nat) : (blockAt page).isSome = true ↔ 1 ≤ page ∧ page ≤ blockCount := by
  rw [blockAt_eq_map_find?, Option.isSome_map, List.find?_isSome, exists_onPage_iff_of_gapless gapless_blockTable,
    sum_count_blockTable]
  omega

/-- The row and the block number give the page back, so no two pages hold the same block (R23). -/
theorem blockAt_injective {p q : Nat} {x : BlockInfo × Nat} (hp : blockAt p = some x) (hq : blockAt q = some x) : p = q :=
  (blockAt_eq_some hp).2.trans (blockAt_eq_some hq).2.symm

/-- Settles O6: the rows of the table are gapless from page 1 and hold 169 instances. -/
theorem blocksOccupyPagesOneToOneSixtyNine : Obligations.BlocksOccupyPagesOneToOneSixtyNine := by
  refine ⟨by decide, by decide, ?_, fun p _ => blockAt_isSome_iff p, fun p q x => blockAt_injective⟩
  have hnot : ¬ (blockAt 0).isSome = true := fun h => absurd ((blockAt_isSome_iff 0).mp h).1 (by decide)
  exact Option.not_isSome_iff_eq_none.mp hnot

/-! ## The interrupt sources of a page (R526) -/

/-- From a page to the next, gapless rows hold more sources by those of the one row that is on the page. -/
theorem sum_intsBelow_succ_of_gapless {rows : List BlockInfo} {n : Nat} (h : gapless n rows = true) (page : Nat) :
    (rows.map (·.intsBelow (page + 1))).sum =
      (rows.map (·.intsBelow page)).sum + ((rows.find? (·.onPage page)).map (·.ints)).getD 0 := by
  induction rows generalizing n with
  | nil => rfl
  | cons b rows ih =>
    obtain ⟨rfl, hrows⟩ := (gapless_cons _ _ _).mp h
    simp only [List.map_cons, List.sum_cons, ih hrows, b.intsBelow_succ]
    by_cases hb : b.onPage page = true
    · have hnone : rows.find? (·.onPage page) = none := by
        rw [← Option.not_isSome_iff_eq_none, List.find?_isSome, exists_onPage_iff_of_gapless hrows]
        have := (b.onPage_iff page).mp hb
        omega
      simp only [hb, hnone, if_true, List.find?_cons_of_pos, Option.map_some, Option.map_none, Option.getD_some, Option.getD_none]
      omega
    · simp only [hb, not_false_eq_true, List.find?_cons_of_neg, Bool.false_eq_true, if_false]
      omega

theorem intBase_eq_sum (page : Nat) : intBase page = (blockTable.map (·.intsBelow page)).sum := by
  rw [List.sum_eq_foldl, List.foldl_map]
  rfl

theorem intCount_eq_find? (page : Nat) : intCount page = ((blockTable.find? (·.onPage page)).map (·.ints)).getD 0 := by
  rw [intCount, blockAt_eq_map_find?, Option.map_map]
  rfl

/-- A page's sources follow directly on those of the page below it. -/
theorem intBase_succ (page : Nat) : intBase (page + 1) = intBase page + intCount page := by
  rw [intBase_eq_sum, intBase_eq_sum, intCount_eq_find?, sum_intsBelow_succ_of_gapless gapless_blockTable]

theorem intBase_mono : Monotone intBase :=
  monotone_nat_of_le_succ fun page => by rw [intBase_succ]; exact Nat.le_add_right _ _

/-- No block has more sources than `BLK_INT_PEND` has bits. -/
theorem intCount_le_word (page : Nat) : intCount page ≤ 64 := by
  have hrows : ∀ b ∈ blockTable, b.ints ≤ 64 := by decide
  unfold intCount
  cases h : blockAt page with
  | none => simp
  | some x => exact hrows x.1 (blockAt_eq_some h).1

/-- Source `INT_BASE + i` is bit `i` of its page: every lower page's sources end at or below `INT_BASE`. -/
theorem sourcePage_intBase_add {page i : Nat} (hpage : page ≤ blockCount) (hi : i < intCount page) :
    sourcePage (intBase page + i) = some (page, i) := by
  have hfind : (List.range (blockCount + 1)).find?
      (fun p => intBase p ≤ intBase page + i && intBase page + i < intBase p + intCount p) = some page := by
    rw [List.find?_range_eq_some]
    refine ⟨by simpa using hi, List.mem_range.mpr (by omega), fun p hp => ?_⟩
    have hend : intBase p + intCount p ≤ intBase page := intBase_succ p ▸ intBase_mono hp
    simp only [Bool.not_eq_true', Bool.and_eq_false_iff, decide_eq_false_iff_not]
    omega
  simp only [sourcePage, hfind, Nat.add_sub_cancel_left]

/-! ## `BLK_INT_PEND` and the level requests (R37) -/

namespace State

theorem intPend_getLsbD (s : State) (page i : Nat) :
    (s.intPend page).getLsbD i =
      ((s.reg (Reg.BLK_INT_RAW page) &&& ~~~(s.reg (Reg.BLK_INT_MASK page))).getLsbD i && decide (i < intCount page)) := by
  rw [intPend, BitVec.getLsbD_and, fieldMask_getLsbD _ _ _ (by simpa using intCount_le_word page)]
  simp

theorem intPend_getLsbD_of_intCount_le (s : State) {page i : Nat} (h : intCount page ≤ i) :
    (s.intPend page).getLsbD i = false := by
  rw [intPend_getLsbD, decide_eq_false (by omega), Bool.and_false]

theorem intcLevel_intBase_add (s : State) {page i : Nat} (hpage : page ≤ blockCount) (hi : i < intCount page) :
    s.intcLevel (intBase page + i) = (s.intPend page).getLsbD i := by
  simp only [intcLevel, sourcePage_intBase_add hpage hi]

end State

/-- Settles O7: source `INT_BASE + i` finds its page and bit, and the field of `INT_COUNT` bits masks the rest. -/
theorem interruptRequestsFollowPending : Obligations.InterruptRequestsFollowPending :=
  ⟨fun s _ _ _ hpage hi => s.intcLevel_intBase_add hpage hi, fun s _ _ h => s.intPend_getLsbD_of_intCount_le h⟩

end Machine

end Sys2Proof

/-! Proofs of the Loom's family (spec/06): the deadline of a command by its transfer length (R130). The model counts the
extra 64 KiB by a truncated difference and `ceilDiv` on `Nat`; the rule writes them over the rationals. -/

namespace Sys2Proof.Machine

/-! ## The rounded-up quotient -/

/-- The rounded-up quotient is the least `n` whose multiple `n * b` reaches `a`. -/
theorem ceilDiv_le_iff {a b n : Nat} (hb : 0 < b) : ceilDiv a b ≤ n ↔ a ≤ n * b := by
  rw [ceilDiv, if_neg hb.ne', Nat.div_le_iff_le_mul_add_pred hb, Nat.mul_comm b n]
  omega

/-- The truncated difference is right also where `a < c`: both sides are then 0, as `⌈·⌉₊` of a negative number is. -/
theorem ceilDiv_sub_eq_natCeil (a c : Nat) {b : Nat} (hb : 0 < b) : ceilDiv (a - c) b = ⌈((a : ℚ) - c) / b⌉₊ :=
  eq_of_forall_ge_iff fun n => by
    have hb' : (0 : ℚ) < b := by exact_mod_cast hb
    calc ceilDiv (a - c) b ≤ n
      _ ↔ a ≤ n * b + c := by rw [ceilDiv_le_iff hb, Nat.sub_le_iff_le_add]
      _ ↔ (a : ℚ) ≤ n * b + c := by exact_mod_cast Iff.rfl
      _ ↔ ⌈((a : ℚ) - c) / b⌉₊ ≤ n := by rw [Nat.ceil_le, div_le_iff₀ hb', sub_le_iff_le_add]

theorem natCast_ceilDiv_sub (a c : Nat) {b : Nat} (hb : 0 < b) :
    (ceilDiv (a - c) b : Int) = max 0 ⌈((a : ℚ) - c) / b⌉ := by
  rw [ceilDiv_sub_eq_natCeil a c hb, ← Int.ceil_toNat, Int.ofNat_toNat, max_comm]

/-! ## Deadlines (R130) -/

theorem natCast_cmdDeadline (cls : Nat) (write : Bool) (bytes : Nat) :
    (cmdDeadline cls write bytes : Int) =
      classDeadline cls write + 10000 * max 0 ⌈((bytes : ℚ) - 65536) / 65536⌉ := by
  have hextra := natCast_ceilDiv_sub bytes 65536 (b := 65536) (by decide)
  rw [cmdDeadline, Int.natCast_add, Int.natCast_mul, hextra]
  norm_cast

@[simp] theorem State.newCmd_deadline (conn cid tenant vol : Nat) (kind : CmdKind) (ranges : List (Nat × Nat))
    (src bytes connCls cls : Nat) (fua : Bool) (pi : PiReq) (arrived : Nat) (data : Bytes) (red : Nat) :
    (newCmd conn cid tenant vol kind ranges src bytes connCls cls fua pi arrived data red).deadline =
      arrived + cmdDeadline cls (isWriteKind kind) bytes := rfl

theorem State.moved_of_not_moves {kind : CmdKind} (h : State.moves kind = false) (v : Volume)
    (ranges : List (Nat × Nat)) (pi : PiReq) : State.moved kind v ranges pi = 0 :=
  if_neg (ne_true_of_eq_false h)

/-- Settles O9: the deadline's truncated, rounded-up count of extra 64 KiB is R130's `max 0 ⌈·⌉`, and a command of the
three named kinds moves no data. -/
theorem deadlineFollowsTransferLength : Obligations.DeadlineFollowsTransferLength := by
  refine ⟨fun conn cid tenant vol kind ranges src bytes connCls cls fua pi arrived data red => ?_, fun v ranges pi => ?_⟩
  · rw [State.newCmd_deadline, Int.natCast_add, natCast_cmdDeadline, Int.add_assoc]
  · exact ⟨State.moved_of_not_moves rfl v ranges pi, State.moved_of_not_moves rfl v ranges pi,
      State.moved_of_not_moves rfl v ranges pi⟩

end Sys2Proof.Machine

/-! Proofs of the service cores' family (spec/19): when a source of the interrupt controller is pending (R470). Which
bit a source is was settled with the interrupts of R37, and is cited here. -/

namespace Sys2Proof.Machine.State

/-! ## The settings of a source -/

/-- The active copy of a staged field holds no more than the field's bits (R39). -/
theorem act_lt_two_pow (s : State) (f : Fld) : s.act f < 2 ^ f.w :=
  Nat.mod_lt _ (Nat.two_pow_pos f.w)

/-! ## Sources in service and pending (R470) -/

/-- A source is not in service exactly when no core's stack of claims holds it, at whatever depth (R473). -/
theorem inService_eq_false_iff (s : State) (src : Nat) :
    s.inService src = false ↔ ∀ c stack, (c, stack) ∈ s.intc.claimed → ∀ e ∈ stack, e.1 ≠ src := by
  simp only [inService, List.any_eq_false, List.any_eq_true, beq_iff_eq, not_exists, not_and, Prod.forall, ne_eq]

theorem srcPending_iff (s : State) (src : Nat) :
    s.srcPending src = true ↔ s.act (Reg.INTC_SRC_EN src) = 1 ∧ s.intcLevel src = true ∧ s.inService src = false ∧
      s.heldOff (s.act (Reg.INTC_SRC_GROUP src)) = false := by
  simp only [srcPending, Bool.and_eq_true, Bool.not_eq_true', beq_iff_eq, and_assoc]

end Sys2Proof.Machine.State

namespace Sys2Proof.Machine

/-- Settles O8: the bit of a source is O7's, a setting is bounded by its field's width, and a source in service is one
that some core's stack of claims holds. -/
theorem interruptSourcesArePendingWhenTheyRequest : Obligations.InterruptSourcesArePendingWhenTheyRequest := by
  refine ⟨rfl, fun s _ _ _ hpage hi => s.intcLevel_intBase_add hpage hi, fun s x => ?_, fun s x => ?_⟩
  · exact ⟨Nat.le_of_lt_succ (s.act_lt_two_pow (Reg.INTC_SRC_EN x)),
      Nat.le_of_lt_succ (s.act_lt_two_pow (Reg.INTC_SRC_PRIO x)), s.act_lt_two_pow (Reg.INTC_SRC_CORE_MASK x),
      Nat.le_of_lt_succ (s.act_lt_two_pow (Reg.INTC_SRC_GROUP x))⟩
  · rw [s.srcPending_iff, s.inService_eq_false_iff]

end Sys2Proof.Machine

/-! Proofs of the observation's family (spec/20): what the two shadows hold after an epoch (R483), and the count of
epochs not written that a tally record carries (R484). -/

namespace Sys2Proof.Machine.State

/-! ## The held snapshot that a whole minute replaces (R483) -/

theorem dropNewest_pair_of_not_minute {a b : Snap} (hb : minuteEpoch b.time = false) :
    dropNewest [a, b] = some ([a], b.gap + 1) := by
  simp [dropNewest, hb]

theorem dropNewest_pair_of_minute {a b : Snap} (hb : minuteEpoch b.time = true) (ha : minuteEpoch a.time = false) :
    dropNewest [a, b] = some ([{ b with gap := b.gap + a.gap + 1 }], 0) := by
  simp [dropNewest, hb, ha]

/-- A whole minute is never replaced, however many are held. -/
theorem dropNewest_eq_none_of_minutes {held : List Snap} (h : ∀ x ∈ held, minuteEpoch x.time = true) :
    dropNewest held = none := by
  induction held with
  | nil => rfl
  | cons a held ih =>
    obtain ⟨ha, hheld⟩ := List.forall_mem_cons.mp h
    simp [dropNewest, ih hheld, ha]

/-- Exactly one snapshot gives way. -/
theorem length_of_dropNewest_eq_some {held kept : List Snap} {gap : Nat} (h : dropNewest held = some (kept, gap)) :
    kept.length + 1 = held.length := by
  induction held generalizing kept gap with
  | nil => simp [dropNewest] at h
  | cons a held ih =>
    simp only [dropNewest] at h
    split at h
    next kept' gap' hlater =>
      obtain ⟨rfl, -⟩ := Prod.mk.inj (Option.some.inj h)
      exact congrArg (· + 1) (ih hlater)
    next =>
      split at h
      · cases h
      · split at h <;> (obtain ⟨rfl, -⟩ := Prod.mk.inj (Option.some.inj h); rfl)

/-! ## A snapshot at an epoch (R483) -/

theorem takeSnap_of_free {s : State} (x : Snap) (h : s.pick.held.length < 2) :
    s.takeSnap x = { s with pick.held := s.pick.held ++ [{ x with gap := s.pick.gap }], pick.gap := 0 } := by
  rw [takeSnap, if_pos h]

theorem takeSnap_of_not_minute {s : State} {x : Snap} (h : 2 ≤ s.pick.held.length) (hx : minuteEpoch x.time = false) :
    s.takeSnap x = { s with pick.gap := s.pick.gap + 1 } := by
  rw [takeSnap, if_neg (Nat.not_lt.mpr h), hx]
  rfl

theorem takeSnap_of_replaces {s : State} {x : Snap} {kept : List Snap} {gap : Nat} (h : 2 ≤ s.pick.held.length)
    (hx : minuteEpoch x.time = true) (hdrop : dropNewest s.pick.held = some (kept, gap)) :
    s.takeSnap x = { s with pick.held := kept ++ [{ x with gap := s.pick.gap + gap }], pick.gap := 0 } := by
  rw [takeSnap, if_neg (Nat.not_lt.mpr h), hx, hdrop]
  rfl

theorem takeSnap_of_minutes {s : State} {x : Snap} (h : 2 ≤ s.pick.held.length) (hx : minuteEpoch x.time = true)
    (hdrop : dropNewest s.pick.held = none) : s.takeSnap x = { s with pick.gap := s.pick.gap + 1 } := by
  rw [takeSnap, if_neg (Nat.not_lt.mpr h), hx, hdrop]
  rfl

theorem length_held_takeSnap_le {s : State} (x : Snap) (h : s.pick.held.length ≤ 2) :
    (s.takeSnap x).pick.held.length ≤ 2 := by
  by_cases hfree : s.pick.held.length < 2
  · rw [takeSnap_of_free x hfree, List.length_append]
    exact hfree
  have hfull : 2 ≤ s.pick.held.length := Nat.not_lt.mp hfree
  cases hx : minuteEpoch x.time with
  | false => rwa [takeSnap_of_not_minute hfull hx]
  | true =>
    cases hdrop : dropNewest s.pick.held with
    | none => rwa [takeSnap_of_minutes hfull hx hdrop]
    | some p =>
      obtain ⟨kept, gap⟩ := p
      rw [takeSnap_of_replaces hfull hx hdrop, List.length_append]
      exact (length_of_dropNewest_eq_some hdrop).trans_le h

/-! ## What has left the head stays (R496, R497) -/

@[simp] theorem pickStatus_out (s : State) : s.pickStatus.out = s.out := by
  rw [pickStatus, setFld_out, setFld_out]

theorem out_subset_msix (s : State) (v : Nat) : s.out ⊆ (s.msix v).out := by
  unfold msix
  split
  · exact List.subset_cons_self _ _
  · split <;> exact List.Subset.refl _

theorem out_subset_wake (s : State) : s.out ⊆ s.wake.out := by
  simp only [wake]
  split
  next => simp
  next =>
    split
    next => split <;> simp
    next => split <;> simp

theorem out_subset_upRefresh (s : State) : s.out ⊆ s.upRefresh.out := by
  refine List.Subset.trans ?_ (out_subset_wake _)
  rw [setFld_out, setBit_out]
  exact List.Subset.refl _

/-! ## The written record (R484) -/

/-- The record that a snapshot becomes in the tally ring. -/
def tallyRecOf (s : State) (x : Snap) (head : Nat) (partner : Bool) : TallyRec :=
  ⟨head, !s.pick.wrote, partner, x.period, x.time, x.gap, s.fld Reg.OWN_ARRAY_ARRAY_ID, s.pick.since, x.counters⟩

theorem tally_mem_out_tallyWrite (s : State) (x : Snap) (head : Nat) (partner : Bool) (place : Nat × Nat) :
    .tally place.1 (s.tallyRecOf x head partner) ∈ (s.tallyWrite x head partner place).out := by
  refine out_subset_msix _ 17 ?_
  split <;> exact List.mem_cons_self

theorem execTallyRecordWrite_of_held {s : State} {x : Snap} {rest : List Snap} {place : Nat × Nat}
    (hen : s.act Reg.PICK_CFG_RING_EN = 1) (hdma : s.dmaAllowed = true) (hplace : s.tallyPlace = some place)
    (hdue : s.pick.partnerDue = false) (hheld : s.pick.held = x :: rest) :
    execTallyRecordWrite s =
      .next (({ s with pick.held := rest }.tallyWrite x s.headIndex false place).pickStatus.upRefresh) := by
  simp [execTallyRecordWrite, hen, hdma, hplace, hdue, hheld]

end Sys2Proof.Machine.State

namespace Sys2Proof.Machine

/-- Settles O10: each row of R483's table is an equation of `takeSnap`, and the record that a write sends carries the
gap of the oldest held snapshot. -/
theorem shadowsKeepWholeMinutes : Obligations.ShadowsKeepWholeMinutes := by
  refine ⟨fun s x hfree => ?_, fun s x a b hheld hx => ?_, fun s x a b hheld hx => ?_,
    fun s x => State.length_held_takeSnap_le x, fun s t x rest place hen hdma hplace hdue hheld hstep => ?_⟩
  · rw [State.takeSnap_of_free x hfree]
    exact ⟨rfl, rfl⟩
  · rw [State.takeSnap_of_not_minute (by simp [hheld]) hx]
    exact ⟨hheld, rfl⟩
  · have hfull : 2 ≤ s.pick.held.length := by simp [hheld]
    refine ⟨fun hb => ?_, fun hb ha => ?_, fun hb ha => ?_⟩
    · rw [State.takeSnap_of_replaces hfull hx (hheld ▸ State.dropNewest_pair_of_not_minute hb)]
      exact ⟨rfl, rfl⟩
    · rw [State.takeSnap_of_replaces hfull hx (hheld ▸ State.dropNewest_pair_of_minute hb ha)]
      exact ⟨rfl, rfl⟩
    · rw [State.takeSnap_of_minutes hfull hx (hheld ▸ State.dropNewest_eq_none_of_minutes (by simp [ha, hb]))]
      exact ⟨hheld, rfl⟩
  · rw [exec_tallyRecordWrite, State.execTallyRecordWrite_of_held hen hdma hplace hdue hheld] at hstep
    obtain rfl := Host.Outcome.next.inj hstep
    refine ⟨s.tallyRecOf x s.headIndex false, rfl, State.out_subset_upRefresh _ ?_⟩
    rw [State.pickStatus_out]
    exact State.tally_mem_out_tallyWrite { s with pick.held := rest } x s.headIndex false place

end Sys2Proof.Machine

/-! Proofs of the upstream family (spec/21): what ends at fetch (R505), which results the table of tokens keeps, and which
resets leave the table as it is. -/

namespace Sys2Proof.Machine

/-- Of two writes at one key the later stands. -/
@[simp] theorem tPut_tPut_same {α : Type} (t : List (Nat × α)) (k : Nat) (v w : α) : tPut (tPut t k v) k w = tPut t k w := by
  induction t with
  | nil => simp [tPut]
  | cons e t ih =>
    obtain ⟨i, x⟩ := e
    rcases lt_trichotomy k i with h | rfl | h
    · simp [tPut, h]
    · simp [tPut]
    · simp [tPut, h.not_gt, h.ne', ih]

namespace State

/-- What each turn of a fold leaves as it is, the fold does. -/
theorem foldl_keeps {α β : Type} (p : State → β) {f : State → α → State} (hf : ∀ t a, p (f t a) = p t) (l : List α) (s : State) :
    p (l.foldl f s) = p s :=
  List.foldlRecOn (motive := fun t => p t = p s) l f rfl fun t ht a _ => (hf t a).trans ht

/-! ## `CTLCH.STATUS` and the wake request (R496, R497) -/

/-- A wake request marks the endpoint's power-management event and leaves the rest of the endpoint as it is. -/
theorem wake_up_eq (s : State) : s.wake.up = { s.up with pmeStatus := s.wake.up.pmeStatus } := by
  simp only [wake]
  split
  next => simp
  next =>
    split
    next => split <;> simp
    next => split <;> simp

theorem upRefresh_up_eq (s : State) : s.upRefresh.up = { s.up with pmeStatus := s.upRefresh.up.pmeStatus } := by
  rw [upRefresh, wake_up_eq, setFld_up, setBit_up]

@[simp] theorem upRefresh_cmds (s : State) : s.upRefresh.up.cmds = s.up.cmds := by rw [upRefresh_up_eq]
@[simp] theorem upRefresh_results (s : State) : s.upRefresh.up.results = s.up.results := by rw [upRefresh_up_eq]

/-! ## A control command that finishes (R503, R505) -/

section
variable {s : State} {tag : Nat} {c : CtlCmd} (hc : tGet? s.up.cmds tag = some c) (hdone : c.done = none) (st : CtlStatus) (r0 r1 : Word)
include hc hdone

theorem ctlFinish_cmds :
    (s.ctlFinish tag st r0 r1).up.cmds =
      if c.orphan then tDel s.up.cmds tag else tPut s.up.cmds tag { c with done := some (st, r0, r1) } := by
  simp only [ctlFinish, hc, hdone, Option.isSome_none, Bool.false_eq_true, if_false, upRefresh_cmds]
  split <;> split <;> simp

theorem ctlFinish_results :
    (s.ctlFinish tag st r0 r1).up.results =
      if c.token = 0 ∨ st = .replayed ∨ st = .inProgress then s.up.results else ((c.token, r0, r1) :: s.up.results).take 1024 := by
  simp only [ctlFinish, hc, hdone, Option.isSome_none, Bool.false_eq_true, if_false, upRefresh_results, Bool.or_eq_true,
    decide_eq_true_eq, or_assoc]
  split <;> split <;> simp

end

/-! ## The checks at fetch (R505) -/

theorem fetchCheck_of_found {s : State} {token r0 r1 : Word} (opcode : Nat) (session : BitVec 32) (htoken : token ≠ 0)
    (hfind : s.up.results.find? (fun r => r.1 == token) = some (token, r0, r1)) :
    s.fetchCheck opcode token session = some (.replayed, r0, r1) := by
  rw [fetchCheck, if_neg htoken, hfind]

theorem fetchCheck_of_inProgress {s : State} {token : Word} (opcode : Nat) (session : BitVec 32) (htoken : token ≠ 0)
    (hfind : s.up.results.find? (fun r => r.1 == token) = none)
    (hrun : s.up.cmds.any (fun c => c.2.token == token && c.2.done.isNone) = true) :
    s.fetchCheck opcode token session = some (.inProgress, 0, 0) := by
  simp only [fetchCheck, if_neg htoken, hfind, bne_iff_ne.mpr htoken, hrun, Bool.and_self, if_true]

/-- The state with a command taken off its ring and numbered, before the checks at fetch have decided about it (R501). -/
def fetched (s : State) (ring : Fin 16) (c : CtlCmd) : State :=
  let q := s.ring ring
  let t := (s.setRing ring { q with sqHead := (q.sqHead + 1) % s.ringSize ring }).bump (Reg.CTLCH_CNT 0) 1
  { t with up.cmds := tPut t.up.cmds s.up.nextTag c, up.nextTag := s.up.nextTag + 1 }

@[simp] theorem fetched_cmds (s : State) (ring : Fin 16) (c : CtlCmd) :
    (s.fetched ring c).up.cmds = tPut s.up.cmds s.up.nextTag c := by
  simp [fetched, setRing]

@[simp] theorem fetched_results (s : State) (ring : Fin 16) (c : CtlCmd) : (s.fetched ring c).up.results = s.up.results := by
  simp [fetched, setRing]

/-- A command that is answered from the table is counted in `CTLCH.CNT` 3 (spec/21). -/
def countReplay (s : State) (st : CtlStatus) : State := if st = .replayed then s.bump (Reg.CTLCH_CNT 3) 1 else s

@[simp] theorem countReplay_up (s : State) (st : CtlStatus) : (s.countReplay st).up = s.up := by
  unfold countReplay
  split <;> simp

/-- A fetched command whose token is known ends at fetch with the answer of the checks. -/
theorem execCommandFetch_of_answered {s : State} {ring : Fin 16} {opcode : BitVec 16} (barrier : Bool) (cmdId : BitVec 32)
    {token r0 r1 : Word} {session : BitVec 32} {st : CtlStatus} (hst : st = .replayed ∨ st = .inProgress)
    (hcheck : s.fetchCheck opcode.toNat token session = some (st, r0, r1)) (hen : s.bit (Reg.CTLCH_RING_SIZE_EN ring) = true)
    (hdma : s.dmaAllowed = true) (hring : (s.ring ring).sqHead ≠ (s.ring ring).sqTail)
    (hroom : (s.up.cmds.filter (fun c => c.2.done.isNone)).length < 256) :
    execCommandFetch ring opcode barrier cmdId token session s =
      .next (((s.fetched ring ⟨ring, cmdId, opcode.toNat, barrier, token, false, none, none⟩).countReplay st).ctlFinish
        s.up.nextTag st r0 r1) := by
  simp only [execCommandFetch, hen, hdma, bne_iff_ne.mpr hring, decide_eq_true hroom, Bool.and_self, if_true, hcheck]
  rcases hst with rfl | rfl <;> rfl

/-! ## The endpoint's resets (R495, R499) -/

@[simp] theorem ringDrop_results (s : State) (r : Nat) : (s.ringDrop r).up.results = s.up.results := by
  simp [ringDrop]

@[simp] theorem ringStatus_up (s : State) : s.ringStatus.up = s.up := rfl

@[simp] theorem endpointReset_results (s : State) : s.endpointReset.up.results = s.up.results := by
  rw [endpointReset, ringDropAll, ringStatus_up, setFld_up, foldl_keeps (·.up.results) ringDrop_results]

@[simp] theorem upepPower_up (s : State) (st : Nat) : (s.upepPower st).up = s.up := by
  rw [upepPower, setFld_up, foldl_keeps (·.up) fun t d => setFld_up t _ st]

@[simp] theorem closeAdmin_up (s : State) : s.closeAdmin.up = s.up := by rw [closeAdmin, setFld_up]

theorem results_of_perstAssert {s t : State} (h : execPerstAssert s = .next t) : t.up.results = s.up.results := by
  simp only [execPerstAssert, Host.Outcome.next.injEq] at h
  subst h
  split
  · rfl
  · rw [upRefresh_results, upepPower_up, bump_up, setBit_up, setReg_up, closeAdmin_up, endpointReset_results]

theorem results_of_functionLevelReset {s t : State} (h : execFunctionLevelReset s = .next t) : t.up.results = s.up.results := by
  simp only [execFunctionLevelReset, Host.Outcome.next.injEq] at h
  simp [← h]

/-! ## A management restart (R52) -/

@[simp] theorem setKeySlot_up (s : State) (n : Nat) (k : KeySlot) : (s.setKeySlot n k).up = s.up := rfl

@[simp] theorem loadEntry_up (keep : Nat → Bool) (s : State) (e : LedgerEntry) : (loadEntry keep s e).up = s.up := by
  unfold loadEntry
  split
  · exact foldl_keeps (·.up) (fun t p => by split <;> simp) _ s
  · split <;> simp

/-- A load in which no entry fails its unwrap records no event, and nothing of the endpoint moves. -/
@[simp] theorem ledgerLoad_nil_up (s : State) : (s.ledgerLoad []).up = s.up := by
  unfold ledgerLoad
  split
  · simp
  · simp [foldl_keeps (·.up) (loadEntry_up _)]

@[simp] theorem reloadAbort_up (s : State) : s.reloadAbort.up = s.up := by
  unfold reloadAbort
  split <;> simp

@[simp] theorem resetPage_up (s : State) (page : Nat) : (s.resetPage page).up = s.up :=
  foldl_keeps (·.up) (fun t _ => setReg_up t _ _) _ s

@[simp] theorem rollbackRegs_up (s : State) : s.rollbackRegs.up = s.up := rfl

@[simp] theorem norRegs_up (s : State) : s.norRegs.up = s.up := by simp [norRegs]

@[simp] theorem mgmtRestart_up (s : State) : s.mgmtRestart.up = s.up := by
  unfold mgmtRestart
  simp only
  split <;> simp

/-! ## A chip reset (R52) -/

theorem results_of_chipResetAssert {s t : State} (hhigh : s.chip.chipResetN = true) (h : execChipResetAssert s = .next t) :
    t.up.results = [] := by
  obtain rfl := Host.Outcome.next.inj h
  rw [if_pos hhigh]
  rfl

end State

/-- Settles O11: a known token is answered at fetch and leaves the table alone, any other token's results go in front of
the 1,024 kept, and of the resets only `CHIP_RESET_N` writes the table. -/
theorem resultsOfTokensAreKept : Obligations.ResultsOfTokensAreKept := by
  refine ⟨fun s opcode token r0 r1 session => State.fetchCheck_of_found opcode session,
    fun s opcode token session => State.fetchCheck_of_inProgress opcode session,
    fun s t ring opcode barrier cmdId token r0 r1 session st hst hcheck hen hdma hring hroom _ hstep => ?_,
    fun s tag st r0 r1 c hc hdone htoken hreplayed hrunning => ?_, fun s t hreset => ?_,
    fun s t hhigh hstep => State.results_of_chipResetAssert hhigh (exec_chipResetAssert s ▸ hstep)⟩
  · rw [exec_commandFetch, State.execCommandFetch_of_answered barrier cmdId hst hcheck hen hdma hring hroom] at hstep
    obtain rfl := Host.Outcome.next.inj hstep
    have htaken (c : CtlCmd) : tGet? ((s.fetched ring c).countReplay st).up.cmds s.up.nextTag = some c := by simp
    rw [State.ctlFinish_cmds (htaken _) rfl, State.ctlFinish_results (htaken _) rfl]
    simp [hst]
  · rw [State.ctlFinish_results hc hdone, if_neg (not_or.mpr ⟨htoken, not_or.mpr ⟨hreplayed, hrunning⟩⟩)]
  · obtain hstep | hstep | rfl := hreset
    · exact State.results_of_perstAssert (exec_perstAssert s ▸ hstep)
    · exact State.results_of_functionLevelReset (exec_functionLevelReset s ▸ hstep)
    · rw [State.mgmtRestart_up]

end Sys2Proof.Machine

/-! Proofs of the remaining family of statements: the step and the state of reset, then the frame of the fuses over
every command, then what single commands do, in the order of the statements. -/

namespace Sys2Proof.Machine

/-! ## The step and the state of reset -/

/-- Settles O1: both sides are one branch of the step's match on the queue. -/
theorem stepRunsTheFrontCommand : Obligations.StepRunsTheFrontCommand := by
  refine ⟨fun c rest s => rfl, fun s hs => ?_⟩
  unfold step
  rw [hs]

theorem measReg_reset {i : Nat} (hi : i < 24) : State.reset.mrBytes i = List.replicate 48 0 := by
  interval_cases i <;> decide

/-- Settles O3, by the definition of the state of reset. -/
theorem resetState : Obligations.ResetState :=
  ⟨rfl, rfl, rfl, rfl, fun _ => measReg_reset, rfl, by decide, rfl, rfl⟩

namespace Fuses

theorem within_refl (a : Fuses) : a.within a :=
  ⟨BitVec.and_self, rfl, le_rfl, BitVec.and_self, id, id⟩

/-- What is blown in `a` and stays blown in `b` stays blown in `c`. -/
theorem within_trans {a b c : Fuses} (hab : a.within b) (hbc : b.within c) : a.within c := by
  obtain ⟨hcells, huid, hrollback, hrevoked, htest, hroot⟩ := hab
  obtain ⟨hcells', huid', hrollback', hrevoked', htest', hroot'⟩ := hbc
  refine ⟨?_, huid.trans huid', hrollback.trans hrollback', ?_, htest' ∘ htest, hroot' ∘ hroot⟩
  · rw [← hcells, BitVec.and_assoc, hcells']
  · rw [← hrevoked, BitVec.and_assoc, hrevoked']

end Fuses

/-- Settles O5: no fuse is blown at reset, and the order of fuses is reflexive. -/
theorem resetHoldsNoBlownFuse : Obligations.ResetHoldsNoBlownFuse :=
  ⟨by unfold Fuses.within; decide, fun s => s.life.fuses.within_refl⟩

/-! ## The latency bins (spec/20) -/

/-- A latency's bin is the first whose bound it stays below. -/
theorem latencyBin_eq_iff {ns j : Nat} (hj : j < 15) :
    latencyBin ns = j ↔ ns < 10000 * 2 ^ j ∧ ∀ i < j, 10000 * 2 ^ i ≤ ns := by
  unfold latencyBin
  constructor
  · intro h
    cases hf : (List.range 15).find? (fun j => ns < 10000 * 2 ^ j) with
    | none => rw [hf, Option.getD_none] at h; omega
    | some k =>
      rw [hf, Option.getD_some] at h
      subst h
      obtain ⟨hlt, -, hge⟩ := List.find?_range_eq_some.mp hf
      simp only [decide_eq_true_eq, Bool.not_eq_eq_eq_not, Bool.not_true, decide_eq_false_iff_not, not_lt] at hlt hge
      exact ⟨hlt, hge⟩
  · rintro ⟨hlt, hge⟩
    have hfind : (List.range 15).find? (fun j => ns < 10000 * 2 ^ j) = some j := by
      rw [List.find?_range_eq_some]
      simpa using ⟨hlt, hj, hge⟩
    rw [hfind, Option.getD_some]

theorem latencyBin_le (ns : Nat) : latencyBin ns ≤ 15 := by
  unfold latencyBin
  cases hf : (List.range 15).find? (fun j => ns < 10000 * 2 ^ j) with
  | none => exact le_rfl
  | some k => exact (List.mem_range.mp (List.mem_of_find?_eq_some hf)).le

theorem latencyBin_eq_last_iff (ns : Nat) : latencyBin ns = 15 ↔ 163840000 ≤ ns := by
  constructor
  · intro h
    by_contra hlt
    obtain ⟨k, hk⟩ : ∃ k, (List.range 15).find? (fun j => ns < 10000 * 2 ^ j) = some k :=
      Option.isSome_iff_exists.mp (List.find?_isSome.mpr ⟨14, by simp, by simp; omega⟩)
    rw [latencyBin, hk, Option.getD_some] at h
    have := List.mem_range.mp (List.mem_of_find?_eq_some hk)
    omega
  · intro h
    have hnone : (List.range 15).find? (fun j => ns < 10000 * 2 ^ j) = none := by
      rw [List.find?_eq_none]
      intro j hj
      have hpow : 2 ^ j ≤ 2 ^ 14 := Nat.pow_le_pow_right (by decide) (by have := List.mem_range.mp hj; omega)
      simp only [decide_eq_true_eq]
      omega
    rw [latencyBin, hnone, Option.getD_none]

/-- Settles O12: the bounds of the bins rise, so the first bound above a latency is the one the bound below it misses. -/
theorem latencyBins : Obligations.LatencyBins := by
  refine ⟨fun ns j hlo hhi => ?_, fun ns => ⟨?_, latencyBin_eq_last_iff ns, latencyBin_le ns⟩⟩
  · rw [latencyBin_eq_iff (by omega)]
    refine ⟨fun ⟨hlt, hge⟩ => ⟨hge (j - 1) (by omega), hlt⟩, fun ⟨hge, hlt⟩ => ⟨hlt, fun i hi => ?_⟩⟩
    have hpow : 2 ^ i ≤ 2 ^ (j - 1) := Nat.pow_le_pow_right (by decide) (by omega)
    omega
  · rw [latencyBin_eq_iff (by decide)]
    simp

end Sys2Proof.Machine

/-! Proofs of the fuse invariant (O4) and of the totality of `exec` (O2). Of the 430 commands three blow fuses. That every other one
keeps them is shown bottom up: one lemma for each function of the model that answers a state, in the order of the model's files. -/

namespace Sys2Proof.Machine

/-! ## The fuses of a state -/

/-- The fuses of a state, as one value that the lemmas below follow through the model's functions. -/
def State.fuses (s : State) : Fuses := s.life.fuses

namespace State

@[simp] theorem life_fuses (s : State) : s.life.fuses = s.fuses := by rw [fuses]

@[simp] theorem fuses_mk (pending regs held now freeCtr out chip life mgmt evrec sec up fab nv loom jr mp md mo dk own repl pw svc intc pick trc) :
    fuses ⟨pending, regs, held, now, freeCtr, out, chip, life, mgmt, evrec, sec, up, fab, nv, loom, jr, mp, md, mo, dk, own, repl, pw, svc, intc, pick, trc⟩ = life.fuses := by
  rw [fuses]

@[simp] theorem ite_fuses (p : Prop) [Decidable p] (a b : State) : (if p then a else b).fuses = if p then a.fuses else b.fuses := by split <;> rfl

@[simp] theorem foldl_fuses {α : Type} {f : State → α → State} (hf : ∀ t a, (f t a).fuses = t.fuses) (l : List α) (s : State) : (l.foldl f s).fuses = s.fuses := foldl_keeps fuses hf l s

def KeepsFuses (o : Out) (s : State) : Prop := ∃ t, o = .next t ∧ t.fuses = s.fuses

@[simp] theorem next_keepsFuses (t s : State) : KeepsFuses (.next t) s ↔ t.fuses = s.fuses := by simp [KeepsFuses]

@[simp] theorem ite_keepsFuses (p : Prop) [Decidable p] (a b) (s : State) : KeepsFuses (if p then a else b) s ↔ if p then KeepsFuses a s else KeepsFuses b s := by split <;> rfl

theorem fuses_snd_of_eq {α : Type} {p : α × State} {a : α} {t : State} (h : p = (a, t)) : t.fuses = p.2.fuses := by rw [h]

theorem fuses_fst_of_eq {α : Type} {p : State × α} {a : α} {t : State} (h : p = (t, a)) : t.fuses = p.1.fuses := by rw [h]

theorem fuses_foldl_snd {α β : Type} {f : β × State → α → β × State} (hf : ∀ b a, (f b a).2.fuses = b.2.fuses) (l : List α) (b : β × State) :
    (l.foldl f b).2.fuses = b.2.fuses := by
  induction l generalizing b with
  | nil => rfl
  | cons a l ih => rw [List.foldl_cons, ih, hf]

theorem fuses_foldl_fst {α β : Type} {f : State × β → α → State × β} (hf : ∀ b a, (f b a).1.fuses = b.1.fuses) (l : List α) (b : State × β) :
    (l.foldl f b).1.fuses = b.1.fuses := by
  induction l generalizing b with
  | nil => rfl
  | cons a l ih => rw [List.foldl_cons, ih, hf]

@[simp] theorem lifeFuses_mk (cells uid rollback revoked testDisable fuseRootDisable phase stopping) :
    Life.fuses ⟨cells, uid, rollback, revoked, testDisable, fuseRootDisable, phase, stopping⟩ = ⟨cells, uid, rollback, revoked, testDisable, fuseRootDisable⟩ := by
  rw [Life.fuses]

@[simp] theorem fuses_eta (s : State) :
    (⟨s.life.cells, s.life.uid, s.life.rollback, s.life.revoked, s.life.testDisable, s.life.fuseRootDisable⟩ : Fuses) = s.fuses := by
  rw [fuses, Life.fuses]

/-! ## What each function of the model leaves of the fuses -/

/-! ### `Machine/Ops` -/

@[simp] theorem setReg_fuses (s : State) (k : Nat) (v : Word) : (s.setReg k v).fuses = s.fuses := by simp [setReg]
@[simp] theorem setFld_fuses (s : State) (f : Fld) (x : Nat) : (s.setFld f x).fuses = s.fuses := by simp [setFld]
@[simp] theorem setBit_fuses (s : State) (f : Fld) (b : Bool) : (s.setBit f b).fuses = s.fuses := by simp [setBit]
@[simp] theorem bump_fuses (s : State) (k : Nat) (n : Nat) : (s.bump k n).fuses = s.fuses := by simp [bump]
@[simp] theorem bumpFld_fuses (s : State) (f : Fld) (n : Nat) : (s.bumpFld f n).fuses = s.fuses := by simp [bumpFld]
@[simp] theorem draw_fuses (s : State) : (s.draw).2.fuses = s.fuses := by simp [draw]
@[simp] theorem setRegs_fuses (s : State) (l : List (Nat × Word)) : (s.setRegs l).fuses = s.fuses := by simp [setRegs]
@[simp] theorem markHurt_fuses (s : State) (k : Nat) (p : HCmd → Bool) : (s.markHurt k p).fuses = s.fuses := by simp [markHurt]
@[simp] theorem setBlk_fuses (s : State) (page : Nat) (st : Nat) : (s.setBlk page st).fuses = s.fuses := by simp [setBlk]
@[simp] theorem secondFault_fuses (s : State) : (s.secondFault).fuses = s.fuses := by simp [secondFault]

/-! ### `Machine/Flags` -/

@[simp] theorem setHeld_fuses (s : State) (page : Nat) (bit : Nat) (holds : Bool) : (s.setHeld page bit holds).fuses = s.fuses := by
  simp [setHeld]

@[simp] theorem raiseRaw_fuses (s : State) (page : Nat) (bit : Nat) : (s.raiseRaw page bit).fuses = s.fuses := by simp [raiseRaw]
@[simp] theorem clearRaw_fuses (s : State) (page : Nat) (w : Word) : (s.clearRaw page w).fuses = s.fuses := by simp [clearRaw]

@[simp] theorem discard_fuses (s : State) (addr : Nat) (size32 : Bool) (write : Bool) (c : AccessCause) :
    (s.discard addr size32 write c).fuses = s.fuses := by
  simp [discard]

@[simp] theorem stick_fuses (s : State) (page : Nat) (bit : Nat) : (s.stick page bit).fuses = s.fuses := by simp [stick]
@[simp] theorem setAct_fuses (s : State) (f : Fld) (x : Nat) : (s.setAct f x).fuses = s.fuses := by simp [setAct]
@[simp] theorem genNext_fuses (s : State) (page : Nat) : (s.genNext page).fuses = s.fuses := by simp [genNext]

theorem barWrite_fuses {s : State} {addr : Nat} {f : State → State} (hf : ∀ t, (f t).fuses = t.fuses) :
    (s.barWrite addr f).fuses = s.fuses := by
  unfold barWrite
  split
  · rfl
  · split
    · simp
    · exact hf s

/-! ### `Machine/Events` -/

@[simp] theorem emit_fuses (s : State) (e : Emit) : (s.emit e).fuses = s.fuses := by simp [emit]
@[simp] theorem msix_fuses (s : State) (v : Nat) : (s.msix v).fuses = s.fuses := by simp [msix]
@[simp] theorem msixRelease_fuses (s : State) : (s.msixRelease).fuses = s.fuses := by simp [msixRelease]
@[simp] theorem wake_fuses (s : State) : (s.wake).fuses = s.fuses := by simp [wake]
@[simp] theorem upRefresh_fuses (s : State) : (s.upRefresh).fuses = s.fuses := by simp [upRefresh]
@[simp] theorem evPost_fuses (s : State) (e : EvEntry) : (s.evPost e).fuses = s.fuses := by simp [evPost]

@[simp] theorem evDrainN_fuses (n : Nat) (s : State) : (evDrainN n s).fuses = s.fuses := by
  induction n generalizing s with
  | zero => rfl
  | succ n ih =>
    unfold evDrainN
    split
    · rfl
    · split
      · rw [ih]
        simp
      · rfl

@[simp] theorem evDrain_fuses (s : State) : (s.evDrain).fuses = s.fuses := by simp [evDrain]
@[simp] theorem evQueueRecord_fuses (s : State) (r : EvRec) : (s.evQueueRecord r).fuses = s.fuses := by simp [evQueueRecord]
@[simp] theorem evQueueExtent_fuses (s : State) (e : Extent) : (s.evQueueExtent e).fuses = s.fuses := by simp [evQueueExtent]

@[simp] theorem ctlFinish_fuses (s : State) (tag : Nat) (st : CtlStatus) (r0 : Word) (r1 : Word) :
    (s.ctlFinish tag st r0 r1).fuses = s.fuses := by
  unfold ctlFinish
  split <;> simp

@[simp] theorem ctlAnswer_fuses (s : State) (tag : Option Nat) (st : CtlStatus) (r0 : Word) (r1 : Word) :
    (s.ctlAnswer tag st r0 r1).fuses = s.fuses := by
  unfold ctlAnswer
  split <;> simp

@[simp] theorem setBucket_fuses (s : State) (code : Nat) (b : Bucket) : (s.setBucket code b).fuses = s.fuses := by simp [setBucket]
@[simp] theorem evrecStatus_fuses (s : State) : (s.evrecStatus).fuses = s.fuses := by simp [evrecStatus]

@[simp] theorem flushStart_fuses (s : State) : (s.flushStart).fuses = s.fuses := by
  unfold flushStart
  split <;> simp

@[simp] theorem bufferRecord_fuses (s : State) (r : EvRec) : (s.bufferRecord r).fuses = s.fuses := by simp [bufferRecord]

@[simp] theorem exportRecord_fuses (s : State) (r : EvRec) : (s.exportRecord r).fuses = s.fuses := by
  unfold exportRecord
  (repeat' split) <;> simp

@[simp] theorem takeRecord_fuses (s : State) (r : EvRec) : (s.takeRecord r).fuses = s.fuses := by simp [takeRecord]

@[simp] theorem recordFrom_fuses (s : State) (code : Nat) (sev : Nat) (srcType : Nat) (srcInst : Nat) (a0 : Word) (a1 : Word) :
    (s.recordFrom code sev srcType srcInst a0 a1).fuses = s.fuses := by
  simp [recordFrom]

@[simp] theorem event_fuses (s : State) (code : Nat) (page : Nat) (a0 : Word) (a1 : Word) : (s.event code page a0 a1).fuses = s.fuses := by
  unfold event
  split <;> simp

/-! ### `Machine/Link` -/

@[simp] theorem dkPump_fuses (n : Nat) (s : State) : (dkPump n s).fuses = s.fuses := by
  induction n generalizing s with
  | zero => rfl
  | succ n ih =>
    simp only [dkPump]
    split
    · rfl
    · split
      · rfl
      · simp [ih]

@[simp] theorem dkHand_fuses (s : State) (c : Nat) (bytes : Nat) : (s.dkHand c bytes).fuses = s.fuses := by simp [dkHand]
@[simp] theorem sendMsg_fuses (s : State) (mtype : Nat) (body : List Nat) : (s.sendMsg mtype body).fuses = s.fuses := by simp [sendMsg]
@[simp] theorem sendRecord_fuses (s : State) (r : JRec) : (s.sendRecord r).fuses = s.fuses := by simp [sendRecord]

/-! ### `Machine/Trace` -/

@[simp] theorem traceSink_fuses (s : State) (r : TrRec) : (s.traceSink r).fuses = s.fuses := by
  unfold traceSink
  split <;> simp

@[simp] theorem traceEmit_fuses (s : State) (src : Nat) (i : TraceItem) : (s.traceEmit src i).fuses = s.fuses := by
  unfold traceEmit
  split <;> simp

@[simp] theorem traceGateOn_fuses (s : State) (src : Nat) (i : TraceItem) : (s.traceGateOn src i).fuses = s.fuses := by simp [traceGateOn]

@[simp] theorem traceItem_fuses (s : State) (src : Nat) (i : TraceItem) (full : Bool) : (s.traceItem src i full).fuses = s.fuses := by
  simp [traceItem]

@[simp] theorem traceSync_fuses (s : State) (srcs : List Nat) (pcs : List (BitVec 48)) : (s.traceSync srcs pcs).fuses = s.fuses := by
  simp [traceSync]

@[simp] theorem stepTo_fuses (s : State) (t : Nat) : (s.stepTo t).fuses = s.fuses := by simp [stepTo]

@[simp] theorem execTraceRecord_keepsFuses (src : BitVec 6) (item : TraceItem) (full : Bool) (s : State) :
    KeepsFuses (execTraceRecord src item full s) s := by
  simp [execTraceRecord]

@[simp] theorem execTraceSyncTimer_keepsFuses (pcs : List (BitVec 48)) (s : State) : KeepsFuses (execTraceSyncTimer pcs s) s := by
  simp [execTraceSyncTimer]

@[simp] theorem execTraceBufferRead_keepsFuses (s : State) : KeepsFuses (execTraceBufferRead s) s := by
  simp only [execTraceBufferRead]
  split
  · simp
  · split <;> simp

/-! ### `Machine/Pick` -/

@[simp] theorem tcntSet_fuses (s : State) (t : Nat) (k : Nat) (v : Nat) : (s.tcntSet t k v).fuses = s.fuses := by simp [tcntSet]
@[simp] theorem tcntAdd_fuses (s : State) (t : Nat) (k : Nat) (n : Nat) : (s.tcntAdd t k n).fuses = s.fuses := by simp [tcntAdd]
@[simp] theorem tcntSub_fuses (s : State) (t : Nat) (k : Nat) (n : Nat) : (s.tcntSub t k n).fuses = s.fuses := by simp [tcntSub]
@[simp] theorem pickStatus_fuses (s : State) : (s.pickStatus).fuses = s.fuses := by simp [pickStatus]

@[simp] theorem takeSnap_fuses (s : State) (x : Snap) : (s.takeSnap x).fuses = s.fuses := by
  unfold takeSnap
  (repeat' split) <;> simp

@[simp] theorem epochShown_fuses (s : State) (id : Nat) : (s.epochShown id).fuses = s.fuses := by
  unfold epochShown
  refine foldl_fuses (fun t a => ?_) _ _
  split <;> simp

@[simp] theorem shadowSend_fuses (s : State) (id : Nat) (t : Nat) : (s.shadowSend id t).fuses = s.fuses := by simp [shadowSend]

@[simp] theorem tallyWrite_fuses (s : State) (x : Snap) (head : Nat) (partner : Bool) (place : Nat × Nat) :
    (s.tallyWrite x head partner place).fuses = s.fuses := by
  simp [tallyWrite]

@[simp] theorem execPickEpochAnnounce_keepsFuses (s : State) : KeepsFuses (execPickEpochAnnounce s) s := by simp [execPickEpochAnnounce]

@[simp] theorem execPickEpochLatch_keepsFuses (s : State) : KeepsFuses (execPickEpochLatch s) s := by
  unfold execPickEpochLatch
  split <;> simp

@[simp] theorem execTallyRecordWrite_keepsFuses (s : State) : KeepsFuses (execTallyRecordWrite s) s := by
  unfold execTallyRecordWrite
  (repeat' split) <;> simp

@[simp] theorem execPickCounterRead_keepsFuses (index : BitVec 32) (s : State) : KeepsFuses (execPickCounterRead index s) s := by
  simp only [execPickCounterRead]
  split
  · rw [next_keepsFuses]
    refine barWrite_fuses (fun t => ?_)
    simp
  · split
    · rw [next_keepsFuses]
      refine barWrite_fuses (fun t => ?_)
      simp
    · rw [next_keepsFuses]
      refine barWrite_fuses (fun t => ?_)
      simp

@[simp] theorem execPickShadow_keepsFuses (epoch : BitVec 32) (head : BitVec 8) (time : Nat) (counters : List (Nat × Nat)) (s : State) :
    KeepsFuses (execPickShadow epoch head time counters s) s := by
  simp [execPickShadow]

/-! ### `Machine/Intc` -/

@[simp] theorem routeOne_fuses (s : State) (src : Nat) : (s.routeOne src).fuses = s.fuses := by
  unfold routeOne
  split
  · split <;> simp

@[simp] theorem srcShow_fuses (s : State) (src : Nat) : (s.srcShow src).fuses = s.fuses := by simp [srcShow]
@[simp] theorem intcEval_fuses (s : State) : (s.intcEval).fuses = s.fuses := by simp [intcEval]
@[simp] theorem runShow_fuses (s : State) (c : Nat) : (s.runShow c).fuses = s.fuses := by simp [runShow]
@[simp] theorem holdStart_fuses (s : State) (g : Nat) : (s.holdStart g).fuses = s.fuses := by simp [holdStart]
@[simp] theorem holdShow_fuses (s : State) : (s.holdShow).fuses = s.fuses := by simp [holdShow]

@[simp] theorem execInterruptRequest_keepsFuses (src : BitVec 10) (holds : Bool) (s : State) :
    KeepsFuses (execInterruptRequest src holds s) s := by
  unfold execInterruptRequest
  split <;> simp

set_option maxRecDepth 2000 in
@[simp] theorem execIntcClaim_keepsFuses (core : Fin 16) (s : State) : KeepsFuses (execIntcClaim core s) s := by
  delta execIntcClaim
  have heval := intcEval_fuses
  generalize intcEval = eval at heval ⊢
  simp only
  split <;> simp [heval]

@[simp] theorem execIntcComplete_keepsFuses (core : Fin 16) (src : BitVec 10) (s : State) : KeepsFuses (execIntcComplete core src s) s := by
  simp [execIntcComplete]

@[simp] theorem execHoldoffExpiry_keepsFuses (group : Fin 64) (s : State) : KeepsFuses (execHoldoffExpiry group s) s := by
  simp [execHoldoffExpiry]

/-! ### `Machine/EventRecorder` -/

@[simp] theorem ringWrite_fuses (s : State) (r : EvRec) : (s.ringWrite r).fuses = s.fuses := by simp [ringWrite]

@[simp] theorem ringReclaim_fuses (s : State) : (s.ringReclaim).fuses = s.fuses := by
  unfold ringReclaim
  split
  · simp
  · split <;> simp

@[simp] theorem norFail_fuses (s : State) (offset : Nat) : (s.norFail offset).fuses = s.fuses := by simp [norFail]

@[simp] theorem flushDone_fuses (s : State) : (s.flushDone).fuses = s.fuses := by
  unfold flushDone
  split <;> simp

@[simp] theorem setRdData_fuses (s : State) (l : List Word) : (s.setRdData l).fuses = s.fuses := by simp [setRdData]

@[simp] theorem setRate_fuses (s : State) (code : Nat) (rate : Nat) (depth : Nat) : (s.setRate code rate depth).fuses = s.fuses := by
  simp [setRate]

@[simp] theorem execEventRecord_keepsFuses (code : BitVec 12) (sev : BitVec 3) (srcType : BitVec 16) (srcInst : BitVec 16) (arg0 : Word)
    (arg1 : Word) (s : State) : KeepsFuses (execEventRecord code sev srcType srcInst arg0 arg1 s) s := by
  simp [execEventRecord]

@[simp] theorem execEventSummary_keepsFuses (code : BitVec 12) (sev : BitVec 3) (s : State) :
    KeepsFuses (execEventSummary code sev s) s := by
  simp [execEventSummary]

@[simp] theorem execEventFlushTimer_keepsFuses (s : State) : KeepsFuses (execEventFlushTimer s) s := by simp [execEventFlushTimer]

@[simp] theorem execEvrecFlushWrite_keepsFuses (s : State) : KeepsFuses (execEvrecFlushWrite s) s := by
  unfold execEvrecFlushWrite
  rw [next_keepsFuses]
  refine barWrite_fuses (fun t => ?_)
  simp

@[simp] theorem execEventFlushDone_keepsFuses (ok : Bool) (s : State) : KeepsFuses (execEventFlushDone ok s) s := by
  unfold execEventFlushDone
  split <;> simp

@[simp] theorem execEvrecReadRing_keepsFuses (index : BitVec 32) (s : State) : KeepsFuses (execEvrecReadRing index s) s := by
  unfold execEvrecReadRing
  rw [next_keepsFuses]
  refine barWrite_fuses (fun t => ?_)
  simp

@[simp] theorem execEvrecReadBuffer_keepsFuses (index : BitVec 32) (s : State) : KeepsFuses (execEvrecReadBuffer index s) s := by
  unfold execEvrecReadBuffer
  rw [next_keepsFuses]
  refine barWrite_fuses (fun t => ?_)
  simp

@[simp] theorem execEvrecRateWrite_keepsFuses (code : BitVec 12) (s : State) : KeepsFuses (execEvrecRateWrite code s) s := by
  unfold execEvrecRateWrite
  rw [next_keepsFuses]
  refine barWrite_fuses (fun t => ?_)
  simp

@[simp] theorem execEvrecRateRead_keepsFuses (code : BitVec 12) (s : State) : KeepsFuses (execEvrecRateRead code s) s := by
  unfold execEvrecRateRead
  rw [next_keepsFuses]
  refine barWrite_fuses (fun t => ?_)
  simp

/-! ### `Machine/Keys` -/

@[simp] theorem setKeySlot_fuses (s : State) (n : Nat) (k : KeySlot) : (s.setKeySlot n k).fuses = s.fuses := by simp [setKeySlot]
@[simp] theorem zeroizeSlot_fuses (s : State) (n : Nat) : (s.zeroizeSlot n).fuses = s.fuses := by simp [zeroizeSlot]

@[simp] theorem keyFetch_fuses (s : State) (c : Consumer) (n : Nat) : (s.keyFetch c n).2.fuses = s.fuses := by
  unfold keyFetch
  split <;> simp

@[simp] theorem measExtend_fuses (s : State) (i : Nat) (v : Bytes) : (s.measExtend i v).fuses = s.fuses := by simp [measExtend]

@[simp] theorem measKey_fuses (s : State) (slot : Nat) (epoch : BitVec 32) (kcv : Word) : (s.measKey slot epoch kcv).fuses = s.fuses := by
  simp [measKey]

@[simp] theorem idPubShow_fuses (s : State) : (s.idPubShow).fuses = s.fuses := by
  unfold idPubShow
  split <;> simp

@[simp] theorem ledgerAppend_fuses (s : State) (e : LedgerEntry) : (s.ledgerAppend e).fuses = s.fuses := by simp [ledgerAppend]

@[simp] theorem ledgerReclaim_fuses (s : State) : (s.ledgerReclaim).fuses = s.fuses := by
  simp only [ledgerReclaim]
  split
  · simp
  · split <;> simp

@[simp] theorem loadEntry_fuses (keep : Nat → Bool) (s : State) (e : LedgerEntry) : (loadEntry keep s e).fuses = s.fuses := by
  simp [loadEntry]

@[simp] theorem ledgerLoad_fuses (s : State) (bad : List Nat) : (s.ledgerLoad bad).fuses = s.fuses := by simp [ledgerLoad]
@[simp] theorem setKeyResult_fuses (s : State) (r : Nat) (slot : Nat) : (s.setKeyResult r slot).fuses = s.fuses := by simp [setKeyResult]

@[simp] theorem keyDone_fuses (s : State) (slot : Nat) (r : Nat) (tag : Option Nat) : (s.keyDone slot r tag).fuses = s.fuses := by
  simp [keyDone]

@[simp] theorem keyStart_fuses (s : State) (slot : Nat) (e : Option LedgerEntry) (drop : Bool) (tag : Option Nat) :
    (s.keyStart slot e drop tag).fuses = s.fuses := by
  simp [keyStart]

@[simp] theorem keyImport_fuses (s : State) (src : Nat) (slot : Nat) (blob : Bytes) (tag : Option Nat) :
    (s.keyImport src slot blob tag).fuses = s.fuses := by
  unfold keyImport
  split
  · simp
  · split <;> simp

@[simp] theorem keyZeroize_fuses (s : State) (slot : Nat) (tag : Option Nat) : (s.keyZeroize slot tag).fuses = s.fuses := by
  simp [keyZeroize]

@[simp] theorem peerSet_fuses (s : State) (peer : Nat) (key : Bytes) : (s.peerSet peer key).fuses = s.fuses := by simp [peerSet]
@[simp] theorem keyCmd_fuses (s : State) (op : Nat) (src : Nat) (slot : Nat) : (s.keyCmd op src slot).fuses = s.fuses := by simp [keyCmd]

theorem keyWrite_fuses {s : State} {sessionImport : Bool} {f : State → State} (hf : ∀ t, (f t).fuses = t.fuses) :
    (s.keyWrite sessionImport f).fuses = s.fuses := by
  unfold keyWrite
  split
  · rfl
  · split
    · split
      · split
        · rfl
        · exact hf s
      · simp
    · simp
    · split
      · rfl
      · exact hf s

@[simp] theorem keyPart_fuses (s : State) (o : KeyOp) : (s.keyPart o).fuses = s.fuses := by simp [keyPart]
@[simp] theorem putDerived_fuses (s : State) (n : Nat) (v : Bytes) : (s.putDerived n v).fuses = s.fuses := by simp [putDerived]
@[simp] theorem random_fuses (s : State) (n : Nat) : (s.random n).2.fuses = s.fuses := by simp [random]

@[simp] theorem scheduleIn_fuses (s : State) (n : Nat) : (s.scheduleIn n).2.fuses = s.fuses := by
  unfold scheduleIn
  split
  next x0 t1 h2 => simp [fuses_snd_of_eq h2]
  next x0 x1 t2 h3 => 
    split
    · simp [fuses_snd_of_eq h3]
    · simp [fuses_snd_of_eq h3]

@[simp] theorem scheduleOpt_fuses (s : State) (n : Option (BitVec 15)) : (s.scheduleOpt n).2.fuses = s.fuses := by
  unfold scheduleOpt
  split <;> simp

@[simp] theorem execKeysImport_keepsFuses (src : BitVec 5) (slot : BitVec 15) (blob : Bytes) (s : State) :
    KeepsFuses (execKeysImport src slot blob s) s := by
  unfold execKeysImport
  rw [next_keepsFuses]
  refine keyWrite_fuses (fun t => ?_)
  simp

@[simp] theorem execKeysExport_keepsFuses (slot : BitVec 15) (peer : BitVec 4) (s : State) : KeepsFuses (execKeysExport slot peer s) s := by
  simp only [execKeysExport]
  rw [next_keepsFuses]
  refine keyWrite_fuses (fun t => ?_)
  split <;> simp

@[simp] theorem execKeysZeroize_keepsFuses (slot : BitVec 15) (s : State) : KeepsFuses (execKeysZeroize slot s) s := by
  unfold execKeysZeroize
  rw [next_keepsFuses]
  refine keyWrite_fuses (fun t => ?_)
  simp

@[simp] theorem execKeysInfo_keepsFuses (slot : BitVec 15) (s : State) : KeepsFuses (execKeysInfo slot s) s := by
  unfold execKeysInfo
  rw [next_keepsFuses]
  refine keyWrite_fuses (fun t => ?_)
  simp

@[simp] theorem execKeysPeerSet_keepsFuses (peer : BitVec 4) (key : Bytes) (s : State) : KeepsFuses (execKeysPeerSet peer key s) s := by
  unfold execKeysPeerSet
  rw [next_keepsFuses]
  refine keyWrite_fuses (fun t => ?_)
  simp

@[simp] theorem execLedgerAppendDone_keepsFuses (s : State) : KeepsFuses (execLedgerAppendDone s) s := by
  unfold execLedgerAppendDone
  split
  · split <;> simp
  · simp

@[simp] theorem execKeyDropDone_keepsFuses (s : State) : KeepsFuses (execKeyDropDone s) s := by
  unfold execKeyDropDone
  split <;> simp

@[simp] theorem execEcdheGen_keepsFuses (p384 : Bool) (slot : BitVec 15) (s : State) : KeepsFuses (execEcdheGen p384 slot s) s := by
  simp [execEcdheGen]

@[simp] theorem execEcdh_keepsFuses (priv : BitVec 15) (peer : Bytes) (dst : BitVec 15) (s : State) :
    KeepsFuses (execEcdh priv peer dst s) s := by
  unfold execEcdh
  split
  next x0 t1 h2 => simp [fuses_snd_of_eq h2]
  next x0 x1 t2 h3 => simp [fuses_snd_of_eq h3]

@[simp] theorem execExtract_keepsFuses (salt input : Option (BitVec 15)) (dst : BitVec 15) (s : State) :
    KeepsFuses (execExtract salt input dst s) s := by
  rw [execExtract, next_keepsFuses]
  split
  next t h => rw [fuses_snd_of_eq h, scheduleOpt_fuses]
  next a t h =>
    have ht : t.fuses = s.fuses := by rw [fuses_snd_of_eq h, scheduleOpt_fuses]
    split
    next u h' => rw [fuses_snd_of_eq h', scheduleOpt_fuses, ht]
    next b u h' =>
      have hu : u.fuses = s.fuses := by rw [fuses_snd_of_eq h', scheduleOpt_fuses, ht]
      split <;> simp [hu]

@[simp] theorem execExpandLabel_keepsFuses (secret : BitVec 15) (label : Bytes) (context : Bytes) (dst : ExpandDst) (s : State) :
    KeepsFuses (execExpandLabel secret label context dst s) s := by
  unfold execExpandLabel
  split
  next x0 t1 h2 => simp [fuses_snd_of_eq h2]
  next x0 x1 t2 h3 => 
    split
    · simp [fuses_snd_of_eq h3]
    · simp [fuses_snd_of_eq h3]

@[simp] theorem execMac_keepsFuses (key : BitVec 15) (hash : Bytes) (s : State) : KeepsFuses (execMac key hash s) s := by
  unfold execMac
  split
  next x0 t1 h2 => simp [fuses_snd_of_eq h2]
  next x0 x1 t2 h3 => simp [fuses_snd_of_eq h3]

@[simp] theorem execSchedZeroize_keepsFuses (slot : BitVec 15) (s : State) : KeepsFuses (execSchedZeroize slot s) s := by
  simp [execSchedZeroize]

@[simp] theorem execDerivedSlotExpiry_keepsFuses (slot : BitVec 15) (s : State) : KeepsFuses (execDerivedSlotExpiry slot s) s := by
  simp [execDerivedSlotExpiry]

@[simp] theorem execTrngHealthFail_keepsFuses (s : State) : KeepsFuses (execTrngHealthFail s) s := by simp [execTrngHealthFail]
@[simp] theorem execTrngRecover_keepsFuses (s : State) : KeepsFuses (execTrngRecover s) s := by simp [execTrngRecover]

@[simp] theorem execNorEraseComplete_keepsFuses (area : NorArea) (ok : Bool) (s : State) :
    KeepsFuses (execNorEraseComplete area ok s) s := by
  unfold execNorEraseComplete
  split
  · split <;> simp
  · simp

/-! ### `Machine/Sessions` -/

@[simp] theorem ctxLoad_fuses (s : State) (i : Nat) (c : DigestCtx) : (s.ctxLoad i c).fuses = s.fuses := by
  unfold ctxLoad
  split <;> simp

@[simp] theorem ctxEnd_fuses (s : State) (i : Nat) : (s.ctxEnd i).fuses = s.fuses := by simp [ctxEnd]

@[simp] theorem compareWith_fuses (s : State) (value : Bytes) (digest : Bytes) (flipM : Bool) (flipN : Bool) :
    (s.compareWith value digest flipM flipN).fuses = s.fuses := by
  simp [compareWith]

@[simp] theorem closeAdmin_fuses (s : State) : (s.closeAdmin).fuses = s.fuses := by simp [closeAdmin]

@[simp] theorem setChallenge_fuses (s : State) (l : SessLevel) (c : Option Word256) : (s.setChallenge l c).fuses = s.fuses := by
  unfold setChallenge
  split <;> simp

@[simp] theorem setFails_fuses (s : State) (l : SessLevel) (n : Nat) : (s.setFails l n).fuses = s.fuses := by
  unfold setFails
  split <;> simp

@[simp] theorem lockFor_fuses (s : State) (l : SessLevel) (secs : Nat) : (s.lockFor l secs).fuses = s.fuses := by
  unfold lockFor
  split <;> simp

@[simp] theorem lockShow_fuses (s : State) : (s.lockShow).fuses = s.fuses := by simp [lockShow]
@[simp] theorem wrongAnswer_fuses (s : State) (l : SessLevel) : (s.wrongAnswer l).fuses = s.fuses := by simp [wrongAnswer]

@[simp] theorem openSession_fuses (s : State) (l : SessLevel) : (s.openSession l).fuses = s.fuses := by
  simp only [openSession]
  split <;> simp

theorem sessionAccess_fuses {s : State} {l : SessLevel} {addr : Nat} {f : State → State} (hf : ∀ t, (f t).fuses = t.fuses) :
    (s.sessionAccess l addr f).fuses = s.fuses := by
  unfold sessionAccess
  split
  · exact barWrite_fuses hf
  · exact hf s

@[simp] theorem tamperRegs_fuses (s : State) : (s.tamperRegs).fuses = s.fuses := by simp [tamperRegs]
@[simp] theorem zeroizeStore_fuses (s : State) : (s.zeroizeStore).fuses = s.fuses := by simp [zeroizeStore]

@[simp] theorem tamperResponse_fuses (s : State) (source : Nat) (standby : Bool) : (s.tamperResponse source standby).fuses = s.fuses := by
  simp [tamperResponse]

@[simp] theorem spdmAnswer_fuses (s : State) (ch : Channel) (r : SpdmRsp) : (s.spdmAnswer ch r).fuses = s.fuses := by simp [spdmAnswer]
@[simp] theorem identitySign_fuses (s : State) (msg : Bytes) : (s.identitySign msg).2.fuses = s.fuses := by simp [identitySign]

@[simp] theorem execDigestInit_keepsFuses (ctx : Fin 8) (alg : Hash) (s : State) : KeepsFuses (execDigestInit ctx alg s) s := by
  simp [execDigestInit]

@[simp] theorem execDigestKeypadI_keepsFuses (ctx : Fin 8) (level : SessLevel) (s : State) :
    KeepsFuses (execDigestKeypadI ctx level s) s := by
  simp [execDigestKeypadI]

@[simp] theorem execDigestKeypadO_keepsFuses (ctx : Fin 8) (level : SessLevel) (inner : Fin 8) (msg : Bytes) (s : State) :
    KeepsFuses (execDigestKeypadO ctx level inner msg s) s := by
  unfold execDigestKeypadO
  split
  · simp
  · split <;> simp

@[simp] theorem execDigestRestore_keepsFuses (ctx : Fin 8) (source : Fin 8) (seq : BitVec 32) (alg : Option Hash) (s : State) :
    KeepsFuses (execDigestRestore ctx source seq alg s) s := by
  unfold execDigestRestore
  split
  · simp
  · split <;> simp

@[simp] theorem execDigestFinal_keepsFuses (ctx : Fin 8) (msg : Bytes) (s : State) : KeepsFuses (execDigestFinal ctx msg s) s := by
  unfold execDigestFinal
  split <;> simp

@[simp] theorem execDigestFinalCompare_keepsFuses (ctx : Fin 8) (msg : Bytes) (value : Bytes) (flipM : Bool) (flipN : Bool) (s : State) :
    KeepsFuses (execDigestFinalCompare ctx msg value flipM flipN s) s := by
  unfold execDigestFinalCompare
  split <;> simp

@[simp] theorem execMeasExtGo_keepsFuses (mr : BitVec 5) (s : State) : KeepsFuses (execMeasExtGo mr s) s := by
  unfold execMeasExtGo
  split
  · rw [next_keepsFuses]
    refine barWrite_fuses (fun t => ?_)
    simp
  · rw [next_keepsFuses]
    refine barWrite_fuses (fun t => ?_)
    simp

@[simp] theorem execChallengeRequest_keepsFuses (level : SessLevel) (s : State) : KeepsFuses (execChallengeRequest level s) s := by
  unfold execChallengeRequest
  split
  · rw [next_keepsFuses]
    refine sessionAccess_fuses (fun t => ?_)
    simp
  · rw [next_keepsFuses]
    refine sessionAccess_fuses (fun t => ?_)
    simp

@[simp] theorem execChallengeResponse_keepsFuses (level : SessLevel) (answer : Word256) (s : State) :
    KeepsFuses (execChallengeResponse level answer s) s := by
  unfold execChallengeResponse
  split
  · rw [next_keepsFuses]
    refine barWrite_fuses (fun t => ?_)
    split <;> simp
  · rw [next_keepsFuses]
    refine sessionAccess_fuses (fun t => ?_)
    split <;> simp

@[simp] theorem execChallengeExpiry_keepsFuses (level : SessLevel) (s : State) : KeepsFuses (execChallengeExpiry level s) s := by
  simp [execChallengeExpiry]

@[simp] theorem execSessionClose_keepsFuses (level : SessLevel) (id : BitVec 32) (s : State) :
    KeepsFuses (execSessionClose level id s) s := by
  unfold execSessionClose
  split <;> simp

@[simp] theorem execAdminIdleTimeout_keepsFuses (s : State) : KeepsFuses (execAdminIdleTimeout s) s := by simp [execAdminIdleTimeout]

@[simp] theorem execSessionLockExpiry_keepsFuses (level : SessLevel) (s : State) : KeepsFuses (execSessionLockExpiry level s) s := by
  unfold execSessionLockExpiry
  split <;> simp

@[simp] theorem vaultLost_fuses (s : State) : (s.vaultLost).fuses = s.fuses := by simp [vaultLost]

@[simp] theorem execTamperAlarm_keepsFuses (source : Fin 6) (standby : Bool) (sec : Nat) (frac : Fin 32768) (s0 : State) :
    KeepsFuses (execTamperAlarm source standby sec frac s0) s0 := by
  simp [execTamperAlarm]

@[simp] theorem execTamperAlarmEnd_keepsFuses (source : Fin 6) (s : State) : KeepsFuses (execTamperAlarmEnd source s) s := by
  simp [execTamperAlarmEnd]

@[simp] theorem tamperClear_fuses (s : State) (confirm : BitVec 6) (bad : List Nat) : (s.tamperClear confirm bad).fuses = s.fuses := by
  simp [tamperClear]

@[simp] theorem execLifeTamperClear_keepsFuses (confirm : BitVec 6) (clear : Bool) (bad : List (BitVec 15)) (s : State) :
    KeepsFuses (execLifeTamperClear confirm clear bad s) s := by
  unfold execLifeTamperClear
  split
  · rw [next_keepsFuses]
    refine barWrite_fuses (fun t => ?_)
    simp
  · rw [next_keepsFuses]
    refine barWrite_fuses (fun t => ?_)
    simp

@[simp] theorem execSpdmGetVersion_keepsFuses (ch : Channel) (s : State) : KeepsFuses (execSpdmGetVersion ch s) s := by
  simp [execSpdmGetVersion]

@[simp] theorem execSpdmGetCapabilities_keepsFuses (ch : Channel) (s : State) : KeepsFuses (execSpdmGetCapabilities ch s) s := by
  simp [execSpdmGetCapabilities]

@[simp] theorem execSpdmNegotiateAlgorithms_keepsFuses (ch : Channel) (ecdsaP384 : Bool) (sha384 : Bool) (measSha384 : Bool) (s : State) :
    KeepsFuses (execSpdmNegotiateAlgorithms ch ecdsaP384 sha384 measSha384 s) s := by
  simp [execSpdmNegotiateAlgorithms]

@[simp] theorem execSpdmGetDigests_keepsFuses (ch : Channel) (s : State) : KeepsFuses (execSpdmGetDigests ch s) s := by
  simp [execSpdmGetDigests]

@[simp] theorem execSpdmGetCertificate_keepsFuses (ch : Channel) (slot : BitVec 8) (offset : BitVec 16) (length : BitVec 16) (s : State) :
    KeepsFuses (execSpdmGetCertificate ch slot offset length s) s := by
  simp [execSpdmGetCertificate]

@[simp] theorem execSpdmChallenge_keepsFuses (ch : Channel) (slot : BitVec 8) (nonce : Word256) (s : State) :
    KeepsFuses (execSpdmChallenge ch slot nonce s) s := by
  unfold execSpdmChallenge
  split
  · simp
  · split
    · simp
    · split
      next x0 x1 t2 h3 => simp [fuses_snd_of_eq h3]
      next x0 t1 h2 => simp [fuses_snd_of_eq h2]

@[simp] theorem execSpdmGetMeasurements_keepsFuses (ch : Channel) (index : BitVec 8) (signed : Bool) (nonce : Word256) (s : State) :
    KeepsFuses (execSpdmGetMeasurements ch index signed nonce s) s := by
  simp [execSpdmGetMeasurements]

@[simp] theorem execSpdmUnsupported_keepsFuses (ch : Channel) (s : State) : KeepsFuses (execSpdmUnsupported ch s) s := by
  simp [execSpdmUnsupported]

/-! ### `Machine/Head` -/

@[simp] theorem resetPage_fuses (s : State) (page : Nat) : (s.resetPage page).fuses = s.fuses := by simp [resetPage]
@[simp] theorem rollbackRegs_fuses (s : State) : (s.rollbackRegs).fuses = s.fuses := by simp [rollbackRegs]
@[simp] theorem uidRegs_fuses (s : State) : (s.uidRegs).fuses = s.fuses := by simp [uidRegs]
@[simp] theorem senseFuses_fuses (s : State) : (s.senseFuses).fuses = s.fuses := by simp [senseFuses]
@[simp] theorem norRegs_fuses (s : State) : (s.norRegs).fuses = s.fuses := by simp [norRegs]
@[simp] theorem dirWrite_fuses (s : State) (toB : Bool) (trial : Bool) : (s.dirWrite toB trial).fuses = s.fuses := by simp [dirWrite]
@[simp] theorem fatalEnter_fuses (s : State) (cause : Nat) (step : Nat) : (s.fatalEnter cause step).fuses = s.fuses := by simp [fatalEnter]

@[simp] theorem reloadAbort_fuses (s : State) : (s.reloadAbort).fuses = s.fuses := by
  unfold reloadAbort
  split <;> simp

@[simp] theorem mgmtRestart_fuses (s : State) : (s.mgmtRestart).fuses = s.fuses := by simp [mgmtRestart]
@[simp] theorem lifeBegin_fuses (s : State) (target : Nat) : (s.lifeBegin target).fuses = s.fuses := by simp [lifeBegin]

@[simp] theorem lifeRequest_fuses (s : State) (target : Nat) (confirmed : Bool) : (s.lifeRequest target confirmed).fuses = s.fuses := by
  unfold lifeRequest
  split <;> simp

@[simp] theorem lifeReqWrite_fuses (s : State) (target : Nat) (confirm : BitVec 8) : (s.lifeReqWrite target confirm).fuses = s.fuses := by
  unfold lifeReqWrite
  split
  · refine barWrite_fuses (fun t => ?_)
    simp
  · refine barWrite_fuses (fun t => ?_)
    simp

@[simp] theorem lifeStop_fuses (s : State) : (s.lifeStop).fuses = s.fuses := by simp [lifeStop]
@[simp] theorem returnWork_fuses (s : State) : (s.returnWork).fuses = s.fuses := by simp [returnWork]

@[simp] theorem execLifeReqProvision_keepsFuses (confirm : BitVec 8) (s : State) : KeepsFuses (execLifeReqProvision confirm s) s := by
  simp [execLifeReqProvision]

@[simp] theorem execLifeReqDeployed_keepsFuses (confirm : BitVec 8) (s : State) : KeepsFuses (execLifeReqDeployed confirm s) s := by
  simp [execLifeReqDeployed]

@[simp] theorem execLifeReqReturn_keepsFuses (confirm : BitVec 8) (s : State) : KeepsFuses (execLifeReqReturn confirm s) s := by
  simp [execLifeReqReturn]

@[simp] theorem execLifeReqScrap_keepsFuses (confirm : BitVec 8) (s : State) : KeepsFuses (execLifeReqScrap confirm s) s := by
  simp [execLifeReqScrap]

/-! ### `Machine/Management` -/

@[simp] theorem acceptableRegs_fuses (s : State) : (s.acceptableRegs).fuses = s.fuses := by simp [acceptableRegs]
@[simp] theorem updateFail_fuses (s : State) (result : Nat) : (s.updateFail result).fuses = s.fuses := by simp [updateFail]

@[simp] theorem updateBegin_fuses (s : State) (src : UpdSource) (i : Image) (tag : Option Nat) :
    (s.updateBegin src i tag).fuses = s.fuses := by
  simp [updateBegin]

@[simp] theorem updateInstall_fuses (s : State) (src : UpdSource) (i : Image) (tag : Option Nat) :
    (s.updateInstall src i tag).fuses = s.fuses := by
  simp [updateInstall]

theorem ifRunning_fuses {s : State} {f : State → State} (hf : ∀ t, (f t).fuses = t.fuses) : (s.ifRunning f).fuses = s.fuses := by
  unfold ifRunning
  split
  · exact hf s
  · rfl

theorem ifMonitor_fuses {s : State} {f : State → State} (hf : ∀ t, (f t).fuses = t.fuses) : (s.ifMonitor f).fuses = s.fuses := by
  unfold ifMonitor
  split
  · exact hf s
  · rfl

@[simp] theorem execMgmtWatchdogExpiry_keepsFuses (s : State) : KeepsFuses (execMgmtWatchdogExpiry s) s := by simp [execMgmtWatchdogExpiry]

@[simp] theorem execPldmFirmwareUpdate_keepsFuses (image : Image) (s : State) : KeepsFuses (execPldmFirmwareUpdate image s) s := by
  unfold execPldmFirmwareUpdate
  rw [next_keepsFuses]
  refine ifMonitor_fuses (fun t => ?_)
  simp

@[simp] theorem execUartImageReceive_keepsFuses (image : Image) (s : State) : KeepsFuses (execUartImageReceive image s) s := by
  unfold execUartImageReceive
  rw [next_keepsFuses]
  refine ifRunning_fuses (fun t => ?_)
  simp

@[simp] theorem execUpdateSlotProgrammed_keepsFuses (ok : Bool) (s : State) : KeepsFuses (execUpdateSlotProgrammed ok s) s := by
  unfold execUpdateSlotProgrammed
  split <;> simp

@[simp] theorem execTrialConfirm_keepsFuses (s : State) : KeepsFuses (execTrialConfirm s) s := by
  simp only [execTrialConfirm]
  split
  · split <;> simp
  · simp

@[simp] theorem execSensorSample_keepsFuses (sample : Sensor) (s : State) : KeepsFuses (execSensorSample sample s) s := by
  unfold execSensorSample
  split <;> simp

@[simp] theorem execGlitchDetect_keepsFuses (detector : Detector) (s : State) : KeepsFuses (execGlitchDetect detector s) s := by
  simp [execGlitchDetect]

@[simp] theorem execPldmBaseCommand_keepsFuses (cmd : PldmBase) (s : State) : KeepsFuses (execPldmBaseCommand cmd s) s := by
  unfold execPldmBaseCommand
  split
  · rw [next_keepsFuses]
    refine ifRunning_fuses (fun t => ?_)
    simp
  · rw [next_keepsFuses]
    refine ifRunning_fuses (fun t => ?_)
    simp
  · split
    · rw [next_keepsFuses]
      refine ifRunning_fuses (fun t => ?_)
      simp
    · split
      · rw [next_keepsFuses]
        refine ifRunning_fuses (fun t => ?_)
        simp
      · rw [next_keepsFuses]
        refine ifRunning_fuses (fun t => ?_)
        simp
  · rw [next_keepsFuses]
    refine ifRunning_fuses (fun t => ?_)
    simp
  · split
    · rw [next_keepsFuses]
      refine ifRunning_fuses (fun t => ?_)
      simp
    · split
      · rw [next_keepsFuses]
        refine ifRunning_fuses (fun t => ?_)
        simp
      · rw [next_keepsFuses]
        refine ifRunning_fuses (fun t => ?_)
        simp

@[simp] theorem execPldmGetPdr_keepsFuses (handle : BitVec 32) (s : State) : KeepsFuses (execPldmGetPdr handle s) s := by
  simp only [execPldmGetPdr]
  split
  · split
    · split
      · rw [next_keepsFuses]
        refine ifMonitor_fuses (fun t => ?_)
        simp
      · rw [next_keepsFuses]
        refine ifMonitor_fuses (fun t => ?_)
        simp
    · split
      · rw [next_keepsFuses]
        refine ifMonitor_fuses (fun t => ?_)
        simp
      · rw [next_keepsFuses]
        refine ifMonitor_fuses (fun t => ?_)
        simp
  · rw [next_keepsFuses]
    refine ifMonitor_fuses (fun t => ?_)
    simp

@[simp] theorem execPldmGetSensorReading_keepsFuses (id : BitVec 16) (s : State) : KeepsFuses (execPldmGetSensorReading id s) s := by
  unfold execPldmGetSensorReading
  rw [next_keepsFuses]
  refine ifMonitor_fuses (fun t => ?_)
  split <;> simp

@[simp] theorem execPldmGetStateSensorReadings_keepsFuses (n : BitVec 16) (s : State) :
    KeepsFuses (execPldmGetStateSensorReadings n s) s := by
  unfold execPldmGetStateSensorReadings
  rw [next_keepsFuses]
  refine ifMonitor_fuses (fun t => ?_)
  simp

@[simp] theorem execPldmSetEventReceiver_keepsFuses (eid : BitVec 8) (s : State) : KeepsFuses (execPldmSetEventReceiver eid s) s := by
  unfold execPldmSetEventReceiver
  rw [next_keepsFuses]
  refine ifMonitor_fuses (fun t => ?_)
  simp

@[simp] theorem execPldmUnsupported_keepsFuses (s : State) : KeepsFuses (execPldmUnsupported s) s := by
  unfold execPldmUnsupported
  rw [next_keepsFuses]
  refine ifRunning_fuses (fun t => ?_)
  simp

@[simp] theorem execMctpSetEndpointId_keepsFuses (eid : BitVec 8) (s : State) : KeepsFuses (execMctpSetEndpointId eid s) s := by
  unfold execMctpSetEndpointId
  rw [next_keepsFuses]
  refine ifRunning_fuses (fun t => ?_)
  simp

@[simp] theorem execMctpGetEndpointId_keepsFuses (s : State) : KeepsFuses (execMctpGetEndpointId s) s := by
  unfold execMctpGetEndpointId
  rw [next_keepsFuses]
  refine ifRunning_fuses (fun t => ?_)
  simp

@[simp] theorem execMctpGetVersionSupport_keepsFuses (s : State) : KeepsFuses (execMctpGetVersionSupport s) s := by
  unfold execMctpGetVersionSupport
  rw [next_keepsFuses]
  refine ifRunning_fuses (fun t => ?_)
  simp

@[simp] theorem execMctpGetMessageTypeSupport_keepsFuses (s : State) : KeepsFuses (execMctpGetMessageTypeSupport s) s := by
  unfold execMctpGetMessageTypeSupport
  rw [next_keepsFuses]
  refine ifRunning_fuses (fun t => ?_)
  simp

@[simp] theorem execMctpOtherType_keepsFuses (s : State) : KeepsFuses (execMctpOtherType s) s := by simp [execMctpOtherType]

@[simp] theorem execOobFrameReceive_keepsFuses (frame : OobFrame) (forUs : Bool) (data : Bytes) (s : State) :
    KeepsFuses (execOobFrameReceive frame forUs data s) s := by
  unfold execOobFrameReceive
  rw [next_keepsFuses]
  refine ifRunning_fuses (fun t => ?_)
  simp

/-! ### `Machine/Upstream` -/

@[simp] theorem upepPower_fuses (s : State) (st : Nat) : (s.upepPower st).fuses = s.fuses := by simp [upepPower]
@[simp] theorem upepOn_fuses (s : State) : (s.upepOn).fuses = s.fuses := by simp [upepOn]
@[simp] theorem dmaReturn_fuses (s : State) : (s.dmaReturn).fuses = s.fuses := by simp [dmaReturn]
@[simp] theorem setRing_fuses (s : State) (r : Nat) (x : Ring) : (s.setRing r x).fuses = s.fuses := by simp [setRing]
@[simp] theorem ringStatus_fuses (s : State) : (s.ringStatus).fuses = s.fuses := by simp [ringStatus]
@[simp] theorem ringDrop_fuses (s : State) (r : Nat) : (s.ringDrop r).fuses = s.fuses := by simp [ringDrop]
@[simp] theorem ringDropAll_fuses (s : State) : (s.ringDropAll).fuses = s.fuses := by simp [ringDropAll]
@[simp] theorem endpointReset_fuses (s : State) : (s.endpointReset).fuses = s.fuses := by simp [endpointReset]
@[simp] theorem wakeRelease_fuses (s : State) : (s.wakeRelease).fuses = s.fuses := by simp [wakeRelease]

@[simp] theorem cfgWrite_fuses (s : State) (r : CfgReg) (d : BitVec 32) : (s.cfgWrite r d).fuses = s.fuses := by
  unfold cfgWrite
  split <;> simp

@[simp] theorem ctlHold_fuses (s : State) (tag : Nat) (seqs : List Nat) (r0 : Word) (r1 : Word) :
    (s.ctlHold tag seqs r0 r1).fuses = s.fuses := by
  simp [ctlHold]

theorem ctlRun_fuses {s : State} {tag opcode : Nat} {buf : CtlBuf} {f : State → CtlAnswer} (hf : ∀ t, (f t).2.fuses = t.fuses) :
    (s.ctlRun tag opcode buf f).fuses = s.fuses := by
  have hs := hf s
  unfold ctlRun
  split
  · rfl
  · split
    · simp
    · simp
    · simp only
      split
      next t h => simpa [h] using hs
      next st r0 r1 t h =>
        split
        · simpa [h] using hs
        · simp

@[simp] theorem execPerstAssert_keepsFuses (s : State) : KeepsFuses (execPerstAssert s) s := by simp [execPerstAssert]
@[simp] theorem execPerstRelease_keepsFuses (s : State) : KeepsFuses (execPerstRelease s) s := by simp [execPerstRelease]

@[simp] theorem execConfigRequest_keepsFuses (write : Bool) (reg : CfgReg) (data : BitVec 32) (s : State) :
    KeepsFuses (execConfigRequest write reg data s) s := by
  simp [execConfigRequest]

@[simp] theorem execFunctionLevelReset_keepsFuses (s : State) : KeepsFuses (execFunctionLevelReset s) s := by simp [execFunctionLevelReset]

@[simp] theorem execPowerStateChange_keepsFuses (dst : DState) (s : State) : KeepsFuses (execPowerStateChange dst s) s := by
  unfold execPowerStateChange
  split <;> simp

@[simp] theorem execSqTailDoorbell_keepsFuses (ring : Fin 16) (value : BitVec 32) (s : State) :
    KeepsFuses (execSqTailDoorbell ring value s) s := by
  simp [execSqTailDoorbell]

@[simp] theorem execCqHeadDoorbell_keepsFuses (ring : Fin 16) (value : BitVec 32) (s : State) :
    KeepsFuses (execCqHeadDoorbell ring value s) s := by
  simp [execCqHeadDoorbell]

@[simp] theorem execEvConsDoorbell_keepsFuses (value : BitVec 32) (s : State) : KeepsFuses (execEvConsDoorbell value s) s := by
  simp [execEvConsDoorbell]

@[simp] theorem execCommandFetch_keepsFuses (ring : Fin 16) (opcode : BitVec 16) (barrier : Bool) (cmdId : BitVec 32) (token : Word)
    (session : BitVec 32) (s : State) : KeepsFuses (execCommandFetch ring opcode barrier cmdId token session s) s := by
  unfold execCommandFetch
  split <;> simp

@[simp] theorem execCommandCompletionPost_keepsFuses (tag : Nat) (s : State) : KeepsFuses (execCommandCompletionPost tag s) s := by
  unfold execCommandCompletionPost
  split
  · simp
  · split <;> simp

@[simp] theorem execAliveBeat_keepsFuses (s : State) : KeepsFuses (execAliveBeat s) s := by
  unfold execAliveBeat
  rw [next_keepsFuses]
  refine barWrite_fuses (fun t => ?_)
  simp

@[simp] theorem execAliveTimeout_keepsFuses (s : State) : KeepsFuses (execAliveTimeout s) s := by simp [execAliveTimeout]
@[simp] theorem execWakeRearm_keepsFuses (s : State) : KeepsFuses (execWakeRearm s) s := by simp [execWakeRearm]

@[simp] theorem execRingEnable_keepsFuses (ring : Fin 17) (cplBase : BitVec 40) (log2 : BitVec 4) (s : State) :
    KeepsFuses (execRingEnable ring cplBase log2 s) s := by
  unfold execRingEnable
  split
  · rw [next_keepsFuses]
    refine barWrite_fuses (fun t => ?_)
    simp
  · rw [next_keepsFuses]
    refine barWrite_fuses (fun t => ?_)
    simp

@[simp] theorem execRingDisable_keepsFuses (ring : Fin 17) (s : State) : KeepsFuses (execRingDisable ring s) s := by
  unfold execRingDisable
  split
  · rw [next_keepsFuses]
    refine barWrite_fuses (fun t => ?_)
    simp
  · rw [next_keepsFuses]
    refine barWrite_fuses (fun t => ?_)
    simp

@[simp] theorem execUpstreamLinkTrained_keepsFuses (rate : BitVec 3) (width : BitVec 5) (s : State) :
    KeepsFuses (execUpstreamLinkTrained rate width s) s := by
  simp [execUpstreamLinkTrained]

@[simp] theorem execCtlUnknownOpcode_keepsFuses (tag : Nat) (s : State) : KeepsFuses (execCtlUnknownOpcode tag s) s := by
  unfold execCtlUnknownOpcode
  split <;> simp

/-! ### `Machine/Power` -/

@[simp] theorem pwrSync_fuses (s : State) (page : Nat) : (s.pwrSync page).fuses = s.fuses := by simp [pwrSync]
@[simp] theorem setDom_fuses (s : State) (d : Nat) (st : Nat) : (s.setDom d st).fuses = s.fuses := by simp [setDom]
@[simp] theorem domUp_fuses (s : State) (d : Nat) : (s.domUp d).fuses = s.fuses := by simp [domUp]
@[simp] theorem domDown_fuses (s : State) (d : Nat) (st : Nat) : (s.domDown d st).fuses = s.fuses := by simp [domDown]

@[simp] theorem domEval_fuses (s : State) (d : Nat) : (s.domEval d).fuses = s.fuses := by
  unfold domEval
  split <;> simp

@[simp] theorem powerEval_fuses (s : State) (page : Nat) : (s.powerEval page).fuses = s.fuses := by simp [powerEval]
@[simp] theorem toState_fuses (s : State) (page : Nat) (st : Nat) : (s.toState page st).fuses = s.fuses := by simp [toState]
@[simp] theorem avsRefresh_fuses (s : State) : (s.avsRefresh).fuses = s.fuses := by simp [avsRefresh]
@[simp] theorem ceilUpdate_fuses (s : State) (n : Nat) : (s.ceilUpdate n).fuses = s.fuses := by simp [ceilUpdate]
@[simp] theorem zoneUpdate_fuses (s : State) (z : Nat) : (s.zoneUpdate z).fuses = s.fuses := by simp [zoneUpdate]
@[simp] theorem ceilAll_fuses (s : State) : (s.ceilAll).fuses = s.fuses := by simp [ceilAll]
@[simp] theorem setStretch_fuses (s : State) (div : Nat) : (s.setStretch div).fuses = s.fuses := by simp [setStretch]
@[simp] theorem fanRefresh_fuses (s : State) : (s.fanRefresh).fuses = s.fuses := by simp [fanRefresh]
@[simp] theorem emergencyBegin_fuses (s : State) : (s.emergencyBegin).fuses = s.fuses := by simp [emergencyBegin]
@[simp] theorem setLoop_fuses (s : State) (l : Nat) (x : Loop) : (s.setLoop l x).fuses = s.fuses := by simp [setLoop]

@[simp] theorem loopFlags_fuses (s : State) (l : Nat) (p : Bool) (i : Bool) (d : Bool) (u : Bool) (sp : Bool) :
    (s.loopFlags l p i d u sp).fuses = s.fuses := by
  simp [loopFlags]

@[simp] theorem loopSample_fuses (s : State) (l : Nat) : (s.loopSample l).fuses = s.fuses := by simp [loopSample]
@[simp] theorem loopDrive_fuses (s : State) (l : Nat) : (s.loopDrive l).fuses = s.fuses := by simp [loopDrive]
@[simp] theorem loopSafe_fuses (s : State) (l : Nat) : (s.loopSafe l).fuses = s.fuses := by simp [loopSafe]
@[simp] theorem loopProfile_fuses (s : State) (l : Nat) : (s.loopProfile l).fuses = s.fuses := by simp [loopProfile]

@[simp] theorem thermalSample_fuses (s : State) (temps : List (BitVec 16)) : (s.thermalSample temps).fuses = s.fuses := by
  simp [thermalSample]

@[simp] theorem execPowerRequest_keepsFuses (page : BitVec 13) (req : BitVec 2) (s : State) :
    KeepsFuses (execPowerRequest page req s) s := by
  unfold execPowerRequest
  split
  · simp
  · split
    · simp
    · rw [next_keepsFuses]
      refine barWrite_fuses (fun t => ?_)
      simp

@[simp] theorem execRailPoll_keepsFuses (vout : List (BitVec 16)) (iout : List (BitVec 16)) (status : List (BitVec 16))
    (core7 : BitVec 16) (s : State) : KeepsFuses (execRailPoll vout iout status core7 s) s := by
  simp [execRailPoll]

@[simp] theorem execPmbAlert_keepsFuses (rail : Fin 12) (status : BitVec 16) (warning : Bool) (s : State) :
    KeepsFuses (execPmbAlert rail status warning s) s := by
  simp [execPmbAlert]

@[simp] theorem execRailStep_keepsFuses (rail : Fin 8) (s : State) : KeepsFuses (execRailStep rail s) s := by simp [execRailStep]

@[simp] theorem execDomainPowerUpDone_keepsFuses (dom : Fin 183) (s : State) : KeepsFuses (execDomainPowerUpDone dom s) s := by
  simp only [execDomainPowerUpDone]
  split
  · split <;> simp
  · simp

@[simp] theorem execDomainPowerDownDone_keepsFuses (dom : Fin 183) (s : State) : KeepsFuses (execDomainPowerDownDone dom s) s := by
  simp [execDomainPowerDownDone]

@[simp] theorem execDomainVoltageSettled_keepsFuses (dvfs : Fin 34) (s : State) : KeepsFuses (execDomainVoltageSettled dvfs s) s := by
  unfold execDomainVoltageSettled
  split <;> simp

@[simp] theorem execWarpSegmentFault_keepsFuses (s : State) : KeepsFuses (execWarpSegmentFault s) s := by simp [execWarpSegmentFault]

@[simp] theorem execThermalEmergencyClear_keepsFuses (s : State) : KeepsFuses (execThermalEmergencyClear s) s := by
  simp [execThermalEmergencyClear]

@[simp] theorem execTempleLoopSample_keepsFuses (loop : Fin 8) (s : State) : KeepsFuses (execTempleLoopSample loop s) s := by
  simp [execTempleLoopSample]

@[simp] theorem execLoopEnable_keepsFuses (loop : Fin 8) (enable : Bool) (s : State) : KeepsFuses (execLoopEnable loop enable s) s := by
  unfold execLoopEnable
  rw [next_keepsFuses]
  refine barWrite_fuses (fun t => ?_)
  simp

@[simp] theorem execLoopHold_keepsFuses (loop : Fin 8) (hold : Bool) (s : State) : KeepsFuses (execLoopHold loop hold s) s := by
  unfold execLoopHold
  rw [next_keepsFuses]
  refine barWrite_fuses (fun t => ?_)
  simp

@[simp] theorem execLoopIReset_keepsFuses (loop : Fin 8) (s : State) : KeepsFuses (execLoopIReset loop s) s := by
  unfold execLoopIReset
  rw [next_keepsFuses]
  refine barWrite_fuses (fun t => ?_)
  simp

@[simp] theorem execFanStall_keepsFuses (fan : Fin 4) (s : State) : KeepsFuses (execFanStall fan s) s := by simp [execFanStall]
@[simp] theorem execFanRecover_keepsFuses (fan : Fin 4) (s : State) : KeepsFuses (execFanRecover fan s) s := by simp [execFanRecover]

/-! ### `Machine/ServiceCores` -/

@[simp] theorem rateServo_fuses (s : State) : (s.rateServo).fuses = s.fuses := by simp [rateServo]
@[simp] theorem handOff_fuses (s : State) (k : WorkKind) : (s.handOff k).fuses = s.fuses := by simp [handOff]
@[simp] theorem ownQueue_fuses (s : State) (q : Nat) (c : Nat) : (s.ownQueue q c).fuses = s.fuses := by simp [ownQueue]

@[simp] theorem adoptQueues_fuses (s : State) (cores : List Nat) : (s.adoptQueues cores).fuses = s.fuses := by
  unfold adoptQueues
  refine foldl_fuses (fun t a => ?_) _ _
  (repeat' split) <;> simp

@[simp] theorem levelQueues_fuses (cores : List Nat) (n : Nat) (s : State) : (levelQueues cores n s).fuses = s.fuses := by
  induction n generalizing s with
  | zero => rfl
  | succ n ih =>
    unfold levelQueues
    split
    · split
      · split <;> simp [ih]
      · rfl
    · rfl

@[simp] theorem queuesShow_fuses (s : State) : (s.queuesShow).fuses = s.fuses := by simp [queuesShow]
@[simp] theorem rebalanceQueues_fuses (s : State) : (s.rebalanceQueues).fuses = s.fuses := by simp [rebalanceQueues]

@[simp] theorem execWorkItem_keepsFuses (core : Fin 16) (queue : Fin 64) (again : Bool) (reqStep : BitVec 4) (busy : Fin 101)
    (s : State) : KeepsFuses (execWorkItem core queue again reqStep busy s) s := by
  unfold execWorkItem
  split <;> simp

/-! ### `Machine/Chunks` -/

@[simp] theorem setChunk_fuses (s : State) (c : Nat) (e : Chunk) : (s.setChunk c e).fuses = s.fuses := by simp [setChunk]
@[simp] theorem dictRef_fuses (s : State) (id : Nat) (up : Bool) : (s.dictRef id up).fuses = s.fuses := by simp [dictRef]

@[simp] theorem dropChunk_fuses (s : State) (c : Nat) : (s.dropChunk c).fuses = s.fuses := by
  unfold dropChunk
  split <;> simp

theorem fuses_of_reserveFrom {s : State} {l : List (Nat × Pool)} {a : Nat} {t : State} (h : s.reserveFrom l = some (a, t)) :
    t.fuses = s.fuses := by
  induction l with
  | nil => cases h
  | cons x l ih =>
    unfold reserveFrom at h
    split at h
    · split at h
      · obtain ⟨-, rfl⟩ := Prod.mk.inj (Option.some.inj h)
        simp
      · exact ih h
    · exact ih h

theorem fuses_of_reserveId {s : State} {a : Nat} {t : State} (h : s.reserveId = some (a, t)) : t.fuses = s.fuses :=
  fuses_of_reserveFrom h

@[simp] theorem returnId_fuses (s : State) (c : Nat) : (s.returnId c).fuses = s.fuses := by simp [returnId]
@[simp] theorem freeId_fuses (s : State) (c : Nat) : (s.freeId c).fuses = s.fuses := by simp [freeId]
@[simp] theorem rebuildPools_fuses (s : State) (which : Pool → Bool) : (s.rebuildPools which).fuses = s.fuses := by simp [rebuildPools]

@[simp] theorem newChunk_fuses (s : State) (c : Nat) (tenant : Nat) (fp : Nat) : (s.newChunk c tenant fp).fuses = s.fuses := by
  simp [newChunk]

@[simp] theorem countUp_fuses (s : State) (c : Nat) (n : Nat) : (s.countUp c n).fuses = s.fuses := by
  unfold countUp
  split <;> simp

@[simp] theorem indexShow_fuses (s : State) : (s.indexShow).fuses = s.fuses := by simp [indexShow]
@[simp] theorem setBucketOf_fuses (s : State) (fp : Nat) (b : List IdxEntry) : (s.setBucketOf fp b).fuses = s.fuses := by simp [setBucketOf]

@[simp] theorem probe_fuses (tenant fp n : Nat) (s : State) : (probe tenant fp n s).st.fuses = s.fuses := by
  induction n generalizing s with
  | zero => rfl
  | succ n ih =>
    unfold probe
    split
    · rfl
    · split <;> simp [ih]

@[simp] theorem shardLookup_fuses (s : State) (tenant fp chunk head : Nat) : (s.shardLookup tenant fp chunk head).st.fuses = s.fuses := by
  simp only [shardLookup]
  (repeat' split) <;> simp

@[simp] theorem clearPending_fuses (s : State) (c : Nat) : (s.clearPending c).fuses = s.fuses := by simp [clearPending]
@[simp] theorem withdrawPending_fuses (s : State) (c : Nat) : (s.withdrawPending c).fuses = s.fuses := by simp [withdrawPending]
@[simp] theorem withdrawIndex_fuses (s : State) (c : Nat) : (s.withdrawIndex c).fuses = s.fuses := by simp [withdrawIndex]

/-! ### `Machine/Trees` -/

@[simp] theorem setPage_fuses (s : State) (id : Nat) (p : Page) : (s.setPage id p).fuses = s.fuses := by simp [setPage]
@[simp] theorem newPageId_fuses (s : State) : (s.newPageId).2.fuses = s.fuses := by simp [newPageId]
@[simp] theorem modVol_fuses (s : State) (v : Nat) (f : Volume → Volume) : (s.modVol v f).fuses = s.fuses := by simp [modVol]

@[simp] theorem writable_fuses (s : State) (v id gen : Nat) : (s.writable v id gen).st.fuses = s.fuses := by
  simp only [writable]
  (repeat' split) <;> simp

@[simp] theorem insertLeaf_fuses (v gen li leaf n id : Nat) (s : State) : (insertLeaf v gen li leaf n id s).1.st.fuses = s.fuses := by
  induction n generalizing id s with
  | zero => rfl
  | succ n ih =>
    simp only [insertLeaf]
    split
    · simp
    · split
      next hlevel =>
        split
        · split <;> simp
        · split
          · split <;> simp
          · split <;> simp
      next hlevel =>
        split
        next h =>
          split <;> simp
        next c h =>
          simp only [apply_ite (fun o : TreeOut × Option (Nat × Nat × Nat) => o.1.st.fuses)]
          split <;> simp [ih]

@[simp] theorem touchLeaf_fuses (s : State) (v li : Nat) : (s.touchLeaf v li).1.fuses = s.fuses := by
  simp only [touchLeaf]
  split
  · rfl
  next x hx =>
    generalize hstep : (if (x.root != 0 && (s.findLeaf li 10 x.root).isSome) = true then _ else _ : Nat × State × List Ctl) = step
    have hs : step.2.1.fuses = s.fuses := by
      rw [← hstep]
      split <;> simp
    split
    · rw [modVol_fuses, setPage_fuses, newPageId_fuses, hs]
    · split
      · rw [modVol_fuses, insertLeaf_fuses, hs]
      · rw [modVol_fuses, setPage_fuses, newPageId_fuses, insertLeaf_fuses, hs]

@[simp] theorem unlinkPage_fuses (s : State) (id : Nat) (gen : Nat) : (s.unlinkPage id gen).1.fuses = s.fuses := by
  unfold unlinkPage
  split
  · split <;> simp
  · simp

@[simp] theorem joinPages_fuses (s : State) (v gen : Nat) (a b : Nat × Nat × Nat) : (s.joinPages v gen a b).1.fuses = s.fuses := by
  simp only [joinPages]
  split
  · split <;> simp
  · rfl

@[simp] theorem removeSlot_fuses (v gen li n id : Nat) (s : State) : (removeSlot v gen li n id s).1.fuses = s.fuses := by
  induction n generalizing id s with
  | zero => rfl
  | succ n ih =>
    simp only [removeSlot]
    split
    · rfl
    · split
      · simp
      · split
        · rfl
        · split
          · simp [ih]
          · split <;> simp [ih]

@[simp] theorem lowerRoot_fuses (v gen n : Nat) (s : State) : (lowerRoot v gen n s).1.fuses = s.fuses := by
  induction n generalizing s with
  | zero => rfl
  | succ n ih =>
    simp only [lowerRoot]
    split
    · rfl
    · split
      · rfl
      · split
        · simp
        · split <;> simp [ih]
        · rfl

@[simp] theorem dropLeaf_fuses (s : State) (v : Nat) (li : Nat) : (s.dropLeaf v li).1.fuses = s.fuses := by
  unfold dropLeaf
  (repeat' split) <;> simp

@[simp] theorem setGrain_fuses (s : State) (v : Nat) (g : Nat) (c : Option Nat) (seq : Nat) : (s.setGrain v g c seq).1.fuses = s.fuses := by
  unfold setGrain
  (repeat' split) <;> simp

@[simp] theorem residentShow_fuses (s : State) : (s.residentShow).fuses = s.fuses := by simp [residentShow]

/-! ### `Machine/Bobbin` -/

@[simp] theorem setBob_fuses (s : State) (n : Nat) (b : Bobbin) : (s.setBob n b).fuses = s.fuses := by simp [setBob]
@[simp] theorem bobCnt_fuses (s : State) (n : Nat) (k : Nat) : (s.bobCnt n k).fuses = s.fuses := by simp [bobCnt]
@[simp] theorem bobStall_fuses (s : State) (n : Nat) (k : Nat) : (s.bobStall n k).fuses = s.fuses := by simp [bobStall]
@[simp] theorem bobDrain_fuses (s : State) (n : Nat) : (s.bobDrain n).fuses = s.fuses := by simp [bobDrain]

@[simp] theorem bobMerge_fuses (s : State) (n : Nat) (v : Nat) (page : Nat) (slot : Nat) : (s.bobMerge n v page slot).fuses = s.fuses := by
  simp [bobMerge]

@[simp] theorem bobApply_fuses (s : State) (v : Nat) (li : Nat) (page : Nat) (slot : Nat) :
    (s.bobApply v li page slot).fuses = s.fuses := by
  unfold bobApply
  split <;> simp

theorem fuses_of_bobTry {s : State} {n v page sector : Nat} {resident : Bool} {t : State} (h : s.bobTry n v page sector resident = some t) :
    t.fuses = s.fuses := by
  simp only [bobTry] at h
  split at h
  · obtain rfl := Option.some.inj h
    simp
  · split at h
    · obtain rfl := Option.some.inj h
      simp
    · split at h
      · split at h
        · cases h
        · obtain rfl := Option.some.inj h
          simp
      · split at h
        · cases h
        · obtain rfl := Option.some.inj h
          split <;> simp

@[simp] theorem bobLookup_fuses (s : State) (n v page sector : Nat) (resident : Bool) :
    (s.bobLookup n v page sector resident).fuses = s.fuses := by
  unfold bobLookup
  split
  next t h => exact fuses_of_bobTry h
  · simp

@[simp] theorem bobResume_fuses (s : State) (n : Nat) : (s.bobResume n).fuses = s.fuses := by
  refine foldl_fuses (fun t x => ?_) _ _
  split
  next u h => simp [fuses_of_bobTry h]
  · rfl

@[simp] theorem bobFill_fuses (s : State) (n : Nat) (v : Nat) (page : Nat) (sector : Nat) :
    (s.bobFill n v page sector).fuses = s.fuses := by
  simp only [bobFill]
  split <;> simp

@[simp] theorem bobInvalidate_fuses (s : State) : (s.bobInvalidate).fuses = s.fuses := by simp [bobInvalidate]

/-! ### `Machine/Segments` -/

@[simp] theorem setModule_fuses (s : State) (k : Nat) (m : Module) : (s.setModule k m).fuses = s.fuses := by simp [setModule]
@[simp] theorem modModule_fuses (s : State) (k : Nat) (f : Module → Module) : (s.modModule k f).fuses = s.fuses := by simp [modModule]
@[simp] theorem submit1_fuses (s : State) (k : Nat) (c : MqpCmd) : (s.submit1 k c).fuses = s.fuses := by simp [submit1]

@[simp] theorem mqpIssue_fuses (s : State) (k : Nat) (op : Nat) (die : Nat) (block : Nat) (unit : Nat) (arg0 : Word) (arg1 : Word)
    (arg2 : Nat) (use : MqpUse) : (s.mqpIssue k op die block unit arg0 arg1 arg2 use).fuses = s.fuses := by
  simp [mqpIssue]

@[simp] theorem mqpNext_fuses (s : State) (k : Nat) : (s.mqpNext k).fuses = s.fuses := by simp [mqpNext]
@[simp] theorem setBlkOf_fuses (s : State) (k : Nat) (b : Blk) : (s.setBlkOf k b).fuses = s.fuses := by simp [setBlkOf]
@[simp] theorem setSeg_fuses (s : State) (i : Nat) (g : Seg) : (s.setSeg i g).fuses = s.fuses := by simp [setSeg]
@[simp] theorem modSeg_fuses (s : State) (i : Nat) (f : Seg → Seg) : (s.modSeg i f).fuses = s.fuses := by simp [modSeg]
@[simp] theorem mediaShow_fuses (s : State) : (s.mediaShow).fuses = s.fuses := by simp [mediaShow]
@[simp] theorem mediaCnt_fuses (s : State) (n : Nat) (k : Nat) : (s.mediaCnt n k).fuses = s.fuses := by simp [mediaCnt]

theorem fuses_of_openSegment {s : State} {ty w least : Nat} {a : Nat} {t : State} (h : s.openSegment ty w least = some (a, t)) :
    t.fuses = s.fuses := by
  simp only [openSegment] at h
  split at h
  · cases h
  · split at h
    · cases h
    · split at h
      · cases h
      · obtain ⟨-, rfl⟩ := Prod.mk.inj (Option.some.inj h)
        simp

@[simp] theorem unreserve_fuses (s : State) (id : Nat) : (s.unreserve id).fuses = s.fuses := by
  unfold unreserve
  split <;> simp

theorem fuses_of_openNew {s : State} {ty : Nat} {a : Nat} {t : State} (h : s.openNew ty = some (a, t)) : t.fuses = s.fuses := by
  unfold openNew at h
  split at h
  · cases h
  · exact fuses_of_openSegment h

@[simp] theorem openFor_fuses (s : State) (t : Nat) : (s.openFor t).fuses = s.fuses := by
  unfold openFor
  split
  · rfl
  · cases h : s.openNew t with
    | none => rfl
    | some r => exact fuses_of_openNew h

@[simp] theorem liveAdd_fuses (s : State) (seg : Nat) (n : Nat) : (s.liveAdd seg n).fuses = s.fuses := by simp [liveAdd]
@[simp] theorem liveSub_fuses (s : State) (seg : Nat) (n : Nat) : (s.liveSub seg n).fuses = s.fuses := by simp [liveSub]

@[simp] theorem programUnit_fuses (s : State) (id : Nat) (row : Nat) (member : Nat) (g : Seg) (m : Nat × Nat × Nat) (content : Bytes)
    (tag : Bytes) : (s.programUnit id row member g m content tag).fuses = s.fuses := by
  simp [programUnit]

@[simp] theorem closeRow_fuses (s : State) (seg : Nat) : (s.closeRow seg).fuses = s.fuses := by
  simp only [closeRow]
  split
  · simp
  · split
    · simp
    · split
      · simp
      · refine foldl_fuses (fun t a => ?_) _ _
        split <;> simp

theorem fuses_of_rowFor {s : State} {ty : Nat} {a : Nat} {t : State} (h : s.rowFor ty = some (a, t)) : t.fuses = s.fuses := by
  simp only [rowFor] at h
  split at h
  · obtain ⟨-, rfl⟩ := Prod.mk.inj (Option.some.inj h)
    rfl
  · split at h
    · obtain ⟨-, rfl⟩ := Prod.mk.inj (Option.some.inj h)
      simp
    · split at h
      next id s1 hnew =>
        obtain ⟨-, rfl⟩ := Prod.mk.inj (Option.some.inj h)
        simpa using fuses_of_openNew hnew
      · cases h

@[simp] theorem bulkNext_fuses (s : State) (t : Nat) : (s.bulkNext t).fuses = s.fuses := by
  simp only [bulkNext]
  split
  · rfl
  · split
    · split
      · split <;> simp
      · split <;> simp
    · split
      next id u h => simpa using fuses_of_openSegment h
      · rfl

@[simp] theorem bulkRetry_fuses (s : State) : (s.bulkRetry).fuses = s.fuses := by simp [bulkRetry]

theorem fuses_of_packForm {s : State} {t chunk n : Nat} {moved : Bool} {fuel : Nat} {u : State} (h : s.packForm t chunk n moved fuel = some u) :
    u.fuses = s.fuses := by
  induction fuel generalizing s with
  | zero => cases h
  | succ fuel ih =>
    simp only [packForm] at h
    split at h
    · cases h
    next id s1 hrow =>
      have hs1 : s1.fuses = s.fuses := fuses_of_rowFor hrow
      split at h
      · cases h
      · split at h
        · cases h
        · split at h
          · rw [ih h, closeRow_fuses, hs1]
          · obtain rfl := Option.some.inj h
            split <;> simp [hs1]

/-! ### `Machine/Ring` -/

@[simp] theorem stripeWrite_fuses (region : Nat) (s : State) (block : Nat) : (stripeWrite region s block).fuses = s.fuses := by
  simp [stripeWrite]

@[simp] theorem blocksWrite_fuses (s : State) (region : Nat) (off : Nat) (n : Nat) : (s.blocksWrite region off n).fuses = s.fuses := by
  simp [blocksWrite]

@[simp] theorem lapStart_fuses (s : State) (region : Nat) (off : Nat) (n : Nat) : (s.lapStart region off n).fuses = s.fuses := by
  simp [lapStart]

@[simp] theorem mirrorLap_fuses (s : State) (off : Nat) (n : Nat) : (s.mirrorLap off n).fuses = s.fuses := by simp [mirrorLap]
@[simp] theorem regionsHurt_fuses (s : State) (channel : Nat) : (s.regionsHurt channel).fuses = s.fuses := by simp [regionsHurt]
@[simp] theorem restripe_fuses (s : State) (channels : List Nat) : (s.restripe channels).fuses = s.fuses := by simp [restripe]
@[simp] theorem ringClear_fuses (s : State) (region : Nat) : (s.ringClear region).fuses = s.fuses := by simp [ringClear]

/-! ### `Machine/Journal` -/

@[simp] theorem selvShow_fuses (s : State) : (s.selvShow).fuses = s.fuses := by simp [selvShow]
@[simp] theorem takeExtent_fuses (s : State) (n : Nat) (cmd : Option Nat) : (s.takeExtent n cmd).2.fuses = s.fuses := by simp [takeExtent]
@[simp] theorem formsHeaded_fuses (s : State) (r : JRec) : (s.formsHeaded r).fuses = s.fuses := by simp [formsHeaded]

@[simp] theorem headAt_fuses (s : State) (r : JRec) (off : Nat) (blks : Nat) (tee : Bool) :
    (s.headAt r off blks tee).2.fuses = s.fuses := by
  simp [headAt]

@[simp] theorem headRec_fuses (s : State) (r : JRec) : (s.headRec r).2.fuses = s.fuses := by simp [headRec]

@[simp] theorem appendRec_fuses (s : State) (r : JRec) : (s.appendRec r).2.fuses = s.fuses := by
  unfold appendRec
  split <;> simp

@[simp] theorem headWaits_fuses (n : Nat) (s : State) : (headWaits n s).fuses = s.fuses := by
  induction n generalizing s with
  | zero => rfl
  | succ n ih =>
    unfold headWaits
    split
    · rfl
    · split <;> simp [ih]

@[simp] theorem journalRuns_fuses (n : Nat) (s : State) (l : List Ctl) : (journalRuns n s l).fuses = s.fuses := by
  induction n generalizing s l with
  | zero => rfl
  | succ n ih =>
    cases l with
    | nil => rfl
    | cons c l => simp [journalRuns, ih]

@[simp] theorem journalCtl_fuses (s : State) (l : List Ctl) : (s.journalCtl l).fuses = s.fuses := by simp [journalCtl]

@[simp] theorem imageDies_fuses (s : State) (id : Nat) (p : Page) : (s.imageDies id p).fuses = s.fuses := by
  unfold imageDies
  split <;> simp

@[simp] theorem liveDies_fuses (s : State) (c : Nat) (e : Chunk) : (s.liveDies c e).fuses = s.fuses := by simp [liveDies]

@[simp] theorem aliasRemoved_fuses (s : State) (c : Nat) (target : Nat) : (s.aliasRemoved c target).fuses = s.fuses := by
  simp [aliasRemoved]

@[simp] theorem countDown_fuses (s : State) (c : Nat) : (s.countDown c).fuses = s.fuses := by
  unfold countDown
  (repeat' split) <;> simp

@[simp] theorem lower_fuses (s : State) (l : List Nat) : (s.lower l).fuses = s.fuses := by simp [lower]

@[simp] theorem mapGrain_fuses (s : State) (v : Nat) (g : Nat) (c : Option Nat) (seq : Nat) : (s.mapGrain v g c seq).1.fuses = s.fuses := by
  simp only [mapGrain]
  (repeat' split) <;> simp

@[simp] theorem readyLeaves_fuses (s : State) (r : JRec) : (s.readyLeaves r).fuses = s.fuses := by
  simp only [readyLeaves, journalCtl_fuses]
  rw [fuses_foldl_fst fun b li => by simp]

@[simp] theorem applyDelta_fuses (r : JRec) (rise : Bool) (a : State × List Nat) (d : Delta) :
    (applyDelta r rise a d).1.fuses = a.1.fuses := by
  cases d <;> simp only [applyDelta]
  case store => simp
  case dedup => simp
  case pending => simp
  case deallocRange =>
    split
    · rfl
    · exact fuses_foldl_fst (fun b e => by simp) _ _
  case copyRange =>
    refine fuses_foldl_fst (fun b i => ?_) _ _
    simp only [mapGrain_fuses]
    split
    · split <;> simp
    · rfl

@[simp] theorem applyDeltas_fuses (s : State) (r : JRec) : (s.applyDeltas r).1.fuses = s.fuses :=
  fuses_foldl_fst (fun b d => applyDelta_fuses r true b d) _ _

@[simp] theorem applyPlaced_fuses (d : RowDur) (s : State) (p : Placed) : (applyPlaced d s p).fuses = s.fuses := by
  unfold applyPlaced
  split <;> simp

@[simp] theorem formsPlaced_fuses (s : State) (l : List Placed) : (s.formsPlaced l).fuses = s.fuses := by simp [formsPlaced]
@[simp] theorem applyRow_fuses (s : State) (d : RowDur) : (s.applyRow d).fuses = s.fuses := by simp [applyRow]

@[simp] theorem rowDurable_fuses (s : State) (seg : Nat) (row : Nat) (forms : List Placed) :
    (s.rowDurable seg row forms).fuses = s.fuses := by
  unfold rowDurable
  split <;> simp

@[simp] theorem poolRelease_fuses (s : State) (p : Nat) : (s.poolRelease p).fuses = s.fuses := by
  unfold poolRelease
  split <;> simp

@[simp] theorem freeingDone_fuses (s : State) (c : Ctl) : (s.freeingDone c).fuses = s.fuses := by
  unfold freeingDone
  (repeat' split) <;> simp

@[simp] theorem flashedDone_fuses (s : State) (r : JRec) : (s.flashedDone r).fuses = s.fuses := by simp [flashedDone]
@[simp] theorem markMirrored_fuses (s : State) (p : JRec → Bool) : (s.markMirrored p).fuses = s.fuses := by simp [markMirrored]
@[simp] theorem flashEval_fuses (s : State) : (s.flashEval).fuses = s.fuses := by simp [flashEval]
@[simp] theorem retire_fuses (s : State) : (s.retire).fuses = s.fuses := by simp [retire]
@[simp] theorem journalStep_fuses (s : State) : (s.journalStep).fuses = s.fuses := by simp [journalStep]
@[simp] theorem journalDurable_fuses (s : State) (seqs : List Nat) : (s.journalDurable seqs).fuses = s.fuses := by simp [journalDurable]
@[simp] theorem closeEarly_fuses (s : State) : (s.closeEarly).fuses = s.fuses := by simp [closeEarly]

@[simp] theorem packRows_fuses (s : State) : (s.packRows).fuses = s.fuses := by
  unfold packRows
  refine fuses_foldl_fst (fun b a => ?_) _ _
  split
  · simp
  · split
    next x3 t4 h5 => simp [fuses_of_packForm h5]
    · simp

@[simp] theorem packWaiting_fuses (s : State) : (s.packWaiting).fuses = s.fuses := by simp [packWaiting]

/-! ### `Machine/Vault` -/

@[simp] theorem vaultNext_fuses (s : State) (id : Nat) : (s.vaultNext id).fuses = s.fuses := by
  unfold vaultNext
  (repeat' split) <;> simp

@[simp] theorem vaultStart_fuses (s : State) (area : Nat) : (s.vaultStart area).fuses = s.fuses := by simp [vaultStart]

@[simp] theorem vaultDone_fuses (s : State) (id : Nat) (member : Nat) (ok : Bool) : (s.vaultDone id member ok).fuses = s.fuses := by
  unfold vaultDone
  (repeat' split) <;> simp

@[simp] theorem rootFail_fuses (s : State) (id : Nat) : (s.rootFail id).fuses = s.fuses := by
  unfold rootFail
  split <;> simp

@[simp] theorem rootDurable_fuses (s : State) (id : Nat) : (s.rootDurable id).fuses = s.fuses := by
  unfold rootDurable
  split <;> simp

/-! ### `Machine/Loom` -/

@[simp] theorem loomSet_fuses (s : State) (f : Nat → Fld) (x : Nat) : (s.loomSet f x).fuses = s.fuses := by simp [loomSet]
@[simp] theorem loomCount_fuses (s : State) (f : Nat → Nat) : (s.loomCount f).fuses = s.fuses := by simp [loomCount]
@[simp] theorem hold_fuses (s : State) (who : Who) (tenant : Nat) (l : List Dem) : (s.hold who tenant l).fuses = s.fuses := by simp [hold]
@[simp] theorem release_fuses (s : State) (id : Nat) (fromBeat : Nat) : (s.release id fromBeat).fuses = s.fuses := by simp [release]

theorem fuses_of_place {d d' : Draft} {x : Cand} {tenant : Nat} {who : Who} {last : Nat} {f : State → Nat → Option Cand} {starts : List Nat}
    (h : place d tenant who last f starts = .inl (d', x)) : d'.st.fuses = d.st.fuses := by
  unfold place at h
  split at h
  · obtain ⟨rfl, rfl⟩ := Prod.mk.inj (Sum.inl.inj h)
    simp
  · cases h

theorem fuses_of_placeStripe {tenant : Nat} {who : Who} {p p' : Plan} {last : Nat} {alts : List Nat} {d d' : Draft}
    (h : placeStripe tenant who p last alts d = .inl (d', p')) : d'.st.fuses = d.st.fuses := by
  induction alts generalizing d with
  | nil => cases h
  | cons e alts ih =>
    unfold placeStripe at h
    split at h
    · obtain ⟨rfl, rfl⟩ := Prod.mk.inj (Sum.inl.inj h)
      simp
    next c hc => exact ih (d := { d with cause := c }) h

theorem fuses_of_placeStripes {tenant : Nat} {who : Who} {last : Nat} {l ps ps' : List Plan} {d d' : Draft}
    (h : placeStripes tenant who last l d ps = .inl (d', ps')) : d'.st.fuses = d.st.fuses := by
  induction l generalizing d ps with
  | nil => obtain ⟨rfl, rfl⟩ := Prod.mk.inj (Sum.inl.inj h); rfl
  | cons p l ih =>
    unfold placeStripes at h
    split at h
    next d1 p1 h1 => exact (ih h).trans (fuses_of_placeStripe h1)
    · cases h

@[simp] theorem takeDicts_fuses (s : State) (n : Nat) (b : Nat) (ds : List Nat) : (s.takeDicts n b ds).fuses = s.fuses := by
  simp [takeDicts]

@[simp] theorem holdDicts_fuses (s : State) (ds : List Nat) (l : List Dem) : (s.holdDicts ds l).fuses = s.fuses := by
  unfold holdDicts
  refine foldl_fuses (fun t a => ?_) _ _
  split <;> simp

theorem fuses_of_placeRows {tenant : Nat} {who : Who} {lo last : Nat} {l : List Seg} {d d' : Draft}
    (h : placeRows tenant who lo last l d = .inl d') : d'.st.fuses = d.st.fuses := by
  induction l generalizing d with
  | nil => obtain rfl := Sum.inl.inj h; rfl
  | cons g l ih =>
    unfold placeRows at h
    split at h
    next x hx => exact (ih h).trans (fuses_of_place hx)
    · cases h

@[simp] theorem ratioNote_fuses (s : State) (t : Nat) (written : Nat) (stored : Nat) : (s.ratioNote t written stored).fuses = s.fuses := by
  simp [ratioNote]

@[simp] theorem ledgerAdd_fuses (s : State) (t : Nat) (d : Int) : (s.ledgerAdd t d).fuses = s.fuses := by simp [ledgerAdd]

theorem fuses_of_placeDebt {tenant id n : Nat} {s t : State} (h : placeDebt tenant id n s = .inl t) : t.fuses = s.fuses := by
  induction n generalizing s with
  | zero => obtain rfl := Sum.inl.inj h; rfl
  | succ n ih =>
    simp only [placeDebt] at h
    split at h
    next x c hfit =>
      have ht := ih h
      rw [fuses_mk, life_fuses] at ht
      simpa using ht
    · cases h

@[simp] theorem undoDebt_fuses (s : State) (id : Nat) (tenant : Nat) : (s.undoDebt id tenant).fuses = s.fuses := by simp [undoDebt]
@[simp] theorem sendClaims_fuses (s : State) (id : Nat) : (s.sendClaims id).fuses = s.fuses := by simp [sendClaims]
@[simp] theorem barClaim_fuses (s : State) (id : Nat) (l : List Booking) : (s.barClaim id l).fuses = s.fuses := by simp [barClaim]
@[simp] theorem takeCharges_fuses (s : State) (t : Nat) (c : List Nat) : (s.takeCharges t c).fuses = s.fuses := by simp [takeCharges]
@[simp] theorem returnCharges_fuses (s : State) (t : Nat) (c : List Nat) : (s.returnCharges t c).fuses = s.fuses := by simp [returnCharges]

@[simp] theorem contractMoveTo_fuses (s : State) (t : Nat) (new : List Word) : (s.contractMoveTo t new).fuses = s.fuses := by
  simp [contractMoveTo]

@[simp] theorem contractMove_fuses (s : State) (t : Nat) : (s.contractMove t).fuses = s.fuses := by simp [contractMove]
@[simp] theorem shareSum_fuses (s : State) : (s.shareSum).fuses = s.fuses := by simp [shareSum]

/-! ### `Machine/Grains` -/

@[simp] theorem modCmd_fuses (s : State) (id : Nat) (f : HCmd → HCmd) : (s.modCmd id f).fuses = s.fuses := by simp [modCmd]
@[simp] theorem danglingSeen_fuses (s : State) (vol : Nat) (g : Nat) : (s.danglingSeen vol g).fuses = s.fuses := by simp [danglingSeen]
@[simp] theorem poolClaim_fuses (s : State) : (s.poolClaim).fuses = s.fuses := by simp [poolClaim]

@[simp] theorem makeForm_fuses (s : State) (tenant : Nat) (dict : Nat) (red : Nat) (chunk : Nat) (dpc : Nat) (plain : Bytes) (ok : Bool) :
    (s.makeForm tenant dict red chunk dpc plain ok).2.fuses = s.fuses := by
  simp [makeForm]

@[simp] theorem storeGrain_fuses (s : State) (tenant : Nat) (dict : Nat) (red : Nat) (chunk : Nat) (dpc : Nat) (fp : Nat)
    (plain : Bytes) (ok : Bool) : (s.storeGrain tenant dict red chunk dpc fp plain ok).2.fuses = s.fuses := by
  simp [storeGrain]

@[simp] theorem putOut_fuses (s : State) (id : Nat) (g : Nat) (d : Delta) (f : Option Form) : (s.putOut id g d f).fuses = s.fuses := by
  simp [putOut]

@[simp] theorem grainStore_fuses (s : State) (id : Nat) (g : Nat) (chunk : Nat) (dpc : Nat) (fp : Nat) (plain : Bytes) (ok : Bool) :
    (s.grainStore id g chunk dpc fp plain ok).fuses = s.fuses := by
  unfold grainStore
  split
  · simp
  · split <;> simp

@[simp] theorem convertPending_fuses (s : State) (chunk : Nat) : (s.convertPending chunk).fuses = s.fuses := by
  unfold convertPending
  refine foldl_fuses (fun t a => ?_) _ _
  refine foldl_fuses (fun t a => ?_) _ _
  split
  next x0 x1 x2 x3 t4 h5 h6 => 
    split
    · simp [fuses_of_reserveId h6]
    · simp [fuses_of_reserveId h6]
  · simp

/-! ### `Machine/Rpl` -/

@[simp] theorem replShow_fuses (s : State) : (s.replShow).fuses = s.fuses := by simp [replShow]
@[simp] theorem modRel_fuses (s : State) (k : Nat) (f : Rel → Rel) : (s.modRel k f).fuses = s.fuses := by simp [modRel]

@[simp] theorem rplEmit_fuses (s : State) (c : Nat) (x : RplConn) (rel : Nat) (cycle : Nat) (m0 : RplMsg) :
    (s.rplEmit c x rel cycle m0).fuses = s.fuses := by
  simp [rplEmit]

@[simp] theorem rplPut_fuses (s : State) (c : Nat) (rel : Nat) (cycle : Nat) (m : RplMsg) : (s.rplPut c rel cycle m).fuses = s.fuses := by
  unfold rplPut
  split <;> simp

@[simp] theorem rplSend_fuses (s : State) (c : Nat) (rel : Nat) (cycle : Nat) (m : RplMsg) : (s.rplSend c rel cycle m).fuses = s.fuses := by
  simp [rplSend]

@[simp] theorem rplPump_fuses (c n : Nat) (s : State) : (rplPump c n s).fuses = s.fuses := by
  induction n generalizing s with
  | zero => rfl
  | succ n ih =>
    unfold rplPump
    split
    · rfl
    · split
      · rfl
      · split <;> simp [ih]

@[simp] theorem relSend_fuses (s : State) (r : Rel) (cycle : Nat) (m : RplMsg) : (s.relSend r cycle m).fuses = s.fuses := by
  unfold relSend
  split <;> simp

@[simp] theorem rplAck_fuses (s : State) (c : Nat) (rel : Nat) (mseq : Nat) (cycle : Nat) (status : Nat) (entry : Nat) :
    (s.rplAck c rel mseq cycle status entry).fuses = s.fuses := by
  simp [rplAck]

@[simp] theorem fracture_fuses (s : State) (k : Nat) : (s.fracture k).fuses = s.fuses := by
  unfold fracture
  split <;> simp

@[simp] theorem cycleAbort_fuses (s : State) (k : Nat) : (s.cycleAbort k).fuses = s.fuses := by
  unfold cycleAbort
  split <;> simp

@[simp] theorem relLost_fuses (s : State) (k : Nat) : (s.relLost k).fuses = s.fuses := by simp [relLost]
@[simp] theorem rplLost_fuses (s : State) (c : Nat) : (s.rplLost c).fuses = s.fuses := by simp [rplLost]
@[simp] theorem rplError_fuses (s : State) (c : Nat) : (s.rplError c).fuses = s.fuses := by simp [rplError]
@[simp] theorem rplClear_fuses (s : State) : (s.rplClear).fuses = s.fuses := by simp [rplClear]

@[simp] theorem rplTake_fuses (s : State) (groups : List Nat) : (s.rplTake groups).fuses = s.fuses := by
  unfold rplTake
  refine foldl_fuses (fun t a => ?_) _ _
  split <;> simp

@[simp] theorem helloAll_fuses (s : State) (c : Nat) (ip : BitVec 128) : (s.helloAll c ip).fuses = s.fuses := by simp [helloAll]
@[simp] theorem rplUp_fuses (s : State) (c : Nat) (e : ConnEntry) : (s.rplUp c e).fuses = s.fuses := by simp [rplUp]

@[simp] theorem rttSet_fuses (s : State) (c : Nat) (rtt : Nat) : (s.rttSet c rtt).fuses = s.fuses := by
  unfold rttSet
  split <;> simp

@[simp] theorem dictSend_fuses (s : State) (k : Nat) (d : Nat) : (s.dictSend k d).fuses = s.fuses := by
  unfold dictSend
  split <;> simp

@[simp] theorem syncHead_fuses (s : State) (cmd : Nat) (r : JRec) : (s.syncHead cmd r).fuses = s.fuses := by
  unfold syncHead
  refine foldl_fuses (fun t a => ?_) _ _
  (repeat' split) <;> simp

@[simp] theorem syncEnd_fuses (s : State) (cmd : Nat) (good : Bool) : (s.syncEnd cmd good).fuses = s.fuses := by
  unfold syncEnd
  split
  · refine foldl_fuses (fun t a => ?_) _ _
    split <;> simp
  · refine foldl_fuses (fun t a => ?_) _ _
    split <;> simp

/-! ### `Machine/HostCmd` -/

@[simp] theorem modRt_fuses (s : State) (i : Nat) (f : ConnRt → ConnRt) : (s.modRt i f).fuses = s.fuses := by simp [modRt]

@[simp] theorem takeFrame_fuses (s : State) (i : Nat) : (s.takeFrame i).2.fuses = s.fuses := by
  unfold takeFrame
  split <;> simp

@[simp] theorem extendAll_fuses (s : State) (by_ : Nat) : (s.extendAll by_).fuses = s.fuses := by simp [extendAll]
@[simp] theorem faultMark_fuses (s : State) : (s.faultMark).fuses = s.fuses := by simp [faultMark]

@[simp] theorem unnamedEvent_fuses (s : State) (rule : Nat) (page : Nat) (a0 : Word) : (s.unnamedEvent rule page a0).fuses = s.fuses := by
  unfold unnamedEvent
  split <;> simp

@[simp] theorem transmit_fuses (s : State) (conn : Nat) (e : Emit) : (s.transmit conn e).fuses = s.fuses := by simp [transmit]
@[simp] theorem txDrain_fuses (s : State) : (s.txDrain).fuses = s.fuses := by simp [txDrain]
@[simp] theorem sendOn_fuses (s : State) (conn : Nat) (e : Emit) : (s.sendOn conn e).fuses = s.fuses := by simp [sendOn]

@[simp] theorem sendData_fuses (s : State) (conn : Nat) (cid : Nat) (off : Nat) (data : Bytes) :
    (s.sendData conn cid off data).fuses = s.fuses := by
  simp [sendData]

@[simp] theorem sendInval_fuses (s : State) (conn : Nat) (cid : Nat) : (s.sendInval conn cid).fuses = s.fuses := by
  unfold sendInval
  split <;> simp

@[simp] theorem nvmeOut_fuses (s : State) (conn : Nat) (cid : Nat) (sct : Nat) (sc : Nat) (dnr : Bool) (crd : Nat) (res : Nat) :
    (s.nvmeOut conn cid sct sc dnr crd res).fuses = s.fuses := by
  unfold nvmeOut
  split <;> simp

@[simp] theorem answer_fuses (s : State) (c : HCmd) (sct : Nat) (sc : Nat) (crd : Nat) : (s.answer c sct sc crd).fuses = s.fuses := by
  unfold answer
  split <;> simp

@[simp] theorem dropCmd_fuses (s : State) (id : Nat) : (s.dropCmd id).fuses = s.fuses := by simp [dropCmd]
@[simp] theorem missCheck_fuses (s : State) (c : HCmd) : (s.missCheck c).fuses = s.fuses := by simp [missCheck]
@[simp] theorem countDone_fuses (s : State) (c : HCmd) : (s.countDone c).fuses = s.fuses := by simp [countDone]

@[simp] theorem finish_fuses (s : State) (id : Nat) (sct : Nat) (sc : Nat) : (s.finish id sct sc).fuses = s.fuses := by
  unfold finish
  split <;> simp

@[simp] theorem unallocate_fuses (s : State) (c : Nat) : (s.unallocate c).fuses = s.fuses := by
  unfold unallocate
  split <;> simp

@[simp] theorem padExtent_fuses (s : State) (id : Nat) : (s.padExtent id).fuses = s.fuses := by
  unfold padExtent
  split <;> simp

@[simp] theorem abandon_fuses (s : State) (id : Nat) : (s.abandon id).fuses = s.fuses := by
  unfold abandon
  split <;> simp

@[simp] theorem faultAbort_fuses (s : State) (id : Nat) : (s.faultAbort id).fuses = s.fuses := by
  unfold faultAbort
  split <;> simp

@[simp] theorem refuse_fuses (s : State) (id : Nat) (cause : Nat) : (s.refuse id cause).fuses = s.fuses := by
  unfold refuse
  split <;> simp

@[simp] theorem terminate_fuses (s : State) (id : Nat) (post : Bool) : (s.terminate id post).fuses = s.fuses := by
  unfold terminate
  split <;> simp

@[simp] theorem teardown_fuses (s : State) (i : Nat) : (s.teardown i).fuses = s.fuses := by simp [teardown]

@[simp] theorem deleteEntry_fuses (s : State) (i : Nat) : (s.deleteEntry i).fuses = s.fuses := by
  unfold deleteEntry
  split <;> simp

@[simp] theorem pullData_fuses (s : State) (id : Nat) : (s.pullData id).fuses = s.fuses := by
  unfold pullData
  (repeat' split) <;> simp

@[simp] theorem pullNext_fuses (s : State) (i : Nat) : (s.pullNext i).fuses = s.fuses := by
  unfold pullNext
  split <;> simp

@[simp] theorem pullWaiting_fuses (s : State) : (s.pullWaiting).fuses = s.fuses := by simp [pullWaiting]
@[simp] theorem soloRules_fuses (s : State) : (s.soloRules).fuses = s.fuses := by simp [soloRules]
@[simp] theorem completeReady_fuses (s : State) : (s.completeReady).fuses = s.fuses := by simp [completeReady]
@[simp] theorem pauseShow_fuses (s : State) : (s.pauseShow).fuses = s.fuses := by simp [pauseShow]

@[simp] theorem snapEval_fuses (s : State) : (s.snapEval).fuses = s.fuses := by
  simp only [snapEval]
  refine foldl_fuses (fun t a => ?_) _ _
  (repeat' split) <;> simp

@[simp] theorem ctlWaits_fuses (s : State) : (s.ctlWaits).fuses = s.fuses := by
  unfold ctlWaits
  refine foldl_fuses (fun t a => ?_) _ _
  split <;> simp

@[simp] theorem settle_fuses (s : State) : (s.settle).fuses = s.fuses := by simp [settle]

@[simp] theorem raiseCount_fuses (s : State) (k : Nat) : (s.raiseCount k).fuses = s.fuses := by
  unfold raiseCount
  split <;> simp

@[simp] theorem busyOut_fuses (s : State) (conn : Nat) (cid : Nat) (tenant : Nat) : (s.busyOut conn cid tenant).fuses = s.fuses := by
  simp [busyOut]

@[simp] theorem busyFinish_fuses (s : State) (id : Nat) : (s.busyFinish id).fuses = s.fuses := by
  unfold busyFinish
  split <;> simp

@[simp] theorem firstDecision_fuses (s : State) : (s.firstDecision).fuses = s.fuses := by simp [firstDecision]
@[simp] theorem loomFail_fuses (s : State) (i : Nat) : (s.loomFail i).fuses = s.fuses := by simp [loomFail]

@[simp] theorem decisionMismatch_fuses (s : State) (fail0 : Bool) (fail1 : Bool) : (s.decisionMismatch fail0 fail1).fuses = s.fuses := by
  simp [decisionMismatch]

@[simp] theorem placePageins_fuses (tenant : Nat) (who : Who) (last : Nat) (l : List Nat) (d : Draft) :
    (placePageins tenant who last l d).1.st.fuses = d.st.fuses := by
  induction l generalizing d with
  | nil => rfl
  | cons id l ih =>
    unfold placePageins
    simp only
    split
    next x h => simpa [ih] using fuses_of_place h
    · simp [ih]

@[simp] theorem slackPageins_fuses (s : State) (c : HCmd) : (s.slackPageins c).fuses = s.fuses := by
  simp only [slackPageins]
  refine foldl_fuses (fun t a => ?_) _ _
  split <;> simp

theorem fuses_of_placeSync {tenant : Nat} {who : Who} {last bytes : Nat} {x : Option (Nat × Nat)} {d d' : Draft}
    (h : placeSync tenant who last bytes x d = .inl d') : d'.st.fuses = d.st.fuses := by
  unfold placeSync at h
  split at h
  · obtain rfl := Sum.inl.inj h; rfl
  · simp only at h
    split at h
    next y hy =>
      obtain rfl := Sum.inl.inj h
      exact fuses_of_place hy
    · cases h

@[simp] theorem writePageins_fuses (s : State) (id : Nat) (c : HCmd) : (s.writePageins id c).1.st.fuses = s.fuses := by
  simp [writePageins]

theorem fuses_of_placeWrite {s : State} {id : Nat} {c : HCmd} {first : Bool} {t : State} (h : s.placeWrite id c first = .inl t) :
    t.fuses = s.fuses := by
  simp only [placeWrite] at h
  split at h
  · cases h
  · split at h
    · cases h
    · split at h
      · cases h
      next d1 ps h1 =>
        split at h
        · cases h
        next d2 x h2 =>
          split at h
          · cases h
          next d4 h4 =>
            split at h
            · cases h
            next d5 h5 =>
              have hd1 : d1.st.fuses = s.fuses := by
                rw [fuses_of_placeStripes h1]
                split <;> simp
              have hd2 : d2.st.fuses = s.fuses := (fuses_of_place h2).trans hd1
              have hd4 : d4.st.fuses = s.fuses := by
                split at h4
                · split at h4
                  · rw [fuses_of_placeRows h4]
                    simp only [openFor_fuses]
                    split <;> simp [hd2]
                  · cases h4
                · obtain rfl := Sum.inl.inj h4
                  simp [hd2]
              have hd5 : d5.st.fuses = s.fuses := (fuses_of_placeSync h5).trans hd4
              split at h
              · exact (fuses_of_placeDebt h).trans hd5
              · rw [← Sum.inl.inj h, hd5]

theorem fuses_of_placeRead {s : State} {id : Nat} {c : HCmd} {gs : List Nat} {r : State × List Plan} (h : s.placeRead id c gs = .inl r) :
    r.1.fuses = s.fuses := by
  simp only [placeRead] at h
  split at h
  · cases h
  next d ps h0 =>
    split at h
    · cases h
    next d1 x h1 =>
      have hd1 : d1.st.fuses = d.st.fuses := by
        split at h1
        · obtain ⟨rfl, rfl⟩ := Prod.mk.inj (Sum.inl.inj h1); rfl
        · exact fuses_of_place h1
      split at h
      · cases h
      next d2 x2 h2 =>
        obtain rfl := Sum.inl.inj h
        simp only [holdDicts_fuses]
        rw [fuses_of_place h2, hd1, fuses_of_placeStripes h0]

@[simp] theorem energyOpen_fuses (s : State) : (s.energyOpen).fuses = s.fuses := by simp [energyOpen]

@[simp] theorem issueReads_fuses (s : State) (id : Nat) : (s.issueReads id).fuses = s.fuses := by
  unfold issueReads
  split
  · simp
  · refine foldl_fuses (fun t a => ?_) _ _
    split <;> simp

@[simp] theorem acceptWrite_fuses (s : State) (id : Nat) : (s.acceptWrite id).fuses = s.fuses := by
  unfold acceptWrite
  split <;> simp

@[simp] theorem acceptRead_fuses (s : State) (id : Nat) (plans : List Plan) (gs : List Nat) :
    (s.acceptRead id plans gs).fuses = s.fuses := by
  unfold acceptRead
  split <;> simp

theorem underTerms_fuses {s : State} {c : HCmd} {f : State → State} (hf : ∀ t, (f t).fuses = t.fuses) :
    (s.underTerms c f).fuses = s.fuses := by
  unfold underTerms
  split
  · exact hf s
  · simp [hf]

@[simp] theorem acceptDraft_fuses (s : State) (id : Nat) : (s.acceptDraft id).fuses = s.fuses := by
  unfold acceptDraft
  split
  · simp
  · split <;> simp

@[simp] theorem standDraft_fuses (s : State) (id : Nat) : (s.standDraft id).fuses = s.fuses := by simp [standDraft]

@[simp] theorem decideWrite_fuses (s : State) (id : Nat) : (s.decideWrite id).fuses = s.fuses := by
  simp only [decideWrite]
  split
  · rfl
  · refine underTerms_fuses (fun t => ?_)
    split
    · simp
    · split
      · simp
      · split
        · simp
        · split
          · rw [refuse_fuses]
            split <;> split <;> simp
          next s1 h => simp [fuses_of_placeWrite h]

@[simp] theorem decideRead_fuses (s : State) (id : Nat) : (s.decideRead id).fuses = s.fuses := by
  simp only [decideRead]
  split
  · rfl
  next c hc =>
    refine underTerms_fuses (fun t => ?_)
    split
    · simp
    · split
      · rw [finish_fuses]
        exact foldl_fuses (fun u g => danglingSeen_fuses _ _ _) _ _
      · split
        · simp
        · split
          · split <;> simp
          next s1 ps h =>
            have hs1 : s1.fuses = t.fuses := fuses_of_placeRead h
            simp [hs1]

theorem gated_fuses {s : State} {id : Nat} {st : Standby} {f : State → State} (hf : ∀ t, (f t).fuses = t.fuses) :
    (s.gated id st f).fuses = s.fuses := by
  unfold gated
  split
  · simp [hf]
  · simp only
    split <;> simp [hf]

@[simp] theorem resolveMap_fuses (s : State) (id : Nat) (st : Standby) : (s.resolveMap id st).fuses = s.fuses := by
  simp only [resolveMap]
  split
  · rfl
  · refine underTerms_fuses (fun t => ?_)
    split
    · simp
    · rw [gated_fuses (fun u => by simp), slackPageins_fuses]

@[simp] theorem toDraft_fuses (s : State) (id : Nat) (st : Standby) : (s.toDraft id st).fuses = s.fuses := by
  unfold toDraft
  split
  · simp
  · split
    · refine gated_fuses (fun t => ?_)
      simp
    · split
      · refine gated_fuses (fun t => ?_)
        simp
      · simp

@[simp] theorem chargeDraft_fuses (s : State) (id : Nat) (c : HCmd) (ch : List Nat) (st : Standby) :
    (s.chargeDraft id c ch st).fuses = s.fuses := by
  simp [chargeDraft]

@[simp] theorem reedCheck_fuses (s : State) (id : Nat) (st : Standby) : (s.reedCheck id st).fuses = s.fuses := by
  simp only [reedCheck]
  split
  · rfl
  · split
    · rw [gated_fuses (fun t => by simp), modCmd_fuses]
    · split
      · rw [gated_fuses (fun t => by simp), modCmd_fuses]
      · split
        · simp
        · split
          · simp
          · rw [gated_fuses (fun t => by simp), modCmd_fuses]

@[simp] theorem reedPass_fuses (s : State) (id : Nat) (st : Standby) : (s.reedPass id st).fuses = s.fuses := by
  simp only [reedPass]
  split
  · simp
  · refine underTerms_fuses (fun t => ?_)
    split
    · simp
    · split
      · refine gated_fuses (fun t => ?_)
        simp
      · simp

@[simp] theorem redraftOne_fuses (s : State) (id : Nat) : (s.redraftOne id).fuses = s.fuses := by
  rw [← release_fuses s id (s.beat + 1)]
  simp only [redraftOne]
  split
  · rfl
  next c hc =>
    split
    · rfl
    · refine underTerms_fuses (fun t => ?_)
      split
      next v h =>
        have hv : v.fuses = t.fuses := by
          split at h
          · exact fuses_of_placeWrite h
          · split at h
            next u ps hread =>
              obtain rfl := Sum.inl.inj h
              simpa using fuses_of_placeRead hread
            · cases h
        simp only [apply_ite fuses, issueReads_fuses, sendClaims_fuses, modCmd_fuses, hv, ite_self]
      · simp

@[simp] theorem redraft_fuses (s : State) (gone : Booking → Bool) : (s.redraft gone).fuses = s.fuses := by simp [redraft]

/-! ### `Machine/Fabric` -/

@[simp] theorem announceEntry_fuses (s : State) (i : Nat) : (s.announceEntry i).fuses = s.fuses := by simp [announceEntry]
@[simp] theorem announceOnce_fuses (s : State) : (s.announceOnce).fuses = s.fuses := by simp [announceOnce]
@[simp] theorem dropFrame_fuses (s : State) (cause : Nat) : (s.dropFrame cause).fuses = s.fuses := by simp [dropFrame]

@[simp] theorem matchFrame_fuses (s : State) (i : Nat) (e : ConnEntry) (set : optParam (Option Bool) none) :
    (s.matchFrame i e set).fuses = s.fuses := by
  simp [matchFrame]

@[simp] theorem controlFrame_fuses (s : State) (port : Nat) : (s.controlFrame port).fuses = s.fuses := by
  unfold controlFrame
  split <;> simp

@[simp] theorem synIn_fuses (s : State) (port : Nat) (addr : Nat) (lport : Nat) : (s.synIn port addr lport).fuses = s.fuses := by
  simp [synIn]

@[simp] theorem roceMatch_fuses (s : State) (i : Nat) (e : ConnEntry) (ce : Bool) (inval : Option (BitVec 16 × BitVec 32))
    (set : Option Bool) : (s.roceMatch i e ce inval set).fuses = s.fuses := by
  unfold roceMatch
  split <;> simp

@[simp] theorem hostStall_fuses (s : State) (p : Nat → Bool) : (s.hostStall p).fuses = s.fuses := by simp [hostStall]

@[simp] theorem tcpMatch_fuses (s : State) (i : Nat) (e : ConnEntry) (window : Nat) (epoch : Nat) (esp : Option Bool) :
    (s.tcpMatch i e window epoch esp).fuses = s.fuses := by
  simp [tcpMatch]

@[simp] theorem classify_fuses (s : State) (f : Frame) (addr : Nat) (src : BitVec 128) (p : Packet) :
    (s.classify f addr src p).fuses = s.fuses := by
  unfold classify
  (repeat' split) <;> simp

theorem fuses_of_espTake {s : State} {slot : Nat} {spi : BitVec 32} {seq : Nat} {t : State} (h : s.espTake slot spi seq = some t) :
    t.fuses = s.fuses := by
  have hslot {c : Option ConnSet} {g : ConnSet → KeySlot} (hc : c.map (fun d => s.setKeySlot slot (g d)) = some t) : t.fuses = s.fuses := by
    obtain ⟨d, -, rfl⟩ := Option.map_eq_some_iff.mp hc
    simp
  have hsame (hs : some s = some t) : t.fuses = s.fuses := by rw [Option.some.inj hs]
  simp only [espTake] at h
  split at h
  · split at h
    · exact hslot h
    · split at h
      · split at h
        · exact hslot h
        · exact hsame h
      · exact hsame h
  · split at h
    · exact hslot h
    · exact hsame h
  · exact hsame h

@[simp] theorem classifyEsp_fuses (s0 : State) (f : Frame) (addr : Nat) (src : BitVec 128) (spi : BitVec 32) (seq : Nat) (inner : Packet) :
    (s0.classifyEsp f addr src spi seq inner).fuses = s0.fuses := by
  unfold classifyEsp
  split
  · simp
  · split
    · simp
    · split
      · rfl
      next s h =>
        rw [← fuses_of_espTake h]
        split
        · split
          · split <;> simp
          · simp
        · split
          · split <;> simp
          · simp
        · simp

@[simp] theorem pfc_fuses (s0 : State) (quad : Nat) (prio : Nat) (fill : Nat) : (s0.pfc quad prio fill).fuses = s0.fuses := by simp [pfc]

@[simp] theorem pfcIn_fuses (s : State) (port : Nat) (prios : BitVec 8) (pause : Bool) : (s.pfcIn port prios pause).fuses = s.fuses := by
  simp [pfcIn]

@[simp] theorem ptpTime_fuses (s : State) : (s.ptpTime).2.fuses = s.fuses := by simp [ptpTime]
@[simp] theorem ptpIn_fuses (s : State) (port : Nat) (m : PtpMsg) : (s.ptpIn port m).fuses = s.fuses := by simp [ptpIn]

@[simp] theorem frameIn_fuses (s : State) (f : Frame) : (s.frameIn f).fuses = s.fuses := by
  unfold frameIn
  (repeat' split) <;> simp

@[simp] theorem heldShow_fuses (s : State) : (s.heldShow).fuses = s.fuses := by simp [heldShow]

@[simp] theorem updData_fuses (s : State) (w0 : Word) (w1 : Word) (w2 : Word) (w3 : Word) : (s.updData w0 w1 w2 w3).fuses = s.fuses := by
  simp [updData]

@[simp] theorem updCmd_fuses (s : State) (op : Nat) (index : Nat) : (s.updCmd op index).fuses = s.fuses := by simp [updCmd]
@[simp] theorem updWait_fuses (s : State) (i : Nat) (e : Option ConnEntry) : (s.updWait i e).fuses = s.fuses := by simp [updWait]
@[simp] theorem updRefuse_fuses (s : State) (r : Nat) : (s.updRefuse r).fuses = s.fuses := by simp [updRefuse]

@[simp] theorem entryWrite_fuses (s : State) (i : Nat) (w0 : Word) (w1 : Word) (w2 : Word) (w3 : Word) :
    (s.entryWrite i w0 w1 w2 w3).fuses = s.fuses := by
  simp [entryWrite]

@[simp] theorem entryDelete_fuses (s : State) (i : Nat) : (s.entryDelete i).fuses = s.fuses := by
  unfold entryDelete
  split
  · simp
  · split <;> simp

@[simp] theorem entryRead_fuses (s : State) (i : Nat) : (s.entryRead i).fuses = s.fuses := by
  unfold entryRead
  split
  · simp
  · split <;> simp

@[simp] theorem retireSet_fuses (s : State) (e : ConnEntry) : (s.retireSet e).fuses = s.fuses := by simp [retireSet]

@[simp] theorem updApply_fuses (s : State) : (s.updApply).fuses = s.fuses := by
  unfold updApply
  (repeat' split) <;> simp

@[simp] theorem oldRelease_fuses (s : State) (i : Nat) : (s.oldRelease i).fuses = s.fuses := by simp [oldRelease]
@[simp] theorem addrRelease_fuses (s : State) : (s.addrRelease).fuses = s.fuses := by simp [addrRelease]

theorem onConn_fuses {s : State} {i : Nat} {f : ConnEntry → ConnRt → State → State} (hf : ∀ e r t, (f e r t).fuses = t.fuses) :
    (s.onConn i f).fuses = s.fuses := by
  have ht := takeFrame_fuses s i
  unfold onConn
  split
  · rfl
  · split
    next e t heq =>
      rw [heq] at ht
      split
      · split
        · exact ht
        · exact (hf _ _ _).trans ht
      · exact ht
    next t heq => simpa [heq] using ht

@[simp] theorem connError_fuses (s : State) (i : Nat) : (s.connError i).fuses = s.fuses := by simp [connError]
@[simp] theorem retryOr_fuses (s : State) (i : Nat) (r : ConnRt) : (s.retryOr i r).fuses = s.fuses := by simp [retryOr]

@[simp] theorem dataIn_fuses (s : State) (id : Nat) (off : Nat) (data : Bytes) : (s.dataIn id off data).fuses = s.fuses := by
  unfold dataIn
  split <;> simp

@[simp] theorem tcpFatal_fuses (s : State) (i : Nat) : (s.tcpFatal i).fuses = s.fuses := by simp [tcpFatal]

@[simp] theorem execFrameReceive_keepsFuses (frame : Frame) (prio : Fin 8) (fill : Fin 101) (s : State) :
    KeepsFuses (execFrameReceive frame prio fill s) s := by
  simp [execFrameReceive]

@[simp] theorem execFrameResidenceTimeout_keepsFuses (conn : Fin 16384) (s : State) : KeepsFuses (execFrameResidenceTimeout conn s) s := by
  simp [execFrameResidenceTimeout]

@[simp] theorem execConnEntryWrite_keepsFuses (index : Fin 16384) (w0 : Word) (w1 : Word) (w2 : Word) (w3 : Word) (s : State) :
    KeepsFuses (execConnEntryWrite index w0 w1 w2 w3 s) s := by
  simp [execConnEntryWrite]

@[simp] theorem execConnEntryDelete_keepsFuses (index : Fin 16384) (s : State) : KeepsFuses (execConnEntryDelete index s) s := by
  simp [execConnEntryDelete]

@[simp] theorem execConnEntryRead_keepsFuses (index : Fin 16384) (s : State) : KeepsFuses (execConnEntryRead index s) s := by
  simp [execConnEntryRead]

@[simp] theorem execConnEntryUpdateApply_keepsFuses (s : State) : KeepsFuses (execConnEntryUpdateApply s) s := by
  simp [execConnEntryUpdateApply]

@[simp] theorem execOldVersionRelease_keepsFuses (index : Fin 16384) (s : State) : KeepsFuses (execOldVersionRelease index s) s := by
  simp [execOldVersionRelease]

@[simp] theorem execAddressVersionRelease_keepsFuses (s : State) : KeepsFuses (execAddressVersionRelease s) s := by
  simp [execAddressVersionRelease]

@[simp] theorem execIntakeTermination_keepsFuses (cmd : CmdFrom) (s : State) : KeepsFuses (execIntakeTermination cmd s) s := by
  unfold execIntakeTermination
  split <;> simp

@[simp] theorem execRdmaReadResponse_keepsFuses (cmd : CmdFrom) (off : Nat) (data : Bytes) (last : Bool) (s : State) :
    KeepsFuses (execRdmaReadResponse cmd off data last s) s := by
  unfold execRdmaReadResponse
  split
  · rw [next_keepsFuses]
    refine onConn_fuses (fun e r t => ?_)
    split
    · simp
    · split <;> simp
  · rw [next_keepsFuses]
    refine onConn_fuses (fun e r t => ?_)
    split
    · simp
    · split <;> simp

@[simp] theorem execRoceAck_keepsFuses (conn : Fin 16384) (reply : RoceAck) (count : Nat) (rtt : Nat) (s : State) :
    KeepsFuses (execRoceAck conn reply count rtt s) s := by
  unfold execRoceAck
  split
  · rw [next_keepsFuses]
    refine onConn_fuses (fun e r t => ?_)
    simp
  · rw [next_keepsFuses]
    refine onConn_fuses (fun e r t => ?_)
    simp
  · rw [next_keepsFuses]
    refine onConn_fuses (fun e r t => ?_)
    simp
  · rw [next_keepsFuses]
    refine onConn_fuses (fun e r t => ?_)
    simp

@[simp] theorem execCnpReceive_keepsFuses (conn : Fin 16384) (s : State) : KeepsFuses (execCnpReceive conn s) s := by
  unfold execCnpReceive
  rw [next_keepsFuses]
  refine onConn_fuses (fun e r t => ?_)
  simp

@[simp] theorem execRemoteAccessRequest_keepsFuses (conn : Fin 16384) (s : State) : KeepsFuses (execRemoteAccessRequest conn s) s := by
  unfold execRemoteAccessRequest
  rw [next_keepsFuses]
  refine onConn_fuses (fun e r t => ?_)
  simp

@[simp] theorem execRoceConnManagement_keepsFuses (msg : CmMsg) (s : State) : KeepsFuses (execRoceConnManagement msg s) s := by
  unfold execRoceConnManagement
  split
  · simp
  · split <;> simp

@[simp] theorem execTcpSyn_keepsFuses (port : Fin 64) (addr : Fin 256) (localPort : BitVec 16) (s : State) :
    KeepsFuses (execTcpSyn port addr localPort s) s := by
  simp [execTcpSyn]

@[simp] theorem execIcreq_keepsFuses (conn : Fin 16384) (req : IcReq) (s : State) : KeepsFuses (execIcreq conn req s) s := by
  unfold execIcreq
  split
  · rw [next_keepsFuses]
    refine onConn_fuses (fun e r t => ?_)
    simp
  · rw [next_keepsFuses]
    refine onConn_fuses (fun e r t => ?_)
    simp

@[simp] theorem execH2cData_keepsFuses (conn : Fin 16384) (ttag : BitVec 16) (off : Nat) (data : Bytes) (s : State) :
    KeepsFuses (execH2cData conn ttag off data s) s := by
  unfold execH2cData
  rw [next_keepsFuses]
  refine onConn_fuses (fun e r t => ?_)
  (repeat' split) <;> simp

@[simp] theorem execH2cTermReq_keepsFuses (conn : Fin 16384) (s : State) : KeepsFuses (execH2cTermReq conn s) s := by
  unfold execH2cTermReq
  rw [next_keepsFuses]
  refine onConn_fuses (fun e r t => ?_)
  simp

@[simp] theorem execAckTimeout_keepsFuses (conn : Fin 16384) (s : State) : KeepsFuses (execAckTimeout conn s) s := by
  unfold execAckTimeout
  split <;> simp

@[simp] theorem execTlsClientHello_keepsFuses (conn : Fin 16384) (hello : Hello) (s : State) :
    KeepsFuses (execTlsClientHello conn hello s) s := by
  unfold execTlsClientHello
  split
  · rw [next_keepsFuses]
    refine onConn_fuses (fun e r t => ?_)
    simp
  · split
    · rw [next_keepsFuses]
      refine onConn_fuses (fun e r t => ?_)
      simp
    · split
      · rw [next_keepsFuses]
        refine onConn_fuses (fun e r t => ?_)
        simp
      · rw [next_keepsFuses]
        refine onConn_fuses (fun e r t => ?_)
        simp

@[simp] theorem execKeyUpdate_keepsFuses (conn : Fin 16384) (txSecret rxSecret : BitVec 15) (s : State) :
    KeepsFuses (execKeyUpdate conn txSecret rxSecret s) s := by
  rw [execKeyUpdate, next_keepsFuses]
  refine onConn_fuses (fun e r t => ?_)
  split
  · rfl
  · split
    next u h => rw [fuses_snd_of_eq h, scheduleIn_fuses]
    next a u h =>
      have hu : u.fuses = t.fuses := by rw [fuses_snd_of_eq h, scheduleIn_fuses]
      split
      next v h' => rw [fuses_snd_of_eq h', scheduleIn_fuses, hu]
      next b v h' =>
        have hv : v.fuses = t.fuses := by rw [fuses_snd_of_eq h', scheduleIn_fuses, hu]
        rw [updWait_fuses, setKeySlot_fuses, hv]

@[simp] theorem execAnnounceRepeat_keepsFuses (s : State) : KeepsFuses (execAnnounceRepeat s) s := by simp [execAnnounceRepeat]
@[simp] theorem execPtpAnnounceTimeout_keepsFuses (s : State) : KeepsFuses (execPtpAnnounceTimeout s) s := by simp [execPtpAnnounceTimeout]
@[simp] theorem execEthpLinkUp_keepsFuses (port : Fin 64) (s : State) : KeepsFuses (execEthpLinkUp port s) s := by simp [execEthpLinkUp]

@[simp] theorem execTcpRetransmitTimeout_keepsFuses (conn : Fin 16384) (s : State) : KeepsFuses (execTcpRetransmitTimeout conn s) s := by
  unfold execTcpRetransmitTimeout
  split <;> simp

/-! ### `Machine/Nvme` -/

@[simp] theorem reply_fuses (s : State) (o : Origin) (sct : Nat) (sc : Nat) (res : Nat) : (s.reply o sct sc res).fuses = s.fuses := by
  unfold reply
  split <;> simp

@[simp] theorem forwardOther_fuses (s : State) (conn : Nat) (cid : Nat) (tenant : Nat) (b : FwdBody) :
    (s.forwardOther conn cid tenant b).fuses = s.fuses := by
  simp [forwardOther]

@[simp] theorem modCtrl_fuses (s : State) (k : Nat) (f : Ctrl → Ctrl) : (s.modCtrl k f).fuses = s.fuses := by simp [modCtrl]

@[simp] theorem forceTeardown_fuses (s : State) (i : Nat) : (s.forceTeardown i).fuses = s.fuses := by
  unfold forceTeardown
  split <;> simp

@[simp] theorem deleteCtrl_fuses (s : State) (k : Nat) : (s.deleteCtrl k).fuses = s.fuses := by
  unfold deleteCtrl
  split <;> simp

@[simp] theorem postAer_fuses (s : State) (k : Nat) (typ : Nat) (info : Nat) (page : Nat) :
    (s.postAer k typ info page).fuses = s.fuses := by
  unfold postAer
  split
  · simp
  · split <;> simp

@[simp] theorem nsChanged_fuses (s : State) (tenant : Nat) (nsid : Nat) : (s.nsChanged tenant nsid).fuses = s.fuses := by simp [nsChanged]
@[simp] theorem anaChanged_fuses (s : State) (group : Nat) : (s.anaChanged group).fuses = s.fuses := by simp [anaChanged]
@[simp] theorem anaMoved_fuses (s : State) (before : State) (group : Nat) : (s.anaMoved before group).fuses = s.fuses := by simp [anaMoved]
@[simp] theorem sanitizeDone_fuses (s : State) (tenant : Nat) : (s.sanitizeDone tenant).fuses = s.fuses := by simp [sanitizeDone]

theorem capsule_fuses {s : State} {cmd : CmdFrom} {f : ConnEntry → ConnRt → State → State} (hf : ∀ e r t, (f e r t).fuses = t.fuses) :
    (s.capsule cmd f).fuses = s.fuses :=
  onConn_fuses fun e r t => by split <;> simp [hf]

theorem adminCmd_fuses {s : State} {cmd : CmdFrom} {f : ConnEntry → Nat → Ctrl → State → State} (hf : ∀ e k c t, (f e k c t).fuses = t.fuses) :
    (s.adminCmd cmd f).fuses = s.fuses := by
  refine capsule_fuses fun e r t => ?_
  split
  · split <;> simp [hf]
  · rfl

@[simp] theorem done_fuses (s : State) (cmd : CmdFrom) (sct : Nat) (sc : Nat) (res : Nat) : (s.done cmd sct sc res).fuses = s.fuses := by
  simp [done]

@[simp] theorem modTenant_fuses (s : State) (t : Nat) (f : Tenant → Tenant) : (s.modTenant t f).fuses = s.fuses := by simp [modTenant]
@[simp] theorem connectBad_fuses (s : State) (cmd : CmdFrom) : (s.connectBad cmd).fuses = s.fuses := by simp [connectBad]

@[simp] theorem joinQueue_fuses (s : State) (i : Nat) (e : ConnEntry) (k : Nat) (qid : Nat) (qsize : Nat) (cls : Nat) :
    (s.joinQueue i e k qid qsize cls).fuses = s.fuses := by
  simp [joinQueue]

@[simp] theorem connect_fuses (s : State) (cmd : CmdFrom) (e : ConnEntry) (d : ConnectData) : (s.connect cmd e d).fuses = s.fuses := by
  have hbad : (s.connectBad cmd).fuses = s.fuses := connectBad_fuses s cmd
  simp only [connect, apply_ite fuses, hbad]
  refine (ite_congr rfl (fun _ => rfl) fun _ => ?_).trans (ite_self _)
  (repeat' split) <;> simp

@[simp] theorem tempEvents_fuses (s : State) : (s.tempEvents).fuses = s.fuses := by simp [tempEvents]

theorem fuses_of_logPage {s : State} {k : Nat} {c : Ctrl} {lid : Nat} {a : List Nat} {t : State} (h : s.logPage k c lid = some (a, t)) :
    t.fuses = s.fuses := by
  have hsame {l : List Nat} (hl : some (l, s) = some (a, t)) : t.fuses = s.fuses := by rw [(Prod.mk.inj (Option.some.inj hl)).2]
  have hctrl {l : List Nat} {f : Ctrl → Ctrl} (hl : some (l, s.modCtrl k f) = some (a, t)) : t.fuses = s.fuses := by
    rw [← (Prod.mk.inj (Option.some.inj hl)).2, modCtrl_fuses]
  simp only [logPage] at h
  split at h
  · exact hsame h
  · exact hctrl h
  · exact hsame h
  · exact hctrl h
  · exact hsame h
  · exact hsame h
  · split at h
    · exact hsame h
    · cases h
  · split at h
    · exact hsame h
    · exact hctrl h
  · split at h
    · exact hsame h
    · exact hsame h
  · cases h

@[simp] theorem resNotify_fuses (s : State) (tenant : Nat) (nsid : Nat) (h : BitVec 128) (kind : Nat) :
    (s.resNotify tenant nsid h kind).fuses = s.fuses := by
  simp [resNotify]

@[simp] theorem resvDo_fuses (s : State) (o : Origin) (vol : Nat) (v : Volume) (h : BitVec 128) (c : ResvCmd) :
    (s.resvDo o vol v h c).fuses = s.fuses := by
  simp [resvDo]

theorem ioCmd_fuses {s : State} {cmd : CmdFrom} {nsid : Nat} {f : ConnEntry → Ctrl → Nat → Volume → State → State}
    (hf : ∀ e c i v t, (f e c i v t).fuses = t.fuses) : (s.ioCmd cmd nsid f).fuses = s.fuses := by
  refine capsule_fuses fun e r t => ?_
  split
  · rfl
  · split
    · simp
    · split
      · simp
      · split
        · simp
        · split
          · simp
          · split <;> simp [hf]

@[simp] theorem submit_fuses (s : State) (v : Volume) (c : HCmd) (raise : Nat) (st : Standby) :
    (s.submit v c raise st).fuses = s.fuses := by
  simp [submit]

@[simp] theorem ioSubmit_fuses (s : State) (cmd : CmdFrom) (nsid : Nat) (kind : CmdKind) (ranges : List (Nat × Nat)) (src : Nat)
    (extra : List (Nat × Nat)) (fua : Bool) (pi : PiReq) (data : Bytes) (bad : Volume → Bool) (st : Standby) :
    (s.ioSubmit cmd nsid kind ranges src extra fua pi data bad st).fuses = s.fuses := by
  unfold ioSubmit
  refine ioCmd_fuses (fun e c i v t => ?_)
  simp

@[simp] theorem formatStart_fuses (s : State) (o : Origin) (vol : Nat) (lbaf : Nat) : (s.formatStart o vol lbaf).fuses = s.fuses := by
  simp [formatStart]

@[simp] theorem modSan_fuses (s : State) (t : Nat) (f : Sanitize → Sanitize) : (s.modSan t f).fuses = s.fuses := by simp [modSan]
@[simp] theorem sanitizeBegin_fuses (s : State) (t : Nat) : (s.sanitizeBegin t).fuses = s.fuses := by simp [sanitizeBegin]

@[simp] theorem sanitizeStart_fuses (s : State) (o : Origin) (t : Nat) : (s.sanitizeStart o t).fuses = s.fuses := by
  unfold sanitizeStart
  split <;> simp

@[simp] theorem sanitizeExit_fuses (s : State) (o : Origin) (t : Nat) : (s.sanitizeExit o t).fuses = s.fuses := by
  unfold sanitizeExit
  split <;> simp

@[simp] theorem otherDo_fuses (s : State) (o : Origin) (tenant : Nat) (b : FwdBody) : (s.otherDo o tenant b).fuses = s.fuses := by
  unfold otherDo
  (repeat' split) <;> simp

theorem sanitizeCmd_fuses {s : State} {cmd : CmdFrom} {action : Nat} {ndas : Bool} {f : State → Origin → Nat → State}
    (hf : ∀ t o n, (f t o n).fuses = t.fuses) : (s.sanitizeCmd cmd action ndas f).fuses = s.fuses := by
  refine adminCmd_fuses fun e k c t => ?_
  split
  · simp
  · split
    · simp
    · split <;> simp [hf]

@[simp] theorem execConnect_keepsFuses (cmd : CmdFrom) (data : ConnectData) (s : State) : KeepsFuses (execConnect cmd data s) s := by
  unfold execConnect
  rw [next_keepsFuses]
  refine onConn_fuses (fun e r t => ?_)
  simp

@[simp] theorem execPropertyGet_keepsFuses (cmd : CmdFrom) (off : BitVec 32) (s : State) : KeepsFuses (execPropertyGet cmd off s) s := by
  unfold execPropertyGet
  split
  · rw [next_keepsFuses]
    refine capsule_fuses (fun e r t => ?_)
    split <;> simp
  · rw [next_keepsFuses]
    refine capsule_fuses (fun e r t => ?_)
    split <;> simp
  · rw [next_keepsFuses]
    refine capsule_fuses (fun e r t => ?_)
    split <;> simp
  · rw [next_keepsFuses]
    refine capsule_fuses (fun e r t => ?_)
    split <;> simp
  · rw [next_keepsFuses]
    refine capsule_fuses (fun e r t => ?_)
    split <;> simp

@[simp] theorem execPropertySet_keepsFuses (cmd : CmdFrom) (off : BitVec 32) (value : Word) (s : State) :
    KeepsFuses (execPropertySet cmd off value s) s := by
  unfold execPropertySet
  split
  · rw [next_keepsFuses]
    refine capsule_fuses (fun e r t => ?_)
    split <;> simp
  · rw [next_keepsFuses]
    refine capsule_fuses (fun e r t => ?_)
    split <;> simp

@[simp] theorem execDisconnect_keepsFuses (cmd : CmdFrom) (s : State) : KeepsFuses (execDisconnect cmd s) s := by
  unfold execDisconnect
  rw [next_keepsFuses]
  refine capsule_fuses (fun e r t => ?_)
  split <;> simp

@[simp] theorem execGetLogPage_keepsFuses (cmd : CmdFrom) (lid : BitVec 8) (s : State) : KeepsFuses (execGetLogPage cmd lid s) s := by
  unfold execGetLogPage
  rw [next_keepsFuses]
  refine adminCmd_fuses (fun e k c t => ?_)
  split
  · simp
  next x6 x7 t8 h9 => simp [fuses_of_logPage h9]

@[simp] theorem execNvmeIdentify_keepsFuses (cmd : CmdFrom) (cns : BitVec 8) (nsid : Nat) (s : State) :
    KeepsFuses (execNvmeIdentify cmd cns nsid s) s := by
  unfold execNvmeIdentify
  rw [next_keepsFuses]
  refine adminCmd_fuses (fun e k c t => ?_)
  split <;> simp

@[simp] theorem execAbort_keepsFuses (cmd : CmdFrom) (s : State) : KeepsFuses (execAbort cmd s) s := by
  unfold execAbort
  rw [next_keepsFuses]
  refine capsule_fuses (fun e r t => ?_)
  split <;> simp

@[simp] theorem execSetFeatures_keepsFuses (cmd : CmdFrom) (fid : BitVec 8) (nsid : Nat) (save : Bool) (value : BitVec 32) (s : State) :
    KeepsFuses (execSetFeatures cmd fid nsid save value s) s := by
  unfold execSetFeatures
  split
  · rw [next_keepsFuses]
    refine capsule_fuses (fun e r t => ?_)
    split <;> simp
  · split
    · rw [next_keepsFuses]
      refine capsule_fuses (fun e r t => ?_)
      split <;> simp
    · rw [next_keepsFuses]
      refine capsule_fuses (fun e r t => ?_)
      split <;> simp
    · rw [next_keepsFuses]
      refine capsule_fuses (fun e r t => ?_)
      split <;> simp
    · rw [next_keepsFuses]
      refine capsule_fuses (fun e r t => ?_)
      split <;> simp
    · rw [next_keepsFuses]
      refine capsule_fuses (fun e r t => ?_)
      split <;> simp
    · rw [next_keepsFuses]
      refine capsule_fuses (fun e r t => ?_)
      split <;> simp
    · rw [next_keepsFuses]
      refine capsule_fuses (fun e r t => ?_)
      split <;> simp
    · rw [next_keepsFuses]
      refine adminCmd_fuses (fun e k c t => ?_)
      split <;> simp
    · rw [next_keepsFuses]
      refine adminCmd_fuses (fun e k c t => ?_)
      split <;> simp
    · rw [next_keepsFuses]
      refine capsule_fuses (fun e r t => ?_)
      split <;> simp

@[simp] theorem execGetFeatures_keepsFuses (cmd : CmdFrom) (fid : BitVec 8) (nsid : Nat) (sel : FeatureSel) (s : State) :
    KeepsFuses (execGetFeatures cmd fid nsid sel s) s := by
  unfold execGetFeatures
  split
  · rw [next_keepsFuses]
    refine capsule_fuses (fun e r t => ?_)
    split <;> simp
  · split
    · rw [next_keepsFuses]
      refine capsule_fuses (fun e r t => ?_)
      split <;> simp
    · rw [next_keepsFuses]
      refine capsule_fuses (fun e r t => ?_)
      split <;> simp
    · rw [next_keepsFuses]
      refine capsule_fuses (fun e r t => ?_)
      split <;> simp
    · rw [next_keepsFuses]
      refine capsule_fuses (fun e r t => ?_)
      split <;> simp
    · rw [next_keepsFuses]
      refine capsule_fuses (fun e r t => ?_)
      split <;> simp
    · rw [next_keepsFuses]
      refine capsule_fuses (fun e r t => ?_)
      split <;> simp
    · rw [next_keepsFuses]
      refine capsule_fuses (fun e r t => ?_)
      split <;> simp
    · rw [next_keepsFuses]
      refine capsule_fuses (fun e r t => ?_)
      split <;> simp
    · rw [next_keepsFuses]
      refine adminCmd_fuses (fun e k c t => ?_)
      split <;> simp
    · rw [next_keepsFuses]
      refine adminCmd_fuses (fun e k c t => ?_)
      split <;> simp
    · rw [next_keepsFuses]
      refine capsule_fuses (fun e r t => ?_)
      split <;> simp

@[simp] theorem execAsyncEventRequest_keepsFuses (cmd : CmdFrom) (s : State) : KeepsFuses (execAsyncEventRequest cmd s) s := by
  unfold execAsyncEventRequest
  rw [next_keepsFuses]
  refine adminCmd_fuses (fun e k c t => ?_)
  split <;> simp

@[simp] theorem execKeepAlive_keepsFuses (cmd : CmdFrom) (s : State) : KeepsFuses (execKeepAlive cmd s) s := by
  unfold execKeepAlive
  rw [next_keepsFuses]
  refine capsule_fuses (fun e r t => ?_)
  split <;> simp

@[simp] theorem execKeepAliveExpiry_keepsFuses (tenant : BitVec 12) (cntlid : BitVec 16) (s : State) :
    KeepsFuses (execKeepAliveExpiry tenant cntlid s) s := by
  unfold execKeepAliveExpiry
  rw [next_keepsFuses]
  split <;> simp

@[simp] theorem execFormatNvm_keepsFuses (cmd : CmdFrom) (nsid : Nat) (lbaf : Nat) (pi : BitVec 3) (ses : BitVec 3) (s : State) :
    KeepsFuses (execFormatNvm cmd nsid lbaf pi ses s) s := by
  unfold execFormatNvm
  split
  · rw [next_keepsFuses]
    refine capsule_fuses (fun e r t => ?_)
    split <;> simp
  · split
    · rw [next_keepsFuses]
      refine adminCmd_fuses (fun e k c t => ?_)
      split <;> simp
    · rw [next_keepsFuses]
      refine adminCmd_fuses (fun e k c t => ?_)
      split <;> simp

@[simp] theorem execSanitizeCryptoErase_keepsFuses (cmd : CmdFrom) (ndas : Bool) (s : State) :
    KeepsFuses (execSanitizeCryptoErase cmd ndas s) s := by
  unfold execSanitizeCryptoErase
  rw [next_keepsFuses]
  refine capsule_fuses (fun e r t => ?_)
  split <;> simp

@[simp] theorem execSanitizeBlockErase_keepsFuses (cmd : CmdFrom) (ndas : Bool) (s : State) :
    KeepsFuses (execSanitizeBlockErase cmd ndas s) s := by
  unfold execSanitizeBlockErase
  rw [next_keepsFuses]
  refine capsule_fuses (fun e r t => ?_)
  split <;> simp

@[simp] theorem execSanitizeOverwrite_keepsFuses (cmd : CmdFrom) (s : State) : KeepsFuses (execSanitizeOverwrite cmd s) s := by
  unfold execSanitizeOverwrite
  rw [next_keepsFuses]
  refine capsule_fuses (fun e r t => ?_)
  split <;> simp

@[simp] theorem execSanitizeExitFailure_keepsFuses (cmd : CmdFrom) (s : State) : KeepsFuses (execSanitizeExitFailure cmd s) s := by
  unfold execSanitizeExitFailure
  rw [next_keepsFuses]
  refine capsule_fuses (fun e r t => ?_)
  split <;> simp

@[simp] theorem execFlush_keepsFuses (cmd : CmdFrom) (nsid : Nat) (s : State) : KeepsFuses (execFlush cmd nsid s) s := by
  unfold execFlush
  rw [next_keepsFuses]
  refine capsule_fuses (fun e r t => ?_)
  (repeat' split) <;> simp

@[simp] theorem execWrite_keepsFuses (cmd : CmdFrom) (nsid : Nat) (range : LbaRange) (fua : Bool) (pi : PiReq) (data : Bytes)
    (standby : Standby) (s : State) : KeepsFuses (execWrite cmd nsid range fua pi data standby s) s := by
  simp [execWrite]

@[simp] theorem execRead_keepsFuses (cmd : CmdFrom) (nsid : Nat) (range : LbaRange) (pi : PiReq) (standby : Standby) (s : State) :
    KeepsFuses (execRead cmd nsid range pi standby s) s := by
  simp [execRead]

@[simp] theorem execCompare_keepsFuses (cmd : CmdFrom) (nsid : Nat) (range : LbaRange) (pi : PiReq) (data : Bytes) (standby : Standby)
    (s : State) : KeepsFuses (execCompare cmd nsid range pi data standby s) s := by
  simp [execCompare]

@[simp] theorem execWriteZeroes_keepsFuses (cmd : CmdFrom) (nsid : Nat) (range : LbaRange) (fua : Bool) (standby : Standby) (s : State) :
    KeepsFuses (execWriteZeroes cmd nsid range fua standby s) s := by
  simp [execWriteZeroes]

@[simp] theorem execDatasetManagement_keepsFuses (cmd : CmdFrom) (nsid : Nat) (ranges : List LbaRange) (deallocate : Bool)
    (standby : Standby) (s : State) : KeepsFuses (execDatasetManagement cmd nsid ranges deallocate standby s) s := by
  unfold execDatasetManagement
  split
  · simp
  · rw [next_keepsFuses]
    refine ioCmd_fuses (fun e c i v t => ?_)
    simp

@[simp] theorem execCopy_keepsFuses (cmd : CmdFrom) (nsid : Nat) (source : LbaRange) (dest : BitVec 64) (simple : Bool) (prinfo : Bool)
    (fua : Bool) (standby : Standby) (s : State) : KeepsFuses (execCopy cmd nsid source dest simple prinfo fua standby s) s := by
  simp [execCopy]

@[simp] theorem execUnsupportedCommand_keepsFuses (cmd : CmdFrom) (fused : Bool) (s : State) :
    KeepsFuses (execUnsupportedCommand cmd fused s) s := by
  unfold execUnsupportedCommand
  split
  · rw [next_keepsFuses]
    refine onConn_fuses (fun e r t => ?_)
    simp
  · rw [next_keepsFuses]
    refine onConn_fuses (fun e r t => ?_)
    simp

@[simp] theorem resvHost_fuses (s : State) (cmd : CmdFrom) (nsid : Nat) (c : ResvCmd) : (s.resvHost cmd nsid c).fuses = s.fuses := by
  unfold resvHost
  refine capsule_fuses (fun e r t => ?_)
  (repeat' split) <;> simp

@[simp] theorem execReservationRegister_keepsFuses (cmd : CmdFrom) (nsid : Nat) (act : RegAct) (iekey : Bool) (ptpl : Option Bool)
    (crkey : Word) (nrkey : Word) (s : State) : KeepsFuses (execReservationRegister cmd nsid act iekey ptpl crkey nrkey s) s := by
  simp [execReservationRegister]

@[simp] theorem execReservationReport_keepsFuses (cmd : CmdFrom) (nsid : Nat) (extended : Bool) (s : State) :
    KeepsFuses (execReservationReport cmd nsid extended s) s := by
  unfold execReservationReport
  split
  · rw [next_keepsFuses]
    refine ioCmd_fuses (fun e c i v t => ?_)
    simp
  · rw [next_keepsFuses]
    refine ioCmd_fuses (fun e c i v t => ?_)
    simp

@[simp] theorem execReservationAcquire_keepsFuses (cmd : CmdFrom) (nsid : Nat) (act : AcqAct) (iekey : Bool) (rtype : BitVec 8)
    (crkey : Word) (prkey : Word) (s : State) : KeepsFuses (execReservationAcquire cmd nsid act iekey rtype crkey prkey s) s := by
  simp [execReservationAcquire]

@[simp] theorem execReservationRelease_keepsFuses (cmd : CmdFrom) (nsid : Nat) (clear : Bool) (iekey : Bool) (rtype : BitVec 8)
    (crkey : Word) (s : State) : KeepsFuses (execReservationRelease cmd nsid clear iekey rtype crkey s) s := by
  simp [execReservationRelease]

/-! ### `Machine/Admission` -/

@[simp] theorem claimServes_fuses (s : State) (id : Nat) (dems : List Dem) : (s.claimServes id dems).fuses = s.fuses := by
  unfold claimServes
  split <;> simp

@[simp] theorem claim_fuses (s : State) (tag : Nat) (tenant : Nat) (items : List ClaimItem) (cmd : Option Nat) :
    (s.claim tag tenant items cmd).fuses = s.fuses := by
  unfold claim
  split <;> simp

@[simp] theorem undoDraft_fuses (s : State) (id : Nat) : (s.undoDraft id).fuses = s.fuses := by
  unfold undoDraft
  split <;> simp

@[simp] theorem draftAgain_fuses (s : State) (id : Nat) : (s.draftAgain id).fuses = s.fuses := by
  unfold draftAgain
  split <;> simp

@[simp] theorem claimsGranted_fuses (s : State) (id : Nat) : (s.claimsGranted id).fuses = s.fuses := by
  unfold claimsGranted
  split
  · simp
  · split
    · simp
    · split
      · simp
      · refine underTerms_fuses (fun t => ?_)
        simp

@[simp] theorem requeue_fuses (s : State) (id : Nat) : (s.requeue id).fuses = s.fuses := by
  unfold requeue
  split <;> simp

@[simp] theorem claimsAlone_fuses (s : State) : (s.claimsAlone).fuses = s.fuses := by
  unfold claimsAlone
  refine foldl_fuses (fun t a => ?_) _ _
  split <;> simp

@[simp] theorem claimAnswer_fuses (s : State) (tag : Nat) (a : ClaimReply) : (s.claimAnswer tag a).fuses = s.fuses := by
  simp only [claimAnswer]
  split
  · simp
  · split
    · split
      · simp
      · refine gated_fuses (fun t => ?_)
        simp
    · refine gated_fuses (fun t => ?_)
      simp

@[simp] theorem tblData_fuses (s : State) (w : List Word) : (s.tblData w).fuses = s.fuses := by simp [tblData]

theorem tblGo_fuses {s : State} {op tenant : Nat} {f : State → State} (hf : ∀ t, (f t).fuses = t.fuses) : (s.tblGo op tenant f).fuses = s.fuses :=
  barWrite_fuses fun t => by simp [hf]

@[simp] theorem stageCard_fuses (s : State) (c : CardFit) : (s.stageCard c).fuses = s.fuses := by simp [stageCard]

@[simp] theorem execReedTokensAvailable_keepsFuses (id : Nat) (standby : Standby) (s : State) :
    KeepsFuses (execReedTokensAvailable id standby s) s := by
  simp [execReedTokensAvailable]

@[simp] theorem execMapResolved_keepsFuses (id : Nat) (standby : Standby) (s : State) : KeepsFuses (execMapResolved id standby s) s := by
  unfold execMapResolved
  split
  · split
    · rw [next_keepsFuses]
      refine gated_fuses (fun t => ?_)
      simp
    · simp
  · simp

@[simp] theorem execLoomSwapDue_keepsFuses (digests : Standby) (s : State) : KeepsFuses (execLoomSwapDue digests s) s := by
  unfold execLoomSwapDue
  split
  · simp
  · split <;> simp

@[simp] theorem execReedTblReadState_keepsFuses (tenant : BitVec 12) (s : State) : KeepsFuses (execReedTblReadState tenant s) s := by
  unfold execReedTblReadState
  rw [next_keepsFuses]
  refine barWrite_fuses (fun t => ?_)
  simp

@[simp] theorem execReedTblWriteStaged_keepsFuses (tenant : BitVec 12) (w0 : Word) (w1 : Word) (w2 : Word) (w3 : Word) (s : State) :
    KeepsFuses (execReedTblWriteStaged tenant w0 w1 w2 w3 s) s := by
  unfold execReedTblWriteStaged
  rw [next_keepsFuses]
  refine barWrite_fuses (fun t => ?_)
  simp

@[simp] theorem execReedTblReadStaged_keepsFuses (tenant : BitVec 12) (s : State) : KeepsFuses (execReedTblReadStaged tenant s) s := by
  unfold execReedTblReadStaged
  rw [next_keepsFuses]
  refine barWrite_fuses (fun t => ?_)
  simp

@[simp] theorem execReedTblReadActive_keepsFuses (tenant : BitVec 12) (s : State) : KeepsFuses (execReedTblReadActive tenant s) s := by
  unfold execReedTblReadActive
  rw [next_keepsFuses]
  refine barWrite_fuses (fun t => ?_)
  simp

@[simp] theorem execCollectionFloorRecompute_keepsFuses (s : State) : KeepsFuses (execCollectionFloorRecompute s) s := by
  simp [execCollectionFloorRecompute]

@[simp] theorem execEnergyCardFit_keepsFuses (cards : List CardFit) (s : State) : KeepsFuses (execEnergyCardFit cards s) s := by
  simp [execEnergyCardFit]

@[simp] theorem execEnergyOverrun_keepsFuses (s : State) : KeepsFuses (execEnergyOverrun s) s := by simp [execEnergyOverrun]

@[simp] theorem execOverwriteRatioUpdate_keepsFuses (s : State) : KeepsFuses (execOverwriteRatioUpdate s) s := by
  simp [execOverwriteRatioUpdate]

@[simp] theorem execClaim_keepsFuses (tag : Nat) (tenant : Nat) (items : List ClaimItem) (cmd : Option Nat) (s : State) :
    KeepsFuses (execClaim tag tenant items cmd s) s := by
  simp [execClaim]

@[simp] theorem execClaimAnswer_keepsFuses (tag : Nat) (grant : ClaimReply) (s : State) : KeepsFuses (execClaimAnswer tag grant s) s := by
  simp [execClaimAnswer]

@[simp] theorem execShadow_keepsFuses (added : List ShadowItem) (removed : List ShadowItem) (s : State) :
    KeepsFuses (execShadow added removed s) s := by
  simp [execShadow]

/-! ### `Machine/Aperture` -/

@[simp] theorem dramWord_fuses (s : State) (w : Nat) : (s.dramWord w).2.fuses = s.fuses := by
  unfold dramWord
  split <;> simp

@[simp] theorem aperture_fuses (s : State) (write : Bool) (addr : Nat) (data : Word) : (s.aperture write addr data).fuses = s.fuses := by
  simp only [aperture]
  (repeat' split) <;> simp

@[simp] theorem execApertureAccess_keepsFuses (write : Bool) (addr : BitVec 36) (data : Word) (s : State) :
    KeepsFuses (execApertureAccess write addr data s) s := by
  simp [execApertureAccess]

/-! ### `Machine/WritePath` -/

@[simp] theorem failWrite_fuses (s : State) (id : Nat) (sct : Nat) (sc : Nat) : (s.failWrite id sct sc).fuses = s.fuses := by
  unfold failWrite
  split <;> simp

@[simp] theorem busyAbandon_fuses (s : State) (id : Nat) : (s.busyAbandon id).fuses = s.fuses := by
  unfold busyAbandon
  split <;> simp

@[simp] theorem lookupStore_fuses (s : State) (id : Nat) (l : Lookup) : (s.lookupStore id l).fuses = s.fuses := by simp [lookupStore]
@[simp] theorem lookupMiss_fuses (s : State) (id : Nat) (l : Lookup) : (s.lookupMiss id l).fuses = s.fuses := by simp [lookupMiss]

@[simp] theorem lookupLapse_fuses (s : State) (id : Nat) (l : Lookup) : (s.lookupLapse id l).fuses = s.fuses := by
  unfold lookupLapse
  split
  next x2 x3 t4 h5 => simp [fuses_of_reserveId h5]
  · simp

@[simp] theorem lookupUse_fuses (s : State) (id : Nat) (c : HCmd) (l : Lookup) (k : Nat) (pending : Bool) :
    (s.lookupUse id c l k pending).fuses = s.fuses := by
  simp [lookupUse]

@[simp] theorem lookupConfirm_fuses (s : State) (id : Nat) (c : HCmd) (l : Lookup) (k : Nat) :
    (s.lookupConfirm id c l k).fuses = s.fuses := by
  simp [lookupConfirm]

@[simp] theorem staleDelete_fuses (s : State) (fp : Nat) (k : Nat) : (s.staleDelete fp k).fuses = s.fuses := by simp [staleDelete]

@[simp] theorem lookupDone_fuses (s : State) (id : Nat) (c : HCmd) (l : Lookup) (hit : Option IdxHit) :
    (s.lookupDone id c l hit).fuses = s.fuses := by
  unfold lookupDone
  (repeat' split) <;> simp

@[simp] theorem grainLookup_fuses (s : State) (id : Nat) (c : HCmd) (g : Nat) (dpc : Nat) (plain : Bytes) (ok : Bool) (cached : Bool) :
    (s.grainLookup id c g dpc plain ok cached).fuses = s.fuses := by
  unfold grainLookup
  split
  · simp
  next x7 x8 t9 h10 => simp [fuses_of_reserveId h10]

@[simp] theorem grainRun_fuses (s : State) (id g dpc : Nat) (ok cached : Bool) : (s.grainRun id g dpc ok cached).fuses = s.fuses := by
  simp only [grainRun]
  (repeat' split) <;> simp

@[simp] theorem pendingDone_fuses (s : State) (tenant : Nat) (f : Form) : (s.pendingDone tenant f).fuses = s.fuses := by simp [pendingDone]
@[simp] theorem sampleCount_fuses (s : State) (c : HCmd) (n : Nat) : (s.sampleCount c n).fuses = s.fuses := by simp [sampleCount]

@[simp] theorem headerSide_fuses (s : State) (id : Nat) (c : HCmd) (r : JRec) (olds : List Nat) :
    (s.headerSide id c r olds).fuses = s.fuses := by
  simp [headerSide]

@[simp] theorem dropLeaves_fuses (s : State) (r : JRec) (leaves : List Nat) : (s.dropLeaves r leaves).fuses = s.fuses := by
  simp only [dropLeaves, journalCtl_fuses]
  rw [foldl_fuses fun t e => imageDies_fuses _ _ _, fuses_foldl_fst fun b li => by simp]

@[simp] theorem recordHead_fuses (s : State) (id : Nat) : (s.recordHead id).fuses = s.fuses := by
  unfold recordHead
  split
  · simp
  · split <;> simp

@[simp] theorem mirrorAck_fuses (s : State) (acked : List Nat) (flashed : List Nat) : (s.mirrorAck acked flashed).fuses = s.fuses := by
  simp [mirrorAck]

@[simp] theorem mirrorResend_fuses (s : State) (seq : Nat) : (s.mirrorResend seq).fuses = s.fuses := by
  unfold mirrorResend
  split <;> simp

@[simp] theorem rowClose_fuses (s : State) (seg : Nat) : (s.rowClose seg).fuses = s.fuses := by
  unfold rowClose
  split
  · split <;> simp
  · simp

@[simp] theorem pageLost_fuses (s : State) (id : Nat) : (s.pageLost id).fuses = s.fuses := by
  unfold pageLost
  split <;> simp

@[simp] theorem cacheLoss_fuses (s : State) : (s.cacheLoss).fuses = s.fuses := by simp [cacheLoss]

@[simp] theorem reloadIndex_fuses (s : State) (k : Nat) : (s.reloadIndex k).fuses = s.fuses := by
  unfold reloadIndex
  split <;> simp

@[simp] theorem dramFail_fuses (s : State) (i : Nat) (pages : List Nat) (chunks : List Nat) :
    (s.dramFail i pages chunks).fuses = s.fuses := by
  simp [dramFail]

@[simp] theorem execGrainPipeline_keepsFuses (cmd : Nat) (grain : Nat) (dpc : Fin 18) (verified : Bool) (cached : Bool) (s : State) :
    KeepsFuses (execGrainPipeline cmd grain dpc verified cached s) s := by
  simp [execGrainPipeline]

@[simp] theorem execIdxLookup_keepsFuses (tag grain tenant chunk : Nat) (fp : Word256) (s : State) :
    KeepsFuses (execIdxLookup tag grain tenant chunk fp s) s := by
  simp only [execIdxLookup, next_keepsFuses]
  (repeat' split) <;> simp

@[simp] theorem execIdxAnswer_keepsFuses (cmd : Nat) (grain : Nat) (hit : Option IdxHit) (s : State) :
    KeepsFuses (execIdxAnswer cmd grain hit s) s := by
  unfold execIdxAnswer
  split <;> simp

@[simp] theorem execIndexLookupTimeout_keepsFuses (cmd : Nat) (grain : Nat) (s : State) :
    KeepsFuses (execIndexLookupTimeout cmd grain s) s := by
  unfold execIndexLookupTimeout
  split <;> simp

@[simp] theorem execRecordHeaderWrite_keepsFuses (cmd : Nat) (s : State) : KeepsFuses (execRecordHeaderWrite cmd s) s := by
  unfold execRecordHeaderWrite
  split <;> simp

@[simp] theorem execMirrorAck_keepsFuses (acked : List Nat) (flashed : List Nat) (s : State) :
    KeepsFuses (execMirrorAck acked flashed s) s := by
  simp [execMirrorAck]

@[simp] theorem execMirrorResend_keepsFuses (seq : Nat) (s : State) : KeepsFuses (execMirrorResend seq s) s := by simp [execMirrorResend]
@[simp] theorem execRowClose_keepsFuses (segment : Nat) (s : State) : KeepsFuses (execRowClose segment s) s := by simp [execRowClose]

@[simp] theorem execRowCloseTimeout_keepsFuses (segment : Nat) (s : State) : KeepsFuses (execRowCloseTimeout segment s) s := by
  simp [execRowCloseTimeout]

@[simp] theorem execStall_keepsFuses (tag : Nat) (s : State) : KeepsFuses (execStall tag s) s := by
  unfold execStall
  split
  · split <;> simp
  · simp

@[simp] theorem execRestripeComplete_keepsFuses (s : State) : KeepsFuses (execRestripeComplete s) s := by simp [execRestripeComplete]

@[simp] theorem execDramUncorrectableError_keepsFuses (channel : Fin 16) (address : Word) (data : DramData) (s : State) :
    KeepsFuses (execDramUncorrectableError channel address data s) s := by
  simp only [execDramUncorrectableError]
  (repeat' split) <;> simp

/-! ### `Machine/Reduction` -/

@[simp] theorem bulkRows_fuses (s : State) (t : Nat) (rows : List (List Bytes × List (Nat × Nat))) :
    (s.bulkRows t rows).fuses = s.fuses := by
  simp [bulkRows]

@[simp] theorem bulkRun_fuses (s : State) (entries : List IdxEntry) : (s.bulkRun entries).fuses = s.fuses := by simp [bulkRun]
@[simp] theorem auditStart_fuses (s : State) (tenant : Nat) : (s.auditStart tenant).fuses = s.fuses := by simp [auditStart]

@[simp] theorem auditOne_fuses (s : State) (c : Nat) : (s.auditOne c).fuses = s.fuses := by
  unfold auditOne
  split <;> simp

@[simp] theorem auditFinish_fuses (s : State) : (s.auditFinish).fuses = s.fuses := by
  unfold auditFinish
  split <;> simp

@[simp] theorem runWrite_fuses (s : State) : (s.runWrite).fuses = s.fuses := by simp [runWrite]
@[simp] theorem mergeRuns_fuses (s : State) : (s.mergeRuns).fuses = s.fuses := by simp [mergeRuns]

@[simp] theorem formDies_fuses (s : State) (c : Nat) (e : Chunk) : (s.formDies c e).fuses = s.fuses := by
  simp only [formDies]
  split <;> simp

@[simp] theorem retarget_fuses (s : State) (x : Nat) (a : Nat) (b : Nat) : (s.retarget x a b).fuses = s.fuses := by simp [retarget]

@[simp] theorem makeAlias_fuses (s : State) (p : Nat) (q : Nat) : (s.makeAlias p q).fuses = s.fuses := by
  simp only [makeAlias]
  split <;> simp

theorem fuses_of_pieceStore {s : State} {tenant red : Nat} {plain : Bytes} {r : Nat × Option Form × State}
    (h : s.pieceStore tenant red plain = some r) : r.2.2.fuses = s.fuses := by
  simp only [pieceStore] at h
  split at h
  · cases h
  next k s1 hid =>
    have hs1 : s1.fuses = s.fuses := by simpa using fuses_of_reserveId hid
    generalize hfound : (if red % 4 = 1 && s1.holdsShard (fingerprint (s.saltOf tenant) plain) then _ else _ : Option Nat × State) = found at h
    have hf : found.2.fuses = s1.fuses := by
      rw [← hfound]
      split
      · split
        · split <;> simp
        · simp
      · rfl
    split at h
    · obtain rfl := Option.some.inj h
      simp [hf, hs1]
    · obtain rfl := Option.some.inj h
      simp [hf, hs1]

theorem fuses_of_piecesStore {tenant red : Nat} {l : List Bytes} {s : State} {r : List Nat × List Form × State}
    (h : piecesStore tenant red l s = some r) : r.2.2.fuses = s.fuses := by
  induction l generalizing s r with
  | nil => obtain rfl := Option.some.inj h; rfl
  | cons b l ih =>
    unfold piecesStore at h
    split at h
    · cases h
    next c f s1 hs1 =>
      obtain ⟨r', hr', rfl⟩ := Option.map_eq_some_iff.mp h
      exact (ih hr').trans (fuses_of_pieceStore hs1)

@[simp] theorem dictInstall_fuses (s : State) (volume : Nat) (content : Bytes) : (s.dictInstall volume content).fuses = s.fuses := by
  unfold dictInstall
  split
  · split
    · simp
    next x8 x9 x10 t11 h12 => simp [fuses_of_piecesStore h12]
  · simp

@[simp] theorem dictTrain_fuses (s : State) (volume : Nat) (content : Bytes) (candidate : Nat) (current : Nat) :
    (s.dictTrain volume content candidate current).fuses = s.fuses := by
  unfold dictTrain
  split <;> simp

theorem redGo_fuses {s : State} {op tenant : Nat} {f : State → State} (hf : ∀ t, (f t).fuses = t.fuses) : (s.redGo op tenant f).fuses = s.fuses :=
  barWrite_fuses fun t => by simp [hf]

@[simp] theorem rehash_fuses (s : State) : (s.rehash).fuses = s.fuses := by simp [rehash]
@[simp] theorem rebuildDone_fuses (s : State) : (s.rebuildDone).fuses = s.fuses := by simp [rebuildDone]
@[simp] theorem newTable_fuses (s : State) : (s.newTable).fuses = s.fuses := by simp [newTable]

@[simp] theorem rebuildTake_fuses (s : State) : (s.rebuildTake).fuses = s.fuses := by
  unfold rebuildTake
  split <;> simp

@[simp] theorem handBack_fuses (s : State) : (s.handBack).fuses = s.fuses := by simp [handBack]

@[simp] theorem takeShard_fuses (s0 : State) (es : List IdxEntry) (last : Bool) : (s0.takeShard es last).fuses = s0.fuses := by
  simp [takeShard]

@[simp] theorem execPendingClear_keepsFuses (chunk : Nat) (op : Fin 3) (s : State) : KeepsFuses (execPendingClear chunk op s) s := by
  unfold execPendingClear
  split
  · split <;> simp
  · simp

@[simp] theorem execTallyAuditStart_keepsFuses (tenant : BitVec 12) (s : State) : KeepsFuses (execTallyAuditStart tenant s) s := by
  simp [execTallyAuditStart]

@[simp] theorem execTallyAuditFinish_keepsFuses (s : State) : KeepsFuses (execTallyAuditFinish s) s := by simp [execTallyAuditFinish]
@[simp] theorem execIndexRunWrite_keepsFuses (s : State) : KeepsFuses (execIndexRunWrite s) s := by simp [execIndexRunWrite]
@[simp] theorem execIndexRunFlushTimer_keepsFuses (s : State) : KeepsFuses (execIndexRunFlushTimer s) s := by simp [execIndexRunFlushTimer]

@[simp] theorem execReweave_keepsFuses (pair : Option (Nat × Nat)) (s : State) : KeepsFuses (execReweave pair s) s := by
  unfold execReweave
  split
  · simp
  · split <;> simp

@[simp] theorem execDictTraining_keepsFuses (volume : BitVec 16) (content : Bytes) (candidate : Nat) (current : Nat) (s : State) :
    KeepsFuses (execDictTraining volume content candidate current s) s := by
  simp [execDictTraining]

@[simp] theorem execRedWriteStaged_keepsFuses (tenant : BitVec 12) (data : Word) (s : State) :
    KeepsFuses (execRedWriteStaged tenant data s) s := by
  unfold execRedWriteStaged
  rw [next_keepsFuses]
  refine barWrite_fuses (fun t => ?_)
  simp

@[simp] theorem execRedReadStaged_keepsFuses (tenant : BitVec 12) (s : State) : KeepsFuses (execRedReadStaged tenant s) s := by
  unfold execRedReadStaged
  rw [next_keepsFuses]
  refine barWrite_fuses (fun t => ?_)
  simp

@[simp] theorem execRedReadActive_keepsFuses (tenant : BitVec 12) (s : State) : KeepsFuses (execRedReadActive tenant s) s := by
  unfold execRedReadActive
  rw [next_keepsFuses]
  refine barWrite_fuses (fun t => ?_)
  simp

@[simp] theorem execIndexRebuildDone_keepsFuses (s : State) : KeepsFuses (execIndexRebuildDone s) s := by simp [execIndexRebuildDone]

@[simp] theorem execShardHandback_keepsFuses (entries : List IdxEntry) (last : Bool) (s : State) :
    KeepsFuses (execShardHandback entries last s) s := by
  simp [execShardHandback]

/-! ### `Machine/Stripes` -/

@[simp] theorem stripeNote_fuses (s : State) (x : Nat × Seg × Nat) : (s.stripeNote x).fuses = s.fuses := by simp [stripeNote]
@[simp] theorem stripeEval_fuses (s : State) : (s.stripeEval).fuses = s.fuses := by simp [stripeEval]
@[simp] theorem windowBegin_fuses (s : State) (hits : List (Nat × Nat)) : (s.windowBegin hits).fuses = s.fuses := by simp [windowBegin]

@[simp] theorem suspectAdd_fuses (s : State) (seg : Nat) (member : Nat) (row : Nat) : (s.suspectAdd seg member row).fuses = s.fuses := by
  simp only [suspectAdd]
  (repeat' split) <;> simp

@[simp] theorem addVictim_fuses (s : State) (v : Victim) : (s.addVictim v).fuses = s.fuses := by simp [addVictim]

@[simp] theorem relocate_fuses (s : State) (seg : Nat) (member : Nat) (ratio : Nat) (cause : Option Nat) :
    (s.relocate seg member ratio cause).fuses = s.fuses := by
  simp only [relocate]
  (repeat' split) <;> simp

@[simp] theorem earlyClose_fuses (s : State) (seg : Nat) : (s.earlyClose seg).fuses = s.fuses := by
  unfold earlyClose
  split <;> simp

@[simp] theorem repack_fuses (s0 : State) (t : Nat) (r : Row) : (s0.repack t r).fuses = s0.fuses := by
  simp only [repack, packWaiting_fuses]
  rw [foldl_fuses, fuses_mk, life_fuses, foldl_fuses]
  · split <;> simp
  · intro u p
    split <;> simp
  · intro u f
    cases h : u.packForm 2 f.chunk f.len32 true 3 with
    | none => rfl
    | some v => exact fuses_of_packForm h

@[simp] theorem rowFail_fuses (s : State) (seg : Nat) : (s.rowFail seg).fuses = s.fuses := by
  unfold rowFail
  split
  · split <;> simp
  · simp

@[simp] theorem memberLost_fuses (s : State) (seg : Nat) (member : Nat) : (s.memberLost seg member).fuses = s.fuses := by
  unfold memberLost
  split <;> simp

@[simp] theorem blocksLost_fuses (s : State) (p : Nat × Nat × Nat → Bool) : (s.blocksLost p).fuses = s.fuses := by simp [blocksLost]

@[simp] theorem chunkLost_fuses (s : State) (c : Nat) (cause : Nat) : (s.chunkLost c cause).fuses = s.fuses := by
  unfold chunkLost
  split <;> simp

@[simp] theorem readMarginal_fuses (s : State) (seg : Nat) (member : Nat) (corrected : Nat) (retry : Nat) :
    (s.readMarginal seg member corrected retry).fuses = s.fuses := by
  unfold readMarginal
  split <;> simp

/-! ### `Machine/ReadStage` -/

@[simp] theorem readEnd_fuses (s : State) (id : Nat) : (s.readEnd id).fuses = s.fuses := by
  unfold readEnd
  split <;> simp

@[simp] theorem grainOut_fuses (s : State) (id : Nat) (g : Nat) (c : HCmd) (plain : Bytes) : (s.grainOut id g c plain).fuses = s.fuses := by
  unfold grainOut
  (repeat' split) <;> simp

@[simp] theorem readLost_fuses (s : State) (id : Nat) (k : Nat) (cause : Nat) : (s.readLost id k cause).fuses = s.fuses := by
  simp [readLost]

@[simp] theorem issuePlan_fuses (s : State) (id : Nat) (p : Plan) : (s.issuePlan id p).fuses = s.fuses := by
  unfold issuePlan
  split <;> simp

@[simp] theorem redraftGrain_fuses (s : State) (id g : Nat) (c : HCmd) (p : Plan) (more alts : List Nat) :
    (s.redraftGrain id g c p more alts).fuses = s.fuses := by
  simp only [redraftGrain]
  split
  · simp
  next d q h =>
    have hd : d.st.fuses = s.fuses := by simpa using fuses_of_placeStripe h
    simp [hd]

@[simp] theorem reconstruct_fuses (s : State) (id : Nat) (g : Nat) (k : Nat) (c : HCmd) (e : Chunk) :
    (s.reconstruct id g k c e).fuses = s.fuses := by
  simp only [reconstruct]
  (repeat' split) <;> simp

@[simp] theorem cacheFill_fuses (s : State) (k : Nat) : (s.cacheFill k).fuses = s.fuses := by simp [cacheFill]
@[simp] theorem journalBad_fuses (s : State) (id : Nat) (k : Nat) : (s.journalBad id k).fuses = s.fuses := by simp [journalBad]

@[simp] theorem formCheck_fuses (s : State) (id : Nat) (g : Nat) (k : Nat) (dpc : Nat) (c : HCmd) (f : Form) (flash : Option Chunk)
    (check : ReadCheck) : (s.formCheck id g k dpc c f flash check).fuses = s.fuses := by
  simp only [formCheck]
  (repeat' split) <;> simp

@[simp] theorem cacheCheck_fuses (s : State) (id : Nat) (g : Nat) (k : Nat) (dpc : Nat) (c : HCmd) (f : Form) (check : ReadCheck) :
    (s.cacheCheck id g k dpc c f check).fuses = s.fuses := by
  simp only [cacheCheck]
  (repeat' split) <;> simp

@[simp] theorem grainRead_fuses (s : State) (id g dpc : Nat) (check : ReadCheck) : (s.grainRead id g dpc check).fuses = s.fuses := by
  simp only [grainRead]
  (repeat' split) <;> simp

@[simp] theorem execGrainReadStage_keepsFuses (cmd : Nat) (grain : Nat) (dpc : Fin 18) (check : ReadCheck) (s : State) :
    KeepsFuses (execGrainReadStage cmd grain dpc check s) s := by
  simp [execGrainReadStage]

/-! ### `Machine/Maps` -/

theorem fuses_of_mapPlace {s : State} {id applied : Nat} {t : State} (h : s.mapPlace id applied = some t) : t.fuses = s.fuses := by
  simp only [mapPlace] at h
  split at h
  · cases h
  next seg s1 hrow =>
    have hs1 : s1.fuses = s.fuses := fuses_of_rowFor hrow
    split at h
    · cases h
    · split at h
      · cases h
      · obtain rfl := Option.some.inj h
        split <;> simp [hs1]

@[simp] theorem writeBack_fuses (s : State) (id : Nat) : (s.writeBack id).fuses = s.fuses := by
  unfold writeBack
  split
  · split
    · split
      next x5 t6 h7 => simp [fuses_of_mapPlace h7]
      · simp
    · simp
  · simp

@[simp] theorem evictN_fuses (n : Nat) (s : State) : (evictN n s).fuses = s.fuses := by
  induction n generalizing s with
  | zero => rfl
  | succ n ih =>
    simp only [evictN]
    split
    · rfl
    · split
      · rfl
      · split <;> simp [ih]

@[simp] theorem evict_fuses (s : State) : (s.evict).fuses = s.fuses := by simp [evict]
@[simp] theorem overlayShow_fuses (s : State) : (s.overlayShow).fuses = s.fuses := by simp [overlayShow]

@[simp] theorem loadPage_fuses (s : State) (id : Nat) : (s.loadPage id).fuses = s.fuses := by
  unfold loadPage
  split <;> simp

@[simp] theorem pageIn_fuses (s : State) (id : Nat) (good : Bool) : (s.pageIn id good).fuses = s.fuses := by
  unfold pageIn
  (repeat' split) <;> simp

@[simp] theorem freeRecs_fuses (n : Nat) (s : State) (pages : List (Nat × Page)) : (freeRecs n s pages).fuses = s.fuses := by
  induction n generalizing s pages with
  | zero => rfl
  | succ n ih =>
    cases pages with
    | nil => rfl
    | cons p pages => simp [freeRecs, ih]

@[simp] theorem freePages_fuses (s : State) (ids : List Nat) : (s.freePages ids).fuses = s.fuses := by simp [freePages]

@[simp] theorem pageDurable_fuses (seg row : Nat) (a : State × List Ctl) (x : Nat × Nat × Nat) :
    (pageDurable seg row a x).1.fuses = a.1.fuses := by
  unfold pageDurable
  split <;> simp

@[simp] theorem mapRowDurable_fuses (s : State) (seg row : Nat) (pages : List (Nat × Nat)) :
    (s.mapRowDurable seg row pages).fuses = s.fuses := by
  rw [mapRowDurable, journalCtl_fuses]
  exact fuses_foldl_fst (fun b e => pageDurable_fuses _ _ _ _) _ _

@[simp] theorem logRowDurable_fuses (s : State) (seg : Nat) (recs : List Nat) : (s.logRowDurable seg recs).fuses = s.fuses := by
  simp [logRowDurable]

@[simp] theorem ckptPlace_fuses (s : State) : (s.ckptPlace).fuses = s.fuses := by
  simp only [ckptPlace]
  split
  · simp
  · refine fuses_foldl_fst (fun b a => ?_) _ _
    split
    · simp
    · split
      · simp
      next x6 t7 h8 => 
        split
        · simp [fuses_of_mapPlace h8]
        · simp [fuses_of_mapPlace h8]

@[simp] theorem rawDurable_fuses (s : State) (seg : Nat) (row : Nat) (g : Seg) (r : Row) : (s.rawDurable seg row g r).fuses = s.fuses := by
  simp [rawDurable]

@[simp] theorem rowMade_fuses (s : State) (seg : Nat) : (s.rowMade seg).fuses = s.fuses := by
  simp only [rowMade]
  (repeat' split) <;> simp

@[simp] theorem journalRow_fuses (s : State) : (s.journalRow).fuses = s.fuses := by
  unfold journalRow
  split
  · simp
  · split
    · simp
    next x1 x2 t3 h4 => 
      split
      · simp [fuses_of_rowFor h4]
      · split
        · simp [fuses_of_rowFor h4]
        · simp [fuses_of_rowFor h4]

@[simp] theorem ckptTables_fuses (s : State) : (s.ckptTables).fuses = s.fuses := by
  unfold ckptTables
  split <;> simp

@[simp] theorem ckptCut_fuses (s : State) : (s.ckptCut).fuses = s.fuses := by simp [ckptCut]
@[simp] theorem ckptStart_fuses (s : State) : (s.ckptStart).fuses = s.fuses := by simp [ckptStart]
@[simp] theorem ckptBoundary_fuses (s : State) : (s.ckptBoundary).fuses = s.fuses := by simp [ckptBoundary]

@[simp] theorem pinResident_fuses (s : State) (v : Nat) : (s.pinResident v).fuses = s.fuses := by
  unfold pinResident
  split <;> simp

@[simp] theorem snapAbort_fuses (s : State) (tag : Nat) : (s.snapAbort tag).fuses = s.fuses := by
  unfold snapAbort
  split
  · simp
  · split <;> simp

@[simp] theorem snapNotice_fuses (s : State) (tag : Nat) (start : Nat) (members : List (Nat × Nat)) :
    (s.snapNotice tag start members).fuses = s.fuses := by
  simp [snapNotice]

@[simp] theorem snapCut_fuses (cut : Nat) (s : State) (m : Nat × Nat) : (snapCut cut s m).fuses = s.fuses := by
  unfold snapCut
  split <;> simp

@[simp] theorem snapIds_fuses (s : State) (n : Nat) : (s.snapIds n).2.fuses = s.fuses := by simp [snapIds]

theorem fuses_of_snapBegin {s : State} {vols : List Nat} {tag rel : Option Nat} {t : State} (h : s.snapBegin vols tag rel = some t) :
    t.fuses = s.fuses := by
  simp only [snapBegin] at h
  split at h
  · cases h
  · obtain rfl := Option.some.inj h
    split <;> simp

@[simp] theorem snapDrop_fuses (s : State) (id : Nat) : (s.snapDrop id).fuses = s.fuses := by
  unfold snapDrop
  split <;> simp

@[simp] theorem relCut_fuses (s : State) (k : Nat) (id : Nat) : (s.relCut k id).fuses = s.fuses := by
  unfold relCut
  split <;> simp

@[simp] theorem snapshotCut_fuses (s : State) (tag : Nat) : (s.snapshotCut tag).fuses = s.fuses := by
  unfold snapshotCut
  (repeat' split) <;> simp

@[simp] theorem pauseEnd_fuses (s : State) (tag : Nat) : (s.pauseEnd tag).fuses = s.fuses := by
  unfold pauseEnd
  split <;> simp

@[simp] theorem snapDelete_fuses (s : State) (id : Nat) : (s.snapDelete id).fuses = s.fuses := by
  unfold snapDelete
  split <;> simp

@[simp] theorem lineLookup_fuses (s : State) (v : Nat) (g : Nat) : (s.lineLookup v g).fuses = s.fuses := by
  unfold lineLookup
  (repeat' split) <;> simp

@[simp] theorem keeperConfirm_fuses (s : State) (tag : Nat) (grain : Nat) (chunk : Nat) (tenant : Nat) (fpCheck : Nat) :
    (s.keeperConfirm tag grain chunk tenant fpCheck).fuses = s.fuses := by
  simp [keeperConfirm]

@[simp] theorem execPageinComplete_keepsFuses (page : Nat) (good : Bool) (s : State) : KeepsFuses (execPageinComplete page good s) s := by
  simp [execPageinComplete]

@[simp] theorem execPageWriteback_keepsFuses (page : Nat) (s : State) : KeepsFuses (execPageWriteback page s) s := by
  simp [execPageWriteback]

@[simp] theorem execOverlayFill_keepsFuses (count : Nat) (s : State) : KeepsFuses (execOverlayFill count s) s := by simp [execOverlayFill]
@[simp] theorem execMapJournalRowClose_keepsFuses (s : State) : KeepsFuses (execMapJournalRowClose s) s := by simp [execMapJournalRowClose]

@[simp] theorem execMapJournalFlushTimer_keepsFuses (s : State) : KeepsFuses (execMapJournalFlushTimer s) s := by
  simp [execMapJournalFlushTimer]

@[simp] theorem execCheckpointDue_keepsFuses (s : State) : KeepsFuses (execCheckpointDue s) s := by simp [execCheckpointDue]

@[simp] theorem execPinResident_keepsFuses (volume : BitVec 16) (s : State) : KeepsFuses (execPinResident volume s) s := by
  simp [execPinResident]

@[simp] theorem execSnapNotice_keepsFuses (tag : Nat) (start : Nat) (members : List (Nat × Nat)) (s : State) :
    KeepsFuses (execSnapNotice tag start members s) s := by
  simp [execSnapNotice]

@[simp] theorem execSnapConfirm_keepsFuses (tag : Nat) (receipt : Nat) (s : State) : KeepsFuses (execSnapConfirm tag receipt s) s := by
  unfold execSnapConfirm
  split <;> simp

@[simp] theorem execSnapConfirmTimeout_keepsFuses (tag : Nat) (s : State) : KeepsFuses (execSnapConfirmTimeout tag s) s := by
  unfold execSnapConfirmTimeout
  split <;> simp

@[simp] theorem execSnapshotCut_keepsFuses (tag : Nat) (s : State) : KeepsFuses (execSnapshotCut tag s) s := by simp [execSnapshotCut]
@[simp] theorem execSnapPauseEnd_keepsFuses (tag : Nat) (s : State) : KeepsFuses (execSnapPauseEnd tag s) s := by simp [execSnapPauseEnd]

@[simp] theorem execSnapshotDeleteRun_keepsFuses (snapshot : Nat) (s : State) : KeepsFuses (execSnapshotDeleteRun snapshot s) s := by
  simp [execSnapshotDeleteRun]

@[simp] theorem execBobbinLookup_keepsFuses (volume : BitVec 16) (grain : BitVec 36) (s : State) :
    KeepsFuses (execBobbinLookup volume grain s) s := by
  simp [execBobbinLookup]

@[simp] theorem execBobbinFillLand_keepsFuses (dpc : Fin 18) (volume : BitVec 16) (page : Nat) (sector : Fin 8) (s : State) :
    KeepsFuses (execBobbinFillLand dpc volume page sector s) s := by
  simp [execBobbinFillLand]

@[simp] theorem execMergeBufferDrain_keepsFuses (dpc : Fin 18) (s : State) : KeepsFuses (execMergeBufferDrain dpc s) s := by
  simp [execMergeBufferDrain]

@[simp] theorem execMergeDrainTimeout_keepsFuses (dpc : Fin 18) (s : State) : KeepsFuses (execMergeDrainTimeout dpc s) s := by
  unfold execMergeDrainTimeout
  split <;> simp

@[simp] theorem execKeeperConfirmReq_keepsFuses (tag : Nat) (grain : Nat) (chunk : Nat) (tenant : Nat) (fpCheck : Nat) (s : State) :
    KeepsFuses (execKeeperConfirmReq tag grain chunk tenant fpCheck s) s := by
  simp [execKeeperConfirmReq]

@[simp] theorem execKeeperConfirm_keepsFuses (cmd : Nat) (grain : Nat) (good : Bool) (s : State) :
    KeepsFuses (execKeeperConfirm cmd grain good s) s := by
  unfold execKeeperConfirm
  split
  · split <;> simp
  · simp

/-! ### `Machine/Media` -/

@[simp] theorem formRepair_fuses (s : State) (seg : Nat) (e : Chunk) : (s.formRepair seg e).fuses = s.fuses := by
  simp only [formRepair]
  split <;> simp

theorem fuses_of_moveForm {s : State} {seg : Nat} {damaged lost : List Nat} {x : Nat × Chunk} {t : State}
    (h : s.moveForm seg damaged lost x = some t) : t.fuses = s.fuses := by
  simp only [moveForm] at h
  split at h
  · rw [← Option.some.inj h, chunkLost_fuses]
  · split at h
    · rw [← Option.some.inj h, chunkLost_fuses]
    · obtain ⟨u, hu, rfl⟩ := Option.map_eq_some_iff.mp h
      rw [mediaCnt_fuses, fuses_of_packForm hu]
      split <;> simp

@[simp] theorem unitRebuilds_fuses (s : State) (seg : Nat) (l : List (Nat × Chunk)) : (s.unitRebuilds seg l).fuses = s.fuses := by
  unfold unitRebuilds
  refine foldl_fuses (fun t a => ?_) _ _
  split <;> simp

@[simp] theorem moveForms_fuses (seg : Nat) (damaged lost : List Nat) (l : List (Nat × Chunk)) (s : State) :
    (moveForms seg damaged lost l s).1.fuses = s.fuses := by
  induction l generalizing s with
  | nil => rfl
  | cons x l ih =>
    unfold moveForms
    split
    next u h => rw [ih, fuses_of_moveForm h]
    · rfl

@[simp] theorem movePages_fuses (l : List (Nat × Page)) (s : State) : (movePages l s).1.fuses = s.fuses := by
  induction l generalizing s with
  | nil => rfl
  | cons e l ih =>
    unfold movePages
    split
    next u h => rw [ih, setPage_fuses, fuses_of_mapPlace h]
    · rfl

@[simp] theorem rewriteRuns_fuses (s : State) : (s.rewriteRuns).fuses = s.fuses := by simp [rewriteRuns]

@[simp] theorem emptySegment_fuses (s : State) (id : Nat) (g : Seg) (member : Option Nat) (damaged : List Nat) (lost : List Nat) :
    (s.emptySegment id g member damaged lost).1.fuses = s.fuses := by
  unfold emptySegment
  split <;> simp

@[simp] theorem dropVictim_fuses (s : State) (v : Victim) : (s.dropVictim v).fuses = s.fuses := by simp [dropVictim]
@[simp] theorem victimTaken_fuses (s : State) (v : Victim) (g : Seg) : (s.victimTaken v g).fuses = s.fuses := by simp [victimTaken]

@[simp] theorem readLive_fuses (s : State) (seg : Nat) (member : Option Nat) : (s.readLive seg member).fuses = s.fuses := by
  unfold readLive
  split <;> simp

@[simp] theorem spendDebts_fuses (s : State) (bytes : Nat) : (s.spendDebts bytes).fuses = s.fuses := by simp [spendDebts]

@[simp] theorem collect_fuses (s : State) (damaged : List Nat) (lost : List Nat) : (s.collect damaged lost).fuses = s.fuses := by
  unfold collect
  (repeat' split) <;> simp

@[simp] theorem drain_fuses (s : State) : (s.drain).fuses = s.fuses := by simp [drain]
@[simp] theorem score_fuses (s : State) : (s.score).fuses = s.fuses := by simp [score]
@[simp] theorem armShow_fuses (s : State) : (s.armShow).fuses = s.fuses := by simp [armShow]

@[simp] theorem reserveN_fuses (area n : Nat) (s : State) : (reserveN area n s).fuses = s.fuses := by
  induction n generalizing s with
  | zero => rfl
  | succ n ih =>
    unfold reserveN
    split
    · rfl
    · split
      next h => simpa [ih] using fuses_of_openSegment h
      · rfl

@[simp] theorem reserveAreas_fuses (s : State) : (s.reserveAreas).fuses = s.fuses := by simp [reserveAreas]
@[simp] theorem resizeArea_fuses (s : State) (area : Nat) : (s.resizeArea area).fuses = s.fuses := by simp [resizeArea]
@[simp] theorem restoreAreas_fuses (s : State) : (s.restoreAreas).fuses = s.fuses := by simp [restoreAreas]

@[simp] theorem segRelease_fuses (s : State) (id : Nat) : (s.segRelease id).fuses = s.fuses := by
  unfold segRelease
  split <;> simp

@[simp] theorem sanRelease_fuses (s : State) (t : Nat) (n : Nat) : (s.sanRelease t n).fuses = s.fuses := by
  unfold sanRelease
  split <;> simp

@[simp] theorem sanProgress_fuses (s : State) (t : Nat) : (s.sanProgress t).fuses = s.fuses := by
  unfold sanProgress
  split <;> simp

@[simp] theorem sanErased_fuses (s : State) (seg : Nat) (t : Nat) : (s.sanErased seg t).fuses = s.fuses := by
  simp only [sanErased]
  split <;> simp

@[simp] theorem segFreed_fuses (s : State) (id : Nat) (g : Seg) : (s.segFreed id g).fuses = s.fuses := by
  unfold segFreed
  split
  · simp
  · split <;> simp

@[simp] theorem eraseMembers_fuses (s : State) (id : Nat) (g : Seg) : (s.eraseMembers id g).fuses = s.fuses := by simp [eraseMembers]

@[simp] theorem eraseSegment_fuses (s : State) (id : Nat) : (s.eraseSegment id).fuses = s.fuses := by
  unfold eraseSegment
  split <;> simp

theorem fuses_of_rootSlot {s : State} {slot : Nat} {a : Nat} {t : State} (h : s.rootSlot slot = some (a, t)) : t.fuses = s.fuses := by
  unfold rootSlot at h
  split at h
  · split at h
    · obtain ⟨-, rfl⟩ := Prod.mk.inj (Option.some.inj h)
      rfl
    · cases h
  · split at h
    next id u hopen =>
      obtain ⟨-, rfl⟩ := Prod.mk.inj (Option.some.inj h)
      simpa using fuses_of_openSegment hopen
    · cases h

@[simp] theorem rootWrite_fuses (s : State) (id : Nat) (r : Root) : (s.rootWrite id r).fuses = s.fuses := by simp [rootWrite]

@[simp] theorem rootErase_fuses (s : State) (slot : Nat) : (s.rootErase slot).fuses = s.fuses := by
  unfold rootErase
  split <;> simp

@[simp] theorem rootStep_fuses (s : State) : s.rootStep.fuses = s.fuses := by
  simp only [rootStep]
  split
  · simp
  · split
    · simp
    · split
      · simp
      next id s1 h => simp [fuses_of_rootSlot h]

@[simp] theorem tablesDie_fuses (s : State) (old : Option Root) (keep : List TableLoc) : (s.tablesDie old keep).fuses = s.fuses := by
  simp [tablesDie]

@[simp] theorem ckptComplete_fuses (s : State) (r : Root) (slot : Nat) : (s.ckptComplete r slot).fuses = s.fuses := by simp [ckptComplete]

@[simp] theorem ckptDone_fuses (s : State) : (s.ckptDone).fuses = s.fuses := by
  unfold ckptDone
  split <;> simp

@[simp] theorem clearEval_fuses (s : State) : (s.clearEval).fuses = s.fuses := by simp [clearEval]
@[simp] theorem capSet_fuses (s : State) (r : Nat → Nat) (bytes : Nat) : (s.capSet r bytes).fuses = s.fuses := by simp [capSet]
@[simp] theorem capacityShow_fuses (s : State) : (s.capacityShow).fuses = s.fuses := by simp [capacityShow]
@[simp] theorem capacity_fuses (s : State) : (s.capacity).fuses = s.fuses := by simp [capacity]
@[simp] theorem passBegin_fuses (s : State) : (s.passBegin).fuses = s.fuses := by simp [passBegin]
@[simp] theorem wearTest_fuses (s : State) (id : Nat) (g : Seg) : (s.wearTest id g).fuses = s.fuses := by simp [wearTest]

@[simp] theorem parityCheck_fuses (s : State) (id : Nat) (row : Nat) (g : Seg) (x : Syndrome) :
    (s.parityCheck id row g x).fuses = s.fuses := by
  unfold parityCheck
  split <;> simp

@[simp] theorem patrolShow_fuses (s : State) : (s.patrolShow).fuses = s.fuses := by simp [patrolShow]
@[simp] theorem patrolCheck_fuses (s : State) : (s.patrolCheck).fuses = s.fuses := by simp [patrolCheck]

@[simp] theorem patrolFind_fuses (s : State) (id : Nat) (row : Nat) (m : Nat) (g : Seg) (r : PatrolRead) :
    (s.patrolFind id row m g r).fuses = s.fuses := by
  simp [patrolFind]

@[simp] theorem patrol_fuses (s : State) (r : PatrolRead) : (s.patrol r).fuses = s.fuses := by
  simp only [patrol]
  (repeat' split) <;> simp

@[simp] theorem segQuery_fuses (s : State) (i : Nat) (seg : Nat) (member : Nat) : (s.segQuery i seg member).fuses = s.fuses := by
  unfold segQuery
  split
  · simp
  · split <;> simp

@[simp] theorem runsDrop_fuses (s : State) (g : Seg) (lost : List Nat) : (s.runsDrop g lost).fuses = s.fuses := by simp [runsDrop]

@[simp] theorem rebuild_fuses (s : State) (id : Nat) (lost : RebuildRead) : (s.rebuild id lost).fuses = s.fuses := by
  unfold rebuild
  split
  · simp
  · split <;> simp

@[simp] theorem rebuildPublish_fuses (s : State) : (s.rebuildPublish).fuses = s.fuses := by simp [rebuildPublish]

@[simp] theorem postRuns_fuses (tenant : Nat) (volume : Nat) (snap : Nat) (cause : Nat) (time : Nat) (chunk : Nat) (root : Nat)
    (s : State) : (postRuns tenant volume snap cause time chunk root s).fuses = s.fuses := by
  simp [postRuns]

@[simp] theorem searchLost_fuses (s : State) (x : Nat × Nat × Nat) : (s.searchLost x).fuses = s.fuses := by simp [searchLost]

@[simp] theorem searchAll_fuses (l : List (Nat × Nat × Nat)) (s : State) : (searchAll l s).fuses = s.fuses := by
  induction l generalizing s with
  | nil => rfl
  | cons x l ih =>
    unfold searchAll
    split <;> simp [ih]

@[simp] theorem execCheckpointComplete_keepsFuses (s : State) : KeepsFuses (execCheckpointComplete s) s := by simp [execCheckpointComplete]
@[simp] theorem execVictimScoring_keepsFuses (s : State) : KeepsFuses (execVictimScoring s) s := by simp [execVictimScoring]

@[simp] theorem execCollectVictim_keepsFuses (damaged : List Nat) (lost : List Nat) (s : State) :
    KeepsFuses (execCollectVictim damaged lost s) s := by
  simp [execCollectVictim]

@[simp] theorem execSegmentErase_keepsFuses (segment : Nat) (s : State) : KeepsFuses (execSegmentErase segment s) s := by
  simp [execSegmentErase]

@[simp] theorem execEraseClearReq_keepsFuses (segment : Nat) (s : State) : KeepsFuses (execEraseClearReq segment s) s := by
  simp [execEraseClearReq]

@[simp] theorem execEraseClearAns_keepsFuses (segment : Nat) (s : State) : KeepsFuses (execEraseClearAns segment s) s := by
  simp [execEraseClearAns]

@[simp] theorem execCapReport_keepsFuses (live : Nat) (metadata : Nat) (free : Nat) (reserved : Nat) (s : State) :
    KeepsFuses (execCapReport live metadata free reserved s) s := by
  simp [execCapReport]

@[simp] theorem execCapacityRecompute_keepsFuses (s : State) : KeepsFuses (execCapacityRecompute s) s := by simp [execCapacityRecompute]

@[simp] theorem execLiveDelta_keepsFuses (segment : Nat) (n : Nat) (bytes : Nat) (s : State) :
    KeepsFuses (execLiveDelta segment n bytes s) s := by
  simp [execLiveDelta]

@[simp] theorem execSegmentQuery_keepsFuses (media : Fin 2) (segment : BitVec 24) (member : BitVec 5) (s : State) :
    KeepsFuses (execSegmentQuery media segment member s) s := by
  unfold execSegmentQuery
  rw [next_keepsFuses]
  refine barWrite_fuses (fun t => ?_)
  simp

@[simp] theorem execRebuildSegment_keepsFuses (segment : Nat) (lost : RebuildRead) (s : State) :
    KeepsFuses (execRebuildSegment segment lost s) s := by
  simp [execRebuildSegment]

@[simp] theorem execRebuildStatusPublish_keepsFuses (s : State) : KeepsFuses (execRebuildStatusPublish s) s := by
  simp [execRebuildStatusPublish]

@[simp] theorem execLostExtentSearch_keepsFuses (s : State) : KeepsFuses (execLostExtentSearch s) s := by simp [execLostExtentSearch]

/-! ### `Machine/SanWork` -/

@[simp] theorem cryptoErase_fuses (s : State) (t : Nat) : (s.cryptoErase t).fuses = s.fuses := by simp [cryptoErase]

@[simp] theorem emptyVolume_fuses (s : State) (v : Nat) : (s.emptyVolume v).fuses = s.fuses := by
  unfold emptyVolume
  split <;> simp

@[simp] theorem dropReduction_fuses (s : State) (t : Nat) : (s.dropReduction t).fuses = s.fuses := by simp [dropReduction]
@[simp] theorem mapDrop_fuses (s : State) (t : Nat) : (s.mapDrop t).fuses = s.fuses := by simp [mapDrop]

@[simp] theorem blockErase_fuses (s : State) (t : Nat) : (s.blockErase t).fuses = s.fuses := by
  unfold blockErase
  split
  · simp
  · refine foldl_fuses (fun t a => ?_) _ _
    split <;> simp

@[simp] theorem sanWork_fuses (s : State) (t : Nat) (phase : Nat) : (s.sanWork t phase).fuses = s.fuses := by
  unfold sanWork
  split <;> simp

@[simp] theorem sanBegin_fuses (s : State) (t : Nat) (phase : Nat) : (s.sanBegin t phase).fuses = s.fuses := by
  simp only [sanBegin]
  split <;> simp

@[simp] theorem sanAwaited_fuses (s : State) : (s.sanAwaited).fuses = s.fuses := by
  unfold sanAwaited
  refine foldl_fuses (fun t a => ?_) _ _
  split <;> simp

/-! ### `Machine/Standby` -/

@[simp] theorem groupShow_fuses (s : State) (g : Nat) : (s.groupShow g).fuses = s.fuses := by simp [groupShow]
@[simp] theorem ownShow_fuses (s : State) : (s.ownShow).fuses = s.fuses := by simp [ownShow]

@[simp] theorem putOwner_fuses (s : State) (g : Nat) (owner : Nat) (gen : Nat) : (s.putOwner g owner gen).fuses = s.fuses := by
  simp [putOwner]

@[simp] theorem setOwners_fuses (s : State) (l : List Nat) (owner : Nat) (op : Nat) : (s.setOwners l owner op).fuses = s.fuses := by
  simp [setOwners]

@[simp] theorem memberCtl_fuses (s : State) (adds : List Nat) (drops : List Nat) : (s.memberCtl adds drops).fuses = s.fuses := by
  simp [memberCtl]

@[simp] theorem applyImage_fuses (s : State) (l : List Nat) : (s.applyImage l).1.fuses = s.fuses := by
  unfold applyImage
  split
  · simp
  · split <;> simp

@[simp] theorem applyAddr_fuses (s : State) (id : Nat) (seg : Nat) (row : Nat) (member : Nat) (pos : Nat) (applied : Nat) :
    (s.applyAddr id seg row member pos applied).fuses = s.fuses := by
  unfold applyAddr
  split <;> simp

@[simp] theorem applyChunk_fuses (s : State) (c : Nat) (st : Nat) : (s.applyChunk c st).fuses = s.fuses := by
  unfold applyChunk
  split
  · simp
  · split <;> simp

@[simp] theorem applyAlias_fuses (s : State) (a : Nat) (t : Nat) (op : Nat) : (s.applyAlias a t op).1.fuses = s.fuses := by
  unfold applyAlias
  split
  · simp
  · split <;> simp

@[simp] theorem applySnap_fuses (s : State) (op : Nat) (id : Nat) (vol : Nat) (clone : Nat) (gen : Nat) (root : Nat) (cut : Nat) :
    (s.applySnap op id vol clone gen root cut).fuses = s.fuses := by
  unfold applySnap
  split <;> simp

@[simp] theorem applyResv_fuses (s : State) (vol : Nat) (rtype : Nat) (gen : Nat) (ptpl : Nat) (holder : Nat) (regs : List Nat) :
    (s.applyResv vol rtype gen ptpl holder regs).fuses = s.fuses := by
  simp [applyResv]

@[simp] theorem dropSubsystem_fuses (s : State) (t : Nat) : (s.dropSubsystem t).fuses = s.fuses := by simp [dropSubsystem]

@[simp] theorem applyTenant_fuses (s : State) (l : List Nat) : (s.applyTenant l).fuses = s.fuses := by
  unfold applyTenant
  split <;> simp

@[simp] theorem rehome_fuses (s : State) (v : Nat) (st : Nat) (root : Nat) : (s.rehome v st root).fuses = s.fuses := by simp [rehome]

@[simp] theorem applyVolume_fuses (s : State) (l : List Nat) : (s.applyVolume l).fuses = s.fuses := by
  unfold applyVolume
  (repeat' split) <;> simp

@[simp] theorem attachChanged_fuses (s : State) (v : Nat) : (s.attachChanged v).fuses = s.fuses := by
  unfold attachChanged
  split <;> simp

@[simp] theorem applyRel_fuses (s : State) (l : List Nat) : (s.applyRel l).fuses = s.fuses := by
  unfold applyRel
  (repeat' split) <;> simp

@[simp] theorem applySan_fuses (s : State) (t : Nat) (phase : Nat) (stat : Nat) (listed : Nat) (done : Nat) (doneOther : Nat)
    (segs : List Nat) : (s.applySan t phase stat listed done doneOther segs).fuses = s.fuses := by
  unfold applySan
  (repeat' split) <;> simp

@[simp] theorem applyDict_fuses (s : State) (slot : Nat) (ver : Nat) (tenant : Nat) (vol : Nat) (len : Nat) (pieces : List Nat) :
    (s.applyDict slot ver tenant vol len pieces).fuses = s.fuses := by
  simp [applyDict]

@[simp] theorem applyPin_fuses (s : State) (v : Nat) (pinned : Bool) : (s.applyPin v pinned).fuses = s.fuses := by
  unfold applyPin
  split <;> simp

@[simp] theorem applyCtl_fuses (s : State) (c : Ctl) : (s.applyCtl c).1.fuses = s.fuses := by
  unfold applyCtl
  split <;> simp

@[simp] theorem applyCtls_fuses (s : State) (l : List Ctl) : (s.applyCtls l).1.fuses = s.fuses := by
  unfold applyCtls
  refine fuses_foldl_fst (fun b a => ?_) _ _
  simp

@[simp] theorem segSeen_fuses (s : State) (seg : Nat) (row : Nat) (type : Nat) (seq : Nat) (members : List (Nat × Nat × Nat)) :
    (s.segSeen seg row type seq members).fuses = s.fuses := by
  simp [segSeen]

@[simp] theorem recordSegs_fuses (s : State) (r : JRec) (members : List (Nat × Nat × Nat)) : (s.recordSegs r members).fuses = s.fuses := by
  simp only [recordSegs]
  rw [foldl_fuses]
  · split <;> simp
  · intro t c
    split <;> simp

@[simp] theorem takeForm_fuses (region : Nat) (r : JRec) (s : State) (f : Form) : (takeForm region r s f).fuses = s.fuses := by
  unfold takeForm
  split <;> simp

@[simp] theorem takeCount_fuses (all : Bool) (s : State) (d : Delta) : (takeCount all s d).fuses = s.fuses := by
  unfold takeCount
  split <;> simp

@[simp] theorem overlayAdd_fuses (s : State) (r : JRec) : (s.overlayAdd r).fuses = s.fuses := by simp [overlayAdd]

@[simp] theorem applyMirror_fuses (s : State) (r : JRec) : (s.applyMirror r).1.fuses = s.fuses := by
  unfold applyMirror
  (repeat' split) <;> simp

@[simp] theorem overlaySignal_fuses (s : State) : (s.overlaySignal).fuses = s.fuses := by simp [overlaySignal]

@[simp] theorem mirrorTake_fuses (s : State) (r : JRec) (members : List (Nat × Nat × Nat)) : (s.mirrorTake r members).fuses = s.fuses := by
  simp [mirrorTake]

@[simp] theorem joinEval_fuses (s : State) : (s.joinEval).fuses = s.fuses := by
  unfold joinEval
  split <;> simp

@[simp] theorem mirrorData_fuses (s : State) (r : JRec) (members : List (Nat × Nat × Nat)) (good : Bool) :
    (s.mirrorData r members good).fuses = s.fuses := by
  simp [mirrorData]

@[simp] theorem execMirrorData_keepsFuses (record : JRec) (members : List (Nat × Nat × Nat)) (good : Bool) (s : State) :
    KeepsFuses (execMirrorData record members good s) s := by
  simp [execMirrorData]

/-! ### `Machine/Lease` -/

@[simp] theorem setRole_fuses (s : State) (r : Nat) : (s.setRole r).fuses = s.fuses := by simp [setRole]
@[simp] theorem sendBudgets_fuses (s : State) : (s.sendBudgets).fuses = s.fuses := by simp [sendBudgets]
@[simp] theorem dropHosts_fuses (s : State) : (s.dropHosts).fuses = s.fuses := by simp [dropHosts]
@[simp] theorem dropPlans_fuses (s : State) (st : CtlStatus) : (s.dropPlans st).fuses = s.fuses := by simp [dropPlans]
@[simp] theorem joinTagsDone_fuses (s : State) (st : CtlStatus) : (s.joinTagsDone st).fuses = s.fuses := by simp [joinTagsDone]
@[simp] theorem dropRegions_fuses (s : State) : (s.dropRegions).fuses = s.fuses := by simp [dropRegions]
@[simp] theorem dropSnapOps_fuses (s : State) : (s.dropSnapOps).fuses = s.fuses := by simp [dropSnapOps]
@[simp] theorem dropAddresses_fuses (s : State) : (s.dropAddresses).fuses = s.fuses := by simp [dropAddresses]
@[simp] theorem dropPrograms_fuses (s : State) : (s.dropPrograms).fuses = s.fuses := by simp [dropPrograms]
@[simp] theorem fenceSelf_fuses (s : State) : (s.fenceSelf).fuses = s.fuses := by simp [fenceSelf]
@[simp] theorem moveHeld_fuses (s : State) : (s.moveHeld).fuses = s.fuses := by simp [moveHeld]
@[simp] theorem adoptSegment_fuses (s : State) (id : Nat) (g : Seg) : (s.adoptSegment id g).fuses = s.fuses := by simp [adoptSegment]
@[simp] theorem adopt_fuses (s : State) : (s.adopt).fuses = s.fuses := by simp [adopt]
@[simp] theorem flipGroups_fuses (s : State) : (s.flipGroups).fuses = s.fuses := by simp [flipGroups]

@[simp] theorem resumeOne_fuses (s : State) (id : Nat) : (s.resumeOne id).fuses = s.fuses := by
  unfold resumeOne
  split
  · simp
  · split <;> simp

@[simp] theorem resumeForwarded_fuses (s : State) : (s.resumeForwarded).fuses = s.fuses := by simp [resumeForwarded]

@[simp] theorem dropForeign_fuses (s : State) : (s.dropForeign).fuses = s.fuses := by
  unfold dropForeign
  refine foldl_fuses (fun t a => ?_) _ _
  split <;> simp

@[simp] theorem takeAddresses_fuses (s : State) : (s.takeAddresses).fuses = s.fuses := by simp [takeAddresses]
@[simp] theorem takeover_fuses (s : State) (m : LeaseMove) (won : Nat) : (s.takeover m won).fuses = s.fuses := by simp [takeover]

@[simp] theorem joinEnd_fuses (s : State) : (s.joinEnd).fuses = s.fuses := by
  unfold joinEnd
  split <;> simp

@[simp] theorem leaseWon_fuses (s : State) (m : LeaseMove) : (s.leaseWon m).fuses = s.fuses := by
  unfold leaseWon
  split <;> simp

@[simp] theorem leaseLost_fuses (s : State) (m : LeaseMove) : (s.leaseLost m).fuses = s.fuses := by simp [leaseLost]

@[simp] theorem leaseEval_fuses (s : State) : (s.leaseEval).fuses = s.fuses := by
  unfold leaseEval
  split <;> simp

@[simp] theorem leaseIssue_fuses (s : State) (cause : Nat) (st : Nat) (td : Nat) (since : Nat) :
    (s.leaseIssue cause st td since).fuses = s.fuses := by
  simp [leaseIssue]

@[simp] theorem partnerLost_fuses (s : State) (cause : Nat) (since : Nat) : (s.partnerLost cause since).fuses = s.fuses := by
  unfold partnerLost
  split
  · split <;> simp
  · split <;> simp

@[simp] theorem leaseRetry_fuses (s : State) : (s.leaseRetry).fuses = s.fuses := by
  unfold leaseRetry
  split <;> simp

@[simp] theorem wordZero_fuses (s : State) (k : Nat) (c : MqpCmd) (r : Option (Bool × Word)) : (s.wordZero k c r).fuses = s.fuses := by
  simp only [wordZero]
  (repeat' split) <;> simp

/-! ### `Machine/Holdup` -/

@[simp] theorem setDump_fuses (s : State) (area : Nat) (d : Option Dump) : (s.setDump area d).fuses = s.fuses := by simp [setDump]
@[simp] theorem gateForDump_fuses (s : State) : (s.gateForDump).fuses = s.fuses := by simp [gateForDump]
@[simp] theorem stopIntake_fuses (s : State) : (s.stopIntake).fuses = s.fuses := by simp [stopIntake]

@[simp] theorem dumpEnd_fuses (s : State) (area : Nat) (d : Dump) (result : Nat) (own : List JRec) (mir : List JRec) :
    (s.dumpEnd area d result own mir).fuses = s.fuses := by
  simp [dumpEnd]

@[simp] theorem dumpStop_fuses (s : State) (result : Nat) : (s.dumpStop result).fuses = s.fuses := by
  unfold dumpStop
  split <;> simp

@[simp] theorem dumpMedia_fuses (s : State) : (s.dumpMedia).fuses = s.fuses := by
  unfold dumpMedia
  split <;> simp

/-- What hold-up does once intake has stopped, for any choice of the dump's area. -/
theorem holdupEnter_fuses (area : State → Option Nat) (s : State) :
    (match area s with
      | some a => ({ s.setDump a (some s.dumpHeader) with jr.dumpNext := s.jr.dumpNext + 1 }.vaultStart a).armShow
      | none => { (s.setFld Reg.SELV_DUMP_STATUS_RESULT 5).setFld Reg.SELV_STATUS_HOLDUP 5 with chip.holdupDone := true } : State).fuses =
      s.fuses := by
  split
  · rw [armShow_fuses, vaultStart_fuses, fuses_mk, life_fuses, setDump_fuses]
  · rw [fuses_mk, life_fuses, setFld_fuses, setFld_fuses]

theorem holdupPrep_fuses (s : State) :
    (let s1 := (s.setBit Reg.DIKOR_STATUS_HB_OUT_ON false).sendMsg 0x0004 [s.now]
      let s2 := (if 7 ≤ s1.fld Reg.DIKOR_STATUS_LSTATE && s1.fld Reg.DIKOR_STATUS_LSTATE ≤ 8 then s1.setFld Reg.DIKOR_STATUS_LSTATE 9 else s1)
      let s3 := { { s2 with chip.holdup := true }.stopIntake with chip.holdupActive := true, chip.holdupDone := false, chip.hbOut := false }
      (s3.flushStart.gateForDump).setFld Reg.SELV_STATUS_HOLDUP 1).fuses = s.fuses := by
  simp only
  rw [setFld_fuses, gateForDump_fuses, flushStart_fuses, fuses_mk, life_fuses, stopIntake_fuses, fuses_mk, life_fuses]
  split <;> simp

/-- The kernel would run the search for the dump's area, so it stands for any function here. -/
@[simp] theorem holdupBegin_fuses (s : State) : s.holdupBegin.fuses = s.fuses := by
  obtain ⟨begin', hbegin⟩ : ∃ f, f = holdupBegin := ⟨_, rfl⟩
  rw [← hbegin]
  delta holdupBegin at hbegin
  generalize dumpArea = area at hbegin
  subst hbegin
  exact (holdupEnter_fuses area _).trans (holdupPrep_fuses s)

@[simp] theorem pwrFail_fuses (s : State) : (s.pwrFail).fuses = s.fuses := by
  simp only [pwrFail]
  (repeat' split) <;> simp

@[simp] theorem dumpDone_fuses (s : State) : s.dumpDone.fuses = s.fuses := by
  unfold dumpDone
  split
  · split
    · rw [fuses_mk, life_fuses, setFld_fuses, dumpEnd_fuses]
    · rfl
  · rfl

@[simp] theorem execPwrFailAssert_keepsFuses (s : State) : KeepsFuses (execPwrFailAssert s) s := by simp [execPwrFailAssert]
@[simp] theorem execPwrFailGlitch_keepsFuses (s : State) : KeepsFuses (execPwrFailGlitch s) s := by simp [execPwrFailGlitch]
@[simp] theorem execHoldupDumpComplete_keepsFuses (s : State) : KeepsFuses (execHoldupDumpComplete s) s := by simp [execHoldupDumpComplete]
@[simp] theorem execPwrFailRelease_keepsFuses (s : State) : KeepsFuses (execPwrFailRelease s) s := by simp [execPwrFailRelease]

/-! ### `Machine/Serve` -/

@[simp] theorem stepDone_fuses (s : State) (n : Nat) : (s.stepDone n).fuses = s.fuses := by simp [stepDone]
@[simp] theorem bootEnable_fuses (s : State) (page : Nat) : (s.bootEnable page).fuses = s.fuses := by simp [bootEnable]
@[simp] theorem serveEval_fuses (s : State) : (s.serveEval).fuses = s.fuses := by simp [serveEval]

/-! ### `Machine/Own` -/

@[simp] theorem sendBulk_fuses (s : State) (r : JRec) : (s.sendBulk r).fuses = s.fuses := by simp [sendBulk]
@[simp] theorem joinSend_fuses (s : State) : (s.joinSend).fuses = s.fuses := by simp [joinSend]
@[simp] theorem joinServe_fuses (s : State) : (s.joinServe).fuses = s.fuses := by simp [joinServe]
@[simp] theorem dropDumps_fuses (s : State) : (s.dropDumps).fuses = s.fuses := by simp [dropDumps]
@[simp] theorem joinBegin_fuses (s : State) : (s.joinBegin).fuses = s.fuses := by simp [joinBegin]
@[simp] theorem coldBegin_fuses (s : State) : (s.coldBegin).fuses = s.fuses := by simp [coldBegin]

@[simp] theorem coldEval_fuses (s : State) : (s.coldEval).fuses = s.fuses := by
  unfold coldEval
  split <;> simp

@[simp] theorem joinDone_fuses (s : State) : (s.joinDone).fuses = s.fuses := by
  unfold joinDone
  split <;> simp

@[simp] theorem joinOrphan_fuses (s : State) : (s.joinOrphan).fuses = s.fuses := by
  unfold joinOrphan
  split <;> simp

@[simp] theorem readWords_fuses (s : State) (word : Nat) : (s.readWords word).fuses = s.fuses := by simp [readWords]

@[simp] theorem indPaired_fuses (s : State) : (s.indPaired).fuses = s.fuses := by
  unfold indPaired
  split <;> simp

@[simp] theorem indDead_fuses (s : State) (since : Nat) : (s.indDead since).fuses = s.fuses := by
  unfold indDead
  split <;> simp

@[simp] theorem indLink_fuses (s : State) : (s.indLink).fuses = s.fuses := by
  unfold indLink
  split <;> simp

@[simp] theorem indicate_fuses (s : State) (since : Nat) : (s.indicate since).fuses = s.fuses := by simp [indicate]
@[simp] theorem renewAt_fuses (s : State) (k : Nat) : (s.renewAt k).fuses = s.fuses := by simp [renewAt]
@[simp] theorem soloDecide_fuses (s : State) : (s.soloDecide).fuses = s.fuses := by simp [soloDecide]
@[simp] theorem soloCheck_fuses (s : State) : (s.soloCheck).fuses = s.fuses := by simp [soloCheck]

@[simp] theorem countWord_fuses (s : State) (k : Nat) (c : MqpCmd) (r : Option (Bool × Word)) : (s.countWord k c r).fuses = s.fuses := by
  unfold countWord
  split <;> simp

@[simp] theorem askedDone_fuses (s : State) (k : Nat) : (s.askedDone k).fuses = s.fuses := by simp [askedDone]

@[simp] theorem leaseWordAnswer_fuses (s : State) (k : Nat) (c : MqpCmd) (r : Option (Bool × Word)) :
    (s.leaseWordAnswer k c r).fuses = s.fuses := by
  simp [leaseWordAnswer]

@[simp] theorem auditSend_fuses (s : State) (first : Nat) (n : Nat) : (s.auditSend first n).fuses = s.fuses := by simp [auditSend]

@[simp] theorem audit_fuses (s : State) : (s.audit).fuses = s.fuses := by
  simp only [audit]
  split
  · simp
  · split <;> simp

@[simp] theorem auditRepair_fuses (s : State) (seq : Nat) (ownGood : Bool) (mirrorGood : Bool) :
    (s.auditRepair seq ownGood mirrorGood).fuses = s.fuses := by
  unfold auditRepair
  split <;> simp

@[simp] theorem auditDigest_fuses (s : State) (first : Nat) (n : Nat) (digest : Word256) (answer : Bool) (ownGood : Bool)
    (mirrorGood : Bool) : (s.auditDigest first n digest answer ownGood mirrorGood).fuses = s.fuses := by
  simp only [auditDigest]
  (repeat' split) <;> simp

@[simp] theorem mirrorFetch_fuses (s : State) (i : FetchItem) : (s.mirrorFetch i).fuses = s.fuses := by
  unfold mirrorFetch
  (repeat' split) <;> simp

@[simp] theorem formGone_fuses (s : State) (k : Nat) : (s.formGone k).fuses = s.fuses := by simp [formGone]
@[simp] theorem damageAsk_fuses (s : State) (k : Nat) : (s.damageAsk k).fuses = s.fuses := by simp [damageAsk]
@[simp] theorem damageStep_fuses (s : State) : (s.damageStep).fuses = s.fuses := by simp [damageStep]

@[simp] theorem mirrorCopy_fuses (s : State) (i : CopyItem) : (s.mirrorCopy i).fuses = s.fuses := by
  unfold mirrorCopy
  (repeat' split) <;> simp

@[simp] theorem swapAbort_fuses (s : State) (g : Nat) (cause : Nat) (tell : Bool) : (s.swapAbort g cause tell).fuses = s.fuses := by
  unfold swapAbort
  split <;> simp

@[simp] theorem quadAbort_fuses (s : State) : (s.quadAbort).fuses = s.fuses := by
  unfold quadAbort
  split <;> simp

@[simp] theorem swapFault_fuses (s : State) : (s.swapFault).fuses = s.fuses := by
  unfold swapFault
  split <;> simp

@[simp] theorem swapStart_fuses (s : State) (g : Nat) (tag : Option Nat) : (s.swapStart g tag).fuses = s.fuses := by simp [swapStart]

@[simp] theorem swapNext_fuses (s : State) : (s.swapNext).fuses = s.fuses := by
  unfold swapNext
  split <;> simp

@[simp] theorem swapPeriod_fuses (s : State) : (s.swapPeriod).fuses = s.fuses := by simp [swapPeriod]

@[simp] theorem batonOffer_fuses (s : State) (g : Nat) (gen : Nat) (bh : Nat) : (s.batonOffer g gen bh).fuses = s.fuses := by
  simp [batonOffer]

@[simp] theorem batonAccept_fuses (s : State) (g : Nat) (bh : Nat) : (s.batonAccept g bh).fuses = s.fuses := by
  unfold batonAccept
  split <;> simp

@[simp] theorem batonHandover_fuses (s : State) (g : Nat) : (s.batonHandover g).fuses = s.fuses := by
  unfold batonHandover
  split <;> simp

@[simp] theorem batonCommit_fuses (s : State) (g : Nat) (gen : Nat) (bh : Nat) : (s.batonCommit g gen bh).fuses = s.fuses := by
  unfold batonCommit
  split <;> simp

@[simp] theorem fwdCmd_fuses (s : State) (c : FwdCmd) (st : Standby) : (s.fwdCmd c st).fuses = s.fuses := by
  unfold fwdCmd
  (repeat' split) <;> simp

@[simp] theorem fwdData_fuses (s : State) (tag : Nat) (off : Nat) (data : Bytes) (toOwner : Bool) :
    (s.fwdData tag off data toOwner).fuses = s.fuses := by
  unfold fwdData
  (repeat' split) <;> simp

@[simp] theorem reSubmit_fuses (s : State) (id : Nat) (st : Standby) : (s.reSubmit id st).fuses = s.fuses := by
  unfold reSubmit
  split
  · simp
  · split <;> simp

@[simp] theorem fwdCpl_fuses (s : State) (tag : Nat) (sct : Nat) (sc : Nat) (delay : Nat) (redirect : Bool) (st : Standby) :
    (s.fwdCpl tag sct sc delay redirect st).fuses = s.fuses := by
  unfold fwdCpl
  (repeat' split) <;> simp

@[simp] theorem execFence_keepsFuses (n : Word) (s : State) : KeepsFuses (execFence n s) s := by simp [execFence]
@[simp] theorem execLeaseRenewal_keepsFuses (s : State) : KeepsFuses (execLeaseRenewal s) s := by simp [execLeaseRenewal]

@[simp] theorem execJoinStart_keepsFuses (s0 : Nat) (tail : Nat) (s : State) : KeepsFuses (execJoinStart s0 tail s) s := by
  unfold execJoinStart
  split <;> simp

@[simp] theorem execBulk_keepsFuses (record : JRec) (members : List (Nat × Nat × Nat)) (s : State) :
    KeepsFuses (execBulk record members s) s := by
  unfold execBulk
  split <;> simp

@[simp] theorem execJoinReady_keepsFuses (held : Nat) (s : State) : KeepsFuses (execJoinReady held s) s := by
  unfold execJoinReady
  split <;> simp

@[simp] theorem execMirrorAudit_keepsFuses (s : State) : KeepsFuses (execMirrorAudit s) s := by simp [execMirrorAudit]

@[simp] theorem execAuditDigest_keepsFuses (first : Nat) (records : Nat) (digest : Word256) (answer : Bool) (ownGood : Bool)
    (mirrorGood : Bool) (s : State) : KeepsFuses (execAuditDigest first records digest answer ownGood mirrorGood s) s := by
  simp [execAuditDigest]

@[simp] theorem execMirrorFetch_keepsFuses (item : FetchItem) (s : State) : KeepsFuses (execMirrorFetch item s) s := by
  simp [execMirrorFetch]

@[simp] theorem execMirrorCopy_keepsFuses (item : CopyItem) (s : State) : KeepsFuses (execMirrorCopy item s) s := by simp [execMirrorCopy]
@[simp] theorem execOwnDigest_keepsFuses (crc : BitVec 32) (s : State) : KeepsFuses (execOwnDigest crc s) s := by simp [execOwnDigest]
@[simp] theorem execGroupSwapPeriod_keepsFuses (s : State) : KeepsFuses (execGroupSwapPeriod s) s := by simp [execGroupSwapPeriod]

@[simp] theorem execBatonOffer_keepsFuses (group : BitVec 8) (gen : BitVec 32) (handover : Nat) (s : State) :
    KeepsFuses (execBatonOffer group gen handover s) s := by
  simp [execBatonOffer]

@[simp] theorem execBatonAccept_keepsFuses (group : BitVec 8) (handover : Nat) (s : State) :
    KeepsFuses (execBatonAccept group handover s) s := by
  simp [execBatonAccept]

@[simp] theorem execBatonAbort_keepsFuses (group : BitVec 8) (cause : BitVec 8) (s : State) :
    KeepsFuses (execBatonAbort group cause s) s := by
  simp [execBatonAbort]

@[simp] theorem execBatonAnswerTimeout_keepsFuses (group : BitVec 8) (s : State) : KeepsFuses (execBatonAnswerTimeout group s) s := by
  unfold execBatonAnswerTimeout
  split <;> simp

@[simp] theorem execBatonHandover_keepsFuses (group : BitVec 8) (s : State) : KeepsFuses (execBatonHandover group s) s := by
  simp [execBatonHandover]

@[simp] theorem execBatonCommit_keepsFuses (group : BitVec 8) (gen : BitVec 32) (handover : Nat) (s : State) :
    KeepsFuses (execBatonCommit group gen handover s) s := by
  simp [execBatonCommit]

@[simp] theorem execFwdCmd_keepsFuses (cmd : FwdCmd) (standby : Standby) (s : State) : KeepsFuses (execFwdCmd cmd standby s) s := by
  simp [execFwdCmd]

@[simp] theorem execFwdData_keepsFuses (tag : Nat) (off : Nat) (data : Bytes) (toOwner : Bool) (s : State) :
    KeepsFuses (execFwdData tag off data toOwner s) s := by
  simp [execFwdData]

@[simp] theorem execFwdCpl_keepsFuses (tag : Nat) (sct : Nat) (sc : Nat) (delay : Nat) (redirect : Bool) (standby : Standby) (s : State) :
    KeepsFuses (execFwdCpl tag sct sc delay redirect standby s) s := by
  simp [execFwdCpl]

/-! ### `Machine/Dikor` -/

@[simp] theorem dkReplay_fuses (s : State) : (s.dkReplay).fuses = s.fuses := by
  unfold dkReplay
  split <;> simp

@[simp] theorem dkAck_fuses (s : State) (ack : Nat) : (s.dkAck ack).fuses = s.fuses := by
  unfold dkAck
  split <;> simp

@[simp] theorem dkCredit_fuses (s : State) (c : Nat) (total : Nat) : (s.dkCredit c total).fuses = s.fuses := by simp [dkCredit]
@[simp] theorem dkNakSet_fuses (s : State) : (s.dkNakSet).fuses = s.fuses := by simp [dkNakSet]
@[simp] theorem dkData_fuses (s : State) (f : Flit) : (s.dkData f).fuses = s.fuses := by simp [dkData]
@[simp] theorem flitIn_fuses (s : State) (f : Flit) : (s.flitIn f).fuses = s.fuses := by simp [flitIn]
@[simp] theorem setLink_fuses (s : State) (st : Nat) : (s.setLink st).fuses = s.fuses := by simp [setLink]
@[simp] theorem setMask_fuses (s : State) (m : Nat) : (s.setMask m).fuses = s.fuses := by simp [setMask]
@[simp] theorem hbEval_fuses (s : State) : (s.hbEval).fuses = s.fuses := by simp [hbEval]
@[simp] theorem trainStart_fuses (s : State) : (s.trainStart).fuses = s.fuses := by simp [trainStart]
@[simp] theorem linkDown_fuses (s : State) : (s.linkDown).fuses = s.fuses := by simp [linkDown]
@[simp] theorem quadLost_fuses (s : State) (q : Nat) : (s.quadLost q).fuses = s.fuses := by simp [quadLost]
@[simp] theorem widthSet_fuses (s : State) (mask : Nat) : (s.widthSet mask).fuses = s.fuses := by simp [widthSet]
@[simp] theorem quadReturn_fuses (s : State) (q : Nat) : (s.quadReturn q).fuses = s.fuses := by simp [quadReturn]
@[simp] theorem quadDrop_fuses (s : State) : (s.quadDrop).fuses = s.fuses := by simp [quadDrop]

@[simp] theorem quadTurn_fuses (s : State) : (s.quadTurn).fuses = s.fuses := by
  unfold quadTurn
  split
  · simp
  · split <;> simp

@[simp] theorem sendIdentity_fuses (s : State) : (s.sendIdentity).fuses = s.fuses := by simp [sendIdentity]
@[simp] theorem linkIsUp_fuses (s : State) : (s.linkIsUp).fuses = s.fuses := by simp [linkIsUp]

@[simp] theorem trainDone_fuses (s : State) (quads : Nat) : (s.trainDone quads).fuses = s.fuses := by
  unfold trainDone
  split
  · simp
  · split <;> simp

@[simp] theorem enterAbsent_fuses (s : State) : (s.enterAbsent).fuses = s.fuses := by simp [enterAbsent]
@[simp] theorem trainFail_fuses (s : State) : (s.trainFail).fuses = s.fuses := by simp [trainFail]
@[simp] theorem timeStep_fuses (s : State) (t : Nat) : (s.timeStep t).fuses = s.fuses := by simp [timeStep]

@[simp] theorem identity_fuses (s : State) (d : DkIdentity) : (s.identity d).fuses = s.fuses := by
  simp only [identity]
  split
  · simp
  · split <;> simp

@[simp] theorem indexCheck_fuses (s : State) : (s.indexCheck).fuses = s.fuses := by
  unfold indexCheck
  split <;> simp

@[simp] theorem syncSend_fuses (s : State) : (s.syncSend).fuses = s.fuses := by simp [syncSend]
@[simp] theorem syncFlit_fuses (s : State) (sent : Nat) (skew : BitVec 32) : (s.syncFlit sent skew).fuses = s.fuses := by simp [syncFlit]
@[simp] theorem execFlitReceive_keepsFuses (flit : Flit) (s : State) : KeepsFuses (execFlitReceive flit s) s := by simp [execFlitReceive]

@[simp] theorem execSyncFlit_keepsFuses (sent : Nat) (skew : BitVec 32) (s : State) : KeepsFuses (execSyncFlit sent skew s) s := by
  simp [execSyncFlit]

@[simp] theorem execNakRepeat_keepsFuses (s : State) : KeepsFuses (execNakRepeat s) s := by simp [execNakRepeat]
@[simp] theorem execReplayTimeout_keepsFuses (s : State) : KeepsFuses (execReplayTimeout s) s := by simp [execReplayTimeout]

@[simp] theorem execReplayLimitQuadDrop_keepsFuses (errors : List Nat) (s : State) : KeepsFuses (execReplayLimitQuadDrop errors s) s := by
  unfold execReplayLimitQuadDrop
  split
  · split <;> simp
  · simp

@[simp] theorem execQuadLoss_keepsFuses (quad : Fin 6) (s : State) : KeepsFuses (execQuadLoss quad s) s := by simp [execQuadLoss]

@[simp] theorem execWidthOrderedSet_keepsFuses (mask : BitVec 6) (s : State) : KeepsFuses (execWidthOrderedSet mask s) s := by
  simp [execWidthOrderedSet]

@[simp] theorem execQuadReturn_keepsFuses (quad : Fin 6) (s : State) : KeepsFuses (execQuadReturn quad s) s := by simp [execQuadReturn]
@[simp] theorem execTrainingAttempt_keepsFuses (s : State) : KeepsFuses (execTrainingAttempt s) s := by simp [execTrainingAttempt]

@[simp] theorem execTrainingStateComplete_keepsFuses (quads : BitVec 6) (s : State) : KeepsFuses (execTrainingStateComplete quads s) s := by
  simp [execTrainingStateComplete]

@[simp] theorem execTrainingAttemptTimeout_keepsFuses (s : State) : KeepsFuses (execTrainingAttemptTimeout s) s := by
  simp [execTrainingAttemptTimeout]

@[simp] theorem execPartnerPresentChange_keepsFuses (present : Bool) (s : State) : KeepsFuses (execPartnerPresentChange present s) s := by
  simp [execPartnerPresentChange]

@[simp] theorem execPartnerAbsentTimeout_keepsFuses (s : State) : KeepsFuses (execPartnerAbsentTimeout s) s := by
  simp [execPartnerAbsentTimeout]

@[simp] theorem execLinkRetryTimer_keepsFuses (s : State) : KeepsFuses (execLinkRetryTimer s) s := by simp [execLinkRetryTimer]
@[simp] theorem execAbsentRetryTimer_keepsFuses (s : State) : KeepsFuses (execAbsentRetryTimer s) s := by simp [execAbsentRetryTimer]
@[simp] theorem execPartnerWaitExpiry_keepsFuses (s : State) : KeepsFuses (execPartnerWaitExpiry s) s := by simp [execPartnerWaitExpiry]
@[simp] theorem execSoloBootRecheck_keepsFuses (s : State) : KeepsFuses (execSoloBootRecheck s) s := by simp [execSoloBootRecheck]
@[simp] theorem execIdentity_keepsFuses (id : DkIdentity) (s : State) : KeepsFuses (execIdentity id s) s := by simp [execIdentity]

@[simp] theorem execHeartbeatLoss_keepsFuses (edge : Nat) (flits : Bool) (s : State) : KeepsFuses (execHeartbeatLoss edge flits s) s := by
  simp [execHeartbeatLoss]

@[simp] theorem execHeartbeatRestored_keepsFuses (s : State) : KeepsFuses (execHeartbeatRestored s) s := by simp [execHeartbeatRestored]
@[simp] theorem execHoldup_keepsFuses (s : State) : KeepsFuses (execHoldup s) s := by simp [execHoldup]

/-! ### `Machine/Modules` -/

@[simp] theorem pwrenEval_fuses (s : State) (k : Nat) : (s.pwrenEval k).fuses = s.fuses := by simp [pwrenEval]
@[simp] theorem svcEnter_fuses (s : State) (k : Nat) (st : Nat) : (s.svcEnter k st).fuses = s.fuses := by simp [svcEnter]
@[simp] theorem linkOff_fuses (s : State) (k : Nat) : (s.linkOff k).fuses = s.fuses := by simp [linkOff]

@[simp] theorem moduleGone_fuses (s : State) (k : Nat) (st : Nat) : (s.moduleGone k st).fuses = s.fuses := by
  simp only [moduleGone]
  split
  · split <;> simp
  · split <;> simp

@[simp] theorem moduleOut_fuses (s : State) (k : Nat) (st : Nat) : (s.moduleOut k st).fuses = s.fuses := by simp [moduleOut]
@[simp] theorem nonConform_fuses (s : State) (k : Nat) (cause : Nat) : (s.nonConform k cause).fuses = s.fuses := by simp [nonConform]
@[simp] theorem portGone_fuses (s : State) (k : Nat) : (s.portGone k).fuses = s.fuses := by simp [portGone]
@[simp] theorem portLost_fuses (s : State) (k : Nat) : (s.portLost k).fuses = s.fuses := by simp [portLost]
@[simp] theorem slotEmpty_fuses (s : State) (k : Nat) : (s.slotEmpty k).fuses = s.fuses := by simp [slotEmpty]
@[simp] theorem powerSlot_fuses (s : State) (k : Nat) : (s.powerSlot k).fuses = s.fuses := by simp [powerSlot]
@[simp] theorem slotCtlEval_fuses (s : State) (k : Nat) : (s.slotCtlEval k).fuses = s.fuses := by simp [slotCtlEval]
@[simp] theorem presenceSet_fuses (s : State) (k : Nat) (here : Bool) : (s.presenceSet k here).fuses = s.fuses := by simp [presenceSet]
@[simp] theorem goodSet_fuses (s : State) (k : Nat) (good : Bool) : (s.goodSet k good).fuses = s.fuses := by simp [goodSet]
@[simp] theorem faultSet_fuses (s : State) (k : Nat) (bad : Bool) : (s.faultSet k bad).fuses = s.fuses := by simp [faultSet]
@[simp] theorem slotIn_fuses (s : State) (k : Nat) (b : BitVec 8) : (s.slotIn k b).fuses = s.fuses := by simp [slotIn]
@[simp] theorem chainMark_fuses (s : State) (marker : BitVec 8) : (s.chainMark marker).fuses = s.fuses := by simp [chainMark]

@[simp] theorem chainFrame_fuses (s : State) (inputs : List (BitVec 8)) (marker : BitVec 8) :
    (s.chainFrame inputs marker).fuses = s.fuses := by
  simp [chainFrame]

@[simp] theorem geomAsk_fuses (s : State) (k : Nat) : (s.geomAsk k).fuses = s.fuses := by simp [geomAsk]
@[simp] theorem claimAsk_fuses (s : State) (k : Nat) : (s.claimAsk k).fuses = s.fuses := by simp [claimAsk]
@[simp] theorem leaseAsk_fuses (s : State) (k : Nat) : (s.leaseAsk k).fuses = s.fuses := by simp [leaseAsk]
@[simp] theorem stepNine_fuses (s : State) (k : Nat) : (s.stepNine k).fuses = s.fuses := by simp [stepNine]
@[simp] theorem enterService_fuses (s : State) (k : Nat) : (s.enterService k).fuses = s.fuses := by simp [enterService]

@[simp] theorem tagIssue_fuses (k n : Nat) (s : State) : (tagIssue k n s).fuses = s.fuses := by
  induction n generalizing s with
  | zero => rfl
  | succ n ih =>
    simp only [tagIssue]
    split
    · rfl
    · split <;> simp [ih]

@[simp] theorem stepTen_fuses (s : State) (k : Nat) : (s.stepTen k).fuses = s.fuses := by simp [stepTen]
@[simp] theorem nineEval_fuses (s : State) (k : Nat) : (s.nineEval k).fuses = s.fuses := by simp [nineEval]
@[simp] theorem claimed_fuses (s : State) (k : Nat) (yes : Bool) : (s.claimed k yes).fuses = s.fuses := by simp [claimed]
@[simp] theorem memberMove_fuses (s : State) (k : Nat) (m : Nat) : (s.memberMove k m).fuses = s.fuses := by simp [memberMove]
@[simp] theorem wordThree_fuses (s : State) (k : Nat) (prior : Word) : (s.wordThree k prior).fuses = s.fuses := by simp [wordThree]

@[simp] theorem arrayAnswer_fuses (s : State) (k : Nat) (c : MqpCmd) (ok : Bool) (prior : Word) :
    (s.arrayAnswer k c ok prior).fuses = s.fuses := by
  simp [arrayAnswer]

@[simp] theorem leaseAnswer_fuses (s : State) (k : Nat) (c : MqpCmd) (ok : Bool) (prior : Word) :
    (s.leaseAnswer k c ok prior).fuses = s.fuses := by
  simp only [leaseAnswer]
  split <;> simp

@[simp] theorem tagSegment_fuses (s : State) (k : Nat) (d : Nat) (b : Nat) (t : TagInfo) : (s.tagSegment k d b t).fuses = s.fuses := by
  unfold tagSegment
  split <;> simp

@[simp] theorem tagResult_fuses (s : State) (k : Nat) (d : Nat) (b : Nat) (erased : Bool) (tag : Option TagInfo) :
    (s.tagResult k d b erased tag).fuses = s.fuses := by
  unfold tagResult
  split
  · simp
  · split <;> simp

@[simp] theorem rootRow_fuses (s : State) (k : Nat) (c : MqpCmd) (tag : Option TagInfo) : (s.rootRow k c tag).fuses = s.fuses := by
  unfold rootRow
  split <;> simp

@[simp] theorem tagDone_fuses (s : State) (k : Nat) (c : MqpCmd) (erased : Bool) (tag : Option TagInfo) :
    (s.tagDone k c erased tag).fuses = s.fuses := by
  unfold tagDone
  split <;> simp

@[simp] theorem tagNext_fuses (s : State) (k : Nat) : (s.tagNext k).fuses = s.fuses := by simp [tagNext]

theorem withCmd_fuses {s : State} {done : MqpDone} {f : MqpCmd → State → State} (hf : ∀ c t, (f c t).fuses = t.fuses) :
    (s.withCmd done f).fuses = s.fuses := by
  simp only [withCmd]
  split
  · rfl
  · split
    · simp
    · split
      · simp
      · split
        · simp
        · simp [hf]

@[simp] theorem overrun_fuses (s : State) (k : Nat) (duration : Nat) (limit : Nat) : (s.overrun k duration limit).fuses = s.fuses := by
  simp [overrun]

@[simp] theorem readFailed_fuses (s : State) (k : Nat) (c : MqpCmd) : (s.readFailed k c).fuses = s.fuses := by
  simp only [readFailed]
  split
  · split
    · rfl
    · split
      · rfl
      · rw [foldl_fuses]
        · split <;> simp
        · intro t g
          split
          · rfl
          · split <;> simp
  · split <;> simp
  · rfl

@[simp] theorem readGood_fuses (s : State) (c : MqpCmd) : (s.readGood c).fuses = s.fuses := by
  simp only [readGood]
  (repeat' split) <;> simp

@[simp] theorem readDone_fuses (s : State) (done : MqpDone) (duration : Nat) : (s.readDone done duration).fuses = s.fuses := by
  unfold readDone
  split
  · refine withCmd_fuses (fun c t => ?_)
    simp
  · split
    · refine withCmd_fuses (fun c t => ?_)
      simp
    · split
      · refine withCmd_fuses (fun c t => ?_)
        simp
      · refine withCmd_fuses (fun c t => ?_)
        simp

@[simp] theorem retireBlock_fuses (s : State) (k : Nat) (d : Nat) (b : Nat) : (s.retireBlock k d b).fuses = s.fuses := by simp [retireBlock]
@[simp] theorem fencedBy_fuses (s : State) (k : Nat) : (s.fencedBy k).fuses = s.fuses := by simp [fencedBy]

@[simp] theorem programEnd_fuses (s : State) (k : Nat) (c : MqpCmd) (ok : Bool) (retire : Bool) :
    (s.programEnd k c ok retire).fuses = s.fuses := by
  simp only [programEnd]
  (repeat' split) <;> simp

@[simp] theorem programDone_fuses (s : State) (done : MqpDone) (duration : Nat) : (s.programDone done duration).fuses = s.fuses := by
  unfold programDone
  split
  · refine withCmd_fuses (fun c t => ?_)
    simp
  · refine withCmd_fuses (fun c t => ?_)
    simp
  · refine withCmd_fuses (fun c t => ?_)
    simp
  · refine withCmd_fuses (fun c t => ?_)
    simp
  · refine withCmd_fuses (fun c t => ?_)
    simp

@[simp] theorem eraseEnd_fuses (s : State) (k : Nat) (c : MqpCmd) (ok : Bool) : (s.eraseEnd k c ok).fuses = s.fuses := by
  simp only [eraseEnd]
  split
  · split <;> simp
  · simp

@[simp] theorem eraseDone_fuses (s : State) (done : MqpDone) (duration : Nat) : (s.eraseDone done duration).fuses = s.fuses := by
  unfold eraseDone
  split
  · refine withCmd_fuses (fun c t => ?_)
    simp
  · refine withCmd_fuses (fun c t => ?_)
    simp
  · refine withCmd_fuses (fun c t => ?_)
    simp
  · refine withCmd_fuses (fun c t => ?_)
    simp
  · refine withCmd_fuses (fun c t => ?_)
    simp

@[simp] theorem geomFailed_fuses (s : State) (k : Nat) : (s.geomFailed k).fuses = s.fuses := by simp [geomFailed]

@[simp] theorem geomDone_fuses (s : State) (done : MqpDone) (g : Geometry) : (s.geomDone done g).fuses = s.fuses := by
  unfold geomDone
  split
  · refine withCmd_fuses (fun c t => ?_)
    simp
  · split
    · refine withCmd_fuses (fun c t => ?_)
      simp
    · refine withCmd_fuses (fun c t => ?_)
      simp

@[simp] theorem defectsDone_fuses (s : State) (done : MqpDone) (bad : List (BitVec 16)) : (s.defectsDone done bad).fuses = s.fuses := by
  unfold defectsDone
  split
  · refine withCmd_fuses (fun c t => ?_)
    simp
  · refine withCmd_fuses (fun c t => ?_)
    simp

@[simp] theorem healthDone_fuses (s : State) (done : MqpDone) (h : Health) : (s.healthDone done h).fuses = s.fuses := by
  unfold healthDone
  split
  · refine withCmd_fuses (fun c t => ?_)
    simp
  · refine withCmd_fuses (fun c t => ?_)
    simp

@[simp] theorem claimEval_fuses (s : State) : (s.claimEval).fuses = s.fuses := by
  unfold claimEval
  split <;> simp

@[simp] theorem claimAnswer7_fuses (s : State) (k : Nat) (c : MqpCmd) (ok : Bool) (prior : Word) :
    (s.claimAnswer7 k c ok prior).fuses = s.fuses := by
  simp [claimAnswer7]

@[simp] theorem casAnswer_fuses (s : State) (k : Nat) (c : MqpCmd) (ok : Bool) (prior : Word) :
    (s.casAnswer k c ok prior).fuses = s.fuses := by
  unfold casAnswer
  split <;> simp

@[simp] theorem casDone_fuses (s : State) (done : MqpDone) (prior : Word) : (s.casDone done prior).fuses = s.fuses := by
  unfold casDone
  split
  · refine withCmd_fuses (fun c t => ?_)
    simp
  · refine withCmd_fuses (fun c t => ?_)
    simp

@[simp] theorem timeout_fuses (s : State) (k : Nat) (q : Nat) (cid : Nat) : (s.timeout k q cid).fuses = s.fuses := by
  unfold timeout
  (repeat' split) <;> simp

@[simp] theorem evacuate_fuses (s : State) (k : Nat) : (s.evacuate k).fuses = s.fuses := by simp [evacuate]
@[simp] theorem adoptModule_fuses (s : State) (k : Nat) : (s.adoptModule k).fuses = s.fuses := by simp [adoptModule]

@[simp] theorem execSlotChainFrame_keepsFuses (inputs : List (BitVec 8)) (marker : BitVec 8) (s : State) :
    KeepsFuses (execSlotChainFrame inputs marker s) s := by
  simp [execSlotChainFrame]

@[simp] theorem execAttentionButton_keepsFuses (slot : Fin 64) (s : State) : KeepsFuses (execAttentionButton slot s) s := by
  simp [execAttentionButton]

@[simp] theorem execPowerControllerControl_keepsFuses (port : Fin 64) (off : Bool) (s : State) :
    KeepsFuses (execPowerControllerControl port off s) s := by
  unfold execPowerControllerControl
  rw [next_keepsFuses]
  refine barWrite_fuses (fun t => ?_)
  simp

@[simp] theorem execIndicatorControl_keepsFuses (port : Fin 64) (attention : BitVec 2) (power : BitVec 2) (s : State) :
    KeepsFuses (execIndicatorControl port attention power s) s := by
  unfold execIndicatorControl
  rw [next_keepsFuses]
  refine barWrite_fuses (fun t => ?_)
  simp

@[simp] theorem execPoweringTimeout_keepsFuses (port : Fin 64) (s : State) : KeepsFuses (execPoweringTimeout port s) s := by
  simp [execPoweringTimeout]

@[simp] theorem execPerstReleaseDelay_keepsFuses (port : Fin 64) (s : State) : KeepsFuses (execPerstReleaseDelay port s) s := by
  simp [execPerstReleaseDelay]

@[simp] theorem execModuleLinkTrained_keepsFuses (port : Fin 64) (rate64 : Bool) (wide : Bool) (flit : Bool) (s : State) :
    KeepsFuses (execModuleLinkTrained port rate64 wide flit s) s := by
  simp [execModuleLinkTrained]

@[simp] theorem execModuleLinkTimeout_keepsFuses (port : Fin 64) (s : State) : KeepsFuses (execModuleLinkTimeout port s) s := by
  simp [execModuleLinkTimeout]

@[simp] theorem execMqpReady_keepsFuses (port : Fin 64) (s : State) : KeepsFuses (execMqpReady port s) s := by simp [execMqpReady]

@[simp] theorem execModuleInitTimeout_keepsFuses (port : Fin 64) (s : State) : KeepsFuses (execModuleInitTimeout port s) s := by
  simp [execModuleInitTimeout]

@[simp] theorem execModuleEvacuated_keepsFuses (port : Fin 64) (s : State) : KeepsFuses (execModuleEvacuated port s) s := by
  simp [execModuleEvacuated]

@[simp] theorem execModulePortLoss_keepsFuses (port : Fin 64) (cause : PortLoss) (s : State) :
    KeepsFuses (execModulePortLoss port cause s) s := by
  simp [execModulePortLoss]

@[simp] theorem execReadUnitComplete_keepsFuses (done : MqpDone) (duration : Nat) (s : State) :
    KeepsFuses (execReadUnitComplete done duration s) s := by
  simp [execReadUnitComplete]

@[simp] theorem execReadTagComplete_keepsFuses (done : MqpDone) (duration : Nat) (tag : Option TagInfo) (s : State) :
    KeepsFuses (execReadTagComplete done duration tag s) s := by
  unfold execReadTagComplete
  split
  · rw [next_keepsFuses]
    refine withCmd_fuses (fun c t => ?_)
    simp
  · rw [next_keepsFuses]
    refine withCmd_fuses (fun c t => ?_)
    simp

@[simp] theorem execPatrolUnit_keepsFuses (result : PatrolRead) (s : State) : KeepsFuses (execPatrolUnit result s) s := by
  unfold execPatrolUnit
  split <;> simp

@[simp] theorem execProgramUnitComplete_keepsFuses (done : MqpDone) (duration : Nat) (s : State) :
    KeepsFuses (execProgramUnitComplete done duration s) s := by
  simp [execProgramUnitComplete]

@[simp] theorem execEraseBlockComplete_keepsFuses (done : MqpDone) (duration : Nat) (s : State) :
    KeepsFuses (execEraseBlockComplete done duration s) s := by
  simp [execEraseBlockComplete]

@[simp] theorem execGetGeometryComplete_keepsFuses (done : MqpDone) (geometry : Geometry) (s : State) :
    KeepsFuses (execGetGeometryComplete done geometry s) s := by
  simp [execGetGeometryComplete]

@[simp] theorem execGetDefectsComplete_keepsFuses (done : MqpDone) (bad : List (BitVec 16)) (s : State) :
    KeepsFuses (execGetDefectsComplete done bad s) s := by
  simp [execGetDefectsComplete]

@[simp] theorem execGetHealthComplete_keepsFuses (done : MqpDone) (health : Health) (s : State) :
    KeepsFuses (execGetHealthComplete done health s) s := by
  simp [execGetHealthComplete]

@[simp] theorem execSetPowerBudgetComplete_keepsFuses (done : MqpDone) (s : State) : KeepsFuses (execSetPowerBudgetComplete done s) s := by
  unfold execSetPowerBudgetComplete
  split
  · rw [next_keepsFuses]
    refine withCmd_fuses (fun c t => ?_)
    simp
  · rw [next_keepsFuses]
    refine withCmd_fuses (fun c t => ?_)
    simp

@[simp] theorem execSuspendPolicyComplete_keepsFuses (done : MqpDone) (s : State) : KeepsFuses (execSuspendPolicyComplete done s) s := by
  unfold execSuspendPolicyComplete
  split
  · rw [next_keepsFuses]
    refine withCmd_fuses (fun c t => ?_)
    simp
  · rw [next_keepsFuses]
    refine withCmd_fuses (fun c t => ?_)
    simp

@[simp] theorem execArbCasComplete_keepsFuses (done : MqpDone) (prior : Word) (s : State) :
    KeepsFuses (execArbCasComplete done prior s) s := by
  simp [execArbCasComplete]

@[simp] theorem execMqpCommandTimeout_keepsFuses (port : Fin 64) (queue : Fin 16) (cid : BitVec 16) (s : State) :
    KeepsFuses (execMqpCommandTimeout port queue cid s) s := by
  simp [execMqpCommandTimeout]

@[simp] theorem execLateRead_keepsFuses (port : Fin 64) (queue : Fin 16) (cid : BitVec 16) (s : State) :
    KeepsFuses (execLateRead port queue cid s) s := by
  unfold execLateRead
  rw [next_keepsFuses]
  split <;> simp

@[simp] theorem execArbCasReissue_keepsFuses (port : Fin 64) (s : State) : KeepsFuses (execArbCasReissue port s) s := by
  simp only [execArbCasReissue]
  split <;> simp

@[simp] theorem execParityEngineFault_keepsFuses (engine : Fin 4) (s : State) : KeepsFuses (execParityEngineFault engine s) s := by
  simp [execParityEngineFault]

/-! ### `Machine/Sanitize` -/

@[simp] theorem sanPhase_fuses (s : State) (t : Nat) (phase : Nat) : (s.sanPhase t phase).fuses = s.fuses := by
  simp only [sanPhase]
  split <;> simp

@[simp] theorem tenantGone_fuses (s : State) (t : Nat) : (s.tenantGone t).fuses = s.fuses := by
  unfold tenantGone
  split
  · simp
  · split <;> simp

@[simp] theorem sanComplete_fuses (s : State) (t : Nat) : (s.sanComplete t).fuses = s.fuses := by
  simp only [sanComplete]
  split <;> simp

@[simp] theorem sanFail_fuses (s : State) (t : Nat) : (s.sanFail t).fuses = s.fuses := by
  simp only [sanFail]
  split
  · simp
  · split <;> simp

@[simp] theorem sanPhaseDone_fuses (s : State) (t : Nat) (failed : Bool) : (s.sanPhaseDone t failed).fuses = s.fuses := by
  unfold sanPhaseDone
  split <;> simp

@[simp] theorem sanStep_fuses (s : State) (t : Nat) (phase : Nat) (op : Nat) (erased : Nat) (seq : Nat) :
    (s.sanStep t phase op erased seq).fuses = s.fuses := by
  unfold sanStep
  (repeat' split) <;> simp

@[simp] theorem sanResume_fuses (s : State) : (s.sanResume).fuses = s.fuses := by simp [sanResume]

@[simp] theorem formatDone_fuses (s : State) (v : Nat) : (s.formatDone v).fuses = s.fuses := by
  unfold formatDone
  (repeat' split) <;> simp

@[simp] theorem kcvSend_fuses (s : State) : (s.kcvSend).fuses = s.fuses := by simp [kcvSend]
@[simp] theorem kcvCompare_fuses (s : State) : (s.kcvCompare).fuses = s.fuses := by simp [kcvCompare]
@[simp] theorem kcvList_fuses (s : State) (l : List KcvEntry) (last : Bool) : (s.kcvList l last).fuses = s.fuses := by simp [kcvList]

@[simp] theorem execFormatMapRootCommit_keepsFuses (volume : BitVec 16) (s : State) : KeepsFuses (execFormatMapRootCommit volume s) s := by
  simp [execFormatMapRootCommit]

@[simp] theorem execSanitizePhaseComplete_keepsFuses (tenant : BitVec 12) (failed : Bool) (s : State) :
    KeepsFuses (execSanitizePhaseComplete tenant failed s) s := by
  simp [execSanitizePhaseComplete]

@[simp] theorem execSanitizeStep_keepsFuses (tenant : BitVec 12) (phase : Fin 8) (op : Fin 4) (erased : Nat) (seq : Nat) (s : State) :
    KeepsFuses (execSanitizeStep tenant phase op erased seq s) s := by
  simp [execSanitizeStep]

@[simp] theorem execKcvList_keepsFuses (entries : List KcvEntry) (last : Bool) (s : State) : KeepsFuses (execKcvList entries last s) s := by
  simp [execKcvList]

@[simp] theorem execKcvExchangeTimer_keepsFuses (s : State) : KeepsFuses (execKcvExchangeTimer s) s := by simp [execKcvExchangeTimer]

/-! ### `Machine/Replay` -/

@[simp] theorem loadCopy_fuses (s : State) (c : MapCopy) : (s.loadCopy c).fuses = s.fuses := by simp [loadCopy]

@[simp] theorem loadChunk_fuses (region : Nat) (r : JRec) (s : State) (d : Delta) : (loadChunk region r s d).fuses = s.fuses := by
  unfold loadChunk
  split
  · split <;> simp
  · simp

@[simp] theorem loadRec_fuses (s : State) (region : Nat) (counts : Bool) (r : JRec) : (s.loadRec region counts r).1.fuses = s.fuses := by
  simp only [loadRec]
  split
  · simp
  · split <;> simp
  · split
    · simp
    · rw [fuses_foldl_fst fun b d => by simp]
      simp

@[simp] theorem lowerOnce_fuses (s : State) (c : Nat) : (s.lowerOnce c).fuses = s.fuses := by
  unfold lowerOnce
  split <;> simp

@[simp] theorem loadJournals_fuses (s : State) (l : List (Nat × JRec)) (counts : Nat → JRec → Bool) :
    (s.loadJournals l counts).fuses = s.fuses := by
  simp only [loadJournals]
  rw [foldl_fuses, fuses_foldl_fst fun b r => by simp]
  intro t p
  (repeat' split) <;> simp

@[simp] theorem takeGroup_fuses (c : MapCopy) (s : State) (g : Nat) : (takeGroup c s g).fuses = s.fuses := by simp [takeGroup]
@[simp] theorem dropGroup_fuses (s : State) (g : Nat) : (s.dropGroup g).fuses = s.fuses := by simp [dropGroup]

@[simp] theorem rootEntry_fuses (s : State) (c : Ctl) : (s.rootEntry c).fuses = s.fuses := by
  unfold rootEntry
  split <;> simp

@[simp] theorem loadImages_fuses (s : State) (x : RootsRead) : (s.loadImages x).fuses = s.fuses := by
  simp only [loadImages]
  split
  · refine foldl_fuses (fun t a => ?_) _ _
    split <;> simp
  · refine foldl_fuses (fun t a => ?_) _ _
    split <;> simp

@[simp] theorem recountSegs_fuses (s : State) : (s.recountSegs).fuses = s.fuses := by simp [recountSegs]

@[simp] theorem loadIndex_fuses (s : State) : (s.loadIndex).fuses = s.fuses := by
  unfold loadIndex
  refine foldl_fuses (fun t a => ?_) _ _
  simp

@[simp] theorem gaugesShow_fuses (s : State) : (s.gaugesShow).fuses = s.fuses := by simp [gaugesShow]

@[simp] theorem seqBase_fuses (s : State) : (s.seqBase).fuses = s.fuses := by
  unfold seqBase
  split <;> simp

@[simp] theorem loadRoots_fuses (s0 : State) (x : RootsRead) : (s0.loadRoots x).fuses = s0.fuses := by simp [loadRoots]

@[simp] theorem replayForm_fuses (region : Nat) (r : JRec) (s : State) (f : Form) : (replayForm region r s f).fuses = s.fuses := by
  unfold replayForm
  split <;> simp

@[simp] theorem replayRec_fuses (region : Nat) (a : State × Nat × Nat) (r : JRec) : (replayRec region a r).1.fuses = a.1.fuses := by
  have hload (p : Prop) [Decidable p] (l : List Nat) (y : State × List Nat) (hy : y.1.fuses = a.1.fuses) :
      (if p then (r.forms.foldl (replayForm region r) a.1, l) else y).1.fuses = a.1.fuses := by
    split
    · simp
    · exact hy
  simp only [replayRec, apply_ite (fun x : State × Nat × Nat => x.1.fuses), fuses_mk, life_fuses]
  refine (ite_congr rfl (fun _ => rfl) fun _ => ?_).trans (ite_self _)
  refine (ite_congr rfl (fun _ => rfl) fun _ => ?_).trans (ite_self _)
  rw [apply_ite fuses, fuses_mk, fuses_mk, life_fuses, ite_self, blocksWrite_fuses]
  refine hload _ _ _ ?_
  split
  · simp
  · split <;> simp
  · simp

@[simp] theorem replayRegion_fuses (region : Nat) (a : State × Nat × Nat) : (replayRegion region a).1.fuses = a.1.fuses :=
  fuses_foldl_fst (fun b r => replayRec_fuses region b r) _ _

@[simp] theorem scanRow_fuses (s : State) (x : ScanRow) : (s.scanRow x).fuses = s.fuses := by
  simp only [scanRow]
  split
  · simp
  · refine foldl_fuses (fun t a => ?_) _ _
    split <;> simp

@[simp] theorem journalLost_fuses (s : State) (regions : List Nat) (scan : List ScanRow) :
    (s.journalLost regions scan).fuses = s.fuses := by
  simp [journalLost]

@[simp] theorem replay_fuses (s : State) (mirror lost : Bool) (scan : List ScanRow) : (s.replay mirror lost scan).fuses = s.fuses := by
  simp only [replay, journalStep_fuses, packWaiting_fuses, selvShow_fuses, gaugesShow_fuses, recountSegs_fuses, rebuildPools_fuses]
  generalize h1 : (if (mirror && !s.dumps.isEmpty) = true then _ else _ : State) = s1
  have hs1 : s1.fuses = s.fuses := by
    rw [← h1]
    split <;> simp
  generalize hm : (if mirror = true then replayRegion 1 (s1, 0, 0) else (s1, 0, 0)) = m
  have hsm : m.1.fuses = s.fuses := by
    rw [← hm]
    split <;> simp [hs1]
  generalize ha : (if (mirror || s.dumpWhole 0) = true then replayRegion 0 m else m) = a
  have hsa : a.1.fuses = s.fuses := by
    rw [← ha]
    split <;> simp [hsm]
  split <;> simp [hsa]

@[simp] theorem eraseArea_fuses (s : State) (area : Nat) : (s.eraseArea area).fuses = s.fuses := by simp [eraseArea]

@[simp] theorem dumpConsume_fuses (s : State) (area : Nat) : (s.dumpConsume area).fuses = s.fuses := by
  unfold dumpConsume
  split <;> simp

@[simp] theorem execDumpConsumed_keepsFuses (area : Fin 2) (s : State) : KeepsFuses (execDumpConsumed area s) s := by
  simp [execDumpConsumed]

/-! ### `Machine/Boot` -/

@[simp] theorem chipReset_fuses (s0 : State) : (s0.chipReset).fuses = s0.fuses := by simp [chipReset]
@[simp] theorem romStart_fuses (s : State) (pins : BitVec 2) (rtc : Nat) : (s.romStart pins rtc).fuses = s.fuses := by simp [romStart]
@[simp] theorem rtcNow_fuses (s : State) : (s.rtcNow).2.fuses = s.fuses := by simp [rtcNow]

@[simp] theorem lifeResume_fuses (s : State) : (s.lifeResume).fuses = s.fuses := by
  unfold lifeResume
  split <;> simp

@[simp] theorem domainsOn_fuses (s : State) (l : List Nat) : (s.domainsOn l).fuses = s.fuses := by simp [domainsOn]
@[simp] theorem loopsOn_fuses (s : State) : (s.loopsOn).fuses = s.fuses := by simp [loopsOn]
@[simp] theorem mainStart_fuses (s : State) (deckOk : Bool) : (s.mainStart deckOk).fuses = s.fuses := by simp [mainStart]

@[simp] theorem mainEval_fuses (s : State) : (s.mainEval).fuses = s.fuses := by
  unfold mainEval
  split
  · split <;> simp
  · simp

@[simp] theorem mainGood_fuses (s : State) (deckOk : Bool) : (s.mainGood deckOk).fuses = s.fuses := by simp [mainGood]
@[simp] theorem stepShow_fuses (s : State) : (s.stepShow).fuses = s.fuses := by simp [stepShow]
@[simp] theorem updateGoesOn_fuses (s : State) (i : Image) : (s.updateGoesOn i).fuses = s.fuses := by simp [updateGoesOn]
@[simp] theorem imageRuns_fuses (s : State) (toB : Bool) (i : Image) : (s.imageRuns toB i).fuses = s.fuses := by simp [imageRuns]

@[simp] theorem imageLoaded_fuses (s : State) (flipM : Bool) (flipN : Bool) : (s.imageLoaded flipM flipN).fuses = s.fuses := by
  simp only [imageLoaded]
  split
  · simp
  · split <;> simp

@[simp] theorem dramTrain_fuses (s : State) (failed : List Nat) (size : Nat) (rate : Nat) :
    (s.dramTrain failed size rate).fuses = s.fuses := by
  simp [dramTrain]

@[simp] theorem dramInit_fuses (s : State) : (s.dramInit).fuses = s.fuses := by simp [dramInit]

@[simp] theorem svcImage_fuses (s : State) (flipM : Bool) (flipN : Bool) : (s.svcImage flipM flipN).fuses = s.fuses := by
  unfold svcImage
  split
  · simp
  · split <;> simp

@[simp] theorem portsReady_fuses (s : State) : (s.portsReady).fuses = s.fuses := by simp [portsReady]
@[simp] theorem loomEval_fuses (s : State) : (s.loomEval).fuses = s.fuses := by simp [loomEval]
@[simp] theorem dpcStart_fuses (s : State) : (s.dpcStart).fuses = s.fuses := by simp [dpcStart]
@[simp] theorem membersNow_fuses (s : State) : (s.membersNow).fuses = s.fuses := by simp [membersNow]
@[simp] theorem rootsLoaded_fuses (s : State) (partner : RootsRead) : (s.rootsLoaded partner).fuses = s.fuses := by simp [rootsLoaded]
@[simp] theorem dropUnkept_fuses (s : State) : (s.dropUnkept).fuses = s.fuses := by simp [dropUnkept]

@[simp] theorem replayDone_fuses (s : State) (partnerMissing : Bool) (scan : List ScanRow) :
    (s.replayDone partnerMissing scan).fuses = s.fuses := by
  simp only [replayDone]
  split
  · simp
  · split <;> simp

@[simp] theorem rolesKept_fuses (s : State) (t : State) : (s.rolesKept t).fuses = t.fuses := by simp [rolesKept]
@[simp] theorem mainLoss_fuses (s0 : State) : (s0.mainLoss).fuses = s0.fuses := by simp [mainLoss]
@[simp] theorem execStandbyPowerLoss_keepsFuses (s : State) : KeepsFuses (execStandbyPowerLoss s) s := by simp [execStandbyPowerLoss]
@[simp] theorem execStandbyPowerGood_keepsFuses (s : State) : KeepsFuses (execStandbyPowerGood s) s := by simp [execStandbyPowerGood]
@[simp] theorem execChipResetAssert_keepsFuses (s : State) : KeepsFuses (execChipResetAssert s) s := by simp [execChipResetAssert]

@[simp] theorem execChipResetRelease_keepsFuses (boot : BitVec 2) (rtc : Nat) (s : State) :
    KeepsFuses (execChipResetRelease boot rtc s) s := by
  simp [execChipResetRelease]

@[simp] theorem execMgmtImageLoaded_keepsFuses (flipM : Bool) (flipN : Bool) (s : State) :
    KeepsFuses (execMgmtImageLoaded flipM flipN s) s := by
  simp [execMgmtImageLoaded]

@[simp] theorem execMainPowerGood_keepsFuses (deckOk : Bool) (s : State) : KeepsFuses (execMainPowerGood deckOk s) s := by
  simp [execMainPowerGood]

@[simp] theorem execDramTrainingDone_keepsFuses (failed : List (Fin 16)) (sizeGib : Nat) (rateMts : Nat) (s : State) :
    KeepsFuses (execDramTrainingDone failed sizeGib rateMts s) s := by
  simp [execDramTrainingDone]

@[simp] theorem execDramInitDone_keepsFuses (s : State) : KeepsFuses (execDramInitDone s) s := by simp [execDramInitDone]

@[simp] theorem execSvcImageLoaded_keepsFuses (flipM : Bool) (flipN : Bool) (s : State) :
    KeepsFuses (execSvcImageLoaded flipM flipN s) s := by
  simp [execSvcImageLoaded]

@[simp] theorem execModulePortsReady_keepsFuses (s : State) : KeepsFuses (execModulePortsReady s) s := by simp [execModulePortsReady]

@[simp] theorem execCheckpointRootsLoaded_keepsFuses (partner : RootsRead) (s : State) :
    KeepsFuses (execCheckpointRootsLoaded partner s) s := by
  simp [execCheckpointRootsLoaded]

@[simp] theorem execJournalReplayDone_keepsFuses (partnerMissing : Bool) (scan : List ScanRow) (s : State) :
    KeepsFuses (execJournalReplayDone partnerMissing scan s) s := by
  simp [execJournalReplayDone]

@[simp] theorem execMainPowerLoss_keepsFuses (s : State) : KeepsFuses (execMainPowerLoss s) s := by simp [execMainPowerLoss]
@[simp] theorem execHoldupSelfReset_keepsFuses (s : State) : KeepsFuses (execHoldupSelfReset s) s := by simp [execHoldupSelfReset]

/-! ### `Machine/Control` -/

@[simp] theorem commitCopy_fuses (s : State) (page : Nat) : (s.commitCopy page).fuses = s.fuses := by simp [commitCopy]
@[simp] theorem commitTake_fuses (s : State) (page : Nat) : (s.commitTake page).fuses = s.fuses := by simp [commitTake]
@[simp] theorem commitDrop_fuses (s : State) (page : Nat) (bit : Nat) : (s.commitDrop page bit).fuses = s.fuses := by simp [commitDrop]

@[simp] theorem commitPair_fuses (s : State) (p0 : Nat) (p1 : Nat) : (s.commitPair p0 p1).1.fuses = s.fuses := by
  unfold commitPair
  (repeat' split) <;> simp

@[simp] theorem commitLoom_fuses (s : State) : (s.commitLoom).fuses = s.fuses := by simp [commitLoom]
@[simp] theorem commitReed_fuses (s : State) : (s.commitReed).fuses = s.fuses := by simp [commitReed]
@[simp] theorem resizeDump_fuses (s : State) : (s.resizeDump).fuses = s.fuses := by simp [resizeDump]
@[simp] theorem packExtents_fuses (s : State) : (s.packExtents).fuses = s.fuses := by simp [packExtents]

@[simp] theorem sizesApply_fuses (s : State) : (s.sizesApply).fuses = s.fuses := by
  simp only [sizesApply]
  split
  · split <;> simp
  · split <;> simp

@[simp] theorem commitSelv_fuses (s : State) : (s.commitSelv).fuses = s.fuses := by simp [commitSelv]
@[simp] theorem modePair_fuses (s : State) (q : Nat) : (s.modePair q).fuses = s.fuses := by simp [modePair]
@[simp] theorem commitEthp_fuses (s : State) (page : Nat) : (s.commitEthp page).fuses = s.fuses := by simp [commitEthp]
@[simp] theorem commitHeddle_fuses (s : State) : (s.commitHeddle).fuses = s.fuses := by simp [commitHeddle]
@[simp] theorem commitMapx_fuses (s : State) : (s.commitMapx).fuses = s.fuses := by simp [commitMapx]
@[simp] theorem commitDikor_fuses (s : State) : (s.commitDikor).fuses = s.fuses := by simp [commitDikor]
@[simp] theorem commitTrace_fuses (s : State) : (s.commitTrace).fuses = s.fuses := by simp [commitTrace]
@[simp] theorem commitMedia_fuses (s : State) : (s.commitMedia).fuses = s.fuses := by simp [commitMedia]

@[simp] theorem commitApply_fuses (s : State) (page : Nat) : (s.commitApply page).fuses = s.fuses := by
  unfold commitApply
  split
  · simp
  · split <;> simp

@[simp] theorem commitAsk_fuses (s : State) (page : Nat) : (s.commitAsk page).fuses = s.fuses := by simp [commitAsk]
@[simp] theorem portsOut_fuses (s : State) (page : Nat) : (s.portsOut page).fuses = s.fuses := by simp [portsOut]

@[simp] theorem enter_fuses (s : State) (page : Nat) (st : Nat) : (s.enter page st).fuses = s.fuses := by
  unfold enter
  split
  · split <;> simp
  · simp

@[simp] theorem drainedEval_fuses (s : State) (page : Nat) : (s.drainedEval page).fuses = s.fuses := by simp [drainedEval]
@[simp] theorem ctrlEvents_fuses (s : State) (page : Nat) : (s.ctrlEvents page).fuses = s.fuses := by simp [ctrlEvents]

@[simp] theorem ctrlFields_fuses (s : State) (b : BlockInfo) (page : Nat) (w : Word) : (s.ctrlFields b page w).fuses = s.fuses := by
  simp [ctrlFields]

@[simp] theorem ctrlEffect_fuses (s : State) (b : BlockInfo) (page : Nat) (w : Word) : (s.ctrlEffect b page w).fuses = s.fuses := by
  simp [ctrlEffect]

@[simp] theorem ctrlWrite_fuses (s : State) (page : Nat) (w : Word) : (s.ctrlWrite page w).fuses = s.fuses := by
  unfold ctrlWrite
  split
  · simp
  · split
    · simp
    · split
      · simp
      · refine barWrite_fuses (fun t => ?_)
        simp

@[simp] theorem resetTables_fuses (s : State) (page : Nat) : (s.resetTables page).fuses = s.fuses := by
  unfold resetTables
  split
  · simp
  · split <;> simp

@[simp] theorem softDone_fuses (s : State) (page : Nat) : (s.softDone page).fuses = s.fuses := by
  unfold softDone
  split
  · simp
  · split <;> simp

theorem after_fuses {s : State} {o : Out} (h : KeepsFuses o s) : (s.after o).fuses = s.fuses := by
  obtain ⟨t, rfl, ht⟩ := h
  exact ht

@[simp] theorem ringSizeWrite_fuses (s : State) (a : Nat) (v : Word) : (s.ringSizeWrite a v).fuses = s.fuses := by
  unfold ringSizeWrite
  split
  · simp
  · split
    · split
      · simp
      · exact after_fuses (execRingEnable_keepsFuses _ _ _ _)
    · split
      · rw [setReg_fuses, after_fuses (execRingDisable_keepsFuses _ _)]
      · simp

@[simp] theorem iResetWrites_fuses (s : State) : (s.iResetWrites).fuses = s.fuses := by simp [iResetWrites]

@[simp] theorem regHook_fuses (s : State) (page : Nat) (a : Nat) : (s.regHook page a).fuses = s.fuses := by
  unfold regHook
  split
  · split <;> simp
  · simp

@[simp] theorem timeStepWrite_fuses (s : State) (ns : Word) : (s.timeStepWrite ns).fuses = s.fuses := by
  unfold timeStepWrite
  refine barWrite_fuses (fun t => ?_)
  simp

@[simp] theorem blockWrite_fuses (s : State) (a : Nat) (page : Nat) (r : RegDesc) (w : Word) :
    (s.blockWrite a page r w).fuses = s.fuses := by
  simp only [blockWrite]
  split <;> simp

@[simp] theorem headerWrite_fuses (s : State) (page : Nat) (off : Nat) (w : Word) : (s.headerWrite page off w).fuses = s.fuses := by
  simp [headerWrite]

@[simp] theorem regWrite_fuses (s : State) (addr : Nat) (bytes : Nat) (w : Word) : (s.regWrite addr bytes w).fuses = s.fuses := by
  simp only [regWrite]
  (repeat' split) <;> simp

@[simp] theorem goodRead_fuses (s : State) (addr : Nat) (bytes : Nat) : (s.goodRead addr bytes).fuses = s.fuses := by
  unfold goodRead
  split
  · simp
  · split <;> simp

@[simp] theorem zeroRead_fuses (s : State) (addr : Nat) (size32 : Bool) (c : AccessCause) : (s.zeroRead addr size32 c).fuses = s.fuses := by
  simp [zeroRead]

@[simp] theorem badRead_fuses (s : State) (addr : Nat) (bytes : Nat) : (s.badRead addr bytes).fuses = s.fuses := by simp [badRead]

@[simp] theorem rawWrite_fuses (s : State) (page : Nat) (w : Word) : (s.rawWrite page w).fuses = s.fuses := by
  unfold rawWrite
  split
  · simp
  · split
    · simp
    · split
      · simp
      · refine barWrite_fuses (fun t => ?_)
        simp

@[simp] theorem timeMove_fuses (s : State) (old : Nat) (new : Nat) : (s.timeMove old new).fuses = s.fuses := by simp [timeMove]

@[simp] theorem execRegisterWrite_keepsFuses (addr : BitVec 29) (bytes : Nat) (value : Word) (s : State) :
    KeepsFuses (execRegisterWrite addr bytes value s) s := by
  simp [execRegisterWrite]

@[simp] theorem execDiscardedRead_keepsFuses (addr : BitVec 29) (bytes : Nat) (s : State) :
    KeepsFuses (execDiscardedRead addr bytes s) s := by
  simp [execDiscardedRead]

@[simp] theorem execBlkEnable_keepsFuses (page : BitVec 13) (value : Word) (s : State) : KeepsFuses (execBlkEnable page value s) s := by
  simp [execBlkEnable]

@[simp] theorem execBlkDisable_keepsFuses (page : BitVec 13) (value : Word) (s : State) : KeepsFuses (execBlkDisable page value s) s := by
  simp [execBlkDisable]

@[simp] theorem execBlkDrain_keepsFuses (page : BitVec 13) (value : Word) (s : State) : KeepsFuses (execBlkDrain page value s) s := by
  simp [execBlkDrain]

@[simp] theorem execSoftReset_keepsFuses (page : BitVec 13) (value : Word) (s : State) : KeepsFuses (execSoftReset page value s) s := by
  simp [execSoftReset]

@[simp] theorem execSoftResetDone_keepsFuses (page : BitVec 13) (s : State) : KeepsFuses (execSoftResetDone page s) s := by
  simp [execSoftResetDone]

@[simp] theorem execBlkCommit_keepsFuses (page : BitVec 13) (value : Word) (s : State) : KeepsFuses (execBlkCommit page value s) s := by
  simp [execBlkCommit]

@[simp] theorem execBlkCommitApply_keepsFuses (page : BitVec 13) (s : State) : KeepsFuses (execBlkCommitApply page s) s := by
  simp [execBlkCommitApply]

@[simp] theorem execInitComplete_keepsFuses (page : BitVec 13) (s : State) : KeepsFuses (execInitComplete page s) s := by
  simp [execInitComplete]

@[simp] theorem execDrainComplete_keepsFuses (page : BitVec 13) (s : State) : KeepsFuses (execDrainComplete page s) s := by
  simp [execDrainComplete]

@[simp] theorem execIntRawClear_keepsFuses (page : BitVec 13) (value : Word) (s : State) : KeepsFuses (execIntRawClear page value s) s := by
  simp [execIntRawClear]

@[simp] theorem execAccessErrRearm_keepsFuses (value : Word) (s : State) : KeepsFuses (execAccessErrRearm value s) s := by
  simp [execAccessErrRearm]

@[simp] theorem execAccessErrCntClear_keepsFuses (value : Word) (s : State) : KeepsFuses (execAccessErrCntClear value s) s := by
  simp [execAccessErrCntClear]

@[simp] theorem execTimeStep_keepsFuses (ns : Word) (s : State) : KeepsFuses (execTimeStep ns s) s := by simp [execTimeStep]
@[simp] theorem execTimeNowLowRead_keepsFuses (s : State) : KeepsFuses (execTimeNowLowRead s) s := by simp [execTimeNowLowRead]
@[simp] theorem execTimeLocked_keepsFuses (s : State) : KeepsFuses (execTimeLocked s) s := by simp [execTimeLocked]
@[simp] theorem execTimeSourceLost_keepsFuses (s : State) : KeepsFuses (execTimeSourceLost s) s := by simp [execTimeSourceLost]
@[simp] theorem execTimeSourceReturn_keepsFuses (s : State) : KeepsFuses (execTimeSourceReturn s) s := by simp [execTimeSourceReturn]
@[simp] theorem execPpsInEdge_keepsFuses (s : State) : KeepsFuses (execPpsInEdge s) s := by simp [execPpsInEdge]
@[simp] theorem execPpsOutPulse_keepsFuses (s : State) : KeepsFuses (execPpsOutPulse s) s := by simp [execPpsOutPulse]

/-! ### `Machine/Failures` -/

@[simp] theorem headOut_fuses (s : State) : (s.headOut).fuses = s.fuses := by simp [headOut]
@[simp] theorem loomFault_fuses (s : State) (i : Nat) : (s.loomFault i).fuses = s.fuses := by simp [loomFault]
@[simp] theorem mediaFault_fuses (s : State) (i : Nat) : (s.mediaFault i).fuses = s.fuses := by simp [mediaFault]
@[simp] theorem dpcGrainsBack_fuses (s : State) (n : Nat) : (s.dpcGrainsBack n).fuses = s.fuses := by simp [dpcGrainsBack]

@[simp] theorem dpcFault_fuses (s : State) (n : Nat) : (s.dpcFault n).fuses = s.fuses := by
  simp only [dpcFault]
  split
  · simp
  · split <;> simp

@[simp] theorem coreFault_fuses (s : State) (c : Nat) : (s.coreFault c).fuses = s.fuses := by simp [coreFault]

@[simp] theorem dramFault_fuses (s : State) (i : Nat) (pages : List Nat) (chunks : List Nat) :
    (s.dramFault i pages chunks).fuses = s.fuses := by
  simp [dramFault]

@[simp] theorem channelFault_fuses (s : State) (i : Nat) : (s.channelFault i).fuses = s.fuses := by simp [channelFault]
@[simp] theorem portFault_fuses (s : State) (p : Nat) : (s.portFault p).fuses = s.fuses := by simp [portFault]

@[simp] theorem blockFault_fuses (s : State) (page : Nat) : (s.blockFault page).fuses = s.fuses := by
  unfold blockFault
  (repeat' split) <;> simp

@[simp] theorem clockLost_fuses (s : State) (d : Nat) : (s.clockLost d).fuses = s.fuses := by simp [clockLost]
@[simp] theorem subIdle_fuses (s : State) (d : Nat) : (s.subIdle d).fuses = s.fuses := by simp [subIdle]
@[simp] theorem execBlockFault_keepsFuses (page : BitVec 13) (s : State) : KeepsFuses (execBlockFault page s) s := by simp [execBlockFault]

@[simp] theorem execFailedWorkMoved_keepsFuses (page : BitVec 13) (s : State) : KeepsFuses (execFailedWorkMoved page s) s := by
  simp [execFailedWorkMoved]

@[simp] theorem execDpcFailure_keepsFuses (dpc : Fin 18) (s : State) : KeepsFuses (execDpcFailure dpc s) s := by simp [execDpcFailure]

@[simp] theorem execLoomSelfCheckFail_keepsFuses (loom : Fin 2) (s : State) : KeepsFuses (execLoomSelfCheckFail loom s) s := by
  simp [execLoomSelfCheckFail]

@[simp] theorem execMediaFailover_keepsFuses (s : State) : KeepsFuses (execMediaFailover s) s := by simp [execMediaFailover]

@[simp] theorem execFrontEndPortLoss_keepsFuses (port : Fin 64) (s : State) : KeepsFuses (execFrontEndPortLoss port s) s := by
  simp [execFrontEndPortLoss]

@[simp] theorem execDramChannelFail_keepsFuses (channel : Fin 16) (pages : List Nat) (chunks : List Nat) (s : State) :
    KeepsFuses (execDramChannelFail channel pages chunks s) s := by
  simp [execDramChannelFail]

@[simp] theorem execCoreWatchdogExpiry_keepsFuses (core : Fin 16) (s : State) : KeepsFuses (execCoreWatchdogExpiry core s) s := by
  simp [execCoreWatchdogExpiry]

@[simp] theorem execCoreFault_keepsFuses (core : Fin 16) (s : State) : KeepsFuses (execCoreFault core s) s := by simp [execCoreFault]
@[simp] theorem execClockLoss_keepsFuses (domain : Fin 41) (s : State) : KeepsFuses (execClockLoss domain s) s := by simp [execClockLoss]
@[simp] theorem execHardwareTrip_keepsFuses (s : State) : KeepsFuses (execHardwareTrip s) s := by simp [execHardwareTrip]

@[simp] theorem execSubdomainIdle_keepsFuses (dom : Fin 183) (s : State) : KeepsFuses (execSubdomainIdle dom s) s := by
  simp [execSubdomainIdle]

/-! ### `Machine/LifeCycle` -/

@[simp] theorem pageOff_fuses (s : State) (p : Nat) : (s.pageOff p).fuses = s.fuses := by simp [pageOff]
@[simp] theorem dataOff_fuses (s : State) : (s.dataOff).fuses = s.fuses := by simp [dataOff]

@[simp] theorem lifeCommitted_fuses (s : State) : s.lifeCommitted.fuses = s.fuses := by
  simp only [lifeCommitted]
  generalize h2 : State.setFld _ Reg.MGMT_BOOT_STATUS_MODE _ = s2
  have hs2 : s2.fuses = s.fuses := by
    rw [← h2, setFld_fuses, setBit_fuses, senseFuses_fuses, fuses_mk, lifeFuses_mk, fuses_eta]
  generalize h3 : (if (decide (s2.lifeState = 3) && s2.chip.steps.contains 5) = true then s2.dataOff else s2) = s3
  have hs3 : s3.fuses = s.fuses := by
    rw [← h3]
    split <;> simp [hs2]
  split
  · rw [fatalEnter_fuses, closeAdmin_fuses, hs2]
  · split
    · rw [mainEval_fuses, stepDone_fuses, hs3]
    · exact hs3

@[simp] theorem intentNext_fuses (s : State) (cell : Nat) (ok : Bool) : (s.intentNext cell ok).fuses = s.fuses := by simp [intentNext]

@[simp] theorem commitNext_fuses (s : State) (cell : Nat) (retries : Nat) (ok : Bool) : (s.commitNext cell retries ok).fuses = s.fuses := by
  simp [commitNext]

@[simp] theorem coreReload_fuses (s : State) (c : Nat) : (s.coreReload c).fuses = s.fuses := by
  unfold coreReload
  split <;> simp

@[simp] theorem compsApply_fuses (s : State) : (s.compsApply).fuses = s.fuses := by
  unfold compsApply
  split
  · simp
  · refine foldl_fuses (fun t a => ?_) _ _
    split <;> simp

@[simp] theorem reloadStep_fuses (s : State) : (s.reloadStep).fuses = s.fuses := by
  unfold reloadStep
  split
  · simp
  · split <;> simp

/-! ### `Machine/Repl` -/

@[simp] theorem cycleSkip_fuses (s : State) (r : Rel) : (s.cycleSkip r).fuses = s.fuses := by simp [cycleSkip]

@[simp] theorem cycleStart_fuses (s : State) (k : Nat) : (s.cycleStart k).fuses = s.fuses := by
  unfold cycleStart
  split
  · simp
  · split
    · simp
    · split
      · split
        · simp
        · split
          next x8 t9 h10 => simp [fuses_of_snapBegin h10]
          · simp
      · split
        · simp
        · split
          next x8 t9 h10 => simp [fuses_of_snapBegin h10]
          · simp

@[simp] theorem cycleBegin_fuses (s : State) (k : Nat) (r : Rel) : (s.cycleBegin k r).fuses = s.fuses := by simp [cycleBegin]

@[simp] theorem offerNext_fuses (k n : Nat) (s : State) : (offerNext k n s).fuses = s.fuses := by
  induction n generalizing s with
  | zero => rfl
  | succ n ih =>
    unfold offerNext
    split
    · rfl
    · split
      · rfl
      · simp only
        split <;> simp [ih]

@[simp] theorem cycleCommit_fuses (s : State) (k : Nat) (r : Rel) : (s.cycleCommit k r).fuses = s.fuses := by simp [cycleCommit]

@[simp] theorem cyclePump_fuses (s : State) (k : Nat) (r : Rel) : (s.cyclePump k r).fuses = s.fuses := by
  simp only [cyclePump]
  (repeat' split) <;> simp

@[simp] theorem grainSend_fuses (s : State) (k : Nat) (r : Rel) (dicts : List Nat) (l : List (Nat × Nat × OfferEnt)) :
    (s.grainSend k r dicts l).fuses = s.fuses := by
  simp [grainSend]

@[simp] theorem needIn_fuses (s : State) (k : Nat) (r : Rel) (offer : Nat) (needed : List Bool) (dicts : List Nat) :
    (s.needIn k r offer needed dicts).fuses = s.fuses := by
  unfold needIn
  split <;> simp

@[simp] theorem checkFail_fuses (s : State) (k : Nat) (r : Rel) (entry : Nat) : (s.checkFail k r entry).fuses = s.fuses := by
  simp only [checkFail]
  split <;> simp

@[simp] theorem cycleDone_fuses (s : State) (k : Nat) (r : Rel) : (s.cycleDone k r).fuses = s.fuses := by
  unfold cycleDone
  split <;> simp

@[simp] theorem baseConfirm_fuses (s : State) (k : Nat) (r : Rel) (cycle : Nat) : (s.baseConfirm k r cycle).fuses = s.fuses := by
  unfold baseConfirm
  split <;> simp

@[simp] theorem ackIn_fuses (s : State) (k : Nat) (r : Rel) (cycle : Nat) (status : Nat) (entry : Nat) :
    (s.ackIn k r cycle status entry).fuses = s.fuses := by
  unfold ackIn
  split <;> simp

@[simp] theorem stagingDrop_fuses (s : State) (k : Nat) : (s.stagingDrop k).fuses = s.fuses := by
  unfold stagingDrop
  split
  · simp
  · split <;> simp

@[simp] theorem stagingBegin_fuses (s : State) (k : Nat) (cycle : Nat) : (s.stagingBegin k cycle).fuses = s.fuses := by
  simp only [stagingBegin]
  (repeat' split) <;> simp

@[simp] theorem stageWrite_fuses (s : State) (st : Nat) (deltas : List Delta) (forms : List Form) :
    (s.stageWrite st deltas forms).fuses = s.fuses := by
  unfold stageWrite
  split <;> simp

@[simp] theorem offerLook_fuses (tenant red : Nat) (a : State × List (Option Delta)) (e : OfferEnt) :
    (offerLook tenant red a e).1.fuses = a.1.fuses := by
  simp only [offerLook]
  (repeat' split) <;> simp

@[simp] theorem offerIn_fuses (s : State) (k c mseq cycle : Nat) (ents : List OfferEnt) :
    (s.offerIn k c mseq cycle ents).fuses = s.fuses := by
  simp only [offerIn]
  split
  · simp
  · split
    · split
      · simp
      · simp only [settle_fuses, rplSend_fuses, rplAck_fuses, bump_fuses, modRel_fuses, stageWrite_fuses]
        rw [fuses_foldl_fst fun b e => by simp]
        simp
    · simp

@[simp] theorem grainTake_fuses (k tenant : Nat) (a : State × List (Delta × Form) × List Nat) (e : GrainEnt) :
    (grainTake k tenant a e).1.fuses = a.1.fuses := by
  simp only [grainTake]
  split
  · rfl
  · split
    · rfl
    · simp
    · split
      · rfl
      · split
        · simp
        · split
          · simp
          next c s1 h =>
            have hs1 : s1.fuses = a.1.fuses := by simpa using fuses_of_reserveId h
            simp only [modRel_fuses, tcntAdd_fuses, bump_fuses]
            generalize hs2 : (if s1.holdsShard _ then _ else _ : State) = s2
            have h2 : s2.fuses = a.1.fuses := by
              rw [← hs2]
              split <;> simp [hs1]
            split <;> simp [h2]

@[simp] theorem grainIn_fuses (s : State) (k c mseq cycle : Nat) (r : Rel) (ents : List GrainEnt) :
    (s.grainIn k c mseq cycle r ents).fuses = s.fuses := by
  simp only [grainIn]
  split
  next st v hst hv =>
    split
    · simp
    · generalize hy : ents.foldl (grainTake k v.tenant) (s, [], []) = y
      have hs : y.1.fuses = s.fuses := by
        rw [← hy]
        exact fuses_foldl_fst (fun b e => grainTake_fuses k v.tenant b e) _ _
      rw [settle_fuses]
      split
      · simp [hs]
      · rw [foldl_fuses fun t n => by simp]
        simp [hs]
  · simp

@[simp] theorem dictIn_fuses (s : State) (k : Nat) (c : Nat) (mseq : Nat) (cycle : Nat) (r : Rel) (d : Nat) (len : Nat) (part : Bytes) :
    (s.dictIn k c mseq cycle r d len part).fuses = s.fuses := by
  simp [dictIn]

@[simp] theorem mapdeltaIn_fuses (s : State) (k : Nat) (c : Nat) (mseq : Nat) (cycle : Nat) (ranges : List (Nat × Nat)) :
    (s.mapdeltaIn k c mseq cycle ranges).fuses = s.fuses := by
  simp only [mapdeltaIn]
  split
  · simp
  · split <;> simp

@[simp] theorem replicaTake_fuses (s : State) (k : Nat) (num : Nat) (r : Rel) (st : Nat) (root : Nat) :
    (s.replicaTake k num r st root).fuses = s.fuses := by
  simp [replicaTake]

@[simp] theorem commitIn_fuses (s : State) (k : Nat) (c : Nat) (mseq : Nat) (cycle : Nat) (offered : Nat) (ranges : Nat)
    (digest : Word256) : (s.commitIn k c mseq cycle offered ranges digest).fuses = s.fuses := by
  simp only [commitIn]
  split
  · simp
  · split <;> simp

@[simp] theorem syncDraft_fuses (s : State) (k : Nat) (c : Nat) (mseq : Nat) (cycle : Nat) (w : SyncWrite) (st : Standby) :
    (s.syncDraft k c mseq cycle w st).fuses = s.fuses := by
  unfold syncDraft
  split
  · simp
  · split <;> simp

@[simp] theorem syncWriteIn_fuses (s : State) (k : Nat) (h : RplHead) (c : Nat) (w : SyncWrite) (st : Standby) :
    (s.syncWriteIn k h c w st).fuses = s.fuses := by
  unfold syncWriteIn
  split <;> simp

@[simp] theorem baseTake_fuses (s : State) (k : Nat) : (s.baseTake k).fuses = s.fuses := by
  unfold baseTake
  split
  · simp
  · split <;> simp

@[simp] theorem helloDo_fuses (s : State) (k : Nat) (c : Nat) (mseq : Nat) (h : RplHello) : (s.helloDo k c mseq h).fuses = s.fuses := by
  unfold helloDo
  split <;> simp

@[simp] theorem rplDo_fuses (s : State) (k : Nat) (r : Rel) (h : RplHead) (c : Nat) (st : Standby) (m : RplMsg) :
    (s.rplDo k r h c st m).fuses = s.fuses := by
  unfold rplDo
  split <;> simp

@[simp] theorem rplForward_fuses (s : State) (h : RplHead) (rel : Nat) (m : RplMsg) : (s.rplForward h rel m).fuses = s.fuses := by
  simp [rplForward]

@[simp] theorem rplRoute_fuses (s : State) (h : RplHead) (st : Standby) (m : RplMsg) : (s.rplRoute h st m).fuses = s.fuses := by
  simp only [rplRoute]
  split
  · split <;> simp
  · split <;> simp

@[simp] theorem rplIn_fuses (s : State) (h : RplHead) (st : Standby) (m : RplMsg) : (s.rplIn h st m).fuses = s.fuses := by
  simp only [rplIn]
  split <;> simp

@[simp] theorem rplCredit_fuses (s : State) (c : Nat) (acked : Nat) (credits : Nat) : (s.rplCredit c acked credits).fuses = s.fuses := by
  unfold rplCredit
  split <;> simp

@[simp] theorem rplAckIn_fuses (s : State) (h : RplHead) (acked : Nat) (credits : Nat) (rtt : Nat) (m : RplMsg) :
    (s.rplAckIn h acked credits rtt m).fuses = s.fuses := by
  unfold rplAckIn
  split <;> simp

@[simp] theorem rplFwd_fuses (s : State) (toOwner : Bool) (h : RplHead) (m : RplMsg) : (s.rplFwd toOwner h m).fuses = s.fuses := by
  simp only [rplFwd]
  (repeat' split) <;> simp

@[simp] theorem replPump_fuses (s : State) : (s.replPump).fuses = s.fuses := by
  unfold replPump
  refine foldl_fuses (fun t a => ?_) _ _
  split <;> simp

@[simp] theorem cycleDue_fuses (s : State) (k : Nat) : (s.cycleDue k).fuses = s.fuses := by
  unfold cycleDue
  split <;> simp

@[simp] theorem retryDue_fuses (s : State) (k : Nat) : (s.retryDue k).fuses = s.fuses := by
  unfold retryDue
  split <;> simp

@[simp] theorem baseDue_fuses (s : State) (k : Nat) : (s.baseDue k).fuses = s.fuses := by
  unfold baseDue
  split
  · simp
  · split
    · simp
    · split
      next x5 t6 h7 => simp [fuses_of_snapBegin h7]
      · simp

@[simp] theorem relRead_fuses (s : State) (rid : Nat) : (s.relRead rid).fuses = s.fuses := by
  simp only [relRead]
  split <;> simp

@[simp] theorem execReplFwd_keepsFuses (toOwner : Bool) (head : RplHead) (msg : RplMsg) (s : State) :
    KeepsFuses (execReplFwd toOwner head msg s) s := by
  simp [execReplFwd]

@[simp] theorem execReplHello_keepsFuses (head : RplHead) (hello : RplHello) (s : State) : KeepsFuses (execReplHello head hello s) s := by
  simp [execReplHello]

@[simp] theorem execReplOffer_keepsFuses (head : RplHead) (ents : List OfferEnt) (s : State) :
    KeepsFuses (execReplOffer head ents s) s := by
  simp [execReplOffer]

@[simp] theorem execReplNeed_keepsFuses (head : RplHead) (offer : Nat) (needed : List Bool) (dicts : List Nat) (s : State) :
    KeepsFuses (execReplNeed head offer needed dicts s) s := by
  simp [execReplNeed]

@[simp] theorem execReplGrain_keepsFuses (head : RplHead) (ents : List GrainEnt) (s : State) :
    KeepsFuses (execReplGrain head ents s) s := by
  simp [execReplGrain]

@[simp] theorem execReplDict_keepsFuses (head : RplHead) (id : Nat) (len : Nat) (part : Bytes) (s : State) :
    KeepsFuses (execReplDict head id len part s) s := by
  simp [execReplDict]

@[simp] theorem execReplMapdelta_keepsFuses (head : RplHead) (ranges : List (Nat × Nat)) (s : State) :
    KeepsFuses (execReplMapdelta head ranges s) s := by
  simp [execReplMapdelta]

@[simp] theorem execReplCommit_keepsFuses (head : RplHead) (snap : Nat) (offered : Nat) (ranges : Nat) (digest : Word256) (s : State) :
    KeepsFuses (execReplCommit head snap offered ranges digest s) s := by
  simp [execReplCommit]

@[simp] theorem execReplAck_keepsFuses (head : RplHead) (acked : Nat) (credits : Nat) (status : Nat) (entry : Nat) (rtt : Nat)
    (s : State) : KeepsFuses (execReplAck head acked credits status entry rtt s) s := by
  simp [execReplAck]

@[simp] theorem execReplSyncWrite_keepsFuses (head : RplHead) (write : SyncWrite) (standby : Standby) (s : State) :
    KeepsFuses (execReplSyncWrite head write standby s) s := by
  simp [execReplSyncWrite]

@[simp] theorem execReplSyncAck_keepsFuses (head : RplHead) (seq : Nat) (status : Nat) (rtt : Nat) (s : State) :
    KeepsFuses (execReplSyncAck head seq status rtt s) s := by
  simp [execReplSyncAck]

@[simp] theorem execReplBase_keepsFuses (head : RplHead) (seq : Nat) (s : State) : KeepsFuses (execReplBase head seq s) s := by
  simp [execReplBase]

@[simp] theorem execReplCycleStart_keepsFuses (rel : Nat) (s : State) : KeepsFuses (execReplCycleStart rel s) s := by
  simp [execReplCycleStart]

@[simp] theorem execReplRetryTimer_keepsFuses (rel : Nat) (s : State) : KeepsFuses (execReplRetryTimer rel s) s := by
  simp [execReplRetryTimer]

@[simp] theorem execSyncBaseTimer_keepsFuses (rel : Nat) (s : State) : KeepsFuses (execSyncBaseTimer rel s) s := by simp [execSyncBaseTimer]

@[simp] theorem execSyncAckTimeout_keepsFuses (rel : Nat) (seq : Nat) (s : State) : KeepsFuses (execSyncAckTimeout rel seq s) s := by
  unfold execSyncAckTimeout
  split <;> simp

@[simp] theorem execReplRelRead_keepsFuses (rel : BitVec 16) (s : State) : KeepsFuses (execReplRelRead rel s) s := by
  unfold execReplRelRead
  rw [next_keepsFuses]
  refine barWrite_fuses (fun t => ?_)
  simp

/-! ### `Machine/Beat` -/

@[simp] theorem energyTo_fuses (s : State) (tenant : Nat) (cnt : Nat) (key : Nat) (e : Nat) :
    (s.energyTo tenant cnt key e).fuses = s.fuses := by
  simp [energyTo]

@[simp] theorem attributeBeat_fuses (s : State) (b : Nat) : (s.attributeBeat b).fuses = s.fuses := by simp [attributeBeat]
@[simp] theorem overrunCount_fuses (s : State) (b : Nat) : (s.overrunCount b).fuses = s.fuses := by simp [overrunCount]

@[simp] theorem dvfsApply_fuses (s : State) (b : Nat) (n : Nat) : (s.dvfsApply b n).fuses = s.fuses := by
  unfold dvfsApply
  split <;> simp

@[simp] theorem capPublish_fuses (s : State) (n : Nat) : (s.capPublish n).fuses = s.fuses := by simp [capPublish]
@[simp] theorem stretchEnd_fuses (s : State) : (s.stretchEnd).fuses = s.fuses := by simp [stretchEnd]
@[simp] theorem collectPublish_fuses (s : State) : (s.collectPublish).fuses = s.fuses := by simp [collectPublish]

@[simp] theorem floorPublish_fuses (s : State) : (s.floorPublish).fuses = s.fuses := by
  unfold floorPublish
  split <;> simp

@[simp] theorem capacities_fuses (s : State) (b : Nat) : (s.capacities b).fuses = s.fuses := by simp [capacities]
@[simp] theorem contractsTake_fuses (s : State) : (s.contractsTake).fuses = s.fuses := by simp [contractsTake]
@[simp] theorem beatCommits_fuses (s : State) : (s.beatCommits).fuses = s.fuses := by simp [beatCommits]
@[simp] theorem energyPlan_fuses (s : State) (b : Nat) : (s.energyPlan b).fuses = s.fuses := by simp [energyPlan]
@[simp] theorem budgetShow_fuses (s : State) (b : Nat) : (s.budgetShow b).fuses = s.fuses := by simp [budgetShow]
@[simp] theorem roleSwap_fuses (s : State) : (s.roleSwap).fuses = s.fuses := by simp [roleSwap]

@[simp] theorem drainPromote_fuses (s : State) (n : Nat) : (s.drainPromote n).fuses = s.fuses := by
  unfold drainPromote
  split
  · simp
  · split <;> simp

@[simp] theorem homeChange_fuses (s0 : State) : (s0.homeChange).fuses = s0.fuses := by simp [homeChange]
@[simp] theorem drainRestripe_fuses (s : State) : (s.drainRestripe).fuses = s.fuses := by simp [drainRestripe]

@[simp] theorem holdupShow_fuses (s : State) : (s.holdupShow).fuses = s.fuses := by
  unfold holdupShow
  split <;> simp

@[simp] theorem wakeSubs_fuses (s : State) : (s.wakeSubs).fuses = s.fuses := by simp [wakeSubs]
@[simp] theorem beatMessages_fuses (s : State) : (s.beatMessages).fuses = s.fuses := by simp [beatMessages]

@[simp] theorem draftPiece_fuses (rank : Nat) (s : State) (f : Nat → Option Cand) : (draftPiece rank s f).fuses = s.fuses := by
  unfold draftPiece
  split <;> simp

theorem fuses_of_placeSlices {m d : Nat} {l : List Nat} {done lo : Nat} {s t : State} (h : placeSlices m d l done lo s = some t) :
    t.fuses = s.fuses := by
  induction l generalizing done lo s with
  | nil => obtain rfl := Option.some.inj h; rfl
  | cons n l ih =>
    unfold placeSlices at h
    split at h
    · rw [ih h, hold_fuses]
    · cases h

@[simp] theorem eraseBook_fuses (part : Nat) (s : State) : (eraseBook part s).fuses = s.fuses := by
  refine foldl_fuses (fun t k => ?_) _ _
  split
  · rfl
  · split
    · rfl
    · split
      next u h => simp [fuses_of_placeSlices h]
      · rfl

@[simp] theorem draftRanks_fuses (s : State) : (s.draftRanks).fuses = s.fuses := by simp [draftRanks]
@[simp] theorem joinStep_fuses (s : State) : (s.joinStep).fuses = s.fuses := by simp [joinStep]
@[simp] theorem pinShow_fuses (s : State) : (s.pinShow).fuses = s.fuses := by simp [pinShow]
@[simp] theorem sanAlone_fuses (s : State) : (s.sanAlone).fuses = s.fuses := by simp [sanAlone]
@[simp] theorem waitShow_fuses (s : State) (b : Nat) : (s.waitShow b).fuses = s.fuses := by simp [waitShow]
@[simp] theorem loomGone_fuses (s : State) : (s.loomGone).fuses = s.fuses := by simp [loomGone]
@[simp] theorem loomBeat_fuses (s0 : State) (b : Nat) : (s0.loomBeat b).fuses = s0.fuses := by simp [loomBeat]
@[simp] theorem beatBoundary_fuses (s : State) : (s.beatBoundary).fuses = s.fuses := by simp [beatBoundary]
@[simp] theorem execBeatBoundary_keepsFuses (s : State) : KeepsFuses (execBeatBoundary s) s := by simp [execBeatBoundary]

/-! ### `Machine/Cipher` -/

@[simp] theorem cipherRefuse_fuses (s : State) : (s.cipherRefuse).fuses = s.fuses := by simp [cipherRefuse]
@[simp] theorem cipherEmpty_fuses (s : State) (n : Nat) : (s.cipherEmpty n).fuses = s.fuses := by simp [cipherEmpty]
@[simp] theorem tlsSpent_fuses (s : State) (n : Nat) : (s.tlsSpent n).fuses = s.fuses := by simp [tlsSpent]

@[simp] theorem xtsRun_fuses (s : State) (encrypt : Bool) (n : Nat) (tweak : BitVec 128) (data : Bytes) :
    (s.xtsRun encrypt n tweak data).fuses = s.fuses := by
  unfold xtsRun
  split
  next x0 t1 h2 => simp [fuses_snd_of_eq h2]
  next x0 x1 t2 h3 => simp [fuses_snd_of_eq h3]

@[simp] theorem rekeyDue_fuses (s : State) (n : Nat) (c : ConnSet) : (s.rekeyDue n c).fuses = s.fuses := by simp [rekeyDue]

@[simp] theorem gcmRun_fuses (s : State) (encrypt : Bool) (n : Nat) (setB : Bool) (iv : Bytes) (aad : Bytes) (data : Bytes)
    (mac : Bytes) : (s.gcmRun encrypt n setB iv aad data mac).fuses = s.fuses := by
  unfold gcmRun
  split
  next x0 t1 h2 => simp [fuses_snd_of_eq h2]
  next x0 x1 t2 h3 => 
    split
    · simp [fuses_snd_of_eq h3]
    · split
      · simp [fuses_snd_of_eq h3]
      · split
        · simp [fuses_snd_of_eq h3]
        · split
          · simp [fuses_snd_of_eq h3]
          · simp [fuses_snd_of_eq h3]

@[simp] theorem execXtsOperation_keepsFuses (encrypt : Bool) (slot : BitVec 15) (tweak : BitVec 128) (data : Bytes) (s : State) :
    KeepsFuses (execXtsOperation encrypt slot tweak data s) s := by
  simp [execXtsOperation]

@[simp] theorem execGcmOperation_keepsFuses (encrypt : Bool) (slot : BitVec 15) (setB : Bool) (iv : Bytes) (aad : Bytes) (data : Bytes)
    (mac : Bytes) (s : State) : KeepsFuses (execGcmOperation encrypt slot setB iv aad data mac s) s := by
  simp [execGcmOperation]

/-! ### `Machine/CtlOps` -/

@[simp] theorem fin_fuses (st : CtlStatus) (s : State) : (fin st s).2.fuses = s.fuses := by simp [fin]

theorem ctlOwned_fuses {s : State} {tag opcode : Nat} {buf : CtlBuf} {group : Option Nat} {f : State → CtlAnswer} (hf : ∀ t, (f t).2.fuses = t.fuses) :
    (s.ctlOwned tag opcode buf group f).fuses = s.fuses := by
  unfold ctlOwned
  split
  · split
    · simp
    · refine ctlRun_fuses (fun t => ?_)
      split
      · simp
      · exact hf t
  · exact ctlRun_fuses hf

@[simp] theorem ctlEntry_fuses (s : State) (c : Ctl) : (s.ctlEntry c).fuses = s.fuses := by simp [ctlEntry]
@[simp] theorem setBoth_fuses (s : State) (a : Nat) (w : Word) : (s.setBoth a w).fuses = s.fuses := by simp [setBoth]

@[simp] theorem arrayCreate_fuses (s : State) (tag : Nat) (id : BitVec 48) : (s.arrayCreate tag id).2.fuses = s.fuses := by
  unfold arrayCreate
  (repeat' split) <;> simp

@[simp] theorem rejoin_fuses (s : State) (tag : Nat) : (s.rejoin tag).2.fuses = s.fuses := by
  unfold rejoin
  split
  · simp
  · split <;> simp

@[simp] theorem rebalance_fuses (s : State) (tag : Nat) (g : Nat) (target : Nat) : (s.rebalance tag g target).2.fuses = s.fuses := by
  unfold rebalance
  (repeat' split) <;> simp

@[simp] theorem timeConfig_fuses (s : State) (lane : Nat) (domain : Nat) (transport : Nat) (src : Nat) :
    (s.timeConfig lane domain transport src).2.fuses = s.fuses := by
  unfold timeConfig
  split <;> simp

@[simp] theorem addressSet_fuses (s : State) (i : Nat) (on : Bool) : (s.addressSet i on).fuses = s.fuses := by simp [addressSet]

@[simp] theorem addressReturn_fuses (s : State) (i : Nat) : (s.addressReturn i).2.fuses = s.fuses := by
  simp only [addressReturn]
  (repeat' split) <;> simp

@[simp] theorem tenantCreate_fuses (s : State) (t : Nat) (c1 : Nat) (c2 : Nat) (c3 : Nat) (nqn : Bytes) (sn : Bytes) (mn : Bytes) :
    (s.tenantCreate t c1 c2 c3 nqn sn mn).2.fuses = s.fuses := by
  unfold tenantCreate
  split
  · simp
  · split <;> simp

@[simp] theorem tenantDelete_fuses (s : State) (tag : Nat) (t : Nat) : (s.tenantDelete tag t).2.fuses = s.fuses := by
  unfold tenantDelete
  split
  · simp
  · split <;> simp

@[simp] theorem tenantHosts_fuses (s : State) (t : Nat) (op : Nat) (cls : Nat) (nqn : Bytes) :
    (s.tenantHosts t op cls nqn).2.fuses = s.fuses := by
  simp only [tenantHosts]
  (repeat' split) <;> simp

@[simp] theorem tenantContract_fuses (s : State) (t : Nat) (w : List Word) : (s.tenantContract t w).2.fuses = s.fuses := by
  unfold tenantContract
  split
  · simp
  · split <;> simp

@[simp] theorem tenantReduction_fuses (s : State) (t : Nat) (dedup : Nat) (comp : Nat) (verify : Nat) :
    (s.tenantReduction t dedup comp verify).2.fuses = s.fuses := by
  unfold tenantReduction
  split
  · simp
  · split <;> simp

@[simp] theorem pskMap_fuses (s : State) (slot : Nat) (op : Nat) (id : Bytes) : (s.pskMap slot op id).2.fuses = s.fuses := by
  simp only [pskMap]
  (repeat' split) <;> simp

@[simp] theorem groupCreate_fuses (s : State) (g : Nat) (owner : Nat) : (s.groupCreate g owner).2.fuses = s.fuses := by
  unfold groupCreate
  (repeat' split) <;> simp

@[simp] theorem groupDelete_fuses (s : State) (g : Nat) : (s.groupDelete g).2.fuses = s.fuses := by
  unfold groupDelete
  split
  · simp
  · split <;> simp

@[simp] theorem volumeCreate_fuses (s : State) (v : Nat) (t : Nat) (nsid : Nat) (g : Nat) (lbaf : Nat) (blocks : Nat)
    (nguid : BitVec 128) (eui : Word) : (s.volumeCreate v t nsid g lbaf blocks nguid eui).2.fuses = s.fuses := by
  unfold volumeCreate
  (repeat' split) <;> simp

@[simp] theorem volumeResize_fuses (s : State) (v : Nat) (blocks : Nat) : (s.volumeResize v blocks).2.fuses = s.fuses := by
  simp only [volumeResize]
  (repeat' split) <;> simp

@[simp] theorem volumeDrop_fuses (s : State) (v : Nat) (x : Volume) : (s.volumeDrop v x).fuses = s.fuses := by simp [volumeDrop]

@[simp] theorem volumeDelete_fuses (s : State) (v : Nat) : (s.volumeDelete v).2.fuses = s.fuses := by
  unfold volumeDelete
  (repeat' split) <;> simp

@[simp] theorem volumePin_fuses (s : State) (v : Nat) (pin : Nat) : (s.volumePin v pin).2.fuses = s.fuses := by
  simp only [volumePin]
  (repeat' split) <;> simp

@[simp] theorem snapshotCreate_fuses (s : State) (tag : Nat) (vols : List Nat) : (s.snapshotCreate tag vols).2.fuses = s.fuses := by
  unfold snapshotCreate
  split
  · simp
  · split
    · simp
    · split
      · simp
      · split
        next x5 t6 h7 => simp [fuses_of_snapBegin h7]
        · simp

@[simp] theorem snapshotDelete_fuses (s : State) (id : Nat) : (s.snapshotDelete id).2.fuses = s.fuses := by
  unfold snapshotDelete
  (repeat' split) <;> simp

@[simp] theorem cloneCreate_fuses (s : State) (id v nsid : Nat) : (s.cloneCreate id v nsid).2.fuses = s.fuses := by
  simp only [cloneCreate]
  (repeat' split) <;> simp

@[simp] theorem dictControl_fuses (s : State) (v : Nat) (op : Nat) (content : Bytes) : (s.dictControl v op content).2.fuses = s.fuses := by
  simp only [dictControl]
  (repeat' split) <;> simp

@[simp] theorem replCreate_fuses (s : State) (rid : Nat) (v : Nat) (mode : Nat) (iv : Nat) (entry : Nat) (peer : BitVec 48)
    (ip : BitVec 128) (remote : Nat) : (s.replCreate rid v mode iv entry peer ip remote).2.fuses = s.fuses := by
  simp only [replCreate]
  (repeat' split) <;> simp

@[simp] theorem replModify_fuses (s : State) (rid : Nat) (v : Nat) (mode : Nat) (iv : Nat) (entry : Nat) (peer : BitVec 48)
    (ip : BitVec 128) (remote : Nat) : (s.replModify rid v mode iv entry peer ip remote).2.fuses = s.fuses := by
  simp only [replModify]
  (repeat' split) <;> simp

@[simp] theorem replDelete_fuses (s : State) (rid : Nat) : (s.replDelete rid).2.fuses = s.fuses := by
  unfold replDelete
  split <;> simp

@[simp] theorem keyExportTo_fuses (s : State) (tag : Nat) (slot : Nat) (peer : Nat) (addr : Word) :
    (s.keyExportTo tag slot peer addr).2.fuses = s.fuses := by
  unfold keyExportTo
  (repeat' split) <;> simp

@[simp] theorem spdmDo_fuses (s : State) (q : SpdmReq) : (s.spdmDo q).fuses = s.fuses :=
  after_fuses (by cases q <;> simp)

@[simp] theorem counterConfig_fuses (s : State) (period : Nat) (en : Nat) (base : Word) (bytes : Word) :
    (s.counterConfig period en base bytes).2.fuses = s.fuses := by
  unfold counterConfig
  split <;> simp

@[simp] theorem execIdentify_keepsFuses (tag : Nat) (buf : CtlBuf) (addr : Word) (s : State) :
    KeepsFuses (execIdentify tag buf addr s) s := by
  unfold execIdentify
  rw [next_keepsFuses]
  refine ctlRun_fuses (fun t => ?_)
  simp

@[simp] theorem execArrayCreate_keepsFuses (tag : Nat) (buf : CtlBuf) (array : BitVec 48) (s : State) :
    KeepsFuses (execArrayCreate tag buf array s) s := by
  unfold execArrayCreate
  rw [next_keepsFuses]
  refine ctlRun_fuses (fun t => ?_)
  simp

@[simp] theorem execRejoin_keepsFuses (tag : Nat) (buf : CtlBuf) (s : State) : KeepsFuses (execRejoin tag buf s) s := by
  unfold execRejoin
  rw [next_keepsFuses]
  refine ctlRun_fuses (fun t => ?_)
  simp

@[simp] theorem execRebalance_keepsFuses (tag : Nat) (buf : CtlBuf) (group : BitVec 8) (target : BitVec 8) (s : State) :
    KeepsFuses (execRebalance tag buf group target s) s := by
  unfold execRebalance
  rw [next_keepsFuses]
  refine ctlOwned_fuses (fun t => ?_)
  simp

@[simp] theorem execTimeConfig_keepsFuses (tag : Nat) (buf : CtlBuf) (lane : BitVec 16) (domain : BitVec 8) (transport : BitVec 8)
    (src : BitVec 8) (s : State) : KeepsFuses (execTimeConfig tag buf lane domain transport src s) s := by
  unfold execTimeConfig
  rw [next_keepsFuses]
  refine ctlRun_fuses (fun t => ?_)
  simp

@[simp] theorem execAddressReturn_keepsFuses (tag : Nat) (buf : CtlBuf) (entry : BitVec 8) (s : State) :
    KeepsFuses (execAddressReturn tag buf entry s) s := by
  unfold execAddressReturn
  rw [next_keepsFuses]
  refine ctlRun_fuses (fun t => ?_)
  simp

@[simp] theorem execTenantCreate_keepsFuses (tag : Nat) (buf : CtlBuf) (tenant : BitVec 16) (crdt1 : BitVec 16) (crdt2 : BitVec 16)
    (crdt3 : BitVec 16) (nqn : Bytes) (sn : Bytes) (mn : Bytes) (s : State) :
    KeepsFuses (execTenantCreate tag buf tenant crdt1 crdt2 crdt3 nqn sn mn s) s := by
  unfold execTenantCreate
  rw [next_keepsFuses]
  refine ctlRun_fuses (fun t => ?_)
  simp

@[simp] theorem execTenantDelete_keepsFuses (tag : Nat) (buf : CtlBuf) (tenant : BitVec 16) (s : State) :
    KeepsFuses (execTenantDelete tag buf tenant s) s := by
  unfold execTenantDelete
  rw [next_keepsFuses]
  refine ctlRun_fuses (fun t => ?_)
  simp

@[simp] theorem execTenantHosts_keepsFuses (tag : Nat) (buf : CtlBuf) (tenant : BitVec 16) (op : BitVec 8) (cls : BitVec 8)
    (nqn : Bytes) (s : State) : KeepsFuses (execTenantHosts tag buf tenant op cls nqn s) s := by
  unfold execTenantHosts
  rw [next_keepsFuses]
  refine ctlRun_fuses (fun t => ?_)
  simp

@[simp] theorem execTenantContract_keepsFuses (tag : Nat) (buf : CtlBuf) (tenant : BitVec 16) (w0 : Word) (w1 : Word) (w2 : Word)
    (w3 : Word) (s : State) : KeepsFuses (execTenantContract tag buf tenant w0 w1 w2 w3 s) s := by
  unfold execTenantContract
  rw [next_keepsFuses]
  refine ctlRun_fuses (fun t => ?_)
  simp

@[simp] theorem execTenantReduction_keepsFuses (tag : Nat) (buf : CtlBuf) (tenant : BitVec 16) (dedup : BitVec 8) (comp : BitVec 8)
    (verify : BitVec 8) (s : State) : KeepsFuses (execTenantReduction tag buf tenant dedup comp verify s) s := by
  unfold execTenantReduction
  rw [next_keepsFuses]
  refine ctlRun_fuses (fun t => ?_)
  simp

@[simp] theorem execTenantPskMap_keepsFuses (tag : Nat) (buf : CtlBuf) (slot : BitVec 16) (op : BitVec 8) (identity : Bytes) (s : State) :
    KeepsFuses (execTenantPskMap tag buf slot op identity s) s := by
  unfold execTenantPskMap
  rw [next_keepsFuses]
  refine ctlRun_fuses (fun t => ?_)
  simp

@[simp] theorem execGroupCreate_keepsFuses (tag : Nat) (buf : CtlBuf) (group : BitVec 8) (owner : BitVec 8) (s : State) :
    KeepsFuses (execGroupCreate tag buf group owner s) s := by
  unfold execGroupCreate
  rw [next_keepsFuses]
  refine ctlRun_fuses (fun t => ?_)
  simp

@[simp] theorem execGroupDelete_keepsFuses (tag : Nat) (buf : CtlBuf) (group : BitVec 8) (s : State) :
    KeepsFuses (execGroupDelete tag buf group s) s := by
  unfold execGroupDelete
  rw [next_keepsFuses]
  refine ctlOwned_fuses (fun t => ?_)
  simp

@[simp] theorem execVolumeCreate_keepsFuses (tag : Nat) (buf : CtlBuf) (volume : BitVec 16) (tenant : BitVec 16) (nsid : BitVec 32)
    (group : BitVec 8) (lbaf : BitVec 8) (blocks : Word) (nguid : BitVec 128) (eui64 : Word) (s : State) :
    KeepsFuses (execVolumeCreate tag buf volume tenant nsid group lbaf blocks nguid eui64 s) s := by
  unfold execVolumeCreate
  rw [next_keepsFuses]
  refine ctlOwned_fuses (fun t => ?_)
  simp

@[simp] theorem execVolumeResize_keepsFuses (tag : Nat) (buf : CtlBuf) (volume : BitVec 16) (blocks : Word) (s : State) :
    KeepsFuses (execVolumeResize tag buf volume blocks s) s := by
  unfold execVolumeResize
  rw [next_keepsFuses]
  refine ctlOwned_fuses (fun t => ?_)
  simp

@[simp] theorem execVolumeDelete_keepsFuses (tag : Nat) (buf : CtlBuf) (volume : BitVec 16) (s : State) :
    KeepsFuses (execVolumeDelete tag buf volume s) s := by
  unfold execVolumeDelete
  rw [next_keepsFuses]
  refine ctlOwned_fuses (fun t => ?_)
  simp

@[simp] theorem execVolumePin_keepsFuses (tag : Nat) (buf : CtlBuf) (volume : BitVec 16) (pin : BitVec 8) (s : State) :
    KeepsFuses (execVolumePin tag buf volume pin s) s := by
  unfold execVolumePin
  rw [next_keepsFuses]
  refine ctlOwned_fuses (fun t => ?_)
  simp

@[simp] theorem execSnapshotCreate_keepsFuses (tag : Nat) (buf : CtlBuf) (volumes : List (BitVec 16)) (s : State) :
    KeepsFuses (execSnapshotCreate tag buf volumes s) s := by
  unfold execSnapshotCreate
  rw [next_keepsFuses]
  refine ctlOwned_fuses (fun t => ?_)
  simp

@[simp] theorem execSnapshotDelete_keepsFuses (tag : Nat) (buf : CtlBuf) (snapshot : BitVec 32) (s : State) :
    KeepsFuses (execSnapshotDelete tag buf snapshot s) s := by
  unfold execSnapshotDelete
  rw [next_keepsFuses]
  refine ctlOwned_fuses (fun t => ?_)
  simp

@[simp] theorem execCloneCreate_keepsFuses (tag : Nat) (buf : CtlBuf) (snapshot : BitVec 32) (volume : BitVec 16) (nsid : BitVec 32)
    (s : State) : KeepsFuses (execCloneCreate tag buf snapshot volume nsid s) s := by
  unfold execCloneCreate
  rw [next_keepsFuses]
  refine ctlOwned_fuses (fun t => ?_)
  simp

@[simp] theorem execDictControl_keepsFuses (tag : Nat) (buf : CtlBuf) (volume : BitVec 16) (op : BitVec 8) (content : Bytes) (s : State) :
    KeepsFuses (execDictControl tag buf volume op content s) s := by
  unfold execDictControl
  rw [next_keepsFuses]
  refine ctlOwned_fuses (fun t => ?_)
  simp

@[simp] theorem execReplCreate_keepsFuses (tag : Nat) (buf : CtlBuf) (rel : BitVec 16) (volume : BitVec 16) (mode : BitVec 8)
    (interval : BitVec 32) (entry : BitVec 8) (array : BitVec 48) (ip : BitVec 128) (remote : BitVec 16) (s : State) :
    KeepsFuses (execReplCreate tag buf rel volume mode interval entry array ip remote s) s := by
  unfold execReplCreate
  rw [next_keepsFuses]
  refine ctlOwned_fuses (fun t => ?_)
  simp

@[simp] theorem execReplModify_keepsFuses (tag : Nat) (buf : CtlBuf) (rel : BitVec 16) (volume : BitVec 16) (mode : BitVec 8)
    (interval : BitVec 32) (entry : BitVec 8) (array : BitVec 48) (ip : BitVec 128) (remote : BitVec 16) (s : State) :
    KeepsFuses (execReplModify tag buf rel volume mode interval entry array ip remote s) s := by
  unfold execReplModify
  rw [next_keepsFuses]
  refine ctlOwned_fuses (fun t => ?_)
  simp

@[simp] theorem execReplDelete_keepsFuses (tag : Nat) (buf : CtlBuf) (rel : BitVec 16) (s : State) :
    KeepsFuses (execReplDelete tag buf rel s) s := by
  unfold execReplDelete
  rw [next_keepsFuses]
  refine ctlOwned_fuses (fun t => ?_)
  simp

@[simp] theorem execKeyImport_keepsFuses (tag : Nat) (buf : CtlBuf) (slot : BitVec 16) (src : BitVec 8) (blob : Bytes) (s : State) :
    KeepsFuses (execKeyImport tag buf slot src blob s) s := by
  unfold execKeyImport
  split
  · rw [next_keepsFuses]
    refine ctlRun_fuses (fun t => ?_)
    simp
  · rw [next_keepsFuses]
    refine ctlRun_fuses (fun t => ?_)
    split <;> simp

@[simp] theorem execKeyExport_keepsFuses (tag : Nat) (buf : CtlBuf) (slot : BitVec 16) (peer : BitVec 8) (addr : Word) (s : State) :
    KeepsFuses (execKeyExport tag buf slot peer addr s) s := by
  unfold execKeyExport
  rw [next_keepsFuses]
  refine ctlRun_fuses (fun t => ?_)
  simp

@[simp] theorem execKeyZeroize_keepsFuses (tag : Nat) (buf : CtlBuf) (slot : BitVec 16) (s : State) :
    KeepsFuses (execKeyZeroize tag buf slot s) s := by
  unfold execKeyZeroize
  rw [next_keepsFuses]
  refine ctlRun_fuses (fun t => ?_)
  split <;> simp

@[simp] theorem execPeerSet_keepsFuses (tag : Nat) (buf : CtlBuf) (peer : BitVec 8) (key : Bytes) (s : State) :
    KeepsFuses (execPeerSet tag buf peer key s) s := by
  unfold execPeerSet
  split
  · rw [next_keepsFuses]
    refine ctlRun_fuses (fun t => ?_)
    simp
  · rw [next_keepsFuses]
    refine ctlRun_fuses (fun t => ?_)
    split <;> simp

@[simp] theorem execSpdm_keepsFuses (tag : Nat) (buf : CtlBuf) (request : SpdmReq) (s : State) :
    KeepsFuses (execSpdm tag buf request s) s := by
  unfold execSpdm
  rw [next_keepsFuses]
  refine ctlRun_fuses (fun t => ?_)
  simp

@[simp] theorem execMeasExtend_keepsFuses (tag : Nat) (buf : CtlBuf) (reg : BitVec 8) (value : Digest) (s : State) :
    KeepsFuses (execMeasExtend tag buf reg value s) s := by
  unfold execMeasExtend
  split
  · rw [next_keepsFuses]
    refine ctlRun_fuses (fun t => ?_)
    simp
  · rw [next_keepsFuses]
    refine ctlRun_fuses (fun t => ?_)
    simp

@[simp] theorem execLifeRequest_keepsFuses (tag : Nat) (buf : CtlBuf) (target : BitVec 8) (s : State) :
    KeepsFuses (execLifeRequest tag buf target s) s := by
  unfold execLifeRequest
  rw [next_keepsFuses]
  refine ctlRun_fuses (fun t => ?_)
  split <;> simp

@[simp] theorem execTamperClear_keepsFuses (tag : Nat) (buf : CtlBuf) (confirm : BitVec 8) (bad : List (BitVec 15)) (s : State) :
    KeepsFuses (execTamperClear tag buf confirm bad s) s := by
  unfold execTamperClear
  rw [next_keepsFuses]
  refine ctlRun_fuses (fun t => ?_)
  split <;> simp

@[simp] theorem execUpdate_keepsFuses (tag : Nat) (buf : CtlBuf) (image : Image) (s : State) :
    KeepsFuses (execUpdate tag buf image s) s := by
  unfold execUpdate
  rw [next_keepsFuses]
  refine ctlRun_fuses (fun t => ?_)
  (repeat' split) <;> simp

@[simp] theorem execCounterConfig_keepsFuses (tag : Nat) (buf : CtlBuf) (period ringEn : BitVec 8) (base bytes : Word) (s : State) :
    KeepsFuses (execCounterConfig tag buf period ringEn base bytes s) s := by
  simp [execCounterConfig, ctlRun_fuses]

/-! ### `Machine/Thermal` -/

@[simp] theorem execThermalSample_keepsFuses (temps : List (BitVec 16)) (s : State) : KeepsFuses (execThermalSample temps s) s := by
  simp [execThermalSample]

/-! ## The commands that blow fuses -/

/-- A command ends in a next state whose fuses are those of `s`, or more of them blown. -/
def BlowsFuses (o : Out) (s : State) : Prop := ∃ t, o = .next t ∧ s.fuses.within t.fuses

theorem within_of_fuses_eq {s t : State} (h : t.fuses = s.fuses) : s.fuses.within t.fuses := h ▸ s.fuses.within_refl

theorem KeepsFuses.blowsFuses {o : Out} {s : State} (h : KeepsFuses o s) : BlowsFuses o s := by
  obtain ⟨t, rfl, ht⟩ := h
  exact ⟨t, rfl, within_of_fuses_eq ht⟩

theorem and_or_self {n : Nat} (x y : BitVec n) : x &&& (x ||| y) = x := by
  ext j hj
  simp only [BitVec.getElem_and, BitVec.getElem_or]
  cases x[j] <;> rfl

theorem within_blowCell (s : State) (i : Nat) : s.fuses.within (s.blowCell i).fuses :=
  ⟨and_or_self _ _, rfl, le_rfl, BitVec.and_self, id, id⟩

/-- A programmed cell adds itself (R67); what the transition does next blows nothing. -/
theorem within_cellDone (s : State) (ok : Bool) : s.fuses.within (s.cellDone ok).fuses := by
  have hblow (i : Nat) : s.fuses.within (if ok then s.blowCell i else s).fuses := by
    split
    · exact within_blowCell s i
    · exact s.fuses.within_refl
  simp only [cellDone]
  split
  next c hc =>
    refine Fuses.within_trans (hblow (intentLo (s.fld Reg.LIFE_STATUS_TARGET) + c)) (within_of_fuses_eq ?_)
    split
    · rw [setBit_fuses, lifeStop_fuses, setReg_fuses]
    · rw [intentNext_fuses, setReg_fuses]
  next c r hc =>
    refine Fuses.within_trans (hblow (commitLo (s.fld Reg.LIFE_STATUS_TARGET) + c)) (within_of_fuses_eq ?_)
    split
    · rw [lifeStop_fuses, setReg_fuses]
    · rw [commitNext_fuses, setReg_fuses]
  · exact s.fuses.within_refl

theorem within_lifeWork {s : State} {target : Nat} {t : State} (h : s.lifeWork target = some t) : s.fuses.within t.fuses := by
  unfold lifeWork at h
  split at h
  · obtain rfl := Option.some.inj h
    exact ⟨BitVec.and_self, rfl, le_rfl, BitVec.and_self, fun _ => rfl, id⟩
  · split at h
    · obtain rfl := Option.some.inj h
      exact within_of_fuses_eq (by simp)
    · cases h
  · obtain rfl := Option.some.inj h
    exact within_of_fuses_eq (by simp)
  · obtain rfl := Option.some.inj h
    exact Fuses.within_trans (b := s.returnWork.fuses) (within_of_fuses_eq (by simp))
      ⟨BitVec.and_self, rfl, le_rfl, BitVec.and_self, id, fun _ => rfl⟩
  · cases h

theorem within_workDone (s : State) : s.fuses.within s.workDone.fuses := by
  unfold workDone
  split
  · split
    next t h => exact Fuses.within_trans (within_lifeWork h) (within_of_fuses_eq (by simp))
    · exact within_of_fuses_eq (by simp)
  · exact s.fuses.within_refl

/-- The count rises to the running image's, and the keys below the image's are revoked as well (R460). -/
theorem within_rollbackCommit (s : State) : s.fuses.within s.rollbackCommit.2.fuses := by
  simp only [rollbackCommit]
  split
  · exact s.fuses.within_refl
  · split
    · exact s.fuses.within_refl
    · simp only [fin_fuses, acceptableRegs_fuses, event_fuses, measExtend_fuses, setFld_fuses]
      exact ⟨BitVec.and_self, rfl, le_max_left _ _, and_or_self _ _, id, id⟩

/-- A control command blows no more than its effect does: before and after it only the queue and the registers move. -/
theorem within_ctlRun {s : State} {tag opcode : Nat} {buf : CtlBuf} {f : State → CtlAnswer} (hf : s.fuses.within (f s).2.fuses) :
    s.fuses.within (s.ctlRun tag opcode buf f).fuses := by
  unfold ctlRun
  split
  · exact s.fuses.within_refl
  · split
    · exact within_of_fuses_eq (by simp)
    · exact within_of_fuses_eq (by simp)
    · simp only
      split
      next t h => simpa [h] using hf
      next st r0 r1 t h =>
        split
        · simpa [h] using hf
        · exact within_of_fuses_eq (by simp)

/-! ## Every command (O2, O4) -/

/-- Every command answers a next state, and blows at most fuses of its own: three program cells or count, and the others keep them all. -/
theorem exec_blowsFuses (c : Instr) (s : State) : BlowsFuses (exec c s) s := by
  cases c with
  | fuseCellBlown ok => exact ⟨_, rfl, within_cellDone s ok⟩
  | lifeWorkDone => exact ⟨_, rfl, within_workDone s⟩
  | rollbackCommit tag buf => exact ⟨_, rfl, within_ctlRun (within_rollbackCommit s)⟩
  | _ => exact KeepsFuses.blowsFuses (by simp)

end State

/-- Settles O2: every command answers a next state, by its lemma on the fuses. -/
theorem everyCommandAnswersANextState : Obligations.EveryCommandAnswersANextState := by
  have hexec (c : Instr) (s : State) : ∃ t, exec c s = .next t := (State.exec_blowsFuses c s).imp fun _ h => h.1
  refine ⟨hexec, fun s => ?_⟩
  unfold step
  split
  · exact ⟨s, rfl⟩
  · exact hexec _ _

/-- Settles O4: a step leaves the state or runs one command, which blows fuses at most. -/
theorem fusesAreNeverUnblown : Obligations.FusesAreNeverUnblown := by
  intro m s t hm hstep
  unfold step at hstep
  split at hstep
  · exact Host.Outcome.next.inj hstep ▸ hm
  next c rest hq =>
    obtain ⟨u, hu, hwithin⟩ := State.exec_blowsFuses c (s.withPending rest)
    obtain rfl := Host.Outcome.next.inj (hu.symm.trans hstep)
    exact Fuses.within_trans hm hwithin

end Sys2Proof.Machine

/-! What a guarded access, a frame, a control command, a media completion and a replication message come to when the conditions hold
that the statements name. Each rule is stated once for the function of the model that the commands share. -/

namespace Sys2Proof.Machine

namespace State

/-! ## Guards of accesses -/

/-- A BAR0 write that is accepted runs (R27). -/
theorem barWrite_of_accepts {s : State} {addr : Nat} (h : s.accepts addr) (f : State → State) : s.barWrite addr f = f s := by
  obtain ⟨hreach, hcause⟩ := h
  simp [barWrite, hreach, hcause]

theorem ifRunning_of_running {s : State} (h : s.mgmt.running = true) (f : State → State) : s.ifRunning f = f s := by
  simp [ifRunning, h]

/-! ## Frames of connections (R85, R86, R92) -/

theorem onConn_of_takes {s t : State} {i : Nat} {e : ConnEntry} {r : ConnRt} (h : s.takes i e r t)
    (f : ConnEntry → ConnRt → State → State) : s.onConn i f = f e r t := by
  obtain ⟨hserving, hframe, hrt, herr⟩ := h
  exact onConn_takes f hserving hframe hrt herr

theorem capsule_of_takes {s t : State} {cmd : CmdFrom} {e : ConnEntry} {r : ConnRt} (h : s.takes cmd.conn.val e r t) (hst : e.st ≠ 0)
    (f : ConnEntry → ConnRt → State → State) : s.capsule cmd f = f e r t := by
  rw [capsule, onConn_of_takes h, if_neg hst]

theorem adminCmd_of_adminAt {s t : State} {cmd : CmdFrom} {e : ConnEntry} {r : ConnRt} {k : Nat} {c : Ctrl} (h : s.adminAt cmd e r k c t)
    (f : ConnEntry → Nat → Ctrl → State → State) : s.adminCmd cmd f = f e k c t := by
  obtain ⟨⟨hserving, hframe, hrt, herr⟩, hst, hctrl, hqid⟩ := h
  exact adminCmd_takes f hserving hframe hrt herr hst hctrl hqid

theorem ioCmd_of_ioAt {s t : State} {cmd : CmdFrom} {nsid : Nat} {e : ConnEntry} {r : ConnRt} {k : Nat} {c : Ctrl} {vol : Nat} {v : Volume}
    (h : s.ioAt cmd nsid e r k c vol v t) (f : ConnEntry → Ctrl → Nat → Volume → State → State) :
    s.ioCmd cmd nsid f = f e c vol v t := by
  obtain ⟨⟨hserving, hframe, hrt, herr⟩, hst, hctrl, hqid, hns, hquiesced, hformatting, hana⟩ := h
  exact ioCmd_takes f hserving hframe hrt herr hst hctrl hqid hns hquiesced hformatting hana

/-! ## Commands of the control channel (R53, R503, R504) -/

theorem buffer_of_ctlGo {s : State} {tag opcode : Nat} (h : s.ctlGo tag opcode) :
    (bufferOpcodes.contains opcode && !s.dmaAllowed) = false := by
  obtain ⟨-, hdma⟩ := h
  cases hbuf : bufferOpcodes.contains opcode with
  | false => rfl
  | true => rw [hdma hbuf]; rfl

/-- What the answer of a ready command's effect leaves of the state that the command ran on. -/
def ctlAnswered (s : State) (tag : Nat) : CtlAnswer → State
  | (none, t) => t
  | (some (st, r0, r1), t) =>
    if st = .ok then
      t.ctlHold tag ((List.range ((t.reg Reg.SELV_OWN_NEXT_SEQ).toNat - (s.reg Reg.SELV_OWN_NEXT_SEQ).toNat)).map
        (fun i => (s.reg Reg.SELV_OWN_NEXT_SEQ).toNat + i)) r0 r1
    else s.ctlFinish tag st r0 r1

@[simp] theorem ctlAnswered_later (s t : State) (tag : Nat) : s.ctlAnswered tag (none, t) = t := rfl

@[simp] theorem ctlAnswered_ok (s t : State) (tag : Nat) (r0 r1 : Word) :
    s.ctlAnswered tag (some (.ok, r0, r1), t) =
      t.ctlHold tag ((List.range ((t.reg Reg.SELV_OWN_NEXT_SEQ).toNat - (s.reg Reg.SELV_OWN_NEXT_SEQ).toNat)).map
        (fun i => (s.reg Reg.SELV_OWN_NEXT_SEQ).toNat + i)) r0 r1 := rfl

@[simp] theorem ctlAnswered_fin_ok (s t : State) (tag : Nat) : s.ctlAnswered tag (fin .ok t) = s.ctlOk tag t := rfl

@[simp] theorem ctlAnswered_fin (s t : State) (tag : Nat) {st : CtlStatus} (h : st ≠ .ok) :
    s.ctlAnswered tag (fin st t) = s.ctlFinish tag st 0 0 := by
  simp [fin, ctlAnswered, h]

@[simp] theorem ctlAnswered_status (s t : State) (tag : Nat) {st : CtlStatus} (h : st ≠ .ok) (r0 r1 : Word) :
    s.ctlAnswered tag (some (st, r0, r1), t) = s.ctlFinish tag st r0 r1 := by
  simp [ctlAnswered, h]

/-- A ready command with its buffer in order ends, or goes on, as its effect answers. -/
theorem ctlRun_of_ctlGo {s : State} {tag opcode : Nat} (h : s.ctlGo tag opcode) (f : State → CtlAnswer) :
    s.ctlRun tag opcode .good f = s.ctlAnswered tag (f s) := by
  simp only [ctlRun, h.1, buffer_of_ctlGo h]
  rcases f s with ⟨_ | ⟨st, r0, r1⟩, t⟩ <;> rfl

theorem ctlRun_bad_of_ctlGo {s : State} {tag opcode : Nat} (h : s.ctlGo tag opcode) (f : State → CtlAnswer) :
    s.ctlRun tag opcode .bad f = s.ctlFinish tag .invalidField 0 0 :=
  (ctlRun_bad f h.1 (buffer_of_ctlGo h)).1

theorem ctlRun_dma_of_ctlGo {s : State} {tag opcode : Nat} (h : s.ctlGo tag opcode) (f : State → CtlAnswer) :
    s.ctlRun tag opcode .dma f = s.ctlFinish tag .dma 0 0 :=
  (ctlRun_bad f h.1 (buffer_of_ctlGo h)).2

/-- A ready command about a group that this head owns. -/
theorem ctlOwned_of_ctlHere {s : State} {tag opcode g : Nat} (h : s.ctlHere tag opcode g) (f : State → CtlAnswer) :
    s.ctlOwned tag opcode .good (some g) f = s.ctlAnswered tag (f s) := by
  obtain ⟨hgo, howner⟩ := h
  rw [ctlOwned_here howner, ctlRun_of_ctlGo hgo]

/-- A ready command about no group. -/
theorem ctlOwned_none_of_ctlGo {s : State} {tag opcode : Nat} (h : s.ctlGo tag opcode) (f : State → CtlAnswer) :
    s.ctlOwned tag opcode .good none f = s.ctlAnswered tag (f s) := by
  rw [ctlOwned, ctlRun_of_ctlGo h]

/-! ## Completions of the media queues (R318, R326) -/

theorem withCmd_of_mqpDone {s t : State} {done : MqpDone} {c : MqpCmd} (h : s.mqpDone done c t) (f : MqpCmd → State → State) :
    s.withCmd done f = f c t := by
  obtain ⟨hlow, hhigh, hfind, hstatus, hop, rfl⟩ := h
  have hstate : ¬ (s.svcState done.port.val < 3 ∨ 5 < s.svcState done.port.val) := by omega
  simp [withCmd, hstate, hfind, hstatus, hop]

/-! ## Messages of replication connections (R385) -/

theorem rplIn_of_rplTakes {s t : State} {h : RplHead} {x : RplConn} (htakes : s.rplTakes h x t) (st : Standby) (m : RplMsg) :
    s.rplIn h st m = t.rplRoute h st m := by
  obtain ⟨hconn, hserving, hok, hmseq, rfl⟩ := htakes
  simp [rplIn, hconn, hserving, hok, hmseq]

/-- A message of a relationship that this head runs is handled by it, from the side that the message names. -/
theorem rplIn_of_rplAt {s t : State} {h : RplHead} {source : Bool} {x : RplConn} {k : Nat} {r : Rel} (hat : s.rplAt h source x k r t)
    (st : Standby) {m : RplMsg} (hside : forSource m = source) (hhello : ∀ y, m ≠ .hello y) :
    s.rplIn h st m = t.rplDo k r h h.conn.val st m := by
  obtain ⟨htakes, hrel, hruns⟩ := hat
  subst hside
  rw [rplIn_of_rplTakes htakes]
  cases m <;> simp_all [rplRoute]

end State

end Sys2Proof.Machine

/-! # Control commands about volumes and snapshots -/

namespace Sys2Proof.Machine

namespace State

/-! ## The group of a volume and of a snapshot -/

theorem volGroup_of_vol {s : State} {v : Nat} {x : Volume} (h : s.vol? v = some x) : s.volGroup v = some x.group := by
  simp [volGroup, h]

theorem snapGroup_of_snap {s : State} {id : Nat} {x : Snapshot} {o : Volume} (h : tGet? s.mp.snaps id = some x)
    (hvol : s.vol? x.volume = some o) : s.snapGroup id = some o.group := by
  simp [snapGroup, volGroup, h, hvol]

/-- A ready command about a volume of a group that this head owns. -/
theorem ctlOwned_of_volume {s : State} {tag opcode v : Nat} {x : Volume} (h : s.ctlHere tag opcode x.group)
    (hvol : s.vol? v = some x) (f : State → CtlAnswer) :
    s.ctlOwned tag opcode .good (s.volGroup v) f = s.ctlAnswered tag (f s) := by
  rw [volGroup_of_vol hvol, ctlOwned_of_ctlHere h]

/-- A ready command about a snapshot of a volume of a group that this head owns. -/
theorem ctlOwned_of_snapshot {s : State} {tag opcode id : Nat} {x : Snapshot} {o : Volume} (h : s.ctlHere tag opcode o.group)
    (hsnap : tGet? s.mp.snaps id = some x) (hvol : s.vol? x.volume = some o) (f : State → CtlAnswer) :
    s.ctlOwned tag opcode .good (s.snapGroup id) f = s.ctlAnswered tag (f s) := by
  rw [snapGroup_of_snap hsnap hvol, ctlOwned_of_ctlHere h]

/-- A ready command about a group that there is not goes to its own checks. -/
theorem ctlOwned_of_absent {s : State} {tag opcode g : Nat} (h : s.ctlGo tag opcode) (hnone : tGet? s.nv.groups g = none)
    (f : State → CtlAnswer) : s.ctlOwned tag opcode .good (some g) f = s.ctlAnswered tag (f s) := by
  rw [ctlOwned_no_group hnone, ctlRun_of_ctlGo h]

/-- A ready command about a group that neither head owns ends with STATE (R503). -/
theorem ctlOwned_of_unowned {s : State} {tag opcode g o : Nat} (h : s.ctlGo tag opcode) (howner : tGet? s.nv.groups g = some o)
    (hhere : o ≠ s.headIndex) (hother : o ≠ 1 - s.headIndex) (f : State → CtlAnswer) :
    s.ctlOwned tag opcode .good (some g) f = s.ctlFinish tag .state 0 0 := by
  rw [ctlOwned, if_neg (by simp [howner, hother]), ctlRun_of_ctlGo h]
  simp [howner, ownsGroup, hhere]

/-- A ready command about a volume that there is not goes to its own checks. -/
theorem ctlOwned_of_no_volume {s : State} {tag opcode v : Nat} (h : s.ctlGo tag opcode) (hnone : s.vol? v = none)
    (f : State → CtlAnswer) : s.ctlOwned tag opcode .good (s.volGroup v) f = s.ctlAnswered tag (f s) := by
  rw [volGroup, hnone, Option.map_none, ctlOwned_none_of_ctlGo h]

end State

end Sys2Proof.Machine

/-! # The key store and the schedule unit -/

namespace Sys2Proof.Machine

namespace State

/-- A KEYS.CMD write that is accepted runs when no command runs. -/
theorem keyWrite_of_accepts {s : State} (h : s.accepts Reg.KEYS_CMD) (hop : s.sec.op = none) (sessionImport : Bool) (f : State → State) :
    s.keyWrite sessionImport f = f s := by
  obtain ⟨hreach, hcause⟩ := h
  simp [keyWrite, hreach, hcause, hop]

/-- A KEYS.CMD write while a command runs changes nothing. -/
theorem keyWrite_of_running {s : State} {o : KeyOp} (h : s.accepts Reg.KEYS_CMD) (hop : s.sec.op = some o) (sessionImport : Bool)
    (f : State → State) : s.keyWrite sessionImport f = s := by
  obtain ⟨hreach, hcause⟩ := h
  simp [keyWrite, hreach, hcause, hop]

theorem keyExport_of_full {s : State} {slot peer : Nat} {k : Bytes} (hlife : s.lifeState = 2) (hlatch : s.sec.latch = false)
    (htype : slotType slot = .tenant ∨ slotType slot = .psk) (hpeer : s.peerKey peer = some k) (hfull : slotFull (s.keySlot slot) = true) :
    s.keyExport slot peer = (1, Config.keyWrap k (exportRecordOf slot (s.keySlot slot))) := by
  rcases htype with htype | htype <;> simp [keyExport, hlife, hlatch, htype, hpeer, hfull]

theorem keyExport_of_missing {s : State} {slot peer : Nat} (hlife : s.lifeState = 2) (hlatch : s.sec.latch = false)
    (htype : slotType slot = .tenant ∨ slotType slot = .psk) (hmissing : s.peerKey peer = none ∨ slotFull (s.keySlot slot) = false) :
    s.keyExport slot peer = (10, []) := by
  have hslot : ¬ (slotType slot != .tenant && slotType slot != .psk) = true := by
    rcases htype with htype | htype <;> simp [htype]
  rw [keyExport, if_neg (by simp [hlife, hlatch]), if_neg hslot]
  cases hpeer : s.peerKey peer with
  | none => rfl
  | some k =>
    rcases hmissing with hnone | hempty
    · simp [hpeer] at hnone
    · simp [hempty]

theorem keyExport_of_life {s : State} {slot peer : Nat} (h : s.lifeState ≠ 2 ∨ s.sec.latch = true) : s.keyExport slot peer = (8, []) := by
  rcases h with h | h <;> simp [keyExport, h]

theorem keyExport_of_type {s : State} {slot peer : Nat} (hlife : s.lifeState = 2) (hlatch : s.sec.latch = false)
    (htenant : slotType slot ≠ .tenant) (hpsk : slotType slot ≠ .psk) : s.keyExport slot peer = (4, []) := by
  simp [keyExport, hlife, hlatch, htenant, hpsk]

theorem serves_schedule {n : Nat} (h : slotType n = .derived ∨ slotType n = .psk) : serves .schedule n = true := by
  rcases h with h | h <;> simp [serves, h]

/-- The schedule unit takes the material of a slot that it may read. -/
theorem scheduleIn_of_material {s : State} {n : Nat} (hserves : serves .schedule n = true) (h : (s.keySlot n).material ≠ []) :
    s.scheduleIn n = (some (s.keySlot n).material, s) := by
  simp [scheduleIn, keyFetch, hserves, h]

/-- A slot of the wrong type fails the schedule unit and counts as a refused fetch. -/
theorem scheduleIn_of_unserved {s : State} {n : Nat} (h : serves .schedule n = false) :
    s.scheduleIn n = (none, (s.bump (Reg.KEYS_CNT 4) 1).emit (.keyFail n)) := by
  simp [scheduleIn, keyFetch, h]

/-- A slot without material is counted and reported. -/
theorem scheduleIn_of_empty {s : State} {n : Nat} (hserves : serves .schedule n = true) (h : (s.keySlot n).material = []) :
    s.scheduleIn n = (none, (s.bump (Reg.KEYS_CNT 8) 1).emit (.keyEmpty n)) := by
  simp [scheduleIn, keyFetch, hserves, h]

end State

end Sys2Proof.Machine

/-! # The block header: BLK_CTRL and the states of a block (O13) -/

namespace Sys2Proof.Machine

open State

/-! ## BLK_CTRL and the states of a block (spec/02) -/

namespace State

theorem getLsbD_setBits_ne (v : Word) {lo x i : Nat} (hlo : lo < 64) (hi : i ≠ lo) :
    (setBits v lo 1 x).getLsbD i = v.getLsbD i := by
  rw [setBits_getLsbD _ _ _ _ _ (by omega)]
  have hout : ¬ (lo ≤ i ∧ i < lo + 1) := by omega
  rw [if_neg hout]

theorem bitsOf_withBit_same (v : Word) {n : Nat} (hn : n < 64) : bitsOf (withBit v n) n 1 = 1 :=
  bitsOf_setBits_same v n 1 1 (by omega)

theorem bitsOf_withBit_ne (v : Word) {n i : Nat} (hn : n < 64) (hi : i ≠ n) : bitsOf (withBit v n) i 1 = bitsOf v i 1 :=
  bitsOf_setBits_ne v n 1 1 i 1 (by omega) (by omega)

theorem ctrlWrite_of_accepts {s : State} {page : BitVec 13} {b : BlockInfo} {n : Nat} (hpage : page ≠ 0)
    (hat : blockAt page.toNat = some (b, n)) (h : s.accepts (Reg.BLK_CTRL page.toNat)) (w : Word) :
    s.ctrlWrite page.toNat w = s.ctrlEffect b page.toNat w := by
  have hne : page.toNat ≠ 0 := fun h0 => hpage (BitVec.eq_of_toNat_eq h0)
  simp [ctrlWrite, hne, hat, barWrite_of_accepts h, h.1]

theorem ctrlWrite_zero {s : State} (h : s.barReachable = true) (w : Word) :
    s.ctrlWrite 0 w = s.discard (Reg.BLK_CTRL 0) false true .readOnly := by
  simp [ctrlWrite, h]

section
variable (s : State) (b : BlockInfo) (page : Nat) (w : Word)

theorem fld_ctrlFields_ne {g : Fld} (h : g.key ≠ Reg.BLK_CTRL page) : (s.ctrlFields b page w).fld g = s.fld g := by
  rw [ctrlFields, fld_setFld_ne _ _ _ _ h, fld_setFld_ne _ _ _ _ h, fld_setFld_ne _ _ _ _ h]

@[simp] theorem blk_ctrlFields : (s.ctrlFields b page w).blk page = s.blk page := fld_ctrlFields_ne s b page w (by simp)

@[simp] theorem pwr_ctrlFields : (s.ctrlFields b page w).pwr page = s.pwr page := fld_ctrlFields_ne s b page w (by simp)

@[simp] theorem resetBusy_ctrlFields :
    (s.ctrlFields b page w).bit (Reg.BLK_STATE_RESET_BUSY page) = s.bit (Reg.BLK_STATE_RESET_BUSY page) := by
  rw [bit, bit, fld_ctrlFields_ne s b page w (by simp)]

@[simp] theorem enable_ctrlFields : (s.ctrlFields b page w).bit (Reg.BLK_CTRL_ENABLE page) = (bitsOf w 0 1 != 0) := by
  rw [bit, ctrlFields, fld_setFld_same _ _ _ (by simp)]
  simp [bitsOf]

@[simp] theorem drain_ctrlFields :
    (s.ctrlFields b page w).bit (Reg.BLK_CTRL_DRAIN page) = (b.drainable && bitsOf w 1 1 != 0) := by
  rw [bit, ctrlFields, fld_setFld_disjoint _ (Reg.BLK_CTRL_ENABLE page) (Reg.BLK_CTRL_DRAIN page) _ rfl (by simp) (by simp),
    fld_setFld_same _ _ _ (by simp)]
  cases b.drainable <;> simp [bitsOf]

end

/-- A value without SOFT_RESET and COMMIT writes the fields, and the block follows DRAIN and ENABLE. -/
theorem ctrlEffect_of_fields {s : State} (b : BlockInfo) {page : Nat} {w : Word} (hsoft : w.getLsbD 2 = false)
    (hcommit : w.getLsbD 3 = false) (hbusy : s.bit (Reg.BLK_STATE_RESET_BUSY page) = false) :
    s.ctrlEffect b page w = (s.ctrlFields b page w).ctrlEvents page := by
  simp only [ctrlEffect, hsoft, hcommit, resetBusy_ctrlFields, hbusy, Bool.false_and, Bool.or_self, Bool.false_eq_true, if_false]

theorem ctrlEvents_of_off {s : State} {page : Nat} (hoff : s.blk page = OFF) (hpwr : s.pwr page = PWR_ON)
    (hen : s.bit (Reg.BLK_CTRL_ENABLE page) = true) : s.ctrlEvents page = s.enter page STARTING := by
  simp [ctrlEvents, hoff, hpwr, hen]

theorem ctrlEvents_of_active {s : State} {page : Nat} (hactive : s.blk page = ACTIVE) :
    s.ctrlEvents page =
      if s.bit (Reg.BLK_CTRL_DRAIN page) = true ∨ s.bit (Reg.BLK_CTRL_ENABLE page) = false then s.enter page DRAINING else s := by
  simp [ctrlEvents, hactive, ACTIVE, OFF]

/-- COMMIT in an ACTIVE block that commits alone is kept for its boundary. -/
theorem commitAsk_of_active {s : State} {page : Nat} {b : BlockInfo} {n : Nat} (hat : blockAt page = some (b, n))
    (hstaging : b.staging = true) (halone : commitPages page = [page]) (hactive : s.blk page = ACTIVE)
    (hpending : s.bit (Reg.BLK_STATE_COMMIT_PENDING page) = false) :
    s.commitAsk page = s.setBit (Reg.BLK_STATE_COMMIT_PENDING page) true := by
  simp [commitAsk, commitNow, canCommit, hat, hstaging, halone, hactive, hpending, ACTIVE, OFF, DRAINED, SPARE, FAILED, RETIRED]

theorem blk_commitPending (s : State) (page : Nat) (v : Bool) :
    (s.setBit (Reg.BLK_STATE_COMMIT_PENDING page) v).blk page = s.blk page :=
  fld_setFld_disjoint _ _ _ _ rfl (by simp) (by simp)

theorem resetBusy_commitPending (s : State) (page : Nat) (v : Bool) :
    (s.setBit (Reg.BLK_STATE_COMMIT_PENDING page) v).bit (Reg.BLK_STATE_RESET_BUSY page) = s.bit (Reg.BLK_STATE_RESET_BUSY page) := by
  rw [bit, bit, setBit,
    fld_setFld_disjoint _ (Reg.BLK_STATE_COMMIT_PENDING page) (Reg.BLK_STATE_RESET_BUSY page) _ rfl (by simp) (by simp)]

end State

/-- Settles O13: a write of BLK_CTRL runs `ctrlEffect`, whose fields decide the state that the block enters. -/
theorem blockStateEventsMoveTheBlock : Obligations.BlockStateEventsMoveTheBlock := by
  refine ⟨?_, ?_, ?_, ?_, ?_, ?_, ?_, ?_, ?_, ?_, ?_, ?_, ?_⟩
  · intro s page value b n hpage hat haccepts hsoft hcommit hoff hpwr hbusy
    rw [exec_blkEnable, execBlkEnable, ctrlWrite_of_accepts hpage hat haccepts, ctrlEffect_of_fields b ?_ ?_ hbusy,
      ctrlEvents_of_off (by simpa using hoff) (by simpa using hpwr)]
    · simp [bitsOf_withBit_same]
    · rwa [withBit, getLsbD_setBits_ne value (by decide) (by decide)]
    · rwa [withBit, getLsbD_setBits_ne value (by decide) (by decide)]
  · intro s page value b n hpage hat haccepts hsoft hcommit hactive hbusy
    rw [exec_blkDisable, execBlkDisable, ctrlWrite_of_accepts hpage hat haccepts, ctrlEffect_of_fields b ?_ ?_ hbusy,
      ctrlEvents_of_active (by simpa using hactive)]
    · simp [bitsOf_setBits_same]
    · rwa [getLsbD_setBits_ne value (by decide) (by decide)]
    · rwa [getLsbD_setBits_ne value (by decide) (by decide)]
  · intro s page value b n hpage hat hdrainable haccepts hsoft hcommit hactive hbusy
    rw [exec_blkDrain, execBlkDrain, ctrlWrite_of_accepts hpage hat haccepts, ctrlEffect_of_fields b ?_ ?_ hbusy,
      ctrlEvents_of_active (by simpa using hactive)]
    · simp [hdrainable, bitsOf_withBit_same]
    · rwa [withBit, getLsbD_setBits_ne value (by decide) (by decide)]
    · rwa [withBit, getLsbD_setBits_ne value (by decide) (by decide)]
  · intro s page value b n hpage hat hresettable haccepts hcommit hmay
    have hset : (withBit value 2).getLsbD 2 = true := by
      rw [withBit, setBits_getLsbD _ _ _ _ _ (by decide)]
      rfl
    have hkeep : (withBit value 2).getLsbD 3 = false := by rwa [withBit, getLsbD_setBits_ne value (by decide) (by decide)]
    rw [exec_softReset, execSoftReset, ctrlWrite_of_accepts hpage hat haccepts]
    simp only [ctrlEffect, hset, hkeep, hresettable, hmay, Bool.false_and, Bool.and_self, Bool.not_true, Bool.and_false, Bool.or_self,
      Bool.false_eq_true, if_false, if_true]
  · rintro s t page hbusy rfl
    rw [exec_softResetDone, execSoftResetDone, softDone, hbusy]
    cases hat : blockAt page.toNat with
    | none => simp
    | some x =>
      obtain ⟨b, q⟩ := x
      cases htype : b.type <;> simp [htype]
  · intro s page value b n hpage hat hstaging halone haccepts hsoft hen hdrain hactive hpending hbusy
    have hset : (withBit value 3).getLsbD 3 = true := by
      rw [withBit, setBits_getLsbD _ _ _ _ _ (by decide)]
      rfl
    have hkeep : (withBit value 3).getLsbD 2 = false := by rwa [withBit, getLsbD_setBits_ne value (by decide) (by decide)]
    have hcan : s.canCommit page.toNat = true := by simp [canCommit, hactive, ACTIVE, FAILED, RETIRED]
    rw [exec_blkCommit, execBlkCommit, ctrlWrite_of_accepts hpage hat haccepts]
    simp only [ctrlEffect, hset, hkeep, hstaging, hcan, commitAsk_of_active hat hstaging halone hactive hpending, Bool.false_and,
      Bool.and_self, Bool.not_true, Bool.and_false, Bool.or_self, Bool.false_eq_true, if_false, if_true, resetBusy_ctrlFields,
      resetBusy_commitPending, hbusy]
    rw [ctrlEvents_of_active (by rw [blk_ctrlFields, blk_commitPending, hactive])]
    simp [bitsOf_withBit_ne, hen, hdrain]
  · intro s page hpending haddr hnow
    have hold : (decide (page.toNat = Reg.HEDDLE_PAGE) && s.fab.addrOld) = false := by
      by_cases h : page.toNat = Reg.HEDDLE_PAGE
      · simp [haddr h]
      · simp [h]
    simp only [exec_blkCommitApply, execBlkCommitApply, hpending, hold, hnow, Bool.not_false, Bool.and_self, if_true]
  · intro s page hstarting hloom hrole
    have hwaits : ((decide (page.toNat = Reg.LOOM_PAGE 0) || decide (page.toNat = Reg.LOOM_PAGE 1)) &&
        !(s.chip.steps.contains 12 && (s.dk.passed || s.bit Reg.DIKOR_STATUS_ABSENT || decide (s.lstate = 10) ||
          decide (s.lstate = 11)))) = false := by
      by_cases h : page.toNat = Reg.LOOM_PAGE 0 ∨ page.toNat = Reg.LOOM_PAGE 1
      · obtain ⟨hsteps, hlink⟩ := hloom h
        have hsettled : (s.dk.passed || s.bit Reg.DIKOR_STATUS_ABSENT || decide (s.lstate = 10) || decide (s.lstate = 11)) = true := by
          simpa [or_assoc] using hlink
        simp only [hsteps, hsettled, Bool.and_self, Bool.not_true, Bool.and_false]
      · obtain ⟨h0, h1⟩ := not_or.mp h
        simp only [h0, h1, decide_false, Bool.or_self, Bool.false_and]
    simp only [exec_initComplete, execInitComplete, hstarting, hwaits, hrole, bne_self_eq_false, Bool.or_self, Bool.false_eq_true,
      if_false, decide_false, Bool.false_and]
  · intro s page b n hblk hat hspare hloom0 hloom1 hrole
    simp [execInitComplete, hblk, hat, hspare, hloom0, hloom1, hrole]
  · intro s page hblk hover
    simp [execDrainComplete, hblk, hover]
  · intro s page hblk
    simp [execFailedWorkMoved, hblk]
  · intro s page value b n hpage hat haccepts
    simp only [exec_blkEnable, execBlkEnable, exec_blkDisable, execBlkDisable, exec_blkDrain, execBlkDrain, exec_softReset, execSoftReset,
      exec_blkCommit, execBlkCommit, ctrlWrite_of_accepts hpage hat haccepts, and_self]
  · rintro s t value hreach rfl
    simp [execBlkEnable, execBlkDisable, execBlkDrain, execSoftReset, execBlkCommit, ctrlWrite_zero hreach]

end Sys2Proof.Machine

/-! # Registers, interrupt bits and the time base (O14) -/

namespace Sys2Proof.Machine

open State

/-! ## Accesses of the registers behind BAR0 (spec/02) -/

namespace State

/-- An aligned 64-bit write of a block's register is that register's write. -/
theorem regWrite_of_block {s : State} {addr page : Nat} {r : RegDesc} (hreach : s.barReachable = true) (halign : addr % 8 = 0)
    (hat : regAt addr = .block page r) (w : Word) : s.regWrite addr 8 w = s.blockWrite addr page r w := by
  have hword : addr / 8 * 8 = addr := by omega
  simp [regWrite, hreach, hword, hat, halign]

/-- A write that no cause discards, of a register without a rule of its own for the write. -/
theorem blockWrite_of_written {s : State} {addr page : Nat} {r : RegDesc} {w v : Word} (hpwr : s.pwr page = PWR_ON)
    (hstage : (r.staged && s.bit (Reg.BLK_STATE_COMMIT_PENDING page)) = false) (hneeds : (needsSession addr && !s.adminOpen) = false)
    (hwritten : regDescWrite r s.rwlLocked (s.reg addr) w = .inr v) :
    s.blockWrite addr page r w =
      if addr = Reg.TIME_STEP then s.timeStepWrite w
      else if reservedCard page (addr % 0x10000) then s
      else if addr = Reg.CHIP_ACCESS_ERR then (if w.getLsbD 0 then s.setReg addr 0 else s)
      else if addr = Reg.CHIP_ACCESS_ERR_CNT then (if w.setWidth 32 = (0 : BitVec 32) then s else s.setReg addr 0)
      else (s.ringSizeWrite addr v).regHook page addr := by
  simp only [blockWrite, hpwr, hstage, hneeds, hwritten, bne_self_eq_false, Bool.false_eq_true, if_false]

end State

theorem regDescWrite_of_changeable {r : RegDesc} {locked : Bool} (h : r.fields.any (fun f => accChangeable locked f.acc) = true)
    (old w : Word) : ∃ v, regDescWrite r locked old w = .inr v :=
  ⟨_, if_pos h⟩

theorem regAt_accessErr : ∃ r, regAt Reg.CHIP_ACCESS_ERR = .block Reg.CHIP_PAGE r ∧ r.staged = false ∧
    ∀ locked, r.fields.any (fun f => accChangeable locked f.acc) = true :=
  ⟨_, rfl, rfl, by decide⟩

theorem regAt_accessErrCnt : ∃ r, regAt Reg.CHIP_ACCESS_ERR_CNT = .block Reg.CHIP_PAGE r ∧ r.staged = false ∧
    ∀ locked, r.fields.any (fun f => accChangeable locked f.acc) = true :=
  ⟨_, rfl, rfl, by decide⟩

theorem regAt_timeNow : ∃ r, regAt Reg.TIME_NOW = .block Reg.TIME_PAGE r := ⟨_, rfl⟩

namespace State

/-- Writing 1 to VALID of the access-error capture clears it. -/
theorem regWrite_accessErr {s : State} {value : Word} (hreach : s.barReachable = true) (hpwr : s.pwr Reg.CHIP_PAGE = PWR_ON)
    (hvalid : value.getLsbD 0 = true) : s.regWrite Reg.CHIP_ACCESS_ERR 8 value = s.setReg Reg.CHIP_ACCESS_ERR 0 := by
  obtain ⟨r, hat, hstaged, hchange⟩ := regAt_accessErr
  obtain ⟨v, hv⟩ := regDescWrite_of_changeable (hchange s.rwlLocked) (s.reg Reg.CHIP_ACCESS_ERR) value
  have hneeds : needsSession Reg.CHIP_ACCESS_ERR = false := by decide
  have hcard : reservedCard Reg.CHIP_PAGE (Reg.CHIP_ACCESS_ERR % 0x10000) = false := by decide
  rw [regWrite_of_block hreach (by decide) hat, blockWrite_of_written hpwr (by rw [hstaged]; rfl) (by rw [hneeds]; rfl) hv,
    if_neg (by decide), if_neg (by rw [hcard]; decide), if_pos rfl, if_pos hvalid]

/-- A count write that is not zero clears the count of access errors. -/
theorem regWrite_accessErrCnt {s : State} {value : Word} (hreach : s.barReachable = true) (hpwr : s.pwr Reg.CHIP_PAGE = PWR_ON)
    (hcount : value.setWidth 32 ≠ (0 : BitVec 32)) :
    s.regWrite Reg.CHIP_ACCESS_ERR_CNT 8 value = s.setReg Reg.CHIP_ACCESS_ERR_CNT 0 := by
  obtain ⟨r, hat, hstaged, hchange⟩ := regAt_accessErrCnt
  obtain ⟨v, hv⟩ := regDescWrite_of_changeable (hchange s.rwlLocked) (s.reg Reg.CHIP_ACCESS_ERR_CNT) value
  have hneeds : needsSession Reg.CHIP_ACCESS_ERR_CNT = false := by decide
  have hcard : reservedCard Reg.CHIP_PAGE (Reg.CHIP_ACCESS_ERR_CNT % 0x10000) = false := by decide
  rw [regWrite_of_block hreach (by decide) hat, blockWrite_of_written hpwr (by rw [hstaged]; rfl) (by rw [hneeds]; rfl) hv,
    if_neg (by decide), if_neg (by rw [hcard]; decide), if_neg (by decide), if_pos rfl, if_neg hcount]

theorem rawWrite_of_accepts {s : State} {page : Nat} (hpage : page ≠ 0) (hblock : (blockAt page).isSome = true)
    (haccepts : s.accepts (Reg.BLK_INT_RAW page)) (w : Word) : s.rawWrite page w = (s.clearRaw page w).intcEval := by
  have hsome : (blockAt page).isNone = false := by rw [Option.isNone_eq_false_iff, hblock]
  simp only [rawWrite, haccepts.1, hpage, hsome, barWrite_of_accepts haccepts, Bool.not_true, Bool.false_eq_true, if_false]

/-- The low read of NOW answers the lower half and latches the upper one. -/
theorem badRead_timeNow {s : State} (hreach : s.barReachable = true) (hpwr : s.pwr Reg.TIME_PAGE = PWR_ON) :
    s.badRead Reg.TIME_NOW 4 = { s with chip.nowHigh := some (BitVec.ofNat 32 (s.now / 2 ^ 32)) }.emit
      (.barData (BitVec.ofNat 64 (s.now % 2 ^ 32))) := by
  obtain ⟨r, hat⟩ := regAt_timeNow
  have hword : Reg.TIME_NOW / 8 * 8 = Reg.TIME_NOW := by decide
  have hpage : Reg.TIME_NOW / 0x10000 = Reg.TIME_PAGE := by decide
  have hread : s.regRead Reg.TIME_NOW = BitVec.ofNat 64 s.now := by
    rw [regRead, if_neg (by decide), if_pos rfl]
  have hlow : bitsOf (BitVec.ofNat 64 s.now) 0 32 = s.now % 2 ^ 32 := by
    rw [bitsOf, BitVec.toNat_ofNat]
    omega
  have hgood : s.goodRead Reg.TIME_NOW 4 = { s with chip.nowHigh := some (BitVec.ofNat 32 (s.now / 2 ^ 32)) }.emit
      (.barData (BitVec.ofNat 64 (s.now % 2 ^ 32))) := by
    rw [← hlow, ← hread]
    rfl
  simp only [badRead, hword, hat, hpage, hpwr, hreach, hgood] <;> rfl

end State

/-- Settles O14: an access that passes its checks is one write or one read of its register, and each event of the time base is
one write of TIME.STATUS.STATE. -/
theorem registerAccessesAndTimeEventsComplete : Obligations.RegisterAccessesAndTimeEventsComplete := by
  refine ⟨?_, ?_, ?_, ?_, ?_, ?_, ?_, ?_, ?_, ?_, ?_, ?_, ?_⟩
  · intro s addr value v page r hreach halign hat hpwr hstaged hneeds hwritten hstep hcard herr hcnt
    rw [exec_registerWrite, execRegisterWrite, regWrite_of_block hreach halign hat, blockWrite_of_written hpwr hstaged hneeds hwritten]
    simp only [hstep, hcard, herr, hcnt, if_false, Bool.false_eq_true]
  · intro s addr hreach hat halign
    simp [execDiscardedRead, badRead, zeroRead, hreach, hat, halign]
  · intro s addr hreach hat
    simp [execDiscardedRead, badRead, zeroRead, hreach, hat]
  · intro s page value hpage hblock haccepts
    have hne : page.toNat ≠ 0 := fun h0 => hpage (BitVec.eq_of_toNat_eq h0)
    rw [exec_intRawClear, execIntRawClear, rawWrite_of_accepts hne hblock haccepts, clearRaw]
  · intro s value hreach hpwr hvalid
    rw [exec_accessErrRearm, execAccessErrRearm, regWrite_accessErr hreach hpwr hvalid]
  · intro s value hreach hpwr hcount
    rw [exec_accessErrCntClear, execAccessErrCntClear, regWrite_accessErrCnt hreach hpwr hcount]
  · rintro s t ns haccepts hunsynced hleft rfl
    simp only [exec_timeStep, execTimeStep, barWrite_of_accepts haccepts, timeStepWrite, hunsynced, hleft] <;> rfl
  · intro s hreach hpwr
    rw [exec_timeNowLowRead, execTimeNowLowRead, badRead_timeNow hreach hpwr]
  · intro s hstate
    simp [execTimeLocked, timeMove, hstate]
  · intro s hstate
    simp [execTimeSourceLost, timeMove, hstate]
  · intro s hstate
    simp [execTimeSourceReturn, timeMove, hstate]
  · intro s hcond
    simp [execPpsInEdge, hcond]
  · intro s hreset hfatal hen
    simp [execPpsOutPulse, hreset, hfatal, hen]

end Sys2Proof.Machine

/-! # Resets and hold-up (O19) -/

namespace Sys2Proof.Machine

open State

/-- PWR_FAIL_N falling at a serving head with trained DRAM begins hold-up. -/
theorem State.pwrFail_of_serving {s : State} (hphase : s.life.phase = .idle) (hmain : s.chip.mainPwrOk = true)
    (hcond : s.chip.cond = .serving) (hholdup : s.chip.holdup = false) (htrained : s.dramTrained = true) :
    s.pwrFail = { s with chip.pwrFailN := false }.holdupBegin := by
  simp only [dramTrained, List.contains_eq_mem, decide_eq_true_eq] at htrained
  simp [pwrFail, dramTrained, hmain, hphase, hcond, hholdup, htrained]

/-- Settles O19: each reset pin's edge has one effect, that of the chip's reset, of the ROM's start or of hold-up. -/
theorem resetAndHoldupCommandsComplete : Obligations.ResetAndHoldupCommandsComplete := by
  refine ⟨?_, ?_, ?_, ?_, ?_, ?_, ?_, ?_, ?_, ?_, ?_⟩
  · intro s hstbyPwrOk
    simp [execStandbyPowerLoss, hstbyPwrOk]
  · intro s hstbyPwrOk hchipResetN
    simp [execStandbyPowerGood, hstbyPwrOk, hchipResetN]
  · intro s hchipResetN
    simp [execChipResetAssert, hchipResetN]
  · intro s boot rtc hchipResetN hstbyPwrOk
    simp [execChipResetRelease, hchipResetN, hstbyPwrOk]
  · intro s hmainPwrOk
    simp [execMainPowerLoss, hmainPwrOk]
  · intro s hpwrFailN hphase hmainPwrOk hcond hholdup hdramTrained
    simp only [exec_pwrFailAssert, execPwrFailAssert, hpwrFailN, if_true, pwrFail_of_serving hphase hmainPwrOk hcond hholdup hdramTrained]
  · intro s hcond
    simp [execPwrFailGlitch, hcond]
  · intro s a d hdumpOpen hholdup hdumpWritten
    have hgo : (s.chip.holdup && s.dumpWritten a d) = true := by rw [hholdup, hdumpWritten]; rfl
    rw [exec_holdupDumpComplete, execHoldupDumpComplete, dumpDone, hdumpOpen]
    exact congrArg Host.Outcome.next (if_pos hgo)
  · intro s
    simp [execPwrFailRelease]
  · intro s hholdup hholdupDone hpwrFailN
    simp [execHoldupSelfReset, hholdup, hholdupDone, hpwrFailN]
  · rintro s t u v b hcond hclocksOff rfl rfl rfl rfl
    simp [execBeatBoundary, beatBoundary, hcond, hclocksOff]

end Sys2Proof.Machine

/-! # The life cycle (O20) -/

namespace Sys2Proof.Machine

open State

namespace State

theorem lifeReqWrite_of_accepts {s : State} (h : s.accepts Reg.LIFE_REQ) (target : Nat) (confirm : BitVec 8) :
    s.lifeReqWrite target confirm = s.lifeRequest target (confirm == ~~~(BitVec.ofNat 8 target)) := by
  simp [lifeReqWrite, barWrite_of_accepts h, h.2]

theorem lifeRequest_of_allowed {s : State} {target : Nat} {confirmed : Bool} (h : s.lifeRefusal target confirmed = none) :
    s.lifeRequest target confirmed = s.lifeBegin target := by
  rw [lifeRequest, h]

end State

/-- Settles O20: an accepted LIFE.REQ that `lifeRefusal` does not refuse begins, and each cell and each work leads on. -/
theorem lifeCycleRequestsBeginAndTheirFusesFollow : Obligations.LifeCycleRequestsBeginAndTheirFusesFollow := by
  refine ⟨?_, ?_, ?_, ?_, ?_, ?_, ?_, ?_⟩
  · intro s haccepts hadmin hbusy hincomplete hstate
    rw [exec_lifeReqProvision, execLifeReqProvision, lifeReqWrite_of_accepts haccepts,
      lifeRequest_of_allowed (by simp [lifeRefusal, transitionOk, hadmin, hbusy, hincomplete, hstate])]
  · intro s haccepts hadmin hbusy hincomplete hstate
    rw [exec_lifeReqDeployed, execLifeReqDeployed, lifeReqWrite_of_accepts haccepts,
      lifeRequest_of_allowed (by simp [lifeRefusal, transitionOk, hadmin, hbusy, hincomplete, hstate])]
  · intro s haccepts hadmin hbusy hincomplete hstate hdata
    rw [exec_lifeReqReturn, execLifeReqReturn, lifeReqWrite_of_accepts haccepts,
      lifeRequest_of_allowed (by
        rcases hstate with hstate | hstate <;> simp [lifeRefusal, transitionOk, hadmin, hbusy, hincomplete, hstate, hdata])]
  · intro s haccepts hadmin hbusy hincomplete hstate hdata
    rw [exec_lifeReqScrap, execLifeReqScrap, lifeReqWrite_of_accepts haccepts,
      lifeRequest_of_allowed (by simp [lifeRefusal, transitionOk, hadmin, hbusy, hincomplete, hstate, hdata])]
  · intro s cell hphase hcell hstopping
    simp [execFuseCellBlown, cellDone, intentNext, hphase, hcell, hstopping]
  · intro s cell retries hphase hcell hstopping
    simp [execFuseCellBlown, cellDone, commitNext, hphase, hcell, hstopping]
  · intro s hphase hfld
    simp [execLifeWorkDone, workDone, hphase, hfld] <;> rfl
  · intro s hphase hfld
    simp [execLifeWorkDone, workDone, hphase, hfld] <;> rfl

end Sys2Proof.Machine

/-! # I/O commands before admission (O26) -/

namespace Sys2Proof.Machine

open State

namespace State

/-- An I/O command whose checks before admission pass is submitted as the command that its operands build. -/
theorem ioSubmit_of_ioClear {s t : State} {cmd : CmdFrom} {nsid : Nat} {e : ConnEntry} {r : ConnRt} {k : Nat} {c : Ctrl} {vol : Nat}
    {v : Volume} {kind : CmdKind} {ranges extra : List (Nat × Nat)} {pi : PiReq} {data : Bytes} {bad : Volume → Bool}
    (hio : s.ioAt cmd nsid e r k c vol v t) (hclear : t.ioClear cmd e r c vol v kind ranges extra pi data) (hbad : bad v = false)
    (src : Nat) (fua : Bool) (st : Standby) :
    s.ioSubmit cmd nsid kind ranges src extra fua pi data bad st =
      t.submit v (t.ioNew cmd e vol v kind ranges src fua pi data) (t.ioRaise e vol v kind ranges fua pi) st := by
  obtain ⟨hcid, hblocks, hbytes, hdata, hin, htag, hresv, hintake, hbusy, hkey⟩ := hclear
  have hrt : t.connRt? cmd.conn.val = some r := by
    obtain ⟨⟨-, -, hrt, -⟩, -⟩ := hio
    exact hrt
  have hsize : (bad v || (moves kind && (decide (2097152 < moved kind v ranges pi) || decide (blocksOf ranges = 0))) ||
      decide (8192 < data.length)) = false := by
    have hnot : ¬ 2097152 < moved kind v ranges pi := by omega
    have hnot' : ¬ 8192 < data.length := by omega
    simp only [hbad, decide_eq_false hnot, decide_eq_false hnot', Bool.false_or, Bool.or_false]
    cases hmoves : moves kind with
    | false => rfl
    | true => exact decide_eq_false (Nat.ne_of_gt (hblocks hmoves))
  have htag' : (decide (v.lbaf = 1) && moves kind && decide (pi.prchk.toNat % 2 = 1) &&
      (pi.ilbrt.toNat != (ranges.headD (0, 0)).1 % 2 ^ 48)) = false := by
    rw [Bool.eq_false_iff]
    intro h
    simp only [Bool.and_eq_true, decide_eq_true_eq, bne_iff_ne] at h
    obtain ⟨⟨⟨hlbaf, hmoves⟩, hchk⟩, hne⟩ := h
    exact hne (htag hlbaf hmoves hchk)
  have hintake' : ((kind == .write || kind == .compare) && decide (e.typ = 1) && decide (data.length < moved kind v ranges pi) &&
      decide (((t.connRt? cmd.conn.val).map (fun x => x.granted)).getD 0 = 0)) = false := by
    rw [Bool.eq_false_iff]
    intro h
    simp only [Bool.and_eq_true, Bool.or_eq_true, decide_eq_true_eq, beq_iff_eq, hrt, Option.map_some, Option.getD_some] at h
    obtain ⟨⟨⟨hkind, htyp⟩, hlong⟩, hgranted⟩ := h
    rcases hintake hkind htyp with hfits | hsome
    · omega
    · exact hsome hgranted
  have hbusy' : (isWriteKind kind && t.busyWrite e.tenant) = false := by
    cases hwrite : isWriteKind kind with
    | false => rfl
    | true => exact hbusy hwrite
  have hkey' : (!isWriteKind kind && t.keyEmptyOf e.tenant &&
      (ranges.flatMap (fun x => spanGrains (grainSpan v.lbaf x.1 x.2))).any (fun g => (t.lookup vol g).isSome)) = false := by
    cases hwrite : isWriteKind kind with
    | true => rfl
    | false =>
      cases hempty : t.keyEmptyOf e.tenant with
      | false => rfl
      | true => exact hkey hwrite hempty
  rw [ioSubmit, ioCmd_of_ioAt hio]
  simp only [hcid, hin, hresv, hbusy', hkey', Bool.not_true, Bool.false_eq_true, if_false]
  rw [if_neg (by rw [hsize]; decide), if_neg (by rw [htag']; decide), if_neg (by rw [hintake']; decide)]

end State

/-- Settles O26: each command is an `ioSubmit` with its own kind and ranges, which `ioSubmit_of_ioClear` takes to admission. -/
theorem ioCommandsAreSubmittedToTheirOwner : Obligations.IoCommandsAreSubmittedToTheirOwner := by
  refine ⟨?_, ?_, ?_, ?_, ?_, ?_⟩
  · intro s t cmd nsid range fua pi data st e r k c vol v hio hclear
    rw [exec_write, execWrite, ioSubmit_of_ioClear hio hclear rfl]
  · intro s t cmd nsid range pi st e r k c vol v hio hclear
    rw [exec_read, execRead, ioSubmit_of_ioClear hio hclear rfl]
  · intro s t cmd nsid range pi data st e r k c vol v hio hclear
    rw [exec_compare, execCompare, ioSubmit_of_ioClear hio hclear rfl]
  · intro s t cmd nsid range fua st e r k c vol v hio hclear
    rw [exec_writeZeroes, execWriteZeroes, ioSubmit_of_ioClear hio hclear rfl]
  · intro s t cmd nsid ranges st e r k c vol v hio
    refine ⟨?_, ?_, ?_⟩
    · intro hclear hsome hmany
      have hbad : (decide (256 < ranges.length) || ranges.isEmpty) = false := by
        have hnot : ¬ 256 < ranges.length := by omega
        rw [decide_eq_false hnot, Bool.false_or, List.isEmpty_eq_false_iff]
        exact List.ne_nil_of_length_pos hsome
      rw [exec_datasetManagement, execDatasetManagement, if_pos rfl, ioSubmit_of_ioClear hio hclear hbad]
    · simp [execDatasetManagement, ioCmd_of_ioAt hio]
    · simp [execFlush, ioCmd_of_ioAt hio]
  · intro s t cmd nsid source dest fua st e r k c vol v hio hclear hsome hmany hapart
    rw [exec_copy, execCopy, ioSubmit_of_ioClear hio hclear]
    simp only [Bool.not_true, Bool.false_or, Bool.or_eq_false_iff, Bool.and_eq_false_iff, decide_eq_false_iff_not, beq_eq_false_iff_ne]
    omega

end Sys2Proof.Machine

/-! # TLS (O24) -/

namespace Sys2Proof.Machine

open State

/-- Settles O24: a handshake message on a TCP connection takes its frame, and its own checks decide between alert, answer and new keys. -/
theorem tlsEventsComplete : Obligations.TlsEventsComplete := by
  refine ⟨?_, ?_⟩
  · intro s t conn e r hello htakes htyp
    refine ⟨?_, ?_, ?_⟩
    · intro htls13
      simp [execTlsClientHello, onConn_of_takes htakes, htyp, htls13]
    · intro htls13 hcase
      rcases hcase with hcase | hcase | hcase <;> simp [execTlsClientHello, onConn_of_takes htakes, htyp, htls13, hcase]
    · rintro x k htls13 hsuites hmodes hpsk rfl
      refine ⟨?_, ?_⟩
      · intro hrefused
        simp [execTlsClientHello, onConn_of_takes htakes, htyp, htls13, hpsk, hrefused]
      · intro hslotType hslotFull hhs hhs2
        have hsuite : (hello.suite128 || hello.suite256) = true := by simpa using hsuites
        have hmode : (hello.pskKe || hello.dheGroup) = true := by simpa using hmodes
        have hroom : ¬ 512 ≤ t.fab.hs.length := by omega
        simp only [exec_tlsClientHello, execTlsClientHello, onConn_of_takes htakes, htyp, htls13, hsuite, hmode, hpsk, hslotType, hslotFull, hhs,
          hroom, bne_self_eq_false, Bool.not_true, Bool.or_self, Bool.false_eq_true, if_false, decide_false, Bool.false_and]
  · rintro s t conn e r txS rxS k htakes htyp hprot htx hrx htxMaterial hrxMaterial rfl
    have htxIn := scheduleIn_of_material (s := t) (serves_schedule (Or.inl htx)) htxMaterial
    have hrxIn := scheduleIn_of_material (s := t) (serves_schedule (Or.inl hrx)) hrxMaterial
    refine ⟨?_, ?_⟩
    · intro hkeySel
      simp [execKeyUpdate, onConn_of_takes htakes, htyp, hprot, htxIn, hrxIn, hkeySel]
    · intro hkeySel
      simp [execKeyUpdate, onConn_of_takes htakes, htyp, hprot, htxIn, hrxIn, hkeySel]

end Sys2Proof.Machine

/-! # Patrol, capacity and the segment query (O36) -/

namespace Sys2Proof.Machine

open State

/-- Settles O36: each command is unfolded once, and the cases of its record (the unit found, the segment, the member) decide. -/
theorem patrolCapacityAndQueryCommandsComplete : Obligations.PatrolCapacityAndQueryCommandsComplete := by
  refine ⟨?_, ?_, ?_, ?_, ?_⟩
  · intro s live metadata free reserved hlinkUp
    simp [execCapReport, hlinkUp]
  · rintro s t result o hserving rfl rfl
    refine ⟨?_, ?_⟩
    · intro hpatrolNext
      simp [execPatrolUnit, patrol, hserving, hpatrolNext] <;> rfl
    · rintro id row m g u hpatrolNext hseg rfl
      simp [execPatrolUnit, patrol, hserving, hpatrolNext, hseg] <;> rfl
  · rintro s n eta rfl rfl
    simp [execRebuildStatusPublish] <;> rfl
  · rintro s t media segment member haccepts rfl
    refine ⟨?_, ?_⟩
    · intro hseg
      simp [execSegmentQuery, segQuery, barWrite_of_accepts haccepts, hseg]
    · rintro g u hseg rfl
      refine ⟨?_, ?_⟩
      · intro hgetElem
        simp [execSegmentQuery, segQuery, barWrite_of_accepts haccepts, hseg, hgetElem]
      · intro m hgetElem
        simp [execSegmentQuery, segQuery, barWrite_of_accepts haccepts, hseg, hgetElem]
  · rintro s t u o p w raw data usable free live mt full past rfl rfl rfl rfl rfl rfl rfl rfl rfl rfl rfl rfl v rfl rfl
    simp [execCapacityRecompute, capacity, capacityShow]

end Sys2Proof.Machine

/-! # Sessions and tamper (O47) -/

namespace Sys2Proof.Machine

open State

/-- Settles O47: each command changes one context, session or latch; a register command first passes its access checks. -/
theorem sessionAndTamperCommandsComplete : Obligations.SessionAndTamperCommandsComplete := by
  refine ⟨?_, ?_, ?_, ?_, ?_, ?_, ?_, ?_, ?_, ?_, ?_, ?_, ?_, ?_, ?_, ?_, ?_, ?_⟩
  · intro s ctx alg
    simp [execDigestInit]
  · intro s ctx level hsessionKey
    simp [execDigestKeypadI, hsessionKey]
  · intro s ctx inner level msg hsessionKey htGet
    simp [execDigestKeypadO, hsessionKey, htGet]
  · intro s ctx source seq c htGet
    simp [execDigestRestore, htGet]
  · intro s ctx msg alg htGet
    simp [execDigestFinal, htGet]
  · intro s ctx msg value flipM flipN c htGet
    simp [execDigestFinalCompare, htGet]
  · intro s mr haccepts hmr hmr2
    simp [execMeasExtGo, barWrite_of_accepts haccepts, hmr, hmr2]
  · intro s hlockedMonitor htrngOn hrunning
    simp [execChallengeRequest, sessionAccess, locked, setChallenge, hlockedMonitor, htrngOn, hrunning]
  · intro s haccepts hlockedAdmin htrngOn hrunning
    simp [execChallengeRequest, sessionAccess, locked, emit, setChallenge, barWrite_of_accepts haccepts, hlockedAdmin, htrngOn, hrunning]
  · intro s c answer hchallenge hsessionKey
    simp [execChallengeResponse, sessionAccess, hchallenge, hsessionKey]
  · intro s level
    simp [execChallengeExpiry]
  · intro s id hfld
    simp [execSessionClose, hfld] <;> rfl
  · intro s id
    simp [execSessionClose]
  · intro s
    simp [execAdminIdleTimeout] <;> rfl
  · intro s
    refine ⟨?_, ?_⟩
    · simp [execSessionLockExpiry]
    · simp [execSessionLockExpiry]
  · rintro s u source standby sec frac htamperEnabled rfl
    simp [execTamperAlarm, htamperEnabled]
  · intro s source
    simp [execTamperAlarmEnd]
  · intro s confirm bad haccepts
    simp [execLifeTamperClear, barWrite_of_accepts haccepts]

end Sys2Proof.Machine

/-! # TEMPLE loops and fans (O50) -/

namespace Sys2Proof.Machine

open State

/-- Settles O50: TEMPLE_CTRL.ENABLE decides what a sample and a write do, and the set of stalled fans what the fans do. -/
theorem loopAndFanCommandsComplete : Obligations.LoopAndFanCommandsComplete := by
  refine ⟨?_, ?_, ?_, ?_, ?_, ?_, ?_⟩
  · rintro s t loop hbit rfl
    simp [execTempleLoopSample, hbit]
  · intro s loop hbit hloop
    simp [execTempleLoopSample, hbit, hloop]
  · intro s loop haccepts
    refine ⟨?_, ?_, ?_⟩
    · simp [execLoopEnable, barWrite_of_accepts haccepts]
    · intro hbit
      simp [execLoopEnable, barWrite_of_accepts haccepts, hbit]
    · intro hbit
      simp [execLoopEnable, barWrite_of_accepts haccepts, hbit]
  · intro s loop hold haccepts
    simp [execLoopHold, barWrite_of_accepts haccepts]
  · intro s loop haccepts
    simp [execLoopIReset, barWrite_of_accepts haccepts]
  · intro s fan
    simp [execFanStall]
  · rintro s fan left hact rfl
    simp [execFanRecover, hact]

end Sys2Proof.Machine

/-! # Boot steps (O15) -/

namespace Sys2Proof.Machine

open State

namespace State

/-- What step 7 does to one channel. -/
def trainChannel (bad : List Nat) (size rate : Nat) (t : State) (i : Nat) : State :=
  if bad.contains i then (t.setFld (Reg.DRAMC_STATUS_TRAIN i) 3).toState (Reg.DRAMC_PAGE i) FAILED
  else ((((t.setFld (Reg.DRAMC_STATUS_TRAIN i) 2).setFld (Reg.DRAMC_STATUS_SIZE_GIB i) size).setFld
    (Reg.DRAMC_STATUS_RATE_MTS i) rate).bootEnable (Reg.DRAMC_PAGE i))

/-- Step 7 goes on with at most one failed channel, and is fatal with more. -/
theorem dramTrain_of_ready {s t : State} {failed bad : List Nat} {size rate : Nat} (hcond : s.chip.cond = .booting)
    (hholdup : s.chip.holdup = false) (hsix : s.chip.steps.contains 6 = true) (hseven : s.chip.steps.contains 7 = false)
    (hpath : s.dataPath = true) (hbad : bad = failed.dedup) (ht : t = (List.range 16).foldl (trainChannel bad size rate) s) :
    s.dramTrain failed size rate =
      if 1 < bad.length then t.fatalEnter 9 7
      else ({ t with jr.lostCh := bad, jr.striped := upTo 16 (fun i => !bad.contains i), jr.openStripes := [], jr.laps := [] }.setFld
        Reg.SELV_STATUS_CHANNELS (16 - bad.length)).stepDone 7 := by
  have hgo : ¬ (s.chip.cond != .booting || s.chip.holdup || !s.chip.steps.contains 6 || s.chip.steps.contains 7 || !s.dataPath) = true := by
    rw [hcond, hholdup, hsix, hseven, hpath]
    decide
  have hchannel : (fun (t : State) (i : Nat) =>
      let t1 := t.setFld (Reg.DRAMC_STATUS_TRAIN i) (if (!bad.contains i) = true then 2 else 3)
      if (!bad.contains i) = true then
        ((t1.setFld (Reg.DRAMC_STATUS_SIZE_GIB i) size).setFld (Reg.DRAMC_STATUS_RATE_MTS i) rate).bootEnable (Reg.DRAMC_PAGE i)
      else t1.toState (Reg.DRAMC_PAGE i) FAILED) = trainChannel bad size rate := by
    funext t i
    rw [trainChannel]
    cases bad.contains i <;> rfl
  rw [ht, ← hchannel, hbad]
  exact if_neg hgo

/-- Step 13 replays, takes over what was won alone, sends a joining partner its records, and lets the head serve. -/
theorem replayDone_of_may {s t u : State} {partnerMissing : Bool} {scan : List ScanRow} (hmay : s.replayMay = true)
    (ht : t = ((s.replay (s.role == 3 || partnerMissing) (s.role == 3 || partnerMissing) scan).dropUnkept).stepDone 13)
    (hu : u = match t.own.move with
      | some m => if m.cause = 3 ∧ s.role = 3 then { t with own.move := none }.takeover m m.won.length else t
      | none => t) :
    s.replayDone partnerMissing scan =
      ((if s.role ≠ 3 ∧ (u.own.join.map (fun j => j.sent)).getD true = false then u.joinSend
        else u).joinEval.coldEval.loomEval.serveEval.sanResume).ownShow := by
  have hgo : ¬ (!s.replayMay) = true := by rw [hmay]; decide
  have hrole : (s.role == 3) = decide (s.role = 3) := rfl
  have hsend : (if (!decide (s.role = 3) && !(u.own.join.map (fun j => j.sent)).getD true) = true then u.joinSend else u) =
      if s.role ≠ 3 ∧ (u.own.join.map (fun j => j.sent)).getD true = false then u.joinSend else u :=
    if_congr (by simp) rfl rfl
  have hmove : (match t.own.move with
      | some m => if (decide (m.cause = 3) && decide (s.role = 3)) = true then { t with own.move := none }.takeover m m.won.length else t
      | none => t) = u := by
    rw [hu]
    cases t.own.move with
    | none => rfl
    | some m => exact if_congr (by simp) rfl rfl
  rw [replayDone, if_neg hgo]
  dsimp only
  rw [hrole] at ht
  rw [← ht, ← hsend, ← hmove] <;> rfl

end State

/-- Settles O15: each boot step runs in its place: what is behind decides that it may, and its outcome what follows. -/
theorem bootStepsComplete : Obligations.BootStepsComplete := by
  refine ⟨?_, ?_, ?_, ?_, ?_, ?_, ?_, ?_, ?_, ?_⟩
  · intro s flipM flipN i hrunning hcond hx hslotImage
    simp_all [execMgmtImageLoaded, imageLoaded]
  · rintro s t deckOk hcond hsteps hsteps2 hpwrFailN hholdup rfl
    simp only [exec_mainPowerGood, execMainPowerGood, mainGood, mainEval, pwrFail, hcond, hsteps, hsteps2, hpwrFailN, hholdup,
      if_true, if_false, decide_true, Bool.not_true, Bool.not_false, Bool.false_eq_true, Bool.and_self]
  · rintro s t rfl
    simp [mainStart]
  · intro s t failed bad size rate hcond hholdup hsteps hsteps2 hpath hbad ht
    have htrained : t = (List.range 16).foldl (trainChannel bad size rate) s := ht
    refine ⟨?_, ?_⟩
    · intro hfew
      rw [exec_dramTrainingDone, execDramTrainingDone, dramTrain_of_ready hcond hholdup hsteps hsteps2 hpath hbad htrained,
        if_neg (by omega)]
    · intro hmany
      rw [exec_dramTrainingDone, execDramTrainingDone, dramTrain_of_ready hcond hholdup hsteps hsteps2 hpath hbad htrained,
        if_pos hmany]
  · rintro s t hcond hholdup hsteps hsteps2 rfl
    simp only [exec_dramInitDone, execDramInitDone, dramInit, hcond, hholdup, hsteps, hsteps2, if_false, Bool.not_true,
      Bool.false_eq_true, Bool.or_self, bne_self_eq_false]
  · rintro s t flipM flipN i hcond hholdup hsteps hsteps2 hdataPath hslotImage rfl
    simp only [exec_svcImageLoaded, execSvcImageLoaded, svcImage, hcond, hholdup, hsteps, hsteps2, hdataPath, hslotImage,
      if_false, Bool.not_true, Bool.false_eq_true, Bool.or_self, bne_self_eq_false]
  · intro s hcond hholdup hsteps hsteps2
    simp only [exec_modulePortsReady, execModulePortsReady, portsReady, hcond, hholdup, hsteps, hsteps2, if_false, Bool.not_true,
      Bool.false_eq_true, Bool.or_self, bne_self_eq_false]
  · rintro s t partner hcond hholdup hsteps hsteps2 hdataPath rfl
    simp only [exec_checkpointRootsLoaded, execCheckpointRootsLoaded, rootsLoaded, hcond, hholdup, hsteps, hsteps2, hdataPath,
      if_false, decide_false, reduceCtorEq, Bool.false_and, Bool.not_true, Bool.false_eq_true, Bool.or_self, bne_self_eq_false]
  · intro s t u partnerMissing scan hmay ht hu
    rw [exec_journalReplayDone, execJournalReplayDone, replayDone_of_may hmay ht hu]
  · intro s area
    refine ⟨?_, ?_⟩
    · simp [execDumpConsumed]
    · intro d hdump hconsumed hresult hsteps hown hmirror
      have hleft : (s.jr.own.any (fun r => !r.flashed && d.own.any (fun x => x.seq == r.seq)) ||
          s.jr.mir.any (fun r => !r.flashed && decide (r.seq < s.own.adopted) && d.mirror.any (fun x => x.seq == r.seq))) = false := by
        rw [Bool.or_eq_false_iff, List.any_eq_false, List.any_eq_false]
        refine ⟨fun r hr => ?_, fun r hr => ?_⟩
        · rcases hown r hr with hflashed | hgone
          · simp [hflashed]
          · simp only [Bool.and_eq_true, List.any_eq_true, beq_iff_eq, not_and, not_exists]
            exact fun _ x hx => hgone x hx
        · rcases hmirror r hr with hflashed | hadopted | hgone
          · simp [hflashed]
          · simp [hadopted]
          · simp only [Bool.and_eq_true, List.any_eq_true, beq_iff_eq, not_and, not_exists]
            exact fun _ x hx => hgone x hx
      rw [exec_dumpConsumed, execDumpConsumed, dumpConsume, hdump]
      refine congrArg Host.Outcome.next (if_neg ?_)
      rw [hconsumed, hsteps, hleft, decide_eq_false hresult]
      decide

end Sys2Proof.Machine

/-! # Faults of blocks (O16) -/

namespace Sys2Proof.Machine

open State

theorem page_of_loom {page : Nat} {b : BlockInfo} {n : Nat} (hat : blockAt page = some (b, n)) (htype : b.type = .loom) :
    page = Reg.LOOM_PAGE n := by
  obtain ⟨hmem, hpage⟩ := blockAt_eq_some hat
  have hloom : ∀ x ∈ blockTable, x.type = .loom → x.page = 30 := by decide
  rw [hpage, hloom b hmem htype]

theorem page_of_media {page : Nat} {b : BlockInfo} {n : Nat} (hat : blockAt page = some (b, n)) (htype : b.type = .media) :
    page = Reg.MEDIA_PAGE n := by
  obtain ⟨hmem, hpage⟩ := blockAt_eq_some hat
  have hmedia : ∀ x ∈ blockTable, x.type = .media → x.page = 53 := by decide
  rw [hpage, hmedia b hmem htype]

/-- The fault of a page without a block, and of a block that cannot fail, changes nothing. -/
theorem State.blockFault_of_none {s : State} {page : Nat} (h : blockAt page = none ∨ s.canFail page = false) : s.blockFault page = s := by
  rcases h with hnone | hcannot
  · simp [blockFault, hnone]
  · cases hat : blockAt page <;> simp [blockFault, hat, hcannot]

/-- Settles O16: `canFail` decides whether a fault has an effect, and the type of the block on the page decides which. -/
theorem faultsTakeTheirPartOutOfService : Obligations.FaultsTakeTheirPartOutOfService := by
  refine ⟨?_, ?_, ?_, ?_, ?_, ?_⟩
  · intro s page hnone
    rw [exec_blockFault, execBlockFault, blockFault_of_none hnone]
  · intro s page b n hblockAt hcanFail htype htype2 htype3 htype4 htype5 htype6 htype7 htype8 htype9
    simp [execBlockFault, blockFault, hblockAt, hcanFail]
  · intro s page b n hblockAt hcanFail
    refine ⟨?_, ?_, ?_, ?_, ?_, ?_, ?_, ?_⟩
    · intro hcase
      rcases hcase with hcase | hcase <;> simp [execBlockFault, blockFault, hblockAt, hcanFail, hcase]
    · intro htype
      simp [execBlockFault, blockFault, hblockAt, hcanFail, htype]
    · intro htype
      simp [execBlockFault, blockFault, hblockAt, hcanFail, htype]
    · intro htype
      have hpage : s.canFail (Reg.LOOM_PAGE n) = true := by rwa [← page_of_loom hblockAt htype]
      simp only [exec_blockFault, execBlockFault, blockFault, hblockAt, hcanFail, htype, loomFault, hpage, Bool.not_true,
        Bool.false_eq_true,
        if_false]
    · intro htype
      have hpage : s.canFail (Reg.MEDIA_PAGE n) = true := by rwa [← page_of_media hblockAt htype]
      simp only [exec_blockFault, execBlockFault, blockFault, hblockAt, hcanFail, htype, mediaFault, hpage, Bool.not_true,
        Bool.false_eq_true,
        if_false]
    · rintro dpc htype rfl
      simp [execBlockFault, execDpcFailure, blockFault, dpcFault, hblockAt, hcanFail, htype]
    · rintro core htype rfl
      simp [execBlockFault, execCoreFault, blockFault, coreFault, hblockAt, hcanFail, htype]
    · intro htype
      simp [execBlockFault, blockFault, hblockAt, hcanFail, htype]
  · intro s loom hcanFail
    simp [execLoomSelfCheckFail, loomFault, hcanFail]
  · rintro s dpc t hcanFail rfl
    simp [execDpcFailure, dpcFault, hcanFail] <;> rfl
  · intro s hcanFail
    simp [execMediaFailover, mediaFault, hcanFail]

end Sys2Proof.Machine

/-! # Faults of ports, channels and cores (O17) -/

namespace Sys2Proof.Machine

open State

/-- Settles O17: a fault takes its element out of the set that serves, and the element's own state decides whether it had any effect. -/
theorem portChannelAndCoreFaultsComplete : Obligations.PortChannelAndCoreFaultsComplete := by
  refine ⟨?_, ?_, ?_, ?_, ?_⟩
  · intro s port hup
    simp only [exec_frontEndPortLoss, execFrontEndPortLoss, portFault, hup, if_true]
  · intro s port hup
    simp only [exec_frontEndPortLoss, execFrontEndPortLoss, portFault, hup, if_false, Bool.false_eq_true]
  · intro s channel pages chunks hcanFail
    simp [execDramChannelFail, dramFault, hcanFail]
  · rintro s t core hcanFail rfl
    simp [execCoreFault, coreFault, hcanFail]
  · intro s t core
    refine ⟨?_, ?_⟩
    · rintro hcoreActive hcanFail rfl
      simp [execCoreWatchdogExpiry, coreFault, hcoreActive, hcanFail]
    · intro hcoreActive
      simp [execCoreWatchdogExpiry, hcoreActive]

end Sys2Proof.Machine

/-! # Lost clocks (O18) -/

namespace Sys2Proof.Machine

open State

namespace State

theorem clockLost_fatal {s : State} {d : Nat} (h : d = 0 ∨ d = 5 ∨ d = 6) : s.clockLost d = s.fatalEnter 5 0 := by
  rw [clockLost, if_pos (by simpa [or_assoc] using h)]

/-- Each domain from 7 on clocks one DPC or one service core. -/
theorem clockLost_element {s : State} {d : Nat} (h : 7 ≤ d) :
    s.clockLost d = if d ≤ 24 then s.dpcFault (d - 7) else s.coreFault (d - 25) := by
  have h0 : d ≠ 0 := by omega
  have h1 : d ≠ 1 := by omega
  have h2 : d ≠ 2 := by omega
  have h3 : d ≠ 3 := by omega
  have h4 : d ≠ 4 := by omega
  have h5 : d ≠ 5 := by omega
  have h6 : d ≠ 6 := by omega
  simp only [clockLost, h0, h1, h2, h3, h4, h5, h6, decide_false, Bool.or_self, Bool.false_eq_true, if_false]

end State

/-- Settles O18: the number of the clock domain decides what its loss takes away. -/
theorem clockLossTripAndIdleSubdomainComplete : Obligations.ClockLossTripAndIdleSubdomainComplete := by
  refine ⟨?_, ?_, ?_, ?_, ?_, ?_, ?_, ?_, ?_, ?_⟩
  · intro s d hmain
    rw [exec_clockLoss, execClockLoss, clockLost_fatal hmain]
  · intro s
    rfl
  · intro s
    rfl
  · intro s
    rfl
  · intro s
    rfl
  · intro s d hlow hhigh
    rw [exec_clockLoss, execClockLoss, clockLost_element hlow, if_pos hhigh]
  · intro s d hlow
    rw [exec_clockLoss, execClockLoss, clockLost_element (by omega), if_neg (by omega)]
  · rintro s t hcond rfl
    simp [execHardwareTrip, hcond]
  · intro s dom hdom hdom2 hdom3 hdomState hfld hact hsubBooked
    simp [execSubdomainIdle, subIdle, hdom, hdom2, hdom3, hdomState, hfld, hact, hsubBooked]
  · intro s dom hdom
    simp [execSubdomainIdle, subIdle, hdom]

end Sys2Proof.Machine

/-! # The front end (O21) -/

namespace Sys2Proof.Machine

open State

namespace State

/-- The state once the first waiting update is taken: the version in use is kept while frames are tagged with it. -/
def updTaken (s : State) (i gen : Nat) (rest : List (Nat × Option ConnEntry)) : State :=
  { (match s.conn? i with
     | some x => if s.taggedWith i gen then { s with fab.old := s.fab.old ++ [(i, x)] } else s
     | none => s).setBit Reg.HEDDLE_UPD_RESULT_BUSY (!rest.isEmpty) with fab.upd := rest }

/-- There is room for one more old version, and none of the entry is held. -/
abbrev updRoom (s : State) (i : Nat) : Prop := ¬ (decide (512 ≤ s.fab.old.length) || s.fab.old.any (fun x => x.1 == i)) = true

/-- A waiting DELETE is applied to the state that took it. -/
theorem updApply_delete {s : State} {i : Nat} {rest : List (Nat × Option ConnEntry)}
    {t : State} {gen : Nat} (hupd : s.fab.upd = (i, none) :: rest) (hgo : s.updRoom i) (hgen : gen = ((s.entryAt i).map (fun x => x.gen)).getD 0)
    (ht : t = s.updTaken i gen rest) :
    s.updApply = (({ (t.deleteEntry i).rplLost i with
          fab.rt := tDel (t.deleteEntry i).fab.rt i
          fab.hs := (t.deleteEntry i).fab.hs.filter (fun x => x != i) }.setFld Reg.HEDDLE_UPD_STATUS_ENT_GEN gen).heldShow) := by
  rw [updApply, hupd]
  refine (if_neg hgo).trans ?_
  rw [ht, hgen, updTaken]
  cases s.conn? i <;> rfl

/-- A waiting WRITE is applied to the state that took it. -/
theorem updApply_write {s t u v : State} {i gen : Nat} {rest : List (Nat × Option ConnEntry)} {x y : ConnEntry} {switched : Bool}
    (hupd : s.fab.upd = (i, some x) :: rest) (hgo : s.updRoom i) (hgen : gen = ((s.entryAt i).map (fun x => x.gen)).getD 0)
    (ht : t = s.updTaken i gen rest) (hy : y = { x with gen := nextGen gen })
    (hswitched : switched = ((s.conn? i).isSome && y.valid && (s.conn? i).map (fun z => z.keySel) != some y.keySel))
    (hu : u = if y.valid && !switched && (tGet t.fab.rt i freshRt).oldSet then t.retireSet y else t)
    (hv : v = ({ u with
        fab.conns := tPut u.fab.conns i y
        fab.forced := u.fab.forced.filter (fun z => z != i)
        fab.rt := if y.valid then tPut u.fab.rt i { tGet t.fab.rt i freshRt with oldSet := switched } else u.fab.rt
        fab.hs := if y.st = 0 then u.fab.hs else u.fab.hs.filter (fun z => z != i) }.setFld Reg.HEDDLE_UPD_STATUS_ENT_GEN y.gen).heldShow) :
    s.updApply = if y.valid && y.typ == 3 && y.st == 1 then v.rplUp i y else v.rplLost i := by
  rw [updApply, hupd]
  refine (if_neg hgo).trans ?_
  rw [hv, hu, hswitched, hy, ht, hgen, updTaken]
  cases s.conn? i <;> rfl

end State

/-- Settles O21: an update waits unless it is refused, and the first one that waits is applied to the state that took it. -/
theorem frontEndCommandsComplete : Obligations.FrontEndCommandsComplete := by
  refine ⟨?_, ?_, ?_, ?_, ?_, ?_, ?_, ?_⟩
  · intro s frame prio fill hserving hup
    simp only [exec_frameReceive, execFrameReceive, hserving, hup, Bool.and_self, if_true]
  · intro s conn hframes
    simp [execFrameResidenceTimeout, hframes] <;> rfl
  · rintro s t index w0 w1 w2 w3 e hcond hbit rfl rfl
    simp [execConnEntryWrite, entryWrite, hcond, hbit, and_assoc]
  · intro s index hcond hbit
    refine ⟨?_, ?_⟩
    · intro e hconn
      simp [execConnEntryDelete, entryDelete, hcond, hbit, hconn]
    · intro hconn
      simp [execConnEntryDelete, entryDelete, hcond, hbit, hconn]
  · intro s index hcond hbit
    refine ⟨?_, ?_⟩
    · intro e hentryAt
      simp [execConnEntryRead, entryRead, hcond, hbit, hentryAt]
    · intro hentryAt
      simp [execConnEntryRead, entryRead, hcond, hbit, hentryAt]
  · intro s t i gen e rest hupd hroom hnone hgen ht
    have hgo : s.updRoom i := by
      rw [updRoom, hnone, decide_eq_false (by omega)]
      decide
    refine ⟨?_, ?_⟩
    · rintro rfl
      rw [exec_connEntryUpdateApply, execConnEntryUpdateApply, updApply_delete hupd hgo hgen ht]
    · intro x y switched u v hx hy hswitched hu hv
      subst hx
      have hu' : u = if y.valid && !switched && (tGet t.fab.rt i freshRt).oldSet then t.retireSet y else t := by
        simpa [and_assoc] using hu
      rw [exec_connEntryUpdateApply, execConnEntryUpdateApply, updApply_write hupd hgo hgen ht hy hswitched hu' hv]
      simp [and_assoc]
  · intro s index
    simp [execOldVersionRelease, oldRelease]
  · intro s hframes
    simp [execAddressVersionRelease, addrRelease, hframes]

end Sys2Proof.Machine

/-! # Connection set-up and ports (O22) -/

namespace Sys2Proof.Machine

open State

/-- Settles O22: each event is decided by the head's, the address's or the port's own state. -/
theorem connectionSetupAndPortCommandsComplete : Obligations.ConnectionSetupAndPortCommandsComplete := by
  refine ⟨?_, ?_, ?_, ?_, ?_, ?_⟩
  · intro s cmd id c hcmdAt hkind hphase harrivedBytes hintakeEnd
    simp [execIntakeTermination, hcmdAt, hkind, hphase, harrivedBytes, hintakeEnd]
  · intro s port conn granted pmtu hserving
    refine ⟨?_, ?_, ?_⟩
    · simp [execRoceConnManagement, hserving]
    · simp [execRoceConnManagement, hserving]
    · simp [execRoceConnManagement, hserving]
  · intro s port addr localPort hserving
    refine ⟨?_, ?_, ?_⟩
    · intro haddrLive
      simp [execTcpSyn, hserving, haddrLive]
    · intro haddrLive hlocalPort hoffered
      have hzero : localPort.toNat ≠ 0 := fun h0 => hlocalPort (BitVec.eq_of_toNat_eq h0)
      rcases hoffered with hport | hport <;> simp [execTcpSyn, synIn, hserving, haddrLive, hport, hzero]
    · intro haddrLive hact hact2
      simp [execTcpSyn, synIn, hserving, haddrLive, hact, hact2]
  · intro s hannounce hserving
    simp [execAnnounceRepeat, hannounce, hserving]
  · intro s hptpSource hfld
    simp [execPtpAnnounceTimeout, hptpSource, hfld]
  · intro s port hserving hportLanes hactive hpair hup
    have hquads : (if s.act (Reg.ETHP_MODE_MODE (port.val / 4)) = 3 then [port.val / 4, port.val / 4 + 1] else [port.val / 4]).all
        (fun x => s.active (Reg.ETHP_PAGE x)) = true := by
      by_cases hmode : s.act (Reg.ETHP_MODE_MODE (port.val / 4)) = 3
      · simp [hmode, hactive, hpair hmode]
      · simp [hmode, hactive]
    have hlanes : (s.portLanes port.val != 0) = true := bne_iff_ne.mpr hportLanes
    have hgo : (s.serving && s.portLanes port.val != 0 && (if s.act (Reg.ETHP_MODE_MODE (port.val / 4)) = 3 then
        [port.val / 4, port.val / 4 + 1] else [port.val / 4]).all (fun x => s.active (Reg.ETHP_PAGE x)) && !s.fab.up.contains port.val) = true := by
      rw [hserving, hlanes, hquads, hup]
      rfl
    exact congrArg Host.Outcome.next (if_pos hgo)

end Sys2Proof.Machine

/-! # Events of live connections (O23) -/

namespace Sys2Proof.Machine

open State

/-- Settles O23: each event runs on the live connection's frame, and the answer it carries decides. -/
theorem connectionEventsComplete : Obligations.ConnectionEventsComplete := by
  refine ⟨?_, ?_, ?_, ?_, ?_⟩
  · intro s t cmd e r off data id c last htakes hreads hcmdAt hphase hpulled
    simp [execRdmaReadResponse, onConn_of_takes htakes, hreads, hcmdAt, hphase, hpulled]
  · intro s t conn e r count rtt htakes
    refine ⟨?_, ?_, ?_, ?_, ?_, ?_, ?_⟩
    · simp [execRoceAck, onConn_of_takes htakes]
    · simp [execRoceAck, onConn_of_takes htakes]
    · intro htGet
      simp [execRoceAck, onConn_of_takes htakes, htGet]
    · intro htGet
      have hsome : (tGet? t.repl.conns conn.val).isSome = true := Option.isSome_iff_ne_none.mpr htGet
      simp [execRoceAck, onConn_of_takes htakes, hsome]
    · simp [execRoceAck, onConn_of_takes htakes]
    · simp [execCnpReceive, onConn_of_takes htakes] <;> rfl
    · simp [execRemoteAccessRequest, onConn_of_takes htakes]
  · intro s t conn e r req htakes htyp
    refine ⟨?_, ?_⟩
    · intro hpfv hhpda
      simp [execIcreq, onConn_of_takes htakes, htyp, hpfv, hhpda]
    · intro hcase
      simp_all [execIcreq, onConn_of_takes htakes]
  · intro s t conn e r ttag off data gen id htakes htyp
    refine ⟨?_, ?_, ?_, ?_⟩
    · rintro htGet rfl
      simp [execH2cData, onConn_of_takes htakes, htyp, htGet] <;> rfl
    · intro htGet hgen
      simp [execH2cData, dataIn, onConn_of_takes htakes, htyp, htGet]
      omega
    · intro htGet
      simp [execH2cData, onConn_of_takes htakes, htyp, htGet]
    · simp [execH2cTermReq, onConn_of_takes htakes, htyp]
  · intro s conn e r hconn hconnRt hserving
    refine ⟨?_, ?_⟩
    · intro htyp herr
      simp [execAckTimeout, hconn, hconnRt, hserving, htyp, herr]
    · intro htyp hunacked
      simp [execTcpRetransmitTimeout, hconn, hconnRt, hserving, htyp, hunacked]

end Sys2Proof.Machine

/-! # Fabrics and admin commands (O25) -/

namespace Sys2Proof.Machine

open State

/-- A Connect that names its tenant's subsystem, from a host that the tenant has, goes on with its queue. -/
theorem execConnect_of_class {s t : State} {cmd : CmdFrom} {d : ConnectData} {e : ConnEntry} {r : ConnRt} {x : Tenant} {cls : Nat}
    (htakes : s.takes cmd.conn.val e r t) (hjoined : r.joined = false) (hsubsys : e.subsys = false) (htenant : t.tenant? e.tenant = some x)
    (hsubNqn : d.subNqn = x.nqn) (hnqn : x.nqn ≠ []) (hclass : t.hostClass e d.hostNqn = some cls) (hhostId : d.hostId ≠ 0) :
    exec (.connect cmd d) s =
      .next (if d.qid = 0 then
          if 1024 ≤ (t.ctrlsOf e.tenant).length || 32 < d.sqsize || !katoOk d.kato.toNat then t.connectBad cmd
          else
            match t.newCntlid e.tenant with
            | none => t.connectBad cmd
            | some n =>
              ({ t with nv.ctrls := tPut t.nv.ctrls (ctrlKey e.tenant n) {
                tenant := e.tenant, cntlid := n, discovery := e.subsys, hostNqn := d.hostNqn, hostId := d.hostId, cls := cls,
                adminConn := cmd.conn.val, queues := [], cc := 0, csts := 0, kato := katoRound d.kato.toNat, acre := false, aec := 0,
                arb := 0, tempTh := 0, tempLow := 0, warned := false, resMask := [], aers := [], events := [], changed := [],
                resLog := [], errors := [] } }.joinQueue cmd.conn.val e (ctrlKey e.tenant n) 0 d.sqsize cls).done cmd 0 0 n
        else
          match tGet? t.nv.ctrls (ctrlKey e.tenant d.cntlid.toNat) with
          | none => t.connectBad cmd
          | some c =>
            if c.hostNqn != d.hostNqn || c.hostId != d.hostId || 64 ≤ c.queues.length || c.queues.any (fun q => q.1 == d.qid.toNat)
                || 1024 < d.sqsize || c.discovery then t.connectBad cmd
            else
              ((t.modCtrl (ctrlKey e.tenant d.cntlid.toNat) (fun x => { x with queues := x.queues ++ [(d.qid.toNat, cmd.conn.val)] })).joinQueue
                cmd.conn.val e (ctrlKey e.tenant d.cntlid.toNat) d.qid.toNat d.sqsize c.cls).done cmd 0 0 c.cntlid) := by
  have hname : ¬ (d.subNqn != (if e.subsys then discoveryNqn else ((t.tenant? e.tenant).map (fun x => x.nqn)).getD []) ||
      (if e.subsys then discoveryNqn else ((t.tenant? e.tenant).map (fun x => x.nqn)).getD []).isEmpty) = true := by
    simp [hsubsys, htenant, hsubNqn, hnqn]
  rw [exec_connect, execConnect, onConn_of_takes htakes, if_neg (by rw [hjoined]; decide), connect]
  refine congrArg Host.Outcome.next ((if_neg hname).trans ?_)
  rw [hclass]
  exact if_neg hhostId

/-- Settles O25: an admin command runs on the controller of its admin queue, and its operands decide the status. -/
theorem fabricsAndAdminCommandsComplete : Obligations.FabricsAndAdminCommandsComplete := by
  refine ⟨?_, ?_, ?_, ?_, ?_, ?_, ?_, ?_, ?_, ?_, ?_, ?_, ?_, ?_, ?_, ?_, ?_⟩
  · intro s t cmd d e r x cls n c htakes hjoined hsubsys htenant hsubNqn hnqn hclass hhostId hqid hroom hsqsize hkato hcntlid hc
    have hgo : ¬ (decide (1024 ≤ (t.ctrlsOf e.tenant).length) || decide (32 < d.sqsize) || !katoOk d.kato.toNat) = true := by
      rw [hkato, decide_eq_false (by omega), decide_eq_false (by omega)]
      decide
    rw [execConnect_of_class htakes hjoined hsubsys htenant hsubNqn hnqn hclass hhostId, if_pos hqid, if_neg hgo, hcntlid, hc,
      hsubsys]
  · rintro s t cmd d e r x cls c k htakes hjoined hsubsys htenant hsubNqn hnqn hclass hhostId hqid rfl hctrl hhost hid hroom hfree hsqsize
      hdiscovery
    have hgo : ¬ (c.hostNqn != d.hostNqn || c.hostId != d.hostId || decide (64 ≤ c.queues.length) ||
        c.queues.any (fun q => q.1 == d.qid.toNat) || decide (1024 < d.sqsize) || c.discovery) = true := by
      rw [hhost, hid, hfree, hdiscovery, decide_eq_false (by omega), decide_eq_false (by omega), bne_self_eq_false,
        bne_self_eq_false]
      decide
    rw [execConnect_of_class htakes hjoined hsubsys htenant hsubNqn hnqn hclass hhostId, if_neg hqid, hctrl]
    exact congrArg Host.Outcome.next (if_neg hgo)
  · intro s t cmd e r k c hadmin
    refine ⟨?_, ?_, ?_⟩
    · simp [execPropertyGet, adminCmd_of_adminAt hadmin]
    · simp [execPropertyGet, adminCmd_of_adminAt hadmin]
    · simp [execPropertyGet, adminCmd_of_adminAt hadmin]
  · intro s t cmd e r k c hadmin
    refine ⟨?_, ?_⟩
    · simp [execPropertyGet, adminCmd_of_adminAt hadmin] <;> rfl
    · intro off h0 h8 h14 h1c
      rw [exec_propertyGet, execPropertyGet, adminCmd_of_adminAt hadmin]
      have hne : ∀ n : Nat, n < 2 ^ 32 → off ≠ BitVec.ofNat 32 n → off.toNat ≠ n := fun n hn hoff heq =>
        hoff (BitVec.eq_of_toNat_eq (by rw [heq, BitVec.toNat_ofNat, Nat.mod_eq_of_lt hn]))
      have h0' := hne 0x00 (by decide) h0
      have h8' := hne 0x08 (by decide) h8
      have h14' := hne 0x14 (by decide) h14
      have h1c' := hne 0x1C (by decide) h1c
      split
      · exact absurd ‹off.toNat = 0› h0'
      · exact absurd ‹off.toNat = 8› h8'
      · exact absurd ‹off.toNat = 20› h14'
      · exact absurd ‹off.toNat = 28› h1c'
      · rfl
  · rintro s t cmd e r k c value shn hadmin rfl
    refine ⟨?_, ?_, ?_⟩
    · intro hbitsOf
      simp [execPropertySet, adminCmd_of_adminAt hadmin, hbitsOf]
    · intro hbitsOf
      simp [execPropertySet, adminCmd_of_adminAt hadmin, hbitsOf]
    · intro off hoff
      have hne : off.toNat ≠ 0x14 := fun heq => hoff (BitVec.eq_of_toNat_eq (by rw [heq]; rfl))
      rw [exec_propertySet, execPropertySet, adminCmd_of_adminAt hadmin, if_pos (bne_iff_ne.mpr hne)]
  · intro s t cmd e r k c htakes hst hctrlAt
    simp [execDisconnect, capsule, onConn_of_takes htakes, hst, hctrlAt]
  · intro s t u cmd e r k c lid fields hadmin hlogPage
    simp [execGetLogPage, adminCmd_of_adminAt hadmin, hlogPage]
  · intro s t cmd e r k c lid hadmin hlogPage
    simp [execGetLogPage, adminCmd_of_adminAt hadmin, hlogPage]
  · intro s t cmd e r k c cns nsid a b hadmin hidentifyOf
    simp [execNvmeIdentify, adminCmd_of_adminAt hadmin, hidentifyOf]
  · intro s t cmd e r k c cns nsid fields hadmin hidentifyOf
    simp [execNvmeIdentify, adminCmd_of_adminAt hadmin, hidentifyOf]
  · intro s t cmd e r k c hadmin
    refine ⟨?_, ?_, ?_⟩
    · simp [execAbort, adminCmd_of_adminAt hadmin]
    · simp [execKeepAlive, adminCmd_of_adminAt hadmin]
    · simp [execSanitizeOverwrite, adminCmd_of_adminAt hadmin]
  · intro s t cmd e r k c nsid value hadmin
    refine ⟨?_, ?_, ?_, ?_, ?_, ?_, ?_, ?_, ?_, ?_⟩
    · simp [execSetFeatures, adminCmd_of_adminAt hadmin]
    · simp [execSetFeatures, adminCmd_of_adminAt hadmin]
    · intro hkatoOk
      simp [execSetFeatures, adminCmd_of_adminAt hadmin, hkatoOk]
    · intro hkatoOk
      simp [execSetFeatures, adminCmd_of_adminAt hadmin, hkatoOk]
    · intro hvalue hvalue2
      simp [execSetFeatures, adminCmd_of_adminAt hadmin, hvalue, hvalue2]
    · intro hvalue hvalue2
      simp [execSetFeatures, adminCmd_of_adminAt hadmin, hvalue, hvalue2]
    · intro hvalue
      simp [execSetFeatures, adminCmd_of_adminAt hadmin, hvalue]
    · intro hvalue hvalue2
      simp [execSetFeatures, adminCmd_of_adminAt hadmin, hvalue, hvalue2]
    · simp [execSetFeatures, adminCmd_of_adminAt hadmin]
    · intro fid
      simp [execSetFeatures, adminCmd_of_adminAt hadmin]
  · intro s t cmd e r k c nsid value vol v hadmin hnsOf
    refine ⟨?_, ?_, ?_, ?_⟩
    · simp [execSetFeatures, adminCmd_of_adminAt hadmin, hnsOf]
    · simp [execSetFeatures, adminCmd_of_adminAt hadmin, hnsOf]
    · simp [execGetFeatures, adminCmd_of_adminAt hadmin, hnsOf]
    · simp [execGetFeatures, adminCmd_of_adminAt hadmin, hnsOf]
  · intro s t cmd e r k c nsid dw11 hadmin
    refine ⟨?_, ?_, ?_, ?_, ?_, ?_, ?_⟩
    · simp [execGetFeatures, adminCmd_of_adminAt hadmin]
    · simp [execGetFeatures, adminCmd_of_adminAt hadmin]
    · simp [execGetFeatures, adminCmd_of_adminAt hadmin]
    · simp [execGetFeatures, adminCmd_of_adminAt hadmin]
    · simp [execGetFeatures, adminCmd_of_adminAt hadmin]
    · intro fid sel hsel
      simp_all [execGetFeatures, adminCmd_of_adminAt hadmin]
    · simp [execGetFeatures, adminCmd_of_adminAt hadmin]
  · intro s t cmd e r k c hadmin
    refine ⟨?_, ?_, ?_⟩
    · intro hevents haers
      simp [execAsyncEventRequest, adminCmd_of_adminAt hadmin, hevents, haers]
    · intro hevents haers
      simp [execAsyncEventRequest, adminCmd_of_adminAt hadmin, hevents, haers]
    · intro typ info page rest hevents
      simp [execAsyncEventRequest, adminCmd_of_adminAt hadmin, hevents]
  · rintro s tenant cntlid c k conns whole rfl htGet rfl rfl
    refine ⟨?_, ?_⟩
    · intro hkato
      simp [execKeepAliveExpiry, htGet, hkato]
    · intro hkato
      simp [execKeepAliveExpiry, htGet, hkato]
  · intro s t cmd e r htakes hst
    refine ⟨?_, ?_⟩
    · simp [execUnsupportedCommand, capsule, onConn_of_takes htakes, hst]
    · simp [execUnsupportedCommand, capsule, onConn_of_takes htakes, hst]

end Sys2Proof.Machine

/-! # Reservations, Format and Sanitize commands (O27) -/

namespace Sys2Proof.Machine

open State

/-- Settles O27: a command on its queue is done at the owner, or the configuration head, and forwarded by the other head. -/
theorem reservationFormatAndSanitizeCommandsComplete : Obligations.ReservationFormatAndSanitizeCommandsComplete := by
  refine ⟨?_, ?_, ?_, ?_, ?_, ?_, ?_, ?_, ?_, ?_⟩
  · rintro s t u cmd nsid act iekey ptpl crkey nrkey e r k c vol v hio rfl
    simp [execReservationRegister, resvHost, ioCmd_of_ioAt hio]
  · rintro s t u cmd nsid act iekey rtype crkey prkey e r k c vol v hio rfl
    simp [execReservationAcquire, resvHost, ioCmd_of_ioAt hio]
  · rintro s t u cmd nsid clear iekey rtype crkey e r k c vol v hio rfl
    simp [execReservationRelease, resvHost, ioCmd_of_ioAt hio]
  · rintro s t u cmd nsid e r k c vol v hio rfl
    refine ⟨?_, ?_⟩
    · simp [execReservationReport, ioCmd_of_ioAt hio]
    · simp [execReservationReport, ioCmd_of_ioAt hio]
  · intro s t cmd nsid lbaf pi ses e r k c vol v hadmin hnsid hnsOf hlbaf hpi hses hformatting htenant hanaState hownsGroup
    simp [execFormatNvm, adminCmd_of_adminAt hadmin, hnsid, hnsOf, hlbaf, hpi, hses, hformatting, htenant, hanaState, hownsGroup]
  · intro s t cmd nsid lbaf pi ses e r k c vol v hadmin hnsid hnsOf
    refine ⟨?_, ?_⟩
    · intro hlbaf hpi hses hformatting htenant hanaState hownsGroup
      simp [execFormatNvm, adminCmd_of_adminAt hadmin, hnsid, hnsOf, hlbaf, hpi, hses, hformatting, htenant, hanaState,
        hownsGroup]
    · intro hcase
      rcases hcase with hcase | hcase | hcase <;> simp [execFormatNvm, adminCmd_of_adminAt hadmin, hnsid, hnsOf, hcase]
  · intro s t cmd nsid lbaf pi ses e r k c hadmin hcase
    rcases hcase with hcase | hcase <;> simp [execFormatNvm, adminCmd_of_adminAt hadmin, hcase]
  · rintro s t u volume x lbaf keep hvol hformatting hownsGroup rfl rfl rfl
    simp [execFormatMapRootCommit, formatDone, hvol, hformatting, hownsGroup] <;> rfl
  · intro s t cmd e r k c hadmin hdiscovery hconfigHead
    refine ⟨?_, ?_, ?_, ?_⟩
    · intro x htenant hstat
      refine ⟨?_, ?_⟩
      · simp [execSanitizeCryptoErase, sanitizeCmd, sanitizeStart, adminCmd_of_adminAt hadmin, hdiscovery, hconfigHead, htenant,
          hstat]
      · simp [execSanitizeBlockErase, sanitizeCmd, sanitizeStart, adminCmd_of_adminAt hadmin, hdiscovery, hconfigHead, htenant,
          hstat]
    · intro x htenant hstat
      refine ⟨?_, ?_, ?_⟩
      · simp [execSanitizeCryptoErase, sanitizeCmd, sanitizeStart, adminCmd_of_adminAt hadmin, hdiscovery, hconfigHead, htenant,
          hstat]
      · simp [execSanitizeBlockErase, sanitizeCmd, sanitizeStart, adminCmd_of_adminAt hadmin, hdiscovery, hconfigHead, htenant,
          hstat]
      · simp [execSanitizeExitFailure, sanitizeCmd, sanitizeExit, adminCmd_of_adminAt hadmin, hdiscovery, hconfigHead, htenant,
          hstat]
    · intro x htenant hstat
      simp [execSanitizeExitFailure, sanitizeCmd, sanitizeExit, adminCmd_of_adminAt hadmin, hdiscovery, hconfigHead, htenant,
        hstat]
    · intro x htenant hstat hstat2
      simp [execSanitizeExitFailure, sanitizeCmd, sanitizeExit, adminCmd_of_adminAt hadmin, hdiscovery, hconfigHead, htenant,
        hstat, hstat2]
  · intro s t cmd e r k c hadmin hdiscovery
    refine ⟨?_, ?_, ?_⟩
    · intro hconfigHead
      refine ⟨?_, ?_, ?_⟩
      · simp [execSanitizeCryptoErase, sanitizeCmd, sanitizeStart, adminCmd_of_adminAt hadmin, hdiscovery, hconfigHead]
      · simp [execSanitizeBlockErase, sanitizeCmd, sanitizeStart, adminCmd_of_adminAt hadmin, hdiscovery, hconfigHead]
      · simp [execSanitizeExitFailure, sanitizeCmd, sanitizeExit, adminCmd_of_adminAt hadmin, hdiscovery, hconfigHead]
    · simp [execSanitizeCryptoErase, sanitizeCmd, adminCmd_of_adminAt hadmin, hdiscovery]
    · simp [execSanitizeBlockErase, sanitizeCmd, adminCmd_of_adminAt hadmin, hdiscovery]

end Sys2Proof.Machine

/-! # The phases of a Sanitize (O28) -/

namespace Sys2Proof.Machine

open State

/-- Settles O28: a phase is over once this head, and a partner that is there, has done its work. -/
theorem sanitizePhasesAndKeyListsComplete : Obligations.SanitizePhasesAndKeyListsComplete := by
  refine ⟨?_, ?_, ?_, ?_, ?_, ?_, ?_⟩
  · intro s tenant x htenant hstat hconfigHead hsanReady hx hphase
    simp_all [execSanitizePhaseComplete, sanPhaseDone]
  · intro s tenant x htenant hstat hconfigHead
    simp [execSanitizePhaseComplete, sanPhaseDone, htenant, hstat, hconfigHead]
  · intro s tenant x htenant hstat hconfigHead hsanReady hx hphase
    have hwait : ¬ (s.paired = true ∧ x.san.otherDone = false) := fun ⟨hpaired, hnot⟩ => by simp [hx hpaired] at hnot
    have hlast : ¬ x.san.phase < 4 := by omega
    simp [execSanitizePhaseComplete, sanPhaseDone, htenant, hstat, hconfigHead, hsanReady, hwait, hlast]
  · intro s tenant x failed htenant hstat hconfigHead hsanReady
    simp [execSanitizePhaseComplete, sanPhaseDone, htenant, hstat, hconfigHead, hsanReady]
  · intro s tenant phase erased seq x htenant hlinkUp
    refine ⟨?_, ?_⟩
    · simp [execSanitizeStep, sanStep, htenant, hlinkUp]
    · intro hstat
      refine ⟨?_, ?_⟩
      · simp [execSanitizeStep, sanStep, htenant, hlinkUp, hstat]
      · simp [execSanitizeStep, sanStep, htenant, hlinkUp, hstat]
  · intro s tenant phase erased seq x htenant hlinkUp hstat
    refine ⟨?_, ?_⟩
    · simp [execSanitizeStep, sanStep, htenant, hlinkUp, hstat]
    · intro hphase
      simp [execSanitizeStep, sanStep, htenant, hlinkUp, hstat, hphase]
  · intro s entries hlinkUp
    refine ⟨?_, ?_, ?_⟩
    · simp [execKcvList, kcvList, hlinkUp]
    · intro hkcvOut
      simp [execKcvList, kcvList, hlinkUp, hkcvOut]
    · intro hkcvOut
      simp [execKcvList, kcvList, hlinkUp, hkcvOut]

end Sys2Proof.Machine

/-! # Admission and claims (O29) -/

namespace Sys2Proof.Machine

open State

namespace State

theorem underTerms_of_own {s : State} {c : HCmd} (h : c.terms = [] ∨ c.terms = s.contract c.tenant) (f : State → State) :
    s.underTerms c f = f s := by
  rcases h with hnil | hown
  · simp [underTerms, hnil]
  · simp [underTerms, ← hown]

/-- Under other terms a command runs as it would with these in effect, and the terms in effect come back. -/
theorem underTerms_of_other {s : State} {c : HCmd} (hterms : c.terms ≠ []) (hdiffer : c.terms ≠ s.contract c.tenant) (f : State → State) :
    s.underTerms c f =
      { { s with loom.active := tPut s.loom.active c.tenant c.terms }.underTerms c f with loom.active := s.loom.active } := by
  have hsome : c.terms.isEmpty = false := List.isEmpty_eq_false_iff.mpr hterms
  have hown : c.terms = { s with loom.active := tPut s.loom.active c.tenant c.terms }.contract c.tenant := by
    rw [contract, tGet, tGet?_tPut_same]
    rfl
  rw [underTerms_of_own (Or.inr hown), underTerms, hsome, decide_eq_false hdiffer]
  rfl

/-- The first queued command of its tenant on its buckets is refused late, drafted when its charges fit, and waits otherwise. -/
theorem reedPass_of_first {s : State} {id : Nat} {c : HCmd} (hcmd : s.cmd? id = some c) (hqueue : s.loom.queue.contains id = true)
    (hterms : c.terms = [] ∨ c.terms = s.contract c.tenant)
    (hfirst : ((s.loom.queue.takeWhile (fun x => x != id)).filterMap s.cmd?).any (fun x => x.tenant == c.tenant &&
      chargesMeet (s.chargesOf x.kind x.tenant x.bytes) (s.chargesOf c.kind c.tenant c.bytes)) = false) (st : Standby) :
    s.reedPass id st =
      if c.window < s.now + 2000 then
        { s with loom.queue := s.loom.queue.filter (fun x => x != id) }.gated id st (fun t => t.refuse id causeRate)
      else if s.chargesFit c.tenant (s.chargesOf c.kind c.tenant c.bytes) then
        { s with loom.queue := s.loom.queue.filter (fun x => x != id) }.chargeDraft id c (s.chargesOf c.kind c.tenant c.bytes) st
      else s := by
  rw [reedPass, hcmd]
  refine (underTerms_of_own hterms _).trans (if_neg ?_)
  rw [hqueue, hfirst]
  decide

end State

/-- Settles O29: the terms a command was checked under are those it runs under, and each other command changes one table of the LOOM or REED. -/
theorem admissionAndClaimCommandsComplete : Obligations.AdmissionAndClaimCommandsComplete := by
  refine ⟨?_, ?_, ?_, ?_, ?_, ?_, ?_, ?_, ?_, ?_, ?_, ?_, ?_, ?_, ?_, ?_⟩
  · rintro s id st c ch hserving hcmd hqueue rfl hterms hfirst
    have hpass := reedPass_of_first hcmd hqueue hterms hfirst st
    refine ⟨?_, ?_, ?_⟩
    · intro hnow hfit
      rw [exec_reedTokensAvailable, execReedTokensAvailable, if_pos hserving, hpass, if_neg (by omega), if_pos hfit, chargeDraft]
    · intro hnow hfit
      rw [exec_reedTokensAvailable, execReedTokensAvailable, if_pos hserving, hpass, if_neg (by omega), if_neg (by simp [hfit])]
    · intro hlate
      rw [exec_reedTokensAvailable, execReedTokensAvailable, if_pos hserving, hpass, if_pos hlate]
  · intro s id c hserving hcmd hphase hmissingLeaves hclaimsOpen
    refine ⟨?_, ?_⟩
    · simp [execMapResolved, hserving, hcmd, hphase, hmissingLeaves, hclaimsOpen] <;> rfl
    · intro a b hsimplex
      simp [execMapResolved, gated, hserving, hcmd, hphase, hmissingLeaves, hclaimsOpen, hsimplex]
  · intro s hloomAct hsimplex
    refine ⟨?_, ?_⟩
    · simp [execLoomSwapDue, hloomAct, hsimplex]
    · intro a b
      simp [execLoomSwapDue, hloomAct, hsimplex]
  · intro s st hcase
    simp [execLoomSwapDue, hcase]
  · rintro s t tenant haccepts rfl
    simp [execReedTblReadState, tblGo, barWrite_of_accepts haccepts]
  · rintro s t tenant w0 w1 w2 w3 haccepts rfl
    simp [execReedTblWriteStaged, tblGo, contractWords, barWrite_of_accepts haccepts] <;> rfl
  · intro s t tenant haccepts
    refine ⟨?_, ?_⟩
    · rintro rfl
      simp [execReedTblReadStaged, tblGo, barWrite_of_accepts haccepts]
    · rintro rfl
      simp [execReedTblReadActive, tblGo, barWrite_of_accepts haccepts]
  · rintro s new rfl
    refine ⟨?_, ?_, ?_, ?_, ?_⟩
    · intro hfloorPct
      simp [execCollectionFloorRecompute, hfloorPct]
    · intro hfall hsecond
      have hnot : ¬ s.floorPct < floorOf (s.fld (Reg.LOOM_GC_STATE_FREE_PM s.loomActive)) := by omega
      simp only [exec_collectionFloorRecompute, execCollectionFloorRecompute, hnot, hfall, hsecond, if_false, decide_true,
        Bool.and_self,
        if_true]
    · intro hfall hsecond
      have hnot : ¬ s.floorPct < floorOf (s.fld (Reg.LOOM_GC_STATE_FREE_PM s.loomActive)) := by omega
      have hearly : ¬ s.loom.floorAt + 10 ^ 9 ≤ s.now := by omega
      simp only [exec_collectionFloorRecompute, execCollectionFloorRecompute, hnot, hearly, if_false, decide_false,
        Bool.and_false,
        Bool.false_eq_true]
    · intro hfloorOf
      simp [execCollectionFloorRecompute, hfloorOf]
    · intro p hfloorNext
      simp [floorPublish, hfloorNext]
  · rintro s cards pages hserving rfl hsettled
    have hnone : ([Reg.LOOM_PAGE 0, Reg.LOOM_PAGE 1].filter (fun p => s.blk p != FAILED && s.blk p != RETIRED)).any
        (fun p => s.bit (Reg.BLK_STATE_COMMIT_PENDING p)) = false := by
      rw [List.any_eq_false]
      exact fun p hp => by rw [hsettled p hp]; decide
    simp only [exec_energyCardFit, execEnergyCardFit, hserving, hnone, Bool.not_true, Bool.or_self, Bool.false_eq_true, if_false]
  · intro s hoverBeats
    simp [execEnergyOverrun, hoverBeats]
  · intro s
    simp [execOverwriteRatioUpdate]
  · rintro s t tag tenant items cmd dems hlinkUp rfl rfl
    refine ⟨?_, ?_⟩
    · intro hrole hbooks hfits
      have hgo : (s.fld Reg.OWN_STATUS_ROLE != 5 && (items.map (fun i => Dem.mk i.beat (claimRes i.res) i.amt)).all (fun d => s.books d.res) &&
          (s.fits tenant true (items.map (fun i => Dem.mk i.beat (claimRes i.res) i.amt))).isNone) = true := by
        rw [List.all_eq_true.mpr hbooks, hfits, bne_iff_ne.mpr hrole]
        rfl
      rw [exec_claim, execClaim, if_pos hlinkUp, State.claim]
      exact congrArg Host.Outcome.next (if_pos hgo)
    · intro hunfit
      have hno : ¬ (s.fld Reg.OWN_STATUS_ROLE != 5 && (items.map (fun i => Dem.mk i.beat (claimRes i.res) i.amt)).all (fun d => s.books d.res) &&
          (s.fits tenant true (items.map (fun i => Dem.mk i.beat (claimRes i.res) i.amt))).isNone) = true := by
        intro hgo
        simp only [Bool.and_eq_true, bne_iff_ne, List.all_eq_true, Option.isNone_iff_eq_none] at hgo
        obtain ⟨⟨hrole, hbooks⟩, hfits⟩ := hgo
        rcases hunfit with hfenced | ⟨d, hmem, hnot⟩ | hover
        · exact hrole hfenced
        · simp [hbooks d hmem] at hnot
        · exact hover hfits
      rw [exec_claim, execClaim, if_pos hlinkUp, State.claim]
      exact congrArg Host.Outcome.next (if_neg hno)
  · intro s tag a hclaims
    simp [execClaimAnswer, linkUp, claimAnswer, hclaims]
  · rintro s tag id st l t u hlinkUp hclaims rfl rfl
    refine ⟨?_, ?_, ?_⟩
    · intro hclaimsOpen
      simp [execClaimAnswer, claimAnswer, hlinkUp, hclaims, hclaimsOpen]
    · intro hclaimsOpen
      simp [execClaimAnswer, claimAnswer, hlinkUp, hclaims, hclaimsOpen]
    · simp [execClaimAnswer, claimAnswer, hlinkUp, hclaims]
  · intro s added removed hlinkUp
    simp [execShadow, hlinkUp]
  · intro s u id st c hserving hcmd hterms hdiffer hexec
    have hserving' : { s with loom.active := tPut s.loom.active c.tenant c.terms }.serving = true := hserving
    have hcmd' : { s with loom.active := tPut s.loom.active c.tenant c.terms }.cmd? id = some c := hcmd
    rw [exec_reedTokensAvailable, execReedTokensAvailable, if_pos hserving', reedPass, hcmd'] at hexec
    injection hexec with hu
    rw [exec_reedTokensAvailable, execReedTokensAvailable, if_pos hserving, reedPass, hcmd]
    refine congrArg Host.Outcome.next ?_
    rw [← hu]
    exact underTerms_of_other hterms hdiffer _

end Sys2Proof.Machine

/-! # The write path and the read stage (O30) -/

namespace Sys2Proof.Machine

open State

/-- Settles O30: a grain waits for nothing more, and the form that is found decides. -/
theorem writePathCommandsComplete : Obligations.WritePathCommandsComplete := by
  refine ⟨?_, ?_, ?_, ?_, ?_, ?_⟩
  · intro s cmd grain dpc ok cached c v hcmd hvol hserving hphase hfwdTo hpipeGrains hhasOut hlookups hgrainWaits
    refine ⟨?_, ?_, ?_, ?_⟩
    · intro hkeyEmptyOf
      simp only [exec_grainPipeline, execGrainPipeline, grainRun, hcmd, hvol, hserving, hphase, hfwdTo, hpipeGrains, hhasOut,
        hlookups, hgrainWaits, hkeyEmptyOf, if_true, if_false, Bool.not_true, Bool.false_eq_true, Bool.or_self, bne_self_eq_false]
    · intro p hkeyEmptyOf hlbaf holdReadable hgrainPlain
      simp only [exec_grainPipeline, execGrainPipeline, grainRun, hcmd, hvol, hserving, hphase, hfwdTo, hpipeGrains, hhasOut,
        hlookups, hgrainWaits, hkeyEmptyOf, hlbaf, holdReadable, hgrainPlain, if_false, Bool.not_true, Bool.false_eq_true,
        Bool.or_self, bne_self_eq_false]
    · intro hkeyEmptyOf hlbaf holdReadable
      simp only [exec_grainPipeline, execGrainPipeline, grainRun, hcmd, hvol, hserving, hphase, hfwdTo, hpipeGrains, hhasOut,
        hlookups, hgrainWaits, hkeyEmptyOf, hlbaf, holdReadable, if_true, if_false, Bool.not_true, Bool.not_false,
        Bool.false_eq_true, Bool.or_self, bne_self_eq_false]
    · rintro sc hkeyEmptyOf hlbaf ⟨y, hpiAt⟩ hpiFirst
      simp only [exec_grainPipeline, execGrainPipeline, grainRun, hcmd, hvol, hserving, hphase, hfwdTo, hpipeGrains, hhasOut,
        hlookups, hgrainWaits, hkeyEmptyOf, hlbaf, hpiAt, hpiFirst, if_true, if_false, Bool.not_true, Bool.false_eq_true,
        Bool.or_self, bne_self_eq_false]
  · intro s t tag grain tenant chunk fp hlinkUp hholdsShard
    refine ⟨?_, ?_⟩
    · rintro hhit rfl
      simp [execIdxLookup, hlinkUp, hholdsShard, hhit]
    · rintro k p d hhit rfl
      simp [execIdxLookup, hlinkUp, hholdsShard, hhit]
  · intro s cmd grain c l hit hlookupAt hconfirm
    refine ⟨?_, ?_⟩
    · simp [execIdxAnswer, hlookupAt, hconfirm]
    · simp [execIdxAnswer, hlookupAt, hconfirm] <;> rfl
  · intro s cmd grain c l hlookupAt
    refine ⟨?_, ?_, ?_⟩
    · intro hconfirm
      simp [execIndexLookupTimeout, hlookupAt, hconfirm]
    · intro hconfirm hreserveId
      simp [execIndexLookupTimeout, lookupLapse, hlookupAt, hconfirm, hreserveId]
    · intro k t hconfirm hreserveId
      simp [execIndexLookupTimeout, lookupLapse, hlookupAt, hconfirm, hreserveId]
  · rintro s t cmd c v off blks seq r x y hcmd hserving hrecordReady hvol hext rfl rfl rfl rfl rfl
    simp [execRecordHeaderWrite, recordHead, hcmd, hserving, hrecordReady, hvol, hext]
  · intro s cmd grain dpc check c hcmd hserving hphase hisWriteKind hfwdTo htodo
    refine ⟨?_, ?_, ?_, ?_, ?_, ?_, ?_⟩
    · intro hgrainSource
      simp only [exec_grainReadStage, execGrainReadStage, grainRead, hcmd, hserving, hphase, hisWriteKind, hfwdTo, htodo,
        hgrainSource, if_false, Bool.not_true, Bool.false_eq_true, Bool.or_self, bne_self_eq_false]
    · intro hgrainSource
      simp only [exec_grainReadStage, execGrainReadStage, grainRead, hcmd, hserving, hphase, hisWriteKind, hfwdTo, htodo,
        hgrainSource, if_false, Bool.not_true, Bool.false_eq_true, Bool.or_self, bne_self_eq_false]
    · intro f hgrainSource hkeyEmptyOf
      simp only [exec_grainReadStage, execGrainReadStage, grainRead, hcmd, hserving, hphase, hisWriteKind, hfwdTo, htodo,
        hgrainSource, hkeyEmptyOf, if_false, Bool.not_true, Bool.false_eq_true, Bool.or_self, bne_self_eq_false]
    · intro k e f hgrainSource hkeyEmptyOf hplan htGet
      simp only [exec_grainReadStage, execGrainReadStage, grainRead, hcmd, hserving, hphase, hisWriteKind, hfwdTo, htodo,
        hgrainSource, hkeyEmptyOf, hplan, htGet, if_false, Bool.not_true, Bool.false_eq_true, Bool.or_self, bne_self_eq_false]
    · intro hgrainSource
      simp only [exec_grainReadStage, execGrainReadStage, grainRead, hcmd, hserving, hphase, hisWriteKind, hfwdTo, htodo,
        hgrainSource, if_false, Bool.not_true, Bool.false_eq_true, Bool.or_self, bne_self_eq_false]
    · intro k f hgrainSource hkeyEmptyOf
      simp only [exec_grainReadStage, execGrainReadStage, grainRead, hcmd, hserving, hphase, hisWriteKind, hfwdTo, htodo,
        hgrainSource, hkeyEmptyOf, if_false, Bool.not_true, Bool.false_eq_true, Bool.or_self, bne_self_eq_false]
    · intro f hgrainSource hkeyEmptyOf
      simp only [exec_grainReadStage, execGrainReadStage, grainRead, hcmd, hserving, hphase, hisWriteKind, hfwdTo, htodo,
        hgrainSource, hkeyEmptyOf, if_true, if_false, Bool.not_true, Bool.false_eq_true, Bool.or_self, bne_self_eq_false]

end Sys2Proof.Machine

/-! # Mirroring and rows (O31) -/

namespace Sys2Proof.Machine

open State

/-- Settles O31: a record goes where its segment or mirror has room; a DRAM error hits what lay there. -/
theorem mirrorRowAndChannelCommandsComplete : Obligations.MirrorRowAndChannelCommandsComplete := by
  refine ⟨?_, ?_, ?_, ?_, ?_, ?_, ?_⟩
  · intro s record members hmirrors
    refine ⟨?_, ?_, ?_, ?_⟩
    · intro htype hmirrorRoom
      simp [execMirrorData, mirrorData, hmirrors, htype, hmirrorRoom]
    · intro htype
      simp [execMirrorData, mirrorData, hmirrors, htype]
    · intro htype hmirrorRoom
      simp [execMirrorData, mirrorData, hmirrors, htype, hmirrorRoom]
    · simp [execMirrorData, mirrorData, hmirrors]
  · rintro s t u acked flashed hlinkUp hholdup rfl rfl
    simp [execMirrorAck, mirrorAck, hlinkUp, hholdup]
  · intro s seq r hown hlinkUp hsolo hholdup hmirrored
    simp [execMirrorResend, mirrorResend, hown, hlinkUp, hsolo, hholdup, hmirrored]
  · intro s segment g r hseg hrow hst hAnd hownSeg
    refine ⟨?_, ?_⟩
    · simp [execRowClose, rowClose, hseg, hrow, hst, hAnd, hownSeg]
    · simp [execRowCloseTimeout, rowClose, hseg, hrow, hst, hAnd, hownSeg]
  · intro s tag e hlinkUp hcmds
    refine ⟨?_, ?_⟩
    · intro hphase
      simp [execStall, hlinkUp, hcmds, hphase]
    · intro hphase
      simp [execStall, hlinkUp, hcmds, hphase]
  · intro s hrestriping
    simp [execRestripeComplete, hrestriping]
  · rintro s t channel addr own seq id chunk rfl
    refine ⟨?_, ?_, ?_, ?_, ?_⟩
    · simp [execDramUncorrectableError]
    · intro r hite
      refine ⟨?_, ?_⟩
      · intro hrecordRebuilt
        simp only [exec_dramUncorrectableError, execDramUncorrectableError, hite, hrecordRebuilt, if_true, Bool.and_self]
      · simp only [exec_dramUncorrectableError, execDramUncorrectableError, recordRebuilt, hite, if_false, Bool.false_and,
          Bool.false_eq_true]
    · simp [execDramUncorrectableError]
    · intro p hpage hflash
      simp [execDramUncorrectableError, pageLost, hpage, hflash]
    · intro hpage
      simp [execDramUncorrectableError, pageLost, hpage]

end Sys2Proof.Machine

/-! # Data reduction (O32) -/

namespace Sys2Proof.Machine

open State

/-- Settles O32: each command changes one table of the reduction index. -/
theorem reductionCommandsComplete : Obligations.ReductionCommandsComplete := by
  refine ⟨?_, ?_, ?_, ?_, ?_, ?_, ?_, ?_, ?_, ?_⟩
  · rintro s n run hidxLog rfl rfl
    refine ⟨?_, ?_, ?_⟩
    · simp [execIndexRunFlushTimer, runWrite, hidxLog]
    · intro hrunMax
      simp [execIndexRunWrite, runWrite, hidxLog, hrunMax]
    · intro hidxLog2
      simp [execIndexRunWrite, hidxLog2]
  · intro s tenant data haccepts
    simp [execRedWriteStaged, redGo, barWrite_of_accepts haccepts]
  · intro s t tenant haccepts
    refine ⟨?_, ?_⟩
    · rintro rfl
      simp [execRedReadStaged, redGo, barWrite_of_accepts haccepts]
    · rintro rfl
      simp [execRedReadActive, redGo, barWrite_of_accepts haccepts]
  · intro s p hserving
    refine ⟨?_, ?_⟩
    · simp [execReweave, hserving]
    · simp [execReweave, hserving]
  · intro s entries last
    refine ⟨?_, ?_, ?_⟩
    · intro hsolo
      simp [execShardHandback, hsolo]
    · intro hsolo
      simp [execShardHandback, hsolo]
    · intro hsolo hsolo2 hlinkUp
      simp [execShardHandback, handBack, hsolo, hsolo2, hlinkUp]
  · intro s volume content candidate current v hvol hserving hownsGroup hdictMode hredOf htGet
    have henough : ¬ tGet s.mp.training volume.toNat 0 < 262144 := by omega
    simp [execDictTraining, dictTrain, hvol, hserving, hownsGroup, hdictMode, hredOf, henough]
  · rintro s tenant given ids haudit hserving rfl rfl
    simp [execTallyAuditStart, auditStart, haudit, hserving]
  · intro s a haudit
    simp [execTallyAuditFinish, auditFinish, haudit]
  · intro s chunk hlinkUp
    refine ⟨?_, ?_, ?_⟩
    · simp [execPendingClear, hlinkUp] <;> rfl
    · simp [execPendingClear, withdrawPending, hlinkUp]
    · intro t hexec
      simp_all [execPendingClear, withdrawPending]
  · intro s n hrebuild
    refine ⟨?_, ?_⟩
    · simp [execIndexRebuildDone, rebuildDone, hrebuild]
    · intro hrebuilt
      simp [rebuildTake, hrebuild, hrebuilt]

end Sys2Proof.Machine

/-! # Map pages and checkpoints (O33) -/

namespace Sys2Proof.Machine

open State

/-- A boundary of a serving head that has a checkpoint due and none running cuts one. -/
theorem State.ckptBoundary_of_due {s : State} (hserving : s.serving = true) (hnone : s.mp.ckpt = none) (hdue : s.mp.ckptDue = true) :
    s.ckptBoundary = s.ckptCut := by
  simp [ckptBoundary, hserving, hnone, hdue]

/-- Settles O33: a page, a row or a root that is durable lets the next one go. -/
theorem mapPageAndCheckpointCommandsComplete : Obligations.MapPageAndCheckpointCommandsComplete := by
  refine ⟨?_, ?_, ?_, ?_, ?_, ?_, ?_, ?_⟩
  · intro s page p hpage hresident
    refine ⟨?_, ?_⟩
    · simp [execPageinComplete, pageIn, hpage, hresident]
    · intro seg row member pos hflash
      simp [execPageinComplete, pageIn, hpage, hresident, hflash]
  · intro s t page p hpage hdirty hownsVol
    refine ⟨?_, ?_⟩
    · intro hmapPlace
      simp [execPageWriteback, writeBack, hpage, hdirty, hownsVol, hmapPlace]
    · intro hmapPlace
      simp [execPageWriteback, writeBack, hpage, hdirty, hownsVol, hmapPlace]
  · rintro s count l hlinkUp rfl
    simp [execOverlayFill, hlinkUp]
  · rintro s t seg n g r recs hjwait hrowFor hseg hrow rfl rfl
    refine ⟨?_, ?_, ?_⟩
    · intro hjournalDue
      simp [execMapJournalRowClose, journalRow, hjwait, hrowFor, hseg, hrow, hjournalDue]
    · intro hjournalDue
      simp [execMapJournalRowClose, hjournalDue]
    · simp [execMapJournalFlushTimer, journalRow, hjwait, hrowFor, hseg, hrow]
  · intro s hserving hckptNeeded
    refine ⟨?_, ?_⟩
    · intro hckpt
      refine ⟨?_, ?_⟩
      · simp [execCheckpointDue, ckptStart, hserving, hckptNeeded, hckpt]
      · intro hserving2
        exact ckptBoundary_of_due hserving2 hckpt rfl
    · intro hckpt
      simp [execCheckpointDue, ckptStart, hserving, hckptNeeded, hckpt]
  · rintro s t u r slot id hckpt hckptRoot rfl rfl
    simp [execCheckpointComplete, ckptDone, ckptComplete, hckpt, hckptRoot]
  · intro s t r id hckpt hckptOpen hckptRoot hrootSlot
    simp [rootStep, hckpt, hckptOpen, hckptRoot, hrootSlot]
  · rintro s t volume x hvol hpinned hownsGroup rfl
    simp [execPinResident, pinResident, hvol, hpinned]

end Sys2Proof.Machine

/-! # Snapshots and the Bobbin cache (O34) -/

namespace Sys2Proof.Machine

open State

/-- Settles O34: each head's own snapshot operation decides, and a line's state in the Bobbin cache. -/
theorem snapshotAndBobbinCommandsComplete : Obligations.SnapshotAndBobbinCommandsComplete := by
  refine ⟨?_, ?_, ?_, ?_, ?_, ?_, ?_, ?_, ?_, ?_, ?_⟩
  · rintro s t tag start members hlinkUp rfl
    refine ⟨?_, ?_, ?_, ?_⟩
    · simp [execSnapNotice, snapNotice, hlinkUp]
    · intro hmembers hsnapMay
      simp [execSnapNotice, snapNotice, hlinkUp, hmembers, hsnapMay]
    · intro hmembers hsnapMay hstart
      simp [execSnapNotice, snapNotice, hlinkUp, hmembers, hsnapMay, hstart]
    · intro hmembers hsnapMay hbeat
      simp [execSnapNotice, snapNotice, hlinkUp, hmembers, hsnapMay, hbeat]
  · intro s tag receipt o hlinkUp htGet hpartner hconfirmed hdone
    refine ⟨?_, ?_, ?_⟩
    · intro hreceipt hbeat
      simp [execSnapConfirm, hlinkUp, htGet, hpartner, hconfirmed, hdone, hreceipt, hbeat]
    · intro hcase
      rcases hcase with hcase | hcase <;> simp [execSnapConfirm, hlinkUp, htGet, hpartner, hconfirmed, hdone, hcase]
    · simp [execSnapConfirmTimeout, htGet, hpartner, hconfirmed, hdone]
  · rintro s t u tag o htGet hdone hconfirmed hcut rfl rfl
    have hgo : (o.done || (o.partner && !o.confirmed) || decide (s.beat < o.cut)) = false := by
      have hbeat : ¬ s.beat < o.cut := by omega
      cases hpartner : o.partner <;> simp_all
    rw [exec_snapshotCut, execSnapshotCut, snapshotCut]
    simp only [htGet, hgo, Bool.false_eq_true, if_false] <;> rfl
  · intro s tag o htGet hdone hcut
    simp [execSnapPauseEnd, pauseEnd, htGet, hdone, hcut]
  · rintro s t snapshot x htGet hdeleting hhasClone hownsVol rfl
    simp [execSnapshotDeleteRun, snapDelete, htGet, hdeleting, hhasClone, hownsVol]
  · intro s volume grain x n l hvol hhomeOf
    refine ⟨?_, ?_⟩
    · intro hleafDir
      simp [execBobbinLookup, lineLookup, hvol, hhomeOf, hleafDir]
    · intro hleafDir hfindLeaf
      simp [execBobbinLookup, lineLookup, hvol, hhomeOf, hleafDir, hfindLeaf]
  · rintro s t dpc volume page sector b m left waits rfl hisResident hmiss rfl rfl rfl
    simp [execBobbinFillLand, bobFill, hisResident, hmiss]
  · rintro s dpc b rfl
    refine ⟨?_, ?_, ?_⟩
    · intro e hmerge hsince
      have hsome : (s.bob dpc.val).merge.isEmpty = false := by
        rw [List.isEmpty_eq_false_iff]
        rintro hnil
        simp [hnil] at hmerge
      simp only [exec_mergeDrainTimeout, execMergeDrainTimeout, hmerge, hsince, if_true, bobDrain, hsome, Bool.false_eq_true,
        if_false]
    · intro hmerge hact
      simp [execMergeBufferDrain, bobDrain, hmerge, hact]
    · intro hmerge
      simp [execMergeDrainTimeout, hmerge]
  · intro s tag grain chunk tenant fpCheck e hlinkUp hchunk
    refine ⟨?_, ?_⟩
    · intro hchunkUsable hkeepsPool htenant hfpCheck
      simp [execKeeperConfirmReq, keeperConfirm, hlinkUp, hchunk, hchunkUsable, hkeepsPool, htenant, hfpCheck]
    · intro hcase
      have hgood : (s.chunkUsable chunk && s.keepsPool (poolOf chunk) &&
          ((s.chunk? chunk).map (fun x => x.tenant == tenant && x.fpCheck == fpCheck)).getD false) = false := by
        rcases hcase with husable | hpool | htenant | hcheck
        · simp [husable]
        · simp [hpool]
        · simp [hchunk, htenant]
        · simp [hchunk, hcheck]
      simp only [exec_keeperConfirmReq, execKeeperConfirmReq, keeperConfirm, hlinkUp, hgood, Bool.false_eq_true, if_false,
        if_true,
        Bool.toNat_false]
  · intro s tag grain chunk tenant fpCheck hlinkUp hchunk
    simp [execKeeperConfirmReq, keeperConfirm, hlinkUp, hchunk]
  · intro s cmd grain k c l hlookupAt hconfirm
    refine ⟨?_, ?_⟩
    · simp [execKeeperConfirm, hlookupAt, hconfirm]
    · simp [execKeeperConfirm, hlookupAt, hconfirm] <;> rfl

end Sys2Proof.Machine

/-! # Media background work (O35) -/

namespace Sys2Proof.Machine

open State

/-- A segment that may be erased waits for its booked reads and for the partner's clearance. -/
theorem State.eraseSegment_of_due {s : State} {segment : Nat} {g : Seg} {vault : Bool} (hseg : s.seg? segment = some g)
    (hown : s.ownSeg segment = true) (hheld : s.nv.tenants.any (fun e => e.2.san.held.contains segment) = false) (herasing : g.erasing = [])
    (hvault : vault = (g.type == 6 && g.st == .reserved && !s.dumpHeld g.area && g.nextRow != 0)) (hdue : g.st = .drained ∨ vault = true)
    (hmoves : s.movesPending g = false) :
    s.eraseSegment segment =
      if s.readsBooked segment then s.mediaCnt 13 1
      else if s.paired && !g.clear && !vault then (s.sendMsg 0x0006 [segment]).mediaCnt 13 1
      else s.eraseMembers segment g := by
  have hgo : (g.st == .drained || vault) = true := by
    rcases hdue with hst | hv
    · simp [hst]
    · simp [hv]
  simp only [eraseSegment, hseg, hown, hheld, herasing, ← hvault, hgo, hmoves, List.isEmpty_nil, Bool.not_true, Bool.or_self,
    Bool.false_eq_true, if_false]

/-- Settles O35: what a segment or a victim holds decides what the background does with it. -/
theorem mediaBackgroundCommandsComplete : Obligations.MediaBackgroundCommandsComplete := by
  refine ⟨?_, ?_, ?_, ?_, ?_, ?_, ?_, ?_⟩
  · rintro s t l rfl rfl
    simp [execVictimScoring, score] <;> rfl
  · rintro s t u w damaged lost v g r hserving hheadVictim hseg hcase rfl rfl rfl rfl
    rcases hcase with hcase | hcase | hcase <;> simp [execCollectVictim, collect, hserving, hheadVictim, hseg, hcase]
  · intro s damaged lost v g hserving
    refine ⟨?_, ?_, ?_⟩
    · intro hheadVictim
      simp [execCollectVictim, collect, hserving, hheadVictim]
    · intro hheadVictim hseg
      simp [execCollectVictim, collect, hserving, hheadVictim, hseg]
    · intro hheadVictim hseg hclosed hvictim hopened
      have hno : (g.st != .closed && g.st != .victim && !(v.member.isSome && g.st == .opened)) = true := by
        have hmember : (v.member.isSome && g.st == .opened) = false := by
          rw [Bool.and_eq_false_iff, beq_eq_false_iff_ne]
          by_cases hst : g.st = .opened
          · exact Or.inl (by rw [hopened hst]; rfl)
          · exact Or.inr hst
        simp [hclosed, hvictim, hmember]
      simp only [exec_collectVictim, execCollectVictim, collect, hserving, hheadVictim, hseg, hno, Bool.not_true,
        Bool.false_eq_true,
        if_false, if_true]
  · intro s segment chunk bytes hlinkUp hownSeg
    simp [execLiveDelta, hlinkUp, hownSeg]
  · intro s x l
    refine ⟨?_, ?_, ?_⟩
    · intro hlostChunks
      simp [execLostExtentSearch, hlostChunks] <;> rfl
    · intro hlostChunks hextentRoom
      simp [execLostExtentSearch, searchAll, hlostChunks, hextentRoom]
    · intro hlostChunks hextentRoom
      rw [exec_lostExtentSearch, execLostExtentSearch, hlostChunks, searchAll, if_pos hextentRoom, hlostChunks]
  · rintro s t segment a g lost hserving hrebuildTurn rfl
    simp [execRebuildSegment, rebuild, hserving, hrebuildTurn]
  · intro s segment hlinkUp
    refine ⟨?_, ?_⟩
    · simp [execEraseClearReq, hlinkUp]
    · simp [execEraseClearAns, hlinkUp]
  · intro s segment g vault hseg hownSeg htenants herasing hvault hdue hmovesPending
    refine ⟨?_, ?_, ?_⟩
    · intro hreadsBooked
      rw [exec_segmentErase, execSegmentErase, eraseSegment_of_due hseg hownSeg htenants herasing hvault hdue hmovesPending,
        if_pos hreadsBooked]
    · intro hreadsBooked hpaired hclear hnotVault
      rw [exec_segmentErase, execSegmentErase, eraseSegment_of_due hseg hownSeg htenants herasing hvault hdue hmovesPending,
        if_neg (by simp [hreadsBooked]), if_pos (by simp [hpaired, hclear, hnotVault])]
    · intro hreadsBooked hcleared
      rw [exec_segmentErase, execSegmentErase, eraseSegment_of_due hseg hownSeg htenants herasing hvault hdue hmovesPending,
        if_neg (by simp [hreadsBooked]), if_neg (by rcases hcleared with h | h | h <;> simp [h])]

end Sys2Proof.Machine

/-! # The link between the heads (O39) -/

namespace Sys2Proof.Machine

open State

namespace State

/-- A link that is narrowing replays nothing. -/
theorem dkReplay_of_narrowing {s : State} (h : s.lstate = 8) : s.dkReplay = s := by
  have hfld : s.fld Reg.DIKOR_STATUS_LSTATE = 8 := h
  rw [dkReplay]
  cases s.dk.unacked with
  | nil => rfl
  | cons f rest => exact if_pos hfld

/-- The loss of a good quad narrows the link to the others, or takes it down where fewer than three are left. -/
theorem quadLost_of_good {s t u : State} {q mask : Nat} (hlink : s.linkUp = true)
    (hmask : mask = s.dk.named.getD (s.fld Reg.DIKOR_STATUS_QUAD_MASK)) (hbit : mask / 2 ^ q % 2 = 1) (hu : u = s.secondFault.swapFault)
    (hkeep : mask = u.dk.named.getD (u.fld Reg.DIKOR_STATUS_QUAD_MASK))
    (ht : t = { u with
      dk.back := u.dk.back.filter (fun x => x != q)
      dk.returned := u.dk.returned.filter (fun r => r.1 != q)
      dk.leftOut := if s.dk.returned.any (fun r => r.1 == q && decide (s.now ≤ r.2 + 10000000000)) && s.dk.leftOut / 2 ^ q % 2 = 0
        then s.dk.leftOut + 2 ^ q else s.dk.leftOut }) :
    s.quadLost q =
      if popcount (mask - 2 ^ q) < 3 then t.linkDown
      else (({ t with dk.named := some (mask - 2 ^ q), dk.stopped := if t.lstate = 8 then t.dk.stopped else t.now }.setLink 8).emit
        (.dkWidth (mask - 2 ^ q))) := by
  have hgo : ¬ (!s.linkUp || decide ((s.dk.named.getD (s.fld Reg.DIKOR_STATUS_QUAD_MASK)) / 2 ^ q % 2 = 0)) = true := by
    rw [hlink, ← hmask, hbit]
    decide
  have hmask' : t.dk.named.getD (t.fld Reg.DIKOR_STATUS_QUAD_MASK) = mask := by
    rw [hkeep, ht]
    rfl
  have hgood : mask - mask / 2 ^ q % 2 * 2 ^ q = mask - 2 ^ q := by rw [hbit, Nat.one_mul]
  have hless : ¬ mask - 2 ^ q = mask := by
    have hpos : 0 < 2 ^ q := Nat.two_pow_pos q
    have hle : 2 ^ q ≤ mask := by
      by_contra hlt
      rw [Nat.div_eq_of_lt (by omega)] at hbit
      omega
    omega
  have hnarrow : s.quadLost q =
      let m := t.dk.named.getD (t.fld Reg.DIKOR_STATUS_QUAD_MASK)
      let good := m - m / 2 ^ q % 2 * 2 ^ q
      if good = m then t
      else if popcount good < 3 then t.linkDown
      else (({ t with dk.named := some good, dk.stopped := if t.lstate = 8 then t.dk.stopped else t.now }.setLink 8).emit
        (.dkWidth good)) := by
    rw [quadLost, if_neg hgo, ht, hu]
  rw [hnarrow]
  dsimp only
  rw [hmask', hgood, if_neg hless]

end State

/-- Settles O39: the link's state decides what its training, its flits and its quads do. -/
theorem dikorLinkCommandsComplete : Obligations.DikorLinkCommandsComplete := by
  refine ⟨?_, ?_, ?_, ?_, ?_, ?_, ?_, ?_, ?_, ?_, ?_, ?_, ?_, ?_, ?_⟩
  · intro s hmayTrain hcase
    refine ⟨?_, ?_, ?_⟩
    · rcases hcase with hcase | hcase | hcase <;> simp [execTrainingAttempt, trainStart, hmayTrain, hcase]
    · intro hlstate
      simp [execLinkRetryTimer, trainStart, hmayTrain, hlstate]
    · intro hlstate
      simp [execAbsentRetryTimer, trainStart, hmayTrain, hlstate]
  · rintro s quads c d hfailed rfl rfl
    refine ⟨?_, ?_, ?_, ?_, ?_, ?_, ?_, ?_⟩
    · intro hlstate hprsnt hpopcount
      simp [execTrainingStateComplete, trainDone, hfailed, hlstate, hprsnt, hpopcount]
    · intro hlstate hcase
      rcases hcase with hcase | hcase <;> simp [execTrainingStateComplete, trainDone, hfailed, hlstate, hcase]
    · intro hlstate
      simp [execTrainingStateComplete, trainDone, hfailed, hlstate]
    · intro hlstate hpopcount
      simp [execTrainingStateComplete, trainDone, hfailed, hlstate, hpopcount]
    · intro hlstate hpopcount
      simp [execTrainingStateComplete, trainDone, hfailed, hlstate, hpopcount]
    · intro hlstate hpopcount
      simp [execTrainingStateComplete, trainDone, hfailed, hlstate, hpopcount]
    · intro hlstate hpopcount
      simp [execTrainingStateComplete, trainDone, hfailed, hlstate, hpopcount]
    · intro hlstate
      simp [execTrainingStateComplete, trainDone, hfailed, hlstate]
  · rintro s t hlstate hlstate2 rfl
    simp [execTrainingAttemptTimeout, trainFail, hlstate, hlstate2]
  · rintro s t u v q z d idx differ hlstate hfailed rfl
    refine ⟨?_, ?_⟩
    · intro c hc hrefuseCause
      simp only [exec_identity, execIdentity, identity, hlstate, hfailed, hrefuseCause, if_false, Bool.false_eq_true,
        Bool.or_self, bne_self_eq_false]
    · rintro hrefuseCause rfl rfl rfl rfl rfl rfl
      simp only [exec_identity, execIdentity, identity, hlstate, hfailed, hrefuseCause, if_false, Bool.false_eq_true,
        Bool.or_self, bne_self_eq_false]
  · intro s t u f hlinkUp
    refine ⟨?_, ?_, ?_⟩
    · intro hcrcOk hkind
      simp [execFlitReceive, flitIn, hlinkUp, hcrcOk, hkind]
    · intro hcrcOk hkind
      simp [execFlitReceive, flitIn, hlinkUp, hcrcOk, hkind]
    · rintro hcrcOk rfl rfl
      simp [execFlitReceive, flitIn, hlinkUp, hcrcOk]
  · rintro s t sent skew hlinkUp rfl
    refine ⟨?_, ?_⟩
    · intro hcase
      rcases hcase with hcase | hcase <;> simp [execSyncFlit, syncFlit, hlinkUp, hcase]
    · intro hbit hfld
      simp [execSyncFlit, syncFlit, hlinkUp, hbit, hfld] <;> rfl
  · intro s f rest hlinkUp
    refine ⟨?_, ?_, ?_, ?_⟩
    · intro hnak
      simp [execNakRepeat, hlinkUp, hnak]
    · intro hnarrowing
      rw [exec_replayTimeout, execReplayTimeout, if_pos hlinkUp, dkReplay_of_narrowing hnarrowing]
    · intro hlstate hunacked
      rw [exec_replayTimeout, execReplayTimeout, if_pos hlinkUp, dkReplay, hunacked]
      exact congrArg Host.Outcome.next (if_neg hlstate)
    · intro hunacked
      simp [execReplayTimeout, dkReplay, hlinkUp, hunacked]
  · intro s t u quad mask hlinkUp hmask hbit hu hkeep ht
    refine ⟨?_, ?_, ?_⟩
    · intro hfew
      rw [exec_quadLoss, execQuadLoss, quadLost_of_good hlinkUp hmask hbit hu hkeep ht, if_pos hfew]
    · intro hsome
      rw [exec_quadLoss, execQuadLoss, quadLost_of_good hlinkUp hmask hbit hu hkeep ht, if_neg (by omega)]
    · intro errors hreplays hworst hsome
      simp only [exec_replayLimitQuadDrop, execReplayLimitQuadDrop, hlinkUp, hreplays, decide_true, Bool.and_self, if_true,
        hworst]
      rw [quadLost_of_good hlinkUp hmask hbit hu hkeep ht, if_neg (by omega)]
  · intro s mask hlinkUp
    refine ⟨?_, ?_⟩
    · intro hpopcount
      simp [execWidthOrderedSet, widthSet, hlinkUp, hpopcount]
    · rintro cur mine new t u rfl rfl rfl hpopcount rfl rfl
      simp [execWidthOrderedSet, widthSet, hlinkUp, hpopcount]
  · rintro s quad mask m hlstate rfl hmask hact hleftOut hcase rfl
    refine ⟨?_, ?_⟩
    · intro hchangeFree hmove
      rcases hcase with hcase | hcase <;> simp [execQuadReturn, quadReturn, quadMay, hlstate, hmask, hact, hleftOut, hcase, hchangeFree,
        hmove]
    · intro hbusy
      have hmay : s.quadMay quad.val = true := by
        rcases hcase with hauto | hasked
        · simp [quadMay, hlstate, hmask, hact, hleftOut, hauto]
        · simp [quadMay, hlstate, hmask, hact, hleftOut, hasked]
      have hnot : (s.changeFree && s.own.move.isNone) = false := by
        rcases hbusy with hchange | hmove
        · rw [hchange, Bool.false_and]
        · rw [Option.isNone_eq_false_iff.mpr hmove, Bool.and_false]
      simp only [exec_quadReturn, execQuadReturn, quadReturn, hmay, hnot, Bool.not_true, Bool.false_eq_true, if_false]
  · intro s present
    have hstate : { s with dk.prsnt := present }.lstate = s.lstate := rfl
    refine ⟨?_, ?_, ?_, ?_, ?_⟩
    · rintro rfl hprsnt hlstate
      simp only [exec_partnerPresentChange, execPartnerPresentChange, hstate, hprsnt, hlstate, Bool.not_false, decide_true,
        Bool.and_self,
        if_true]
    · rintro rfl hlow hhigh
      simp only [exec_partnerPresentChange, execPartnerPresentChange, hstate, hlow, hhigh, Bool.not_false, Bool.false_and,
        Bool.false_eq_true, if_false, decide_true, Bool.and_self, if_true]
    · rintro rfl hsettled
      have hnot : (!s.dk.prsnt && decide (s.lstate = 10)) = false := by
        rcases hsettled with hprsnt | hlstate
        · rw [hprsnt]
          rfl
        · rw [decide_eq_false hlstate, Bool.and_false]
      simp only [exec_partnerPresentChange, execPartnerPresentChange, hstate, hnot, Bool.true_and, Bool.not_true, Bool.false_and,
        Bool.false_eq_true, if_false]
    · rintro rfl hout
      have hnot : (decide (1 ≤ s.lstate) && decide (s.lstate ≤ 6)) = false := by
        simp only [Bool.and_eq_false_iff, decide_eq_false_iff_not]
        omega
      simp only [exec_partnerPresentChange, execPartnerPresentChange, hstate, hnot, Bool.not_false, Bool.true_and, Bool.false_and,
        Bool.false_eq_true, if_false]
    · intro hprsnt hlinkUp
      simp [execPartnerAbsentTimeout, hprsnt, hlinkUp]
  · rintro s t u edge flits hcase rfl rfl
    simp [execHeartbeatLoss, hcase]
  · rintro s t hcond hbit rfl
    simp [execHeartbeatRestored, hcond, hbit]
  · intro s hlinkUp hholdup
    simp [execHoldup, hlinkUp, hholdup]
  · intro s
    refine ⟨?_, ?_⟩
    · intro hwaitRunning
      simp [execPartnerWaitExpiry, hwaitRunning]
    · rintro t hwaitExpired hcase rfl
      simp [execSoloBootRecheck, soloCheck, hwaitExpired, hcase]

end Sys2Proof.Machine

/-! # Ownership (O40) -/

namespace Sys2Proof.Machine

open State

/-- Settles O40: a swap, a join and a lease go on from the state that they are in. -/
theorem ownershipCommandsComplete : Obligations.OwnershipCommandsComplete := by
  refine ⟨?_, ?_, ?_, ?_, ?_, ?_, ?_, ?_, ?_, ?_⟩
  · intro s t group gen handover hlinkUp
    refine ⟨?_, ?_, ?_, ?_, ?_⟩
    · intro hcase
      simp [execBatonOffer, batonOffer, hlinkUp, hcase]
    · intro hwindowsOpen hmove hhPow
      simp only [exec_batonOffer, execBatonOffer, batonOffer, hlinkUp, hwindowsOpen, hmove, hhPow, if_true, if_false,
        Bool.not_true, Bool.false_eq_true, Bool.or_self, Option.isSome_none]
    · intro hwindowsOpen hmove hoverlay hbusy
      have hroom : ¬ 3 * 2 ^ 26 ≤ s.mp.overlay.length := by omega
      have hno : (!s.changeFree || s.own.join.isSome) = true := by
        rcases hbusy with hchange | hjoin
        · rw [hchange]
          rfl
        · rw [hjoin, Bool.or_true]
      simp only [exec_batonOffer, execBatonOffer, batonOffer, hlinkUp, hwindowsOpen, hmove, hroom, hno, Option.isSome_none,
        Bool.or_self,
        Bool.not_true, Bool.false_eq_true, if_false, if_true]
    · rintro hwindowsOpen hmove hoverlay hchangeFree hjoin hpaired hbit hownsGroup hgen rfl
      have hroom : ¬ 3 * 2 ^ 26 ≤ s.mp.overlay.length := by omega
      simp only [exec_batonOffer, execBatonOffer, batonOffer, hlinkUp, hwindowsOpen, hmove, hroom, hchangeFree, hjoin, hpaired,
        hbit,
        hownsGroup, hgen, Option.isSome_none, Bool.or_self, Bool.not_true, Bool.false_eq_true, if_false, bne_self_eq_false]
    · intro hwindowsOpen hmove hoverlay hchangeFree hjoin hunfit
      have hroom : ¬ 3 * 2 ^ 26 ≤ s.mp.overlay.length := by omega
      have hno : (!s.paired || !s.bit Reg.OWN_STATUS_MIRROR_READY || s.ownsGroup group.toNat ||
          tGet s.nv.groupGens group.toNat 0 != gen.toNat) = true := by
        rcases hunfit with hpaired | hready | howns | hgen
        · simp [hpaired]
        · simp [hready]
        · simp [howns]
        · simp [hgen]
      simp only [exec_batonOffer, execBatonOffer, batonOffer, hlinkUp, hwindowsOpen, hmove, hroom, hchangeFree, hjoin, hno,
        Option.isSome_none, Bool.or_self, Bool.not_true, Bool.false_eq_true, if_false, if_true]
  · intro s group x htGet
    refine ⟨?_, ?_⟩
    · intro hgiving hcase
      rcases hcase with hcase | hcase <;> simp [execBatonHandover, batonHandover, htGet, hgiving, hcase]
    · intro hgiving htGet2
      simp [execBatonHandover, batonHandover, htGet, hgiving, htGet2]
  · intro s group gen handover x htGet hgiving
    refine ⟨?_, ?_, ?_, ?_, ?_⟩
    · intro hbh hbeat
      simp [execBatonAccept, batonAccept, htGet, hgiving, hbh, hbeat]
    · intro hcase
      rcases hcase with hcase | hcase <;> simp [execBatonAccept, batonAccept, htGet, hgiving, hcase]
    · intro haccepted hownsGroup
      simp [execBatonHandover, batonHandover, htGet, hgiving, haccepted, hownsGroup]
    · intro hbh
      simp [execBatonCommit, batonCommit, htGet, hgiving, hbh]
    · intro haccepted
      simp [execBatonAnswerTimeout, swapAbort, htGet, hgiving, haccepted]
  · intro s t group cause x htGet
    refine ⟨?_, ?_⟩
    · simp [execBatonAbort, swapAbort, htGet]
    · rintro hgiving htGet2 rfl
      simp [execBatonHandover, batonHandover, htGet, hgiving, htGet2]
  · rintro s n owned hpaired hact rfl rfl
    refine ⟨?_, ?_⟩
    · intro hmin
      simp only [exec_groupSwapPeriod, execGroupSwapPeriod, swapPeriod, hpaired, hact, hmin, if_true, if_false, decide_false,
        Bool.not_true, Bool.false_eq_true, Bool.or_self]
    · intro hmin
      simp only [exec_groupSwapPeriod, execGroupSwapPeriod, swapPeriod, hpaired, hact, hmin, if_false, decide_false,
        Bool.not_true, Bool.false_eq_true, Bool.or_self]
  · rintro s t s0 tail j hjoin htakes hlinkUp rfl
    refine ⟨?_, ?_⟩
    · simp [execJoinStart, hjoin, htakes, hlinkUp]
    · rintro record members u hbegan rfl
      simp [execBulk, hjoin, htakes, hlinkUp, hbegan]
  · rintro s t held j hjoin hgives hsent hlinkUp rfl
    simp [execJoinReady, hjoin, hgives, hsent, hlinkUp]
  · intro s hcase hholdup
    simp [execLeaseRenewal, hcase, hholdup]
  · intro s word hlinkUp
    refine ⟨?_, ?_⟩
    · intro hrole
      simp [execFence, fenceSelf, hlinkUp, hrole]
    · intro hrole
      simp [execFence, hlinkUp]
  · intro s crc hpaired hlinkUp
    refine ⟨?_, ?_⟩
    · rintro rfl
      simp [execOwnDigest, hpaired, hlinkUp]
    · intro hcrc
      simp [execOwnDigest, hpaired, hlinkUp, hcrc]

end Sys2Proof.Machine

/-! # Audit, fetch and forwarding (O41) -/

namespace Sys2Proof.Machine

open State

/-- Settles O41: the window, the record or the form that is found decides. -/
theorem auditMirrorAndForwardCommandsComplete : Obligations.AuditMirrorAndForwardCommandsComplete := by
  refine ⟨?_, ?_, ?_, ?_, ?_, ?_, ?_, ?_⟩
  · rintro s r rest held hpaired hlinkUp hbit rfl hwindow
    simp only [exec_mirrorAudit, execMirrorAudit, audit, hpaired, hlinkUp, hbit, hwindow, if_false, Bool.not_true,
      Bool.false_eq_true, Bool.or_self]
  · rintro s first n digest og mg l hlinkUp rfl
    refine ⟨?_, ?_, ?_, ?_, ?_⟩
    · simp [execAuditDigest, auditDigest, hlinkUp]
    · intro hwindowDigest
      simp [execAuditDigest, auditDigest, hlinkUp, hwindowDigest]
    · intro r hwindowDigest hwindow
      simp only [exec_auditDigest, execAuditDigest, auditDigest, hlinkUp, hwindowDigest, Bool.not_true, Bool.false_eq_true,
        if_false]
      rw [hwindow]
    · intro hwindowDigest hwindow
      simp [execAuditDigest, auditDigest, hlinkUp, hwindow]
    · intro hwindowDigest hlong
      simp only [exec_auditDigest, execAuditDigest, auditDigest, hlinkUp, hwindowDigest, Bool.not_true, Bool.false_eq_true,
        if_false]
      rcases hwindow : window s.jr.own first n with _ | ⟨a, _ | ⟨b, rest⟩⟩
      · simp [hwindow] at hlong
      · simp [hwindow] at hlong
      · rfl
  · intro s seq k r f hlinkUp
    refine ⟨?_, ?_, ?_, ?_, ?_, ?_, ?_, ?_⟩
    · intro hmir
      simp [execMirrorFetch, mirrorFetch, hlinkUp, hmir]
    · intro hmir
      simp [execMirrorFetch, mirrorFetch, hlinkUp, hmir]
    · intro hmir
      simp [execMirrorFetch, mirrorFetch, hlinkUp, hmir]
    · simp [execMirrorCopy, mirrorCopy, hlinkUp]
    · intro hown
      simp [execMirrorCopy, mirrorCopy, hlinkUp, hown]
    · simp [execMirrorCopy, mirrorCopy, hlinkUp]
    · simp [execMirrorCopy, mirrorCopy, hlinkUp]
    · intro hmir
      simp [execMirrorFetch, mirrorFetch, hlinkUp, hmir]
  · rintro s tag conn tenant cls gen arrived op vol src bytes fua ranges pi data k v x st hlinkUp hserving hfwdGroup hkindOfOp hvol rfl
    simp [execFwdCmd, fwdCmd, hlinkUp, hserving, hfwdGroup, hkindOfOp, hvol]
  · intro s tag off data e c hlinkUp
    refine ⟨?_, ?_, ?_, ?_⟩
    · intro hcmds
      simp [execFwdData, fwdData, hlinkUp, hcmds]
    · intro hcmds
      simp [execFwdData, fwdData, hlinkUp, hcmds]
    · intro hcmd hfwdTo hmute
      simp [execFwdData, fwdData, hlinkUp, hcmd, hfwdTo, hmute]
    · intro hcmd hcase
      rcases hcase with hcase | hcase <;> simp [execFwdData, fwdData, hlinkUp, hcmd, hcase]
  · intro s c st hlinkUp hserving
    refine ⟨?_, ?_, ?_⟩
    · intro g hfwdGroup hownsGroup
      simp [execFwdCmd, fwdCmd, hlinkUp, hserving, hfwdGroup, hownsGroup]
    · intro op vol src bytes fua ranges pi data hfwdGroup hbody
      refine ⟨?_, ?_⟩
      · intro hkindOfOp
        simp_all [execFwdCmd, fwdCmd]
      · intro hkindOfOp hvol
        simp_all [execFwdCmd, fwdCmd]
    · intro hfwdGroup hx
      simp [execFwdCmd, fwdCmd, hlinkUp, hserving, hfwdGroup]
  · rintro s t u tag sct sc delay st f hlinkUp hcmd hfwdOther rfl rfl
    refine ⟨?_, ?_⟩
    · simp [execFwdCpl, fwdCpl, hlinkUp, hcmd, hfwdOther]
    · simp [execFwdCpl, fwdCpl, hlinkUp, hcmd, hfwdOther]
  · intro s tag sct sc delay st c hlinkUp hcmd hfwdTo
    refine ⟨?_, ?_, ?_⟩
    · simp [execFwdCpl, fwdCpl, hlinkUp, hcmd, hfwdTo]
    · intro hdelay
      simp [execFwdCpl, fwdCpl, hlinkUp, hcmd, hfwdTo, hdelay]
    · simp [execFwdCpl, fwdCpl, hlinkUp, hcmd, hfwdTo]

end Sys2Proof.Machine

/-! # Replication messages (O42) -/

namespace Sys2Proof.Machine

open State

/-! ## Messages of replication connections (R385) -/

namespace State

/-- A message of a relationship that the other head runs is passed on. -/
theorem rplRoute_of_other {s : State} {h : RplHead} {k : Nat} {r : Rel} {m : RplMsg} (hhello : ∀ y, m ≠ .hello y)
    (hrel : s.relOn h.conn.val h.rel.toNat (forSource m) = some (k, r)) (hother : s.runsRel r = false) (st : Standby) :
    s.rplRoute h st m = s.rplForward h r.rid m := by
  cases m <;> simp_all [rplRoute]

/-- A message of no relationship of its connection is refused, but for an acknowledgement. -/
theorem rplRoute_of_unknown {s : State} {h : RplHead} {m : RplMsg} (hhello : ∀ y, m ≠ .hello y) (hack : isAck m = false)
    (hrel : s.relOn h.conn.val h.rel.toNat (forSource m) = none) (st : Standby) :
    s.rplRoute h st m = s.rplAck h.conn.val h.rel.toNat h.mseq h.cycle 2 0 := by
  cases m <;> simp_all [rplRoute, isAck]

/-- A message that is malformed or out of order is an error of its connection. -/
theorem rplIn_of_bad {s : State} {h : RplHead} {x : RplConn} (hconn : tGet? s.repl.conns h.conn.val = some x) (hserving : s.serving = true)
    (hbad : h.ok = false ∨ h.mseq ≠ x.rxNext) (st : Standby) (m : RplMsg) : s.rplIn h st m = (s.rplError h.conn.val).settle := by
  rcases hbad with hok | hmseq
  · simp [rplIn, hconn, hserving, hok]
  · simp [rplIn, hconn, hserving, hmseq]

/-- An acknowledgement in order sets the round trip, and gives credit, before it is routed. -/
theorem rplAckIn_of_good {s : State} {h : RplHead} {x : RplConn} (hconn : tGet? s.repl.conns h.conn.val = some x)
    (hserving : s.serving = true) (hok : h.ok = true) (hmseq : h.mseq = x.rxNext) (acked credits rtt : Nat) (m : RplMsg) :
    s.rplAckIn h acked credits rtt m =
      (if isAck m then (s.rttSet h.conn.val rtt).rplCredit h.conn.val acked credits else s.rttSet h.conn.val rtt).rplIn h .same m := by
  cases hm : isAck m <;> simp [rplAckIn, hconn, hserving, hok, hmseq, hm]

theorem rplAckIn_of_bad {s : State} {h : RplHead} {x : RplConn} (hconn : tGet? s.repl.conns h.conn.val = some x)
    (hserving : s.serving = true) (hbad : h.ok = false ∨ h.mseq ≠ x.rxNext) (acked credits rtt : Nat) (m : RplMsg) :
    s.rplAckIn h acked credits rtt m = (s.rplError h.conn.val).settle := by
  have hgood : (s.serving && h.ok && h.mseq == x.rxNext) = false := by
    rcases hbad with hok | hmseq
    · simp [hok]
    · simp [hmseq]
  simp only [rplAckIn, hconn, hgood, Bool.false_and, Bool.false_eq_true, if_false, rplIn_of_bad hconn hserving hbad]

end State

/-- Settles O42: a message is routed once its connection has taken it, and `rplDo` is what the relationship does with it. -/
theorem replicationCommandsComplete : Obligations.ReplicationCommandsComplete := by
  refine ⟨?_, ?_, ?_, ?_, ?_, ?_, ?_⟩
  · intro s t h x k r hat
    refine ⟨?_, ?_, ?_, ?_, ?_, ?_, ?_⟩
    · intro ents hhello
      rw [exec_replOffer, execReplOffer, rplIn_of_rplAt hat _ rfl (by simp), rplDo, if_pos hhello]
    · intro ranges hhello
      rw [exec_replMapdelta, execReplMapdelta, rplIn_of_rplAt hat _ rfl (by simp), rplDo, if_pos hhello]
    · intro ents
      rw [exec_replGrain, execReplGrain, rplIn_of_rplAt hat _ rfl (by simp), rplDo]
    · intro id len part
      rw [exec_replDict, execReplDict, rplIn_of_rplAt hat _ rfl (by simp), rplDo]
    · intro snap offered ranges digest
      rw [exec_replCommit, execReplCommit, rplIn_of_rplAt hat _ rfl (by simp), rplDo]
    · intro write st
      rw [exec_replSyncWrite, execReplSyncWrite, rplIn_of_rplAt hat _ rfl (by simp), rplDo]
    · intro seq
      rw [exec_replBase, execReplBase, rplIn_of_rplAt hat _ rfl (by simp), rplDo]
  · rintro s t u h x k r hat rfl offer needed dicts
    rw [exec_replNeed, execReplNeed, rplIn_of_rplAt hat _ rfl (by simp), rplDo]
  · rintro s u t v h x y k rtt acked credits status entry seq r hconn hserving hok hmseq rfl
    refine ⟨?_, ?_⟩
    · intro hat
      rw [exec_replAck, execReplAck, rplAckIn_of_good hconn hserving hok hmseq, if_pos (by rfl),
        rplIn_of_rplAt hat _ rfl (by simp), rplDo]
    · rintro hat rfl
      have hgo : ∀ z, exec (.replSyncAck h seq z rtt) s = .next (t.rplDo k r h h.conn.val .same (.syncAck seq z)) := fun z => by
        rw [exec_replSyncAck, execReplSyncAck, rplAckIn_of_good hconn hserving hok hmseq, if_neg (by simp [isAck]),
          rplIn_of_rplAt hat _ rfl (by simp)]
      refine ⟨?_, ?_⟩
      · rw [hgo, rplDo, if_pos rfl]
      · intro hstatus
        rw [hgo, rplDo, if_neg hstatus]
  · intro s t u v h x hello k r htakes
    refine ⟨?_, ?_, ?_⟩
    · intro hpick
      simp [execReplHello, rplIn_of_rplTakes htakes, rplRoute, hpick]
    · rintro hpick hruns hrel rfl rfl
      refine ⟨?_, ?_⟩
      · intro hsalt
        simp [execReplHello, rplIn_of_rplTakes htakes, rplRoute, helloDo, hpick, hruns, hrel, hsalt]
      · rintro w hsalt rfl
        simp [execReplHello, rplIn_of_rplTakes htakes, rplRoute, helloDo, hpick, hruns, hrel, hsalt]
    · intro hpick hruns
      simp [execReplHello, rplIn_of_rplTakes htakes, rplRoute, hpick, hruns]
  · intro s t h x k r htakes
    refine ⟨?_, ?_⟩
    · intro ents hrel hruns hhello
      rw [exec_replOffer, execReplOffer, rplIn_of_rplAt ⟨htakes, hrel, hruns⟩ _ rfl (by simp), rplDo, hhello]
      rfl
    · intro ranges hrel hruns hhello
      rw [exec_replMapdelta, execReplMapdelta, rplIn_of_rplAt ⟨htakes, hrel, hruns⟩ _ rfl (by simp), rplDo, hhello]
      rfl
  · intro s t h x k r oe ge rs id len snap offered ranges seq offer part digest w st needed ds htakes
    refine ⟨?_, ?_, ?_, ?_⟩
    · intro hrel hruns
      have hforward : ∀ (z : Standby) (m : RplMsg), (∀ y, m ≠ .hello y) → forSource m = false →
          s.rplIn h z m = t.rplForward h r.rid m := fun z m hhello hside => by
        rw [rplIn_of_rplTakes htakes, rplRoute_of_other hhello (by rw [hside, hrel]) hruns]
      simp only [exec_replOffer, execReplOffer, exec_replMapdelta, execReplMapdelta, exec_replGrain, execReplGrain, exec_replDict,
        execReplDict, exec_replCommit, execReplCommit, exec_replSyncWrite, execReplSyncWrite, exec_replBase, execReplBase]
      refine ⟨?_, ?_, ?_, ?_, ?_, ?_, ?_⟩ <;> rw [hforward _ _ (by simp) rfl]
    · intro hrel hruns
      rw [exec_replNeed, execReplNeed, rplIn_of_rplTakes htakes, rplRoute_of_other (by simp) hrel hruns]
    · rintro u hrel rfl
      have hrefuse : ∀ (z : Standby) (m : RplMsg), (∀ y, m ≠ .hello y) → isAck m = false → forSource m = false →
          s.rplIn h z m = t.rplAck h.conn.val h.rel.toNat h.mseq h.cycle 2 0 := fun z m hhello hack hside => by
        rw [rplIn_of_rplTakes htakes, rplRoute_of_unknown hhello hack (by rw [hside, hrel])]
      simp only [exec_replOffer, execReplOffer, exec_replMapdelta, execReplMapdelta, exec_replGrain, execReplGrain, exec_replDict,
        execReplDict, exec_replCommit, execReplCommit, exec_replSyncWrite, execReplSyncWrite, exec_replBase, execReplBase]
      refine ⟨?_, ?_, ?_, ?_, ?_, ?_, ?_⟩ <;> rw [hrefuse _ _ (by simp) rfl rfl]
    · rintro u hrel rfl
      rw [exec_replNeed, execReplNeed, rplIn_of_rplTakes htakes, rplRoute_of_unknown (by simp) rfl hrel]
  · intro s t h x hello oe ge rs id len snap offered ranges seq offer acked credits status entry rtt part digest w st needed ds hconn
      hserving hbad ht
    have hin : ∀ (z : Standby) (m : RplMsg), s.rplIn h z m = t := fun z m => by rw [ht, rplIn_of_bad hconn hserving hbad]
    have hack : ∀ (a c : Nat) (m : RplMsg), s.rplAckIn h a c rtt m = t := fun a c m => by rw [ht,
      rplAckIn_of_bad hconn hserving hbad]
    refine ⟨?_, ?_, ?_, ?_, ?_, ?_, ?_, ?_, ?_, ?_, ?_⟩
    · rw [exec_replHello, execReplHello, hin]
    · rw [exec_replOffer, execReplOffer, hin]
    · rw [exec_replMapdelta, execReplMapdelta, hin]
    · rw [exec_replGrain, execReplGrain, hin]
    · rw [exec_replDict, execReplDict, hin]
    · rw [exec_replCommit, execReplCommit, hin]
    · rw [exec_replSyncWrite, execReplSyncWrite, hin]
    · rw [exec_replBase, execReplBase, hin]
    · rw [exec_replNeed, execReplNeed, hin]
    · rw [exec_replAck, execReplAck, hack]
    · rw [exec_replSyncAck, execReplSyncAck, hack]

end Sys2Proof.Machine

/-! # Replication timers (O43) -/

namespace Sys2Proof.Machine

open State

/-- Settles O43: a timer acts at the head that runs the source, and a passed message where its relationship or connection is. -/
theorem replicationTimersAndForwardedMessagesComplete : Obligations.ReplicationTimersAndForwardedMessagesComplete := by
  refine ⟨?_, ?_⟩
  · intro s rel r hrel hserving hsource hrunsRel
    refine ⟨?_, ?_, ?_, ?_, ?_, ?_, ?_, ?_, ?_, ?_⟩
    · intro hmode hst hcase
      rcases hcase with hcase | hcase | hcase <;> simp [execReplCycleStart, cycleDue, hrel, hserving, hsource, hrunsRel, hmode, hst, hcase]
    · intro hmode hst hst2 hst3 hsnapping hhello
      simp [execReplCycleStart, cycleDue, hrel, hserving, hsource, hrunsRel, hmode, hst, hst2, hst3, hsnapping, hhello]
    · intro hmode hst hst2 hst3 hsnapping hhello
      simp [execReplCycleStart, cycleDue, hrel, hserving, hsource, hrunsRel, hmode, hst, hst2, hst3, hsnapping, hhello]
    · intro hcase hhello
      rcases hcase with hcase | hcase <;> simp [execReplRetryTimer, retryDue, hrel, hserving, hsource, hrunsRel, hcase, hhello]
    · intro hcase hhello hnone
      have hkeep : ¬ (r.mode = 1 ∧ r.next = none) := by
        rintro ⟨hmode, hnext⟩
        simp [hmode, hnext] at hnone
      rcases hcase with hcase | hcase <;> simp [execReplRetryTimer, retryDue, hrel, hserving, hsource, hrunsRel, hcase, hhello, hkeep]
    · intro hcase hhello hmode hnext
      rcases hcase with hcase | hcase <;> simp [execReplRetryTimer, retryDue, hrel, hserving, hsource, hrunsRel, hcase, hhello, hmode,
        hnext]
    · intro hmode hst hsnapping hbasing hsnapBegin
      simp [execSyncBaseTimer, baseDue, hrel, hserving, hrunsRel, hst, hsnapping, hbasing, hsnapBegin]
    · intro t hmode hst hsnapping hbasing hsnapBegin
      simp [execSyncBaseTimer, baseDue, syncSource, hrel, hserving, hsource, hrunsRel, hmode, hst, hsnapping, hbasing, hsnapBegin]
    · intro seq hst hwaits
      simp [execSyncAckTimeout, fracture, hrel, hsource, hst, hwaits]
    · intro seq hwaits
      simp [execSyncAckTimeout, hrel, hwaits]
  · intro s h msg hlinkUp
    refine ⟨?_, ?_, ?_, ?_, ?_⟩
    · intro k r hx hrelOn hrunsRel
      refine ⟨?_, ?_⟩
      · rintro rfl
        simp [execReplFwd, rplFwd, hlinkUp, hrelOn, hrunsRel]
      · intro hmsg
        simp [execReplFwd, rplFwd, hlinkUp, hrelOn, hrunsRel]
    · intro hx hrelOn hrelOn2
      simp [execReplFwd, rplFwd, hlinkUp, hrelOn, hrelOn2]
    · rintro x f rfl rfl
      refine ⟨?_, ?_⟩
      · intro hrels
        simp [execReplFwd, rplFwd, hlinkUp, hrels]
      · intro k r hrels hrunsRel
        simp [execReplFwd, rplFwd, hlinkUp, hrels, hrunsRel]
    · intro htGet
      simp [execReplFwd, rplFwd, hlinkUp, htGet]
    · intro htGet
      simp [execReplFwd, rplFwd, hlinkUp, htGet]

end Sys2Proof.Machine

/-! # Media queue completions (O37) -/

namespace Sys2Proof.Machine

open State

namespace State

/-! ## Completions that are not expected (R326) -/

/-- An unknown command or an unknown status makes the module non-conforming. -/
theorem withCmd_of_unexpected {s : State} {done : MqpDone} (hlow : 3 ≤ s.svcState done.port.val) (hhigh : s.svcState done.port.val ≤ 5)
    (h : (s.module done.port.val).cmds.find? (fun (x : MqpCmd) => x.queue == done.queue.val && x.cid == done.cid.toNat) = none ∨
      knownStatus done.status.toNat = false) (f : MqpCmd → State → State) : s.withCmd done f = s.nonConform done.port.val 3 := by
  have hstate : ¬ (s.svcState done.port.val < 3 ∨ 5 < s.svcState done.port.val) := by omega
  rcases h with h | h
  · simp [withCmd, hstate, h]
  · cases hfind : (s.module done.port.val).cmds.find? (fun (x : MqpCmd) => x.queue == done.queue.val && x.cid == done.cid.toNat) <;>
      simp [withCmd, hstate, hfind, h]

end State

/-- Settles O37: `withCmd_of_mqpDone` hands the completed command on, and its opcode and status decide. -/
theorem mediaQueueCommandsComplete : Obligations.MediaQueueCommandsComplete := by
  refine ⟨?_, ?_, ?_, ?_, ?_, ?_, ?_, ?_, ?_, ?_, ?_, ?_, ?_, ?_⟩
  · rintro s t done c duration lim hdone rfl
    refine ⟨?_, ?_, ?_, ?_⟩
    · intro hstatus
      simp [execReadUnitComplete, readDone, withCmd_of_mqpDone hdone, hstatus]
    · intro hstatus
      simp [execReadUnitComplete, readDone, withCmd_of_mqpDone hdone, hstatus]
    · intro hstatus
      simp [execReadUnitComplete, readDone, withCmd_of_mqpDone hdone, hstatus]
    · intro hgood huncorrectable hdma
      rw [exec_readUnitComplete, execReadUnitComplete, readDone, withCmd_of_mqpDone hdone]
      dsimp only
      rw [if_neg hgood, if_neg huncorrectable, if_neg hdma]
  · rintro s t done c duration lim hdone rfl
    refine ⟨?_, ?_, ?_, ?_, ?_⟩
    · intro hstatus
      simp [execProgramUnitComplete, programDone, withCmd_of_mqpDone hdone, hstatus]
    · intro hstatus
      simp [execProgramUnitComplete, programDone, withCmd_of_mqpDone hdone, hstatus]
    · intro hstatus
      simp [execProgramUnitComplete, programDone, withCmd_of_mqpDone hdone, hstatus]
    · intro hstatus
      simp [execProgramUnitComplete, programDone, withCmd_of_mqpDone hdone, hstatus]
    · intro hgood hfenced hdma haborted
      rw [exec_programUnitComplete, execProgramUnitComplete, programDone, withCmd_of_mqpDone hdone]
      dsimp only
      split
      · next h => exact absurd (BitVec.eq_of_toNat_eq h) hgood
      · next h => exact absurd (BitVec.eq_of_toNat_eq h) hfenced
      · next h => exact absurd (BitVec.eq_of_toNat_eq h) hdma
      · next h => exact absurd (BitVec.eq_of_toNat_eq h) haborted
      · rfl
  · rintro s t done c duration lim hdone rfl
    refine ⟨?_, ?_, ?_, ?_, ?_⟩
    · intro hstatus
      simp [execEraseBlockComplete, eraseDone, withCmd_of_mqpDone hdone, hstatus]
    · intro hstatus
      simp [execEraseBlockComplete, eraseDone, withCmd_of_mqpDone hdone, hstatus]
    · intro hstatus
      simp [execEraseBlockComplete, eraseDone, withCmd_of_mqpDone hdone, hstatus]
    · intro hstatus
      simp [execEraseBlockComplete, eraseDone, withCmd_of_mqpDone hdone, hstatus]
    · intro hgood hfenced hdma haborted
      rw [exec_eraseBlockComplete, execEraseBlockComplete, eraseDone, withCmd_of_mqpDone hdone]
      dsimp only
      split
      · next h => exact absurd (BitVec.eq_of_toNat_eq h) hgood
      · next h => exact absurd (BitVec.eq_of_toNat_eq h) hfenced
      · next h => exact absurd (BitVec.eq_of_toNat_eq h) hdma
      · next h => exact absurd (BitVec.eq_of_toNat_eq h) haborted
      · rfl
  · intro s t done c duration tag hdone
    rw [exec_readTagComplete, execReadTagComplete, withCmd_of_mqpDone hdone]
  · intro s t done duration tag prior g bad health ht hlow hhigh h
    have hwith := withCmd_of_unexpected hlow hhigh h
    refine ⟨?_, ?_, ?_, ?_, ?_, ?_, ?_, ?_, ?_, ?_⟩
    · rw [exec_readUnitComplete, execReadUnitComplete, readDone, hwith, ht]
    · rw [exec_programUnitComplete, execProgramUnitComplete, programDone, hwith, ht]
    · rw [exec_eraseBlockComplete, execEraseBlockComplete, eraseDone, hwith, ht]
    · rw [exec_readTagComplete, execReadTagComplete, hwith, ht]
    · rw [exec_arbCasComplete, execArbCasComplete, casDone, hwith, ht]
    · rw [exec_getGeometryComplete, execGetGeometryComplete, geomDone, hwith, ht]
    · rw [exec_getDefectsComplete, execGetDefectsComplete, defectsDone, hwith, ht]
    · rw [exec_getHealthComplete, execGetHealthComplete, healthDone, hwith, ht]
    · rw [exec_setPowerBudgetComplete, execSetPowerBudgetComplete, hwith, ht]
    · rw [exec_suspendPolicyComplete, execSuspendPolicyComplete, hwith, ht]
  · intro s t done c prior hdone
    rw [exec_arbCasComplete, execArbCasComplete, casDone, withCmd_of_mqpDone hdone]
  · intro s t done c g hdone
    rw [exec_getGeometryComplete, execGetGeometryComplete, geomDone, withCmd_of_mqpDone hdone]
    dsimp only
    refine ⟨?_, ?_, ?_⟩
    · intro hfailed
      rw [if_pos (bne_iff_ne.mpr hfailed)]
    · intro cause hgood hbad
      rw [hgood, if_neg (by decide), hbad]
    · intro hgood hnone
      rw [hgood, if_neg (by decide), hnone]
  · intro s t done c bad health hdone hfailed
    have hbne : (done.status != 0) = true := bne_iff_ne.mpr hfailed
    refine ⟨?_, ?_, ?_, ?_⟩
    · rw [exec_getDefectsComplete, execGetDefectsComplete, defectsDone, withCmd_of_mqpDone hdone]
      dsimp only
      rw [if_pos hbne]
    · rw [exec_getHealthComplete, execGetHealthComplete, healthDone, withCmd_of_mqpDone hdone]
      dsimp only
      rw [if_pos (by rw [hbne, Bool.true_or])]
    · rw [exec_setPowerBudgetComplete, execSetPowerBudgetComplete, withCmd_of_mqpDone hdone, if_neg hfailed]
    · rw [exec_suspendPolicyComplete, execSuspendPolicyComplete, withCmd_of_mqpDone hdone, if_neg hfailed]
  · intro s t done c bad hdone hgood
    rw [exec_getDefectsComplete, execGetDefectsComplete, defectsDone, withCmd_of_mqpDone hdone]
    dsimp only
    rw [hgood, if_neg (by decide)]
  · intro s t u done c health newly hdone hnewly hu
    rw [exec_getHealthComplete, execGetHealthComplete, healthDone, withCmd_of_mqpDone hdone]
    dsimp only
    refine ⟨?_, ?_⟩
    · intro hgood hcrc
      rw [hgood, hcrc, if_neg (by decide), ← hu, hnewly]
      simp only [Bool.and_assoc]
    · intro hcrc
      rw [if_pos (by simp [hcrc])]
  · intro s t done c hdone hgood
    refine ⟨?_, ?_⟩
    · rw [exec_setPowerBudgetComplete, execSetPowerBudgetComplete, withCmd_of_mqpDone hdone, if_pos hgood]
    · rw [exec_suspendPolicyComplete, execSuspendPolicyComplete, withCmd_of_mqpDone hdone, if_pos hgood]
  · intro s t port queue cid c hlow hhigh hfind ht
    have hstate : ¬ (decide (s.svcState port.val < 3) || decide (5 < s.svcState port.val)) = true := by
      simp only [Bool.or_eq_true, decide_eq_true_eq]
      omega
    rw [exec_mqpCommandTimeout, execMqpCommandTimeout, timeout, if_neg hstate, hfind]
    dsimp only
    rw [← ht]
    refine ⟨?_, ?_, ?_, ?_, ?_, ?_, ?_, ?_, ?_⟩
    · intro hthird
      rw [if_pos hthird]
    · intro hfew hop
      rw [if_neg (Nat.not_le.mpr hfew), hop] <;> rfl
    · intro hfew hop
      rw [if_neg (Nat.not_le.mpr hfew), hop] <;> rfl
    · intro hfew hop
      rw [if_neg (Nat.not_le.mpr hfew), hop] <;> rfl
    · intro hfew hop
      rw [if_neg (Nat.not_le.mpr hfew), hop] <;> rfl
    · intro hfew hop
      rw [if_neg (Nat.not_le.mpr hfew), hop] <;> rfl
    · intro hfew hop huse
      rw [if_neg (Nat.not_le.mpr hfew), hop]
      rcases huse with huse | huse <;> rw [huse] <;> rfl
    · intro hfew hop hinit hclaim
      rw [if_neg (Nat.not_le.mpr hfew), hop]
      cases huse : c.use
      case init => exact absurd huse hinit
      case claim => exact absurd huse hclaim
      all_goals rfl
    · intro hfew h1 h2 h10 h11 h20 h40
      rw [if_neg (Nat.not_le.mpr hfew)]
      split
      · next h => exact absurd h h1
      · next h => exact absurd h h2
      · next h => exact absurd h h10
      · next h => exact absurd h h11
      · next h => exact absurd h h20
      · next h => exact absurd h h40
      · rfl
  · intro s port queue cid c hfind
    rw [exec_lateRead, execLateRead, hfind]
  · intro s port c hredo hmay
    rw [exec_arbCasReissue, execArbCasReissue, hredo]
    dsimp only
    rw [if_pos]
    rcases hmay with hstate | ⟨huse, hservice⟩
    · simp [hstate]
    · simp [huse, hservice]

end Sys2Proof.Machine

/-! # Module slots and ports (O38) -/

namespace Sys2Proof.Machine

open State

/-- Settles O38: a slot's and a port's state decide what its inputs and timers do. -/
theorem moduleSlotAndPortCommandsComplete : Obligations.ModuleSlotAndPortCommandsComplete := by
  refine ⟨?_, ?_, ?_, ?_, ?_, ?_, ?_, ?_, ?_, ?_, ?_, ?_, ?_⟩
  · rintro s t u inputs marker hcond hmainPwrOk rfl rfl
    simp [execSlotChainFrame, chainFrame, hcond, hmainPwrOk]
  · rintro s t port rfl
    refine ⟨?_, ?_⟩
    · intro hsvcState
      simp [execPoweringTimeout, hsvcState]
    · intro hsvcState
      simp [execPoweringTimeout, hsvcState]
  · rintro s t port rate64 wide hperstRel hsvcState rfl
    simp [execModuleLinkTrained, hperstRel, hsvcState]
  · rintro s t port rate64 wide hinServiceM rfl
    refine ⟨?_, ?_⟩
    · have hstate : s.svcState port.val ≠ 2 := fun h => by simp [inServiceM, h] at hinServiceM
      simp [execModuleLinkTrained, hinServiceM, hstate]
    · simp [execModuleLinkTrained, hinServiceM]
  · rintro s t port hperstRel hsvcState rfl
    simp [execModuleLinkTimeout, hperstRel, hsvcState]
  · intro s port hsvcState hsteps
    simp only [exec_perstReleaseDelay, execPerstReleaseDelay, hsvcState, hsteps, decide_true, Bool.and_self, if_true]
  · intro s port hsvcState
    refine ⟨?_, ?_⟩
    · intro hgeom
      simp [execMqpReady, hsvcState, hgeom] <;> rfl
    · simp [execModuleInitTimeout, nonConform, hsvcState]
  · rintro s t port off haccepts rfl
    simp [execPowerControllerControl, barWrite_of_accepts haccepts]
  · intro s port attention power haccepts
    simp [execIndicatorControl, barWrite_of_accepts haccepts]
  · intro s slot hbit
    simp [execAttentionButton, hbit]
  · rintro s t port hsvcState hsegs rfl
    simp [execModuleEvacuated, hsvcState, hsegs]
  · intro s port cause
    refine ⟨?_, ?_⟩
    · rintro rfl hsvcState
      simp [execModulePortLoss, hsvcState]
    · rintro t hsvcState hsvcState2 hcase rfl hsvcState3
      rcases hcase with hcase | hcase <;> simp [execModulePortLoss, portLost, portGone, hsvcState, hsvcState2, hcase, hsvcState3]
  · rintro s t engine hfld rfl
    refine ⟨?_, ?_⟩
    · intro hfld2
      simp [execParityEngineFault, hfld, hfld2]
    · intro hfld2
      simp [execParityEngineFault, hfld2]

end Sys2Proof.Machine

/-! # The key store (O44) -/

namespace Sys2Proof.Machine

open State

/-- Settles O44: a register command runs when it is accepted and none runs, and a slot that holds material is used. -/
theorem keyStoreCommandsComplete : Obligations.KeyStoreCommandsComplete := by
  refine ⟨?_, ?_, ?_, ?_, ?_, ?_, ?_, ?_, ?_, ?_, ?_, ?_, ?_, ?_, ?_, ?_, ?_, ?_, ?_, ?_⟩
  · intro s src slot blob haccepts hop
    rw [exec_keysImport, execKeysImport, keyWrite_of_accepts haccepts hop]
  · rintro s slot peer t k haccepts hop rfl hlife hlatch htype hpeer hfull
    rw [exec_keysExport, execKeysExport, keyWrite_of_accepts haccepts hop]
    simp only [keyExport_of_full hlife hlatch htype hpeer hfull]
  · intro s slot haccepts hop
    rw [exec_keysZeroize, execKeysZeroize, keyWrite_of_accepts haccepts hop]
  · intro s slot haccepts hop
    simp [execKeysInfo, keyWrite_of_accepts haccepts hop]
  · intro s peer key haccepts hop
    rw [exec_keysPeerSet, execKeysPeerSet, keyWrite_of_accepts haccepts hop]
  · intro s o e hop happend hdrop
    simp [execLedgerAppendDone, hop, happend, hdrop] <;> rfl
  · intro s o hop happend hdrop
    simp [execKeyDropDone, hop, happend, hdrop] <;> rfl
  · intro s p384 slot hslotType htrngOn
    simp [execEcdheGen, hslotType, htrngOn]
  · intro s priv peer dst hpriv hdst hmaterial
    cases hcurve : Config.onCurve peer <;>
      simp [execEcdh, scheduleIn_of_material (serves_schedule (Or.inl hpriv)) hmaterial, hpriv, hdst, hcurve]
  · intro s input dst hinput hdst hmaterial
    simp [execExtract, scheduleOpt, scheduleIn_of_material (serves_schedule hinput) hmaterial, hdst]
  · intro s secret label context dst hsecret hdst hmaterial
    simp [execExpandLabel, scheduleIn_of_material (serves_schedule (Or.inl hsecret)) hmaterial, hdst]
  · intro s key hash hkey hmaterial hlength
    simp [execMac, scheduleIn_of_material (serves_schedule (Or.inl hkey)) hmaterial, hlength]
  · intro s slot hslotType
    simp [execSchedZeroize, hslotType]
  · intro s slot hslotType hslotFull
    simp [execDerivedSlotExpiry, hslotType, hslotFull]
  · intro s
    simp [execTrngHealthFail]
  · intro s
    simp [execTrngRecover]
  · intro s encrypt slot tweak data hslotType hmaterial hxtsMin hdata htake
    simp [execXtsOperation, xtsRun, keyFetch, cipherRefuse, serves, bump, hslotType, hmaterial, hxtsMin, hdata, htake]
  · intro s slot iv aad data mac c hslotType hsetA hgcmWithin hsetSpent hcase
    rcases hcase with hcase | hcase <;> simp [execGcmOperation, gcmRun, keyFetch, cipherRefuse, bump, serves, setReg, satAdd, reg,
      hslotType, hsetA, hgcmWithin, hsetSpent, hcase]
  · intro s i herasing
    simp [execNorEraseComplete, herasing]
  · intro s herasing
    simp [execNorEraseComplete, herasing]

end Sys2Proof.Machine

/-! # Refusals of the key store (O45) -/

namespace Sys2Proof.Machine

open State

/-- Settles O45: each refusal is one failed check of the command. -/
theorem keyStoreRefusalsAndOtherFormsComplete : Obligations.KeyStoreRefusalsAndOtherFormsComplete := by
  refine ⟨?_, ?_, ?_, ?_, ?_, ?_, ?_, ?_, ?_, ?_, ?_, ?_⟩
  · intro s o src slot peer blob haccepts hop
    simp [execKeysImport, execKeysExport, execKeysZeroize, execKeysInfo, execKeysPeerSet, keyWrite_of_running haccepts hop]
  · rintro s t slot peer haccepts hop rfl
    have hgo : ∀ r, (s.keyCmd 2 (0x10 + peer.toNat) slot.toNat).keyExport slot.toNat peer.toNat = (r, []) → r ≠ 1 →
        exec (.keysExport slot peer) s = .next ((s.keyCmd 2 (0x10 + peer.toNat) slot.toNat).setKeyResult r slot.toNat) := fun r hexport hr => by
      simp [execKeysExport, keyWrite_of_accepts haccepts hop, hexport]
    refine ⟨?_, ?_, ?_⟩
    · intro hlife
      exact hgo 8 (keyExport_of_life hlife) (by decide)
    · intro hlife hlatch htenant hpsk
      exact hgo 4 (keyExport_of_type hlife hlatch htenant hpsk) (by decide)
    · intro hlife hlatch htype hmissing
      exact hgo 10 (keyExport_of_missing hlife hlatch htype hmissing) (by decide)
  · intro s o e hop happend
    refine ⟨?_, ?_⟩
    · intro hdrop
      simp [execLedgerAppendDone, hop, happend, hdrop] <;> rfl
    · intro hdrop
      simp [execKeyDropDone, hop, happend, hdrop] <;> rfl
  · intro s p384 slot hcase
    simp [execEcdheGen, hcase]
  · rintro s t k dst peer label context hash d rfl hserves
    simp [execEcdh, execExtract, scheduleOpt, execExpandLabel, execMac, scheduleIn_of_unserved hserves]
  · rintro s t k dst peer label context hash d rfl hserves hmaterial
    simp [execEcdh, execExtract, scheduleOpt, execExpandLabel, execMac, scheduleIn_of_empty hserves hmaterial]
  · intro s salt input dst hsalt hinput hdst hsaltMaterial hinputMaterial
    simp [execExtract, scheduleOpt, scheduleIn_of_material hsalt hsaltMaterial, scheduleIn_of_material hinput hinputMaterial,
      hdst]
  · rintro s secret conn label context v setB tx keyLen c c1 hserves hmaterial hconn rfl rfl rfl rfl
    simp [execExpandLabel, scheduleIn_of_material hserves hmaterial, hconn]
  · intro s slot hslotType
    simp [execSchedZeroize, hslotType]
  · intro s encrypt slot tweak data
    refine ⟨?_, ?_, ?_⟩
    · intro hserves
      simp [execXtsOperation, xtsRun, keyFetch, hserves]
    · intro hserves hmaterial
      simp [execXtsOperation, xtsRun, keyFetch, hserves, hmaterial]
    · intro hserves hmaterial hcase
      rcases hcase with hcase | hcase | hcase <;> simp [execXtsOperation, xtsRun, keyFetch, hserves, hmaterial, hcase]
  · intro s encrypt setB slot iv aad data mac
    refine ⟨?_, ?_, ?_, ?_, ?_, ?_⟩
    · intro hserves
      simp [execGcmOperation, gcmRun, keyFetch, hserves]
    · intro hserves hite
      simp [execGcmOperation, gcmRun, keyFetch, hserves, hite]
    · intro c hserves hite hcase
      simp [execGcmOperation, gcmRun, keyFetch, hserves, hite, hcase]
    · intro c hserves hsetB hgcmWithin hcase hsetSpent
      rcases hcase with hcase | hcase <;> simp [execGcmOperation, gcmRun, keyFetch, cipherRefuse, bump, hserves, hsetB, hgcmWithin,
        hcase, hsetSpent]
    · intro c hserves hite hgcmWithin hcase hsetSpent
      rcases hcase with hcase | hcase <;> simp [execGcmOperation, gcmRun, keyFetch, hserves, hite, hgcmWithin, hcase, hsetSpent]
    · intro c hserves hite hgcmWithin hcase
      refine ⟨?_, ?_⟩
      · intro p hgcmOpen
        rcases hcase with hcase | hcase <;> simp [execGcmOperation, gcmRun, keyFetch, cipherRefuse, bump, hserves, hite, hgcmWithin,
          hcase, hgcmOpen]
      · intro hgcmOpen
        rcases hcase with hcase | hcase <;> simp [execGcmOperation, gcmRun, keyFetch, cipherRefuse, hserves, hite, hgcmWithin, hcase,
          hgcmOpen]
  · intro s i
    refine ⟨?_, ?_⟩
    · intro herasing
      simp [execNorEraseComplete, herasing]
    · intro herasing
      simp [execNorEraseComplete, herasing]

end Sys2Proof.Machine

/-! # Interrupts and service cores (O46) -/

namespace Sys2Proof.Machine

open State

namespace State

/-! ## Claims of the interrupt controller (R471)

Evaluation of the controller is kept abstract: to check the claim's branch the kernel would otherwise unfold it over all sources. -/

set_option maxRecDepth 2000 in
theorem execIntcClaim_of_none {s t : State} {core : Fin 16} (ht : t = s.intcEval) (hpick : s.intcEval.claimPick core.val = none) :
    execIntcClaim core s = .next ((t.bump (Reg.INTC_CNT 1) 1).emit (.claimed core.val none)) := by
  delta execIntcClaim
  generalize intcEval = eval at ht hpick ⊢
  dsimp only
  rw [hpick, ht]

set_option maxRecDepth 2000 in
theorem execIntcClaim_of_some {s t u : State} {core : Fin 16} {x : Nat} (ht : t = s.intcEval)
    (hpick : s.intcEval.claimPick core.val = some x)
    (hu : u = ((((({ t with intc.claimed := tPut t.intc.claimed core.val ((x, t.act (Reg.INTC_SRC_PRIO x)) :: t.claimStack core.val) }.bump
      (Reg.INTC_CNT 0) 1).bump (Reg.INTC_CORE_CLAIMS core.val) 1).bumpFld (Reg.INTC_SRC_STATE_CLAIMS x) 1).setFld
      (Reg.INTC_SRC_STATE_CORE x) core.val).setBit (Reg.INTC_SRC_STATE_CORE_VALID x) true)) :
    execIntcClaim core s =
      .next ((((u.holdStart (u.act (Reg.INTC_SRC_GROUP x))).runShow core.val).emit (.claimed core.val (some x))).intcEval) := by
  delta execIntcClaim
  generalize intcEval = eval at ht hpick ⊢
  dsimp only
  rw [hpick, hu, ht]

end State

/-- Settles O46: the source that `claimPick` names moves from pending to in service, and completion takes it off the stack. -/
theorem interruptAndServiceCoreCommandsComplete : Obligations.InterruptAndServiceCoreCommandsComplete := by
  refine ⟨?_, ?_, ?_, ?_, ?_, ?_, ?_, ?_, ?_⟩
  · intro s src holds p i hsourcePage hcond
    simp [execInterruptRequest, hsourcePage, hcond]
  · intro s t core hpick ht
    rw [exec_intcClaim, execIntcClaim_of_none ht hpick]
  · intro s t u core x hpick ht hu
    rw [exec_intcClaim, execIntcClaim_of_some ht hpick hu]
  · intro s core src rest hrest
    refine ⟨?_, ?_⟩
    · intro hclaimed
      rw [exec_intcComplete, execIntcComplete]
      dsimp only
      rw [if_pos hclaimed, ← hrest]
      simp only [List.isEmpty_iff]
    · intro hclaimStack
      simp [execIntcComplete, hclaimStack]
  · intro s group hheldOff
    simp [execHoldoffExpiry, hheldOff]
  · rintro s t u core queue again reqStep busy k rest left hcoreActive htGet htGet2 rfl rfl rfl
    simp [execWorkItem, hcoreActive, htGet, htGet2]
  · intro s core queue again reqStep busy hcase
    rcases hcase with hcase | hcase | hcase <;> simp [execWorkItem, hcase]
  · rintro s addr data a hbarReachable rfl hapertureOpen ha
    refine ⟨?_, ?_⟩
    · simp only [exec_apertureAccess, execApertureAccess, aperture, hbarReachable, hapertureOpen, ha, if_true, if_false,
        decide_true, Bool.false_and, Bool.not_true, Bool.false_eq_true, Bool.and_self]
    · intro v htGet
      simp only [exec_apertureAccess, execApertureAccess, aperture, dramWord, inTraceRing, traceWord?, bump, hbarReachable,
        hapertureOpen, ha, htGet, if_true, if_false, decide_true, Bool.and_true, Bool.false_and, Bool.not_true, Bool.not_false,
        Bool.false_eq_true, Bool.and_self]
  · intro s hpaired
    simp [execKcvExchangeTimer, hpaired]

end Sys2Proof.Machine

/-! # Power and thermal (O49) -/

namespace Sys2Proof.Machine

open State

/-- Settles O49: each event changes its own rail, domain or sensor. -/
theorem powerAndThermalCommandsComplete : Obligations.PowerAndThermalCommandsComplete := by
  refine ⟨?_, ?_, ?_, ?_, ?_, ?_, ?_, ?_, ?_, ?_⟩
  · intro s page req hpage hblock haccepts
    rw [exec_powerRequest, execPowerRequest, if_neg hpage, if_neg (by simpa [Option.isSome_iff_ne_none] using hblock),
      barWrite_of_accepts haccepts]
  · rintro s t vout iout status core7 rfl
    simp [execRailPoll]
  · rintro s t rail status rfl
    refine ⟨?_, ?_⟩
    · simp [execPmbAlert]
    · simp [execPmbAlert]
  · rintro s t rail mv rfl rfl
    simp [execRailStep]
  · rintro s t dom hdomState rfl
    refine ⟨?_, ?_⟩
    · intro hupQueue
      simp [execDomainPowerUpDone, hdomState, hupQueue]
    · intro d rest hupQueue
      simp [execDomainPowerUpDone, hdomState, hupQueue]
  · intro s dom hdomState
    simp [execDomainPowerDownDone, hdomState]
  · intro s dvfs step htGet hstepMv
    simp [execDomainVoltageSettled, htGet, hstepMv]
  · intro s
    simp [execWarpSegmentFault]
  · rintro s t u v temps hot rfl rfl rfl rfl
    refine ⟨?_, ?_⟩
    · intro hbit hrange
      simp only [exec_thermalSample, execThermalSample, thermalSample, hbit, hrange, if_true, Bool.not_false, Bool.and_self]
    · intro hcase
      rcases hcase with hcase | hcase <;> simp only [exec_thermalSample, execThermalSample, thermalSample, hcase, if_false,
        Bool.and_false, Bool.false_and, Bool.not_true, Bool.false_eq_true]
  · intro s hbit hcoolEnough
    simp [execThermalEmergencyClear, hbit, hcoolEnough]

end Sys2Proof.Machine

/-! # Other forms of management commands (O53) -/

namespace Sys2Proof.Machine

open State

/-- Settles O53: each form fails the check that its good form passes. -/
theorem managementOtherFormsComplete : Obligations.ManagementOtherFormsComplete := by
  refine ⟨?_, ?_, ?_, ?_, ?_, ?_, ?_, ?_, ?_⟩
  · rintro s recent rfl hrecent
    simp_all [execMgmtWatchdogExpiry, mgmtRestart]
  · intro s image hrunning
    refine ⟨?_, ?_⟩
    · intro hmonitorOpen hupdating
      simp [execPldmFirmwareUpdate, ifMonitor, hrunning, hmonitorOpen, hupdating]
    · intro hcase
      rcases hcase with hcase | hcase <;> simp [execUartImageReceive, ifRunning, hrunning, hcase]
  · intro s src i tag ok
    refine ⟨?_, ?_⟩
    · intro hupdate
      simp [execUpdateSlotProgrammed, hupdate]
    · intro hupdate
      simp [execUpdateSlotProgrammed, hupdate]
  · intro s t i ht
    refine ⟨?_, ?_⟩
    · intro htrial hrunning hupdated himage
      obtain ⟨u, hu⟩ := Option.ne_none_iff_exists'.mp hupdated
      rw [exec_trialConfirm, execTrialConfirm, if_pos (by simp [htrial, hrunning]), himage, ht, hu]
    · intro hnothing
      rcases hnothing with h | h <;> simp [execTrialConfirm, h]
  · intro s
    simp [execGlitchDetect]
  · intro s hrunning
    refine ⟨?_, ?_, ?_, ?_, ?_⟩
    · simp [execPldmBaseCommand, ifRunning, hrunning]
    · simp [execPldmBaseCommand, ifRunning, hrunning]
    · simp [execPldmBaseCommand, ifRunning, hrunning]
    · simp [execPldmBaseCommand, ifRunning, hrunning]
    · intro ty hty hty2 hty3
      refine ⟨?_, ?_⟩
      · simp only [exec_pldmBaseCommand, execPldmBaseCommand, ifRunning, hrunning, hty, hty2, hty3, if_true, if_false]
      · simp only [exec_pldmBaseCommand, execPldmBaseCommand, ifRunning, hrunning, hty, hty2, hty3, if_true, if_false]
  · intro s id hrunning hmonitorOpen hsensorReading
    simp [execPldmGetSensorReading, ifMonitor, hrunning, hmonitorOpen, hsensorReading]
  · intro s handle id eid image hcase
    refine ⟨?_, ?_, ?_, ?_, ?_⟩
    · rcases hcase with hcase | hcase <;> simp [execPldmGetPdr, ifMonitor, hcase]
    · rcases hcase with hcase | hcase <;> simp [execPldmGetSensorReading, ifMonitor, hcase]
    · rcases hcase with hcase | hcase <;> simp [execPldmGetStateSensorReadings, ifMonitor, hcase]
    · rcases hcase with hcase | hcase <;> simp [execPldmSetEventReceiver, ifMonitor, hcase]
    · rcases hcase with hcase | hcase <;> simp [execPldmFirmwareUpdate, ifMonitor, hcase]
  · intro s cmd eid frame forUs data
    refine ⟨?_, ?_⟩
    · intro hrunning
      refine ⟨?_, ?_, ?_, ?_, ?_, ?_⟩
      · simp [execPldmBaseCommand, ifRunning, hrunning]
      · simp [execPldmUnsupported, ifRunning, hrunning]
      · simp [execMctpSetEndpointId, ifRunning, hrunning]
      · simp [execMctpGetEndpointId, ifRunning, hrunning]
      · simp [execMctpGetVersionSupport, ifRunning, hrunning]
      · simp [execMctpGetMessageTypeSupport, ifRunning, hrunning]
    · intro hcase
      rcases hcase with hcase | hcase | hcase | hcase <;> simp [execOobFrameReceive, ifRunning, hcase]

end Sys2Proof.Machine

/-! # Control-channel configuration (O55) -/

namespace Sys2Proof.Machine

open State

/-- Settles O55: `ctlRun_of_ctlGo` runs the opcode's effect, which answers at once or holds the command. -/
theorem controlConfigurationCommandsComplete : Obligations.ControlConfigurationCommandsComplete := by
  refine ⟨?_, ?_, ?_, ?_, ?_, ?_, ?_, ?_, ?_, ?_, ?_, ?_, ?_, ?_, ?_, ?_, ?_, ?_, ?_, ?_, ?_, ?_⟩
  · intro s tag addr hgo
    simp [execIdentify, ctlRun_of_ctlGo hgo]
  · rintro s t tag array hgo harray harrayTag hfld hmodulesIn rfl
    simp only [exec_arrayCreate, execArrayCreate, arrayCreate, ctlRun_of_ctlGo hgo, harray, harrayTag, hfld, hmodulesIn,
      if_false, Bool.false_eq_true, Bool.or_self, Option.isSome_none, bne_self_eq_false] <;> rfl
  · intro s tag hgo hrole hsizesDiffer hrejoin
    have hstate : ¬ (s.role != 5 || s.dk.sizesDiffer) = true := by simp [hrole, hsizesDiffer]
    have hbusy : ¬ s.own.rejoin = true := by simp [hrejoin]
    refine ⟨?_, ?_⟩
    · intro hlinkUp
      rw [exec_rejoin, execRejoin, ctlRun_of_ctlGo hgo, rejoin, if_neg hstate, if_neg hbusy]
      exact congrArg Host.Outcome.next (if_neg (ne_true_of_eq_false hlinkUp))
    · intro hlinkUp
      rw [exec_rejoin, execRejoin, ctlRun_of_ctlGo hgo, rejoin, if_neg hstate, if_neg hbusy]
      exact congrArg Host.Outcome.next (if_pos hlinkUp)
  · intro s tag group target hhere htarget hheadIndex hpaired hbit hswaps hplanned
    have hone : target.toNat = 1 - s.headIndex := by rw [htarget]; bv_omega
    have hfield : ¬ 1 < target.toNat := by omega
    have hknown : ¬ (tGet? s.nv.groups group.toNat).isNone = true := by simp [hhere.2]
    have hstate : ¬ (!s.paired || !s.bit Reg.OWN_STATUS_MIRROR_READY || decide (target.toNat = s.headIndex)) = true := by
      have hother : target.toNat ≠ s.headIndex := by omega
      simp [hpaired, hbit, hother]
    have hbusy : ¬ (!s.own.swaps.isEmpty || !s.own.planned.isEmpty) = true := by simp [hswaps, hplanned]
    rw [exec_rebalance, execRebalance, ctlOwned_of_ctlHere hhere, rebalance, if_neg hfield, if_neg hknown, if_neg hstate,
      if_neg hbusy]
    refine ⟨?_, ?_⟩
    · intro hchangeFree
      rw [if_pos hchangeFree, ctlAnswered_later]
    · intro hchangeFree
      rw [if_neg (ne_true_of_eq_false hchangeFree), ctlAnswered_later]
  · intro s tag lane domain transport src hgo hlane hdomain htransport hsrc
    rw [exec_timeConfig, execTimeConfig, ctlRun_of_ctlGo hgo, timeConfig, if_neg, ctlAnswered_fin_ok]
    simp only [Bool.or_eq_true, decide_eq_true_eq]
    omega
  · intro s t tag entry hgo hact
    refine ⟨?_, ?_⟩
    · rintro hact2 hact3 rfl
      simp [execAddressReturn, addressReturn, ctlRun_of_ctlGo hgo, hact, hact2, hact3]
    · rintro hact2 hact3 rfl
      simp [execAddressReturn, addressReturn, ctlRun_of_ctlGo hgo, hact, hact2, hact3]
  · intro s tag tenant c1 c2 c3 nqn sn mn hgo htenant htenant2 hnqn hnqn2 hsn hmn htenant3 htenants
    have hpos : tenant.toNat ≠ 0 := by bv_omega
    rw [exec_tenantCreate, execTenantCreate, ctlRun_of_ctlGo hgo, tenantCreate, if_neg, if_neg, ctlAnswered_fin_ok]
    · simp [htenant3, htenants]
    · simp [hpos, hnqn, hsn, hmn]
      omega
  · intro s tag tenant x hgo htenant hstat hdeleting
    simp [execTenantDelete, tenantDelete, ctlRun_of_ctlGo hgo, htenant, hstat, hdeleting]
  · intro s tag tenant cls nqn x hgo htenant hnqn hnqn2 hcls
    have hfield : (nqn.isEmpty || decide (223 < nqn.length) || decide (3 < cls.toNat)) = false := by
      simp [hnqn]
      omega
    refine ⟨?_, ?_⟩
    · intro hhosts
      simp [execTenantHosts, tenantHosts, ctlRun_of_ctlGo hgo, htenant, hhosts, hfield]
    · intro hhosts
      simp [execTenantHosts, tenantHosts, ctlRun_of_ctlGo hgo, htenant, hhosts, hfield]
  · intro s tag tenant w0 w1 w2 w3 hgo htenant hsum
    have hknown : ¬ (tenant.toNat != 0 && (s.tenant? tenant.toNat).isNone) = true := by
      rcases htenant with htenant | htenant
      · simp [htenant]
      · simp [Option.isNone_eq_false_iff.mpr htenant]
    rw [exec_tenantContract, execTenantContract, ctlRun_of_ctlGo hgo, tenantContract, if_neg hknown, if_neg (Nat.not_lt.mpr hsum),
      ctlAnswered_fin_ok] <;> rfl
  · intro s tag tenant dedup comp verify hgo htenant hdedup hcomp hverify
    have hknown : ¬ (tenant.toNat != 0 && (s.tenant? tenant.toNat).isNone) = true := by
      rcases htenant with htenant | htenant
      · simp [htenant]
      · simp [Option.isNone_eq_false_iff.mpr htenant]
    rw [exec_tenantReduction, execTenantReduction, ctlRun_of_ctlGo hgo, tenantReduction, if_neg, if_neg hknown,
      ctlAnswered_fin_ok]
    simp only [Bool.or_eq_true, decide_eq_true_eq]
    omega
  · intro s tag slot id hgo hslotType hid hid2
    have hfield : ¬ (slotType slot.toNat != .psk || id.isEmpty || decide (256 < id.length)) = true := by
      simp [hslotType, hid]
      omega
    refine ⟨?_, ?_⟩
    · intro hpsks
      simp only [exec_tenantPskMap, execTenantPskMap, ctlRun_of_ctlGo hgo, pskMap, if_neg hfield, hpsks]
      simp
    · intro hpsks
      simp only [exec_tenantPskMap, execTenantPskMap, ctlRun_of_ctlGo hgo, pskMap, if_neg hfield, hpsks]
      simp
  · intro s tag group owner hgo howner hnone hsolo
    have hstate : ¬ (s.solo && owner.toNat != s.headIndex) = true := by
      intro h
      rw [Bool.and_eq_true, bne_iff_ne] at h
      exact h.2 (hsolo h.1)
    rw [exec_groupCreate, execGroupCreate, ctlRun_of_ctlGo hgo, groupCreate, if_neg (Nat.not_lt.mpr howner),
      if_neg (by simp [hnone]),
      if_neg hstate, ctlAnswered_fin_ok]
  · intro s tag group hhere hvolumes hswap
    rw [exec_groupDelete, execGroupDelete, ctlOwned_of_ctlHere hhere, groupDelete, if_neg (by simp [hhere.2]),
      if_neg (by simp [hvolumes, hswap]), ctlAnswered_fin_ok]
  · intro s tag volume tenant nsid group lbaf blocks nguid eui x hhere hnsid hnsid2 hlbaf htenant hvol hnsidUsed hcount hsize hdeleting hstat
    have hpos : nsid.toNat ≠ 0 := by bv_omega
    have hfield : ¬ (decide (nsid.toNat = 0) || decide (1024 < nsid.toNat) || decide (2 < lbaf.toNat)) = true := by
      simp only [Bool.or_eq_true, decide_eq_true_eq]
      omega
    have hlimit : ¬ (decide (1024 ≤ s.tenantVolumes tenant.toNat) || decide (2 ^ 36 < sizeGrains lbaf.toNat blocks.toNat)) = true := by
      simp only [Bool.or_eq_true, decide_eq_true_eq]
      omega
    rw [exec_volumeCreate, execVolumeCreate, ctlOwned_of_ctlHere hhere, volumeCreate, if_neg hfield, htenant, hhere.2]
    dsimp only
    rw [if_neg (by simp [hvol, hnsidUsed]), if_neg hlimit, if_neg (by simp [hdeleting, hstat]), ctlAnswered_fin_ok]
  · intro s tag volume blocks x hhere hvol hformatting hsize
    rw [exec_volumeResize, execVolumeResize, ctlOwned_of_volume hhere hvol, volumeResize, hvol]
    dsimp only
    rw [if_neg (by simp [hformatting]), if_neg (Nat.not_lt.mpr hsize), ctlAnswered_fin_ok]
  · intro s tag volume x hhere hvol hclonedFrom hrels hformatting hsnapOps
    simp only [exec_volumeDelete, execVolumeDelete, volGroup, volumeDelete, ctlOwned_of_ctlHere hhere, hvol, hclonedFrom, hrels,
      hformatting, hsnapOps, if_false, Bool.false_eq_true, Bool.or_self, Option.isSome_none, Option.map_some] <;> rfl
  · intro s tag volume x hhere hvol
    refine ⟨?_, ?_, ?_⟩
    · intro hpinned
      simp [execVolumePin, volGroup, volumePin, ctlOwned_of_ctlHere hhere, hvol, hpinned]
    · intro hpinned
      simp [execVolumePin, volGroup, volumePin, ctlOwned_of_ctlHere hhere, hvol, hpinned]
    · intro hlbaf hroom
      rw [exec_volumePin, execVolumePin, ctlOwned_of_volume hhere hvol, volumePin, hvol]
      dsimp only
      rw [if_neg (by decide), if_neg (by simp [hlbaf]), if_neg (by simpa using hroom)]
      refine ⟨?_, ?_⟩
      · intro hpinned
        simp [hpinned]
      · intro hpinned
        simp [hpinned]
  · intro s t tag volumes v x hhead hhere hvol hlength hNodup hknown hsnapBegin
    rw [List.all_eq_true] at hknown
    have hfield : ¬ ((volumes.map (fun v => v.toNat)).isEmpty || decide (256 < (volumes.map (fun v => v.toNat)).length) ||
        (volumes.map (fun v => v.toNat)).dedup.length != (volumes.map (fun v => v.toNat)).length) = true := by
      have hsome : volumes ≠ [] := by
        rintro rfl
        simp at hhead
      rw [hNodup.dedup]
      simp [hsome, hlength]
    have hfound : ¬ (volumes.map (fun v => v.toNat)).any (fun v => (s.vol? v).isNone) = true := by
      intro h
      simp only [List.any_map, List.any_eq_true, Function.comp_apply, Option.isNone_iff_eq_none] at h
      obtain ⟨w, hw, hnone⟩ := h
      simpa [volGroup, hnone] using hknown w hw
    have hstate : ¬ (volumes.map (fun v => v.toNat)).any
        (fun v => ((s.volGroup v).map (fun g => tGet s.nv.groups g 3 == 3)).getD true) = true := by
      intro h
      simp only [List.any_map, List.any_eq_true, Function.comp_apply] at h
      obtain ⟨w, hw, hbad⟩ := h
      have hgood := hknown w hw
      cases hgroup : s.volGroup w.toNat with
      | none => simp [hgroup] at hgood
      | some g => simp_all
    have hgroup : volumes.head?.bind (fun v => s.volGroup v.toNat) = some x.group := by
      rw [hhead]
      exact volGroup_of_vol hvol
    rw [exec_snapshotCreate, execSnapshotCreate, hgroup, ctlOwned_of_ctlHere hhere, snapshotCreate, if_neg hfield, if_neg hfound,
      if_neg hstate,
      hsnapBegin] <;> rfl
  · intro s tag snapshot x o hhere htGet hvol hhidden hrels
    simp [execSnapshotDelete, snapGroup, snapshotDelete, volGroup, fin, ctlOwned_of_ctlHere hhere, htGet, hvol, hhidden,
      hrels] <;> rfl
  · intro s tag snapshot volume nsid x o hhere hsnap hvol hhidden hnsid hnsid2 hnew hnsidUsed hcount
    have hpos : nsid.toNat ≠ 0 := by bv_omega
    have hfield : ¬ (decide (nsid.toNat = 0) || decide (1024 < nsid.toNat)) = true := by
      simp only [Bool.or_eq_true, decide_eq_true_eq]
      omega
    rw [exec_cloneCreate, execCloneCreate, ctlOwned_of_snapshot hhere hsnap hvol, cloneCreate, hsnap]
    dsimp only
    rw [hvol]
    dsimp only
    rw [if_neg hfield, if_neg (by simp [hhidden]), if_neg (by simp [hnew, hnsidUsed]), if_neg (Nat.not_le.mpr hcount),
      ctlAnswered_fin_ok]
  · intro s tag volume content x hhere hvol
    refine ⟨?_, ?_, ?_, ?_, ?_⟩
    · simp [execDictControl, volGroup, dictControl, ctlOwned_of_ctlHere hhere, hvol]
    · simp [execDictControl, volGroup, dictControl, ctlOwned_of_ctlHere hhere, hvol]
    · simp [execDictControl, volGroup, dictControl, ctlOwned_of_ctlHere hhere, hvol]
    · simp [execDictControl, volGroup, dictControl, ctlOwned_of_ctlHere hhere, hvol]
    · rw [exec_dictControl, execDictControl, ctlOwned_of_volume hhere hvol]
      have hop : (5#8).toNat = 5 := rfl
      cases hform : dictForm content with
      | false => simp [dictControl, hvol, hform]
      | true =>
        cases hslot : s.dictSlot with
        | none => simp [dictControl, hvol, hform, hslot]
        | some slot =>
          simp only [dictControl, hvol, hform, hslot]
          by_cases hsame : ((s.dictInstall volume.toNat content).vol? volume.toNat).map (fun y => y.dict) = some x.dict
          · simp [hsame]
          · simp [hsame]

end Sys2Proof.Machine

/-! # Refusals of control-channel configuration (O56) -/

namespace Sys2Proof.Machine

open State

/-- Settles O56: `ctlRun_of_ctlGo` gives the status that the opcode's checks answer. -/
theorem controlConfigurationRefusals : Obligations.ControlConfigurationRefusals := by
  refine ⟨?_, ?_, ?_, ?_, ?_, ?_, ?_, ?_, ?_, ?_, ?_⟩
  · intro s tag addr tenant c1 c2 c3 nqn sn mn
    refine ⟨?_, ?_⟩
    · intro hgo
      refine ⟨?_, ?_⟩
      · simp [execIdentify, ctlRun_bad_of_ctlGo hgo]
      · simp [execIdentify, ctlRun_dma_of_ctlGo hgo]
    · intro hgo
      refine ⟨?_, ?_⟩
      · simp [execTenantCreate, ctlRun_bad_of_ctlGo hgo]
      · simp [execTenantCreate, ctlRun_dma_of_ctlGo hgo]
  · intro s tag array hgo
    refine ⟨?_, ?_, ?_⟩
    · simp [execArrayCreate, ctlRun_of_ctlGo hgo] <;> rfl
    · intro harray harrayTag
      obtain ⟨other, hother⟩ := Option.ne_none_iff_exists'.mp harrayTag
      rw [exec_arrayCreate, execArrayCreate, ctlRun_of_ctlGo hgo, arrayCreate, if_neg harray, if_pos (by simp [hother])]
      simp
    · intro harray harrayTag hcase
      simp_all [execArrayCreate, arrayCreate, ctlRun_of_ctlGo hgo]
  · intro s tag hgo
    refine ⟨?_, ?_⟩
    · intro hcase
      simp [execRejoin, rejoin, ctlRun_of_ctlGo hgo, hcase]
    · intro hrole hsizesDiffer hrejoin
      simp [execRejoin, rejoin, ctlRun_of_ctlGo hgo, hrole, hsizesDiffer, hrejoin]
  · intro s tag lane domain transport src hgo hcase
    rcases hcase with hcase | hcase | hcase | hcase <;> simp [execTimeConfig, timeConfig, ctlRun_of_ctlGo hgo, hcase]
  · intro s tag entry hgo
    refine ⟨?_, ?_⟩
    · intro hact
      simp [execAddressReturn, addressReturn, ctlRun_of_ctlGo hgo, hact]
    · intro hact hIff
      simp [execAddressReturn, addressReturn, ctlRun_of_ctlGo hgo, hact, hIff]
  · intro s tag tenant c1 c2 c3 nqn sn mn hgo
    refine ⟨?_, ?_⟩
    · intro hcase
      rcases hcase with hcase | hcase | hcase | hcase | hcase | hcase <;> simp [execTenantCreate, tenantCreate, ctlRun_of_ctlGo hgo, hcase]
    · intro htenant htenant2 hnqn hnqn2 hsn hmn hexists
      have hpos : tenant.toNat ≠ 0 := by bv_omega
      rw [exec_tenantCreate, execTenantCreate, ctlRun_of_ctlGo hgo, tenantCreate, if_neg, if_pos (by simpa using hexists)]
      · simp
      · simp [hpos, hnqn, hsn, hmn]
        omega
  · intro s tag tenant hgo
    refine ⟨?_, ?_⟩
    · intro htenant
      simp [execTenantDelete, tenantDelete, ctlRun_of_ctlGo hgo, htenant]
    · intro x htenant hbusy
      rw [exec_tenantDelete, execTenantDelete, ctlRun_of_ctlGo hgo, tenantDelete, htenant]
      dsimp only
      rw [if_pos (by simpa [Option.isSome_iff_ne_none] using hbusy)]
      simp
  · intro s tag tenant op cls nqn hgo
    refine ⟨?_, ?_⟩
    · intro htenant
      simp [execTenantHosts, tenantHosts, ctlRun_of_ctlGo hgo, htenant]
    · intro x htenant
      refine ⟨?_, ?_⟩
      · intro hfield
        rw [exec_tenantHosts, execTenantHosts, ctlRun_of_ctlGo hgo, tenantHosts, htenant]
        dsimp only
        by_cases hrange : nqn = [] ∨ 223 < nqn.length ∨ 3 < cls.toNat
        · rw [if_pos (by simpa [or_assoc] using hrange)]
          simp
        · have hop : op.toNat ≠ 1 ∧ op.toNat ≠ 2 := by
            have hother : op ≠ 1 ∧ op ≠ 2 := by tauto
            bv_omega
          rw [if_neg (by simpa [or_assoc] using hrange), if_neg hop.1, if_neg hop.2]
          simp
      · intro hnqn hnqn2 hcls
        have hfield : (nqn.isEmpty || decide (223 < nqn.length) || decide (3 < cls.toNat)) = false := by
          simp [hnqn]
          omega
        refine ⟨?_, ?_⟩
        · intro hhosts
          simp [execTenantHosts, tenantHosts, ctlRun_of_ctlGo hgo, htenant, hhosts, hfield]
        · intro hhosts
          simp [execTenantHosts, tenantHosts, ctlRun_of_ctlGo hgo, htenant, hhosts, hfield]
  · intro s tag tenant w0 w1 w2 w3 hgo
    refine ⟨?_, ?_⟩
    · intro htenant hnone
      have hpos : tenant.toNat ≠ 0 := by bv_omega
      simp [execTenantContract, tenantContract, ctlRun_of_ctlGo hgo, hnone, hpos]
    · intro htenant hsum
      have hknown : ¬ (tenant.toNat != 0 && (s.tenant? tenant.toNat).isNone) = true := by
        rcases htenant with htenant | htenant
        · simp [htenant]
        · simp [Option.isNone_eq_false_iff.mpr htenant]
      rw [exec_tenantContract, execTenantContract, ctlRun_of_ctlGo hgo, tenantContract, if_neg hknown, if_pos hsum]
      simp
  · intro s tag tenant dedup comp verify hgo
    refine ⟨?_, ?_⟩
    · intro hcase
      rcases hcase with hcase | hcase | hcase <;> simp [execTenantReduction, tenantReduction, ctlRun_of_ctlGo hgo, hcase]
    · intro hdedup hcomp hverify htenant hnone
      have hpos : tenant.toNat ≠ 0 := by bv_omega
      rw [exec_tenantReduction, execTenantReduction, ctlRun_of_ctlGo hgo, tenantReduction, if_neg, if_pos (by simp [hpos, hnone])]
      · simp
      · simp only [Bool.or_eq_true, decide_eq_true_eq]
        omega
  · intro s tag slot op id hgo
    refine ⟨?_, ?_⟩
    · intro hfield
      rw [exec_tenantPskMap, execTenantPskMap, ctlRun_of_ctlGo hgo, pskMap]
      by_cases hrange : slotType slot.toNat ≠ .psk ∨ id = [] ∨ 256 < id.length
      · rw [if_pos (by simpa [or_assoc] using hrange)]
        simp
      · have hop : op.toNat ≠ 1 ∧ op.toNat ≠ 2 := by
          have hother : op ≠ 1 ∧ op ≠ 2 := by tauto
          bv_omega
        rw [if_neg (by simpa [or_assoc] using hrange), if_neg hop.1, if_neg hop.2]
        simp
    · intro hslotType hid hid2
      have hfield : ¬ (slotType slot.toNat != .psk || id.isEmpty || decide (256 < id.length)) = true := by
        simp [hslotType, hid]
        omega
      refine ⟨?_, ?_⟩
      · intro hpsks
        rw [exec_tenantPskMap, execTenantPskMap, ctlRun_of_ctlGo hgo, pskMap]
        rw [if_neg hfield, if_pos (by decide), if_pos hpsks]
        simp
      · intro hpsks
        rw [exec_tenantPskMap, execTenantPskMap, ctlRun_of_ctlGo hgo, pskMap]
        rw [if_neg hfield, if_neg (by decide), if_pos (by decide), if_neg hpsks]
        simp

end Sys2Proof.Machine

/-! # Refusals about groups and volumes (O57) -/

namespace Sys2Proof.Machine

open State

/-- Settles O57: `ctlOwned_of_ctlHere` gives the status that the opcode's checks answer at the owner. -/
theorem controlGroupAndVolumeRefusals : Obligations.ControlGroupAndVolumeRefusals := by
  refine ⟨?_, ?_, ?_, ?_, ?_, ?_, ?_, ?_, ?_, ?_, ?_, ?_, ?_, ?_, ?_, ?_, ?_⟩
  · intro s tag group target hctlReady htGet
    simp [execRebalance, ctlOwned, hctlReady, htGet]
  · intro s tag group hctlReady htGet
    simp [execGroupDelete, ctlOwned, hctlReady, htGet]
  · intro s tag group o hgo howner hhere hother
    rw [exec_groupDelete, execGroupDelete, ctlOwned_of_unowned hgo howner hhere hother]
  · intro s tag group target
    refine ⟨?_, ?_⟩
    · intro hgo hnone
      rw [exec_rebalance, execRebalance, ctlOwned_of_absent hgo hnone, rebalance]
      refine ⟨?_, ?_⟩
      · intro htarget
        rw [if_pos htarget]
        simp
      · intro htarget
        rw [if_neg (Nat.not_lt.mpr htarget), if_pos (by simp [hnone])]
        simp
    · intro hhere
      refine ⟨?_, ?_, ?_⟩
      · intro htarget
        simp [execRebalance, rebalance, ctlOwned_of_ctlHere hhere, htarget]
      · intro htarget hstate
        rw [exec_rebalance, execRebalance, ctlOwned_of_ctlHere hhere, rebalance, if_neg (Nat.not_lt.mpr htarget),
          if_neg (by simp [hhere.2]), if_pos (by simpa [or_assoc] using hstate)]
        simp
      · intro htarget hpaired hbit hother hbusy
        rw [exec_rebalance, execRebalance, ctlOwned_of_ctlHere hhere, rebalance, if_neg (Nat.not_lt.mpr htarget),
          if_neg (by simp [hhere.2]), if_neg (by simp [hpaired, hbit, hother]), if_pos]
        · simp
        · rcases hbusy with hbusy | hbusy <;> simp [hbusy]
  · intro s tag group owner hgo
    refine ⟨?_, ?_, ?_⟩
    · intro howner
      simp [execGroupCreate, groupCreate, ctlRun_of_ctlGo hgo, howner]
    · intro howner hexists
      rw [exec_groupCreate, execGroupCreate, ctlRun_of_ctlGo hgo, groupCreate, if_neg (Nat.not_lt.mpr howner), if_pos hexists]
      simp
    · intro howner hnone hsolo hother
      rw [exec_groupCreate, execGroupCreate, ctlRun_of_ctlGo hgo, groupCreate, if_neg (Nat.not_lt.mpr howner),
        if_neg (by simp [hnone]),
        if_pos (by simp [hsolo, hother])]
      simp
  · intro s tag group
    refine ⟨?_, ?_⟩
    · intro hgo hnone
      rw [exec_groupDelete, execGroupDelete, ctlOwned_of_absent hgo hnone, groupDelete, if_pos (by simp [hnone])]
      simp
    · intro hhere hcase
      simp_all [execGroupDelete, groupDelete, ctlOwned_of_ctlHere hhere]
  · intro s tag volume tenant nsid group lbaf blocks nguid eui hhere
    refine ⟨?_, ?_⟩
    · intro hcase
      rcases hcase with hcase | hcase | hcase <;> simp [execVolumeCreate, volumeCreate, ctlOwned_of_ctlHere hhere, hcase]
    · intro hnsid hnsid2 hlbaf
      have hpos : nsid.toNat ≠ 0 := by bv_omega
      have hfield : ¬ (decide (nsid.toNat = 0) || decide (1024 < nsid.toNat) || decide (2 < lbaf.toNat)) = true := by
        simp only [Bool.or_eq_true, decide_eq_true_eq]
        omega
      rw [exec_volumeCreate, execVolumeCreate, ctlOwned_of_ctlHere hhere, volumeCreate, if_neg hfield, hhere.2]
      refine ⟨?_, ?_⟩
      · intro htenant
        simp [htenant]
      · intro x htenant
        rw [htenant]
        dsimp only
        refine ⟨?_, ?_⟩
        · intro hexists
          rw [if_pos (by simpa using hexists)]
          simp
        · intro hvol hnsidUsed
          rw [if_neg (by simp [hvol, hnsidUsed])]
          refine ⟨?_, ?_⟩
          · intro hlimit
            rw [if_pos (by simpa only [Bool.or_eq_true, decide_eq_true_eq] using hlimit)]
            simp
          · intro hcount hsize hstate
            rw [if_neg, if_pos (by simpa using hstate)]
            · simp
            · simp only [Bool.or_eq_true, decide_eq_true_eq]
              omega
  · intro s tag volume blocks pin op content hvol
    refine ⟨?_, ?_, ?_, ?_⟩
    · intro hgo
      simp [execVolumeResize, volGroup, volumeResize, hvol, ctlOwned_none_of_ctlGo hgo]
    · intro hgo
      simp [execVolumeDelete, volGroup, volumeDelete, hvol, ctlOwned_none_of_ctlGo hgo]
    · intro hgo
      simp [execVolumePin, volGroup, volumePin, hvol, ctlOwned_none_of_ctlGo hgo]
    · intro hgo
      simp [execDictControl, volGroup, dictControl, hvol, ctlOwned_none_of_ctlGo hgo]
  · intro s tag volume blocks x hhere hvol
    refine ⟨?_, ?_⟩
    · intro hformatting
      simp [execVolumeResize, volGroup, volumeResize, ctlOwned_of_ctlHere hhere, hvol, hformatting]
    · intro hformatting hhPow
      simp only [exec_volumeResize, execVolumeResize, volGroup, volumeResize, ctlOwned_of_ctlHere hhere, hvol, hformatting,
        hhPow, if_true, if_false, Bool.false_eq_true, Option.isSome_none, Option.map_some] <;> rfl
  · intro s tag volume x hhere hvol
    refine ⟨?_, ?_⟩
    · intro hcase
      rcases hcase with hcase | hcase | hcase <;> simp [execVolumeDelete, volGroup, volumeDelete, ctlOwned_of_ctlHere hhere, hvol, hcase]
    · intro hclonedFrom hrels hformatting hsnapOps
      simp only [exec_volumeDelete, execVolumeDelete, volGroup, volumeDelete, ctlOwned_of_ctlHere hhere, hvol, hclonedFrom,
        hrels, hformatting, hsnapOps, if_true, if_false, Bool.false_eq_true, Bool.or_self, Option.isSome_none,
        Option.map_some] <;> rfl
  · intro s tag volume pin x hhere hvol
    refine ⟨?_, ?_, ?_⟩
    · intro hpin
      simp [execVolumePin, volGroup, volumePin, ctlOwned_of_ctlHere hhere, hvol, hpin]
    · intro hlbaf
      simp [execVolumePin, volGroup, volumePin, ctlOwned_of_ctlHere hhere, hvol, hlbaf]
    · intro hlbaf hact
      simp only [exec_volumePin, execVolumePin, volGroup, volumePin, ctlOwned_of_ctlHere hhere, hvol, hlbaf, hact, if_false,
        decide_true, decide_false, Bool.and_true, Bool.and_false, Bool.false_eq_true, Option.map_some] <;> rfl
  · intro s tag hgo
    simp [execSnapshotCreate, ctlOwned_none_of_ctlGo hgo] <;> rfl
  · intro s tag volumes v x hhead hhere hvol
    have hgroup : volumes.head?.bind (fun v => s.volGroup v.toNat) = some x.group := by
      rw [hhead]
      exact volGroup_of_vol hvol
    refine ⟨?_, ?_⟩
    · intro hfield
      rw [exec_snapshotCreate, execSnapshotCreate, hgroup, ctlOwned_of_ctlHere hhere, snapshotCreate, if_pos]
      · simp
      · rcases hfield with hlength | hdup
        · simp [hlength]
        · have hdedup : (volumes.map (fun v => v.toNat)).dedup.length ≠ (volumes.map (fun v => v.toNat)).length :=
            fun h => hdup (List.dedup_eq_self.mp ((List.dedup_sublist _).eq_of_length h))
          rw [bne_iff_ne.mpr hdedup, Bool.or_true]
    · intro hlength hNodup
      have hfield : ¬ ((volumes.map (fun v => v.toNat)).isEmpty || decide (256 < (volumes.map (fun v => v.toNat)).length) ||
          (volumes.map (fun v => v.toNat)).dedup.length != (volumes.map (fun v => v.toNat)).length) = true := by
        have hsome : volumes ≠ [] := by
          rintro rfl
          simp at hhead
        rw [hNodup.dedup]
        simp [hsome, hlength]
      rw [exec_snapshotCreate, execSnapshotCreate, hgroup, ctlOwned_of_ctlHere hhere, snapshotCreate, if_neg hfield,
        List.any_map, Function.comp_def, List.any_map, Function.comp_def]
      refine ⟨?_, ?_⟩
      · intro hnone
        rw [if_pos hnone]
        simp
      · intro hfound
        rw [if_neg (ne_true_of_eq_false hfound)]
        refine ⟨?_, ?_⟩
        · intro hstate
          rw [if_pos hstate]
          simp
        · intro hstate hsnapBegin
          rw [if_neg (ne_true_of_eq_false hstate), hsnapBegin]
          simp
  · intro s tag snapshot volume nsid htGet
    refine ⟨?_, ?_⟩
    · intro hgo
      simp [execSnapshotDelete, snapGroup, snapshotDelete, htGet, ctlOwned_none_of_ctlGo hgo]
    · intro hgo
      simp [execCloneCreate, snapGroup, cloneCreate, htGet, ctlOwned_none_of_ctlGo hgo]
  · intro s tag snapshot x o hhere htGet hvol
    refine ⟨?_, ?_⟩
    · intro hhidden
      simp [execSnapshotDelete, snapGroup, snapshotDelete, volGroup, fin, snapDrop, ctlOwned_of_ctlHere hhere, htGet, hvol,
        hhidden]
    · intro hhidden hrels
      simp [execSnapshotDelete, snapGroup, snapshotDelete, volGroup, fin, snapDrop, ctlOwned_of_ctlHere hhere, htGet, hvol,
        hhidden, hrels]
  · intro s tag snapshot volume nsid x o hhere hsnap hvol
    refine ⟨?_, ?_⟩
    · intro hfield
      rw [exec_cloneCreate, execCloneCreate, ctlOwned_of_snapshot hhere hsnap hvol, cloneCreate, hsnap]
      dsimp only
      rw [hvol]
      dsimp only
      rw [if_pos]
      · simp
      · rcases hfield with hfield | hfield <;> simp [hfield]
    · intro hnsid hnsid2
      have hpos : nsid.toNat ≠ 0 := by bv_omega
      have hfield : ¬ (decide (nsid.toNat = 0) || decide (1024 < nsid.toNat)) = true := by
        simp only [Bool.or_eq_true, decide_eq_true_eq]
        omega
      rw [exec_cloneCreate, execCloneCreate, ctlOwned_of_snapshot hhere hsnap hvol, cloneCreate, hsnap]
      dsimp only
      rw [hvol]
      dsimp only
      rw [if_neg hfield]
      refine ⟨?_, ?_, ?_⟩
      · intro hhidden
        rw [if_pos hhidden]
        simp
      · intro hhidden hexists
        rw [if_neg (ne_true_of_eq_false hhidden), if_pos (by simpa using hexists)]
        simp
      · intro hhidden hnew hnsidUsed hcount
        rw [if_neg (ne_true_of_eq_false hhidden), if_neg (by simp [hnew, hnsidUsed]), if_pos hcount]
        simp
  · intro s tag volume op content x hhere hvol
    refine ⟨?_, ?_⟩
    · intro hop
      rw [exec_dictControl, execDictControl, ctlOwned_of_volume hhere hvol, dictControl, hvol]
      dsimp only
      rcases hop with rfl | hop
      · rfl
      · obtain ⟨k, hk⟩ : ∃ k, op.toNat = k + 6 := ⟨op.toNat - 6, by omega⟩
        rw [hk] <;> rfl
    · intro hdictForm
      simp [execDictControl, volGroup, dictControl, ctlOwned_of_ctlHere hhere, hvol, hdictForm]

end Sys2Proof.Machine

/-! # Refusals of replication, keys and management (O58) -/

namespace Sys2Proof.Machine

open State

namespace State

/-! ## The fields of a relationship (R380) -/

/-- The fields of REPL_CREATE are in range. -/
theorem replCreate_fields {s : State} {rid mode iv : Nat} {peer : BitVec 48} (hrid : rid ≠ 0) (hmode : mode ≠ 0) (hmode' : mode ≤ 2)
    (hpeer : peer ≠ 0) (hother : peer ≠ s.arrayId) (hiv : iv ≠ 0 → mode = 1 → 60 ≤ iv ∧ iv ≤ 86400) :
    ¬ (decide (rid = 0) || decide (mode = 0) || decide (2 < mode) || decide (peer = 0) || decide (peer = s.arrayId) ||
      (iv != 0 && decide (mode = 1) && (decide (iv < 60) || decide (86400 < iv)))) = true := by
  simp only [Bool.or_eq_true, Bool.and_eq_true, decide_eq_true_eq, bne_iff_ne]
  rintro (((((h | h) | h) | h) | h) | ⟨⟨hsrc, hone⟩, h⟩)
  · exact hrid h
  · exact hmode h
  · omega
  · exact hpeer h
  · exact hother h
  · have hrange := hiv hsrc hone
    omega

end State

/-- Settles O58: `ctlRun_of_ctlGo` gives the status that the opcode's checks answer. -/
theorem controlReplicationKeyAndManagementRefusals : Obligations.ControlReplicationKeyAndManagementRefusals := by
  refine ⟨?_, ?_, ?_, ?_, ?_, ?_, ?_, ?_, ?_, ?_, ?_⟩
  · intro s tag rel volume remote mode entry interval array ip x hhere hvol
    refine ⟨?_, ?_⟩
    · intro hfield
      rw [exec_replCreate, execReplCreate, ctlOwned_of_volume hhere hvol, replCreate, if_pos]
      · simp
      · rcases hfield with rfl | rfl | hmode | harray | harray | ⟨hsource, rfl, hrange⟩
        · simp
        · simp
        · simp [hmode]
        · simp [harray]
        · simp [harray]
        · have hsrc : interval.toNat ≠ 0 := by bv_omega
          simp [hsrc, hrange]
    · intro hrel hmode hmode2 harray harray2 hinterval
      have hfield := replCreate_fields (s := s) (rid := rel.toNat) (mode := mode.toNat) (iv := interval.toNat) (by bv_omega) (by bv_omega)
        hmode2 harray harray2 (fun hsrc hone => hinterval (by bv_omega) (by bv_omega))
      rw [exec_replCreate, execReplCreate, ctlOwned_of_volume hhere hvol, replCreate, if_neg hfield]
      refine ⟨?_, ?_⟩
      · intro hact
        rw [if_pos (by simp [hact])]
        simp
      · intro hact
        rw [if_neg (by simp [hvol, hact])]
        refine ⟨?_, ?_⟩
        · intro hexists
          rw [if_pos hexists]
          simp
        · intro hnone hroom
          rw [if_neg (by simp [hnone]), if_pos (by simp [hroom])]
          simp
  · intro s tag rel volume remote mode entry interval array ip x hhere hvol
    refine ⟨?_, ?_⟩
    · intro hrel
      simp [execReplModify, volGroup, replModify, ctlOwned_of_ctlHere hhere, hvol, hrel]
    · intro r hrel
      refine ⟨?_, ?_⟩
      · intro hinterval hmode hrange
        have hsrc : interval.toNat ≠ 0 := by bv_omega
        rw [exec_replModify, execReplModify, ctlOwned_of_volume hhere hvol, replModify]
        dsimp only
        rw [hrel]
        dsimp only
        rw [if_pos (by simpa [hsrc, hmode] using hrange)]
        simp
      · intro hinterval
        have hfield : ¬ (interval.toNat != 0 && decide (r.mode = 1) && (decide (interval.toNat < 60) || decide (86400 < interval.toNat))) = true := by
          simp only [Bool.or_eq_true, Bool.and_eq_true, decide_eq_true_eq, bne_iff_ne]
          rintro ⟨⟨hsrc, hone⟩, h⟩
          have hrange := hinterval (by bv_omega) hone
          omega
        rw [exec_replModify, execReplModify, ctlOwned_of_volume hhere hvol, replModify]
        dsimp only
        rw [hrel]
        dsimp only
        rw [if_neg hfield]
        refine ⟨?_, ?_⟩
        · intro hact
          rw [if_pos (by simp [hact])]
          simp
        · intro hact hstate
          rw [if_neg (by simp [hact]), if_pos]
          · simp
          · rcases hstate with h | h | h | h
            · simp [h]
            · simp [h]
            · simp [h]
            · rw [bne_iff_ne.mpr h, Bool.or_true]
  · intro s tag rel hgo hrelNamed
    simp [execReplDelete, relGroup, replDelete, ctlOwned_none_of_ctlGo hgo, hrelNamed]
  · intro s tag slot src blob hgo
    refine ⟨?_, ?_⟩
    · intro hslot
      simp [execKeyImport, ctlRun_of_ctlGo hgo, hslot]
    · intro hslot hop
      rw [exec_keyImport, execKeyImport, ctlRun_of_ctlGo hgo, if_neg (Nat.not_lt.mpr hslot), if_pos hop]
      simp
  · intro s tag slot peer addr hgo
    refine ⟨?_, ?_⟩
    · intro hcase
      simp [execKeyExport, keyExportTo, ctlRun_of_ctlGo hgo, hcase]
    · intro hpeer hslot
      have hfield : ¬ (decide (15 < peer.toNat) || decide (32767 < slot.toNat)) = true := by
        simp only [Bool.or_eq_true, decide_eq_true_eq]
        omega
      rw [exec_keyExport, execKeyExport, ctlRun_of_ctlGo hgo, keyExportTo, if_neg hfield]
      refine ⟨?_, ?_⟩
      · intro hop
        rw [if_pos hop]
        simp
      · intro hop hrefused
        rw [if_neg (by simp [hop])]
        generalize s.keyExport slot.toNat peer.toNat = answer at hrefused ⊢
        obtain ⟨result, blob⟩ := answer
        split
        · next heq => exact absurd (congrArg Prod.fst heq) hrefused
        · simp_all
  · intro s tag slot peer key
    refine ⟨?_, ?_, ?_⟩
    · intro hgo hop
      simp [execKeyZeroize, ctlRun_of_ctlGo hgo, hop]
    · intro hgo hcase
      simp [execPeerSet, ctlRun_of_ctlGo hgo, hcase]
    · intro hgo hpeer hkey hop
      rw [exec_peerSet, execPeerSet, ctlRun_of_ctlGo hgo, if_neg, if_pos hop]
      · simp
      · simp [hkey, hpeer]
  · intro s tag reg value hgo hcase
    simp [execMeasExtend, ctlRun_of_ctlGo hgo, hcase]
  · intro s tag confirm bad hgo hkept
    have hstays : ¬ s.tamperClears (confirm.setWidth 6) = true := by
      rw [tamperClears]
      rcases hkept with h | h | h
      · simp [h]
      · rw [beq_eq_false_iff_ne.mpr h, Bool.and_false, Bool.false_and]
        decide
      · rw [beq_eq_false_iff_ne.mpr h, Bool.and_false]
        decide
    rw [exec_tamperClear, execTamperClear, ctlRun_of_ctlGo hgo, if_neg hstays]
    simp
  · intro s tag image hgo
    refine ⟨?_, ?_⟩
    · intro hupdating
      simp [execUpdate, ctlRun_of_ctlGo hgo, hupdating]
    · intro hupdating hrunning
      simp [execUpdate, ctlRun_of_ctlGo hgo, hupdating, hrunning]
  · intro s tag hgo hstate
    rw [exec_rollbackCommit, execRollbackCommit, ctlRun_of_ctlGo hgo, rollbackCommit]
    cases hbooted : (if s.mgmt.bootedB then s.mgmt.slotB else s.mgmt.slotA) with
    | none => simp
    | some i =>
      dsimp only
      rw [if_pos]
      · simp
      · rcases hstate with h | h | h
        · simp [hbooted] at h
        · simp [h]
        · simp [h]
  · intro s tag period ringEn base bytes hgo hcase
    rcases hcase with hcase | hcase | hcase <;> simp [execCounterConfig, counterConfig, ctlRun_of_ctlGo hgo, hcase]

end Sys2Proof.Machine

/-! # Replication, keys and management on the control channel (O59) -/

namespace Sys2Proof.Machine

open State

/-- Settles O59: `ctlRun_of_ctlGo` runs the opcode's effect, which answers at once or later. -/
theorem controlReplicationKeyAndManagementCommandsComplete : Obligations.ControlReplicationKeyAndManagementCommandsComplete := by
  refine ⟨?_, ?_, ?_, ?_, ?_, ?_, ?_, ?_, ?_, ?_, ?_, ?_, ?_, ?_, ?_, ?_⟩
  · intro s t tag rel volume remote mode entry interval array ip x hhere hvol hrel hmode harray harray2 hact
    have hmodes : mode.toNat ≠ 0 ∧ mode.toNat ≤ 2 := by rcases hmode with rfl | rfl <;> decide
    have hplace : ¬ ((s.vol? volume.toNat).isNone || s.act (Reg.HEDDLE_ADDR_ATTR_VALID entry.toNat) != 1) = true := by simp [hvol, hact]
    refine ⟨?_, ?_⟩
    · intro hinterval hrange hnone hroom ht
      have hfield := replCreate_fields (s := s) (rid := rel.toNat) (mode := mode.toNat) (iv := interval.toNat) (by bv_omega) hmodes.1
        hmodes.2 harray harray2 (fun _ hone => hrange (by bv_omega))
      have hsrc : (interval.toNat != 0) = true := bne_iff_ne.mpr (by bv_omega)
      rw [exec_replCreate, execReplCreate, ctlOwned_of_volume hhere hvol, replCreate, if_neg hfield, if_neg hplace]
      rw [hsrc, relKey, if_pos rfl, if_neg (by simp [hnone]), if_neg (by simp [hroom])]
      dsimp only
      rw [if_pos rfl, ctlAnswered_fin_ok, ht, Bool.toNat_true]
    · intro hnone hroom
      have hfield := replCreate_fields (s := s) (rid := rel.toNat) (mode := mode.toNat) (iv := 0) (by bv_omega) hmodes.1
        hmodes.2 harray harray2 (fun hsrc => absurd rfl hsrc)
      rw [exec_replCreate, execReplCreate, ctlOwned_of_volume hhere hvol, replCreate,
        show BitVec.toNat (0 : BitVec 32) = 0 from rfl, if_neg hfield,
        if_neg hplace, bne_self_eq_false, if_neg (by simp [hnone]), if_neg (by simp [hroom])] <;> rfl
  · intro s tag rel volume remote mode entry interval array ip x r hhere hvol hinterval hrel hx hact hmode hvolume hpeer hsource
    have hfield : ¬ (interval.toNat != 0 && decide (r.mode = 1) && (decide (interval.toNat < 60) || decide (86400 < interval.toNat))) = true := by
      simp only [Bool.or_eq_true, Bool.and_eq_true, decide_eq_true_eq, bne_iff_ne]
      rintro ⟨⟨-, hone⟩, h⟩
      have hrange := hx hone
      omega
    have hsrc : (interval.toNat != 0) = true := bne_iff_ne.mpr hinterval
    have hsame : ¬ (r.mode != mode.toNat || r.volume != volume.toNat || r.peer != array || r.source != true) = true := by
      simp [hmode, hvolume, hpeer, hsource]
    rw [exec_replModify, execReplModify, ctlOwned_of_volume hhere hvol, replModify]
    dsimp only
    rw [hsrc] at hfield ⊢
    rw [relKey, if_pos rfl, hrel]
    dsimp only
    rw [if_neg hfield, if_neg (by simp [hact]), if_neg hsame]
    refine ⟨?_, ?_⟩
    · intro hentry hip
      have hmoved : ¬ (r.source && (r.entry != entry.toNat || r.ip != ip)) = true := by simp [hentry, hip]
      rw [if_neg hmoved, if_neg hmoved, ctlAnswered_fin_ok]
    · intro hother
      have hmoved : (r.source && (r.entry != entry.toNat || r.ip != ip)) = true := by
        rw [hsource]
        rcases hother with h | h <;> simp [h]
      rw [if_pos hmoved, if_pos hmoved, ctlAnswered_fin_ok]
  · intro s tag rel volume remote mode entry array ip x r hhere hvol hrel hact hmode hvolume hpeer hsource
    simp [execReplModify, volGroup, replModify, ctlOwned_of_ctlHere hhere, hvol, hrel, hact, hmode, hvolume, hpeer, hsource]
  · intro s tag rel k r x hhere hrelNamed hvol
    simp [execReplDelete, relGroup, replDelete, volGroup, fin, ctlOwned_of_ctlHere hhere, hrelNamed, hvol] <;> rfl
  · intro s tag slot src blob hgo hslot hop
    rw [exec_keyImport, execKeyImport, ctlRun_of_ctlGo hgo, if_neg (Nat.not_lt.mpr hslot), if_neg (by simp [hop]),
      ctlAnswered_later]
  · intro s tag slot peer addr hgo hpeer hslot hop hgood
    have hfield : ¬ (decide (15 < peer.toNat) || decide (32767 < slot.toNat)) = true := by
      simp only [Bool.or_eq_true, decide_eq_true_eq]
      omega
    rw [exec_keyExport, execKeyExport, ctlRun_of_ctlGo hgo, keyExportTo, if_neg hfield, if_neg (by simp [hop])]
    generalize s.keyExport slot.toNat peer.toNat = answer at hgood ⊢
    obtain ⟨result, blob⟩ := answer
    obtain rfl : result = 1 := hgood
    rfl
  · intro s tag slot hgo hop
    simp [execKeyZeroize, ctlRun_of_ctlGo hgo, hop]
  · intro s tag peer key hgo hpeer hkey hop
    rw [exec_peerSet, execPeerSet, ctlRun_of_ctlGo hgo, if_neg (by simp [hkey, hpeer]), if_neg (by simp [hop]),
      ctlAnswered_fin_ok]
  · rintro s tag request t hgo rfl
    simp [execSpdm, ctlRun_of_ctlGo hgo]
  · intro s tag reg value hgo hlow hhigh
    rw [exec_measExtend, execMeasExtend, ctlRun_of_ctlGo hgo, if_neg, ctlAnswered_fin_ok]
    simp only [Bool.or_eq_true, decide_eq_true_eq]
    omega
  · intro s tag target hgo
    refine ⟨?_, ?_⟩
    · intro hlifeRefusal
      simp [execLifeRequest, ctlRun_of_ctlGo hgo, hlifeRefusal]
    · intro e hlifeRefusal
      simp [execLifeRequest, ctlRun_of_ctlGo hgo, hlifeRefusal]
  · intro s tag confirm bad hgo hlatch halarms hsetWidth
    simp [execTamperClear, tamperClears, fin, ctlRun_of_ctlGo hgo, hlatch, halarms, hsetWidth] <;> rfl
  · intro s tag image hgo hupdating hrunning
    simp [execUpdate, ctlRun_of_ctlGo hgo, hupdating, hrunning]
  · rintro s t tag i hgo hite hdirTrial hrunning rfl
    simp [execRollbackCommit, rollbackCommit, ctlRun_of_ctlGo hgo, hite, hdirTrial, hrunning]
  · intro s tag period ringEn base bytes hgo hperiod hperiod2 hringEn
    have hpos : period.toNat ≠ 0 := by bv_omega
    rw [exec_counterConfig, execCounterConfig, ctlRun_of_ctlGo hgo, counterConfig, if_neg, ctlAnswered_fin_ok]
    simp only [Bool.or_eq_true, decide_eq_true_eq]
    omega
  · intro s rel haccepts
    simp [execReplRelRead, barWrite_of_accepts haccepts]

end Sys2Proof.Machine

/-! # The upstream port and the command rings (O60) -/

namespace Sys2Proof.Machine

open State

/-- Settles O60: each command of the upstream port changes its own registers, and a ring command its ring's indexes. -/
theorem upstreamAndControlRingCommandsComplete : Obligations.UpstreamAndControlRingCommandsComplete := by
  refine ⟨?_, ?_, ?_, ?_, ?_, ?_, ?_, ?_, ?_, ?_, ?_, ?_, ?_, ?_, ?_⟩
  · intro s hperstN
    simp [execPerstAssert, hperstN]
  · rintro s t rfl
    refine ⟨?_, ?_⟩
    · intro hcond hmainPwrOk
      simp_all [execPerstRelease, upepOn]
    · intro hcase
      simp [execPerstRelease, upepOn, hcase]
  · intro s reg data hperstN hcond hcfgReady
    refine ⟨?_, ?_⟩
    · simp [execConfigRequest, hperstN, hcond, hcfgReady]
    · simp [execConfigRequest, hperstN, hcond, hcfgReady]
  · intro s
    simp [execFunctionLevelReset]
  · intro s
    refine ⟨?_, ?_, ?_⟩
    · simp [execPowerStateChange]
    · simp [execPowerStateChange]
    · simp [execPowerStateChange]
  · intro s ring value hbarReachable hvalue
    refine ⟨?_, ?_⟩
    · simp [execSqTailDoorbell, hbarReachable, hvalue]
    · simp [execCqHeadDoorbell, hbarReachable, hvalue]
  · intro s value hbarReachable hvalue
    simp [execEvConsDoorbell, hbarReachable, hvalue]
  · rintro s ring opcode barrier cmdId token session t hbit hdmaAllowed hsqHead hcmds hfetchCheck rfl
    simp [execCommandFetch, hbit, hdmaAllowed, hsqHead, hcmds, hfetchCheck]
  · rintro s tag c st r0 r1 next t htGet hdone hbit hdmaAllowed rfl hnext rfl
    simp [execCommandCompletionPost, htGet, hdone, hbit, hdmaAllowed, hnext]
  · intro s haccepts
    simp [execAliveBeat, barWrite_of_accepts haccepts]
  · intro s
    refine ⟨?_, ?_⟩
    · simp [execAliveTimeout]
    · simp [execWakeRearm]
  · rintro s ring cplBase log2 t hring haccepts hbit rfl
    simp [execRingEnable, evDrain, barWrite_of_accepts haccepts, hbit]
    omega
  · intro s ring hring haccepts
    simp [execRingDisable, setFld, barWrite_of_accepts haccepts]
    omega
  · rintro s rate width t rfl
    simp [execUpstreamLinkTrained]
  · intro s tag c htGet hopcodeTable
    simp [execCtlUnknownOpcode, htGet, hopcodeTable]

end Sys2Proof.Machine
